-- ==== Sys2Proof/Word.lean ====
section
/-!
DEFINITION. The word type and its plainest arithmetic: little-endian byte extraction, two's complement readings
and saturation, shared by every unit.
-/

namespace Sys2Proof

/-- A 32-bit Bridle word. -/
abbrev Word := BitVec 32

/-- A byte. -/
abbrev Byte := BitVec 8

/-- The two's complement reading of the low `w` bits of `v`. -/
def sext (w v : Nat) : Int :=
  if v % 2 ^ w < 2 ^ (w - 1) then (v % 2 ^ w : Nat) else (v % 2 ^ w : Nat) - (2 ^ w : Nat)

/-- The `w`-bit two's complement code of an integer. -/
def ucode (w : Nat) (x : Int) : Nat := (x % (2 ^ w : Nat)).toNat

/-- `x` held between `lo` and `hi`. -/
def clamp (lo hi x : Int) : Int := if x < lo then lo else if hi < x then hi else x

/-- `x` held between `lo` and `hi`, on naturals. -/
def clampN (lo hi x : Nat) : Nat := if x < lo then lo else if hi < x then hi else x

/-- One step of at most `m` from `x` toward `t`. -/
def stepToward (m : Nat) (x t : Int) : Int :=
  if x < t then (if t - x ≤ m then t else x + m) else (if x - t ≤ m then t else x - m)

/-- Bit `k` of `v`. -/
def bit (v k : Nat) : Bool := v.testBit k

/-- `v` with bit `k` set to `b`. -/
def putBit (v k : Nat) (b : Bool) : Nat :=
  if bit v k = b then v else if b then v + 2 ^ k else v - 2 ^ k

/-- The bits `[lo + w - 1 : lo]` of `v`. -/
def bits (v lo w : Nat) : Nat := v / 2 ^ lo % 2 ^ w

end Sys2Proof
end

