-- ==== Sys2Proof/Syntax.lean ====
section
/-!
DEFINITION. The commands of the block. The opcode table lists them as rows without operands; an operand here is what
the sender names (a lane, an address, a value) or what the bit-level datapath and the outside world hand the block with
the event (a measured mean, a received byte, the bit error a memory read meets). R14 and R371 decide coincidences; the
queue of commands puts every two of them in an order.
-/

namespace Sys2Proof

/-- A line lane, LN0 to LN7; also its kite line KLn. -/
abbrev Lane := Fin 8
/-- A host lane, HL0 to HL15. -/
abbrev Host := Fin 16
/-- A port number, P0 to P7. -/
abbrev PortId := Fin 8
/-- A bias DAC channel, BDA0 to BDA23. -/
abbrev Chan := Fin 24

/-- The initiators of R358, in the order of their codes. -/
inductive Initiator where
  | gondola | spar | pcie | mgmt | tether | jtag | reel
deriving DecidableEq, Repr

/-- The code of an initiator (R358). -/
def Initiator.code : Initiator → Nat
  | .gondola => 0 | .spar => 1 | .pcie => 2 | .mgmt => 3 | .tether => 4 | .jtag => 5 | .reel => 6

/-- A transmit PLL of R23: TXPLLn or HTPLLj. -/
inductive Pll where
  | tx (n : Lane)
  | ht (j : Host)
deriving DecidableEq, Repr

/-- The direction of a KP4 monitor (R88): 0 on the stream received from the host, 1 on the stream toward it. -/
abbrev Dir := Fin 2

/-- One item of a TXC_REQ (Table 04-3): target kind, index within the kind, signed change. -/
structure TxcItem where
  kind : Fin 4
  index : Fin 64
  delta : BitVec 8
deriving DecidableEq, Repr

/-- A DAC calibration step (R150, R151): new gain and offset trims of one sub-DAC, or a refresh of pre-distortion
entries as (index, entry code). -/
inductive DacStep where
  | trim (j : Fin 4) (gain : BitVec 12) (offset : BitVec 8)
  | table (entries : List (Fin 64 × BitVec 10))
deriving DecidableEq, Repr


/-- A training request (R178): increment, decrement or hold of one of the six taps, a preset by its number, or
precoding. -/
inductive TrnReq where
  | inc (tap : Fin 6)
  | dec (tap : Fin 6)
  | hold (tap : Fin 6)
  | preset (k : Fin 8)
  | precode
deriving DecidableEq, Repr

/-- A lane with a PRBS generator and checker (R184). -/
inductive PrbsLane where
  | line (n : Lane)
  | host (j : Host)
deriving DecidableEq, Repr

/-- The register base of a PRBS block (R191). -/
def PrbsLane.base : PrbsLane → Nat
  | .line n => 0x100600 + 0x10000 * n.val
  | .host j => 0x180400 + 0x4000 * j.val

/-- The sums of one calibration window for one slice, and the refinement accumulators of a slice (R148): offset, gain
error, power, skew, bandwidth, its power, and the samples counted. -/
structure SliceAcc where
  off : Int := 0
  gn : Int := 0
  pw : Int := 0
  sk : Int := 0
  bw : Int := 0
  hp : Int := 0
  n : Nat := 0
deriving DecidableEq, Repr

/-- Two sets of sums are added. -/
def SliceAcc.add (a b : SliceAcc) : SliceAcc :=
  { off := a.off + b.off, gn := a.gn + b.gn, pw := a.pw + b.pw, sk := a.sk + b.sk, bw := a.bw + b.bw, hp := a.hp + b.hp,
    n := a.n + b.n }

/-- What a memory read of Spar meets (R262). -/
inductive SprEcc where
  | clean | corrected | uncorrectable
deriving DecidableEq, Repr

/-- An access through a data register: a read, a read that finds the word wrong by its code (R262) or its parity (R365), or a
write of a word. -/
inductive DataAcc where
  | read
  | bad (e : SprEcc)
  | write (v : Word)
deriving DecidableEq, Repr

/-- The access writes. -/
def DataAcc.isWrite : DataAcc → Bool
  | .write _ => true
  | _ => false

/-- What a read finds of the word. -/
def DataAcc.ecc : DataAcc → SprEcc
  | .bad e => e
  | _ => .clean

/-- A line lane of a rig's port definition (R26, R63, R64): its host lanes, its timing host lane and its pool blocks in slot
order, each with the KIND and START of its slot layout word. -/
structure RigLane where
  lane : Lane
  hostA : Host
  hostB : Host
  timingB : Bool
  blocks : List (Nat × Nat × Nat)
deriving DecidableEq, Repr, Inhabited

/-- A port of a rig's port definitions (R27, R31, R160): its latency class, 0 one-pass and 1 two-pass, its lanes, and
its PAIR_ID where it is paired. -/
structure RigPort where
  port : PortId
  latClass : Nat
  lanes : List RigLane
  pair : Option Nat
deriving DecidableEq, Repr, Inhabited

/-- The SAFETY values of a lane (Table 16-6). -/
structure RigSafetyLane where
  hi : Nat
  lo : Nat
  supHi : Nat
  supLo : Nat
  supIn : Nat
  gain : Int
  ofs : Int
  tol : Nat
deriving DecidableEq, Repr, Inhabited

/-- The SAFETY section: its lanes, SUP_TMO and PROOF_INT, and clear code, LO and HI of every bias channel. -/
structure RigSafety where
  lanes : List RigSafetyLane
  supTmo : Nat
  proofInt : Nat
  channels : List (Nat × Nat × Nat)
deriving DecidableEq, Repr, Inhabited

/-- The SPAR section (R278): program words from 0x1000 on, the entry word, data words as (SPR_MEM address, word), the
generators AG0 to AG3 and SCALE0 to SCALE3, and USER_BDA. -/
structure RigSpar where
  prog : List Nat
  entry : Nat
  data : List (Nat × Nat)
  ag : List (Nat × Nat × Nat × Nat)
  scale : List Nat
  userBda : Nat
deriving DecidableEq, Repr, Inhabited

/-- An entry of a rig image's section table (R348). -/
structure RigSection where
  type : Nat
  flags : Nat
  offset : Nat
  length : Nat
  ports : Nat
deriving DecidableEq, Repr

/-- What the signed image of a rig slot holds (R346 to R348, Table 16-6): SEQ and DIGEST of its header, and its parsed sections.
`nodes` are the configuration nodes of the structure map that are not 0, as (node, word); CALSEED gives (lane, point, record);
`apps` are the Applications of its port definitions, `moduleSerial` the module's serial number. -/
structure RigImage where
  seq : Nat
  digest : List Nat
  nodes : List (Nat × Nat)
  ports : List RigPort
  preload : List (Nat × Nat)
  spar : Option RigSpar
  calseed : List (Nat × Nat × List Nat)
  safety : RigSafety
  ballast : Option (Nat × List Nat)
  apps : List Nat
  moduleSerial : Nat
deriving DecidableEq, Repr

/-- The instructions of the JTAG port (R450). -/
inductive JtagInsn where
  | bypass | idcode | sample | extest | extestPulse | extestTrain | bridle | testData
deriving DecidableEq, Repr

/-- An alarm entry as an ALARM message carries it (R412, R437). -/
structure AlmMsg where
  stack : Nat
  id : Nat
  inst : Nat
  active : Bool
  unacked : Bool
  count : Nat
  code : Nat
deriving DecidableEq, Repr

/-- Two messages concern one entry. -/
def AlmMsg.sameKey (a b : AlmMsg) : Bool := a.id == b.id && a.inst == b.inst && a.stack == b.stack

/-- What a TOKEN message carries (R160). -/
inductive TokKind where
  | request | grant | giveBack
deriving DecidableEq, Repr

/-- A sleep entry (R322): a port's Nap, the fall from Run to Doze, or Shelf entry. -/
inductive SleepKind where
  | nap (k : PortId)
  | doze
  | shelf
deriving DecidableEq, Repr

/-- A channel of Reel. -/
abbrev ReelId := Fin 8

/-- What a burst's sources supply (R393, R398): the words that a FIX source has given by now, the bytes that host memory
answers and the first beat its error response falls on, and what the code of a memory word finds, as (address, finding). -/
structure ReelIn where
  words : Nat := 0
  host : List (BitVec 8) := []
  hostErr : Option Nat := none
  ecc : List (Nat × SprEcc) := []
deriving DecidableEq, Repr

/-- The commands the block takes: one constructor per row of the table, in its order. The table gives no row an
operand; each operand is what the sender or the bit-level datapath hands the block with that command. -/
inductive Instr where
  /-- REFERENCE_LOSS (R23). The traffic reference of a transmit PLL is lost and the PLL holds its frequency. -/
  | referenceLoss (p : Pll)
  /-- HOLDOVER_EXPIRY (R23). The 10 ms holdover ends without the reference returning, and the PLL moves to REFCLK at the slew limit. -/
  | holdoverExpiry (p : Pll)
  /-- GBX_SLIP (R24). A gearbox elastic buffer reaches its limit, so both buffers are recentred and SLIP and SLIP_CNT are updated. -/
  | gbxSlip (n : Lane)
  /-- AM_RECEIVED (R88). A KP4 monitor finds an alignment-marker group, or misses one, and updates its lock state. -/
  | amReceived (j : Host) (d : Dir) (skew : Nat)
  /-- KP4_CODEWORD (R88). A monitored RS codeword is decoded for counting only. -/
  | kp4Codeword (j : Host) (d : Dir) (xs : List (BitVec 6))
  /-- AGC_BLOCK (R36). A 4,096-beat block ends; the AGC compares the mean with TARGET and LOS is judged. -/
  | agcBlock (n : Lane) (us : Nat)
  /-- COMP_RELEASE_END (R37). The digital compensation of a gain step has returned to unity and COMP_ACTIVE clears. -/
  | compReleaseEnd (n : Lane)
  /-- OVR_WINDOW (R39). The saturated-sample count is judged in a 1 ms over-range window. -/
  | ovrWindow (n : Lane)
  /-- OVR_BACKOFF (R39). Once any previous release has completed, the gain steps down by two codes in AUTO and a new window starts. -/
  | ovrBackoff (n : Lane)
  /-- HOLDOFF_END (R39). The HOLDOFF time after a backoff expires, and AUTO may raise the gain again. -/
  | holdoffEnd (n : Lane) (us : Nat)
  /-- SAMPLE_SATURATION (R48). A saturated sample is clamped and marked, the counters increment and OVR is set. -/
  | sampleSaturation (n : Lane) (slice : Fin 65) (raw : BitVec 8)
  /-- GROSS_OVERLOAD (R51). The analog detector fires, setting OVR_GROSS, counting and starting DC-restore recovery. -/
  | grossOverload (n : Lane)
  /-- DCR_RECOVERY_END (R51). Recovery ends 4 µs after the last detection, DCR_BUSY clears and postponed handovers proceed. -/
  | dcrRecoveryEnd (n : Lane)
  /-- LN_RX_CNT_CLR (R52). LNn_RX_CMD.CNT_CLR clears the over-range, gross, backoff and slice counters. -/
  | lnRxCntClr (n : Lane)
  /-- AGC_RESTART (R55). AUTO regulation restarts from the present gain in LIGHT or ACQUIRE; otherwise the bit clears with no effect. -/
  | agcRestart (n : Lane)
  /-- KTAP_MEAN (R53). A 4,096-sample mean of the average-current tap is published in LNn_KTAP_AVG. -/
  | ktapMean (n : Lane) (codes : List (BitVec 12))
  /-- SLC_DATA_ACCESS (R56). An access through LNn_SLC_DATA reaches a slice-file or trim word and advances ADDR. -/
  | slcDataAccess (i : Initiator) (n : Lane) (acc : DataAcc)
  /-- SLOT_START (R143). A rotation slot begins, with SP set to the slice's position in SHADOW or connected to the reference. -/
  | slotStart (n : Lane) (us : Nat)
  /-- SPARE_HANDOVER (R44). After the 256-beat shadow, SP serves the position and the home slice goes to REFERENCE. -/
  | spareHandover (n : Lane)
  /-- REFERENCE_MEASURE_DONE (R145). The reference measurement of a slot ends; the results are checked and written, and the return starts. -/
  | referenceMeasureDone (n : Lane) (gain : Int) (off : Int) (skew : Int) (bw : Int)
  /-- SLICE_RETURN (R44). After its 256-beat shadow, the slice serves again, SP goes IDLE and the slot ends. -/
  | sliceReturn (n : Lane)
  /-- INSERVICE_SLOT_END (R147). An in-service slot of 2^20 beats ends and its decision-directed estimate is checked. -/
  | inserviceSlotEnd (n : Lane)
  /-- CAL_WINDOW_END (R135). A calibration window ends and is qualified or counted in DISQ_CNT. -/
  | calWindowEnd (n : Lane)
  /-- REFINE_RESULT (R148). A slice's refinement count reaches 2^REFINE_LOG2, so its changes are applied and its accumulators cleared. -/
  | refineResult (n : Lane) (slice : Fin 65)
  /-- DAC_ESTIMATE_DONE (R150). A sub-DAC gain and offset estimate over 2^20 codes completes and may request a DAC step. -/
  | dacEstimateDone (n : Lane) (j : Fin 4) (gain : Int) (off : Int)
  /-- FOREGROUND_CAL_DONE (R140). Foreground calibration of a lane completes, with the plausibility checks and the set capture. -/
  | foregroundCalDone (n : Lane) (slices : List (Fin 65 × List Int)) (trims : List (Fin 4 × Int × Int)) (skews : List (Fin 4 × Int))
  /-- SEEDED_START_DONE (R142). The seeded-start verification ends and the start is accepted or falls back to foreground calibration. -/
  | seededStartDone (n : Lane) (meas : List (Fin 65 × Int × Int))
  /-- REFRESH_START (R154). A pending refresh starts at the end of the slot in progress, with the skew-ladder reset. -/
  | refreshStart (n : Lane)
  /-- REFRESH_COMPLETE (R154). A refresh completes, T_LAST is updated, REFRESH_CNT increments and paced rotation resumes. -/
  | refreshComplete (n : Lane)
  /-- CAL_REFRESH (R155). CALn_CMD.REFRESH schedules a refresh, merged with any that is pending. -/
  | calRefresh (n : Lane)
  /-- CAL_CNT_CLR (R166). CALn_CMD.CNT_CLR clears the CAL counters of the lane. -/
  | calCntClr (n : Lane)
  /-- TOKEN_REQUEST (R160). A lane of a paired port asks the arbiter for the calibration token before a governed operation. -/
  | tokenRequest (k : PortId)
  /-- TOKEN_GRANT (R160). The arbiter grants the token to a waiting port, alternating between the two ports of the pair. -/
  | tokenGrant (k : PortId)
  /-- TOKEN_RETURN (R160). The holding port returns the grant after its operations. -/
  | tokenReturn (k : PortId)
  /-- TOKEN_EXPIRY (R161). A grant not returned within 400 µs is reclaimed, EXPIRE_CNT increments and the slot is abandoned. -/
  | tokenExpiry (k : PortId) (member : Option (Fin 64))
  /-- GUARD_WINDOW (R78). A 4,096-beat window of failed codewords ends and is judged against GUARD_FAIL. -/
  | guardWindow (n : Lane)
  /-- BOOST_OPEN (R79). A boost window opens one superframe before an announced DAC step, and BOOST_CNT increments. -/
  | boostOpen (n : Lane)
  /-- BOOST_CLOSE (R79). A boost window closes after BOOST_WIN superframes. -/
  | boostClose (n : Lane)
  /-- LOC_FREEZE_END (R105). The duration of a far-end freeze expires and the LOC freeze source clears. -/
  | locFreezeEnd (n : Lane) (us : Nat)
  /-- EQC_DATA_ACCESS (R86). An access through LNn_EQC_DATA reaches a coefficient word, which takes effect under R80. -/
  | eqcDataAccess (i : Initiator) (n : Lane) (acc : DataAcc)
  /-- MODE_CHANGE (R81). A change of effective equaliser mode starts at an inner-frame boundary of the received grid. -/
  | modeChange (n : Lane)
  /-- PRESHED_RAMP_END (R81). A ramp or selector change completes, and the trellis, bypass or pass output switches at the next boundary. -/
  | preshedRampEnd (n : Lane)
  /-- SHED_CHECK (R82). The lane compares its last 1 ms BER with the margin before it sheds a mode rung. -/
  | shedCheck (n : Lane)
  /-- INNER_CODEWORD (R93). An inner codeword is Chase-decoded and handed to CAL with its DECODED flag. -/
  | innerCodeword (n : Lane) (i : Fin 85) (raw : List (BitVec 8))
  /-- DEC_WINDOW_END (R96). A 1 ms pre-inner window completes, its counts move to the LAST registers and STATS is queued. -/
  | decWindowEnd (n : Lane)
  /-- FRAME_RECEIVED (R99). An inner frame is received and judged for frame hunt or lock. -/
  | frameReceived (n : Lane)
  /-- SUPERFRAME_RECEIVED (R101). A LOC superframe ends; its marker and CRC are judged and its header is acted on. -/
  | superframeReceived (n : Lane)
  /-- LOC_HELLO (R195). A received HELLO is acknowledged, answered with HELLO_ACK and judged for match and completion. -/
  | locHello (n : Lane) (tag : Byte) (lanes : Byte) (idx : Byte) (caps : Byte)
  /-- LOC_HELLO_ACK (R195). A received HELLO_ACK is judged for the handshake and for a mismatch. -/
  | locHelloAck (n : Lane) (tag : Byte) (lanes : Byte) (idx : Byte) (caps : Byte)
  /-- LOC_TXC_REQ (R125). A received transmit correction request is checked item by item and answered. -/
  | locTxcReq (n : Lane) (tag : Byte) (items : List TxcItem)
  /-- LOC_TXC_DONE (R124). A received TXC_DONE ends the lane's outstanding request. -/
  | locTxcDone (n : Lane) (tag : Byte) (reqTag : Byte) (result : Byte) (applied : Byte)
  /-- LOC_DACCAL_ANN (R104). A received DAC-step announcement schedules the boost window. -/
  | locDaccalAnn (n : Lane) (tag : Byte) (countdown : Byte) (stepId : Byte)
  /-- LOC_FREEZE_REQ (R105). A received freeze request sets, replaces or cancels the LOC freeze of adaptation. -/
  | locFreezeReq (n : Lane) (tag : Byte) (duration : BitVec 16)
  /-- LOC_STATS (R103). Remote statistics are received. -/
  | locStats (n : Lane) (tag : Byte) (body : List Nat)
  /-- LOC_USER (R103). A USER message is stored in USER_RX, setting USER_RX or USER_OVW. -/
  | locUser (n : Lane) (tag : Byte) (body : List Nat)
  /-- LOC_RESERVED_TYPE (R102). A slot of reserved type is skipped and counted in LOC_BAD_TYPE. -/
  | locReservedType (n : Lane) (type : Byte) (tag : Byte)
  /-- LOC_RETX (R102). A tagged message unacknowledged for RETX_INT superframes is sent again or dropped. -/
  | locRetx (n : Lane) (tag : Byte)
  /-- SUPERFRAME_SEND (R103). A transmitted superframe is assembled, with its header, acknowledgements and up to four messages by priority. -/
  | superframeSend (n : Lane)
  /-- USER_SEND (R103). USER_SEND queues USER_TX as a LOC message, or is refused when the queue is full. -/
  | userSend (n : Lane)
  /-- SNAP (R107). LST_CTRL.SNAP triggers a copy of every live counter into the holding registers. -/
  | snap
  /-- SNAP_DONE (R107). Every holding register is readable, so SNAP_BUSY and SNAP clear. -/
  | snapDone
  /-- SWAP (R117). LNn_TX_CMD.SWAP asks for the shadow banks to be moved into use. -/
  | swap (n : Lane)
  /-- SWAP_APPLY (R117). The shadow banks replace the active banks at an inner-frame boundary of the transmitted grid. -/
  | swapApply (n : Lane)
  /-- SWAP_SLEW_STEP (R117). A slew step falls every 64 transmitted superframes and moves the active values toward the shadow. -/
  | swapSlewStep (n : Lane)
  /-- SHADOW_LOAD (R116). The active banks are copied into the shadow banks and SHADOW_DIRTY clears. -/
  | shadowLoad (n : Lane)
  /-- LN_TX_CNT_CLR (R129). LNn_TX_CMD.CNT_CLR clears the TXC counters and CLIP_CNT. -/
  | lnTxCntClr (n : Lane)
  /-- TXT_DATA_ACCESS (R133). An access through LNn_TXT_DATA reaches a coefficient-bank word, busy while SWAP_PEND = 1. -/
  | txtDataAccess (i : Initiator) (n : Lane) (acc : DataAcc)
  /-- SWING_STEP (R120). SWING_EFF moves one code toward SWING at a transmitted superframe. -/
  | swingStep (n : Lane)
  /-- AMP_RAMP_COMPLETE (R121). amp reaches 4,096 or 0, AMP_STATE becomes ON or OFF, and a waiting Nap entry may proceed. -/
  | ampRampComplete (n : Lane) (beats : Nat)
  /-- TXC_REQ_SEND (R124). Resident firmware sends a TXC_REQ from the receiver's estimates to a capable partner. -/
  | txcReqSend (n : Lane) (items : List TxcItem)
  /-- TXC_APPLY (R125). The changes of an accepted request are applied to both banks at an inner-frame boundary. -/
  | txcApply (n : Lane)
  /-- DACCAL_REQUEST (R130). CAL requests a DAC calibration step, and its announcement starts. -/
  | daccalRequest (n : Lane) (step : DacStep)
  /-- DACCAL_EXECUTE (R130). An announced DAC step is executed at the first boundary after the COUNTDOWN 1 superframe. -/
  | daccalExecute (n : Lane)
  /-- SD_ASSERT (R172). The host input stays above the SD threshold for 1 µs, so SD_NOW rises. -/
  | sdAssert (j : Host) (mv : BitVec 16)
  /-- SD_DEASSERT (R172). The host input stays below three quarters of the threshold for 2 µs, so SD_NOW falls. -/
  | sdDeassert (j : Host) (mv : BitVec 16)
  /-- CDR_LOCK (R172). The host CDR locks. -/
  | cdrLock (j : Host)
  /-- CDR_LOSS (R172). CDR lock is lost with SD_NOW = 1, so CDR_LOSS is set and counted. -/
  | cdrLoss (j : Host)
  /-- RXC_DATA_ACCESS (R190). An access through HLn_RXC_DATA reaches a receive coefficient word. -/
  | rxcDataAccess (i : Initiator) (j : Host) (acc : DataAcc)
  /-- PRESET_WRITE (R175). The second word of a preset is written and checked; an invalid preset is discarded with PRESET_REJ. -/
  | presetWrite (j : Host) (k : Fin 5) (w : Word)
  /-- TX_MAN_WRITE (R176). The second word of HLn_TX_MAN is written, checked and slewed or applied. -/
  | txManWrite (j : Host) (w : Word)
  /-- TX_COEF_SLEW_STEP (R176). Every 1,024 host beats the active coefficients or AMP step one code toward the target. -/
  | txCoefSlewStep (j : Host) (amp : Bool)
  /-- TX_SOURCE_CHANGE (R177). The host transmitter changes between the deframer stream and the fill pattern at a host beat boundary. -/
  | txSourceChange (j : Host)
  /-- TRAINING_FRAME_RECEIVED (R178). A valid training frame is received, counting as an answer and moving FALLBACK to TRAINING. -/
  | trainingFrameReceived (j : Host) (ready : Bool) (confirm : Bool) (xs : List (BitVec 6))
  /-- TRAINING_REQUEST (R179). A partner's increment, decrement, preset or precoding request is answered. -/
  | trainingRequest (j : Host) (req : TrnReq)
  /-- NO_PARTNER_TMO (R179). No answer arrives within NO_PARTNER_TMO, so the lane enters FALLBACK with TRAIN_NO_PARTNER. -/
  | noPartnerTmo (j : Host) (us : Nat)
  /-- READY_HOLD_END (R179). Both sides have held ready for 100 µs, so the lane enters DATA with TRAIN_DONE. -/
  | readyHoldEnd (j : Host) (ctle : Fin 16)
  /-- TRAIN_MAX_EXPIRY (R179). Training is incomplete TRAIN_MAX after the first answer, so the lane sets TRAIN_FAIL and returns to WAIT_SD. -/
  | trainMaxExpiry (j : Host) (us : Nat)
  /-- RESTART_HOLDOFF_END (R179). The 10 ms restart hold-off ends and the lane enters TRAINING if SD_NOW = 1. -/
  | restartHoldoffEnd (j : Host)
  /-- OFFER_START (R180). In FALLBACK an offer of training frames starts every OFFER_INT. -/
  | offerStart (j : Host) (us : Nat)
  /-- OFFER_END (R180). An offer ends after OFFER_WIN. -/
  | offerEnd (j : Host) (us : Nat)
  /-- RETRAIN (R179). HLn_CMD.RETRAIN restarts training at WAIT_SD, or enters static DATA. -/
  | retrain (j : Host)
  /-- HL_CNT_CLR (R189). HLn_CMD.CNT_CLR clears the host-lane counters. -/
  | hlCntClr (j : Host)
  /-- GEN_EN (R186). A PRBS generator enable is accepted or refused with GEN_REFUSED. -/
  | genEn (l : PrbsLane)
  /-- CHK_LOCK (R187). The checker sees 1,024 clean bits and sets CHK_LOCK. -/
  | chkLock (l : PrbsLane) (bs : List Bool)
  /-- CHK_LOCK_LOSS (R187). A 1,024-bit block with 64 or more mismatches clears CHK_LOCK and reseeds the checker. -/
  | chkLockLoss (l : PrbsLane) (bs : List Bool)
  /-- PRBS_LATCH (R188). LATCH copies the live PRBS counters into the holding registers. -/
  | prbsLatch (l : PrbsLane) (bs : List Bool)
  /-- PRBS_CLR (R188). CLR clears the live PRBS counters and SAT. -/
  | prbsClr (l : PrbsLane)
  /-- PRBS_INJECT (R188). INJECT inverts the next generated bit. -/
  | prbsInject (l : PrbsLane)
  /-- UP_SET (R193). A write of UP = 1 asks the port to leave DOWN, starting calibration on its lanes if no hold condition holds. -/
  | upSet (k : PortId)
  /-- UP_CLEAR (R193). A write of UP = 0 takes the port to DOWN with DOWN_CAUSE 0x1. -/
  | upClear (k : PortId)
  /-- AUTO_RESTART (R193). The last hold condition clears with UP = 1, so the port restarts its exit from DOWN. -/
  | autoRestart (k : PortId)
  /-- ACQ_TMO (R194). A lane lacks frame or superframe lock ACQ_TMO after entry, so ACQUIRE is reseeded and ACQ_FAIL set. -/
  | acqTmo (k : PortId) (us : Nat)
  /-- TRAIN_TMO (R194). R196 is not met TRAIN_TMO after entry, so the port returns to ACQUIRE with OTRAIN_TMO. -/
  | trainTmo (k : PortId) (us : Nat)
  /-- TRAFFIC_ENTRY (R194). With the handshake complete on every lane, the port enters TRAFFIC at the next inner-frame boundary. -/
  | trafficEntry (k : PortId)
  /-- PARTNER_TMO (R194). PARTNER_TMO expires in LOCKED, so HELLO is retried or the port goes to ONE_WAY. -/
  | partnerTmo (k : PortId) (us : Nat)
  /-- LOS_HOLD_EXPIRY (R197). The hold-off expires and the port enters LIGHT. -/
  | losHoldExpiry (k : PortId) (us : Nat)
  /-- NAP_REQUEST (R200). PORTk_CTRL.NAP = 1 requests Nap and starts the entry with quiescence. -/
  | napRequest (k : PortId)
  /-- NAP_COMMIT (R200). Once amp = 0, the snapshot is held, T_NAP and PRE_NAP are recorded and the fast clocks stop. -/
  | napCommit (k : PortId)
  /-- WAKE_REQUEST (R201). A write of NAP = 0 wakes the port by a fast or a slow wake. -/
  | wakeRequest (k : PortId)
  /-- WAKE_QUALIFIED (R201). 64 clean superframes on every lane return the port to PRE_NAP. -/
  | wakeQualified (k : PortId) (us : Nat)
  /-- WAKE_TMO (R201). Qualification is not reached in WAKE_TMO, so the port enters LIGHT with WAKE_SLOW. -/
  | wakeTmo (k : PortId) (us : Nat) (run : Nat)
  /-- STAGED_APPLY (R204). The staged part of a rig is applied once every port it touches is DOWN, and hold bit 10 clears. -/
  | stagedApply
  /-- PORT_CNT_CLR (R205). PORTk_CMD.CNT_CLR clears PORTk_CNT. -/
  | portCntClr (k : PortId)
  /-- KITE_TX_START (R210). A kite transmission starts on the DAC or injection path once one is available. -/
  | kiteTxStart (n : Lane)
  /-- KITE_TX_END (R207). A kite transmission ends with its tail and TX_CNT increments. -/
  | kiteTxEnd (n : Lane)
  /-- KITE_PREAMBLE_DETECT (R215). Correlator A detects a preamble, locks and records its strength. -/
  | kitePreambleDetect (n : Lane) (syms : List (List Int))
  /-- KITE_CAPTURE (R216). Correlator B detects a preamble at least 6 dB stronger, and the receiver switches to it. -/
  | kiteCapture (n : Lane) (syms : List (List Int))
  /-- KITE_SFD (R215). The SFD is found. -/
  | kiteSfd (n : Lane) (syms : List (List Int))
  /-- KITE_HEADER (R213). The packet header is received and checked by its CRC-8, VER and LEN. -/
  | kiteHeader (n : Lane) (hdr : Word) (window : List (List Int))
  /-- KITE_FALSE_PREAMBLE (R215). The SFD does not end within 40 symbols, so reception ends and FALSE_PRE_CNT increments. -/
  | kiteFalsePreamble (n : Lane) (det : Nat) (syms : List (List Int))
  /-- KITE_CRC_FAIL (R215). The payload CRC fails, the packet is discarded and RX_CRC_CNT increments. -/
  | kiteCrcFail (n : Lane)
  /-- KITE_PROBE (R221). A PROBE packet is delivered and updates PARTNER_SEEN and PARTNER_INFO. -/
  | kiteProbe (n : Lane) (payload : List Nat)
  /-- KITE_SERIAL_REQ (R222). A SERIAL_REQ is answered with SERIAL when AUTO_ANS = 1. -/
  | kiteSerialReq (n : Lane)
  /-- KITE_SERIAL (R221). A SERIAL packet updates PARTNER_SN and may set PARTNER_NEW. -/
  | kiteSerial (n : Lane) (payload : List Nat)
  /-- KITE_STATS_REQ (R222). A STATS_REQ is answered with STATS when AUTO_ANS = 1. -/
  | kiteStatsReq (n : Lane)
  /-- KITE_STATS (R213). A STATS packet is delivered to resident firmware. -/
  | kiteStats (n : Lane) (payload : List Nat)
  /-- KITE_NAP_REQ (R222). A NAP_REQ is answered with REQ_ACK and, if accepted, acts as NAP = 1. -/
  | kiteNapReq (n : Lane) (payload : List Nat)
  /-- KITE_WAKE_REQ (R222). A WAKE_REQ is answered with REQ_ACK and, if accepted, acts as NAP = 0. -/
  | kiteWakeReq (n : Lane) (payload : List Nat)
  /-- KITE_REQ_ACK (R222). A REQ_ACK answers an outstanding request and stops its repeats. -/
  | kiteReqAck (n : Lane) (payload : List Nat)
  /-- KITE_USER (R225). A USER packet is placed in RX_BUF, or discarded with RX_OVF. -/
  | kiteUser (n : Lane) (payload : List Nat)
  /-- KITE_RESERVED_TYPE (R213). A reserved type or wrong LEN is discarded after the CRC, and BAD_TYPE is set. -/
  | kiteReservedType (n : Lane)
  /-- WAKE_SEEN (R217). An awake receiver detects the wake preamble and sets WAKE_SEEN. -/
  | wakeSeen (n : Lane) (syms : List (List Int))
  /-- KITE_WAKE_DETECT (R219). A Shelf listener detects WAKE_REPS repetitions, sets WAKE_DET and raises the KITE wake source. -/
  | kiteWakeDetect (n : Lane) (reps : Nat)
  /-- PROBE_SEND (R221). Resident firmware sends a PROBE every PROBE_INT in the permitted port states. -/
  | probeSend (n : Lane) (us : Nat)
  /-- PARTNER_SEEN_EXPIRY (R221). 3 × PROBE_INT pass without a good packet and PARTNER_SEEN clears. -/
  | partnerSeenExpiry (n : Lane) (us : Nat)
  /-- KITE_REQ_REPEAT (R222). An unanswered firmware request is repeated after PROBE_INT, up to 3 times. -/
  | kiteReqRepeat (n : Lane) (type : Fin 16) (us : Nat)
  /-- KL_SEND (R225). KLn_CMD.SEND sends the USER packet in TX_BUF. -/
  | klSend (n : Lane)
  /-- WAKE_SEND (R218). KLn_CMD.WAKE_SEND sends the 64-repetition wake pattern. -/
  | wakeSend (n : Lane)
  /-- RX_RELEASE (R225). RX_RELEASE clears RX_FULL. -/
  | rxRelease (n : Lane)
  /-- KL_CNT_CLR (R226). KLn_CMD.CNT_CLR clears the kite counters. -/
  | klCntClr (n : Lane)
  /-- QDATA_WRITE (R229). A write to BDA_CHc_QDATA queues a code, or discards it with QOVF or CLR_DROP. -/
  | qdataWrite (c : Chan) (code : BitVec 16)
  /-- BDA_SAMPLE_TICK (R229). At each 96 kS/s tick, unpaused channels apply their head code, clip it to the limits and judge underrun. -/
  | bdaSampleTick
  /-- DEGLITCH_END (R231). The 3 µs track-and-hold ends and the new code reaches the output. -/
  | deglitchEnd (c : Chan)
  /-- RANGE_CHANGE (R235). A RANGE write forces a clear at the next tick and switches the range for 8 tick periods. -/
  | rangeChange (c : Chan) (v : Fin 2)
  /-- BDA_FLUSH (R239). FLUSH empties the channel's queue while the output holds. -/
  | bdaFlush (c : Chan) (write : Option (BitVec 16))
  /-- BDA_CNT_CLR (R239). BDA_CHc_CMD.CNT_CLR clears UNDERRUN_CNT and QOVF_CNT. -/
  | bdaCntClr (c : Chan)
  /-- SND_START (R246). START arms SINGLE mode or begins CONTINUOUS runs, or is refused with ENTRY_LONG. -/
  | sndStart
  /-- SND_STOP (R246). STOP ends the run after the conversion in progress and clears a pending trigger. -/
  | sndStop (trig : Bool)
  /-- SND_TRIG (R246). SND_CMD.TRIG triggers a run, or is held pending or dropped. -/
  | sndTrig
  /-- SND_FIFO_CLR (R258). FIFO_CLR empties the Sonde FIFO. -/
  | sndFifoClr
  /-- SND_CNT_CLR (R258). SND_CMD.CNT_CLR clears SND_CNT. -/
  | sndCntClr
  /-- SND_TIMER_TRIGGER (R246). SND_TIMER's period elapses and triggers a run. -/
  | sndTimerTrigger (us : Nat)
  /-- CONVERSION_START (R245). A user entry or system slot starts with switch, flush, settle and prefill. -/
  | conversionStart (us : Nat) (prefill : Bool)
  /-- SND_RESULT (R248). A result is delivered, after the DC block, to SND_RESULTj and the FIFO. -/
  | sndResult (vin : List Int)
  /-- CONVERSION_END (R245). A conversion ends and the next entry, system slot or run end follows. -/
  | conversionEnd
  /-- SYSTEM_SLOT_REQUEST (R254). The thermal unit or the supervision loop requests a system slot, which runs after the conversion in progress. -/
  | systemSlotRequest (input : BitVec 7) (gain : Fin 6) (osr : Fin 7) (settle : BitVec 10) (count : BitVec 8) (exc : BitVec 8)
  /-- MODULATOR_OVERLOAD (R251). A modulator integrator clips, and after 16 samples the integrators reset. -/
  | modulatorOverload (before : Nat)
  /-- REF_RDY (R253). REF_RDY sets 5.0 ms after the reference buffer is enabled. -/
  | refRdy (us : Nat)
  /-- SUP_ACTIVE_RISE (R255). SUP_ACTIVE rises and abandons a user conversion longer than 400 µs. -/
  | supActiveRise
  /-- SND_FIFO_READ (R248). An aligned read of SND_FIFO pops the head word. -/
  | sndFifoRead (i : Initiator)
  /-- SND_ENT_WRITE (R250). A write of SND_ENTj takes effect at the entry's next start and clears E when INPUT is written. -/
  | sndEntWrite (j : Fin 16) (w : Fin 2) (v : Word)
  /-- NOP (R267). Spar instruction NOP. -/
  | sprNop (e : SprEcc)
  /-- ADD (R260). Spar ADD with flags and V on overflow. -/
  | sprAdd (gd : Fin 16) (ga : Fin 16) (gb : Fin 16) (e : SprEcc)
  /-- SUB (R260). Spar SUB with flags. -/
  | sprSub (gd : Fin 16) (ga : Fin 16) (gb : Fin 16) (e : SprEcc)
  /-- AND (R267). Spar AND. -/
  | sprAnd (gd : Fin 16) (ga : Fin 16) (gb : Fin 16) (e : SprEcc)
  /-- OR (R267). Spar OR. -/
  | sprOr (gd : Fin 16) (ga : Fin 16) (gb : Fin 16) (e : SprEcc)
  /-- XOR (R267). Spar XOR. -/
  | sprXor (gd : Fin 16) (ga : Fin 16) (gb : Fin 16) (e : SprEcc)
  /-- SHL (R267). Spar logical shift left by gb[4:0]. -/
  | sprShl (gd : Fin 16) (ga : Fin 16) (gb : Fin 16) (e : SprEcc)
  /-- SHR (R267). Spar logical shift right by gb[4:0]. -/
  | sprShr (gd : Fin 16) (ga : Fin 16) (gb : Fin 16) (e : SprEcc)
  /-- SAR (R267). Spar arithmetic shift right by gb[4:0]. -/
  | sprSar (gd : Fin 16) (ga : Fin 16) (gb : Fin 16) (e : SprEcc)
  /-- MUL (R267). Spar MUL: low 32 bits of the signed product. -/
  | sprMul (gd : Fin 16) (ga : Fin 16) (gb : Fin 16) (e : SprEcc)
  /-- ADDS (R260). Spar saturating add. -/
  | sprAdds (gd : Fin 16) (ga : Fin 16) (gb : Fin 16) (e : SprEcc)
  /-- SUBS (R260). Spar saturating subtract. -/
  | sprSubs (gd : Fin 16) (ga : Fin 16) (gb : Fin 16) (e : SprEcc)
  /-- MIN (R267). Spar signed MIN. -/
  | sprMin (gd : Fin 16) (ga : Fin 16) (gb : Fin 16) (e : SprEcc)
  /-- MAX (R267). Spar signed MAX. -/
  | sprMax (gd : Fin 16) (ga : Fin 16) (gb : Fin 16) (e : SprEcc)
  /-- ABS (R260). Spar saturating absolute value. -/
  | sprAbs (gd : Fin 16) (ga : Fin 16) (e : SprEcc)
  /-- CMP (R260). Spar CMP sets the flags from ga − gb. -/
  | sprCmp (ga : Fin 16) (gb : Fin 16) (e : SprEcc)
  /-- ADDI (R267). Spar ADDI adds a sign-extended imm18. -/
  | sprAddi (gd : Fin 16) (ga : Fin 16) (imm : BitVec 18) (e : SprEcc)
  /-- LUI (R267). Spar LUI loads imm18 × 2^14. -/
  | sprLui (gd : Fin 16) (imm : BitVec 18) (e : SprEcc)
  /-- ORI (R267). Spar ORI with a zero-extended immediate. -/
  | sprOri (gd : Fin 16) (ga : Fin 16) (imm : BitVec 18) (e : SprEcc)
  /-- ANDI (R267). Spar ANDI with a zero-extended immediate. -/
  | sprAndi (gd : Fin 16) (ga : Fin 16) (imm : BitVec 18) (e : SprEcc)
  /-- CMPI (R260). Spar CMPI sets the flags from ga − imm18. -/
  | sprCmpi (ga : Fin 16) (imm : BitVec 18) (e : SprEcc)
  /-- SHLI (R267). Spar shift left by an immediate. -/
  | sprShli (gd : Fin 16) (ga : Fin 16) (sh : Fin 32) (e : SprEcc)
  /-- SARI (R267). Spar arithmetic shift right by an immediate. -/
  | sprSari (gd : Fin 16) (ga : Fin 16) (sh : Fin 32) (e : SprEcc)
  /-- SHRI (R267). Spar logical shift right by an immediate. -/
  | sprShri (gd : Fin 16) (ga : Fin 16) (sh : Fin 32) (e : SprEcc)
  /-- LD (R266). Spar load through an address generator, optionally advancing it. -/
  | sprLd (g : Fin 16) (ag : Fin 8) (pm : Bool) (e : SprEcc) (d : SprEcc)
  /-- ST (R266). Spar store through an address generator. -/
  | sprSt (g : Fin 16) (ag : Fin 8) (pm : Bool) (e : SprEcc)
  /-- LDIO (R275). Spar issues a Bridle read as initiator SPAR. -/
  | sprLdio (g : Fin 16) (ga : Fin 16) (imm : BitVec 18) (e : SprEcc)
  /-- STIO (R275). Spar issues a Bridle write as initiator SPAR. -/
  | sprStio (g : Fin 16) (ga : Fin 16) (imm : BitVec 18) (e : SprEcc)
  /-- IO_RESPONSE (R269). The Bridle response to LDIO or STIO arrives and Spar continues, or takes IO_ERR. -/
  | ioResponse (cycles : Nat) (wrong : BitVec 2) (e : SprEcc)
  /-- IO_TMO (R274). No Bridle response arrives within 4,096 cycles, raising the IO_TMO fault. -/
  | ioTmo
  /-- AGSET (R266). Spar sets a field of an address generator. -/
  | sprAgset (g : Fin 16) (ag : Fin 8) (f : Fin 4) (e : SprEcc)
  /-- AGGET (R266). Spar reads a field of an address generator. -/
  | sprAgget (g : Fin 16) (ag : Fin 8) (f : Fin 4) (e : SprEcc)
  /-- MAC4 (R264). Four multiply-accumulates of one operand against four words. -/
  | sprMac4 (agx : Fin 8) (agy : Fin 8) (clr : Bool) (neg : Bool) (xreg : Bool) (gx : Fin 16) (e : SprEcc) (ds : List SprEcc)
  /-- MAC2 (R264). A complex multiply-accumulate into an accumulator pair. -/
  | sprMac2 (agx : Fin 8) (agy : Fin 8) (clr : Bool) (neg : Bool) (p : Fin 2) (e : SprEcc) (ds : List SprEcc)
  /-- MACR (R264). A register multiply-accumulate. -/
  | sprMacr (ga : Fin 16) (gb : Fin 16) (k : Fin 4) (clr : Bool) (neg : Bool) (e : SprEcc)
  /-- MOVA (R265). An accumulator moves to a register with shift, rounding and saturation. -/
  | sprMova (gd : Fin 16) (k : Fin 4) (clr : Bool) (e : SprEcc)
  /-- LDA (R265). A register moves into an accumulator, scaled up. -/
  | sprLda (g : Fin 16) (k : Fin 4) (e : SprEcc)
  /-- CLRA (R267). The accumulators named in the mask are cleared. -/
  | sprClra (mask : BitVec 4) (e : SprEcc)
  /-- JMP (R268). Spar jump. -/
  | sprJmp (target : BitVec 14) (e : SprEcc)
  /-- BR (R268). Spar conditional branch, ending a loop when it leaves the body. -/
  | sprBr (cond : BitVec 4) (target : BitVec 14) (e : SprEcc)
  /-- CALL (R268). Spar call, with STACK fault on overflow. -/
  | sprCall (target : BitVec 14) (e : SprEcc)
  /-- RET (R268). Spar return, with STACK fault on underflow. -/
  | sprRet (e : SprEcc)
  /-- LOOP (R268). Spar zero-overhead loop over a body ga times. -/
  | sprLoop (ga : Fin 16) (last : BitVec 14) (e : SprEcc)
  /-- WAIT (R270). Spar stalls until an event in its mask is pending. -/
  | sprWait (mask : BitVec 8) (e : SprEcc)
  /-- WAIT_COMPLETE (R270). A masked event is pending, so the WAIT completes and clears its mask's events. -/
  | waitComplete (cycles : Nat)
  /-- EVT (R267). EVT 0 triggers Sonde and EVT 1 sets HOST_EVT. -/
  | sprEvt (line : Fin 4) (e : SprEcc)
  /-- TRAP (R272). TRAP n enters privileged mode at word 0x0040 + n. -/
  | sprTrap (n : BitVec 8) (e : SprEcc)
  /-- TRAP_EXIT (R273). The EXIT service ends the user program and sets USER_DONE. -/
  | trapExit
  /-- TRAP_LOG (R273). The LOG service posts G1 and G2 as a SPAR_USER log record. -/
  | trapLog
  /-- TRAP_ALARM (R273). The ALARM service raises SPAR_USER with code G1. -/
  | trapAlarm
  /-- RETU (R272). The executive enters user mode. -/
  | sprRetu (u : Bool) (target : BitVec 14) (e : SprEcc)
  /-- HALT (R267). Privileged HALT stops Spar. -/
  | sprHalt (e : SprEcc)
  /-- ILLEGAL_INSTRUCTION (R267). A reserved opcode, condition or bit raises the ILLEGAL fault. -/
  | illegalInstruction (e : SprEcc)
  /-- SPAR_TIMER_EVENT (R270). The SPR_TIMER period elapses and raises TIMER, merging it with TIMER_OVR if already pending. -/
  | sparTimerEvent (cycles : Nat)
  /-- SPAR_PREEMPT (R272). A pending preempting event returns user mode to privileged mode. -/
  | sparPreempt
  /-- SPAR_RUN (R271). A write of SPR_CTRL.RUN starts Spar at word 0 or halts it. -/
  | sparRun (i : Initiator) (v : Bool) (issue : Bool)
  /-- USER_RESTART (R273). The user program is entered at its entry word. -/
  | userRestart
  /-- DOORBELL (R270). SPR_CMD.DOORBELL raises the DOORBELL event. -/
  | doorbell
  /-- SPR_CNT_CLR (R281). SPR_CMD.CNT_CLR clears SPR_CNT. -/
  | sprCntClr
  /-- SPR_MEM_DATA_ACCESS (R282). An access through SPR_MEM_DATA reaches Spar memory or an address generator. -/
  | sprMemDataAccess (i : Initiator) (acc : DataAcc)
  /-- THM_READING (R288). A new on-die reading is compared with the warning, shedding, trip and MTP limits, and the rate is updated. -/
  | thmReading (d : Fin 12) (t : Int)
  /-- EXT_CHANNEL_READING (R287). An external channel reading is converted and judged against its window and rate margin. -/
  | extChannelReading (c : Fin 8) (us : Nat) (num : Int) (den : Nat)
  /-- CROSS_CHECK (R285). Every 100 ms an on-die sensor is cross-checked against Sonde and may be faulted. -/
  | crossCheck (us : Nat) (t : Int)
  /-- TRIP_REL (R289). TRIP_REL clears TRIPPED if Tj ≤ WARN − 2 °C. -/
  | tripRel
  /-- PEAK_CLR (R292). PEAK_CLR sets TJ_PEAK to TJ. -/
  | peakClr
  /-- THM_CNT_CLR (R292). THM_CMD.CNT_CLR clears THM_CNT except TRIP_CNT. -/
  | thmCntClr
  /-- SHELF_THERMAL_SAMPLE (R290). Every 100 ms in Shelf the DS11 comparator is sampled and may raise the THERMAL wake source. -/
  | shelfThermalSample (t : Int)
  /-- COMPARATOR_TRIP (R300). A HI or LO comparator trips, and the Rip panel clears, shunts and latches the lane. -/
  | comparatorTrip (n : Lane) (a : BitVec 12) (b : BitVec 12)
  /-- LO_ARM (R299). The bias voltage has stayed above 50 mV for the blanking time, so the LO comparators arm. -/
  | loArm (n : Lane) (us : Nat)
  /-- LO_DISARM (R299). The bias voltage falls below 50 mV and the LO comparators disarm. -/
  | loDisarm (n : Lane)
  /-- TX_DISABLE_EDGE (R302). A TX_DISABLE[n] edge forces or ends a clear of the lane's channels and the shunt. -/
  | txDisableEdge (n : Lane) (high : Bool)
  /-- LASER_CLR_N_FALL (R302). LASER_CLR_N falls, forcing every CLR_EN channel clear and every shunt high. -/
  | laserClrNFall
  /-- LASER_CLR_N_RISE (R302). LASER_CLR_N rises; the channels stay at their clear codes under R234. -/
  | laserClrNRise
  /-- SAF_RELEASE (R303). A guarded SAF_REL write releases lanes, refusing or starting their proof test. -/
  | safRelease (lanes : BitVec 8) (ack : BitVec 8)
  /-- PROOF_TEST_START (R304). A proof test of a lane starts with channel A. -/
  | proofTestStart (n : Lane)
  /-- PROOF_CHANNEL_DONE (R304). The test of one channel ends and the other channel's test begins. -/
  | proofChannelDone (n : Lane) (hi : Bool) (lo : Bool) (quiet : Bool)
  /-- PROOF_TEST_END (R304). A proof test ends; it passes, or latches with PROOF, and a pending release clears or is refused. -/
  | proofTestEnd (n : Lane)
  /-- PERIODIC_PROOF_DUE (R305). PROOF_INT minutes pass since the lane's last test and a periodic test is scheduled. -/
  | periodicProofDue (n : Lane)
  /-- SAF_PROOF (R305). SAF_CMD.PROOF requests a proof test of a lane. -/
  | safProof (n : Lane)
  /-- SUPERVISION_PASS (R306). The 1 ms supervision loop checks each lane's reading and may close its gate. -/
  | supervisionPass (tick : Bool)
  /-- SUP_GATE_OPEN (R480). Resident firmware opens a supervision gate once every closing cause has ended. -/
  | supGateOpen (n : Lane)
  /-- SAF_KICK (R307). KICK restarts the dead-man timer and clears SUP_DEAD. -/
  | safKick
  /-- DEADMAN_EXPIRY (R307). No KICK arrives within SUP_TMO, so every gate closes and every lane latches with DEADMAN. -/
  | deadmanExpiry (us : Nat)
  /-- CLOCK_LOSS (R308). A watched clock shows no edge for 50 µs, so the gates close and every lane latches with CLK. -/
  | clockLoss
  /-- CLK_LOSS_CLEAR (R308). All three clocks have run for 1 ms and CLK_LOSS_NOW clears. -/
  | clkLossClear (us : Nat)
  /-- SUPPLY_FAULT (R309). VDDA_12 leaves its window, so every lane latches with SUPPLY. -/
  | supplyFault (mv : BitVec 16)
  /-- SUPPLY_NOW_CLEAR (R309). VDDA_12 has been inside its window for 1 ms and SUPPLY_NOW clears. -/
  | supplyNowClear (us : Nat)
  /-- VDDIO_UVLO (R309). VDDIO_18 falls below 1.55 V and the Rip-panel outputs go to their unpowered state. -/
  | vddioUvlo (mv : BitVec 16)
  /-- SAF_LIM_WRITE (R311). A guarded write of SAF_LANEn_LIM is accepted only while the lane is latched, otherwise LIM_REFUSED. -/
  | safLimWrite (n : Lane) (hi : BitVec 10) (lo : BitVec 10)
  /-- SAF_CNT_CLR (R314). SAF_CMD.CNT_CLR clears the SAF counters. -/
  | safCntClr
  /-- PARITY_SWEEP (R369). The background sweep checks the parity of register words. -/
  | paritySweep (a : BitVec 32) (wrong : Bool)
  /-- PARITY_REWRITE (R369). Resident firmware rewrites a mismatched word from the rig preload or its reset value. -/
  | parityRewrite (a : BitVec 33)
  /-- POWER_UP (R316). VDD_PL and VDDIO_18 become present and the device leaves Off for the wake sequence. -/
  | powerUp
  /-- PG_CORE (R317). PG_IN[0] and the VDD_CORE level arrive and the next wake step starts. -/
  | pgCore
  /-- PG_A12 (R317). PG_IN[2] arrives for VDDA_12. -/
  | pgA12
  /-- PG_QDR (R317). PG_IN[3] arrives for VDD_QDR. -/
  | pgQdr
  /-- OSC_RDY (R317). REFCLK is detected and the core PLLs lock. -/
  | oscRdy
  /-- MEM_RDY (R378). The SRAM zero fill completes. -/
  | memRdy
  /-- LGC_RDY (R317). The logic domains leave reset and Gondola starts. -/
  | lgcRdy (post : Bool)
  /-- PG_LANE (R317). PG_IN[1] arrives for the lane rails and the device enters Run. -/
  | pgLane
  /-- WAKE_STEP_TIMEOUT (R318). A ready signal misses its timeout, so the enables fall and WAKE_STALL is recorded. -/
  | wakeStepTimeout (us : Nat)
  /-- WAKE_RETRY (R318). 100 ms after a stall the wake sequence is tried once more. -/
  | wakeRetry
  /-- DOZE_ENTRY (R316). Every port has been DOWN for DOZE_HOLD, or a trip occurred, and Run falls to Doze. -/
  | dozeEntry (us : Nat)
  /-- LPMODE_RISE (R319). LPMODE rises with LPMODE_EN = 1 and requests Shelf. -/
  | lpmodeRise
  /-- SHELF_COMMIT (R319). The enables fall in reverse order and the Shelf commit cycle falls. -/
  | shelfCommit
  /-- HOST_SD_WAKE (R320). The pilot-light host detector sees signal for 1 µs and fires HOST_SD. -/
  | hostSdWake (j : Host) (mv : BitVec 16)
  /-- LPMODE_FALL (R320). LPMODE falls and fires the LPMODE wake source. -/
  | lpmodeFall
  /-- MGMT_WAKE (R422). A START with the static address fires the MGMT wake source. -/
  | mgmtWake
  /-- PERST_N_RISE (R428). PERST_N rises, releasing the PCIe core and firing the PCIE wake source. -/
  | perstNRise (request : Bool) (g : Fin 5) (w : Fin 3)
  /-- TETHER_WAKE (R440). 100 µs of signal on a tether receive pair fires the TETHER wake source. -/
  | tetherWake (p : Fin 2)
  /-- WAKE_TIMER (R320). Powered time reaches WAKE_AT_HI:WAKE_AT and the armed TIMER fires once. -/
  | wakeTimer
  /-- GPIO_WAKE (R320). The selected GPIO reaches GPIO_POL and fires the GPIO wake source. -/
  | gpioWake (g : Fin 32) (high : Bool)
  /-- WAKE_AT_HI_WRITE (R320). A write of WAKE_AT_HI arms the TIMER wake source. -/
  | wakeAtHiWrite (v : BitVec 16)
  /-- QUIESCE_REQUEST (R323). The power controller asks each user of a domain to quiesce before it powers down. -/
  | quiesceRequest (k : SleepKind)
  /-- QUIESCE_TIMEOUT (R323). PWR_QUIESCE_TMO expires, giving a refusal or an abort of Reel transfers. -/
  | quiesceTimeout (k : SleepKind) (us : Nat)
  /-- SLEEP_RETRY (R324). A refused request held by a register bit or pin is tried again every 1 ms. -/
  | sleepRetry (k : SleepKind)
  /-- BRACE_START (R326). VDD_CORE falls below 0.700 V and the brace begins. -/
  | braceStart (commit : Option SleepKind)
  /-- BRACE_END (R326). The brace ends 50 µs after VDD_CORE rises, and DIP_COUNT and the log are updated. -/
  | braceEnd (us : Nat)
  /-- BOR (R329). VDD_CORE reaches the reset level, so BOR sets every latch and the device restarts. -/
  | bor
  /-- PLBOR (R325). VDD_PL falls below 0.62 V and causes PLBOR. -/
  | plbor
  /-- BALLAST_PRESS (R331). A present cause presses the ladder and one rung is shed. -/
  | ballastPress (cause : Fin 3) (us : Nat)
  /-- BALLAST_RESTORE (R333). RESTORE_INT after every cause clears, one rung is restored in reverse order. -/
  | ballastRestore (us : Nat)
  /-- PWR_CNT_CLR (R335). PWR_CMD.CNT_CLR clears the power-controller counters. -/
  | pwrCntClr
  /-- RESET_N_FALL (R337). RESET_N is low for at least 1 µs, causing a PIN reset and holding the device in Shelf. -/
  | resetNFall (ns : Nat)
  /-- RESET_N_RISE (R337). RESET_N rises and the wake sequence starts with source RESET. -/
  | resetNRise
  /-- SWR (R336). A guarded CFG_SWR pair with SWR = 1 causes a software reset. -/
  | swr
  /-- WDR (R339). The Gondola watchdog expires and causes WDR, with firmware fallback after three. -/
  | wdr
  /-- WDT_KICK (R339). CFG_WDT_KICK.KICK restarts the watchdog timeout. -/
  | wdtKick (i : Initiator)
  /-- PTR (R340). CFG_RST_PORT takes a port DOWN and clears its PT, LN and VO fields. -/
  | ptr (k : PortId)
  /-- LNR_LINE (R340). A lane reset of LNn takes its port DOWN and clears LNn and KLn. -/
  | lnrLine (n : Lane)
  /-- LNR_HOST (R340). A lane reset of HLj clears that host lane, taking its port DOWN. -/
  | lnrHost (j : Host)
  /-- CFG_CNT_CLR (R355). CFG_CMD.CNT_CLR clears BOR_CNT, PIN_CNT and WDR_CNT. -/
  | cfgCntClr
  /-- REGISTER_WRITE (R371). A write to a register that has no row of its own takes effect under its field kinds and unit rules. -/
  | registerWrite (i : Initiator) (a : BitVec 32) (size : Fin 4) (v : BitVec 64)
  /-- GUARDED_PAIR_WRITE (R367). The two words of a guarded pair are written; a matching complement applies the value, otherwise the guard fails. -/
  | guardedPairWrite (i : Initiator) (a : BitVec 32) (v : Word) (c : Word)
  /-- GUARD_LATE (R368). 256 Bridle cycles pass without the complement, so the pending value is dropped with LATE. -/
  | guardLate (i : Initiator)
  /-- BRIDLE_TIMEOUT (R361). A domain does not answer within 1,536 Bridle cycles, so the access gets an error response with KIND 0x6. -/
  | bridleTimeout (i : Initiator) (a : BitVec 32) (size : Fin 4) (write : Bool)
  /-- GLB_CNT_CLR (R374). GLB_BRD_CMD.CNT_CLR clears GLB_BRD_CNT. -/
  | glbCntClr
  /-- MEMORY_READ (R380). A memory read is checked and corrected, or returned poisoned. -/
  | memoryRead (i : Initiator) (a : BitVec 32) (size : Fin 4) (e : SprEcc)
  /-- MEMORY_WRITE (R377). A memory write is written at once or taken into the merge buffer. -/
  | memoryWrite (i : Initiator) (a : BitVec 32) (size : Fin 4) (v : BitVec 64)
  /-- MERGE_IDLE_FLUSH (R379). A merge entry idle for 64 MEM cycles is flushed. -/
  | mergeIdleFlush (a : BitVec 32) (e : SprEcc)
  /-- BUCKET_LEAK (R380). Every 2^20 MEM cycles each leaky bucket falls by 1. -/
  | bucketLeak
  /-- SCRUB_READ (R384). A patrol scrub read checks and corrects a word. -/
  | scrubRead (a : BitVec 32) (spare : Option (Fin 16 × Fin 32)) (e : SprEcc)
  /-- QDR_TRAIN_DONE (R378). QDR-IV training and fill end, setting QDR_RDY or QDR_FAIL. -/
  | qdrTrainDone (ok : Bool)
  /-- MEM_FLUSH (R379). MEM_CMD.FLUSH is a merge-buffer barrier. -/
  | memFlush
  /-- MEM_CNT_CLR (R387). MEM_CMD.CNT_CLR clears the memory counters. -/
  | memCntClr
  /-- REEL_START (R402). REELc_CMD.START starts the channel at its descriptor, or is refused while in RUN. -/
  | reelStart (c : ReelId)
  /-- RESUME (R399). RESUME continues a DOMAIN_ABORT or STOPPED descriptor from BYTES. -/
  | resume (c : ReelId)
  /-- REEL_STOP (R399). STOP stops the channel at its next burst boundary. -/
  | reelStop (c : ReelId)
  /-- DESCRIPTOR_FETCH (R392). A descriptor is fetched and checked, or rejected as BAD_DESC. -/
  | descriptorFetch (c : ReelId) (ecc : List SprEcc)
  /-- BURST_START (R389). The read engine starts a burst once the request line, room and in-flight limits allow. -/
  | burstStart (c : ReelId) (x : ReelIn)
  /-- BURST_END (R394). The last destination write of a burst is issued. -/
  | burstEnd (c : ReelId)
  /-- PERIPH_ABORT (R396). 1,024 cycles after a request line is withdrawn mid-burst, the burst ends with PERIPH_ABORT. -/
  | periphAbort (c : ReelId) (k : Nat)
  /-- BARRIER_CONFIRM (R397). Every write of a barrier descriptor has reached its target. -/
  | barrierConfirm (c : ReelId)
  /-- DESCRIPTOR_COMPLETE (R397). A descriptor completes, its STATUS and BYTES are written and the next descriptor is fetched. -/
  | descriptorComplete (c : ReelId)
  /-- REEL_CNT_CLR (R402). REEL_CMD.CNT_CLR clears the Reel counters. -/
  | reelCntClr
  /-- CHECKPOINT (R404). A powered-time checkpoint is written to MTP, or deferred. -/
  | checkpoint
  /-- PMC_WRAP (R407). A PMU counter wraps, setting OVF and taking a sample. -/
  | pmcWrap (i : Fin 8) (pos : BitVec 32)
  /-- ALARM_OCCURRENCE (R411). An alarm occurrence is entered or coalesced in the table and offered to the log. -/
  | alarmOccurrence (id : BitVec 8) (inst : BitVec 8) (code : BitVec 16)
  /-- ALARM_ACK (R411). Writing UNACKED acknowledges an alarm entry, which is freed if inactive. -/
  | alarmAck (i : Initiator) (e : Fin 64)
  /-- ALARM_ENTRY_READ (R414). A read of word 0 copies the whole alarm entry for the reading initiator. -/
  | alarmEntryRead (i : Initiator) (e : Fin 64)
  /-- LOG_RECORD (R416). A log record is written, or dropped for lack of a token or ring room. -/
  | logRecord (src : Fin 16) (inst : BitVec 8) (ev : BitVec 16) (d0 : Word) (d1 : Word) (d2 : Word) (d3 : Word)
  /-- TOKEN_REFILL (R416). A log source gains a token, possibly ending its throttling episode. -/
  | tokenRefill (q : Fin 15)
  /-- TRACE_RECORD (R417). A trace record is written, or dropped and counted when the ring is full. -/
  | traceRecord (src : Fin 16) (inst : BitVec 8) (ev : BitVec 16) (d : Word)
  /-- RING_PORT_READ (R418). A read of STR_LOG_PORT or STR_TRACE_PORT returns the word at RD and advances RD. -/
  | ringPortRead (i : Initiator) (g : Fin 2) (e : SprEcc)
  /-- STR_CNT_CLR (R420). STR_CMD.CNT_CLR clears the Streamer counters except STR_CYCLE. -/
  | strCntClr
  /-- SETDASA (R422). SETDASA assigns a dynamic address and the port becomes an I3C target. -/
  | setdasa (st : BitVec 7) (a : BitVec 7) (enec : Bool)
  /-- ENTDAA (R422). ENTDAA assigns a dynamic address and the port becomes an I3C target. -/
  | entdaa (a : BitVec 7) (enec : Bool)
  /-- RSTDAA (R422). RSTDAA drops the dynamic address and returns the port to I2C. -/
  | rstdaa
  /-- PAGE_SELECT (R423). A write of byte 0x7F loads the selected CMIS page into the window. -/
  | pageSelect (bank : BitVec 8) (page : BitVec 8)
  /-- CMIS_WRITE (R423). A CMIS write transaction of at most 8 bytes is written into the image, for firmware to act on. -/
  | cmisWrite (a : BitVec 8) (bs : List (BitVec 8))
  /-- CMIS_MONITOR_REFRESH (R423). Resident firmware refreshes the monitors in the CMIS image every 100 ms. -/
  | cmisMonitorRefresh (l : List (Nat × Nat × Nat))
  /-- DATAPATHDEINIT (R424). DataPathDeinit writes UP = 0, or UP = 1 when cleared for every host lane of the port. -/
  | datapathdeinit (v : BitVec 16)
  /-- APPSEL (R424). AppSel selects an Application, or is rejected when the rig lacks it. -/
  | appsel (j : Host) (code : BitVec 4)
  /-- CMIS_TX_DISABLE (R424). CMIS Tx disable of a media lane clears MOD_EN. -/
  | cmisTxDisable (n : Lane) (v : Bool)
  /-- LOWPWRREQUESTSW (R424). LowPwrRequestSW requests low power, leading to Doze. -/
  | lowpwrrequestsw (v : Bool)
  /-- LOWPWRALLOWREQUESTHW (R424). LowPwrAllowRequestHW is mirrored into PWR_CTRL.LPMODE_EN. -/
  | lowpwrallowrequesthw (v : Bool)
  /-- B0H_READ (R426). Page B0h CMD 0x01 reads the register at ADDR. -/
  | b0hRead (wrong : BitVec 2) (e : SprEcc)
  /-- B0H_WRITE (R426). Page B0h CMD 0x02 writes DATA to ADDR. -/
  | b0hWrite
  /-- B0H_GUARDED_WRITE (R426). Page B0h CMD 0x03 writes a guarded pair as two consecutive Bridle writes. -/
  | b0hGuardedWrite
  /-- RIG_APPLY (R352). The mailbox verifies a rig slot and applies it at runtime. -/
  | rigApply
  /-- PORT_UP (R193). The mailbox command acts as writes of UP = 1 for the named ports. -/
  | portUp
  /-- PORT_DOWN (R193). The mailbox command takes the named ports DOWN and completes when they are all DOWN. -/
  | portDown
  /-- LANE_NAP (R200). The mailbox command requests Nap for the port of a line lane. -/
  | laneNap
  /-- LANE_WAKE (R432). The mailbox command wakes the port of a line lane and reports fast or slow. -/
  | laneWake
  /-- CAL_NOW (R155). The mailbox command schedules a refresh on the named lanes. -/
  | calNow
  /-- CAPTURE (R432). The mailbox command arms a 64 KiB datapath capture of a lane. -/
  | capture
  /-- CAPTURE_TRIGGER (R432). The capture trigger occurs and the post-trigger half is filled. -/
  | captureTrigger (beat : BitVec 32) (words : List (BitVec 32))
  /-- ATTEST (R452). The mailbox command spends an index and writes a signed attestation record. -/
  | attest (brace : Bool)
  /-- SELFTEST_RESULT (R454). The mailbox command returns the retained Packdown result. -/
  | selftestResult
  /-- FW_STAGE (R432). The mailbox command writes a chunk into an idle firmware or rig slot. -/
  | fwStage
  /-- FW_COMMIT (R345). The mailbox command commits a staged firmware or rig slot. -/
  | fwCommit
  /-- LOG_DRAIN (R418). The mailbox command copies log or trace records to a destination and advances RD. -/
  | logDrain
  /-- SNAPSHOT_EXPORT (R432). The mailbox command copies the LST registers to SRAM after a snapshot. -/
  | snapshotExport
  /-- SHELF (R319). The mailbox command requests Shelf entry. -/
  | shelf
  /-- TIME_READ (R432). The mailbox command returns powered time and STR_CYCLE. -/
  | timeRead
  /-- KITE_SEND (R433). The mailbox command sends a kite request or the wake pattern on a lane. -/
  | kiteSend
  /-- MBX_RESERVED_OPCODE (R432). A reserved mailbox opcode completes with BAD_OPCODE. -/
  | mbxReservedOpcode
  /-- MAILBOX_TIMEOUT (R432). A command exceeds its worst-case duration and completes with TIMEOUT. -/
  | mailboxTimeout (us : Nat)
  /-- BLOCK_LOCK (R434). A tether port gains block lock after 64 valid headers. -/
  | blockLock (p : Fin 2) (hdrs : List (BitVec 2))
  /-- BLOCK_LOCK_LOSS (R434). 16 invalid headers within 64 blocks lose block lock. -/
  | blockLockLoss (p : Fin 2) (hdrs : List (BitVec 2)) (discarded : Nat)
  /-- TETHER_RETRY (R436). A port that is not UP restarts its receiver every 10 ms and counts RETRY_CNT. -/
  | tetherRetry (p : Fin 2) (us : Nat)
  /-- TTH_LINK (R436). A LINK message brings the port UP, checks the ID order and updates REACH. -/
  | tthLink (p : Fin 2) (id : Fin 4) (beyond : BitVec 4)
  /-- TTH_ALARM (R437). An ALARM message carries an alarm entry change to the anchor. -/
  | tthAlarm (m : Option AlmMsg)
  /-- TTH_WAKE (R440). A WAKE message carries a wake request along the chain. -/
  | tthWake (p : Fin 2)
  /-- TTH_TOKEN (R160). A TOKEN message carries a calibration token request, grant or return. -/
  | tthToken (p : Fin 2) (kind : TokKind) (member : Fin 4) (pair : Fin 64)
  /-- TTH_TIME (R439). A TIME message adjusts the member's powered-time counter. -/
  | tthTime (t : BitVec 48)
  /-- TTH_REG_REQ (R438). A REG_REQ is performed at the member as initiator TETHER. -/
  | tthRegReq (p : Fin 2) (target : Fin 4) (tag : BitVec 8) (a : BitVec 22) (size : Fin 4) (w : Option (BitVec 64)) (wrong : BitVec 2)
  /-- TTH_REG_RSP (R438). A REG_RSP returns the data or error of a forwarded access. -/
  | tthRegRsp (tag : BitVec 8) (v : BitVec 64) (err : Option (Fin 16))
  /-- TTH_INT (R431). An INT message forwards a member's INT_N condition to the anchor. -/
  | tthInt (m : Option (Fin 4 × Bool))
  /-- TIME_SEND (R439). The anchor sends TIME at link-up and every 1,000 ms. -/
  | timeSend (us : Nat)
  /-- TTH_CNT_CLR (R442). TTH_CMD.CNT_CLR clears the tether counters. -/
  | tthCntClr
  /-- PCI_CNT_CLR (R442). PCI_CMD.CNT_CLR clears PCI_CNT. -/
  | pciCntClr
  /-- LC_ADVANCE (R449). A token-checked operation advances the life-cycle state at the next reset. -/
  | lcAdvance (sig : Bool) (brace : Bool) (otp : Bool)
  /-- KEY_PROGRAM (R448). A token-checked operation programs a customer key slot. -/
  | keyProgram (sig : Bool) (brace : Bool) (otp : Bool)
  /-- KEY_REVOKE (R448). A token-checked operation revokes a LIVE key slot at once. -/
  | keyRevoke (sig : Bool) (brace : Bool) (otp : Bool)
  /-- PACKDOWN (R453). Packdown runs its self-test slices in order. -/
  | packdown
  /-- PACKDOWN_SLICE_END (R453). A Packdown slice ends with pass or fail, and the next slice or the result writing follows. -/
  | packdownSliceEnd (pass : Bool)
  /-- HOLD_RELEASE (R456). A guarded TST_HOLD_REL releases SAFE_HOLD if this boot's self-test passed, else sets HOLD_REFUSED. -/
  | holdRelease
  /-- ENGINE_START (R459). TST_ENG START runs one logic slice, refused unless every port is DOWN. -/
  | engineStart
  /-- ENGINE_DONE (R459). The self-test engine run ends and MISR holds its signature. -/
  | engineDone
  /-- SEC_CNT_CLR (R458). SEC_CMD.CNT_CLR clears SEC_CNT. -/
  | secCntClr
  /-- TST_CNT_CLR (R458). TST_CMD.CNT_CLR clears TST_CNT. -/
  | tstCntClr
  /-- REGISTER_READ (R370). An aligned or narrow read of the register space is checked for alignment, mapping and parity, and a parity mismatch gets an error response and, in SAF or PWR, latches lanes. -/
  | registerRead (i : Initiator) (a : BitVec 32) (size : Fin 4) (wrong : BitVec 2) (e : SprEcc)
  /-- PERST_N_FALL (R428). PERST_N falls and the PCIe core is held in reset while nothing else is affected. -/
  | perstNFall
  /-- TXC_SETTLE_ELAPSED (R196). TXC_SETTLE passes since a lane's handshake completed, which can complete the clean rule and move the port from TRAIN to LOCKED. -/
  | txcSettleElapsed (n : Lane) (us : Nat)
  /-- FALLBACK_CTLE_HOLD (R169). With CTLE_AUTO = 1, the first 1 ms of FALLBACK ends and the CTLE peaking stops adapting and is held. -/
  | fallbackCtleHold (j : Host) (peak : Fin 16)
  /-- FAST_CLOCKS_RESTART (R201). At a wake, the fast clocks restart and the PLLs lock from retained settings, after which the host lanes leave Nap and modulation demand is raised. -/
  | fastClocksRestart (k : PortId) (us : Nat)
  /-- JTAG_INSTRUCTION_LOAD (R450). A JTAG instruction is loaded; EXTEST, EXTEST_PULSE and EXTEST_TRAIN load only while every Rip-panel latch is set, and Bridle and test-register instructions load as BYPASS outside the states of Table 22-3. -/
  | jtagInstructionLoad (x : JtagInsn)
deriving DecidableEq, Repr

end Sys2Proof
end

