-- ==== Sys2Proof/Decode.lean ====
section
/-! DEFINITION. The command that a word spells by the opcode table's bits. No row of this table gives bits, so no word spells a
command. -/

namespace Sys2Proof

/-- The command a word spells: none, since `spec/opcode_table.json` gives no row any bits. -/
def decodeTableWord (_nbits _w : Nat) : Option Instr := none

end Sys2Proof
end

