-- ==== Sys2Proof/Config.lean ====
section
/-!
DEFINITION. The values the spec leaves open, as constants without a body. Nothing in Lean can evaluate one, so what is
proved holds whatever they are.
-/

namespace Sys2Proof.Config

/-- A value the spec leaves open: the `k`-th one drawn, for the purpose `tag`. The step hands it the running count
`State.fresh`, so that two draws are unrelated. -/
opaque free : (tag k : Nat) → Nat

/-- Bridle cycles and other events of free-running clocks between two powered-time ticks: the RC clock of R403 and the
clocks that are counted are not locked to one another, so no number of the spec fixes this count. -/
opaque clockEvents : (group event k : Nat) → Nat

/-- The memory words whose code goes wrong, and whether beyond correction, in an interval of powered time (R380, R385): the spec
fixes neither the rate nor the places. -/
opaque upsets : (k : Nat) → List (Nat × Bool)

/-- The 8 check bits of a 64-bit word: R375 calls the code an extended Hamming SEC-DED code and gives no matrix. -/
opaque checkBits : Nat → Nat

/-- The words of the Gondola ROM by address: the spec gives their place (Table 17-1), not their contents. -/
opaque rom : Nat → Nat

/-- Byte `k` of the signature of an attestation record: the device key is never readable (R452). -/
opaque signature : (body : List Nat) → (k : Nat) → BitVec 8

/-- The byte of the CMIS map, by page and address, may be written by the host: the map beyond the spec's own bytes is that
of CMIS 5.2, which the spec names only (Table 21-1). -/
opaque cmisWritable : (page byte : Nat) → Bool

/-- The part of a corrected value that comes from the skew and the bandwidth correction of the slice, in units of 2^-20
LSB, by the two corrections in force, the raw conversion and a running count that is new for every sample: R43 names the
corrections and gives no formula for these two, and by R50 no other slice's sample has a part in it. -/
opaque skewBw : (skew bw raw : Int) → (k : Nat) → Int

/-- The alignment marker group of host lane HLj, bit by bit in its order on the lane: R88 leaves its value to the IEEE 802.3
200 Gb/s-per-lane electrical interface. -/
opaque amMarker : (j : Nat) → List Bool

/-- The signature of a self-test slice: R453 and the table of its engine give neither the pattern generator nor the
signature register, so it is open for each slice, seed, pattern count and device. -/
opaque misr : (slice seed patterns : Nat) → (variantB : Bool) → BitVec 32

/-- The check bits a poisoned word holds, by its address: R385 stores the word with a code that marks it and names no such
code. -/
opaque poisonBits : Nat → Nat

/-- The decimation chain of Sonde (R243), whose coefficients and widths the spec does not give (log 168): the coefficient of
half-band `k` at a distance from its centre and that of the compensation FIR, in units of 2^-24, and, per stage, the bits that the
reduction of its output drops and the headroom of its width over full scale, in bits. -/
opaque halfBand : (k distance : Nat) → Int
opaque compFir : (distance : Nat) → Int
opaque stageDrop : (stage : Nat) → Nat
opaque stageRoom : (stage : Nat) → Nat

/-- The executive in the resident firmware of FW_SEQ `seq` (R271, R273): its program words, and its privileged data words by Spar
data address. The spec gives what it does, not its code. -/
opaque execWord : (seq w : Nat) → BitVec 32
opaque execData : (seq a : Nat) → BitVec 32

/-- What the bytes of a SPAR, SAFETY, BALLAST or PORTS section spell: Table 16-6 gives what they hold, and no layout. -/
opaque sparSection : List Nat → RigSpar
opaque safetySection : List Nat → RigSafety
opaque ballastSection : List Nat → Nat × List Nat
opaque portsSection : List Nat → List RigPort

/-- The Applications that a PORTS section names (Table 21-1), and the module's serial number of the rig with a DIGEST (R219): the spec
does not say where a rig holds them. -/
opaque appsOf : List Nat → List Nat
opaque moduleSerial : List Nat → Nat

/-- An XMSS signature over a message does not verify under a public key; the Krovvex root key, which the spec does not give, verifies
firmware (R445). -/
opaque signatureFails : (firmware : Bool) → (key message signature : List Nat) → Bool

end Sys2Proof.Config
end

