-- ==== Sys2Proof/Machine/RegMap.lean ====
section
/-!
DEFINITION. The register map of the Bridle address space (R356, Table 17-1): one handle per register field, written
from the register tables of the chapters (Bits, Field, Type, Reset, Retention, R12). A field that exists once per
instance takes the instance number. Bits that no handle covers are RZ (R9).

The words behind an indirect pair (R56, R86, R119, R190) stand at addresses of the model's own above 2^32, one window
per pair and lane; no initiator can name such an address.
-/

namespace Sys2Proof

/-- The access types of Table 00-5. `ix` marks the data register of an indirect pair; `ixro` and `ixrw` are the words
behind it. -/
inductive Acc where
  | rw | ro | w1c | w1s | rc | wm | ba | ix | ixro | ixrw | gp | hsc | rz
deriving DecidableEq, Repr

/-- The retention classes of Table 00-6. -/
inductive Ret where
  | pl | dv | pt | ln | vo
deriving DecidableEq, Repr

/-- One register field: the byte address of its word, its lowest bit, its width, its access type, its retention class
and its reset value (R12). -/
structure Field where
  addr : Nat
  lo : Nat
  w : Nat
  acc : Acc
  ret : Ret
  reset : Nat
deriving DecidableEq, Repr

/-- The key a field's value is stored under. -/
def Field.key (f : Field) : Nat := f.addr * 32 + f.lo

/-- The reset presets of Table 07-1, as 10-bit two's complement codes: preset `k + 1`, coefficient `i` in the order
c(-3), c(-2), c(-1), c(0), c(+1), c(+2). -/
def presetReset (k i : Nat) : Nat :=
  match k, i with
  | 0, 3 => 256
  | 1, 2 => 1000 | 1, 3 => 216 | 1, 4 => 1008
  | 2, 1 => 8 | 2, 2 => 976 | 2, 3 => 176 | 2, 4 => 1000
  | 3, 0 => 1020 | 3, 1 => 12 | 3, 2 => 960 | 3, 3 => 148 | 3, 4 => 996
  | 4, 3 => 224 | 4, 4 => 992
  | _, _ => 0

/-! ### PRBS -/

def PRBS.CTRL_GEN_PAT (base : Nat) : Field := ⟨base + 0x00, 0, 4, .wm, .dv, 0x5⟩
def PRBS.CTRL_GEN_EN (base : Nat) : Field := ⟨base + 0x00, 4, 1, .wm, .ln, 0⟩
def PRBS.CTRL_GEN_INV (base : Nat) : Field := ⟨base + 0x00, 5, 1, .wm, .dv, 0⟩
def PRBS.CTRL_CHK_PAT (base : Nat) : Field := ⟨base + 0x00, 8, 4, .wm, .dv, 0x5⟩
def PRBS.CTRL_CHK_EN (base : Nat) : Field := ⟨base + 0x00, 12, 1, .wm, .ln, 0⟩
def PRBS.CTRL_CHK_INV (base : Nat) : Field := ⟨base + 0x00, 13, 1, .wm, .dv, 0⟩
def PRBS.STATUS_CHK_LOCK (base : Nat) : Field := ⟨base + 0x04, 0, 1, .ro, .vo, 0⟩
def PRBS.STATUS_LOCK_LOSS (base : Nat) : Field := ⟨base + 0x04, 1, 1, .w1c, .ln, 0⟩
def PRBS.STATUS_GEN_REFUSED (base : Nat) : Field := ⟨base + 0x04, 2, 1, .w1c, .ln, 0⟩
def PRBS.STATUS_HOLD_VALID (base : Nat) : Field := ⟨base + 0x04, 3, 1, .ro, .vo, 0⟩
def PRBS.STATUS_SAT (base : Nat) : Field := ⟨base + 0x04, 4, 1, .w1c, .ln, 0⟩
def PRBS.CMD_LATCH (base : Nat) : Field := ⟨base + 0x08, 0, 1, .hsc, .vo, 0⟩
def PRBS.CMD_CLR (base : Nat) : Field := ⟨base + 0x08, 1, 1, .hsc, .vo, 0⟩
def PRBS.CMD_INJECT (base : Nat) : Field := ⟨base + 0x08, 2, 1, .hsc, .vo, 0⟩
def PRBS.HOLD0_BITS_LO (base : Nat) : Field := ⟨base + 0x10, 0, 32, .ro, .ln, 0⟩
def PRBS.HOLD1_BITS_HI (base : Nat) : Field := ⟨base + 0x14, 0, 16, .ro, .ln, 0⟩
def PRBS.HOLD2_ERRS_LO (base : Nat) : Field := ⟨base + 0x18, 0, 32, .ro, .ln, 0⟩
def PRBS.HOLD3_ERRS_HI (base : Nat) : Field := ⟨base + 0x1C, 0, 16, .ro, .ln, 0⟩
def PRBS.HOLD4_LOCK_LOSS_CNT (base : Nat) : Field := ⟨base + 0x20, 0, 16, .ro, .ln, 0⟩

/-- Every field of block PRBS. -/
def PRBS.fields (base : Nat) : List Field :=
  [PRBS.CTRL_GEN_PAT base, PRBS.CTRL_GEN_EN base, PRBS.CTRL_GEN_INV base, PRBS.CTRL_CHK_PAT base, PRBS.CTRL_CHK_EN base, PRBS.CTRL_CHK_INV base, PRBS.STATUS_CHK_LOCK base, PRBS.STATUS_LOCK_LOSS base, PRBS.STATUS_GEN_REFUSED base, PRBS.STATUS_HOLD_VALID base, PRBS.STATUS_SAT base, PRBS.CMD_LATCH base] ++
  [PRBS.CMD_CLR base, PRBS.CMD_INJECT base, PRBS.HOLD0_BITS_LO base, PRBS.HOLD1_BITS_HI base, PRBS.HOLD2_ERRS_LO base, PRBS.HOLD3_ERRS_HI base, PRBS.HOLD4_LOCK_LOSS_CNT base]

/-! ### LN -/

def LN.GBX_MAP_HOST_A (n : Nat) : Field := ⟨0x100000 + 0x10000 * n + 0xF000, 0, 4, .ro, .dv, 0x0⟩
def LN.GBX_MAP_HOST_B (n : Nat) : Field := ⟨0x100000 + 0x10000 * n + 0xF000, 4, 4, .ro, .dv, 0x0⟩
def LN.GBX_MAP_TIMING_SEL (n : Nat) : Field := ⟨0x100000 + 0x10000 * n + 0xF000, 8, 1, .ro, .dv, 0⟩
def LN.GBX_MAP_MAP_VALID (n : Nat) : Field := ⟨0x100000 + 0x10000 * n + 0xF000, 16, 1, .ro, .dv, 0⟩
def LN.GBX_STATUS_SKEW (n : Nat) : Field := ⟨0x100000 + 0x10000 * n + 0xF004, 0, 16, .ro, .ln, 0⟩
def LN.GBX_STATUS_SKEW_ERR (n : Nat) : Field := ⟨0x100000 + 0x10000 * n + 0xF004, 16, 1, .w1c, .ln, 0⟩
def LN.GBX_STATUS_SLIP (n : Nat) : Field := ⟨0x100000 + 0x10000 * n + 0xF004, 17, 1, .w1c, .ln, 0⟩
def LN.GBX_STATUS_HOLDOVER (n : Nat) : Field := ⟨0x100000 + 0x10000 * n + 0xF004, 20, 4, .ro, .vo, 0⟩
def LN.GBX_STATUS_SLIP_CNT (n : Nat) : Field := ⟨0x100000 + 0x10000 * n + 0xF004, 24, 8, .ro, .ln, 0⟩
def LN.AFE_CTRL_AGC_MODE (n : Nat) : Field := ⟨0x100000 + 0x10000 * n + 0x0000, 0, 2, .wm, .dv, 0⟩
def LN.AFE_CTRL_AGC_SET (n : Nat) : Field := ⟨0x100000 + 0x10000 * n + 0x0000, 2, 7, .wm, .dv, 0⟩
def LN.AFE_CTRL_OVR_BACKOFF_EN (n : Nat) : Field := ⟨0x100000 + 0x10000 * n + 0x0000, 9, 1, .wm, .dv, 1⟩
def LN.AFE_CTRL_KTAP_EN (n : Nat) : Field := ⟨0x100000 + 0x10000 * n + 0x0000, 10, 1, .wm, .dv, 1⟩
def LN.AFE_CTRL_LOS_EN (n : Nat) : Field := ⟨0x100000 + 0x10000 * n + 0x0000, 11, 1, .wm, .dv, 1⟩
def LN.AGC_CFG_TARGET (n : Nat) : Field := ⟨0x100000 + 0x10000 * n + 0x0004, 0, 8, .rw, .dv, 0x30⟩
def LN.AGC_CFG_INTERVAL (n : Nat) : Field := ⟨0x100000 + 0x10000 * n + 0x0004, 8, 8, .rw, .dv, 0x64⟩
def LN.AGC_CFG_HOLDOFF (n : Nat) : Field := ⟨0x100000 + 0x10000 * n + 0x0004, 16, 8, .rw, .dv, 0x0A⟩
def LN.AGC_CFG_LOS_LEVEL (n : Nat) : Field := ⟨0x100000 + 0x10000 * n + 0x0004, 24, 8, .rw, .dv, 0x08⟩
def LN.AGC_STATUS_GAIN (n : Nat) : Field := ⟨0x100000 + 0x10000 * n + 0x0008, 0, 7, .ro, .ln, 0⟩
def LN.AGC_STATUS_AT_FLOOR (n : Nat) : Field := ⟨0x100000 + 0x10000 * n + 0x0008, 8, 1, .ro, .vo, 0⟩
def LN.AGC_STATUS_COMP_ACTIVE (n : Nat) : Field := ⟨0x100000 + 0x10000 * n + 0x0008, 9, 1, .ro, .vo, 0⟩
def LN.AGC_STATUS_BACKOFF_CNT (n : Nat) : Field := ⟨0x100000 + 0x10000 * n + 0x0008, 16, 16, .ro, .ln, 0⟩
def LN.RX_STATUS_OVR (n : Nat) : Field := ⟨0x100000 + 0x10000 * n + 0x0010, 0, 1, .w1c, .ln, 0⟩
def LN.RX_STATUS_OVR_GROSS (n : Nat) : Field := ⟨0x100000 + 0x10000 * n + 0x0010, 1, 1, .w1c, .ln, 0⟩
def LN.RX_STATUS_OVR_RATE (n : Nat) : Field := ⟨0x100000 + 0x10000 * n + 0x0010, 2, 1, .w1c, .ln, 0⟩
def LN.RX_STATUS_LOS (n : Nat) : Field := ⟨0x100000 + 0x10000 * n + 0x0010, 3, 1, .w1c, .ln, 0⟩
def LN.RX_STATUS_KTAP_OVR (n : Nat) : Field := ⟨0x100000 + 0x10000 * n + 0x0010, 4, 1, .w1c, .ln, 0⟩
def LN.RX_STATUS_DCR_BUSY (n : Nat) : Field := ⟨0x100000 + 0x10000 * n + 0x0010, 5, 1, .ro, .vo, 0⟩
def LN.RX_STATUS_LOS_NOW (n : Nat) : Field := ⟨0x100000 + 0x10000 * n + 0x0010, 6, 1, .ro, .vo, 0⟩
def LN.RX_STATUS_SUSPECT_ANY (n : Nat) : Field := ⟨0x100000 + 0x10000 * n + 0x0010, 7, 1, .ro, .ln, 0⟩
def LN.RX_OVR_CNT_OVR_CNT (n : Nat) : Field := ⟨0x100000 + 0x10000 * n + 0x0014, 0, 32, .ro, .ln, 0⟩
def LN.RX_GROSS_CNT_GROSS_CNT (n : Nat) : Field := ⟨0x100000 + 0x10000 * n + 0x0018, 0, 16, .ro, .ln, 0⟩
def LN.RX_CMD_CNT_CLR (n : Nat) : Field := ⟨0x100000 + 0x10000 * n + 0x001C, 0, 1, .hsc, .vo, 0⟩
def LN.RX_CMD_AGC_RESTART (n : Nat) : Field := ⟨0x100000 + 0x10000 * n + 0x001C, 1, 1, .hsc, .vo, 0⟩
def LN.KTAP_AVG_AVG (n : Nat) : Field := ⟨0x100000 + 0x10000 * n + 0x0020, 0, 12, .ro, .ln, 0⟩
def LN.KTAP_AVG_VALID (n : Nat) : Field := ⟨0x100000 + 0x10000 * n + 0x0020, 16, 1, .ro, .vo, 0⟩
def LN.SLC_ADDR_ADDR (n : Nat) : Field := ⟨0x100000 + 0x10000 * n + 0x0040, 0, 16, .rw, .vo, 0⟩
def LN.SLC_ADDR_STRIDE (n : Nat) : Field := ⟨0x100000 + 0x10000 * n + 0x0040, 16, 8, .rw, .vo, 0x04⟩
def LN.SLC_DATA_DATA (n : Nat) : Field := ⟨0x100000 + 0x10000 * n + 0x0044, 0, 32, .ix, .vo, 0⟩
def LN.EQ_MODE_MLSE_16 (n : Nat) : Field := ⟨0x100000 + 0x10000 * n + 0x0100, 0, 1, .wm, .dv, 1⟩
def LN.EQ_MODE_VOLT_EN (n : Nat) : Field := ⟨0x100000 + 0x10000 * n + 0x0100, 1, 1, .wm, .dv, 1⟩
def LN.EQ_MODE_TWO_PASS (n : Nat) : Field := ⟨0x100000 + 0x10000 * n + 0x0100, 2, 1, .wm, .dv, 1⟩
def LN.EQ_MODE_FREEZE_FFE (n : Nat) : Field := ⟨0x100000 + 0x10000 * n + 0x0100, 5, 1, .wm, .dv, 0⟩
def LN.EQ_MODE_FREEZE_VOLT (n : Nat) : Field := ⟨0x100000 + 0x10000 * n + 0x0100, 6, 1, .wm, .dv, 0⟩
def LN.EQ_MODE_FREEZE_TGT (n : Nat) : Field := ⟨0x100000 + 0x10000 * n + 0x0100, 7, 1, .wm, .dv, 0⟩
def LN.EQ_STEP_STEP_FFE (n : Nat) : Field := ⟨0x100000 + 0x10000 * n + 0x0104, 0, 4, .rw, .dv, 0x6⟩
def LN.EQ_STEP_STEP_VOLT (n : Nat) : Field := ⟨0x100000 + 0x10000 * n + 0x0104, 4, 4, .rw, .dv, 0x4⟩
def LN.EQ_STEP_STEP_TGT (n : Nat) : Field := ⟨0x100000 + 0x10000 * n + 0x0104, 8, 4, .rw, .dv, 0x4⟩
def LN.EQ_STEP_STEP_CMA (n : Nat) : Field := ⟨0x100000 + 0x10000 * n + 0x0104, 12, 4, .rw, .dv, 0x9⟩
def LN.EQ_STEP_BOOST_ADD (n : Nat) : Field := ⟨0x100000 + 0x10000 * n + 0x0104, 16, 3, .rw, .dv, 0x2⟩
def LN.EQ_STEP_BOOST_WIN (n : Nat) : Field := ⟨0x100000 + 0x10000 * n + 0x0104, 20, 8, .rw, .dv, 0x40⟩
def LN.EQ_GUARD_GUARD_FAIL (n : Nat) : Field := ⟨0x100000 + 0x10000 * n + 0x0108, 0, 8, .rw, .dv, 0x08⟩
def LN.EQ_GUARD_PRIOR_WT (n : Nat) : Field := ⟨0x100000 + 0x10000 * n + 0x0108, 8, 4, .rw, .dv, 0x8⟩
def LN.EQ_GUARD_LLR_SCALE (n : Nat) : Field := ⟨0x100000 + 0x10000 * n + 0x0108, 12, 4, .rw, .dv, 0x6⟩
def LN.EQ_GUARD_SHED_MARGIN (n : Nat) : Field := ⟨0x100000 + 0x10000 * n + 0x0108, 16, 4, .rw, .dv, 0xC⟩
def LN.EQ_STATUS_EFF_16 (n : Nat) : Field := ⟨0x100000 + 0x10000 * n + 0x010C, 0, 1, .ro, .vo, 0⟩
def LN.EQ_STATUS_EFF_VOLT (n : Nat) : Field := ⟨0x100000 + 0x10000 * n + 0x010C, 1, 1, .ro, .vo, 0⟩
def LN.EQ_STATUS_EFF_PASSES (n : Nat) : Field := ⟨0x100000 + 0x10000 * n + 0x010C, 2, 1, .ro, .vo, 0⟩
def LN.EQ_STATUS_LAT_CLASS (n : Nat) : Field := ⟨0x100000 + 0x10000 * n + 0x010C, 3, 1, .ro, .pt, 0⟩
def LN.EQ_STATUS_ADAPT_STATE (n : Nat) : Field := ⟨0x100000 + 0x10000 * n + 0x010C, 4, 2, .ro, .vo, 0⟩
def LN.EQ_STATUS_FREEZE_SRC (n : Nat) : Field := ⟨0x100000 + 0x10000 * n + 0x010C, 8, 4, .ro, .vo, 0⟩
def LN.EQ_STATUS_BOOST_ACTIVE (n : Nat) : Field := ⟨0x100000 + 0x10000 * n + 0x010C, 12, 1, .ro, .vo, 0⟩
def LN.EQ_STATUS_SHED_HELD (n : Nat) : Field := ⟨0x100000 + 0x10000 * n + 0x010C, 13, 3, .ro, .ln, 0⟩
def LN.EQ_STATUS_PRESHED_BUSY (n : Nat) : Field := ⟨0x100000 + 0x10000 * n + 0x010C, 16, 1, .ro, .vo, 0⟩
def LN.EQ_STATUS_TAP_COUNT (n : Nat) : Field := ⟨0x100000 + 0x10000 * n + 0x010C, 17, 7, .ro, .dv, 0⟩
def LN.EQ_EVENTS_TAP_LAYOUT_ERR (n : Nat) : Field := ⟨0x100000 + 0x10000 * n + 0x0110, 0, 1, .w1c, .dv, 0⟩
def LN.EQ_EVENTS_GUARD_FREEZE (n : Nat) : Field := ⟨0x100000 + 0x10000 * n + 0x0110, 1, 1, .w1c, .ln, 0⟩
def LN.EQ_EVENTS_SHED_UNSAFE (n : Nat) : Field := ⟨0x100000 + 0x10000 * n + 0x0110, 2, 1, .w1c, .ln, 0⟩
def LN.EQ_EVENTS_COEF_LIMIT (n : Nat) : Field := ⟨0x100000 + 0x10000 * n + 0x0110, 3, 1, .w1c, .ln, 0⟩
def LN.EQ_CNT_GUARD_CNT (n : Nat) : Field := ⟨0x100000 + 0x10000 * n + 0x0114, 0, 16, .ro, .ln, 0⟩
def LN.EQ_CNT_BOOST_CNT (n : Nat) : Field := ⟨0x100000 + 0x10000 * n + 0x0114, 16, 16, .ro, .ln, 0⟩
def LN.TAP_MAP_BLOCK (n s : Nat) : Field := ⟨0x100000 + 0x10000 * n + 0x0118, 6*s, 5, .ro, .dv, 0⟩
def LN.TAP_MAP_VALID (n s : Nat) : Field := ⟨0x100000 + 0x10000 * n + 0x0118, 6*s+5, 1, .ro, .dv, 0⟩
def LN.EQC_ADDR_ADDR (n : Nat) : Field := ⟨0x100000 + 0x10000 * n + 0x0120, 0, 16, .rw, .vo, 0⟩
def LN.EQC_ADDR_STRIDE (n : Nat) : Field := ⟨0x100000 + 0x10000 * n + 0x0120, 16, 8, .rw, .vo, 0x04⟩
def LN.EQC_DATA_DATA (n : Nat) : Field := ⟨0x100000 + 0x10000 * n + 0x0124, 0, 32, .ix, .vo, 0⟩
def LN.FRM_CTRL_BETA (n : Nat) : Field := ⟨0x100000 + 0x10000 * n + 0x0200, 0, 4, .wm, .dv, 0x3⟩
def LN.FRM_CTRL_SCR_EN (n : Nat) : Field := ⟨0x100000 + 0x10000 * n + 0x0200, 4, 1, .wm, .dv, 1⟩
def LN.FRM_STATUS_FRAME_LOCK (n : Nat) : Field := ⟨0x100000 + 0x10000 * n + 0x0204, 0, 1, .ro, .vo, 0⟩
def LN.FRM_STATUS_SF_LOCK (n : Nat) : Field := ⟨0x100000 + 0x10000 * n + 0x0204, 1, 1, .ro, .vo, 0⟩
def LN.FRM_STATUS_DEC_CLEAN (n : Nat) : Field := ⟨0x100000 + 0x10000 * n + 0x0204, 2, 1, .ro, .vo, 0⟩
def LN.FRM_STATUS_FRAME_LOSS (n : Nat) : Field := ⟨0x100000 + 0x10000 * n + 0x0204, 3, 1, .w1c, .ln, 0⟩
def LN.FRM_STATUS_SF_LOSS (n : Nat) : Field := ⟨0x100000 + 0x10000 * n + 0x0204, 4, 1, .w1c, .ln, 0⟩
def LN.DEC_WIN0_BITERR_LAST (n : Nat) : Field := ⟨0x100000 + 0x10000 * n + 0x0208, 0, 32, .ro, .ln, 0⟩
def LN.DEC_WIN1_FAIL_LAST (n : Nat) : Field := ⟨0x100000 + 0x10000 * n + 0x020C, 0, 32, .ro, .ln, 0⟩
def LN.DEC_WIN2_WIN_CNT (n : Nat) : Field := ⟨0x100000 + 0x10000 * n + 0x0210, 0, 32, .ro, .ln, 0⟩
def LN.LOC_CTRL_RETX_INT (n : Nat) : Field := ⟨0x100000 + 0x10000 * n + 0x0280, 0, 8, .rw, .dv, 0x20⟩
def LN.LOC_CTRL_RETX_MAX (n : Nat) : Field := ⟨0x100000 + 0x10000 * n + 0x0280, 8, 3, .rw, .dv, 0x3⟩
def LN.LOC_CTRL_STATS_EN (n : Nat) : Field := ⟨0x100000 + 0x10000 * n + 0x0280, 11, 1, .rw, .dv, 1⟩
def LN.LOC_CTRL_USER_ACK (n : Nat) : Field := ⟨0x100000 + 0x10000 * n + 0x0280, 12, 1, .rw, .dv, 1⟩
def LN.LOC_STATUS_RX_SEQ (n : Nat) : Field := ⟨0x100000 + 0x10000 * n + 0x0284, 0, 8, .ro, .vo, 0⟩
def LN.LOC_STATUS_PEER_STATE (n : Nat) : Field := ⟨0x100000 + 0x10000 * n + 0x0284, 8, 4, .ro, .vo, 0⟩
def LN.LOC_STATUS_PEER_FLAGS (n : Nat) : Field := ⟨0x100000 + 0x10000 * n + 0x0284, 16, 6, .ro, .vo, 0⟩
def LN.LOC_STATUS_CRC_ERR (n : Nat) : Field := ⟨0x100000 + 0x10000 * n + 0x0284, 24, 1, .w1c, .ln, 0⟩
def LN.LOC_STATUS_NOACK (n : Nat) : Field := ⟨0x100000 + 0x10000 * n + 0x0284, 25, 1, .w1c, .ln, 0⟩
def LN.LOC_STATUS_BAD_TYPE (n : Nat) : Field := ⟨0x100000 + 0x10000 * n + 0x0284, 26, 1, .w1c, .ln, 0⟩
def LN.LOC_STATUS_USER_RX (n : Nat) : Field := ⟨0x100000 + 0x10000 * n + 0x0284, 27, 1, .w1c, .ln, 0⟩
def LN.LOC_STATUS_TXQ_FULL (n : Nat) : Field := ⟨0x100000 + 0x10000 * n + 0x0284, 28, 1, .w1c, .ln, 0⟩
def LN.LOC_STATUS_USER_OVW (n : Nat) : Field := ⟨0x100000 + 0x10000 * n + 0x0284, 29, 1, .w1c, .ln, 0⟩
def LN.LOC_USER_TX_USER_TX (n i : Nat) : Field := ⟨0x100000 + 0x10000 * n + 0x0290 + 4 * i, 0, (if i = 3 then 16 else 32), .rw, .dv, 0⟩
def LN.LOC_USER_RX_USER_RX (n i : Nat) : Field := ⟨0x100000 + 0x10000 * n + 0x02A0 + 4 * i, 0, (if i = 3 then 16 else 32), .ro, .ln, 0⟩
def LN.LOC_USER_CMD_USER_SEND (n : Nat) : Field := ⟨0x100000 + 0x10000 * n + 0x02B0, 0, 1, .hsc, .vo, 0⟩
def LN.TX_CTRL_MOD_EN (n : Nat) : Field := ⟨0x100000 + 0x10000 * n + 0x0400, 0, 1, .wm, .dv, 1⟩
def LN.TX_CTRL_PD_EN (n : Nat) : Field := ⟨0x100000 + 0x10000 * n + 0x0400, 1, 1, .wm, .dv, 1⟩
def LN.TX_CTRL_TXC_EN (n : Nat) : Field := ⟨0x100000 + 0x10000 * n + 0x0400, 2, 1, .wm, .dv, 1⟩
def LN.TX_CTRL_SWING (n : Nat) : Field := ⟨0x100000 + 0x10000 * n + 0x0400, 4, 6, .wm, .dv, 0x1E⟩
def LN.TX_TXC_CFG_MAX_FIR (n : Nat) : Field := ⟨0x100000 + 0x10000 * n + 0x0404, 0, 4, .rw, .dv, 0x2⟩
def LN.TX_TXC_CFG_MAX_PD (n : Nat) : Field := ⟨0x100000 + 0x10000 * n + 0x0404, 4, 4, .rw, .dv, 0x4⟩
def LN.TX_TXC_CFG_MAX_SKEW (n : Nat) : Field := ⟨0x100000 + 0x10000 * n + 0x0404, 8, 4, .rw, .dv, 0x2⟩
def LN.TX_TXC_CFG_DRIFT_FIR (n : Nat) : Field := ⟨0x100000 + 0x10000 * n + 0x0404, 16, 8, .rw, .dv, 0x20⟩
def LN.TX_TXC_CFG_DRIFT_PD (n : Nat) : Field := ⟨0x100000 + 0x10000 * n + 0x0404, 24, 8, .rw, .dv, 0x40⟩
def LN.TX_STATUS_AMP_STATE (n : Nat) : Field := ⟨0x100000 + 0x10000 * n + 0x0408, 0, 2, .ro, .vo, 0⟩
def LN.TX_STATUS_SWING_EFF (n : Nat) : Field := ⟨0x100000 + 0x10000 * n + 0x0408, 2, 6, .ro, .ln, 0x1E⟩
def LN.TX_STATUS_SLEWING (n : Nat) : Field := ⟨0x100000 + 0x10000 * n + 0x0408, 8, 1, .ro, .vo, 0⟩
def LN.TX_STATUS_SWAP_PEND (n : Nat) : Field := ⟨0x100000 + 0x10000 * n + 0x0408, 9, 1, .ro, .vo, 0⟩
def LN.TX_STATUS_SHADOW_DIRTY (n : Nat) : Field := ⟨0x100000 + 0x10000 * n + 0x0408, 10, 1, .ro, .ln, 0⟩
def LN.TX_STATUS_DACCAL_BUSY (n : Nat) : Field := ⟨0x100000 + 0x10000 * n + 0x0408, 11, 1, .ro, .vo, 0⟩
def LN.TX_STATUS_CLIP (n : Nat) : Field := ⟨0x100000 + 0x10000 * n + 0x0408, 12, 1, .w1c, .ln, 0⟩
def LN.TX_STATUS_SWAP_REJ (n : Nat) : Field := ⟨0x100000 + 0x10000 * n + 0x0408, 13, 1, .w1c, .ln, 0⟩
def LN.TX_STATUS_DACCAL_CANCEL (n : Nat) : Field := ⟨0x100000 + 0x10000 * n + 0x0408, 14, 1, .w1c, .ln, 0⟩
def LN.TX_CMD_SWAP (n : Nat) : Field := ⟨0x100000 + 0x10000 * n + 0x040C, 0, 1, .hsc, .vo, 0⟩
def LN.TX_CMD_SHADOW_LOAD (n : Nat) : Field := ⟨0x100000 + 0x10000 * n + 0x040C, 1, 1, .hsc, .vo, 0⟩
def LN.TX_CMD_CNT_CLR (n : Nat) : Field := ⟨0x100000 + 0x10000 * n + 0x040C, 2, 1, .hsc, .vo, 0⟩
def LN.TX_TXC_CNT0_APPLIED_CNT (n : Nat) : Field := ⟨0x100000 + 0x10000 * n + 0x0410, 0, 16, .ro, .ln, 0⟩
def LN.TX_TXC_CNT0_CLIPPED_CNT (n : Nat) : Field := ⟨0x100000 + 0x10000 * n + 0x0410, 16, 16, .ro, .ln, 0⟩
def LN.TX_TXC_CNT1_DEFERRED_CNT (n : Nat) : Field := ⟨0x100000 + 0x10000 * n + 0x0414, 0, 16, .ro, .ln, 0⟩
def LN.TX_TXC_CNT1_REFUSED_CNT (n : Nat) : Field := ⟨0x100000 + 0x10000 * n + 0x0414, 16, 16, .ro, .ln, 0⟩
def LN.TX_CLIP_CNT_CLIP_CNT (n : Nat) : Field := ⟨0x100000 + 0x10000 * n + 0x0418, 0, 32, .ro, .ln, 0⟩
def LN.TX_TXC_LAST_TAG (n : Nat) : Field := ⟨0x100000 + 0x10000 * n + 0x041C, 0, 8, .ro, .ln, 0⟩
def LN.TX_TXC_LAST_RESULT (n : Nat) : Field := ⟨0x100000 + 0x10000 * n + 0x041C, 8, 8, .ro, .ln, 0⟩
def LN.TX_TXC_LAST_ITEMS (n : Nat) : Field := ⟨0x100000 + 0x10000 * n + 0x041C, 16, 3, .ro, .ln, 0⟩
def LN.TX_DACCAL_STEP_ID (n : Nat) : Field := ⟨0x100000 + 0x10000 * n + 0x0420, 0, 8, .ro, .ln, 0⟩
def LN.TX_DACCAL_COUNTDOWN (n : Nat) : Field := ⟨0x100000 + 0x10000 * n + 0x0420, 8, 4, .ro, .vo, 0⟩
def LN.TX_DACCAL_DACCAL_CNT (n : Nat) : Field := ⟨0x100000 + 0x10000 * n + 0x0420, 16, 16, .ro, .ln, 0⟩
def LN.TX_SINCE_TXC_SINCE_TXC (n : Nat) : Field := ⟨0x100000 + 0x10000 * n + 0x0424, 0, 17, .ro, .ln, 0x10000⟩
def LN.TXT_ADDR_ADDR (n : Nat) : Field := ⟨0x100000 + 0x10000 * n + 0x0440, 0, 16, .rw, .vo, 0⟩
def LN.TXT_ADDR_STRIDE (n : Nat) : Field := ⟨0x100000 + 0x10000 * n + 0x0440, 16, 8, .rw, .vo, 0x04⟩
def LN.TXT_DATA_DATA (n : Nat) : Field := ⟨0x100000 + 0x10000 * n + 0x0444, 0, 32, .ix, .vo, 0⟩
def LN.CAP_PORT_PORT (n : Nat) : Field := ⟨0x100000 + 0x10000 * n + 0xF100, 0, 32, .ro, .vo, 0⟩

/-- Every field of block LN. -/
def LN.fields (n : Nat) : List Field :=
  [LN.GBX_MAP_HOST_A n, LN.GBX_MAP_HOST_B n, LN.GBX_MAP_TIMING_SEL n, LN.GBX_MAP_MAP_VALID n, LN.GBX_STATUS_SKEW n, LN.GBX_STATUS_SKEW_ERR n, LN.GBX_STATUS_SLIP n, LN.GBX_STATUS_HOLDOVER n, LN.GBX_STATUS_SLIP_CNT n, LN.AFE_CTRL_AGC_MODE n, LN.AFE_CTRL_AGC_SET n, LN.AFE_CTRL_OVR_BACKOFF_EN n] ++
  [LN.AFE_CTRL_KTAP_EN n, LN.AFE_CTRL_LOS_EN n, LN.AGC_CFG_TARGET n, LN.AGC_CFG_INTERVAL n, LN.AGC_CFG_HOLDOFF n, LN.AGC_CFG_LOS_LEVEL n, LN.AGC_STATUS_GAIN n, LN.AGC_STATUS_AT_FLOOR n, LN.AGC_STATUS_COMP_ACTIVE n, LN.AGC_STATUS_BACKOFF_CNT n, LN.RX_STATUS_OVR n, LN.RX_STATUS_OVR_GROSS n] ++
  [LN.RX_STATUS_OVR_RATE n, LN.RX_STATUS_LOS n, LN.RX_STATUS_KTAP_OVR n, LN.RX_STATUS_DCR_BUSY n, LN.RX_STATUS_LOS_NOW n, LN.RX_STATUS_SUSPECT_ANY n, LN.RX_OVR_CNT_OVR_CNT n, LN.RX_GROSS_CNT_GROSS_CNT n, LN.RX_CMD_CNT_CLR n, LN.RX_CMD_AGC_RESTART n, LN.KTAP_AVG_AVG n, LN.KTAP_AVG_VALID n] ++
  [LN.SLC_ADDR_ADDR n, LN.SLC_ADDR_STRIDE n, LN.SLC_DATA_DATA n, LN.EQ_MODE_MLSE_16 n, LN.EQ_MODE_VOLT_EN n, LN.EQ_MODE_TWO_PASS n, LN.EQ_MODE_FREEZE_FFE n, LN.EQ_MODE_FREEZE_VOLT n, LN.EQ_MODE_FREEZE_TGT n, LN.EQ_STEP_STEP_FFE n, LN.EQ_STEP_STEP_VOLT n, LN.EQ_STEP_STEP_TGT n] ++
  [LN.EQ_STEP_STEP_CMA n, LN.EQ_STEP_BOOST_ADD n, LN.EQ_STEP_BOOST_WIN n, LN.EQ_GUARD_GUARD_FAIL n, LN.EQ_GUARD_PRIOR_WT n, LN.EQ_GUARD_LLR_SCALE n, LN.EQ_GUARD_SHED_MARGIN n, LN.EQ_STATUS_EFF_16 n, LN.EQ_STATUS_EFF_VOLT n, LN.EQ_STATUS_EFF_PASSES n, LN.EQ_STATUS_LAT_CLASS n, LN.EQ_STATUS_ADAPT_STATE n] ++
  [LN.EQ_STATUS_FREEZE_SRC n, LN.EQ_STATUS_BOOST_ACTIVE n, LN.EQ_STATUS_SHED_HELD n, LN.EQ_STATUS_PRESHED_BUSY n, LN.EQ_STATUS_TAP_COUNT n, LN.EQ_EVENTS_TAP_LAYOUT_ERR n, LN.EQ_EVENTS_GUARD_FREEZE n, LN.EQ_EVENTS_SHED_UNSAFE n, LN.EQ_EVENTS_COEF_LIMIT n, LN.EQ_CNT_GUARD_CNT n, LN.EQ_CNT_BOOST_CNT n, LN.EQC_ADDR_ADDR n] ++
  [LN.EQC_ADDR_STRIDE n, LN.EQC_DATA_DATA n, LN.FRM_CTRL_BETA n, LN.FRM_CTRL_SCR_EN n, LN.FRM_STATUS_FRAME_LOCK n, LN.FRM_STATUS_SF_LOCK n, LN.FRM_STATUS_DEC_CLEAN n, LN.FRM_STATUS_FRAME_LOSS n, LN.FRM_STATUS_SF_LOSS n, LN.DEC_WIN0_BITERR_LAST n, LN.DEC_WIN1_FAIL_LAST n, LN.DEC_WIN2_WIN_CNT n] ++
  [LN.LOC_CTRL_RETX_INT n, LN.LOC_CTRL_RETX_MAX n, LN.LOC_CTRL_STATS_EN n, LN.LOC_CTRL_USER_ACK n, LN.LOC_STATUS_RX_SEQ n, LN.LOC_STATUS_PEER_STATE n, LN.LOC_STATUS_PEER_FLAGS n, LN.LOC_STATUS_CRC_ERR n, LN.LOC_STATUS_NOACK n, LN.LOC_STATUS_BAD_TYPE n, LN.LOC_STATUS_USER_RX n, LN.LOC_STATUS_TXQ_FULL n] ++
  [LN.LOC_STATUS_USER_OVW n, LN.LOC_USER_CMD_USER_SEND n, LN.TX_CTRL_MOD_EN n, LN.TX_CTRL_PD_EN n, LN.TX_CTRL_TXC_EN n, LN.TX_CTRL_SWING n, LN.TX_TXC_CFG_MAX_FIR n, LN.TX_TXC_CFG_MAX_PD n, LN.TX_TXC_CFG_MAX_SKEW n, LN.TX_TXC_CFG_DRIFT_FIR n, LN.TX_TXC_CFG_DRIFT_PD n, LN.TX_STATUS_AMP_STATE n] ++
  [LN.TX_STATUS_SWING_EFF n, LN.TX_STATUS_SLEWING n, LN.TX_STATUS_SWAP_PEND n, LN.TX_STATUS_SHADOW_DIRTY n, LN.TX_STATUS_DACCAL_BUSY n, LN.TX_STATUS_CLIP n, LN.TX_STATUS_SWAP_REJ n, LN.TX_STATUS_DACCAL_CANCEL n, LN.TX_CMD_SWAP n, LN.TX_CMD_SHADOW_LOAD n, LN.TX_CMD_CNT_CLR n, LN.TX_TXC_CNT0_APPLIED_CNT n] ++
  [LN.TX_TXC_CNT0_CLIPPED_CNT n, LN.TX_TXC_CNT1_DEFERRED_CNT n, LN.TX_TXC_CNT1_REFUSED_CNT n, LN.TX_CLIP_CNT_CLIP_CNT n, LN.TX_TXC_LAST_TAG n, LN.TX_TXC_LAST_RESULT n, LN.TX_TXC_LAST_ITEMS n, LN.TX_DACCAL_STEP_ID n, LN.TX_DACCAL_COUNTDOWN n, LN.TX_DACCAL_DACCAL_CNT n, LN.TX_SINCE_TXC_SINCE_TXC n, LN.TXT_ADDR_ADDR n] ++
  [LN.TXT_ADDR_STRIDE n, LN.TXT_DATA_DATA n, LN.CAP_PORT_PORT n] ++
  (List.range 5).flatMap (fun s => [LN.TAP_MAP_BLOCK n s, LN.TAP_MAP_VALID n s]) ++
  (List.range 4).flatMap (fun i => [LN.LOC_USER_TX_USER_TX n i, LN.LOC_USER_RX_USER_RX n i]) ++
  PRBS.fields (0x100000 + 0x10000 * n + 0x0600)

/-! ### HL -/

def HL.RX_CTRL_FREEZE_FFE (n : Nat) : Field := ⟨0x180000 + 0x4000 * n + 0x0000, 0, 1, .wm, .dv, 0⟩
def HL.RX_CTRL_FREEZE_DFE (n : Nat) : Field := ⟨0x180000 + 0x4000 * n + 0x0000, 1, 1, .wm, .dv, 0⟩
def HL.RX_CTRL_CTLE_AUTO (n : Nat) : Field := ⟨0x180000 + 0x4000 * n + 0x0000, 2, 1, .wm, .dv, 1⟩
def HL.RX_CTRL_CTLE (n : Nat) : Field := ⟨0x180000 + 0x4000 * n + 0x0000, 3, 4, .wm, .dv, 0x6⟩
def HL.RX_CTRL_RX_PRECODE (n : Nat) : Field := ⟨0x180000 + 0x4000 * n + 0x0000, 7, 1, .wm, .dv, 0⟩
def HL.RX_CTRL_RX_INV (n : Nat) : Field := ⟨0x180000 + 0x4000 * n + 0x0000, 8, 1, .wm, .dv, 0⟩
def HL.RX_CFG_STEP_FFE (n : Nat) : Field := ⟨0x180000 + 0x4000 * n + 0x0004, 0, 4, .rw, .dv, 0x6⟩
def HL.RX_CFG_STEP_DFE (n : Nat) : Field := ⟨0x180000 + 0x4000 * n + 0x0004, 4, 4, .rw, .dv, 0x6⟩
def HL.RX_CFG_SD_LEVEL (n : Nat) : Field := ⟨0x180000 + 0x4000 * n + 0x0004, 8, 8, .rw, .dv, 0x28⟩
def HL.RX_CFG_RETRAIN_HOLD (n : Nat) : Field := ⟨0x180000 + 0x4000 * n + 0x0004, 16, 8, .rw, .dv, 0x0A⟩
def HL.RX_STATUS_SD_NOW (n : Nat) : Field := ⟨0x180000 + 0x4000 * n + 0x0008, 0, 1, .ro, .vo, 0⟩
def HL.RX_STATUS_CDR_LOCK (n : Nat) : Field := ⟨0x180000 + 0x4000 * n + 0x0008, 1, 1, .ro, .vo, 0⟩
def HL.RX_STATUS_HOST_LOS (n : Nat) : Field := ⟨0x180000 + 0x4000 * n + 0x0008, 2, 1, .w1c, .ln, 0⟩
def HL.RX_STATUS_CDR_LOSS (n : Nat) : Field := ⟨0x180000 + 0x4000 * n + 0x0008, 3, 1, .w1c, .ln, 0⟩
def HL.RX_STATUS_ADAPT_STATE (n : Nat) : Field := ⟨0x180000 + 0x4000 * n + 0x0008, 4, 2, .ro, .vo, 0⟩
def HL.RX_STATUS_CTLE_EFF (n : Nat) : Field := ⟨0x180000 + 0x4000 * n + 0x0008, 12, 4, .ro, .ln, 0⟩
def HL.RX_STATUS_MSE_EST (n : Nat) : Field := ⟨0x180000 + 0x4000 * n + 0x0008, 16, 8, .ro, .vo, 0⟩
def HL.RX_CNT_LOS_CNT (n : Nat) : Field := ⟨0x180000 + 0x4000 * n + 0x000C, 0, 16, .ro, .ln, 0⟩
def HL.RX_CNT_CDR_LOSS_CNT (n : Nat) : Field := ⟨0x180000 + 0x4000 * n + 0x000C, 16, 16, .ro, .ln, 0⟩
def HL.CMD_CNT_CLR (n : Nat) : Field := ⟨0x180000 + 0x4000 * n + 0x0010, 0, 1, .hsc, .vo, 0⟩
def HL.CMD_RETRAIN (n : Nat) : Field := ⟨0x180000 + 0x4000 * n + 0x0010, 1, 1, .hsc, .vo, 0⟩
def HL.RXC_ADDR_ADDR (n : Nat) : Field := ⟨0x180000 + 0x4000 * n + 0x0040, 0, 16, .rw, .vo, 0⟩
def HL.RXC_ADDR_STRIDE (n : Nat) : Field := ⟨0x180000 + 0x4000 * n + 0x0040, 16, 8, .rw, .vo, 0x04⟩
def HL.RXC_DATA_DATA (n : Nat) : Field := ⟨0x180000 + 0x4000 * n + 0x0044, 0, 32, .ix, .vo, 0⟩
def HL.TX_CTRL_FILL (n : Nat) : Field := ⟨0x180000 + 0x4000 * n + 0x0100, 0, 2, .wm, .dv, 0⟩
def HL.TX_CTRL_TX_PRECODE (n : Nat) : Field := ⟨0x180000 + 0x4000 * n + 0x0100, 2, 1, .wm, .dv, 0⟩
def HL.TX_CTRL_TX_INV (n : Nat) : Field := ⟨0x180000 + 0x4000 * n + 0x0100, 3, 1, .wm, .dv, 0⟩
def HL.TX_CTRL_AMP (n : Nat) : Field := ⟨0x180000 + 0x4000 * n + 0x0100, 4, 4, .wm, .dv, 0xC⟩
def HL.TX_CTRL_TX_EN (n : Nat) : Field := ⟨0x180000 + 0x4000 * n + 0x0100, 8, 1, .wm, .dv, 1⟩
def HL.TX_STATUS_SOURCE (n : Nat) : Field := ⟨0x180000 + 0x4000 * n + 0x0104, 0, 2, .ro, .vo, 0⟩
def HL.TX_STATUS_PRESET_REJ (n : Nat) : Field := ⟨0x180000 + 0x4000 * n + 0x0104, 2, 1, .w1c, .ln, 0⟩
def HL.TX_STATUS_SLEWING (n : Nat) : Field := ⟨0x180000 + 0x4000 * n + 0x0104, 3, 1, .ro, .vo, 0⟩
def HL.TX_MAN_C (n i : Nat) : Field := ⟨0x180000 + 0x4000 * n + 0x0110 + 4 * (i / 3), 10*(i%3), 10, .rw, .dv, (presetReset 0 i)⟩
def HL.TX_ACT_C (n i : Nat) : Field := ⟨0x180000 + 0x4000 * n + 0x0118 + 4 * (i / 3), 10*(i%3), 10, .ro, .ln, (presetReset 0 i)⟩
def HL.TX_PRESET_C (n k i : Nat) : Field := ⟨0x180000 + 0x4000 * n + 0x0140 + 8 * k + 4 * (i / 3), 10*(i%3), 10, .rw, .dv, (presetReset k i)⟩
def HL.TRN_CTRL_TRN_EN (n : Nat) : Field := ⟨0x180000 + 0x4000 * n + 0x0200, 0, 1, .wm, .dv, 1⟩
def HL.TRN_CTRL_OFFER_IN_TRAFFIC (n : Nat) : Field := ⟨0x180000 + 0x4000 * n + 0x0200, 1, 1, .wm, .dv, 0⟩
def HL.TRN_CTRL_TX_INIT_PRESET (n : Nat) : Field := ⟨0x180000 + 0x4000 * n + 0x0200, 2, 3, .wm, .dv, 1⟩
def HL.TRN_CTRL_REQ_INIT_PRESET (n : Nat) : Field := ⟨0x180000 + 0x4000 * n + 0x0200, 5, 3, .wm, .dv, 1⟩
def HL.TRN_CTRL_REQ_PRECODE (n : Nat) : Field := ⟨0x180000 + 0x4000 * n + 0x0200, 8, 1, .wm, .dv, 1⟩
def HL.TRN_CFG_NO_PARTNER_TMO (n : Nat) : Field := ⟨0x180000 + 0x4000 * n + 0x0204, 0, 10, .rw, .dv, 0x1F4⟩
def HL.TRN_CFG_OFFER_INT (n : Nat) : Field := ⟨0x180000 + 0x4000 * n + 0x0204, 10, 10, .rw, .dv, 0x064⟩
def HL.TRN_CFG_TRAIN_MAX (n : Nat) : Field := ⟨0x180000 + 0x4000 * n + 0x0204, 20, 12, .rw, .dv, 0x12C⟩
def HL.TRN_CFG2_MAX_REQ (n : Nat) : Field := ⟨0x180000 + 0x4000 * n + 0x0208, 0, 8, .rw, .dv, 0xC8⟩
def HL.TRN_CFG2_TRN_STEP (n : Nat) : Field := ⟨0x180000 + 0x4000 * n + 0x0208, 8, 4, .rw, .dv, 0x2⟩
def HL.TRN_CFG2_OFFER_WIN (n : Nat) : Field := ⟨0x180000 + 0x4000 * n + 0x0208, 16, 8, .rw, .dv, 0x05⟩
def HL.TRN_STATUS_STATE (n : Nat) : Field := ⟨0x180000 + 0x4000 * n + 0x020C, 0, 3, .ro, .ln, 0⟩
def HL.TRN_STATUS_LOCAL_READY (n : Nat) : Field := ⟨0x180000 + 0x4000 * n + 0x020C, 3, 1, .ro, .vo, 0⟩
def HL.TRN_STATUS_PARTNER_READY (n : Nat) : Field := ⟨0x180000 + 0x4000 * n + 0x020C, 4, 1, .ro, .vo, 0⟩
def HL.TRN_STATUS_TRAIN_DONE (n : Nat) : Field := ⟨0x180000 + 0x4000 * n + 0x020C, 5, 1, .w1c, .ln, 0⟩
def HL.TRN_STATUS_TRAIN_NO_PARTNER (n : Nat) : Field := ⟨0x180000 + 0x4000 * n + 0x020C, 6, 1, .w1c, .ln, 0⟩
def HL.TRN_STATUS_TRAIN_ABORT_SD (n : Nat) : Field := ⟨0x180000 + 0x4000 * n + 0x020C, 7, 1, .w1c, .ln, 0⟩
def HL.TRN_STATUS_TRAIN_FAIL (n : Nat) : Field := ⟨0x180000 + 0x4000 * n + 0x020C, 8, 1, .w1c, .ln, 0⟩
def HL.TRN_STATUS_PRECODE_TX (n : Nat) : Field := ⟨0x180000 + 0x4000 * n + 0x020C, 9, 1, .ro, .ln, 0⟩
def HL.TRN_STATUS_PRECODE_RX (n : Nat) : Field := ⟨0x180000 + 0x4000 * n + 0x020C, 10, 1, .ro, .ln, 0⟩
def HL.TRN_CNT_NO_PARTNER_CNT (n : Nat) : Field := ⟨0x180000 + 0x4000 * n + 0x0210, 0, 8, .ro, .ln, 0⟩
def HL.TRN_CNT_ABORT_SD_CNT (n : Nat) : Field := ⟨0x180000 + 0x4000 * n + 0x0210, 8, 8, .ro, .ln, 0⟩
def HL.TRN_CNT_FAIL_CNT (n : Nat) : Field := ⟨0x180000 + 0x4000 * n + 0x0210, 16, 8, .ro, .ln, 0⟩
def HL.TRN_CNT_DONE_CNT (n : Nat) : Field := ⟨0x180000 + 0x4000 * n + 0x0210, 24, 8, .ro, .ln, 0⟩
def HL.TRN_TIME_LAST_DUR (n : Nat) : Field := ⟨0x180000 + 0x4000 * n + 0x0214, 0, 16, .ro, .ln, 0⟩

/-- Every field of block HL. -/
def HL.fields (n : Nat) : List Field :=
  [HL.RX_CTRL_FREEZE_FFE n, HL.RX_CTRL_FREEZE_DFE n, HL.RX_CTRL_CTLE_AUTO n, HL.RX_CTRL_CTLE n, HL.RX_CTRL_RX_PRECODE n, HL.RX_CTRL_RX_INV n, HL.RX_CFG_STEP_FFE n, HL.RX_CFG_STEP_DFE n, HL.RX_CFG_SD_LEVEL n, HL.RX_CFG_RETRAIN_HOLD n, HL.RX_STATUS_SD_NOW n, HL.RX_STATUS_CDR_LOCK n] ++
  [HL.RX_STATUS_HOST_LOS n, HL.RX_STATUS_CDR_LOSS n, HL.RX_STATUS_ADAPT_STATE n, HL.RX_STATUS_CTLE_EFF n, HL.RX_STATUS_MSE_EST n, HL.RX_CNT_LOS_CNT n, HL.RX_CNT_CDR_LOSS_CNT n, HL.CMD_CNT_CLR n, HL.CMD_RETRAIN n, HL.RXC_ADDR_ADDR n, HL.RXC_ADDR_STRIDE n, HL.RXC_DATA_DATA n] ++
  [HL.TX_CTRL_FILL n, HL.TX_CTRL_TX_PRECODE n, HL.TX_CTRL_TX_INV n, HL.TX_CTRL_AMP n, HL.TX_CTRL_TX_EN n, HL.TX_STATUS_SOURCE n, HL.TX_STATUS_PRESET_REJ n, HL.TX_STATUS_SLEWING n, HL.TRN_CTRL_TRN_EN n, HL.TRN_CTRL_OFFER_IN_TRAFFIC n, HL.TRN_CTRL_TX_INIT_PRESET n, HL.TRN_CTRL_REQ_INIT_PRESET n] ++
  [HL.TRN_CTRL_REQ_PRECODE n, HL.TRN_CFG_NO_PARTNER_TMO n, HL.TRN_CFG_OFFER_INT n, HL.TRN_CFG_TRAIN_MAX n, HL.TRN_CFG2_MAX_REQ n, HL.TRN_CFG2_TRN_STEP n, HL.TRN_CFG2_OFFER_WIN n, HL.TRN_STATUS_STATE n, HL.TRN_STATUS_LOCAL_READY n, HL.TRN_STATUS_PARTNER_READY n, HL.TRN_STATUS_TRAIN_DONE n, HL.TRN_STATUS_TRAIN_NO_PARTNER n] ++
  [HL.TRN_STATUS_TRAIN_ABORT_SD n, HL.TRN_STATUS_TRAIN_FAIL n, HL.TRN_STATUS_PRECODE_TX n, HL.TRN_STATUS_PRECODE_RX n, HL.TRN_CNT_NO_PARTNER_CNT n, HL.TRN_CNT_ABORT_SD_CNT n, HL.TRN_CNT_FAIL_CNT n, HL.TRN_CNT_DONE_CNT n, HL.TRN_TIME_LAST_DUR n] ++
  (List.range 6).flatMap (fun i => [HL.TX_MAN_C n i, HL.TX_ACT_C n i]) ++
  (List.range 5).flatMap (fun k => (List.range 6).flatMap (fun i => [HL.TX_PRESET_C n k i])) ++
  PRBS.fields (0x180000 + 0x4000 * n + 0x0400)

/-! ### LST -/

def LST.CTRL_SNAP : Field := ⟨0x70000 + 0x0000, 0, 1, .hsc, .vo, 0⟩
def LST.CTRL_CLR_ON_SNAP : Field := ⟨0x70000 + 0x0000, 1, 1, .rw, .dv, 0⟩
def LST.STATUS_SNAP_SEQ : Field := ⟨0x70000 + 0x0004, 0, 16, .ro, .dv, 0⟩
def LST.STATUS_SNAP_BUSY : Field := ⟨0x70000 + 0x0004, 16, 1, .ro, .vo, 0⟩
def LST.SNAP_TIME0_TIME_LO : Field := ⟨0x70000 + 0x0008, 0, 32, .ro, .dv, 0⟩
def LST.SNAP_TIME1_TIME_HI : Field := ⟨0x70000 + 0x000C, 0, 16, .ro, .dv, 0⟩
def LST.CW_TOTAL_W (n h : Nat) : Field := ⟨0x70000 + 0x0100 + 0x80 * n + 4 * h, 0, 32, .ro, .ln, 0⟩
def LST.CW_CORR_W (n h : Nat) : Field := ⟨0x70000 + 0x0108 + 0x80 * n + 4 * h, 0, 32, .ro, .ln, 0⟩
def LST.CW_FAIL_W (n h : Nat) : Field := ⟨0x70000 + 0x0110 + 0x80 * n + 4 * h, 0, 32, .ro, .ln, 0⟩
def LST.BIT_CORR_W (n h : Nat) : Field := ⟨0x70000 + 0x0118 + 0x80 * n + 4 * h, 0, 32, .ro, .ln, 0⟩
def LST.SF_OK_LOC_SF_OK (n : Nat) : Field := ⟨0x70000 + 0x0120 + 0x80 * n, 0, 32, .ro, .ln, 0⟩
def LST.SF_CRC_LOC_CRC_ERR (n : Nat) : Field := ⟨0x70000 + 0x0124 + 0x80 * n, 0, 32, .ro, .ln, 0⟩
def LST.LOC_ERR_BAD_TYPE (n : Nat) : Field := ⟨0x70000 + 0x0128 + 0x80 * n, 0, 16, .ro, .ln, 0⟩
def LST.LOC_ERR_NOACK (n : Nat) : Field := ⟨0x70000 + 0x0128 + 0x80 * n, 16, 16, .ro, .ln, 0⟩
def LST.LOCK_LOSS_FRAME (n : Nat) : Field := ⟨0x70000 + 0x012C + 0x80 * n, 0, 16, .ro, .ln, 0⟩
def LST.LOCK_LOSS_SF (n : Nat) : Field := ⟨0x70000 + 0x012C + 0x80 * n, 16, 16, .ro, .ln, 0⟩
def LST.MARKER_LOC_MARKER_ERR (n : Nat) : Field := ⟨0x70000 + 0x0130 + 0x80 * n, 0, 16, .ro, .ln, 0⟩
def LST.KP4_CFG_ILV (j : Nat) : Field := ⟨0x70000 + 0x0800 + 4 * j, 0, 2, .rw, .dv, 0x1⟩
def LST.KP4_CFG_MON_EN (j : Nat) : Field := ⟨0x70000 + 0x0800 + 4 * j, 2, 1, .rw, .dv, 1⟩
def LST.KP4_STATUS_AM_LOCK (j d : Nat) : Field := ⟨0x70000 + 0x1000 + 0x200 * j + 0x100 * d, 0, 1, .ro, .vo, 0⟩
def LST.KP4_STATUS_AM_LOSS (j d : Nat) : Field := ⟨0x70000 + 0x1000 + 0x200 * j + 0x100 * d, 1, 1, .w1c, .ln, 0⟩
def LST.KP4_LOSS_AM_LOSS_CNT (j d : Nat) : Field := ⟨0x70000 + 0x1004 + 0x200 * j + 0x100 * d, 0, 16, .ro, .ln, 0⟩
def LST.KP4_CW_TOTAL_W (j d h : Nat) : Field := ⟨0x70000 + 0x1008 + 0x200 * j + 0x100 * d + 4 * h, 0, (if h = 1 then 16 else 32), .ro, .ln, 0⟩
def LST.KP4_CW_UNCORR_W (j d h : Nat) : Field := ⟨0x70000 + 0x1010 + 0x200 * j + 0x100 * d + 4 * h, 0, (if h = 1 then 16 else 32), .ro, .ln, 0⟩
def LST.KP4_SYM_CORR_W (j d h : Nat) : Field := ⟨0x70000 + 0x1018 + 0x200 * j + 0x100 * d + 4 * h, 0, (if h = 1 then 16 else 32), .ro, .ln, 0⟩
def LST.KP4_TAIL_W (j d k h : Nat) : Field := ⟨0x70000 + 0x1040 + 0x200 * j + 0x100 * d + 8 * k + 4 * h, 0, (if h = 1 then 16 else 32), .ro, .ln, 0⟩

/-- Every field of block LST. -/
def LST.fields : List Field :=
  [LST.CTRL_SNAP, LST.CTRL_CLR_ON_SNAP, LST.STATUS_SNAP_SEQ, LST.STATUS_SNAP_BUSY, LST.SNAP_TIME0_TIME_LO, LST.SNAP_TIME1_TIME_HI] ++
  (List.range 8).flatMap (fun n => (List.range 2).flatMap (fun h => [LST.CW_TOTAL_W n h, LST.CW_CORR_W n h, LST.CW_FAIL_W n h, LST.BIT_CORR_W n h])) ++
  (List.range 8).flatMap (fun n => [LST.SF_OK_LOC_SF_OK n, LST.SF_CRC_LOC_CRC_ERR n, LST.LOC_ERR_BAD_TYPE n, LST.LOC_ERR_NOACK n, LST.LOCK_LOSS_FRAME n, LST.LOCK_LOSS_SF n, LST.MARKER_LOC_MARKER_ERR n]) ++
  (List.range 16).flatMap (fun j => [LST.KP4_CFG_ILV j, LST.KP4_CFG_MON_EN j]) ++
  (List.range 16).flatMap (fun j => (List.range 2).flatMap (fun d => [LST.KP4_STATUS_AM_LOCK j d, LST.KP4_STATUS_AM_LOSS j d, LST.KP4_LOSS_AM_LOSS_CNT j d])) ++
  (List.range 16).flatMap (fun j => (List.range 2).flatMap (fun d => (List.range 2).flatMap (fun h => [LST.KP4_CW_TOTAL_W j d h, LST.KP4_CW_UNCORR_W j d h, LST.KP4_SYM_CORR_W j d h]))) ++
  (List.range 16).flatMap (fun j => (List.range 2).flatMap (fun d => (List.range 16).flatMap (fun k => (List.range 2).flatMap (fun h => [LST.KP4_TAIL_W j d k h]))))

/-! ### CAL -/

def CAL.CTRL_BG_EN : Field := ⟨0xD0000 + 0x0000, 0, 1, .wm, .dv, 1⟩
def CAL.CTRL_REFINE_EN : Field := ⟨0xD0000 + 0x0000, 1, 1, .wm, .dv, 1⟩
def CAL.CTRL_TEMP_EN : Field := ⟨0xD0000 + 0x0000, 2, 1, .wm, .dv, 1⟩
def CAL.CTRL_DACBG_EN : Field := ⟨0xD0000 + 0x0000, 3, 1, .wm, .dv, 1⟩
def CAL.CTRL_SEED_START : Field := ⟨0xD0000 + 0x0000, 4, 1, .wm, .dv, 1⟩
def CAL.CTRL_CAPTURE_EN : Field := ⟨0xD0000 + 0x0000, 5, 1, .wm, .dv, 1⟩
def CAL.LIMIT0_GAIN_MIN : Field := ⟨0xD0000 + 0x0010, 0, 16, .rw, .dv, 0x3333⟩
def CAL.LIMIT0_GAIN_MAX : Field := ⟨0xD0000 + 0x0010, 16, 16, .rw, .dv, 0x5000⟩
def CAL.LIMIT1_OFFSET_LIM : Field := ⟨0xD0000 + 0x0014, 0, 11, .rw, .dv, 0x300⟩
def CAL.LIMIT1_SKEW_LIM : Field := ⟨0xD0000 + 0x0014, 16, 9, .rw, .dv, 0x096⟩
def CAL.LIMIT2_BW_LIM : Field := ⟨0xD0000 + 0x0018, 0, 11, .rw, .dv, 0x320⟩
def CAL.LIMIT2_PD_LIM : Field := ⟨0xD0000 + 0x0018, 16, 4, .rw, .dv, 0x4⟩
def CAL.LIMIT3_DGAIN_DEV : Field := ⟨0xD0000 + 0x001C, 0, 8, .rw, .dv, 0x66⟩
def CAL.LIMIT3_DOFF_LIM : Field := ⟨0xD0000 + 0x001C, 8, 7, .rw, .dv, 0x40⟩
def CAL.TEMP_CAL_DT : Field := ⟨0xD0000 + 0x0020, 0, 8, .rw, .dv, 0x20⟩
def CAL.TEMP_RATE_FAST : Field := ⟨0xD0000 + 0x0020, 8, 8, .rw, .dv, 0x10⟩
def CAL.TEMP_ROT_GAP : Field := ⟨0xD0000 + 0x0020, 16, 16, .rw, .dv, 0x000F⟩
def CAL.REFINE_REFINE_LOG2 : Field := ⟨0xD0000 + 0x0024, 0, 5, .rw, .dv, 0x14⟩
def CAL.REFINE_WIN_FRAMES : Field := ⟨0xD0000 + 0x0024, 8, 2, .rw, .dv, 0x2⟩
def CAL.REFINE_DAC_INT : Field := ⟨0xD0000 + 0x0024, 16, 16, .rw, .dv, 0x4000⟩
def CAL.SET_BASE_BASE : Field := ⟨0xD0000 + 0x0028, 0, 32, .rw, .dv, 0x10FE0000⟩
def CAL.PAIR_PAIR_ID (k : Nat) : Field := ⟨0xD0000 + 0x0040 + 4 * k, 0, 6, .ro, .dv, 0⟩
def CAL.PAIR_PAIRED (k : Nat) : Field := ⟨0xD0000 + 0x0040 + 4 * k, 6, 1, .ro, .dv, 0⟩
def CAL.TOKEN_STATUS_HELD : Field := ⟨0xD0000 + 0x0060, 0, 8, .ro, .vo, 0⟩
def CAL.TOKEN_STATUS_WAITING : Field := ⟨0xD0000 + 0x0060, 8, 8, .ro, .vo, 0⟩
def CAL.TOKEN_STATUS_LOST : Field := ⟨0xD0000 + 0x0060, 16, 8, .w1c, .dv, 0⟩
def CAL.TOKEN_CNT_WAIT_CNT : Field := ⟨0xD0000 + 0x0064, 0, 16, .ro, .dv, 0⟩
def CAL.TOKEN_CNT_EXPIRE_CNT : Field := ⟨0xD0000 + 0x0064, 16, 16, .ro, .dv, 0⟩
def CAL.LANE_STATUS_MODE (n : Nat) : Field := ⟨0xD0000 + 0x0100 + 0x40 * n, 0, 3, .ro, .vo, 0⟩
def CAL.LANE_STATUS_SLOT (n : Nat) : Field := ⟨0xD0000 + 0x0100 + 0x40 * n, 4, 7, .ro, .vo, 0⟩
def CAL.LANE_STATUS_SLOT_ACTIVE (n : Nat) : Field := ⟨0xD0000 + 0x0100 + 0x40 * n, 11, 1, .ro, .vo, 0⟩
def CAL.LANE_STATUS_SPARE_USED (n : Nat) : Field := ⟨0xD0000 + 0x0100 + 0x40 * n, 12, 1, .ro, .ln, 0⟩
def CAL.LANE_STATUS_REFRESH_PEND (n : Nat) : Field := ⟨0xD0000 + 0x0100 + 0x40 * n, 13, 1, .ro, .vo, 0⟩
def CAL.LANE_STATUS_RAMPING (n : Nat) : Field := ⟨0xD0000 + 0x0100 + 0x40 * n, 14, 1, .ro, .vo, 0⟩
def CAL.LANE_STATUS_TOKEN_WAIT (n : Nat) : Field := ⟨0xD0000 + 0x0100 + 0x40 * n, 15, 1, .ro, .vo, 0⟩
def CAL.LANE_STATUS_SKEW_STEP (n : Nat) : Field := ⟨0xD0000 + 0x0100 + 0x40 * n, 16, 3, .ro, .ln, 0⟩
def CAL.LANE_EVENTS_REJECT (n : Nat) : Field := ⟨0xD0000 + 0x0100 + 0x40 * n + 0x04, 0, 1, .w1c, .ln, 0⟩
def CAL.LANE_EVENTS_SUSPECT_NEW (n : Nat) : Field := ⟨0xD0000 + 0x0100 + 0x40 * n + 0x04, 1, 1, .w1c, .ln, 0⟩
def CAL.LANE_EVENTS_NO_SPARE (n : Nat) : Field := ⟨0xD0000 + 0x0100 + 0x40 * n + 0x04, 2, 1, .w1c, .ln, 0⟩
def CAL.LANE_EVENTS_TOKEN_LOST (n : Nat) : Field := ⟨0xD0000 + 0x0100 + 0x40 * n + 0x04, 3, 1, .w1c, .ln, 0⟩
def CAL.LANE_EVENTS_SET_EMPTY (n : Nat) : Field := ⟨0xD0000 + 0x0100 + 0x40 * n + 0x04, 4, 1, .w1c, .ln, 0⟩
def CAL.LANE_EVENTS_VERIFY_FAIL (n : Nat) : Field := ⟨0xD0000 + 0x0100 + 0x40 * n + 0x04, 5, 1, .w1c, .ln, 0⟩
def CAL.LANE_CNT0_REJECT_CNT (n : Nat) : Field := ⟨0xD0000 + 0x0100 + 0x40 * n + 0x08, 0, 16, .ro, .ln, 0⟩
def CAL.LANE_CNT0_ROT_CNT (n : Nat) : Field := ⟨0xD0000 + 0x0100 + 0x40 * n + 0x08, 16, 16, .ro, .ln, 0⟩
def CAL.LANE_CNT1_DISQ_CNT (n : Nat) : Field := ⟨0xD0000 + 0x0100 + 0x40 * n + 0x0C, 0, 16, .ro, .ln, 0⟩
def CAL.LANE_CNT1_REFRESH_CNT (n : Nat) : Field := ⟨0xD0000 + 0x0100 + 0x40 * n + 0x0C, 16, 16, .ro, .ln, 0⟩
def CAL.LANE_LAST_T_LAST (n : Nat) : Field := ⟨0xD0000 + 0x0100 + 0x40 * n + 0x10, 0, 16, .ro, .ln, 0⟩
def CAL.LANE_LAST_REJ_SLICE (n : Nat) : Field := ⟨0xD0000 + 0x0100 + 0x40 * n + 0x10, 16, 7, .ro, .ln, 0⟩
def CAL.LANE_LAST_REJ_QTY (n : Nat) : Field := ⟨0xD0000 + 0x0100 + 0x40 * n + 0x10, 23, 3, .ro, .ln, 0⟩
def CAL.LANE_LAST_REJ_RUN (n : Nat) : Field := ⟨0xD0000 + 0x0100 + 0x40 * n + 0x10, 26, 2, .ro, .ln, 0⟩
def CAL.LANE_SET_POINTS (n : Nat) : Field := ⟨0xD0000 + 0x0100 + 0x40 * n + 0x14, 0, 5, .ro, .dv, 0⟩
def CAL.LANE_CMD_REFRESH (n : Nat) : Field := ⟨0xD0000 + 0x0100 + 0x40 * n + 0x18, 0, 1, .hsc, .vo, 0⟩
def CAL.LANE_CMD_CNT_CLR (n : Nat) : Field := ⟨0xD0000 + 0x0100 + 0x40 * n + 0x18, 1, 1, .hsc, .vo, 0⟩
def CAL.DTRIM_DGAIN (n j : Nat) : Field := ⟨0xD0000 + 0x0100 + 0x40 * n + 0x20 + 4 * j, 0, 12, .ro, .ln, 0x800⟩
def CAL.DTRIM_DOFF (n j : Nat) : Field := ⟨0xD0000 + 0x0100 + 0x40 * n + 0x20 + 4 * j, 16, 8, .ro, .ln, 0⟩

/-- Every field of block CAL. -/
def CAL.fields : List Field :=
  [CAL.CTRL_BG_EN, CAL.CTRL_REFINE_EN, CAL.CTRL_TEMP_EN, CAL.CTRL_DACBG_EN, CAL.CTRL_SEED_START, CAL.CTRL_CAPTURE_EN, CAL.LIMIT0_GAIN_MIN, CAL.LIMIT0_GAIN_MAX, CAL.LIMIT1_OFFSET_LIM, CAL.LIMIT1_SKEW_LIM, CAL.LIMIT2_BW_LIM, CAL.LIMIT2_PD_LIM] ++
  [CAL.LIMIT3_DGAIN_DEV, CAL.LIMIT3_DOFF_LIM, CAL.TEMP_CAL_DT, CAL.TEMP_RATE_FAST, CAL.TEMP_ROT_GAP, CAL.REFINE_REFINE_LOG2, CAL.REFINE_WIN_FRAMES, CAL.REFINE_DAC_INT, CAL.SET_BASE_BASE, CAL.TOKEN_STATUS_HELD, CAL.TOKEN_STATUS_WAITING, CAL.TOKEN_STATUS_LOST] ++
  [CAL.TOKEN_CNT_WAIT_CNT, CAL.TOKEN_CNT_EXPIRE_CNT] ++
  (List.range 8).flatMap (fun k => [CAL.PAIR_PAIR_ID k, CAL.PAIR_PAIRED k]) ++
  (List.range 8).flatMap (fun n => [CAL.LANE_STATUS_MODE n, CAL.LANE_STATUS_SLOT n, CAL.LANE_STATUS_SLOT_ACTIVE n, CAL.LANE_STATUS_SPARE_USED n, CAL.LANE_STATUS_REFRESH_PEND n, CAL.LANE_STATUS_RAMPING n, CAL.LANE_STATUS_TOKEN_WAIT n, CAL.LANE_STATUS_SKEW_STEP n, CAL.LANE_EVENTS_REJECT n, CAL.LANE_EVENTS_SUSPECT_NEW n, CAL.LANE_EVENTS_NO_SPARE n, CAL.LANE_EVENTS_TOKEN_LOST n, CAL.LANE_EVENTS_SET_EMPTY n, CAL.LANE_EVENTS_VERIFY_FAIL n, CAL.LANE_CNT0_REJECT_CNT n, CAL.LANE_CNT0_ROT_CNT n, CAL.LANE_CNT1_DISQ_CNT n, CAL.LANE_CNT1_REFRESH_CNT n, CAL.LANE_LAST_T_LAST n, CAL.LANE_LAST_REJ_SLICE n, CAL.LANE_LAST_REJ_QTY n, CAL.LANE_LAST_REJ_RUN n, CAL.LANE_SET_POINTS n, CAL.LANE_CMD_REFRESH n, CAL.LANE_CMD_CNT_CLR n]) ++
  (List.range 8).flatMap (fun n => (List.range 4).flatMap (fun j => [CAL.DTRIM_DGAIN n j, CAL.DTRIM_DOFF n j]))

/-! ### PORT -/

def PORT.CTRL_UP (k : Nat) : Field := ⟨0x31000 + 0x20 * k + 0x00, 0, 1, .wm, .dv, 0⟩
def PORT.CTRL_NAP (k : Nat) : Field := ⟨0x31000 + 0x20 * k + 0x00, 1, 1, .wm, .pt, 0⟩
def PORT.CFG_LOS_HOLD (k : Nat) : Field := ⟨0x31000 + 0x20 * k + 0x04, 0, 8, .rw, .dv, 0x0A⟩
def PORT.CFG_PARTNER_TMO (k : Nat) : Field := ⟨0x31000 + 0x20 * k + 0x04, 8, 8, .rw, .dv, 0x32⟩
def PORT.CFG_PARTNER_RETRY (k : Nat) : Field := ⟨0x31000 + 0x20 * k + 0x04, 16, 2, .rw, .dv, 0x3⟩
def PORT.CFG_ACQ_TMO (k : Nat) : Field := ⟨0x31000 + 0x20 * k + 0x04, 24, 8, .rw, .dv, 0x14⟩
def PORT.CFG2_TRAIN_TMO (k : Nat) : Field := ⟨0x31000 + 0x20 * k + 0x08, 0, 8, .rw, .dv, 0x64⟩
def PORT.CFG2_TXC_SETTLE (k : Nat) : Field := ⟨0x31000 + 0x20 * k + 0x08, 8, 8, .rw, .dv, 0x1E⟩
def PORT.CFG2_WAKE_TMO (k : Nat) : Field := ⟨0x31000 + 0x20 * k + 0x08, 16, 8, .rw, .dv, 0x0A⟩
def PORT.STATUS_STATE (k : Nat) : Field := ⟨0x31000 + 0x20 * k + 0x0C, 0, 3, .ro, .vo, 0⟩
def PORT.STATUS_HOLD (k : Nat) : Field := ⟨0x31000 + 0x20 * k + 0x0C, 4, 8, .ro, .vo, 0⟩
def PORT.STATUS_HOST_WAIT (k : Nat) : Field := ⟨0x31000 + 0x20 * k + 0x0C, 12, 1, .ro, .vo, 0⟩
def PORT.STATUS_LOSHOLD_RUN (k : Nat) : Field := ⟨0x31000 + 0x20 * k + 0x0C, 13, 1, .ro, .vo, 0⟩
def PORT.STATUS_HANDSHAKE (k : Nat) : Field := ⟨0x31000 + 0x20 * k + 0x0C, 14, 1, .ro, .pt, 0⟩
def PORT.STATUS_PARTNER_SILENT (k : Nat) : Field := ⟨0x31000 + 0x20 * k + 0x0C, 16, 1, .w1c, .pt, 0⟩
def PORT.STATUS_ACQ_FAIL (k : Nat) : Field := ⟨0x31000 + 0x20 * k + 0x0C, 17, 1, .w1c, .pt, 0⟩
def PORT.STATUS_OTRAIN_TMO (k : Nat) : Field := ⟨0x31000 + 0x20 * k + 0x0C, 18, 1, .w1c, .pt, 0⟩
def PORT.STATUS_MISMATCH (k : Nat) : Field := ⟨0x31000 + 0x20 * k + 0x0C, 19, 1, .w1c, .pt, 0⟩
def PORT.STATUS_WAKE_SLOW (k : Nat) : Field := ⟨0x31000 + 0x20 * k + 0x0C, 20, 1, .w1c, .pt, 0⟩
def PORT.STATUS_DOWN_CAUSE (k : Nat) : Field := ⟨0x31000 + 0x20 * k + 0x0C, 24, 4, .ro, .pt, 0⟩
def PORT.STATUS_PRE_NAP (k : Nat) : Field := ⟨0x31000 + 0x20 * k + 0x0C, 28, 3, .ro, .pt, 0⟩
def PORT.CNT_UP_CNT (k : Nat) : Field := ⟨0x31000 + 0x20 * k + 0x10, 0, 8, .ro, .pt, 0⟩
def PORT.CNT_RETRY_CNT (k : Nat) : Field := ⟨0x31000 + 0x20 * k + 0x10, 8, 8, .ro, .pt, 0⟩
def PORT.CNT_ACQ_FAIL_CNT (k : Nat) : Field := ⟨0x31000 + 0x20 * k + 0x10, 16, 8, .ro, .pt, 0⟩
def PORT.CNT_LOS_DROP_CNT (k : Nat) : Field := ⟨0x31000 + 0x20 * k + 0x10, 24, 8, .ro, .pt, 0⟩
def PORT.TIME_LAST_UP_DUR (k : Nat) : Field := ⟨0x31000 + 0x20 * k + 0x14, 0, 16, .ro, .pt, 0⟩
def PORT.TIME_LAST_WAKE_DUR (k : Nat) : Field := ⟨0x31000 + 0x20 * k + 0x14, 16, 16, .ro, .pt, 0⟩
def PORT.CMD_CNT_CLR (k : Nat) : Field := ⟨0x31000 + 0x20 * k + 0x18, 0, 1, .hsc, .vo, 0⟩

/-- Every field of block PORT. -/
def PORT.fields (k : Nat) : List Field :=
  [PORT.CTRL_UP k, PORT.CTRL_NAP k, PORT.CFG_LOS_HOLD k, PORT.CFG_PARTNER_TMO k, PORT.CFG_PARTNER_RETRY k, PORT.CFG_ACQ_TMO k, PORT.CFG2_TRAIN_TMO k, PORT.CFG2_TXC_SETTLE k, PORT.CFG2_WAKE_TMO k, PORT.STATUS_STATE k, PORT.STATUS_HOLD k, PORT.STATUS_HOST_WAIT k] ++
  [PORT.STATUS_LOSHOLD_RUN k, PORT.STATUS_HANDSHAKE k, PORT.STATUS_PARTNER_SILENT k, PORT.STATUS_ACQ_FAIL k, PORT.STATUS_OTRAIN_TMO k, PORT.STATUS_MISMATCH k, PORT.STATUS_WAKE_SLOW k, PORT.STATUS_DOWN_CAUSE k, PORT.STATUS_PRE_NAP k, PORT.CNT_UP_CNT k, PORT.CNT_RETRY_CNT k, PORT.CNT_ACQ_FAIL_CNT k] ++
  [PORT.CNT_LOS_DROP_CNT k, PORT.TIME_LAST_UP_DUR k, PORT.TIME_LAST_WAKE_DUR k, PORT.CMD_CNT_CLR k]

/-! ### KL -/

def KL.CTRL_TX_EN (n : Nat) : Field := ⟨0x1C0000 + 0x1000 * n + 0x0000, 0, 1, .wm, .dv, 1⟩
def KL.CTRL_RX_EN (n : Nat) : Field := ⟨0x1C0000 + 0x1000 * n + 0x0000, 1, 1, .wm, .dv, 1⟩
def KL.CTRL_PROBE_EN (n : Nat) : Field := ⟨0x1C0000 + 0x1000 * n + 0x0000, 2, 1, .wm, .dv, 1⟩
def KL.CTRL_LISTEN_EN (n : Nat) : Field := ⟨0x1C0000 + 0x1000 * n + 0x0000, 3, 1, .wm, .pl, 0⟩
def KL.CTRL_AUTO_ANS (n : Nat) : Field := ⟨0x1C0000 + 0x1000 * n + 0x0000, 4, 1, .wm, .dv, 1⟩
def KL.CTRL_REMOTE_NAP_EN (n : Nat) : Field := ⟨0x1C0000 + 0x1000 * n + 0x0000, 5, 1, .wm, .dv, 0⟩
def KL.CFG_DEPTH (n : Nat) : Field := ⟨0x1C0000 + 0x1000 * n + 0x0004, 0, 6, .rw, .dv, 0x1E⟩
def KL.CFG_KL_THRESH (n : Nat) : Field := ⟨0x1C0000 + 0x1000 * n + 0x0004, 8, 10, .rw, .dv, 0x020⟩
def KL.CFG_WAKE_REPS (n : Nat) : Field := ⟨0x1C0000 + 0x1000 * n + 0x0004, 24, 5, .rw, .pl, 0x04⟩
def KL.CFG2_INJ_SCALE (n : Nat) : Field := ⟨0x1C0000 + 0x1000 * n + 0x0008, 0, 12, .rw, .dv, 0⟩
def KL.CFG2_PROBE_INT (n : Nat) : Field := ⟨0x1C0000 + 0x1000 * n + 0x0008, 16, 8, .rw, .dv, 0x0A⟩
def KL.STATUS_TX_BUSY (n : Nat) : Field := ⟨0x1C0000 + 0x1000 * n + 0x000C, 0, 1, .ro, .vo, 0⟩
def KL.STATUS_TX_PATH (n : Nat) : Field := ⟨0x1C0000 + 0x1000 * n + 0x000C, 1, 1, .ro, .vo, 0⟩
def KL.STATUS_RX_LOCK (n : Nat) : Field := ⟨0x1C0000 + 0x1000 * n + 0x000C, 2, 1, .ro, .vo, 0⟩
def KL.STATUS_PARTNER_SEEN (n : Nat) : Field := ⟨0x1C0000 + 0x1000 * n + 0x000C, 3, 1, .ro, .vo, 0⟩
def KL.STATUS_RX_FULL (n : Nat) : Field := ⟨0x1C0000 + 0x1000 * n + 0x000C, 4, 1, .ro, .vo, 0⟩
def KL.STATUS_WAKE_SEEN (n : Nat) : Field := ⟨0x1C0000 + 0x1000 * n + 0x000C, 5, 1, .w1c, .ln, 0⟩
def KL.STATUS_TX_ABORT (n : Nat) : Field := ⟨0x1C0000 + 0x1000 * n + 0x000C, 6, 1, .w1c, .ln, 0⟩
def KL.STATUS_MASK_CLIP (n : Nat) : Field := ⟨0x1C0000 + 0x1000 * n + 0x000C, 7, 1, .w1c, .ln, 0⟩
def KL.STATUS_RX_OVF (n : Nat) : Field := ⟨0x1C0000 + 0x1000 * n + 0x000C, 8, 1, .w1c, .ln, 0⟩
def KL.STATUS_BAD_TYPE (n : Nat) : Field := ⟨0x1C0000 + 0x1000 * n + 0x000C, 9, 1, .w1c, .ln, 0⟩
def KL.STATUS_PARTNER_NEW (n : Nat) : Field := ⟨0x1C0000 + 0x1000 * n + 0x000C, 10, 1, .w1c, .ln, 0⟩
def KL.STATUS_WAKE_DET (n : Nat) : Field := ⟨0x1C0000 + 0x1000 * n + 0x000C, 11, 1, .w1c, .pl, 0⟩
def KL.CNT0_FALSE_PRE_CNT (n : Nat) : Field := ⟨0x1C0000 + 0x1000 * n + 0x0010, 0, 16, .ro, .ln, 0⟩
def KL.CNT0_CAPTURE_LOST_CNT (n : Nat) : Field := ⟨0x1C0000 + 0x1000 * n + 0x0010, 16, 16, .ro, .ln, 0⟩
def KL.CNT1_RX_OK_CNT (n : Nat) : Field := ⟨0x1C0000 + 0x1000 * n + 0x0014, 0, 16, .ro, .ln, 0⟩
def KL.CNT1_RX_CRC_CNT (n : Nat) : Field := ⟨0x1C0000 + 0x1000 * n + 0x0014, 16, 16, .ro, .ln, 0⟩
def KL.CNT2_TX_CNT (n : Nat) : Field := ⟨0x1C0000 + 0x1000 * n + 0x0018, 0, 16, .ro, .ln, 0⟩
def KL.CNT2_TX_ABORT_CNT (n : Nat) : Field := ⟨0x1C0000 + 0x1000 * n + 0x0018, 16, 16, .ro, .ln, 0⟩
def KL.CMD_SEND (n : Nat) : Field := ⟨0x1C0000 + 0x1000 * n + 0x001C, 0, 1, .hsc, .vo, 0⟩
def KL.CMD_WAKE_SEND (n : Nat) : Field := ⟨0x1C0000 + 0x1000 * n + 0x001C, 1, 1, .hsc, .vo, 0⟩
def KL.CMD_RX_RELEASE (n : Nat) : Field := ⟨0x1C0000 + 0x1000 * n + 0x001C, 2, 1, .hsc, .vo, 0⟩
def KL.CMD_CNT_CLR (n : Nat) : Field := ⟨0x1C0000 + 0x1000 * n + 0x001C, 3, 1, .hsc, .vo, 0⟩
def KL.RX_INFO_STRENGTH (n : Nat) : Field := ⟨0x1C0000 + 0x1000 * n + 0x0020, 0, 12, .ro, .ln, 0⟩
def KL.RX_INFO_TYPE (n : Nat) : Field := ⟨0x1C0000 + 0x1000 * n + 0x0020, 16, 4, .ro, .ln, 0⟩
def KL.PARTNER_SN_SN (n w : Nat) : Field := ⟨0x1C0000 + 0x1000 * n + 0x0024 + 4 * w, 0, 32, .ro, .ln, 0⟩
def KL.PARTNER_INFO_LANE (n : Nat) : Field := ⟨0x1C0000 + 0x1000 * n + 0x002C, 0, 3, .ro, .ln, 0⟩
def KL.PARTNER_INFO_STACK (n : Nat) : Field := ⟨0x1C0000 + 0x1000 * n + 0x002C, 3, 2, .ro, .ln, 0⟩
def KL.PARTNER_INFO_SN_VALID (n : Nat) : Field := ⟨0x1C0000 + 0x1000 * n + 0x002C, 5, 1, .ro, .ln, 0⟩
def KL.PARTNER_INFO_PORT_STATE (n : Nat) : Field := ⟨0x1C0000 + 0x1000 * n + 0x002C, 8, 3, .ro, .ln, 0⟩
def KL.TX_HDR_LEN (n : Nat) : Field := ⟨0x1C0000 + 0x1000 * n + 0x0040, 0, 9, .rw, .dv, 0⟩
def KL.RX_HDR_LEN (n : Nat) : Field := ⟨0x1C0000 + 0x1000 * n + 0x0044, 0, 9, .ro, .ln, 0⟩
def KL.RX_HDR_SEQ (n : Nat) : Field := ⟨0x1C0000 + 0x1000 * n + 0x0044, 9, 4, .ro, .ln, 0⟩
def KL.RX_HDR_SRC_LANE (n : Nat) : Field := ⟨0x1C0000 + 0x1000 * n + 0x0044, 13, 3, .ro, .ln, 0⟩
def KL.RX_HDR_SRC_STACK (n : Nat) : Field := ⟨0x1C0000 + 0x1000 * n + 0x0044, 16, 2, .ro, .ln, 0⟩
def KL.MASK_H (n j : Nat) : Field := ⟨0x1C0000 + 0x1000 * n + 0x0080 + 4 * j, 0, 12, .rw, .dv, (if j = 15 then 0x7FF else 0)⟩
def KL.TX_BUF_W (n i : Nat) : Field := ⟨0x1C0000 + 0x1000 * n + 0x0100 + 4 * i, 0, 32, .rw, .dv, 0⟩
def KL.RX_BUF_W (n i : Nat) : Field := ⟨0x1C0000 + 0x1000 * n + 0x0200 + 4 * i, 0, 32, .ro, .ln, 0⟩

/-- Every field of block KL. -/
def KL.fields (n : Nat) : List Field :=
  [KL.CTRL_TX_EN n, KL.CTRL_RX_EN n, KL.CTRL_PROBE_EN n, KL.CTRL_LISTEN_EN n, KL.CTRL_AUTO_ANS n, KL.CTRL_REMOTE_NAP_EN n, KL.CFG_DEPTH n, KL.CFG_KL_THRESH n, KL.CFG_WAKE_REPS n, KL.CFG2_INJ_SCALE n, KL.CFG2_PROBE_INT n, KL.STATUS_TX_BUSY n] ++
  [KL.STATUS_TX_PATH n, KL.STATUS_RX_LOCK n, KL.STATUS_PARTNER_SEEN n, KL.STATUS_RX_FULL n, KL.STATUS_WAKE_SEEN n, KL.STATUS_TX_ABORT n, KL.STATUS_MASK_CLIP n, KL.STATUS_RX_OVF n, KL.STATUS_BAD_TYPE n, KL.STATUS_PARTNER_NEW n, KL.STATUS_WAKE_DET n, KL.CNT0_FALSE_PRE_CNT n] ++
  [KL.CNT0_CAPTURE_LOST_CNT n, KL.CNT1_RX_OK_CNT n, KL.CNT1_RX_CRC_CNT n, KL.CNT2_TX_CNT n, KL.CNT2_TX_ABORT_CNT n, KL.CMD_SEND n, KL.CMD_WAKE_SEND n, KL.CMD_RX_RELEASE n, KL.CMD_CNT_CLR n, KL.RX_INFO_STRENGTH n, KL.RX_INFO_TYPE n, KL.PARTNER_INFO_LANE n] ++
  [KL.PARTNER_INFO_STACK n, KL.PARTNER_INFO_SN_VALID n, KL.PARTNER_INFO_PORT_STATE n, KL.TX_HDR_LEN n, KL.RX_HDR_LEN n, KL.RX_HDR_SEQ n, KL.RX_HDR_SRC_LANE n, KL.RX_HDR_SRC_STACK n] ++
  (List.range 2).flatMap (fun w => [KL.PARTNER_SN_SN n w]) ++
  (List.range 16).flatMap (fun j => [KL.MASK_H n j]) ++
  (List.range 64).flatMap (fun i => [KL.TX_BUF_W n i, KL.RX_BUF_W n i])

/-! ### BDA -/

def BDA.PAUSE_PAUSE : Field := ⟨0xB0000 + 0x0000, 0, 24, .rw, .dv, 0⟩
def BDA.STATUS_CLR_PIN : Field := ⟨0xB0000 + 0x0004, 0, 1, .ro, .vo, 0⟩
def BDA.STATUS_BRACE : Field := ⟨0xB0000 + 0x0004, 1, 1, .ro, .vo, 0⟩
def BDA.STATUS_LIM_REJ : Field := ⟨0xB0000 + 0x0004, 2, 1, .w1c, .dv, 0⟩
def BDA.EVT_CH_EVT : Field := ⟨0xB0000 + 0x0008, 0, 24, .ro, .vo, 0⟩
def BDA.CFG_RANGE (c : Nat) : Field := ⟨0xB0000 + 0x0100 + 0x40 * c, 0, 1, .wm, .dv, 0⟩
def BDA.CFG_CLR_EN (c : Nat) : Field := ⟨0xB0000 + 0x0100 + 0x40 * c, 1, 1, .wm, .dv, 1⟩
def BDA.CFG_UNDER_EN (c : Nat) : Field := ⟨0xB0000 + 0x0100 + 0x40 * c, 2, 1, .wm, .dv, 0⟩
def BDA.QDATA_CODE (c : Nat) : Field := ⟨0xB0000 + 0x0100 + 0x40 * c + 0x04, 0, 16, .rw, .vo, 0⟩
def BDA.CHSTATUS_LEVEL (c : Nat) : Field := ⟨0xB0000 + 0x0100 + 0x40 * c + 0x08, 0, 6, .ro, .dv, 0⟩
def BDA.CHSTATUS_UNDERRUN (c : Nat) : Field := ⟨0xB0000 + 0x0100 + 0x40 * c + 0x08, 6, 1, .w1c, .dv, 0⟩
def BDA.CHSTATUS_QOVF (c : Nat) : Field := ⟨0xB0000 + 0x0100 + 0x40 * c + 0x08, 7, 1, .w1c, .dv, 0⟩
def BDA.CHSTATUS_LIM_CLIP (c : Nat) : Field := ⟨0xB0000 + 0x0100 + 0x40 * c + 0x08, 8, 1, .w1c, .dv, 0⟩
def BDA.CHSTATUS_INJ_CLIP (c : Nat) : Field := ⟨0xB0000 + 0x0100 + 0x40 * c + 0x08, 9, 1, .w1c, .dv, 0⟩
def BDA.CHSTATUS_CLR_DROP (c : Nat) : Field := ⟨0xB0000 + 0x0100 + 0x40 * c + 0x08, 10, 1, .w1c, .dv, 0⟩
def BDA.CHSTATUS_DEGLITCH (c : Nat) : Field := ⟨0xB0000 + 0x0100 + 0x40 * c + 0x08, 11, 1, .ro, .vo, 0⟩
def BDA.CHSTATUS_FORCED (c : Nat) : Field := ⟨0xB0000 + 0x0100 + 0x40 * c + 0x08, 12, 3, .ro, .vo, 0⟩
def BDA.CNT_UNDERRUN_CNT (c : Nat) : Field := ⟨0xB0000 + 0x0100 + 0x40 * c + 0x0C, 0, 16, .ro, .dv, 0⟩
def BDA.CNT_QOVF_CNT (c : Nat) : Field := ⟨0xB0000 + 0x0100 + 0x40 * c + 0x0C, 16, 16, .ro, .dv, 0⟩
def BDA.OUT_OUT (c : Nat) : Field := ⟨0xB0000 + 0x0100 + 0x40 * c + 0x10, 0, 16, .ro, .dv, 0⟩
def BDA.OUT_RANGE_EFF (c : Nat) : Field := ⟨0xB0000 + 0x0100 + 0x40 * c + 0x10, 16, 1, .ro, .dv, 0⟩
def BDA.CMD_FLUSH (c : Nat) : Field := ⟨0xB0000 + 0x0100 + 0x40 * c + 0x14, 0, 1, .hsc, .vo, 0⟩
def BDA.CMD_CNT_CLR (c : Nat) : Field := ⟨0xB0000 + 0x0100 + 0x40 * c + 0x14, 1, 1, .hsc, .vo, 0⟩
def BDA.CLR_CLR_CODE (c : Nat) : Field := ⟨0xB0000 + 0x0100 + 0x40 * c + 0x18, 0, 16, .gp, .dv, 0⟩
def BDA.LIM_LO (c : Nat) : Field := ⟨0xB0000 + 0x0100 + 0x40 * c + 0x20, 0, 16, .gp, .dv, 0⟩
def BDA.LIM_HI (c : Nat) : Field := ⟨0xB0000 + 0x0100 + 0x40 * c + 0x20, 16, 16, .gp, .dv, 0xFFFF⟩

/-- Every field of block BDA. -/
def BDA.fields : List Field :=
  [BDA.PAUSE_PAUSE, BDA.STATUS_CLR_PIN, BDA.STATUS_BRACE, BDA.STATUS_LIM_REJ, BDA.EVT_CH_EVT] ++
  (List.range 24).flatMap (fun c => [BDA.CFG_RANGE c, BDA.CFG_CLR_EN c, BDA.CFG_UNDER_EN c, BDA.QDATA_CODE c, BDA.CHSTATUS_LEVEL c, BDA.CHSTATUS_UNDERRUN c, BDA.CHSTATUS_QOVF c, BDA.CHSTATUS_LIM_CLIP c, BDA.CHSTATUS_INJ_CLIP c, BDA.CHSTATUS_CLR_DROP c, BDA.CHSTATUS_DEGLITCH c, BDA.CHSTATUS_FORCED c, BDA.CNT_UNDERRUN_CNT c, BDA.CNT_QOVF_CNT c, BDA.OUT_OUT c, BDA.OUT_RANGE_EFF c, BDA.CMD_FLUSH c, BDA.CMD_CNT_CLR c, BDA.CLR_CLR_CODE c, BDA.LIM_LO c, BDA.LIM_HI c])

/-! ### SND -/

def SND.CTRL_SONDE_REF_EN : Field := ⟨0xA0000 + 0x0000, 0, 1, .wm, .dv, 0⟩
def SND.CTRL_MODE : Field := ⟨0xA0000 + 0x0000, 1, 1, .wm, .dv, 0⟩
def SND.CTRL_TRIG_SRC : Field := ⟨0xA0000 + 0x0000, 2, 2, .wm, .dv, 0⟩
def SND.CTRL_LEN : Field := ⟨0xA0000 + 0x0000, 4, 4, .wm, .dv, 0⟩
def SND.CTRL_FIFO_EN : Field := ⟨0xA0000 + 0x0000, 8, 1, .wm, .dv, 0⟩
def SND.CMD_START : Field := ⟨0xA0000 + 0x0004, 0, 1, .hsc, .vo, 0⟩
def SND.CMD_STOP : Field := ⟨0xA0000 + 0x0004, 1, 1, .hsc, .vo, 0⟩
def SND.CMD_TRIG : Field := ⟨0xA0000 + 0x0004, 2, 1, .hsc, .vo, 0⟩
def SND.CMD_FIFO_CLR : Field := ⟨0xA0000 + 0x0004, 3, 1, .hsc, .vo, 0⟩
def SND.CMD_CNT_CLR : Field := ⟨0xA0000 + 0x0004, 4, 1, .hsc, .vo, 0⟩
def SND.STATUS_RUNNING : Field := ⟨0xA0000 + 0x0008, 0, 1, .ro, .vo, 0⟩
def SND.STATUS_REF_RDY : Field := ⟨0xA0000 + 0x0008, 1, 1, .ro, .vo, 0⟩
def SND.STATUS_ENTRY : Field := ⟨0xA0000 + 0x0008, 2, 4, .ro, .vo, 0⟩
def SND.STATUS_SYS_ACTIVE : Field := ⟨0xA0000 + 0x0008, 6, 1, .ro, .vo, 0⟩
def SND.STATUS_TRIG_PEND : Field := ⟨0xA0000 + 0x0008, 7, 1, .ro, .vo, 0⟩
def SND.STATUS_SUP_ACTIVE : Field := ⟨0xA0000 + 0x0008, 8, 1, .ro, .vo, 0⟩
def SND.STATUS_TRIG_OVR : Field := ⟨0xA0000 + 0x0008, 9, 1, .w1c, .dv, 0⟩
def SND.STATUS_OVR : Field := ⟨0xA0000 + 0x0008, 10, 1, .w1c, .dv, 0⟩
def SND.STATUS_FIFO_OVF : Field := ⟨0xA0000 + 0x0008, 11, 1, .w1c, .dv, 0⟩
def SND.STATUS_ENTRY_LONG : Field := ⟨0xA0000 + 0x0008, 12, 1, .w1c, .dv, 0⟩
def SND.STATUS_SEQ_ABORT : Field := ⟨0xA0000 + 0x0008, 13, 1, .w1c, .dv, 0⟩
def SND.TIMER_PERIOD : Field := ⟨0xA0000 + 0x000C, 0, 24, .rw, .dv, 0x3E8⟩
def SND.CNT_TRIG_DROP_CNT : Field := ⟨0xA0000 + 0x0010, 0, 16, .ro, .dv, 0⟩
def SND.CNT_FIFO_DROP_CNT : Field := ⟨0xA0000 + 0x0010, 16, 16, .ro, .dv, 0⟩
def SND.RUN_TIME0_TIME_LO : Field := ⟨0xA0000 + 0x0014, 0, 32, .ro, .dv, 0⟩
def SND.RUN_TIME1_TIME_HI : Field := ⟨0xA0000 + 0x0018, 0, 16, .ro, .dv, 0⟩
def SND.FIFO_WORD : Field := ⟨0xA0000 + 0x001C, 0, 32, .ro, .vo, 0⟩
def SND.FIFO_LEVEL_LEVEL : Field := ⟨0xA0000 + 0x0020, 0, 7, .ro, .vo, 0⟩
def SND.DCB_FREEZE : Field := ⟨0xA0000 + 0x0024, 0, 16, .rw, .dv, 0⟩
def SND.SYS_SYS_CNT : Field := ⟨0xA0000 + 0x0028, 0, 16, .ro, .dv, 0⟩
def SND.SYS_SYS_WAIT_MAX : Field := ⟨0xA0000 + 0x0028, 16, 16, .ro, .dv, 0⟩
def SND.ENT0_INPUT (j : Nat) : Field := ⟨0xA0000 + 0x0100 + 8 * j, 0, 7, .rw, .dv, 0x59⟩
def SND.ENT0_GAIN (j : Nat) : Field := ⟨0xA0000 + 0x0100 + 8 * j, 8, 3, .rw, .dv, 0⟩
def SND.ENT0_OSR (j : Nat) : Field := ⟨0xA0000 + 0x0100 + 8 * j, 12, 3, .rw, .dv, 0x2⟩
def SND.ENT0_AVG (j : Nat) : Field := ⟨0xA0000 + 0x0100 + 8 * j, 15, 1, .rw, .dv, 0⟩
def SND.ENT0_DCB_EN (j : Nat) : Field := ⟨0xA0000 + 0x0100 + 8 * j, 16, 1, .rw, .dv, 0⟩
def SND.ENT0_DCB_FC (j : Nat) : Field := ⟨0xA0000 + 0x0100 + 8 * j, 17, 3, .rw, .dv, 0x3⟩
def SND.ENT1_SETTLE (j : Nat) : Field := ⟨0xA0000 + 0x0104 + 8 * j, 0, 10, .rw, .dv, 0x014⟩
def SND.ENT1_COUNT (j : Nat) : Field := ⟨0xA0000 + 0x0104 + 8 * j, 16, 8, .rw, .dv, 0⟩
def SND.RESULT_VALUE (j : Nat) : Field := ⟨0xA0000 + 0x0200 + 4 * j, 0, 24, .ro, .vo, 0⟩
def SND.RESULT_ENTRY (j : Nat) : Field := ⟨0xA0000 + 0x0200 + 4 * j, 24, 4, .ro, .vo, 0⟩
def SND.RESULT_OVR (j : Nat) : Field := ⟨0xA0000 + 0x0200 + 4 * j, 28, 1, .ro, .vo, 0⟩
def SND.RESULT_REC (j : Nat) : Field := ⟨0xA0000 + 0x0200 + 4 * j, 29, 1, .ro, .vo, 0⟩
def SND.RESULT_REF_COLD (j : Nat) : Field := ⟨0xA0000 + 0x0200 + 4 * j, 30, 1, .ro, .vo, 0⟩
def SND.DCB_EST_EST (j : Nat) : Field := ⟨0xA0000 + 0x0240 + 4 * j, 0, 24, .ro, .dv, 0⟩

/-- Every field of block SND. -/
def SND.fields : List Field :=
  [SND.CTRL_SONDE_REF_EN, SND.CTRL_MODE, SND.CTRL_TRIG_SRC, SND.CTRL_LEN, SND.CTRL_FIFO_EN, SND.CMD_START, SND.CMD_STOP, SND.CMD_TRIG, SND.CMD_FIFO_CLR, SND.CMD_CNT_CLR, SND.STATUS_RUNNING, SND.STATUS_REF_RDY] ++
  [SND.STATUS_ENTRY, SND.STATUS_SYS_ACTIVE, SND.STATUS_TRIG_PEND, SND.STATUS_SUP_ACTIVE, SND.STATUS_TRIG_OVR, SND.STATUS_OVR, SND.STATUS_FIFO_OVF, SND.STATUS_ENTRY_LONG, SND.STATUS_SEQ_ABORT, SND.TIMER_PERIOD, SND.CNT_TRIG_DROP_CNT, SND.CNT_FIFO_DROP_CNT] ++
  [SND.RUN_TIME0_TIME_LO, SND.RUN_TIME1_TIME_HI, SND.FIFO_WORD, SND.FIFO_LEVEL_LEVEL, SND.DCB_FREEZE, SND.SYS_SYS_CNT, SND.SYS_SYS_WAIT_MAX] ++
  (List.range 16).flatMap (fun j => [SND.ENT0_INPUT j, SND.ENT0_GAIN j, SND.ENT0_OSR j, SND.ENT0_AVG j, SND.ENT0_DCB_EN j, SND.ENT0_DCB_FC j, SND.ENT1_SETTLE j, SND.ENT1_COUNT j, SND.RESULT_VALUE j, SND.RESULT_ENTRY j, SND.RESULT_OVR j, SND.RESULT_REC j, SND.RESULT_REF_COLD j, SND.DCB_EST_EST j])

/-! ### SPR -/

def SPR.CTRL_RUN : Field := ⟨0x1F0000 + 0x0000, 0, 1, .wm, .dv, 0⟩
def SPR.CTRL_USER_EN : Field := ⟨0x1F0000 + 0x0000, 1, 1, .wm, .dv, 1⟩
def SPR.CTRL_PMU_USER_EN : Field := ⟨0x1F0000 + 0x0000, 2, 1, .wm, .dv, 0⟩
def SPR.STATUS_STATE : Field := ⟨0x1F0000 + 0x0004, 0, 2, .ro, .vo, 0⟩
def SPR.STATUS_USER_LOADED : Field := ⟨0x1F0000 + 0x0004, 2, 1, .ro, .dv, 0⟩
def SPR.STATUS_USER_DONE : Field := ⟨0x1F0000 + 0x0004, 3, 1, .w1c, .dv, 0⟩
def SPR.STATUS_FAULT : Field := ⟨0x1F0000 + 0x0004, 4, 1, .w1c, .dv, 0⟩
def SPR.STATUS_SAT : Field := ⟨0x1F0000 + 0x0004, 8, 4, .w1c, .dv, 0⟩
def SPR.STATUS_ACC_OVF : Field := ⟨0x1F0000 + 0x0004, 12, 4, .w1c, .dv, 0⟩
def SPR.STATUS_PC : Field := ⟨0x1F0000 + 0x0004, 16, 14, .ro, .vo, 0⟩
def SPR.FAULT_CODE : Field := ⟨0x1F0000 + 0x0008, 0, 4, .ro, .dv, 0⟩
def SPR.FAULT_MODE : Field := ⟨0x1F0000 + 0x0008, 4, 1, .ro, .dv, 0⟩
def SPR.FAULT_FPC : Field := ⟨0x1F0000 + 0x0008, 8, 14, .ro, .dv, 0⟩
def SPR.SCALE_SHIFT (k : Nat) : Field := ⟨0x1F0000 + 0x0010 + 4 * k, 0, 6, .rw, .dv, 0x03⟩
def SPR.SCALE_SAT_EN (k : Nat) : Field := ⟨0x1F0000 + 0x0010 + 4 * k, 8, 1, .rw, .dv, 1⟩
def SPR.TIMER_PERIOD : Field := ⟨0x1F0000 + 0x0020, 0, 32, .rw, .dv, 0⟩
def SPR.EVT_PEND : Field := ⟨0x1F0000 + 0x0024, 0, 5, .ro, .vo, 0⟩
def SPR.EVT_TIMER_OVR : Field := ⟨0x1F0000 + 0x0024, 5, 1, .w1c, .dv, 0⟩
def SPR.EVT_HOST_EVT : Field := ⟨0x1F0000 + 0x0024, 6, 1, .w1c, .dv, 0⟩
def SPR.PRIV_EV_PREEMPT : Field := ⟨0x1F0000 + 0x0028, 0, 5, .rw, .dv, 0⟩
def SPR.USER_BDA_USER_BDA : Field := ⟨0x1F0000 + 0x002C, 0, 24, .ro, .dv, 0⟩
def SPR.CMD_USER_RESTART : Field := ⟨0x1F0000 + 0x0030, 0, 1, .hsc, .vo, 0⟩
def SPR.CMD_DOORBELL : Field := ⟨0x1F0000 + 0x0030, 1, 1, .hsc, .vo, 0⟩
def SPR.CMD_CNT_CLR : Field := ⟨0x1F0000 + 0x0030, 2, 1, .hsc, .vo, 0⟩
def SPR.CNT_FAULT_CNT : Field := ⟨0x1F0000 + 0x0034, 0, 16, .ro, .dv, 0⟩
def SPR.CNT_ECC_CNT : Field := ⟨0x1F0000 + 0x0034, 16, 16, .ro, .dv, 0⟩
def SPR.MEM_ADDR_ADDR : Field := ⟨0x1F0000 + 0x0040, 0, 18, .rw, .vo, 0⟩
def SPR.MEM_ADDR_STRIDE : Field := ⟨0x1F0000 + 0x0040, 24, 8, .rw, .vo, 0x04⟩
def SPR.MEM_DATA_DATA : Field := ⟨0x1F0000 + 0x0044, 0, 32, .ix, .vo, 0⟩
def SPR.UMBX_UMBX (j : Nat) : Field := ⟨0x1F0000 + 0x0100 + 4 * j, 0, 32, .rw, .dv, 0⟩

/-- Every field of block SPR. -/
def SPR.fields : List Field :=
  [SPR.CTRL_RUN, SPR.CTRL_USER_EN, SPR.CTRL_PMU_USER_EN, SPR.STATUS_STATE, SPR.STATUS_USER_LOADED, SPR.STATUS_USER_DONE, SPR.STATUS_FAULT, SPR.STATUS_SAT, SPR.STATUS_ACC_OVF, SPR.STATUS_PC, SPR.FAULT_CODE, SPR.FAULT_MODE] ++
  [SPR.FAULT_FPC, SPR.TIMER_PERIOD, SPR.EVT_PEND, SPR.EVT_TIMER_OVR, SPR.EVT_HOST_EVT, SPR.PRIV_EV_PREEMPT, SPR.USER_BDA_USER_BDA, SPR.CMD_USER_RESTART, SPR.CMD_DOORBELL, SPR.CMD_CNT_CLR, SPR.CNT_FAULT_CNT, SPR.CNT_ECC_CNT] ++
  [SPR.MEM_ADDR_ADDR, SPR.MEM_ADDR_STRIDE, SPR.MEM_DATA_DATA] ++
  (List.range 4).flatMap (fun k => [SPR.SCALE_SHIFT k, SPR.SCALE_SAT_EN k]) ++
  (List.range 8).flatMap (fun j => [SPR.UMBX_UMBX j])

/-! ### THM -/

def THM.CTRL_MARGIN : Field := ⟨0xC0000 + 0x0000, 0, 8, .rw, .dv, 0x28⟩
def THM.CTRL_WARN : Field := ⟨0xC0000 + 0x0000, 8, 8, .rw, .dv, 0x64⟩
def THM.CTRL_SHED : Field := ⟨0xC0000 + 0x0000, 16, 8, .rw, .dv, 0x67⟩
def THM.CTRL_SHELF_LIM : Field := ⟨0xC0000 + 0x0000, 24, 8, .rw, .pl, 0x55⟩
def THM.STATUS_WARN_NOW : Field := ⟨0xC0000 + 0x0004, 0, 1, .ro, .vo, 0⟩
def THM.STATUS_SHED_REQ : Field := ⟨0xC0000 + 0x0004, 1, 1, .ro, .vo, 0⟩
def THM.STATUS_TRIPPED : Field := ⟨0xC0000 + 0x0004, 2, 1, .ro, .pl, 0⟩
def THM.STATUS_MTP_OK : Field := ⟨0xC0000 + 0x0004, 3, 1, .ro, .vo, 0⟩
def THM.STATUS_WARN : Field := ⟨0xC0000 + 0x0004, 4, 1, .w1c, .dv, 0⟩
def THM.STATUS_SHED : Field := ⟨0xC0000 + 0x0004, 5, 1, .w1c, .dv, 0⟩
def THM.STATUS_TRIP : Field := ⟨0xC0000 + 0x0004, 6, 1, .w1c, .pl, 0⟩
def THM.STATUS_SENSOR_FAULT : Field := ⟨0xC0000 + 0x0004, 7, 1, .w1c, .dv, 0⟩
def THM.STATUS_LASER_BAN : Field := ⟨0xC0000 + 0x0004, 8, 8, .ro, .vo, 0⟩
def THM.STATUS_OD_FAULT : Field := ⟨0xC0000 + 0x0004, 16, 12, .ro, .dv, 0⟩
def THM.TJ_TJ : Field := ⟨0xC0000 + 0x0008, 0, 16, .ro, .vo, 0⟩
def THM.TJ_TJ_PEAK : Field := ⟨0xC0000 + 0x0008, 16, 16, .ro, .dv, 0x8000⟩
def THM.CMD_TRIP_REL : Field := ⟨0xC0000 + 0x000C, 0, 1, .hsc, .vo, 0⟩
def THM.CMD_PEAK_CLR : Field := ⟨0xC0000 + 0x000C, 1, 1, .hsc, .vo, 0⟩
def THM.CMD_CNT_CLR : Field := ⟨0xC0000 + 0x000C, 2, 1, .hsc, .vo, 0⟩
def THM.CNT_WARN_CNT : Field := ⟨0xC0000 + 0x0010, 0, 8, .ro, .dv, 0⟩
def THM.CNT_TRIP_CNT : Field := ⟨0xC0000 + 0x0010, 8, 8, .ro, .pl, 0⟩
def THM.CNT_XCHK_CNT : Field := ⟨0xC0000 + 0x0010, 16, 16, .ro, .dv, 0⟩
def THM.OD_TEMP (d : Nat) : Field := ⟨0xC0000 + 0x0100 + 4 * d, 0, 16, .ro, .vo, 0⟩
def THM.OD_RATE (d : Nat) : Field := ⟨0xC0000 + 0x0100 + 4 * d, 16, 12, .ro, .vo, 0⟩
def THM.OD_FAULT (d : Nat) : Field := ⟨0xC0000 + 0x0100 + 4 * d, 28, 1, .ro, .dv, 0⟩
def THM.EXT_CFG_LANES (c : Nat) : Field := ⟨0xC0000 + 0x0200 + 0x10 * c, 0, 8, .rw, .dv, 0⟩
def THM.EXT_CFG_EN (c : Nat) : Field := ⟨0xC0000 + 0x0200 + 0x10 * c, 8, 1, .rw, .dv, 0⟩
def THM.EXT_WIN_LO (c : Nat) : Field := ⟨0xC0000 + 0x0204 + 0x10 * c, 0, 16, .rw, .dv, 0xFFD8⟩
def THM.EXT_WIN_HI (c : Nat) : Field := ⟨0xC0000 + 0x0204 + 0x10 * c, 16, 16, .rw, .dv, 0x0280⟩
def THM.EXT_STATUS_TEMP (c : Nat) : Field := ⟨0xC0000 + 0x0208 + 0x10 * c, 0, 16, .ro, .vo, 0⟩
def THM.EXT_STATUS_FAST (c : Nat) : Field := ⟨0xC0000 + 0x0208 + 0x10 * c, 16, 1, .ro, .vo, 0⟩
def THM.EXT_STATUS_FAULT (c : Nat) : Field := ⟨0xC0000 + 0x0208 + 0x10 * c, 17, 1, .ro, .vo, 0⟩
def THM.EXT_STATUS_OUT_WIN (c : Nat) : Field := ⟨0xC0000 + 0x0208 + 0x10 * c, 18, 1, .ro, .vo, 0⟩
def THM.EXT_CONV_CONV (c : Nat) : Field := ⟨0xC0000 + 0x020C + 0x10 * c, 0, 16, .rw, .dv, (if c < 4 then 0x4000 else 0x0F6E)⟩

/-- Every field of block THM. -/
def THM.fields : List Field :=
  [THM.CTRL_MARGIN, THM.CTRL_WARN, THM.CTRL_SHED, THM.CTRL_SHELF_LIM, THM.STATUS_WARN_NOW, THM.STATUS_SHED_REQ, THM.STATUS_TRIPPED, THM.STATUS_MTP_OK, THM.STATUS_WARN, THM.STATUS_SHED, THM.STATUS_TRIP, THM.STATUS_SENSOR_FAULT] ++
  [THM.STATUS_LASER_BAN, THM.STATUS_OD_FAULT, THM.TJ_TJ, THM.TJ_TJ_PEAK, THM.CMD_TRIP_REL, THM.CMD_PEAK_CLR, THM.CMD_CNT_CLR, THM.CNT_WARN_CNT, THM.CNT_TRIP_CNT, THM.CNT_XCHK_CNT] ++
  (List.range 12).flatMap (fun d => [THM.OD_TEMP d, THM.OD_RATE d, THM.OD_FAULT d]) ++
  (List.range 8).flatMap (fun c => [THM.EXT_CFG_LANES c, THM.EXT_CFG_EN c, THM.EXT_WIN_LO c, THM.EXT_WIN_HI c, THM.EXT_STATUS_TEMP c, THM.EXT_STATUS_FAST c, THM.EXT_STATUS_FAULT c, THM.EXT_STATUS_OUT_WIN c, THM.EXT_CONV_CONV c])

/-! ### SAF -/

def SAF.CTRL_PERIODIC_EN : Field := ⟨0x20000 + 0x0000, 0, 1, .ba, .dv, 1⟩
def SAF.CTRL_SUP_GATE : Field := ⟨0x20000 + 0x0000, 8, 8, .ba, .dv, 0⟩
def SAF.STATUS_LATCH : Field := ⟨0x20000 + 0x0004, 0, 8, .ro, .dv, 0xFF⟩
def SAF.STATUS_CMP_NOW : Field := ⟨0x20000 + 0x0004, 8, 8, .ro, .vo, 0⟩
def SAF.STATUS_TXD_NOW : Field := ⟨0x20000 + 0x0004, 16, 8, .ro, .vo, 0⟩
def SAF.STATUS_CLR_PIN_NOW : Field := ⟨0x20000 + 0x0004, 24, 1, .ro, .vo, 0⟩
def SAF.STATUS_SUP_DEAD : Field := ⟨0x20000 + 0x0004, 25, 1, .ro, .vo, 0⟩
def SAF.STATUS_CLK_LOSS_NOW : Field := ⟨0x20000 + 0x0004, 26, 1, .ro, .vo, 0⟩
def SAF.STATUS_SUPPLY_NOW : Field := ⟨0x20000 + 0x0004, 27, 1, .ro, .vo, 0⟩
def SAF.STATUS_CLR_NZ : Field := ⟨0x20000 + 0x0004, 28, 1, .ro, .vo, 0⟩
def SAF.STATUS_PROOF_BUSY : Field := ⟨0x20000 + 0x0004, 29, 1, .ro, .vo, 0⟩
def SAF.EVT_TRIP : Field := ⟨0x20000 + 0x0008, 0, 1, .w1c, .dv, 0⟩
def SAF.EVT_PROOF_FAIL : Field := ⟨0x20000 + 0x0008, 1, 1, .w1c, .dv, 0⟩
def SAF.EVT_REL_REFUSED : Field := ⟨0x20000 + 0x0008, 2, 1, .w1c, .dv, 0⟩
def SAF.EVT_LIM_REFUSED : Field := ⟨0x20000 + 0x0008, 3, 1, .w1c, .dv, 0⟩
def SAF.EVT_PARITY : Field := ⟨0x20000 + 0x0008, 4, 1, .w1c, .dv, 0⟩
def SAF.EVT_DEADMAN : Field := ⟨0x20000 + 0x0008, 5, 1, .w1c, .dv, 0⟩
def SAF.EVT_CLK_LOSS : Field := ⟨0x20000 + 0x0008, 6, 1, .w1c, .dv, 0⟩
def SAF.EVT_SUPPLY : Field := ⟨0x20000 + 0x0008, 7, 1, .w1c, .dv, 0⟩
def SAF.CMD_KICK : Field := ⟨0x20000 + 0x000C, 0, 1, .hsc, .vo, 0⟩
def SAF.CMD_CNT_CLR : Field := ⟨0x20000 + 0x000C, 1, 1, .hsc, .vo, 0⟩
def SAF.CMD_PROOF : Field := ⟨0x20000 + 0x000C, 8, 8, .hsc, .vo, 0⟩
def SAF.REL_LANES : Field := ⟨0x20000 + 0x0010, 0, 8, .gp, .vo, 0⟩
def SAF.REL_LASTING_ACK : Field := ⟨0x20000 + 0x0010, 8, 8, .gp, .vo, 0⟩
def SAF.SUPCFG_SUP_TMO : Field := ⟨0x20000 + 0x0018, 0, 8, .gp, .dv, 0x0A⟩
def SAF.SUPCFG_PROOF_INT : Field := ⟨0x20000 + 0x0018, 8, 16, .gp, .dv, 0x003C⟩
def SAF.LIM_HI (n : Nat) : Field := ⟨0x20000 + 0x0100 + 0x20 * n, 0, 10, .gp, .dv, 0⟩
def SAF.LIM_LO (n : Nat) : Field := ⟨0x20000 + 0x0100 + 0x20 * n, 16, 10, .gp, .dv, 0x010⟩
def SAF.SUP_SUP_HI (n : Nat) : Field := ⟨0x20000 + 0x0108 + 0x20 * n, 0, 10, .gp, .dv, 0⟩
def SAF.SUP_SUP_LO (n : Nat) : Field := ⟨0x20000 + 0x0108 + 0x20 * n, 16, 10, .gp, .dv, 0x010⟩
def SAF.INFO_CAUSE (n : Nat) : Field := ⟨0x20000 + 0x0110 + 0x20 * n, 0, 4, .ro, .dv, 1⟩
def SAF.INFO_CHAN (n : Nat) : Field := ⟨0x20000 + 0x0110 + 0x20 * n, 4, 2, .ro, .dv, 0⟩
def SAF.INFO_LASTING (n : Nat) : Field := ⟨0x20000 + 0x0110 + 0x20 * n, 6, 1, .ro, .dv, 0⟩
def SAF.INFO_ARMED_LO (n : Nat) : Field := ⟨0x20000 + 0x0110 + 0x20 * n, 7, 1, .ro, .vo, 0⟩
def SAF.INFO_SUP_IN (n : Nat) : Field := ⟨0x20000 + 0x0110 + 0x20 * n, 8, 5, .ro, .dv, 0⟩
def SAF.INFO_PROOF_A_OK (n : Nat) : Field := ⟨0x20000 + 0x0110 + 0x20 * n, 13, 1, .ro, .dv, 0⟩
def SAF.INFO_PROOF_B_OK (n : Nat) : Field := ⟨0x20000 + 0x0110 + 0x20 * n, 14, 1, .ro, .dv, 0⟩
def SAF.CNT_TRIP_CNT (n : Nat) : Field := ⟨0x20000 + 0x0114 + 0x20 * n, 0, 16, .ro, .dv, 0⟩
def SAF.CNT_PROOF_FAIL_CNT (n : Nat) : Field := ⟨0x20000 + 0x0114 + 0x20 * n, 16, 16, .ro, .dv, 0⟩
def SAF.TRIP_TIME_TRIP_TIME (n : Nat) : Field := ⟨0x20000 + 0x0118 + 0x20 * n, 0, 32, .ro, .dv, 0⟩

/-- Every field of block SAF. -/
def SAF.fields : List Field :=
  [SAF.CTRL_PERIODIC_EN, SAF.CTRL_SUP_GATE, SAF.STATUS_LATCH, SAF.STATUS_CMP_NOW, SAF.STATUS_TXD_NOW, SAF.STATUS_CLR_PIN_NOW, SAF.STATUS_SUP_DEAD, SAF.STATUS_CLK_LOSS_NOW, SAF.STATUS_SUPPLY_NOW, SAF.STATUS_CLR_NZ, SAF.STATUS_PROOF_BUSY, SAF.EVT_TRIP] ++
  [SAF.EVT_PROOF_FAIL, SAF.EVT_REL_REFUSED, SAF.EVT_LIM_REFUSED, SAF.EVT_PARITY, SAF.EVT_DEADMAN, SAF.EVT_CLK_LOSS, SAF.EVT_SUPPLY, SAF.CMD_KICK, SAF.CMD_CNT_CLR, SAF.CMD_PROOF, SAF.REL_LANES, SAF.REL_LASTING_ACK] ++
  [SAF.SUPCFG_SUP_TMO, SAF.SUPCFG_PROOF_INT] ++
  (List.range 8).flatMap (fun n => [SAF.LIM_HI n, SAF.LIM_LO n, SAF.SUP_SUP_HI n, SAF.SUP_SUP_LO n, SAF.INFO_CAUSE n, SAF.INFO_CHAN n, SAF.INFO_LASTING n, SAF.INFO_ARMED_LO n, SAF.INFO_SUP_IN n, SAF.INFO_PROOF_A_OK n, SAF.INFO_PROOF_B_OK n, SAF.CNT_TRIP_CNT n, SAF.CNT_PROOF_FAIL_CNT n, SAF.TRIP_TIME_TRIP_TIME n])

/-! ### PWR -/

def PWR.CTRL_QUIESCE_POLICY : Field := ⟨0x10000 + 0x0000, 0, 1, .ba, .dv, 0⟩
def PWR.CTRL_QDR_EN : Field := ⟨0x10000 + 0x0000, 1, 1, .ba, .pl, 0⟩
def PWR.CTRL_AUX_WITH_CORE : Field := ⟨0x10000 + 0x0000, 2, 1, .ba, .pl, 0⟩
def PWR.CTRL_BALLAST_EN : Field := ⟨0x10000 + 0x0000, 3, 1, .ba, .dv, 1⟩
def PWR.CTRL_LPMODE_EN : Field := ⟨0x10000 + 0x0000, 4, 1, .ba, .pl, 1⟩
def PWR.STATUS_DEV_STATE : Field := ⟨0x10000 + 0x0004, 0, 2, .ro, .vo, 0x2⟩
def PWR.STATUS_BRACE_NOW : Field := ⟨0x10000 + 0x0004, 2, 1, .ro, .vo, 0⟩
def PWR.STATUS_LEVEL : Field := ⟨0x10000 + 0x0004, 3, 4, .ro, .dv, 0⟩
def PWR.STATUS_CAUSES : Field := ⟨0x10000 + 0x0004, 7, 3, .ro, .vo, 0⟩
def PWR.STATUS_LADDER_END : Field := ⟨0x10000 + 0x0004, 10, 1, .w1c, .dv, 0⟩
def PWR.STATUS_WAKE_STALL : Field := ⟨0x10000 + 0x0004, 11, 1, .w1c, .pl, 0⟩
def PWR.STATUS_DOMAIN_ABORT : Field := ⟨0x10000 + 0x0004, 12, 1, .w1c, .dv, 0⟩
def PWR.WAKE_EN_EN : Field := ⟨0x10000 + 0x0008, 0, 9, .ba, .pl, 0x00C⟩
def PWR.WAKE_EN_GPIO_SEL : Field := ⟨0x10000 + 0x0008, 9, 6, .ba, .pl, 0⟩
def PWR.WAKE_EN_GPIO_POL : Field := ⟨0x10000 + 0x0008, 15, 1, .ba, .pl, 1⟩
def PWR.LAST_WAKE_SOURCE : Field := ⟨0x10000 + 0x000C, 0, 4, .ro, .pl, 0x1⟩
def PWR.LAST_WAKE_DETAIL : Field := ⟨0x10000 + 0x000C, 4, 8, .ro, .pl, 0⟩
def PWR.LAST_WAKE_RACE : Field := ⟨0x10000 + 0x000C, 12, 1, .ro, .pl, 0⟩
def PWR.LAST_WAKE_ASLEEP : Field := ⟨0x10000 + 0x000C, 13, 1, .ro, .pl, 1⟩
def PWR.LAST_WAKE1_TIME_LO : Field := ⟨0x10000 + 0x0010, 0, 32, .ro, .pl, 0⟩
def PWR.LAST_WAKE2_TIME_HI : Field := ⟨0x10000 + 0x0014, 0, 16, .ro, .pl, 0⟩
def PWR.SEQ_SEQ_TMO : Field := ⟨0x10000 + 0x0018, 0, 8, .ba, .pl, 0x0A⟩
def PWR.SEQ_DOZE_HOLD : Field := ⟨0x10000 + 0x0018, 8, 8, .ba, .dv, 0x64⟩
def PWR.STALL_STEP : Field := ⟨0x10000 + 0x001C, 0, 3, .ro, .pl, 0⟩
def PWR.STALL_STALL_CNT : Field := ⟨0x10000 + 0x001C, 8, 8, .ro, .pl, 0⟩
def PWR.QUIESCE_PWR_QUIESCE_TMO : Field := ⟨0x10000 + 0x0020, 0, 16, .ba, .dv, 0x00C8⟩
def PWR.BALLAST_ORDER : Field := ⟨0x10000 + 0x0024, 0, 6, .ro, .dv, 0x24⟩
def PWR.BALLAST_HOST_MIN : Field := ⟨0x10000 + 0x0024, 8, 4, .ba, .dv, 0⟩
def PWR.BALLAST_SHED_INT : Field := ⟨0x10000 + 0x0024, 12, 8, .ba, .dv, 0x64⟩
def PWR.BALLAST_RESTORE_INT : Field := ⟨0x10000 + 0x0024, 20, 12, .ba, .dv, 0x3E8⟩
def PWR.BAL_CNT_SHED_CNT : Field := ⟨0x10000 + 0x0028, 0, 16, .ro, .dv, 0⟩
def PWR.BAL_CNT_SHED_REF_CNT : Field := ⟨0x10000 + 0x0028, 16, 16, .ro, .dv, 0⟩
def PWR.NAP_PRIO_P (k : Nat) : Field := ⟨0x10000 + 0x002C, 4*k, 4, .ro, .dv, 0xF⟩
def PWR.BROWN_DIP_COUNT : Field := ⟨0x10000 + 0x0030, 0, 16, .ro, .dv, 0⟩
def PWR.BROWN_LONG_CNT : Field := ⟨0x10000 + 0x0030, 16, 8, .ro, .dv, 0⟩
def PWR.TIMER_WAKE_AT : Field := ⟨0x10000 + 0x0034, 0, 32, .ba, .pl, 0⟩
def PWR.CMD_CNT_CLR : Field := ⟨0x10000 + 0x0038, 0, 1, .hsc, .vo, 0⟩
def PWR.TIMER1_WAKE_AT_HI : Field := ⟨0x10000 + 0x003C, 0, 16, .ba, .pl, 0⟩
def PWR.TIMER1_ARMED : Field := ⟨0x10000 + 0x003C, 16, 1, .ro, .pl, 0⟩
def PWR.REFUSE_CNT0_C (i : Nat) : Field := ⟨0x10000 + 0x0040, 8*i, 8, .ro, .dv, 0⟩
def PWR.REFUSE_CNT1_C (i : Nat) : Field := ⟨0x10000 + 0x0044, 8*i, 8, .ro, .dv, 0⟩
def PWR.LANE_REFUSE_COUNT (n : Nat) : Field := ⟨0x10000 + 0x0100 + 4 * n, 0, 16, .ro, .dv, 0⟩
def PWR.LANE_REFUSE_LAST_REFUSER (n : Nat) : Field := ⟨0x10000 + 0x0100 + 4 * n, 16, 4, .ro, .dv, 0⟩

/-- Every field of block PWR. -/
def PWR.fields : List Field :=
  [PWR.CTRL_QUIESCE_POLICY, PWR.CTRL_QDR_EN, PWR.CTRL_AUX_WITH_CORE, PWR.CTRL_BALLAST_EN, PWR.CTRL_LPMODE_EN, PWR.STATUS_DEV_STATE, PWR.STATUS_BRACE_NOW, PWR.STATUS_LEVEL, PWR.STATUS_CAUSES, PWR.STATUS_LADDER_END, PWR.STATUS_WAKE_STALL, PWR.STATUS_DOMAIN_ABORT] ++
  [PWR.WAKE_EN_EN, PWR.WAKE_EN_GPIO_SEL, PWR.WAKE_EN_GPIO_POL, PWR.LAST_WAKE_SOURCE, PWR.LAST_WAKE_DETAIL, PWR.LAST_WAKE_RACE, PWR.LAST_WAKE_ASLEEP, PWR.LAST_WAKE1_TIME_LO, PWR.LAST_WAKE2_TIME_HI, PWR.SEQ_SEQ_TMO, PWR.SEQ_DOZE_HOLD, PWR.STALL_STEP] ++
  [PWR.STALL_STALL_CNT, PWR.QUIESCE_PWR_QUIESCE_TMO, PWR.BALLAST_ORDER, PWR.BALLAST_HOST_MIN, PWR.BALLAST_SHED_INT, PWR.BALLAST_RESTORE_INT, PWR.BAL_CNT_SHED_CNT, PWR.BAL_CNT_SHED_REF_CNT, PWR.BROWN_DIP_COUNT, PWR.BROWN_LONG_CNT, PWR.TIMER_WAKE_AT, PWR.CMD_CNT_CLR] ++
  [PWR.TIMER1_WAKE_AT_HI, PWR.TIMER1_ARMED] ++
  (List.range 8).flatMap (fun k => [PWR.NAP_PRIO_P k]) ++
  (List.range 4).flatMap (fun i => [PWR.REFUSE_CNT0_C i]) ++
  (List.range 3).flatMap (fun i => [PWR.REFUSE_CNT1_C i]) ++
  (List.range 8).flatMap (fun n => [PWR.LANE_REFUSE_COUNT n, PWR.LANE_REFUSE_LAST_REFUSER n])

/-! ### CFG -/

def CFG.RST_STATUS_CAUSE : Field := ⟨0x30000 + 0x0000, 0, 4, .ro, .pl, 0x1⟩
def CFG.RST_STATUS_SEEN : Field := ⟨0x30000 + 0x0000, 8, 6, .w1c, .pl, 0x01⟩
def CFG.RST_TIME0_TIME_LO : Field := ⟨0x30000 + 0x0004, 0, 32, .ro, .pl, 0⟩
def CFG.RST_TIME1_TIME_HI : Field := ⟨0x30000 + 0x0008, 0, 16, .ro, .pl, 0⟩
def CFG.RST_CNT_BOR_CNT : Field := ⟨0x30000 + 0x000C, 0, 8, .ro, .pl, 0⟩
def CFG.RST_CNT_PIN_CNT : Field := ⟨0x30000 + 0x000C, 8, 8, .ro, .pl, 0⟩
def CFG.RST_CNT_WDR_CNT : Field := ⟨0x30000 + 0x000C, 16, 8, .ro, .pl, 0⟩
def CFG.RST_CNT_WDR_RUN : Field := ⟨0x30000 + 0x000C, 24, 2, .ro, .pl, 0⟩
def CFG.SWR_SWR : Field := ⟨0x30000 + 0x0010, 0, 1, .gp, .vo, 0⟩
def CFG.RST_PORT_PORTS : Field := ⟨0x30000 + 0x0018, 0, 8, .hsc, .vo, 0⟩
def CFG.RST_LANE_LN : Field := ⟨0x30000 + 0x001C, 0, 8, .hsc, .vo, 0⟩
def CFG.RST_LANE_HL : Field := ⟨0x30000 + 0x001C, 16, 16, .hsc, .vo, 0⟩
def CFG.WDT_TMO : Field := ⟨0x30000 + 0x0020, 0, 16, .rw, .dv, 0x00FA⟩
def CFG.WDT_KICK_KICK : Field := ⟨0x30000 + 0x0024, 0, 1, .hsc, .vo, 0⟩
def CFG.CMD_CNT_CLR : Field := ⟨0x30000 + 0x0028, 0, 1, .hsc, .vo, 0⟩
def CFG.BOOT_RIG_SLOT : Field := ⟨0x30000 + 0x0030, 0, 1, .ro, .dv, 0⟩
def CFG.BOOT_FW_SLOT : Field := ⟨0x30000 + 0x0030, 1, 1, .ro, .dv, 0⟩
def CFG.BOOT_SAFE_BOOT : Field := ⟨0x30000 + 0x0030, 2, 1, .ro, .dv, 0⟩
def CFG.BOOT_FW_NONE : Field := ⟨0x30000 + 0x0030, 3, 1, .ro, .dv, 0⟩
def CFG.BOOT_QUICK : Field := ⟨0x30000 + 0x0030, 4, 1, .ro, .dv, 0⟩
def CFG.BOOT_POST_RAN : Field := ⟨0x30000 + 0x0030, 5, 1, .ro, .dv, 0⟩
def CFG.BOOT_SAFETY_PEND : Field := ⟨0x30000 + 0x0030, 6, 1, .ro, .dv, 0⟩
def CFG.BOOT_BALLAST_PEND : Field := ⟨0x30000 + 0x0030, 7, 1, .ro, .dv, 0⟩
def CFG.BOOT_STAGED : Field := ⟨0x30000 + 0x0030, 8, 1, .ro, .dv, 0⟩
def CFG.BOOT_FW_FALLBACK : Field := ⟨0x30000 + 0x0030, 9, 1, .w1c, .pl, 0⟩
def CFG.RIG_SEQ_SEQ : Field := ⟨0x30000 + 0x0034, 0, 32, .ro, .dv, 0⟩
def CFG.RIG_CHK_CHK0 : Field := ⟨0x30000 + 0x0038, 0, 4, .ro, .dv, 0x9⟩
def CFG.RIG_CHK_CHK1 : Field := ⟨0x30000 + 0x0038, 4, 4, .ro, .dv, 0x9⟩
def CFG.RIG_CHK_FWCHK0 : Field := ⟨0x30000 + 0x0038, 8, 4, .ro, .dv, 0x9⟩
def CFG.RIG_CHK_FWCHK1 : Field := ⟨0x30000 + 0x0038, 12, 4, .ro, .dv, 0x9⟩
def CFG.FW_SEQ_SEQ : Field := ⟨0x30000 + 0x003C, 0, 32, .ro, .dv, 0⟩
def CFG.QS_VALID : Field := ⟨0x30000 + 0x0040, 0, 1, .ro, .pl, 0⟩
def CFG.QS_PASS : Field := ⟨0x30000 + 0x0040, 1, 1, .ro, .pl, 0⟩
def CFG.QS_SEQ_SEQ : Field := ⟨0x30000 + 0x0044, 0, 32, .ro, .pl, 0⟩

/-- Every field of block CFG. -/
def CFG.fields : List Field :=
  [CFG.RST_STATUS_CAUSE, CFG.RST_STATUS_SEEN, CFG.RST_TIME0_TIME_LO, CFG.RST_TIME1_TIME_HI, CFG.RST_CNT_BOR_CNT, CFG.RST_CNT_PIN_CNT, CFG.RST_CNT_WDR_CNT, CFG.RST_CNT_WDR_RUN, CFG.SWR_SWR, CFG.RST_PORT_PORTS, CFG.RST_LANE_LN, CFG.RST_LANE_HL] ++
  [CFG.WDT_TMO, CFG.WDT_KICK_KICK, CFG.CMD_CNT_CLR, CFG.BOOT_RIG_SLOT, CFG.BOOT_FW_SLOT, CFG.BOOT_SAFE_BOOT, CFG.BOOT_FW_NONE, CFG.BOOT_QUICK, CFG.BOOT_POST_RAN, CFG.BOOT_SAFETY_PEND, CFG.BOOT_BALLAST_PEND, CFG.BOOT_STAGED] ++
  [CFG.BOOT_FW_FALLBACK, CFG.RIG_SEQ_SEQ, CFG.RIG_CHK_CHK0, CFG.RIG_CHK_CHK1, CFG.RIG_CHK_FWCHK0, CFG.RIG_CHK_FWCHK1, CFG.FW_SEQ_SEQ, CFG.QS_VALID, CFG.QS_PASS, CFG.QS_SEQ_SEQ]

/-! ### GLB -/

def GLB.ID_PART : Field := ⟨0x0000, 0, 16, .ro, .pl, 0x3208⟩
def GLB.ID_VARIANT : Field := ⟨0x0000, 16, 4, .ro, .pl, 0⟩
def GLB.ID_STEPPING : Field := ⟨0x0000, 20, 8, .ro, .pl, 0x21⟩
def GLB.SERIAL_SERIAL (w : Nat) : Field := ⟨0x0004 + 4 * w, 0, 32, .ro, .pl, 0⟩
def GLB.LC_STATE : Field := ⟨0x0010, 0, 3, .ro, .pl, 0x2⟩
def GLB.LC_PENDING : Field := ⟨0x0010, 3, 3, .ro, .pl, 0x2⟩
def GLB.BRD_STATUS_ACCESS : Field := ⟨0x0100, 0, 1, .w1c, .dv, 0⟩
def GLB.BRD_STATUS_GUARD : Field := ⟨0x0100, 1, 1, .w1c, .dv, 0⟩
def GLB.BRD_STATUS_PARITY : Field := ⟨0x0100, 2, 1, .w1c, .dv, 0⟩
def GLB.BRD_CNT0_ACCESS_FAULT : Field := ⟨0x0104, 0, 16, .ro, .dv, 0⟩
def GLB.BRD_CNT0_GUARD_FAULT : Field := ⟨0x0104, 16, 16, .ro, .dv, 0⟩
def GLB.BRD_CNT1_PARITY_CNT : Field := ⟨0x0108, 0, 16, .ro, .dv, 0⟩
def GLB.BRD_CNT1_TMO_CNT : Field := ⟨0x0108, 16, 16, .ro, .dv, 0⟩
def GLB.ACCESS_ADDR_ADDR : Field := ⟨0x010C, 0, 32, .ro, .dv, 0⟩
def GLB.ACCESS_INFO_INITIATOR : Field := ⟨0x0110, 0, 4, .ro, .dv, 0⟩
def GLB.ACCESS_INFO_KIND : Field := ⟨0x0110, 4, 4, .ro, .dv, 0⟩
def GLB.ACCESS_INFO_WRITE : Field := ⟨0x0110, 8, 1, .ro, .dv, 0⟩
def GLB.ACCESS_INFO_SIZE : Field := ⟨0x0110, 9, 2, .ro, .dv, 0⟩
def GLB.GUARD_ADDR_ADDR : Field := ⟨0x0114, 0, 32, .ro, .dv, 0⟩
def GLB.GUARD_INFO_INITIATOR : Field := ⟨0x0118, 0, 4, .ro, .dv, 0⟩
def GLB.GUARD_INFO_REASON : Field := ⟨0x0118, 4, 4, .ro, .dv, 0⟩
def GLB.PARITY_ADDR_ADDR : Field := ⟨0x011C, 0, 32, .ro, .dv, 0⟩
def GLB.BRD_CMD_CNT_CLR : Field := ⟨0x0120, 0, 1, .hsc, .vo, 0⟩
def GLB.MBX_CMD_OPCODE : Field := ⟨0x0200, 0, 8, .rw, .vo, 0⟩
def GLB.MBX_CMD_TAG : Field := ⟨0x0200, 8, 8, .rw, .vo, 0⟩
def GLB.MBX_STATUS_BUSY : Field := ⟨0x0204, 0, 1, .ro, .vo, 0⟩
def GLB.MBX_STATUS_DONE : Field := ⟨0x0204, 1, 1, .w1c, .vo, 0⟩
def GLB.MBX_STATUS_REJECT : Field := ⟨0x0204, 2, 1, .w1c, .vo, 0⟩
def GLB.MBX_STATUS_OWNER : Field := ⟨0x0204, 4, 4, .ro, .vo, 0⟩
def GLB.MBX_STATUS_COMP : Field := ⟨0x0204, 8, 8, .ro, .vo, 0⟩
def GLB.MBX_STATUS_TAG : Field := ⟨0x0204, 16, 8, .ro, .vo, 0⟩
def GLB.MBX_ARG_ARG (i : Nat) : Field := ⟨0x0210 + 4 * i, 0, 32, .rw, .vo, 0⟩
def GLB.MBX_RSP_RSP (i : Nat) : Field := ⟨0x0230 + 4 * i, 0, 32, .ro, .vo, 0⟩
def GLB.MGMT_ADDR : Field := ⟨0x0300, 0, 7, .ro, .dv, 0x50⟩
def GLB.MGMT_I3C : Field := ⟨0x0300, 7, 1, .ro, .vo, 0⟩
def GLB.MGMT_DYN_ADDR : Field := ⟨0x0300, 8, 7, .ro, .vo, 0⟩

/-- Every field of block GLB. -/
def GLB.fields : List Field :=
  [GLB.ID_PART, GLB.ID_VARIANT, GLB.ID_STEPPING, GLB.LC_STATE, GLB.LC_PENDING, GLB.BRD_STATUS_ACCESS, GLB.BRD_STATUS_GUARD, GLB.BRD_STATUS_PARITY, GLB.BRD_CNT0_ACCESS_FAULT, GLB.BRD_CNT0_GUARD_FAULT, GLB.BRD_CNT1_PARITY_CNT, GLB.BRD_CNT1_TMO_CNT] ++
  [GLB.ACCESS_ADDR_ADDR, GLB.ACCESS_INFO_INITIATOR, GLB.ACCESS_INFO_KIND, GLB.ACCESS_INFO_WRITE, GLB.ACCESS_INFO_SIZE, GLB.GUARD_ADDR_ADDR, GLB.GUARD_INFO_INITIATOR, GLB.GUARD_INFO_REASON, GLB.PARITY_ADDR_ADDR, GLB.BRD_CMD_CNT_CLR, GLB.MBX_CMD_OPCODE, GLB.MBX_CMD_TAG] ++
  [GLB.MBX_STATUS_BUSY, GLB.MBX_STATUS_DONE, GLB.MBX_STATUS_REJECT, GLB.MBX_STATUS_OWNER, GLB.MBX_STATUS_COMP, GLB.MBX_STATUS_TAG, GLB.MGMT_ADDR, GLB.MGMT_I3C, GLB.MGMT_DYN_ADDR] ++
  (List.range 2).flatMap (fun w => [GLB.SERIAL_SERIAL w]) ++
  (List.range 8).flatMap (fun i => [GLB.MBX_ARG_ARG i, GLB.MBX_RSP_RSP i])

/-! ### MEM -/

def MEM.CTRL_CE_THRESH : Field := ⟨0x90000 + 0x0000, 0, 8, .rw, .dv, 0x10⟩
def MEM.CTRL_SCRUB_EN : Field := ⟨0x90000 + 0x0000, 8, 1, .rw, .dv, 1⟩
def MEM.CTRL_SCRUB_INT : Field := ⟨0x90000 + 0x0000, 16, 8, .rw, .dv, 0x18⟩
def MEM.STATUS_SRAM_RDY : Field := ⟨0x90000 + 0x0004, 0, 1, .ro, .vo, 0⟩
def MEM.STATUS_QDR_RDY : Field := ⟨0x90000 + 0x0004, 1, 1, .ro, .vo, 0⟩
def MEM.STATUS_CE : Field := ⟨0x90000 + 0x0004, 2, 1, .w1c, .dv, 0⟩
def MEM.STATUS_CE_BURST : Field := ⟨0x90000 + 0x0004, 3, 1, .w1c, .dv, 0⟩
def MEM.STATUS_UE : Field := ⟨0x90000 + 0x0004, 4, 1, .w1c, .dv, 0⟩
def MEM.STATUS_LASTING : Field := ⟨0x90000 + 0x0004, 5, 1, .w1c, .dv, 0⟩
def MEM.STATUS_SPARES_OUT : Field := ⟨0x90000 + 0x0004, 6, 1, .w1c, .dv, 0⟩
def MEM.STATUS_QDR_FAIL : Field := ⟨0x90000 + 0x0004, 7, 1, .w1c, .dv, 0⟩
def MEM.QDR_CFG_DEVICES : Field := ⟨0x90000 + 0x0008, 0, 2, .ro, .dv, 0⟩
def MEM.CMD_FLUSH : Field := ⟨0x90000 + 0x000C, 0, 1, .hsc, .vo, 0⟩
def MEM.CMD_CNT_CLR : Field := ⟨0x90000 + 0x000C, 1, 1, .hsc, .vo, 0⟩
def MEM.CNT0_CE_CNT : Field := ⟨0x90000 + 0x0010, 0, 16, .ro, .dv, 0⟩
def MEM.CNT0_UE_CNT : Field := ⟨0x90000 + 0x0010, 16, 16, .ro, .dv, 0⟩
def MEM.CNT1_LASTING_CNT : Field := ⟨0x90000 + 0x0014, 0, 16, .ro, .dv, 0⟩
def MEM.CNT1_UNMAP_CNT : Field := ⟨0x90000 + 0x0014, 16, 16, .ro, .dv, 0⟩
def MEM.CE_ADDR_ADDR : Field := ⟨0x90000 + 0x0018, 0, 32, .ro, .dv, 0⟩
def MEM.UE_ADDR_ADDR : Field := ⟨0x90000 + 0x001C, 0, 32, .ro, .dv, 0⟩
def MEM.UE_INFO_INITIATOR : Field := ⟨0x90000 + 0x0020, 0, 4, .ro, .dv, 0⟩
def MEM.BANK_BUCKET (b : Nat) : Field := ⟨0x90000 + 0x0100 + 4 * b, 0, 8, .ro, .dv, 0⟩
def MEM.BANK_SPARES_USED (b : Nat) : Field := ⟨0x90000 + 0x0100 + 4 * b, 8, 6, .ro, .dv, 0⟩
def MEM.BANK_CE_BANK_CNT (b : Nat) : Field := ⟨0x90000 + 0x0100 + 4 * b, 16, 16, .ro, .dv, 0⟩
def MEM.UNMAP_VALID (i : Nat) : Field := ⟨0x90000 + 0x0200 + 4 * i, 0, 1, .ro, .dv, 0⟩
def MEM.UNMAP_ADDR (i : Nat) : Field := ⟨0x90000 + 0x0200 + 4 * i, 3, 29, .ro, .dv, 0⟩

/-- Every field of block MEM. -/
def MEM.fields : List Field :=
  [MEM.CTRL_CE_THRESH, MEM.CTRL_SCRUB_EN, MEM.CTRL_SCRUB_INT, MEM.STATUS_SRAM_RDY, MEM.STATUS_QDR_RDY, MEM.STATUS_CE, MEM.STATUS_CE_BURST, MEM.STATUS_UE, MEM.STATUS_LASTING, MEM.STATUS_SPARES_OUT, MEM.STATUS_QDR_FAIL, MEM.QDR_CFG_DEVICES] ++
  [MEM.CMD_FLUSH, MEM.CMD_CNT_CLR, MEM.CNT0_CE_CNT, MEM.CNT0_UE_CNT, MEM.CNT1_LASTING_CNT, MEM.CNT1_UNMAP_CNT, MEM.CE_ADDR_ADDR, MEM.UE_ADDR_ADDR, MEM.UE_INFO_INITIATOR] ++
  (List.range 18).flatMap (fun b => [MEM.BANK_BUCKET b, MEM.BANK_SPARES_USED b, MEM.BANK_CE_BANK_CNT b]) ++
  (List.range 16).flatMap (fun i => [MEM.UNMAP_VALID i, MEM.UNMAP_ADDR i])

/-! ### REEL -/

def REEL.STATUS_INFLIGHT : Field := ⟨0x80000 + 0x0000, 0, 3, .ro, .vo, 0⟩
def REEL.STATUS_RUNNING : Field := ⟨0x80000 + 0x0000, 8, 8, .ro, .vo, 0⟩
def REEL.STATUS_QUIESCED : Field := ⟨0x80000 + 0x0000, 16, 8, .ro, .vo, 0⟩
def REEL.CNT0_PERIPH_ABORT_CNT : Field := ⟨0x80000 + 0x0004, 0, 16, .ro, .dv, 0⟩
def REEL.CNT0_DOMAIN_ABORT_CNT : Field := ⟨0x80000 + 0x0004, 16, 16, .ro, .dv, 0⟩
def REEL.CNT1_POISON_CNT : Field := ⟨0x80000 + 0x0008, 0, 16, .ro, .dv, 0⟩
def REEL.CNT1_ERR_CNT : Field := ⟨0x80000 + 0x0008, 16, 16, .ro, .dv, 0⟩
def REEL.CMD_CNT_CLR : Field := ⟨0x80000 + 0x000C, 0, 1, .hsc, .vo, 0⟩
def REEL.CH_CFG_PRIO (c : Nat) : Field := ⟨0x80000 + 0x0100 + 0x40 * c, 0, 2, .wm, .dv, 0⟩
def REEL.CH_DESC_ADDR (c : Nat) : Field := ⟨0x80000 + 0x0100 + 0x40 * c + 0x04, 0, 32, .rw, .dv, 0⟩
def REEL.CH_CMD_START (c : Nat) : Field := ⟨0x80000 + 0x0100 + 0x40 * c + 0x08, 0, 1, .hsc, .vo, 0⟩
def REEL.CH_CMD_RESUME (c : Nat) : Field := ⟨0x80000 + 0x0100 + 0x40 * c + 0x08, 1, 1, .hsc, .vo, 0⟩
def REEL.CH_CMD_STOP (c : Nat) : Field := ⟨0x80000 + 0x0100 + 0x40 * c + 0x08, 2, 1, .hsc, .vo, 0⟩
def REEL.CH_STATUS_STATE (c : Nat) : Field := ⟨0x80000 + 0x0100 + 0x40 * c + 0x0C, 0, 2, .ro, .vo, 0⟩
def REEL.CH_STATUS_CODE (c : Nat) : Field := ⟨0x80000 + 0x0100 + 0x40 * c + 0x0C, 2, 4, .ro, .vo, 0⟩
def REEL.CH_STATUS_WAIT_REQ (c : Nat) : Field := ⟨0x80000 + 0x0100 + 0x40 * c + 0x0C, 6, 1, .ro, .vo, 0⟩
def REEL.CH_STATUS_START_REJ (c : Nat) : Field := ⟨0x80000 + 0x0100 + 0x40 * c + 0x0C, 7, 1, .w1c, .dv, 0⟩
def REEL.CH_STATUS_DONE (c : Nat) : Field := ⟨0x80000 + 0x0100 + 0x40 * c + 0x0C, 8, 1, .w1c, .dv, 0⟩
def REEL.CH_STATUS_ERR (c : Nat) : Field := ⟨0x80000 + 0x0100 + 0x40 * c + 0x0C, 9, 1, .w1c, .dv, 0⟩
def REEL.CH_BYTES_BYTES (c : Nat) : Field := ⟨0x80000 + 0x0100 + 0x40 * c + 0x10, 0, 32, .ro, .vo, 0⟩
def REEL.CH_CNT_DESC_CNT (c : Nat) : Field := ⟨0x80000 + 0x0100 + 0x40 * c + 0x14, 0, 16, .ro, .dv, 0⟩
def REEL.CH_CNT_BURST_CNT (c : Nat) : Field := ⟨0x80000 + 0x0100 + 0x40 * c + 0x14, 16, 16, .ro, .dv, 0⟩

/-- Every field of block REEL. -/
def REEL.fields : List Field :=
  [REEL.STATUS_INFLIGHT, REEL.STATUS_RUNNING, REEL.STATUS_QUIESCED, REEL.CNT0_PERIPH_ABORT_CNT, REEL.CNT0_DOMAIN_ABORT_CNT, REEL.CNT1_POISON_CNT, REEL.CNT1_ERR_CNT, REEL.CMD_CNT_CLR] ++
  (List.range 8).flatMap (fun c => [REEL.CH_CFG_PRIO c, REEL.CH_DESC_ADDR c, REEL.CH_CMD_START c, REEL.CH_CMD_RESUME c, REEL.CH_CMD_STOP c, REEL.CH_STATUS_STATE c, REEL.CH_STATUS_CODE c, REEL.CH_STATUS_WAIT_REQ c, REEL.CH_STATUS_START_REJ c, REEL.CH_STATUS_DONE c, REEL.CH_STATUS_ERR c, REEL.CH_BYTES_BYTES c, REEL.CH_CNT_DESC_CNT c, REEL.CH_CNT_BURST_CNT c])

/-! ### PMU -/

def PMU.CTRL_FREEZE : Field := ⟨0x60000 + 0x0000, 0, 1, .rw, .dv, 0⟩
def PMU.STATUS_OVF : Field := ⟨0x60000 + 0x0004, 0, 8, .w1c, .dv, 0⟩
def PMU.STATUS_SAMP_LOST : Field := ⟨0x60000 + 0x0004, 16, 16, .ro, .dv, 0⟩
def PMU.CYCLE_CYCLE (h : Nat) : Field := ⟨0x60000 + 0x0008 + 4 * h, 0, 32, .rw, .dv, 0⟩
def PMU.SAMP_IDX_RD : Field := ⟨0x60000 + 0x0010, 0, 7, .rw, .dv, 0⟩
def PMU.SAMP_IDX_WR : Field := ⟨0x60000 + 0x0010, 8, 7, .ro, .dv, 0⟩
def PMU.PMC_EVENT (i : Nat) : Field := ⟨0x60000 + 0x0100 + 0x10 * i, 0, 10, .rw, .dv, 0⟩
def PMU.PMC_INST (i : Nat) : Field := ⟨0x60000 + 0x0100 + 0x10 * i, 10, 4, .rw, .dv, 0⟩
def PMU.PMC_THRESH (i : Nat) : Field := ⟨0x60000 + 0x0100 + 0x10 * i, 16, 8, .rw, .dv, 0⟩
def PMU.PMC_EN (i : Nat) : Field := ⟨0x60000 + 0x0100 + 0x10 * i, 24, 1, .rw, .dv, 0⟩
def PMU.PMC_CHAIN (i : Nat) : Field := ⟨0x60000 + 0x0100 + 0x10 * i, 25, 1, .rw, .dv, 0⟩
def PMU.PMC_SAMPLE (i : Nat) : Field := ⟨0x60000 + 0x0100 + 0x10 * i, 26, 1, .rw, .dv, 0⟩
def PMU.PMC_OVF_IRQ (i : Nat) : Field := ⟨0x60000 + 0x0100 + 0x10 * i, 27, 1, .rw, .dv, 0⟩
def PMU.PMC_COUNT_COUNT (i h : Nat) : Field := ⟨0x60000 + 0x0104 + 0x10 * i + 4 * h, 0, (if h = 1 then 16 else 32), .rw, .dv, 0⟩
def PMU.PMC_SKID_SKID (i : Nat) : Field := ⟨0x60000 + 0x010C + 0x10 * i, 0, 32, .ro, .dv, 0⟩
def PMU.SAMP0_INSN (e : Nat) : Field := ⟨0x60000 + 0x0400 + 0x10 * e, 0, 32, .ro, .dv, 0⟩
def PMU.SAMP1_PC (e : Nat) : Field := ⟨0x60000 + 0x0404 + 0x10 * e, 0, 14, .ro, .dv, 0⟩
def PMU.SAMP1_LAT (e : Nat) : Field := ⟨0x60000 + 0x0404 + 0x10 * e, 16, 8, .ro, .dv, 0⟩
def PMU.SAMP1_CTR (e : Nat) : Field := ⟨0x60000 + 0x0404 + 0x10 * e, 24, 3, .ro, .dv, 0⟩
def PMU.SAMP2_CYCLE (e : Nat) : Field := ⟨0x60000 + 0x0408 + 0x10 * e, 0, 32, .ro, .dv, 0⟩
def PMU.SAMP3_RZ (e : Nat) : Field := ⟨0x60000 + 0x040C + 0x10 * e, 0, 32, .rz, .vo, 0⟩

/-- Every field of block PMU. -/
def PMU.fields : List Field :=
  [PMU.CTRL_FREEZE, PMU.STATUS_OVF, PMU.STATUS_SAMP_LOST, PMU.SAMP_IDX_RD, PMU.SAMP_IDX_WR] ++
  (List.range 2).flatMap (fun h => [PMU.CYCLE_CYCLE h]) ++
  (List.range 8).flatMap (fun i => [PMU.PMC_EVENT i, PMU.PMC_INST i, PMU.PMC_THRESH i, PMU.PMC_EN i, PMU.PMC_CHAIN i, PMU.PMC_SAMPLE i, PMU.PMC_OVF_IRQ i, PMU.PMC_SKID_SKID i]) ++
  (List.range 8).flatMap (fun i => (List.range 2).flatMap (fun h => [PMU.PMC_COUNT_COUNT i h])) ++
  (List.range 64).flatMap (fun e => [PMU.SAMP0_INSN e, PMU.SAMP1_PC e, PMU.SAMP1_LAT e, PMU.SAMP1_CTR e, PMU.SAMP2_CYCLE e, PMU.SAMP3_RZ e])

/-! ### STR -/

def STR.CTRL_LOG_PORT_EN : Field := ⟨0x50000 + 0x0000, 0, 1, .wm, .dv, 0⟩
def STR.CTRL_TRACE_PORT_EN : Field := ⟨0x50000 + 0x0000, 1, 1, .wm, .dv, 0⟩
def STR.CTRL_PIN_SEV : Field := ⟨0x50000 + 0x0000, 2, 2, .wm, .dv, 1⟩
def STR.STATUS_ALM_NEW : Field := ⟨0x50000 + 0x0004, 0, 1, .w1c, .dv, 0⟩
def STR.STATUS_ALM_OVF : Field := ⟨0x50000 + 0x0004, 1, 1, .w1c, .dv, 0⟩
def STR.STATUS_CKPT_DEFER : Field := ⟨0x50000 + 0x0004, 2, 1, .ro, .vo, 0⟩
def STR.STATUS_ALARM_N_NOW : Field := ⟨0x50000 + 0x0004, 3, 1, .ro, .vo, 0⟩
def STR.TIME_TIME (h : Nat) : Field := ⟨0x50000 + 0x0008 + 4 * h, 0, (if h = 1 then 16 else 32), .ro, .pl, 0⟩
def STR.CKPT0_CKPT_LO : Field := ⟨0x50000 + 0x0010, 0, 32, .ro, .pl, 0⟩
def STR.CKPT1_CKPT_HI : Field := ⟨0x50000 + 0x0014, 0, 16, .ro, .pl, 0⟩
def STR.CKPT1_ORDERLY : Field := ⟨0x50000 + 0x0014, 16, 1, .ro, .pl, 0⟩
def STR.CKPT1_DEFER_CNT : Field := ⟨0x50000 + 0x0014, 24, 8, .ro, .pl, 0⟩
def STR.CYCLE_STR_CYCLE : Field := ⟨0x50000 + 0x0018, 0, 32, .ro, .dv, 0⟩
def STR.RING_BASE_BASE (g : Nat) : Field := ⟨0x50000 + 0x0020 + 0x20 * g, 0, 32, .rw, .dv, (if g = 0 then 0x10E00000 else 0x10C00000)⟩
def STR.RING_SIZE_SIZE (g : Nat) : Field := ⟨0x50000 + 0x0024 + 0x20 * g, 0, 3, .rw, .dv, (if g = 0 then 2 else 3)⟩
def STR.RING_WR_WR (g : Nat) : Field := ⟨0x50000 + 0x0028 + 0x20 * g, 0, 32, .ro, .dv, 0⟩
def STR.RING_RD_RD (g : Nat) : Field := ⟨0x50000 + 0x002C + 0x20 * g, 0, 32, .rw, .dv, 0⟩
def STR.RING_PORT_PORT (g : Nat) : Field := ⟨0x50000 + 0x0030 + 0x20 * g, 0, 32, .ro, .vo, 0⟩
def STR.RING_CNT_RING_DROP (g : Nat) : Field := ⟨0x50000 + 0x0034 + 0x20 * g, 0, 16, .ro, .dv, 0⟩
def STR.RING_CNT_GAP_CNT (g : Nat) : Field := ⟨0x50000 + 0x0034 + 0x20 * g, 16, 16, .ro, .dv, 0⟩
def STR.TRACE_SRC_SRC : Field := ⟨0x50000 + 0x0058, 0, 15, .rw, .dv, 0⟩
def STR.CMD_CNT_CLR : Field := ⟨0x50000 + 0x0060, 0, 1, .hsc, .vo, 0⟩
def STR.SRC0_RATE (q : Nat) : Field := ⟨0x50000 + 0x0100 + 8 * q, 0, 16, .rw, .dv, 0x0064⟩
def STR.SRC0_BURST (q : Nat) : Field := ⟨0x50000 + 0x0100 + 8 * q, 16, 8, .rw, .dv, 0x20⟩
def STR.SRC0_THROTTLED (q : Nat) : Field := ⟨0x50000 + 0x0100 + 8 * q, 24, 1, .ro, .vo, 0⟩
def STR.SRC1_DROP_CNT (q : Nat) : Field := ⟨0x50000 + 0x0104 + 8 * q, 0, 16, .ro, .dv, 0⟩
def STR.SRC1_TOKENS (q : Nat) : Field := ⟨0x50000 + 0x0104 + 8 * q, 16, 8, .ro, .vo, 0x20⟩
def STR.ALM0_ID (e : Nat) : Field := ⟨0x50000 + 0x1000 + 0x20 * e, 0, 8, .ro, .dv, 0⟩
def STR.ALM0_INSTANCE (e : Nat) : Field := ⟨0x50000 + 0x1000 + 0x20 * e, 8, 8, .ro, .dv, 0⟩
def STR.ALM0_STACK (e : Nat) : Field := ⟨0x50000 + 0x1000 + 0x20 * e, 16, 2, .ro, .dv, 0⟩
def STR.ALM0_ACTIVE (e : Nat) : Field := ⟨0x50000 + 0x1000 + 0x20 * e, 18, 1, .ro, .vo, 0⟩
def STR.ALM0_UNACKED (e : Nat) : Field := ⟨0x50000 + 0x1000 + 0x20 * e, 19, 1, .w1c, .dv, 0⟩
def STR.ALM0_SEV (e : Nat) : Field := ⟨0x50000 + 0x1000 + 0x20 * e, 20, 2, .ro, .dv, 0⟩
def STR.ALM1_COUNT (e : Nat) : Field := ⟨0x50000 + 0x1004 + 0x20 * e, 0, 16, .ro, .dv, 0⟩
def STR.ALM1_CODE (e : Nat) : Field := ⟨0x50000 + 0x1004 + 0x20 * e, 16, 16, .ro, .dv, 0⟩
def STR.ALM2_FIRST_TIME (e h : Nat) : Field := ⟨0x50000 + 0x1008 + 0x20 * e + 4 * h, 0, (if h = 1 then 16 else 32), .ro, .dv, 0⟩
def STR.ALM4_LAST_TIME (e h : Nat) : Field := ⟨0x50000 + 0x1010 + 0x20 * e + 4 * h, 0, (if h = 1 then 16 else 32), .ro, .dv, 0⟩
def STR.ALM6_RZ (e h : Nat) : Field := ⟨0x50000 + 0x1018 + 0x20 * e + 4 * h, 0, 32, .rz, .vo, 0⟩

/-- Every field of block STR. -/
def STR.fields : List Field :=
  [STR.CTRL_LOG_PORT_EN, STR.CTRL_TRACE_PORT_EN, STR.CTRL_PIN_SEV, STR.STATUS_ALM_NEW, STR.STATUS_ALM_OVF, STR.STATUS_CKPT_DEFER, STR.STATUS_ALARM_N_NOW, STR.CKPT0_CKPT_LO, STR.CKPT1_CKPT_HI, STR.CKPT1_ORDERLY, STR.CKPT1_DEFER_CNT, STR.CYCLE_STR_CYCLE] ++
  [STR.TRACE_SRC_SRC, STR.CMD_CNT_CLR] ++
  (List.range 2).flatMap (fun h => [STR.TIME_TIME h]) ++
  (List.range 2).flatMap (fun g => [STR.RING_BASE_BASE g, STR.RING_SIZE_SIZE g, STR.RING_WR_WR g, STR.RING_RD_RD g, STR.RING_PORT_PORT g, STR.RING_CNT_RING_DROP g, STR.RING_CNT_GAP_CNT g]) ++
  (List.range 15).flatMap (fun q => [STR.SRC0_RATE q, STR.SRC0_BURST q, STR.SRC0_THROTTLED q, STR.SRC1_DROP_CNT q, STR.SRC1_TOKENS q]) ++
  (List.range 64).flatMap (fun e => [STR.ALM0_ID e, STR.ALM0_INSTANCE e, STR.ALM0_STACK e, STR.ALM0_ACTIVE e, STR.ALM0_UNACKED e, STR.ALM0_SEV e, STR.ALM1_COUNT e, STR.ALM1_CODE e]) ++
  (List.range 64).flatMap (fun e => (List.range 2).flatMap (fun h => [STR.ALM2_FIRST_TIME e h, STR.ALM4_LAST_TIME e h, STR.ALM6_RZ e h]))

/-! ### EVT -/

def EVT.PEND_PEND (w : Nat) : Field := ⟨0x40000 + 0x0000 + 4 * w, 0, 32, .ro, .vo, 0⟩
def EVT.EN_EN (w : Nat) : Field := ⟨0x40000 + 0x0008 + 4 * w, 0, 32, .rw, .dv, 0⟩
def EVT.PORT_CHG_PORT_CHG : Field := ⟨0x40000 + 0x0010, 0, 8, .w1c, .dv, 0⟩

/-- Every field of block EVT. -/
def EVT.fields : List Field :=
  [EVT.PORT_CHG_PORT_CHG] ++
  (List.range 2).flatMap (fun w => [EVT.PEND_PEND w, EVT.EN_EN w])

/-! ### PCI -/

def PCI.STATUS_SPEED : Field := ⟨0x1E0000 + 0x0000, 0, 3, .ro, .vo, 0⟩
def PCI.STATUS_WIDTH : Field := ⟨0x1E0000 + 0x0000, 3, 3, .ro, .vo, 0⟩
def PCI.STATUS_L1 : Field := ⟨0x1E0000 + 0x0000, 6, 1, .ro, .vo, 0⟩
def PCI.CNT_CA_CNT : Field := ⟨0x1E0000 + 0x0004, 0, 16, .ro, .dv, 0⟩
def PCI.CNT_EP_CNT : Field := ⟨0x1E0000 + 0x0004, 16, 16, .ro, .dv, 0⟩
def PCI.CMD_CNT_CLR : Field := ⟨0x1E0000 + 0x0008, 0, 1, .hsc, .vo, 0⟩

/-- Every field of block PCI. -/
def PCI.fields : List Field :=
  [PCI.STATUS_SPEED, PCI.STATUS_WIDTH, PCI.STATUS_L1, PCI.CNT_CA_CNT, PCI.CNT_EP_CNT, PCI.CMD_CNT_CLR]

/-! ### TTH -/

def TTH.CTRL_UP_EN : Field := ⟨0x1D0000 + 0x0000, 0, 1, .rw, .dv, 1⟩
def TTH.CTRL_DOWN_EN : Field := ⟨0x1D0000 + 0x0000, 1, 1, .rw, .dv, 1⟩
def TTH.STATUS_ROLE : Field := ⟨0x1D0000 + 0x0004, 0, 1, .ro, .dv, 0⟩
def TTH.STATUS_ID : Field := ⟨0x1D0000 + 0x0004, 1, 2, .ro, .dv, 0⟩
def TTH.STATUS_UP_LINK : Field := ⟨0x1D0000 + 0x0004, 3, 1, .ro, .vo, 0⟩
def TTH.STATUS_DOWN_LINK : Field := ⟨0x1D0000 + 0x0004, 4, 1, .ro, .vo, 0⟩
def TTH.STATUS_REACH : Field := ⟨0x1D0000 + 0x0004, 5, 4, .ro, .vo, 0⟩
def TTH.STATUS_CFG_ERR : Field := ⟨0x1D0000 + 0x0004, 9, 1, .w1c, .dv, 0⟩
def TTH.STATUS_ID_ERR : Field := ⟨0x1D0000 + 0x0004, 10, 1, .w1c, .dv, 0⟩
def TTH.STATUS_LINK_LOSS : Field := ⟨0x1D0000 + 0x0004, 11, 1, .w1c, .dv, 0⟩
def TTH.CNT0_UP_RETRY : Field := ⟨0x1D0000 + 0x0008, 0, 16, .ro, .dv, 0⟩
def TTH.CNT0_DOWN_RETRY : Field := ⟨0x1D0000 + 0x0008, 16, 16, .ro, .dv, 0⟩
def TTH.CNT1_UP_SYNC_ERR : Field := ⟨0x1D0000 + 0x000C, 0, 16, .ro, .dv, 0⟩
def TTH.CNT1_DOWN_SYNC_ERR : Field := ⟨0x1D0000 + 0x000C, 16, 16, .ro, .dv, 0⟩
def TTH.TIME_ADJ_ADJ : Field := ⟨0x1D0000 + 0x0010, 0, 32, .ro, .dv, 0⟩
def TTH.CMD_CNT_CLR : Field := ⟨0x1D0000 + 0x0014, 0, 1, .hsc, .vo, 0⟩

/-- Every field of block TTH. -/
def TTH.fields : List Field :=
  [TTH.CTRL_UP_EN, TTH.CTRL_DOWN_EN, TTH.STATUS_ROLE, TTH.STATUS_ID, TTH.STATUS_UP_LINK, TTH.STATUS_DOWN_LINK, TTH.STATUS_REACH, TTH.STATUS_CFG_ERR, TTH.STATUS_ID_ERR, TTH.STATUS_LINK_LOSS, TTH.CNT0_UP_RETRY, TTH.CNT0_DOWN_RETRY] ++
  [TTH.CNT1_UP_SYNC_ERR, TTH.CNT1_DOWN_SYNC_ERR, TTH.TIME_ADJ_ADJ, TTH.CMD_CNT_CLR]

/-! ### SEC -/

def SEC.TOKEN_ADDR_ADDR : Field := ⟨0xF0000 + 0x0000, 0, 32, .rw, .dv, 0⟩
def SEC.OP_OP : Field := ⟨0xF0000 + 0x0004, 0, 4, .gp, .vo, 0⟩
def SEC.OP_TARGET : Field := ⟨0xF0000 + 0x0004, 4, 4, .gp, .vo, 0⟩
def SEC.OP_STATUS_BUSY : Field := ⟨0xF0000 + 0x000C, 0, 1, .ro, .vo, 0⟩
def SEC.OP_STATUS_RESULT : Field := ⟨0xF0000 + 0x000C, 4, 4, .ro, .dv, 0⟩
def SEC.KEYS_SLOT (k : Nat) : Field := ⟨0xF0000 + 0x0010, 2*k, 2, .ro, .pl, 0⟩
def SEC.ATT_INDEX : Field := ⟨0xF0000 + 0x0014, 0, 21, .ro, .pl, 0⟩
def SEC.ATT_EXHAUSTED : Field := ⟨0xF0000 + 0x0014, 21, 1, .ro, .pl, 0⟩
def SEC.MEAS_MEAS (w : Nat) : Field := ⟨0xF0000 + 0x0020 + 4 * w, 0, 32, .ro, .dv, 0⟩
def SEC.MEAS_CNT_COUNT : Field := ⟨0xF0000 + 0x0040, 0, 8, .ro, .dv, 0⟩
def SEC.CNT_VERIFY_FAIL : Field := ⟨0xF0000 + 0x0044, 0, 16, .ro, .dv, 0⟩
def SEC.CNT_ATT_REFUSED : Field := ⟨0xF0000 + 0x0044, 16, 16, .ro, .dv, 0⟩
def SEC.CMD_CNT_CLR : Field := ⟨0xF0000 + 0x0048, 0, 1, .hsc, .vo, 0⟩
def SEC.CERT_CERT (w : Nat) : Field := ⟨0xF0000 + 0x1000 + 4 * w, 0, 32, .ro, .pl, 0⟩

/-- Every field of block SEC. -/
def SEC.fields : List Field :=
  [SEC.TOKEN_ADDR_ADDR, SEC.OP_OP, SEC.OP_TARGET, SEC.OP_STATUS_BUSY, SEC.OP_STATUS_RESULT, SEC.ATT_INDEX, SEC.ATT_EXHAUSTED, SEC.MEAS_CNT_COUNT, SEC.CNT_VERIFY_FAIL, SEC.CNT_ATT_REFUSED, SEC.CMD_CNT_CLR] ++
  (List.range 2).flatMap (fun k => [SEC.KEYS_SLOT k]) ++
  (List.range 8).flatMap (fun w => [SEC.MEAS_MEAS w]) ++
  (List.range 723).flatMap (fun w => [SEC.CERT_CERT w])

/-! ### TST -/

def TST.RESULT0_DONE : Field := ⟨0xE0000 + 0x0000, 0, 1, .ro, .pl, 0⟩
def TST.RESULT0_PASS : Field := ⟨0xE0000 + 0x0000, 1, 1, .ro, .pl, 0⟩
def TST.RESULT0_FAIL_SLICE : Field := ⟨0xE0000 + 0x0000, 2, 5, .ro, .pl, 0⟩
def TST.RESULT0_FAIL_COUNT : Field := ⟨0xE0000 + 0x0000, 8, 8, .ro, .pl, 0⟩
def TST.RESULT1_TIME_LO : Field := ⟨0xE0000 + 0x0004, 0, 32, .ro, .pl, 0⟩
def TST.RESULT2_TIME_HI : Field := ⟨0xE0000 + 0x0008, 0, 16, .ro, .pl, 0⟩
def TST.RESULT3_RIG_SEQ : Field := ⟨0xE0000 + 0x000C, 0, 32, .ro, .pl, 0⟩
def TST.STATUS_SAFE_HOLD : Field := ⟨0xE0000 + 0x0010, 0, 1, .ro, .dv, 0⟩
def TST.STATUS_POST_PASS : Field := ⟨0xE0000 + 0x0010, 1, 1, .ro, .dv, 0⟩
def TST.STATUS_HOLD_REFUSED : Field := ⟨0xE0000 + 0x0010, 2, 1, .w1c, .dv, 0⟩
def TST.STATUS_ENG_BUSY : Field := ⟨0xE0000 + 0x0010, 3, 1, .ro, .vo, 0⟩
def TST.HOLD_REL_RELEASE : Field := ⟨0xE0000 + 0x0014, 0, 1, .gp, .vo, 0⟩
def TST.CNT_ABORT_CNT : Field := ⟨0xE0000 + 0x001C, 0, 16, .ro, .pl, 0⟩
def TST.CNT_FAIL_CNT : Field := ⟨0xE0000 + 0x001C, 16, 16, .ro, .pl, 0⟩
def TST.CMD_CNT_CLR : Field := ⟨0xE0000 + 0x0020, 0, 1, .hsc, .vo, 0⟩
def TST.ENG0_SLICE : Field := ⟨0xE0000 + 0x0100, 0, 5, .rw, .vo, 0⟩
def TST.ENG0_START : Field := ⟨0xE0000 + 0x0100, 8, 1, .hsc, .vo, 0⟩
def TST.ENG1_SEED : Field := ⟨0xE0000 + 0x0104, 0, 32, .rw, .vo, 1⟩
def TST.ENG2_PATTERNS : Field := ⟨0xE0000 + 0x0108, 0, 32, .rw, .vo, 0x1000⟩
def TST.ENG3_MISR : Field := ⟨0xE0000 + 0x010C, 0, 32, .ro, .vo, 0⟩

/-- Every field of block TST. -/
def TST.fields : List Field :=
  [TST.RESULT0_DONE, TST.RESULT0_PASS, TST.RESULT0_FAIL_SLICE, TST.RESULT0_FAIL_COUNT, TST.RESULT1_TIME_LO, TST.RESULT2_TIME_HI, TST.RESULT3_RIG_SEQ, TST.STATUS_SAFE_HOLD, TST.STATUS_POST_PASS, TST.STATUS_HOLD_REFUSED, TST.STATUS_ENG_BUSY, TST.HOLD_REL_RELEASE] ++
  [TST.CNT_ABORT_CNT, TST.CNT_FAIL_CNT, TST.CMD_CNT_CLR, TST.ENG0_SLICE, TST.ENG0_START, TST.ENG1_SEED, TST.ENG2_PATTERNS, TST.ENG3_MISR]

/-! ### SLC -/

def SLC.W0_STATE (n i : Nat) : Field := ⟨0x100000000 + 0x10000 * n + 0x40 * i, 0, 3, .ixro, .ln, 0x5⟩
def SLC.W0_POSITION (n i : Nat) : Field := ⟨0x100000000 + 0x10000 * n + 0x40 * i, 8, 6, .ixro, .ln, 0⟩
def SLC.W0_POS_VALID (n i : Nat) : Field := ⟨0x100000000 + 0x10000 * n + 0x40 * i, 14, 1, .ixro, .ln, 0⟩
def SLC.W1_GAIN (n i : Nat) : Field := ⟨0x100000000 + 0x10000 * n + 0x40 * i + 0x04, 0, 16, .ixro, .ln, 0x4000⟩
def SLC.W2_OFFSET (n i : Nat) : Field := ⟨0x100000000 + 0x10000 * n + 0x40 * i + 0x08, 0, 16, .ixro, .ln, 0⟩
def SLC.W3_SKEW (n i : Nat) : Field := ⟨0x100000000 + 0x10000 * n + 0x40 * i + 0x0C, 0, 16, .ixro, .ln, 0⟩
def SLC.W4_BW (n i : Nat) : Field := ⟨0x100000000 + 0x10000 * n + 0x40 * i + 0x10, 0, 16, .ixro, .ln, 0⟩
def SLC.W5_SLC_OVR_CNT (n i : Nat) : Field := ⟨0x100000000 + 0x10000 * n + 0x40 * i + 0x14, 0, 24, .ixro, .ln, 0⟩

/-- Every field of block SLC. -/
def SLC.fields (n : Nat) : List Field :=
  (List.range 65).flatMap (fun i => [SLC.W0_STATE n i, SLC.W0_POSITION n i, SLC.W0_POS_VALID n i, SLC.W1_GAIN n i, SLC.W2_OFFSET n i, SLC.W3_SKEW n i, SLC.W4_BW n i, SLC.W5_SLC_OVR_CNT n i])

/-! ### AFE -/

def AFE.AFE_PEAK_PEAK (n : Nat) : Field := ⟨0x100000000 + 0x10000 * n + 0x1100, 0, 4, .ixrw, .dv, 0x6⟩

/-- Every field of block AFE. -/
def AFE.fields (n : Nat) : List Field :=
  [AFE.AFE_PEAK_PEAK n]

/-! ### EQC -/

def EQC.FFE_C (n t : Nat) : Field := ⟨0x100100000 + 0x10000 * n + 4 * t, 0, 12, .ixrw, .ln, 0⟩
def EQC.FFE_D (n t : Nat) : Field := ⟨0x100100000 + 0x10000 * n + 4 * t, 16, 10, .ixro, .dv, 0⟩
def EQC.VOLT_W (n k : Nat) : Field := ⟨0x100100000 + 0x10000 * n + 0x200 + 4 * k, 0, 10, .ixrw, .ln, 0⟩
def EQC.T1_H1 (n : Nat) : Field := ⟨0x100100000 + 0x10000 * n + 0x300, 0, 10, .ixrw, .ln, 0⟩
def EQC.T2_H2 (n : Nat) : Field := ⟨0x100100000 + 0x10000 * n + 0x304, 0, 10, .ixrw, .ln, 0⟩
def EQC.SLOT_KIND (n q : Nat) : Field := ⟨0x100100000 + 0x10000 * n + 0x800 + 4 * q, 0, 2, .ixro, .dv, 0⟩
def EQC.SLOT_START (n q : Nat) : Field := ⟨0x100100000 + 0x10000 * n + 0x800 + 4 * q, 16, 9, .ixro, .dv, 0⟩

/-- Every field of block EQC. -/
def EQC.fields (n : Nat) : List Field :=
  [EQC.T1_H1 n, EQC.T2_H2 n] ++
  (List.range 112).flatMap (fun t => [EQC.FFE_C n t, EQC.FFE_D n t]) ++
  (List.range 20).flatMap (fun k => [EQC.VOLT_W n k]) ++
  (List.range 5).flatMap (fun q => [EQC.SLOT_KIND n q, EQC.SLOT_START n q])

/-! ### TXT -/

def TXT.FIRA_C_ACT (n t : Nat) : Field := ⟨0x100200000 + 0x10000 * n + 4 * t, 0, 10, .ixro, .ln, (if t = 2 then 0x100 else 0)⟩
def TXT.FIRS_C_SHD (n t : Nat) : Field := ⟨0x100200000 + 0x10000 * n + 0x40 + 4 * t, 0, 10, .ixrw, .ln, (if t = 2 then 0x100 else 0)⟩
def TXT.PDA_E_ACT (n i : Nat) : Field := ⟨0x100200000 + 0x10000 * n + 0x100 + 4 * i, 0, 10, .ixro, .ln, 0⟩
def TXT.PDS_E_SHD (n i : Nat) : Field := ⟨0x100200000 + 0x10000 * n + 0x200 + 4 * i, 0, 10, .ixrw, .ln, 0⟩
def TXT.SKA_SK_ACT (n j : Nat) : Field := ⟨0x100200000 + 0x10000 * n + 0x300 + 4 * j, 0, 8, .ixro, .ln, 0⟩
def TXT.SKS_SK_SHD (n j : Nat) : Field := ⟨0x100200000 + 0x10000 * n + 0x310 + 4 * j, 0, 8, .ixrw, .ln, 0⟩

/-- Every field of block TXT. -/
def TXT.fields (n : Nat) : List Field :=
  (List.range 9).flatMap (fun t => [TXT.FIRA_C_ACT n t, TXT.FIRS_C_SHD n t]) ++
  (List.range 64).flatMap (fun i => [TXT.PDA_E_ACT n i, TXT.PDS_E_SHD n i]) ++
  (List.range 4).flatMap (fun j => [TXT.SKA_SK_ACT n j, TXT.SKS_SK_SHD n j])

/-! ### RXC -/

def RXC.FFE_F (n t : Nat) : Field := ⟨0x100300000 + 0x1000 * n + 4 * t, 0, 10, .ixrw, .ln, (if t = 4 then 0x080 else 0)⟩
def RXC.DFE_B (n j : Nat) : Field := ⟨0x100300000 + 0x1000 * n + 0x100 + 4 * j, 0, 8, .ixrw, .ln, 0⟩

/-- Every field of block RXC. -/
def RXC.fields (n : Nat) : List Field :=
  (List.range 24).flatMap (fun t => [RXC.FFE_F n t]) ++
  (List.range 3).flatMap (fun j => [RXC.DFE_B n j])
/-- The copy of an ADDR or STRIDE field that Bridle holds for an initiator (R366). Copies of initiators other than
Gondola stand at addresses of the model's own. -/
def Field.forInit (f : Field) (i : Nat) : Field := { f with addr := f.addr + i * 2 ^ 40 }

/-! ### Finding the fields of a word -/

/-- Every field of the block that owns byte address `a` (Table 17-1); the windows of the indirect words follow. -/
def blockFields (a : Nat) : List Field :=
  if a < 0x10000 then GLB.fields
  else if a < 0x20000 then PWR.fields
  else if a < 0x30000 then SAF.fields
  else if a < 0x31000 then CFG.fields
  else if a < 0x31100 then PORT.fields ((a - 0x31000) / 0x20)
  else if a < 0x40000 then []
  else if a < 0x50000 then EVT.fields
  else if a < 0x60000 then STR.fields
  else if a < 0x70000 then PMU.fields
  else if a < 0x80000 then LST.fields
  else if a < 0x90000 then REEL.fields
  else if a < 0xA0000 then MEM.fields
  else if a < 0xB0000 then SND.fields
  else if a < 0xC0000 then BDA.fields
  else if a < 0xD0000 then THM.fields
  else if a < 0xE0000 then CAL.fields
  else if a < 0xF0000 then TST.fields
  else if a < 0x100000 then SEC.fields
  else if a < 0x180000 then LN.fields ((a - 0x100000) / 0x10000)
  else if a < 0x1C0000 then HL.fields ((a - 0x180000) / 0x4000)
  else if a < 0x1C8000 then KL.fields ((a - 0x1C0000) / 0x1000)
  else if a < 0x1D0000 then []
  else if a < 0x1E0000 then TTH.fields
  else if a < 0x1F0000 then PCI.fields
  else if a < 0x200000 then SPR.fields
  else if a < 0x100000000 then []
  else if a < 0x100080000 then
    SLC.fields ((a - 0x100000000) / 0x10000) ++ AFE.fields ((a - 0x100000000) / 0x10000)
  else if a < 0x100100000 then []
  else if a < 0x100180000 then EQC.fields ((a - 0x100100000) / 0x10000)
  else if a < 0x100200000 then []
  else if a < 0x100280000 then TXT.fields ((a - 0x100200000) / 0x10000)
  else if a < 0x100300000 then []
  else if a < 0x100310000 then RXC.fields ((a - 0x100300000) / 0x1000)
  else []

/-- The fields of the word at `a`. -/
def fieldsAt (a : Nat) : List Field := (blockFields a).filter (fun f => f.addr == a)

/-- The complement word of a guarded pair (R367): the word after a word that holds a GP field. -/
def isComplement (a : Nat) : Bool := 4 ≤ a && (fieldsAt (a - 4)).any (fun f => f.acc == .gp)

/-- A word some register table defines. -/
def isDefined (a : Nat) : Bool := !(fieldsAt a).isEmpty || isComplement a

/-- A word that carries a parity bit (R369): it holds an RW, WM, BA or GP field, as both words of a guarded pair do. -/
def hasParity (a : Nat) : Bool :=
  isComplement a || (fieldsAt a).any (fun f => f.acc == .rw || f.acc == .wm || f.acc == .ba || f.acc == .gp || f.acc == .ixrw)

/-- The retention class of the stored field with key `k`; a key no table gives is VO. -/
def retentionOf (k : Nat) : Ret :=
  match (fieldsAt (k / 32)).find? (fun f => f.lo == k % 32) with
  | some f => f.ret
  | none => .vo

end Sys2Proof
end

