-- ==== Sys2Proof/Machine/State.lean ====
section
/-!
DEFINITION. The machine's state as plain data. Every register field of the spec's register tables is held in `regs`
under its own key (`Machine/RegMap.lean`); what the spec gives the machine beside its registers (queues, engine
progress, values in force, pins, memories) is held in one structure per unit.
-/

namespace Sys2Proof.Machine

open Sys2Proof

/-! ## Memory (chapter 18) -/

/-- One entry of the merge buffer (R379): a 64-bit word address, its data and its byte-valid mask. -/
structure MergeEntry where
  addr : Nat
  data : Nat
  mask : Nat
deriving DecidableEq, Repr

/-- The memories (R375 to R385): the bytes of the SRAM and QDR-IV data windows in canonical form (an unlisted byte is
0, the fill of R378), the poisoned words, the words whose code is wrong and has not been read yet, as (word, what a read finds),
the merge buffer (idle longest first), the correction histories as (bank,
word, powered time) oldest first, the banks whose burst has been raised and whose bucket has not returned to 0, the
remapped words with their spare, and the powered time of each word's last patrol read (R384; a spare stands behind the
addresses, at `spareKey`). -/
structure MemSt where
  cells : List Host.Cell := []
  poison : List Nat := []
  upset : List (Nat × SprEcc) := []
  merge : List MergeEntry := []
  history : List (Nat × Nat × Nat) := []
  burst : List Nat := []
  remap : List (Nat × Nat) := []
  patrol : List (Nat × Nat) := []
deriving DecidableEq, Repr

/-! ## Bridle (chapter 17) -/

/-- What Bridle or a memory answers an access with. -/
inductive Resp where
  | none
  | done
  | data (v : Nat)
  | poisoned (v : Nat)
  | error (kind : Nat)
deriving DecidableEq, Repr

/-- Bridle (R356 to R371): the last answer given, each initiator's pending guarded value as (address, value) (R367),
the words whose parity is wrong, and those that resident firmware has still to rewrite (R369, R370). -/
structure BrdSt where
  resp : Resp := .none
  guard : List (Nat × Nat × Nat) := []
  parityBad : List Nat := []
  parityDue : List Nat := []
deriving DecidableEq, Repr

/-! ## Performance counters and Streamer (chapter 20) -/

/-- The PMU's events held in the pre-counters during a freeze (R408), one count per programmable counter and one for
PMU_CYCLE, and the Streamer's state outside its registers: the log SEQ (Table 20-4), the lost count of the trace ring
(R417), the checkpoint in MTP with its ORDERLY mark and whether one is due and deferred (R404), each initiator's copy
of an alarm entry as (initiator, entry, words) (R414), and the tick at which each log source was last refilled (R416). -/
structure StrSt where
  held : List Nat := List.replicate 8 0
  heldCycle : Nat := 0
  logSeq : Nat := 0
  traceLost : Nat := 0
  mtpCkpt : Nat := 0
  mtpOrderly : Bool := true
  mtpPending : Bool := false
  almCopy : List (Nat × Nat × List Nat) := []
  refilled : List (Nat × Nat) := []
deriving DecidableEq, Repr

/-! ## Line lanes (chapters 1 to 6) -/

/-- The power state of a line or host lane (R315). -/
inductive Power where
  | off | nap | active
deriving DecidableEq, Repr

/-- Where a transmit PLL takes its frequency from (R23). -/
inductive PllRef where
  | traffic | holdover | refclk
deriving DecidableEq, Repr

/-- An output of the correction stage (R43, R48): the code, its saturation mark and the slice that took the sample. -/
structure Sample where
  code : Int := 0
  sat : Bool := false
  slice : Nat := 0
deriving DecidableEq, Repr

/-- The receive front end (chapter 2): the hold-off after a backoff (R39), the saturated samples of the present window
(R39), a backoff that waits for a compensation release (R37), the front-end peaking in force (R41), a handover or a
slot's abandonment postponed by gross-overload recovery (R46), the beat position of the next sample (R42), the digital
gain of a compensation as the beats its release has left, negative where it lies below unity (R37), and the latest 1,024
samples that left the correction stage, newest first. `absSum` and `absCnt` hold the sum of |code| and the count of the
unsaturated samples of the AGC's present block, `blkCnt` all its served samples, `block` the sums of a complete block that is
not judged yet (R36), and `stepAge` the served samples since the last gain step, at most a block (R38). Between two beats,
`handNow` says that a handover has taken effect, `stepFrom` holds the gain code before a step that has, and `gainWait` the
gain code of a step put off to the next boundary (R46). `tapSum` and `tapCnt` are the codes of the tap's present mean
(R53). -/
structure RxSt where
  holdoff : Bool := false
  winCnt : Nat := 0
  backoffPend : Bool := false
  peak : Nat := 6
  handPend : Bool := false
  abandPend : Bool := false
  pos : Nat := 0
  comp : Int := 0
  hist : List Sample := []
  absSum : Nat := 0
  absCnt : Nat := 0
  blkCnt : Nat := 0
  block : Option (Nat × Nat) := none
  stepAge : Nat := 262144
  handNow : Bool := false
  stepFrom : Option Nat := none
  gainWait : Option Nat := none
  tapSum : Int := 0
  tapCnt : Nat := 0
deriving DecidableEq, Repr

/-- The survivor of a trellis state (R71): its path metric in units of 2^-18, the least metric of all states being 0, and
its latest symbols, newest first. -/
structure Survivor where
  metric : Int := 0
  path : List (Fin 4) := []
deriving DecidableEq, Repr

/-- The trellis: the survivor of state (a1, a2) at place 4·a1 + a2 (R70); none where no path leads. -/
abbrev Trellis := List (Option Survivor)

/-- A pre-shed ramp (R81, R83): of the Volterra coefficients or of h2, made for a Ballast step or a host write, running
down or back, and the coefficients it started from. -/
structure Ramp where
  volt : Bool
  ballast : Bool
  reverse : Bool
  saved : List (Nat × Int)
  beats : Nat
deriving DecidableEq, Repr

/-- A mode reduction of the Ballast ladder (R81, Table 15-5): the second pass, the 16th state, the Volterra stage. -/
inductive ShedStep where
  | pass | states | volt
deriving DecidableEq, Repr

/-- The equaliser (chapter 3). Coefficients are numbered as the coefficient file numbers their words. `accLow` holds the
accumulator bits below each coefficient (R74), `slew` the host writes on their way (R80). `shedAsk` holds the
Ballast steps that wait for their check, `refused` those refused (R82, R332). A boost window may be
scheduled (`boostPend`: the superframes before it opens), `boostLeft` superframes of the open one are left, `lastStep` is the
STEP_ID last accepted (R104). `locFreeze` is the DURATION of the far-end freeze in force, 0 for none (R105), `guardFreeze` the guard's freeze of the present window (R78); the counts are of that window.
`trellis` and `trellis2` are the detector's survivors after the last codeword, in the first and the second pass (R71,
R72). -/
structure EqSt where
  trellis : Trellis := List.replicate 16 (some {})
  trellis2 : Trellis := List.replicate 16 (some {})
  accLow : List (Nat × Nat) := []
  slew : List (Nat × Int) := []
  ramp : Option Ramp := none
  passStart : Bool := false
  shedAsk : List ShedStep := []
  refused : List ShedStep := []
  boostPend : Option Nat := none
  boostLeft : Nat := 0
  lastStep : Option Nat := none
  locFreeze : Nat := 0
  guardFreeze : Bool := false
  guardFails : Nat := 0
  guardBits : Nat := 0
  guardCw : Nat := 0
deriving DecidableEq, Repr

/-- A message of the line overhead channel (R102): its tag (0: untagged), its type and its 14 body bytes; `due` says it
is to be sent, `age` counts superframes since it was sent, `tries` its retransmissions. -/
structure LocMsg where
  tag : Nat
  type : Nat
  body : List Nat
  due : Bool
  age : Nat
  tries : Nat
deriving DecidableEq, Repr

/-- The live counters of a line lane (R107, Table 04-5). -/
structure CwCounters where
  total : Nat := 0
  corr : Nat := 0
  fail : Nat := 0
  bits : Nat := 0
  sfOk : Nat := 0
  crcErr : Nat := 0
  badType : Nat := 0
  noack : Nat := 0
  frameLoss : Nat := 0
  sfLoss : Nat := 0
  markerErr : Nat := 0
deriving DecidableEq, Repr

/-- Framing and the line overhead channel (chapter 4). `good`/`bad` and `mkGood`/`mkBad` are the runs of R99. `win…` is
the 1 ms window of R96. `tagCnt`, `acks`, `seen`, `txq` and `plain` are the delivery state of R102 and R103; `dones` holds the
answers to the requests still remembered, `sent` the payload and the CRC of the superframe in transmission, `ref` the
symbols last handed to CAL with their DECODED flag (R95), `pads` the latest 640 pad bits received under frame lock, in
order, `sfAge` the frames since a superframe last ended (R99), `frmOk` and `frmBad` the decoded and failed codewords of
the frame in reception (R99), `peerStats` the last STATS body, `scr` and `beta` SCR_EN and BETA in force
(R33). The handshake of R195: the tag of the lane's latest HELLO while
unacknowledged, whether it has been acknowledged, whether a matching partner message was accepted, whether the handshake
is complete and its TXC_SETTLE has passed; the partner's CAPS. `rule…` is the clean rule of R196. -/
structure LocSt where
  live : CwCounters := {}
  good : Nat := 0
  bad : Nat := 0
  mkGood : Nat := 0
  mkBad : Nat := 0
  winBits : Nat := 0
  winFail : Nat := 0
  winSinceLock : Bool := false
  txSeq : Nat := 0
  tagCnt : Nat := 0
  acks : List Nat := []
  seen : List Nat := []
  txq : List LocMsg := []
  plain : List LocMsg := []
  dones : List (Nat × List Nat) := []
  sent : List Nat := []
  ref : List Nat := []
  refOk : Bool := false
  pads : List Bool := []
  sfAge : Nat := 0
  frmOk : Nat := 0
  frmBad : Nat := 0
  peerStats : List Nat := []
  scr : Bool := true
  beta : Nat := 3
  helloTag : Option Nat := none
  helloAcked : Bool := false
  helloMatch : Bool := false
  hsDone : Bool := false
  settled : Bool := false
  caps : Nat := 0
  ruleFresh : Bool := false
  ruleWin : Bool := false
  txcAge : Nat := 1024
deriving DecidableEq, Repr

/-- A transmit correction staged for the next boundary of the transmitted grid (R125): the request's tag, its RESULT and
APPLIED_ITEMS, and the new values as (kind, index, value). -/
structure TxcStage where
  tag : Nat
  result : Nat
  items : Nat
  values : List (Nat × Nat × Int)
deriving DecidableEq, Repr

/-- The line transmitter (chapter 5): the demand of the bring-up sequence and the demand in force (R121), PD_EN in force (R33),
the ramp value amp, the codeword and the frame of its superframe that are sent next (R97, R100), the level indices of
the latest symbols, newest first, and the DAC codes of the latest beat (R111, R114), the reference set (R125), the tag of the TXC_REQ outstanding (R124), a staged correction, the DAC step in
flight, the COUNTDOWN it sends next (0: all sent) and the steps that wait behind it (R130). -/
structure TxSt where
  seqDemand : Bool := false
  demand : Bool := false
  pd : Bool := true
  amp : Nat := 0
  cw : Nat := 0
  frm : Nat := 0
  syms : List Nat := []
  codes : List Int := []
  refFir : List Int := [0, 0, 256, 0, 0, 0, 0, 0, 0]
  refPd : List Int := List.replicate 64 0
  txcOut : Option Nat := none
  staged : Option TxcStage := none
  dac : Option DacStep := none
  dacNext : Nat := 0
  dacQueue : List DacStep := []
deriving DecidableEq, Repr

/-- Where a slot stands (Table 02-1, R143, R147): the spare in SHADOW, the slice at the reference, the slice back in
SHADOW, or an in-service slot. -/
inductive SlotPhase where
  | shadowIn | reference | shadowOut | inService
deriving DecidableEq, Repr

/-- A line symbol of a calibration window (R134, R136): the value of its reference symbol (Table 05-1), none for a pad
symbol, and the sample whose main cursor it is. -/
structure WinSym where
  a : Option Int
  x : Sample
deriving DecidableEq, Repr

/-- The calibration engine of a lane (chapter 6). `win` holds the symbols of the calibration window in progress, newest
first, and `winFrames` its frames (R135); `slotAcc` is the estimate of an in-service slot (R147). `granted` says that the
lane has not yet spent the grant its port holds (R160). `todo` lists the slices of the run that are still to be visited, in
order, `next` the slice next in order; `runTemp` is the reading at the run's start (R154), `phase` the slot in progress.
`acc`, `ladder` (0 for 80 fs to 3 for 10 fs), `lastSign` and `changes` are the refinement state per slice (R139, R148,
R149), `hc` the channel estimate in 2^-12 codes (R136), `applied` the corrections of serving slices that have not reached
their slice file, as gain, offset, skew and bandwidth in 1/64 units (R137). `rej` counts consecutive rejections by unit
and quantity (R153), `frozen` lists slices whose corrections no longer change. `wake` says that the start in progress
belongs to a wake, `ready` that it has completed. `pdPend` is an interpolation step that waits (R151), `trimAge` the
superframes sent since the last trim step (R150), `changed` marks the set for mirroring (R157). -/
structure CalSt where
  winDirty : Bool := true
  win : List WinSym := []
  winFrames : Nat := 0
  slotAcc : SliceAcc := {}
  granted : Bool := false
  dacCancelled : Bool := false
  next : Nat := 0
  todo : List Nat := []
  runTemp : Int := 0
  phase : Option SlotPhase := none
  slot : Nat := 0
  loadPend : Bool := false
  acc : List (Nat × SliceAcc) := []
  ladder : List (Nat × Nat) := []
  lastSign : List (Nat × Int) := []
  changes : List (Nat × List Int) := []
  hc : List Int := List.replicate 16 0
  applied : List (Nat × List Int) := []
  rej : List (Nat × Nat) := []
  frozen : List Nat := []
  wake : Bool := false
  ready : Bool := false
  quiesced : Bool := false
  dacStop : Bool := false
  pdStop : Bool := false
  pdPend : Option (List (Fin 64 × BitVec 10)) := none
  trimAge : Nat := 65536
  changed : Bool := false
deriving DecidableEq, Repr

/-- The live counters and lock runs of one KP4 monitor (R88, R107): consecutive marker groups found and missed, the held
counters' live sides, the 16 TAIL bins, the latest 21,760 bits of its stream, newest first (four interleaved codewords), the
bits since the codeword boundary located from the latest marker group, and the complete codewords that wait to be counted. -/
structure Kp4St where
  found : Nat := 0
  missed : Nat := 0
  loss : Nat := 0
  total : Nat := 0
  uncorr : Nat := 0
  sym : Nat := 0
  tail : List Nat := List.replicate 16 0
  bits : List Bool := []
  since : Option Nat := none
  words : List (List Nat) := []
deriving DecidableEq, Repr

/-- A PRBS generator and checker (R184, R187, R188): the generator's register, newest bit first, and whether INJECT waits for
the next bit; the live counters, the checker's register, its run of bits without a mismatch, and the bits and mismatches
of its present block of 1,024. -/
structure PrbsSt where
  bits : Nat := 0
  errs : Nat := 0
  gen : List Bool := List.replicate 31 true
  inject : Bool := false
  chk : List Bool := []
  run : Nat := 0
  blkBits : Nat := 0
  blkErrs : Nat := 0
deriving DecidableEq, Repr

/-- A line lane. `tNap` is the temperature recorded at Nap commit (R200). -/
structure LineSt where
  power : Power := .off
  rx : RxSt := {}
  eq : EqSt := {}
  loc : LocSt := {}
  tx : TxSt := {}
  cal : CalSt := {}
  tNap : Int := 0
  prbs : PrbsSt := {}
deriving DecidableEq, Repr

/-- What a lane answers a partner's training request with (R178, R179). -/
inductive TrnAnswer where
  | none | updated | held | limit | equalization | unsupported | precoding
deriving DecidableEq, Repr

/-- Where the tap search of a training lane stands (R179): before the first preset request, after it, and after a step up or
down of the present tap or the step that takes it back. -/
inductive TrnPhase where
  | idle | preset | up | upUndo | down | downUndo
deriving DecidableEq, Repr

/-- The tap search (R179): its phase, the place of the present tap in the order of the search, the least MSE_EST so far, and
whether the present pass has brought an improvement. -/
structure TrnSearch where
  phase : TrnPhase := .idle
  tap : Nat := 0
  best : Nat := 0
  improved : Bool := false
deriving DecidableEq, Repr

/-- A host lane (chapter 7): its power state, the held fields in force (R33), TRN_EN as last read (Table 07-2), a first
word that waits for its second as (0 for TX_MAN, k for preset k, word) (R175, R176), the slew target of the transmitter
and the amplitude in force (R176), accumulator bits and host writes on their way (R171, R173), the training timers that
run and the powered time of the partner's first answer (R179), requests sent, an offer in progress (R180), the restart
hold-off, CTLE held in FALLBACK, a CTLE written in Nap that takes effect at the wake (R33, R169), the powered time of an SD loss in DATA (R181), whether the partner applies
precoding, and the last answer given. The gearbox holds in `up` the RS symbols received from the host and not yet sent
on the line, and in `down` those delivered by the deframer and not yet sent to the host, oldest first (R89, R90). The
receiver holds its latest ADC codes and its latest three decisions, newest first, the magnitudes of its latest 4,096 errors in
1/16 output unit (R170, R189) and the received bits of an RS symbol not yet complete. `trnLock` is training-frame lock,
`search` the tap search and `ask` the request last sent (R178, R179). The transmitter holds the last precoded symbol, the
register of the fill pattern, its latest level indices, newest first, and the FIR sums sent last, in 2^-8 of a level unit
(R168, R174, R177). -/
structure HostSt where
  up : List Nat := []
  down : List Nat := []
  adc : List Int := []
  dec : List Int := []
  errs : List Nat := []
  part : List Bool := []
  trnLock : Bool := false
  search : TrnSearch := {}
  ask : Option TrnReq := none
  pre : Nat := 0
  fill : List Bool := List.replicate 31 true
  syms : List Nat := []
  sums : List Int := []
  power : Power := .off
  rxInv : Bool := false
  rxPre : Bool := false
  txInv : Bool := false
  txPre : Bool := false
  trnEn : Bool := true
  firstWord : List (Nat × Nat) := []
  target : List Int := [0, 0, 0, 256, 0, 0]
  amp : Nat := 12
  accLow : List (Nat × Nat) := []
  slew : List (Nat × Int) := []
  noTmo : Bool := false
  readyHold : Bool := false
  firstAns : Option Nat := none
  reqs : Nat := 0
  offer : Bool := false
  restart : Bool := false
  ctleHeld : Bool := false
  ctleWake : Bool := false
  sdLost : Option Nat := none
  napAt : Nat := 0
  answer : TrnAnswer := .none
  kp4 : Vector Kp4St 2 := Vector.replicate 2 {}
  prbs : PrbsSt := {}
deriving DecidableEq, Repr

/-- A bias DAC channel (R229 to R235): the queue, oldest first; a range change written and not yet begun, and the sample
periods of one that are left; the channel stays at its clear code until its first code (R234, R237). -/
structure BdaCh where
  held : Nat := 0
  queue : List Nat := []
  rangePend : Bool := false
  rangeLeft : Nat := 0
  wait : Bool := true
deriving DecidableEq, Repr

/-- A wake in progress (R201, R202): fast or slow, and whether the fast clocks run again. -/
structure WakeSt where
  fast : Bool
  clocks : Bool
deriving DecidableEq, Repr

/-- A port (chapter 8): whether the rig defines it and its line lanes (R27), the latency class the rig gives it (R31),
the powered time of leaving DOWN, whether TRAFFIC or ONE_WAY has been reached since (LAST_UP_DUR), the retries made in
LOCKED, a Nap entry under way (R200), a wake in progress, whether a staged rig part touches the port (R204), and whether the
handshake has completed on every lane, so that TRAFFIC is entered at the next boundary (Table 08-2). -/
structure PortSt where
  defined : Bool := false
  lanes : Nat := 0
  twoPass : Bool := false
  upAt : Nat := 0
  reached : Bool := false
  retries : Nat := 0
  napReq : Bool := false
  wake : Option WakeSt := none
  staged : Bool := false
  due : Bool := false
deriving DecidableEq, Repr

/-- A kite packet to be sent (Table 09-1): its type and payload, and the SEQ it keeps if it repeats an earlier one. -/
structure KiteMsg where
  type : Nat
  payload : List Nat
  seq : Option Nat
deriving DecidableEq, Repr

/-- A kite transmission in progress: the wake pattern (R218), or a packet with its SEQ. -/
inductive KiteTx where
  | wake
  | packet (type seq : Nat) (payload : List Nat)
deriving DecidableEq, Repr

/-- A packet in reception (R215): its strength in 2^-22 tap LSB, the sum of |d| over eight symbols, whether its SFD was found, and its header word. -/
structure KiteRx where
  strength : Nat
  sfd : Bool
  hdr : Option Nat
deriving DecidableEq, Repr

/-- A request of resident firmware that has no answer yet (R222): its type, payload and SEQ, and the repeats made. -/
structure KiteAsk where
  type : Nat
  payload : List Nat
  seq : Option Nat
  tries : Nat
deriving DecidableEq, Repr

/-- A kite line (chapter 9): the transmission in progress, how many of its samples have been sent and how far its next one is
reached, in units of 1/3,544,921,875 of a sample (R123), the latest mask inputs of one that is over, newest first (R207), the packets that wait, the transmit counter SEQ, the mask in
use, the packet in reception, the requests outstanding, and SEQ and SRC_LANE of the last Nap or wake request acted on. The
receiver's equaliser (R214) holds its 8 feed-forward and 3 feedback coefficients in 2^-10, the latest 7 despread values, in
1/512 tap LSB, and the latest 3 symbols, newest first. `dets` counts the detections on which correlator A has locked;
`userAsk` and `wakeAsk` are the transmissions that SEND and WAKE_SEND have asked for (R218, R225). -/
structure KiteSt where
  tx : Option KiteTx := none
  done : Nat := 0
  phase : Nat := 0
  fade : List Int := []
  queue : List KiteMsg := []
  txSeq : Nat := 0
  mask : List Int := []
  rx : Option KiteRx := none
  asks : List KiteAsk := []
  acted : Option (Nat × Nat) := none
  dfe : List Int := 1024 :: List.replicate 10 0
  line : List Int := []
  decs : List Bool := []
  dets : Nat := 0
  userAsk : Bool := false
  wakeAsk : Bool := false
deriving DecidableEq, Repr

/-- A requested system slot (R254): input code, gain code, OSR code, settle time and result count, and the excitation current
of a remote diode in µA (R286). -/
structure SndSlot where
  input : Nat
  gain : Nat
  osr : Nat
  settle : Nat
  count : Nat
  exc : Nat
deriving DecidableEq, Repr

/-- The delay lines of the decimation chain (R243), in units of full scale / 2^39: the modulator samples that the sinc⁵ stage
holds, oldest first, and what the half-bands and the compensation FIR hold, newest first. -/
structure SndChain where
  sinc : List Int := []
  hb1 : List Int := []
  hb2 : List Int := []
  comp : List Int := []
deriving DecidableEq, Repr

/-- A conversion of the monitoring converter (R245): a system slot or the user entry `entry`, with the settings latched
at its start (R257), the results it has taken, and what flags them: REC (R252), REF_COLD (R253), an OVR result so far,
and the age in modulator samples that the latest overload or clip will have at the next result (R251); whether its prefill
has begun, and the chain (R245). -/
structure SndConv where
  slot : Option SndSlot
  entry : Nat
  input : Nat
  gain : Nat
  osr : Nat
  settle : Nat
  count : Nat
  avg : Bool
  dcbEn : Bool
  dcbFc : Nat
  isRec : Bool
  cold : Bool
  anyOvr : Bool
  ovlAge : Option Nat
  results : List Int
  filled : Bool
  chain : SndChain
deriving DecidableEq, Repr

/-- The monitoring converter (chapter 11): armed by START, the conversion in progress, whether the conversion before it
had an OVR result, a STOP that waits for the conversion's end, the user entry that comes next in the run, the system slots
requested, the DC-block estimates in units of 2^-16 (R249), the FIFO, whether system slots are enabled (R253), and the
results of system slots that the thermal unit or resident firmware has not taken yet, one of each kind of slot (R248). -/
structure SndSt where
  armed : Bool := false
  conv : Option SndConv := none
  lastOvr : Bool := false
  stop : Bool := false
  pos : Nat := 0
  slots : List SndSlot := []
  est : List Int := List.replicate 16 0
  fifo : List Nat := []
  sysOn : Bool := false
  out : List (SndSlot × Int) := []
deriving DecidableEq, Repr

/-- An address generator (R266): pointer, base, length and stride. -/
structure SprAg where
  p : Word := 0
  b : Word := 0
  l : Word := 0
  s : Word := 0
deriving DecidableEq, Repr

/-- A loop in progress (R267): first and last word of its body, and the passes left, the present one included. -/
structure SprLoop where
  first : Nat
  last : Nat
  left : Nat
deriving DecidableEq, Repr

/-- What Spar does: halted, issuing, stalled in a WAIT, or stalled for a Bridle response of LDIO or STIO (R270, R276). -/
inductive SprRun where
  | halted
  | running
  | waiting (mask : Nat)
  | io (write : Bool) (g : Nat) (addr : Nat) (data : Word)
deriving DecidableEq, Repr

/-- How far the user program is, as the executive that enters it knows (R273, R279): it is next entered at its entry word, it has
been entered, or it has ended. -/
inductive SprUser where
  | ready
  | entered
  | ended
deriving DecidableEq, Repr

/-- The Spar coprocessor (Table 12-1): the shared registers G0 to G7 and the two banks of G8 to G15, accumulators, address
generators, flags, PC, the stacks of each mode, the mode, the saved user PC, the program words and the data words of
both banks (unlisted: 0, or what the executive's image holds there), the FW_SEQ of the firmware whose executive is loaded
(R271), the user program's entry word and how far it is, the executive service asked for by a TRAP, a halt that waits for a WAIT
or a Bridle response (R280), the executive's hold on user code that waits for a Bridle response (R279), the privileged fault
history of R274, and what the next instruction's latency depends on (R269):
the register loaded by the last LD and the cycles since the last MAC into each accumulator. -/
structure SprSt where
  lo : Vector Word 8 := Vector.replicate 8 0
  user8 : Vector Word 8 := Vector.replicate 8 0
  priv8 : Vector Word 8 := Vector.replicate 8 0
  acc : Vector Int 4 := Vector.replicate 4 0
  ag : Vector SprAg 8 := Vector.replicate 8 {}
  n : Bool := false
  z : Bool := false
  v : Bool := false
  pc : Nat := 0
  retU : List Nat := []
  retP : List Nat := []
  loopU : List SprLoop := []
  loopP : List SprLoop := []
  user : Bool := false
  run : SprRun := .halted
  savedPc : Nat := 0
  prog : List (Nat × Nat) := []
  data : List (Nat × Nat) := []
  exec : Option Nat := none
  entry : Nat := 0x1000
  phase : SprUser := .ready
  service : Option Nat := none
  haltPend : Bool := false
  leave : Bool := false
  privFault : Option Nat := none
  lasting : Bool := false
  loaded : Option Nat := none
  macAge : List Nat := [3, 3, 3, 3]
deriving DecidableEq, Repr


/-- A proof test in progress (R304): the channel under test, 2 when both are done; the release it serves with its
LASTING_ACK (R303), and whether SAF_CMD.PROOF asked for it. -/
structure SafTest where
  stage : Nat
  release : Option Bool
  asked : Bool
deriving DecidableEq, Repr

/-- The safety logic of a lane (chapter 14): the causes that hold its supervision gate closed (R480), a proof test due
(R305) and the one in progress, a release that waits for its test, the powered times of its latest trips (R301), the
voltage of MPD_IN as comparator channels A and B see it, in mV (R298), the powered time of its last proof test, whether an earlier loop pass
found its bias away from the clear code and the code applied then (R306, R479), and the rig's SUP_GAIN, SUP_OFS and
SUP_TOL (R479); a test that SAF_CMD.PROOF asks for and that has not begun (R305), and whether a comparator's trip holds the
output of BDAn clamped to ground (R300). -/
structure SafLane where
  gate : List Nat := []
  due : Bool := false
  test : Option SafTest := none
  release : Option Bool := none
  trips : List Nat := []
  mpdA : Nat := 0
  mpdB : Nat := 0
  proofAt : Nat := 0
  lit : Bool := false
  code : Nat := 0
  supGain : Int := 0
  supOfs : Int := 0
  supTol : Nat := 0
  asked : Bool := false
  clamp : Bool := false
deriving DecidableEq, Repr

/-- The safety logic: its lanes, the levels of TX_DISABLE and LASER_CLR_N (1: LASER_CLR_N is low), the Rip panel's
undervoltage lockout (R309), in force until power is applied anew, and whether VDDA_12 is outside its window (R309). -/
structure SafSt where
  lane : Vector SafLane 8 := Vector.replicate 8 {}
  txd : Nat := 0
  clrPin : Bool := false
  uvlo : Bool := false
  supplyOut : Bool := false
deriving DecidableEq, Repr

/-- What of the safety logic stands on pins, which no reset changes: the voltages of MPD_IN, TX_DISABLE, LASER_CLR_N, VDDIO_18
and VDDA_12. -/
def SafSt.pins (s : SafSt) : SafSt :=
  { lane := s.lane.map (fun l => { mpdA := l.mpdA, mpdB := l.mpdB }), txd := s.txd, clrPin := s.clrPin, uvlo := s.uvlo,
    supplyOut := s.supplyOut }

/-- The thermal unit (chapter 13): the last 600 readings of each on-die sensor, newest first (R284), whether its last
cross-check differed and which comes next (R285), and, per external channel, the consecutive readings well inside the window (R287). -/
structure ThmSt where
  hist : List (List Int) := List.replicate 12 []
  diff : List Bool := List.replicate 12 false
  calm : List Nat := List.replicate 8 0
  next : Nat := 0
deriving DecidableEq, Repr

/-- The state of the device (Table 15-1); while waking, the number of the step whose ready signal is awaited, as
PWR_STALL.STEP numbers them. -/
inductive DevState where
  | off | shelf | waking (step : Nat) | doze | run
deriving DecidableEq, Repr

/-- Where a request for a sleep entry comes from (R200, R319, R324): a register bit, a pin, a mailbox command, Ballast. -/
inductive SleepSrc where
  | bit | pin | mailbox | ballast
deriving DecidableEq, Repr

/-- A sleep entry that is requested and not yet committed (R322 to R324): the refusers it has counted, whether the users'
answers are awaited, whether the preparation goes on, the Nap rung of Ballast that it is for, with whether BRACE pressed it
(R331), and whether it waits for the end of a brace that began with its commit cycle (R328). -/
structure SleepReq where
  kind : SleepKind
  src : SleepSrc
  counted : List Nat := []
  asked : Bool := false
  granted : Bool := false
  rung : Option Bool := none
  hold : Bool := false
deriving DecidableEq, Repr

/-- A rung of the Ballast ladder that is held (R330): a mode rung, or a Nap rung with its port and whether the rung took
it to Nap. -/
inductive Rung where
  | mode (step : ShedStep)
  | nap (port : PortId) (acted : Bool)
deriving DecidableEq, Repr

/-- The power controller (chapter 15): the device state; the lane supplies asked for, and a
stall of PG_LANE that waits for the next port request; the second attempt of a wake, and
one that waits its 100 ms (R318); SOURCE and DETAIL of the wake in progress; the levels of LPMODE, RESET_N (true: low) and
PERST_N (true: high); the sleep entries under way; the Shelf entry's preparation: Packdown done (R319); the rungs held,
latest first, and the port passed over (R332); a SHED_REQ that has not pressed the ladder yet (R331); a stall to be alarmed at the next completed wake (R318); the powered
times of the latest WDRs, and three of them in the window, so that the next boot takes the other firmware slot (R339); the powered-time
counter lost with VDD_PL and not restored yet (R343, R404); and the powered time of the Packdown that wrote the quick-start record
(R344). -/
structure PwrSt where
  dev : DevState := .doze
  laneAsk : Bool := false
  laneStall : Bool := false
  second : Bool := false
  retry : Bool := false
  source : Nat := 1
  detail : Nat := 0
  lpmode : Bool := false
  resetLow : Bool := false
  perst : Bool := false
  sleeps : List SleepReq := []
  packed : Bool := false
  rungs : List Rung := []
  passed : Option PortId := none
  shedFirst : Bool := false
  stalled : Option Nat := none
  wdrs : List Nat := []
  otherFw : Bool := false
  timeLost : Bool := true
  qsTime : Nat := 0
deriving DecidableEq, Repr

/-! ## Flash, rig and boot (chapter 16) -/

/-- A part of an applied rig that is staged (R204): the ports it touches, the new definitions among them, and the
configuration nodes of its image. -/
structure Staged where
  touched : List PortId
  ports : List RigPort
  nodes : List (Nat × Nat)
deriving DecidableEq, Repr

/-- Boot and rig (chapter 16): the image in force, the configuration nodes and the port definitions in force, what is staged, the SAFETY section in force, a
BALLAST section that waits (R352), and the watchdog: while it runs, the milliseconds since its start or its last kick
(R339). -/
structure BootSt where
  rigNow : Option RigImage := none
  nodes : List (Nat × Nat) := []
  defs : List RigPort := []
  staged : List Staged := []
  safety : Option RigSafety := none
  ballast : Option (Nat × List Nat) := none
  wdt : Option Nat := none
deriving DecidableEq, Repr

/-! ## Reel (chapter 19) -/

/-- A burst in the shared buffer (R388): the bytes it is to move, its destination, the bytes read so far with their
poison marks, and the beat that met an error response. -/
structure ReelBurst where
  len : Nat
  dst : Nat := 0
  data : List (Nat × Bool) := []
  err : Option Nat := none
deriving DecidableEq, Repr

/-- A channel of Reel: the 16 words of the descriptor in progress (none: to be fetched), bytes moved and bytes whose
burst has started, the bursts in the buffer, oldest first; a resume asked for (R399), STOP pending, paused for
quiescence, to be aborted by a power-down at the next burst boundary (R400), poisoned data moved (R398), the barrier
confirmed (R397), and the bytes of a word of a peripheral port that a 4 KiB boundary of the host side has cut off from their burst
(R393, R394). -/
structure ReelCh where
  desc : List Nat := []
  bytes : Nat := 0
  read : Nat := 0
  bursts : List ReelBurst := []
  resume : Bool := false
  stop : Bool := false
  paused : Bool := false
  abort : Bool := false
  poison : Bool := false
  confirmed : Bool := false
  carry : List (Nat × Bool) := []
deriving DecidableEq, Repr

/-! ## Management, mailbox, stacking (chapter 21) -/

/-- A tether port (R434, R436): block lock, LINK messages exchanged with a valid ID, UP at least once, and the IDs its
partner says it reaches. -/
structure TthPort where
  lock : Bool := false
  linked : Bool := false
  wasUp : Bool := false
  beyond : Nat := 0
deriving DecidableEq, Repr

/-- The tether: ports UP (0) and DOWN (1), the straps STACK_ROLE (true: anchor), STACK_ID and MGMT_ADDR_SEL, the changes
of alarm entries that wait to be sent (R437), the tags of REG_REQs of the anchor that await their REG_RSP (R438), the milliseconds for which the powered-time counter stands still (R439), the
members whose INT_N condition is forwarded (bit d - 1 for member d, R431), the tokens asked of the anchor by members as
(PAIR_ID, member, holds it) (R160), and the messages sent by the latest command that sent any, as (port, TYPE, content). -/
structure TthSt where
  up : TthPort := {}
  down : TthPort := {}
  strapAnchor : Bool := true
  strapId : Nat := 0
  strapAddr : Bool := false
  almQ : List AlmMsg := []
  asked : List Nat := []
  ahead : Nat := 0
  int : Nat := 0
  remote : List (Nat × Nat × Bool) := []
  sent : List (Nat × Nat × List Nat) := []
deriving DecidableEq, Repr

/-- The two-wire port and CMIS (R421 to R427): IBI enabled, the page selected, the image in canonical form as (page ·
256 + byte, value), DataPathDeinit, AppSel per host lane and the lanes whose AppSel was rejected, Tx disable,
LowPwrRequestSW and LowPwrAllowRequestHW, the monitors' latest refresh, and the registers of page B0h with the command that runs. -/
structure MgtSt where
  ibiEn : Bool := false
  bank : Nat := 0
  page : Nat := 0
  image : List (Nat × Nat) := []
  deinit : Nat := 0
  app : List Nat := List.replicate 16 0
  appRejected : Nat := 0
  txDisable : Nat := 0
  lowPwrSW : Bool := false
  allowHW : Bool := true
  refreshed : Nat := 0
  b0Addr : Nat := 0
  b0Data : Nat := 0
  b0Data2 : Nat := 0
  b0Cmd : Nat := 0
  b0Status : Nat := 0
  b0Kind : Nat := 0
deriving DecidableEq, Repr

/-- A datapath capture of a lane (R432): armed with its point and trigger, and the words not yet drained. -/
structure CapSt where
  armed : Bool := false
  point : Nat := 0
  trigger : Nat := 0
  words : List Nat := []
deriving DecidableEq, Repr

/-- The mailbox (R432): whether the command has begun. -/
structure MbxSt where
  begun : Bool := false
deriving DecidableEq, Repr

/-- Security and self-test (chapter 22): the customer public keys in OTP, whether the device key seed is present, the
security operation in progress as (OP, TARGET); Packdown: the slice in progress, the failing slices so far, a slice that
overlapped a brace before, a brace during the present one, and whether it is abandoned (R455); JTAG's instruction. -/
structure SecSt where
  keys : Vector (List Nat) 2 := Vector.replicate 2 []
  seed : Bool := true
  op : Option (Nat × Nat) := none
  slice : Option Nat := none
  fails : List Nat := []
  again : Bool := false
  hit : Bool := false
  abandon : Bool := false
  jtag : JtagInsn := .idcode
deriving DecidableEq, Repr

/-! ## The state -/

/-- Why a step stops with a fault. No command of this block faults: every access is answered, with an error response where
the spec gives one (R361), and every condition of its own that the spec names has an effect in the state. So the type has
no constructor. -/
inductive Fault
deriving DecidableEq, Repr

/-- Why a command is refused. -/
inductive Refusal where
  /-- Raised by an arm of `Machine/Dispatch.lean` for a command without a meaning; no arm raises it any more. Safe: nothing
  is proved of what such a command does. -/
  | notModelled (mnemonic : String)
deriving DecidableEq, Repr

/-- The machine. `variant`: true for PLG3208-B, false for PLG3208-A (R357). `now`: the 48-bit powered time in ms
(R403). `regs`: every register field of the spec's tables that is not at its reset value, as (key, value), keys rising
(R12); `Machine/RegMap.lean` gives each field its key, width, reset value and retention class. `fresh`: the model's own
count of the free values drawn so far (`Config.free`). Then one structure per unit for what the spec gives it beside its
registers; `flash`, the bytes of the QSPI flash in canonical form (Table 16-4; an unlisted byte is 0, as every byte of an erased
sector is here, log 24); `reelLast`, the channel of Reel served last at each PRIO (R389); `hostOut`, the posted writes to host memory, with their
poison marks, of the latest command that issued any (R393, R398); the references of the transmit PLLs (R23); `tokens`, the
last grant of each protection pair as (PAIR_ID, port), a member of the stack counting as 8 + its ID (R160); and `pending`, the commands that wait, first in, first out. -/
structure State where
  variant : Bool := true
  now : Nat := 0
  regs : List (Nat × Nat) := []
  fresh : Nat := 0
  mem : MemSt := {}
  brd : BrdSt := {}
  str : StrSt := {}
  tth : TthSt := {}
  mgt : MgtSt := {}
  mbx : MbxSt := {}
  sec : SecSt := {}
  pwr : PwrSt := {}
  boot : BootSt := {}
  flash : List Host.Cell := []
  saf : SafSt := {}
  thm : ThmSt := {}
  reel : Vector ReelCh 8 := Vector.replicate 8 {}
  reelLast : Vector ReelId 4 := Vector.replicate 4 7
  hostOut : List (Nat × List (Nat × Bool)) := []
  cap : Vector CapSt 8 := Vector.replicate 8 {}
  line : Vector LineSt 8 := Vector.replicate 8 {}
  host : Vector HostSt 16 := Vector.replicate 16 {}
  port : Vector PortSt 8 := Vector.replicate 8 {}
  bda : Vector BdaCh 24 := Vector.replicate 24 {}
  kite : Vector KiteSt 8 := Vector.replicate 8 {}
  snd : SndSt := {}
  spr : SprSt := {}
  txpll : Vector PllRef 8 := Vector.replicate 8 .refclk
  htpll : Vector PllRef 16 := Vector.replicate 16 .refclk
  tokens : List (Nat × Nat) := []
  pending : List Instr := []
deriving DecidableEq, Repr

/-- What a meaning answers. -/
abbrev Out := Host.Outcome State Fault Refusal

/-- The machine right after the power-on reset (Table 16-1, R338): every register at its reset value but for the last-wake
record, which the wake that follows writes (R321); the wake sequence awaits PG_CORE (R317). -/
def State.reset : State :=
  { regs := [(PWR.LAST_WAKE_DETAIL.key, 1)], pwr := { dev := .waking 1, source := 1, detail := 1 } }

end Sys2Proof.Machine
end

