-- ==== Sys2Proof/Machine/Ops.lean ====
section
/-!
DEFINITION. The named operations over the machine's registers, memory, Streamer and performance counters. Every
meaning is written over these; no meaning touches `State.regs` or `MemSt.cells` itself.
-/

namespace Sys2Proof.Machine

open Sys2Proof

/-! ## Association lists in rising order -/

/-- The value stored under `k`. -/
def assocFind {α : Type} (l : List (Nat × α)) (k : Nat) : Option α :=
  match l with
  | [] => none
  | (a, v) :: t => if k = a then some v else assocFind t k

/-- `l` with `v` stored under `k`, keys rising. -/
def assocPut {α : Type} (l : List (Nat × α)) (k : Nat) (v : α) : List (Nat × α) :=
  match l with
  | [] => [(k, v)]
  | (a, x) :: t =>
    if k < a then (k, v) :: (a, x) :: t
    else if k = a then (k, v) :: t
    else (a, x) :: assocPut t k v

/-- `l` without `k`. -/
def assocDel {α : Type} (l : List (Nat × α)) (k : Nat) : List (Nat × α) :=
  l.filter (fun p => p.1 != k)

/-! ## Registers -/

/-- The value of a register field: what is stored, or the field's reset value (R12). -/
def State.get (s : State) (f : Field) : Nat := (assocFind s.regs f.key).getD f.reset

/-- Write a register field: the value is cut to the field's width, and a field at its reset value is not listed. -/
def State.set (s : State) (f : Field) (v : Nat) : State :=
  { s with regs := if v % 2 ^ f.w = f.reset then assocDel s.regs f.key else assocPut s.regs f.key (v % 2 ^ f.w) }

/-- Count one event in a field that saturates at its maximum. -/
def State.inc (s : State) (f : Field) : State := if s.get f + 1 < 2 ^ f.w then s.set f (s.get f + 1) else s.set f (2 ^ f.w - 1)

/-- Count `k` events in a field that saturates at its maximum. -/
def State.incBy (s : State) (f : Field) (k : Nat) : State := s.set f (min (s.get f + k) (2 ^ f.w - 1))

/-- Count one event in a field that wraps. -/
def State.incWrap (s : State) (f : Field) : State := s.set f (s.get f + 1)

/-- A one-bit field read as a flag. -/
def State.flag (s : State) (f : Field) : Bool := s.get f != 0

/-- Set a flag. -/
def State.on (s : State) (f : Field) : State := s.set f 1

/-- Clear a field. -/
def State.off (s : State) (f : Field) : State := s.set f 0

/-- Write a one-bit field. -/
def State.setB (s : State) (f : Field) (b : Bool) : State := s.set f b.toNat

/-- Bit `k` of a field. -/
def State.bitOf (s : State) (f : Field) (k : Nat) : Bool := bit (s.get f) k

/-- Write bit `k` of a field. -/
def State.setBit (s : State) (f : Field) (k : Nat) (b : Bool) : State := s.set f (putBit (s.get f) k b)

/-- A field read as two's complement. -/
def State.geti (s : State) (f : Field) : Int := sext f.w (s.get f)

/-- Write a field in two's complement. -/
def State.seti (s : State) (f : Field) (x : Int) : State := s.set f (ucode f.w x)

/-- Draw a free value below `2 ^ w` for the purpose `tag` (`Config.free`). -/
def State.drawn (s : State) (tag w : Nat) : Nat := Config.free tag s.fresh % 2 ^ w

/-- A register value in milliseconds, of at least `lo`, as microseconds: what a timer is compared with. -/
def msUs (lo v : Nat) : Nat := 1000 * max lo v

/-- The state after one free value has been drawn. -/
def State.drew (s : State) : State := { s with fresh := s.fresh + 1 }

/-- Write `f` only where `c` holds. -/
def State.setIf (s : State) (c : Bool) (f : Field) (v : Nat) : State := if c then s.set f v else s

/-- Apply `g` where `c` holds. -/
def State.when (s : State) (c : Bool) (g : State → State) : State := if c then g s else s

/-- Apply an operation for each of a list, in order. -/
def State.each {α : Type} (s : State) (l : List α) (g : α → State → State) : State :=
  l.foldl (fun t a => g a t) s

/-! ## The canonical byte memory -/

/-- The byte at `a`; an unlisted byte is 0, the fill of R378. -/
def byteAt (m : List Host.Cell) (a : Nat) : BitVec 8 := (assocFind m a).getD 0

/-- Write one byte, keeping the canonical form. -/
def putByte (m : List Host.Cell) (a : Nat) (b : BitVec 8) : List Host.Cell :=
  if b = 0 then assocDel m a else assocPut m a b

/-- The canonical form: addresses strictly rising and no zero byte listed. -/
def Memory.wf (m : List Host.Cell) : Bool :=
  (m.all (fun c => c.2 != 0)) && ((m.zip (m.drop 1)).all (fun p => p.1.1 < p.2.1))

/-- The `n` bytes at `a`, little-endian (R360). -/
def readLE (m : List Host.Cell) (a n : Nat) : Nat :=
  match n with
  | 0 => 0
  | n + 1 => (byteAt m a).toNat + 256 * readLE m (a + 1) n

/-- Write the `n` low bytes of `v` at `a`, little-endian. -/
def writeLE (m : List Host.Cell) (a n v : Nat) : List Host.Cell :=
  match n with
  | 0 => m
  | n + 1 => writeLE (putByte m a (BitVec.ofNat 8 v)) (a + 1) n (v / 256)

/-- Write a list of bytes from `a` on. -/
def writeBytes (m : List Host.Cell) (a : Nat) (bs : List Nat) : List Host.Cell :=
  match bs with
  | [] => m
  | b :: t => writeBytes (putByte m a (BitVec.ofNat 8 b)) (a + 1) t

/-- The bytes of a number, least significant first. -/
def leBytes (n v : Nat) : List Nat :=
  match n with
  | 0 => []
  | n + 1 => v % 256 :: leBytes n (v / 256)

/-- The number that bytes spell, least significant first. -/
def leVal (bs : List Nat) : Nat := bs.foldr (fun b a => b % 256 + 256 * a) 0

/-- The 8-byte-aligned word an address lies in. -/
def wordOf (a : Nat) : Nat := a / 8 * 8

/-- The bank of a memory word: SRAM banks 0 to 15 by address bits [9:6] (R375), QDR-IV devices 16 and 17 (R380). -/
def memBank (a : Nat) : Nat :=
  if a < 0x20000000 then a / 64 % 16 else if a < 0x21000000 then 16 else 17

/-- A word is rewritten by an initiator: it leaves its bank's history (R381), its poison is cleared (R385), and its code is right. -/
def MemSt.rewritten (m : MemSt) (a : Nat) : MemSt :=
  { m with history := m.history.filter (fun h => h.2.1 != wordOf a), poison := m.poison.filter (· != wordOf a),
           upset := m.upset.filter (fun u => u.1 != wordOf a) }

/-! ## Powered time -/

/-- The powered-time counter is 48 bits (R403). -/
def timeMod : Nat := 2 ^ 48

/-- Powered time passed since `t`. -/
def State.since (s : State) (t : Nat) : Nat := (s.now + timeMod - t) % timeMod

/-- Write the powered time into a pair of fields, lower word first. -/
def State.stamp (s : State) (lo hi : Field) : State := (s.set lo s.now).set hi (s.now / 2 ^ 32)

/-! ## PMU (R405 to R408) -/

/-- PMCi's 48-bit count. -/
def State.pmcCount (s : State) (i : Nat) : Nat := s.get (PMU.PMC_COUNT_COUNT i 0) + 2 ^ 32 * s.get (PMU.PMC_COUNT_COUNT i 1)

/-- Load PMCi's count. -/
def State.setPmc (s : State) (i v : Nat) : State :=
  (s.set (PMU.PMC_COUNT_COUNT i 0) v).set (PMU.PMC_COUNT_COUNT i 1) (v / 2 ^ 32)

/-- What a sample records of the instruction whose event wrapped the counter: program word address, instruction word
and issue latency (R407). -/
structure SprSample where
  pc : Nat
  insn : Nat
  lat : Nat
deriving DecidableEq, Repr

/-- A sample of PMCi is taken, of an event of group `g` (R407): precise for the Spar group, into the ring or lost; skidding
otherwise. -/
def State.pmcSample (s : State) (i g pos : Nat) (smp : Option SprSample) : State :=
  if g = 3 then
    if (s.get PMU.SAMP_IDX_WR + 128 - s.get PMU.SAMP_IDX_RD) % 128 = 64 then s.inc PMU.STATUS_SAMP_LOST
    else
      let e := s.get PMU.SAMP_IDX_WR % 64
      let x := smp.getD ⟨0, 0, 0⟩
      ((((((s.set (PMU.SAMP0_INSN e) x.insn).set (PMU.SAMP1_PC e) x.pc).set (PMU.SAMP1_LAT e) (min x.lat 0xFF)).set
        (PMU.SAMP1_CTR e) i).set (PMU.SAMP2_CYCLE e) (s.get (PMU.CYCLE_CYCLE 0))).set PMU.SAMP_IDX_WR
        (s.get PMU.SAMP_IDX_WR + 1))
  else
    s.set (PMU.PMC_SKID_SKID i) (if g = 1 ∨ g = 2 then pos else s.get (PMU.CYCLE_CYCLE 0))

/-- PMCi wraps on an event of group `g`: OVF is set, a sample is taken if SAMPLE = 1 (R405, R407). -/
def State.pmcWrapOne (s : State) (i g pos : Nat) (smp : Option SprSample) : State :=
  let t := s.setBit PMU.STATUS_OVF i true
  if s.flag (PMU.PMC_SAMPLE i) then t.pmcSample i g pos smp else t

/-- PMCi gains `k`, wrapping at 2^48; a wrap of an even counter is counted by a chained odd counter above it, whose own EVENT is ignored (R405). -/
def State.pmcAdd (s : State) (i k pos : Nat) (smp : Option SprSample) : State :=
  let v := s.pmcCount i + k
  let t := s.setPmc i (v % 2 ^ 48)
  if v < 2 ^ 48 then t
  else
    let g := s.get (PMU.PMC_EVENT i) / 64
    let u := t.pmcWrapOne i g pos smp
    if i % 2 = 0 && u.flag (PMU.PMC_CHAIN (i + 1)) && u.flag (PMU.PMC_EN (i + 1)) then
      let v' := u.pmcCount (i + 1) + 1
      let w := u.setPmc (i + 1) (v' % 2 ^ 48)
      if v' < 2 ^ 48 then w else w.pmcWrapOne (i + 1) g pos smp
    else u

/-- PMCi counts event `ev` at instance `inst`: enabled, not a chained odd counter, EVENT equal and, for the groups with
an instance, INST equal (Table 20-1). -/
def State.pmcCounts (s : State) (i ev inst : Nat) : Bool :=
  s.flag (PMU.PMC_EN i) && !(i % 2 == 1 && s.flag (PMU.PMC_CHAIN i)) && s.get (PMU.PMC_EVENT i) == ev &&
    (s.get (PMU.PMC_INST i) == inst || !(ev / 64 == 1 || ev / 64 == 2))

/-- `k` occurrences of an event reach every counter that counts it; during a freeze they wait in the pre-counters
(R408). `smp` is the Spar instruction concerned. The domain position of a skidding sample is a free value. -/
def State.countEvent (s : State) (ev inst k : Nat) (smp : Option SprSample := none) : State :=
  s.each (List.range 8) (fun i t =>
    if t.pmcCounts i ev inst then
      if t.flag PMU.CTRL_FREEZE then
        { t with str := { t.str with held := t.str.held.set i (t.str.held.getD i 0 + k) } }
      else (t.pmcAdd i k (t.drawn 1 32) smp).drew
    else t)

/-- FREEZE returns to 0: the held events are added (R408). What a sample of a wrap among them records is a free value. -/
def State.pmuThaw (s : State) : State :=
  let t := s.each (List.range 8) (fun i t =>
    (t.pmcAdd i (t.str.held.getD i 0) (t.drawn 1 32) (some ⟨t.drawn 13 14, t.drawn 14 32, t.drawn 15 8⟩)).drew)
  let c := t.get (PMU.CYCLE_CYCLE 0) + 2 ^ 32 * t.get (PMU.CYCLE_CYCLE 1) + t.str.heldCycle
  let u := (t.set (PMU.CYCLE_CYCLE 0) c).set (PMU.CYCLE_CYCLE 1) (c / 2 ^ 32)
  { u with str := { u.str with held := List.replicate 8 0, heldCycle := 0 } }

/-! ## Memory writes, counted by the PMU (R377, R379, Table 20-1) -/

/-- `k` reads, or writes, of the SRAM word at `a` are counted; QDR-IV has no event. -/
def State.memCount (s : State) (a ev k : Nat) : State :=
  if 0x10000000 ≤ a ∧ a < 0x11000000 then s.countEvent (0x140 + ev) 0 k else s

/-- A whole 64-bit word written at once (R377); a merge entry of that word is made full by it and goes (R379). -/
def State.memPut64 (s : State) (a v : Nat) : State :=
  let m := { (s.mem.rewritten a) with cells := writeLE s.mem.cells (wordOf a) 8 v,
                                      merge := s.mem.merge.filter (fun e => e.addr != wordOf a) }
  { s with mem := m }.memCount a 1 1

/-- The bytes of the merge entry that are valid, laid over the stored word. -/
def mergeBytes (m : List Host.Cell) (e : MergeEntry) (i : Nat) : List Host.Cell :=
  match i with
  | 0 => m
  | i + 1 =>
    let m' := mergeBytes m e i
    if bit e.mask i then putByte m' (e.addr + i) (BitVec.ofNat 8 (bits e.data (8 * i) 8)) else m'

/-- A merge entry is flushed: a full entry is written as a whole word and clears the word's poison; a partial one is
merged over the word, whose poison stays (R379, R385); what its read finds comes before (`State.flushRead`). -/
def State.flushEntry (s : State) (e : MergeEntry) : State :=
  let m := { s.mem with cells := mergeBytes s.mem.cells e 8, merge := s.mem.merge.filter (fun x => x.addr != e.addr),
                        history := s.mem.history.filter (fun h => h.2.1 != e.addr) }
  let t := ({ s with mem := if e.mask = 0xFF then m.rewritten e.addr else m }.memCount e.addr 1 1).countEvent 0x142 0 1
  if e.mask = 0xFF then t else t.memCount e.addr 0 1

/-- The merge entries of the words that the `n` bytes at `a` are about to overwrite go (R379): a word written whole makes its entry
full; one at a ragged end is flushed. -/
def State.settle (s : State) (a n : Nat) : State :=
  let t : State := { s with mem := { s.mem with merge := s.mem.merge.filter (fun e => !(decide (a ≤ e.addr) && decide (e.addr + 8 ≤ a + n))) } }
  t.each (t.mem.merge.filter (fun e => decide (e.addr < a + n) && decide (a < e.addr + 8))) (fun e t => t.flushEntry e)

/-- The memory as a reader finds it: the bytes that wait in the merge buffer laid over the words (R379). -/
def State.image (s : State) : List Host.Cell := s.mem.merge.foldl (fun m e => mergeBytes m e 8) s.mem.cells

/-- Bytes written into memory by the device's own engines, as whole words: merge entries of these words go first, and a
word written whole loses its poison (R385). -/
def State.memPutBytes (s : State) (a : Nat) (bs : List Nat) : State :=
  let n := bs.length
  let t := s.settle a n
  let m := { t.mem with cells := writeBytes t.mem.cells a bs,
                        history := t.mem.history.filter (fun h => h.2.1 + 8 ≤ a || a + n ≤ h.2.1),
                        poison := t.mem.poison.filter (fun w => w < a || a + n < w + 8)
                        upset := t.mem.upset.filter (fun u => u.1 < a || a + n < u.1 + 8) }
  { t with mem := m }.memCount a 1 ((a + n + 7) / 8 - a / 8)

/-! ## Streamer: log and trace rings (R415 to R418) -/

/-- The size of a ring in bytes; ring 0 is the log ring, ring 1 the trace ring. -/
def State.ringSize (s : State) (g : Nat) : Nat := 262144 * 2 ^ s.get (STR.RING_SIZE_SIZE g)

/-- The unread bytes of a ring; RD counts modulo the ring's size. -/
def State.ringUnread (s : State) (g : Nat) : Nat :=
  (s.get (STR.RING_WR_WR g) + s.ringSize g - s.get (STR.RING_RD_RD g) % s.ringSize g) % s.ringSize g

/-- A ring is full when a record of `n` bytes would make WR reach RD (R415). -/
def State.ringFull (s : State) (g n : Nat) : Bool :=
  decide (s.ringSize g ≤ s.ringUnread g + n)

/-- Append the 32-bit words of a record to a ring and advance WR. -/
def State.ringPut (s : State) (g : Nat) (ws : List Nat) : State :=
  let wr := s.get (STR.RING_WR_WR g)
  let t := s.memPutBytes (s.get (STR.RING_BASE_BASE g) + wr)
    (ws.flatMap (fun w => [w % 256, w / 256 % 256, w / 65536 % 256, w / 16777216 % 256]))
  t.set (STR.RING_WR_WR g) ((wr + 4 * ws.length) % s.ringSize g)

/-- The eight words of a log record (Table 20-4). -/
def State.logWords (s : State) (src inst ev d0 d1 d2 d3 : Nat) : List Nat :=
  [src + 256 * (inst % 256) + 65536 * (ev % 65536), s.now % 2 ^ 32, s.now / 2 ^ 32, s.str.logSeq % 2 ^ 32,
   d0 % 2 ^ 32, d1 % 2 ^ 32, d2 % 2 ^ 32, d3 % 2 ^ 32]

/-- A log record is written and SEQ advances (Table 20-4). -/
def State.logPut (s : State) (src inst ev d0 d1 d2 d3 : Nat) : State :=
  let t := s.ringPut 0 (s.logWords src inst ev d0 d1 d2 d3)
  { t with str := { t.str with logSeq := (t.str.logSeq + 1) % 2 ^ 32 } }

/-- A record is offered to the log (R416): the ring is judged before the bucket; a record without a token is dropped
and may start a throttling episode; the Streamer's own records are not rate-limited. -/
def State.logRecord (s : State) (src inst ev d0 d1 d2 d3 : Nat) : State :=
  if s.ringFull 0 32 then
    (if src < 15 then s.inc (STR.SRC1_DROP_CNT src) else s).inc (STR.RING_CNT_RING_DROP 0)
  else if src = 15 then s.logPut src inst ev d0 d1 d2 d3
  else if s.get (STR.SRC0_RATE src) = 0 then s.inc (STR.SRC1_DROP_CNT src)
  else if 0 < s.get (STR.SRC1_TOKENS src) then
    (s.set (STR.SRC1_TOKENS src) (s.get (STR.SRC1_TOKENS src) - 1)).logPut src inst ev d0 d1 d2 d3
  else
    let t := s.inc (STR.SRC1_DROP_CNT src)
    if t.flag (STR.SRC0_THROTTLED src) then t
    else
      let u := t.on (STR.SRC0_THROTTLED src)
      if u.ringFull 0 32 then u.inc (STR.RING_CNT_RING_DROP 0) else u.logPut 15 0 1 src 0 0 0

/-- The four words of a trace record (Table 20-4). -/
def State.traceWords (s : State) (src inst ev d : Nat) : List Nat :=
  [src + 256 * (inst % 256) + 65536 * (ev % 65536), s.now % 2 ^ 32, s.get STR.CYCLE_STR_CYCLE, d % 2 ^ 32]

/-- A trace record is dropped and counted as lost (R417). -/
def State.traceLose (s : State) : State :=
  let t := s.inc (STR.RING_CNT_RING_DROP 1)
  { t with str := { t.str with traceLost := t.str.traceLost + 1 } }

/-- A record is offered to the trace (R417): only for a source that is traced; a loss is reported by a gap marker as
soon as the ring has room for two records. -/
def State.traceRecord (s : State) (src inst ev d : Nat) : State :=
  if !s.bitOf STR.TRACE_SRC_SRC src then s
  else if s.ringFull 1 16 then s.traceLose
  else if s.str.traceLost = 0 then s.ringPut 1 (s.traceWords src inst ev d)
  else if s.ringFull 1 32 then s.traceLose
  else
    let t := (s.ringPut 1 (s.traceWords 15 0 0xFFFF s.str.traceLost)).inc (STR.RING_CNT_GAP_CNT 1)
    let u := { t with str := { t.str with traceLost := 0 } }
    u.ringPut 1 (u.traceWords src inst ev d)

/-! ## Streamer: alarms (R411 to R413) -/

/-- The severity of an alarm ID (Table 20-3): 2 safety, 1 major, 0 minor. -/
def alarmSev (id : Nat) : Nat :=
  if id = 0x0B ∨ id = 0x0E ∨ id = 0x0F ∨ id = 0x10 ∨ id = 0x11 then 2
  else if id = 0x01 ∨ id = 0x02 ∨ id = 0x04 ∨ id = 0x05 ∨ id = 0x07 ∨ id = 0x0A ∨ id = 0x0D ∨ id = 0x14 ∨ id = 0x15 ∨
    id = 0x16 ∨ id = 0x17 ∨ id = 0x19 ∨ id = 0x1A then 1
  else 0

/-- The stateful alarms of Table 20-3. -/
def alarmStateful (id : Nat) : Bool :=
  (1 ≤ id && id ≤ 5) || id == 0x07 || id == 0x0A || id == 0x0B || id == 0x0C || id == 0x0F || id == 0x15 || id == 0x19

/-- Entry `e` holds the key. -/
def State.almIs (s : State) (stack id inst e : Nat) : Bool :=
  s.get (STR.ALM0_ID e) == id && s.get (STR.ALM0_INSTANCE e) == inst && s.get (STR.ALM0_STACK e) == stack

/-- The entry of 0 to 62 that an occurrence of the key goes to: the one that has it, else the lowest free one, else the
overflow entry 63 (R411). -/
def State.almEntry (s : State) (stack id inst : Nat) : Nat :=
  match (List.range 63).find? (s.almIs stack id inst) with
  | some e => e
  | none => ((List.range 63).find? (fun e => s.get (STR.ALM0_ID e) == 0)).getD 63

/-- The contents of entry `e`, as an ALARM message of the tether carries them (R412, R437). -/
def State.almMsg (s : State) (e : Nat) : AlmMsg :=
  { stack := s.get (STR.ALM0_STACK e), id := s.get (STR.ALM0_ID e), inst := s.get (STR.ALM0_INSTANCE e),
    active := s.flag (STR.ALM0_ACTIVE e), unacked := s.flag (STR.ALM0_UNACKED e),
    count := s.get (STR.ALM1_COUNT e), code := s.get (STR.ALM1_CODE e) }

/-- The latest value of each entry among the changes that wait. -/
def latestOf (q : List AlmMsg) : List AlmMsg := q.foldr (fun x r => if r.any (·.sameKey x) then r else x :: r) []

/-- A change of an entry is queued for the anchor by a stack member; a queue of eight is full and holds each entry's latest
value alone, and changes of more than eight entries wait behind it, so that no change of state is lost (R412, R437; DESIGN
CHOICE, log 133). -/
def State.almForward (s : State) (m : AlmMsg) : State :=
  if s.flag TTH.STATUS_ROLE || !s.variant then s
  else
    let q := s.tth.almQ
    let q' := if 8 ≤ q.length then latestOf (q ++ [m]) else q ++ [m]
    { s with tth := { s.tth with almQ := q' } }

/-- The entry's words after an occurrence (R411). A new entry, and each overflow, sets ALM_NEW (R412). -/
def State.almEnter (s : State) (stack id inst code : Nat) (active : Bool) : State :=
  let e := s.almEntry stack id inst
  let known := s.almIs stack id inst e && e != 63
  let full := e == 63
  let t := if known || (full && s.get (STR.ALM0_ID 63) != 0) then s.inc (STR.ALM1_COUNT e)
           else (s.set (STR.ALM1_COUNT e) 1).stamp (STR.ALM2_FIRST_TIME e 0) (STR.ALM2_FIRST_TIME e 1)
  let u := ((((t.set (STR.ALM0_ID e) id).set (STR.ALM0_INSTANCE e) inst).set (STR.ALM0_STACK e) stack).set
    (STR.ALM0_SEV e) (alarmSev id)).set (STR.ALM1_CODE e) code
  let v := ((u.stamp (STR.ALM4_LAST_TIME e 0) (STR.ALM4_LAST_TIME e 1)).on (STR.ALM0_UNACKED e)).setB
    (STR.ALM0_ACTIVE e) active
  let w := if known then v else v.on STR.STATUS_ALM_NEW
  if full then w.on STR.STATUS_ALM_OVF else w

/-- An alarm occurrence of stack member `stack` (R411 to R413): entered or coalesced, offered to the log as a record of
source ALM (Table 20-9), and forwarded to the anchor by a member. -/
def State.alarmFrom (s : State) (stack id inst code : Nat) (active : Bool) : State :=
  let e := s.almEntry stack id inst
  let t := s.almEnter stack id inst code active
  let u := t.logRecord 1 inst id (code % 65536 + 65536 * stack + 262144 * active.toNat) (t.get (STR.ALM1_COUNT e)) 0 0
  u.almForward (u.almMsg e)

/-- An alarm occurrence of this device; ACTIVE follows the condition for a stateful alarm only (R411). -/
def State.alarm (s : State) (id inst code : Nat) : State :=
  s.alarmFrom (s.get TTH.STATUS_ID) id inst code (alarmStateful id)

/-- An entry with ACTIVE = 0 and UNACKED = 0 is freed at once (R411). -/
def State.almFree (s : State) (e : Nat) : State :=
  if s.flag (STR.ALM0_ACTIVE e) || s.flag (STR.ALM0_UNACKED e) then s else s.set (STR.ALM0_ID e) 0

/-- The condition of a stateful alarm ends: ACTIVE clears in every entry that holds the key (R411). -/
def State.alarmEndFrom (s : State) (stack id inst : Nat) : State :=
  s.each ((List.range 64).filter (fun e => s.almIs stack id inst e && s.flag (STR.ALM0_ACTIVE e)))
    (fun e t =>
      let u := t.off (STR.ALM0_ACTIVE e)
      (u.almForward (u.almMsg e)).almFree e)

/-- The condition of a stateful alarm of this device ends. -/
def State.alarmEnd (s : State) (id inst : Nat) : State := s.alarmEndFrom (s.get TTH.STATUS_ID) id inst

/-- Entry `e` is acknowledged (R411). -/
def State.almAck (s : State) (e : Nat) : State :=
  let t := s.off (STR.ALM0_UNACKED e)
  (t.almForward (t.almMsg e)).almFree e

/-- ALARM_N is asserted while any entry of severity at or above PIN_SEV is active or unacknowledged (R412). -/
def State.alarmN (s : State) : Bool :=
  (List.range 64).any (fun e =>
    s.get (STR.ALM0_ID e) != 0 && s.get STR.CTRL_PIN_SEV ≤ s.get (STR.ALM0_SEV e) &&
      (s.flag (STR.ALM0_ACTIVE e) || s.flag (STR.ALM0_UNACKED e)))

/-! ## Access faults and guard failures (R362, R368) -/

/-- An access fault is counted and recorded (R362), and offered to the PMU (Table 20-1). -/
def State.accessFault (s : State) (init addr kind : Nat) (write : Bool) (size : Nat) : State :=
  let t := (s.inc GLB.BRD_CNT0_ACCESS_FAULT).on GLB.BRD_STATUS_ACCESS
  let u := ((((t.set GLB.ACCESS_ADDR_ADDR addr).set GLB.ACCESS_INFO_INITIATOR init).set GLB.ACCESS_INFO_KIND kind).setB
    GLB.ACCESS_INFO_WRITE write).set GLB.ACCESS_INFO_SIZE (if size = 1 then 0 else if size = 2 then 1 else if size = 4 then 2 else 3)
  u.countEvent 0x002 0 1

/-- A parity mismatch of the word `key`, which the address `a` reaches, is found: counted and recorded, and resident firmware has to
rewrite the word (R369, R370). -/
def State.parityNote (s : State) (key a : Nat) : State :=
  let t := ((s.inc GLB.BRD_CNT1_PARITY_CNT).on GLB.BRD_STATUS_PARITY).set GLB.PARITY_ADDR_ADDR a
  let add (l : List Nat) : List Nat := if l.contains key then l else key :: l
  { t with brd := { t.brd with parityBad := add t.brd.parityBad, parityDue := add t.brd.parityDue } }

/-- A mismatch of the word `key` of an indirect pair, reached by its data register at `a` (R365): REG_PARITY is alarmed. DESIGN
CHOICE (log 203): GLB_PARITY_ADDR takes the address of the data register. -/
def State.pairParity (s : State) (key a : Nat) : State := (s.parityNote key a).alarm 0x12 0 0

/-- The word's parity has been set right by a write. -/
def State.parityRight (s : State) (a : Nat) : State :=
  { s with brd := { s.brd with parityBad := s.brd.parityBad.filter (· != a) } }

/-- Answer the access in hand. -/
def State.respond (s : State) (r : Resp) : State := { s with brd := { s.brd with resp := r } }

/-- An access ends in an error response: counted, and answered so (R361, R362). -/
def State.accessError (s : State) (init addr kind : Nat) (write : Bool) (size : Nat) : State :=
  (s.accessFault init addr kind write size).respond (.error kind)

/-- A guarded write fails: both words are discarded and the failure is recorded (R368). -/
def State.guardFail (s : State) (init addr reason : Nat) : State :=
  (((((s.inc GLB.BRD_CNT0_GUARD_FAULT).on GLB.BRD_STATUS_GUARD).set GLB.GUARD_ADDR_ADDR addr).set
    GLB.GUARD_INFO_INITIATOR init).set GLB.GUARD_INFO_REASON reason)

/-! ## Accesses -/

/-- The bias DAC domain is powered: Doze and Run (R237). -/
def State.awake (s : State) : Bool := decide (s.pwr.dev = .doze) || decide (s.pwr.dev = .run)

/-- A register access takes effect in Doze and Run; in any other state Bridle has no power and nothing happens. -/
def State.whenAwake (s : State) (f : State → State) : State := if s.awake then f s else s

/-- GLB_LC.STATE: 1 FAB, 2 VENDOR, 3 FIELD, 4 RETURN, 5 DEAD (Table 22-3). -/
def State.lc (s : State) : Nat := s.get GLB.LC_STATE

/-- JTAG and the self-test engine are open: FAB, VENDOR and RETURN (Table 22-3). -/
def State.lcOpen (s : State) : Bool := s.lc == 1 || s.lc == 2 || s.lc == 4

/-- An initiator reaches the register space: JTAG only where the life cycle is open to it and its Bridle instruction is
loaded (R450), PCIe only at the anchor of PLG3208-B while PERST_N is
high (R428). -/
def State.mayAccess (s : State) (i : Initiator) : Bool :=
  s.awake && (match i with
    | .jtag => s.lcOpen && s.sec.jtag == .bridle
    | .pcie => s.variant && s.pwr.perst && s.flag TTH.STATUS_ROLE
    | _ => true)

/-! ## Lanes and ports -/

/-- Replace entry `i` of a vector. -/
def vset {α : Type} {k : Nat} (v : Vector α k) (i : Fin k) (a : α) : Vector α k := v.set i.val a i.isLt

/-- A line lane's state outside its registers. -/
def State.ln (s : State) (n : Lane) : LineSt := s.line.get n

/-- Change a line lane's state. -/
def State.setLn (s : State) (n : Lane) (l : LineSt) : State := { s with line := vset s.line n l }

/-- Change the receive front end of a lane. -/
def State.setRx (s : State) (n : Lane) (f : RxSt → RxSt) : State := s.setLn n { s.ln n with rx := f (s.ln n).rx }

/-- Change the equaliser of a lane. -/
def State.setEq (s : State) (n : Lane) (f : EqSt → EqSt) : State := s.setLn n { s.ln n with eq := f (s.ln n).eq }

/-- Change framing and LOC of a lane. -/
def State.setLoc (s : State) (n : Lane) (f : LocSt → LocSt) : State := s.setLn n { s.ln n with loc := f (s.ln n).loc }

/-- Change the transmitter of a lane. -/
def State.setTx (s : State) (n : Lane) (f : TxSt → TxSt) : State := s.setLn n { s.ln n with tx := f (s.ln n).tx }

/-- Change the calibration of a lane. -/
def State.setCal (s : State) (n : Lane) (f : CalSt → CalSt) : State := s.setLn n { s.ln n with cal := f (s.ln n).cal }

/-- A host lane's state outside its registers. -/
def State.hl (s : State) (j : Host) : HostSt := s.host.get j

/-- Change a host lane's state. -/
def State.setHl (s : State) (j : Host) (f : HostSt → HostSt) : State := { s with host := vset s.host j (f (s.hl j)) }

/-- A port's state outside its registers. -/
def State.pt (s : State) (k : PortId) : PortSt := s.port.get k

/-- Change a port's state. -/
def State.setPt (s : State) (k : PortId) (f : PortSt → PortSt) : State := { s with port := vset s.port k (f (s.pt k)) }

/-- Line lane `n` belongs to port `k`: the port is defined and its group covers the lane (R27). -/
def State.inPort (s : State) (k : PortId) (n : Lane) : Bool :=
  (s.pt k).defined && k.val ≤ n.val && n.val < k.val + (s.pt k).lanes

/-- The port a line lane belongs to. -/
def State.portOf (s : State) (n : Lane) : Option PortId := (List.finRange 8).find? (fun k => s.inPort k n)

/-- The line lanes of a port. -/
def State.lanesOf (s : State) (k : PortId) : List Lane := (List.finRange 8).filter (fun n => s.inPort k n)

/-- The state of a port (R192): 0 DOWN, 1 LIGHT, 2 ACQUIRE, 3 TRAIN, 4 LOCKED, 5 TRAFFIC, 6 ONE_WAY, 7 NAP. -/
def State.pstate (s : State) (k : PortId) : Nat := s.get (PORT.STATUS_STATE k)

/-- The state of the port a line lane belongs to; DOWN for a lane in no port. -/
def State.lstate (s : State) (n : Lane) : Nat := match s.portOf n with | some k => s.pstate k | none => 0

/-- TRAIN, LOCKED, TRAFFIC or ONE_WAY: the states in which a lane carries or prepares traffic (R33). -/
def carries (st : Nat) : Bool := 3 ≤ st && st ≤ 6

/-- TRAIN, LOCKED or TRAFFIC. -/
def correctable (st : Nat) : Bool := 3 ≤ st && st ≤ 5

/-- The first and second paired host lane of a line lane (Table 01-6). -/
def State.hostA (s : State) (n : Lane) : Host := Fin.ofNat 16 (s.get (LN.GBX_MAP_HOST_A n))
def State.hostB (s : State) (n : Lane) : Host := Fin.ofNat 16 (s.get (LN.GBX_MAP_HOST_B n))

/-- The paired host lanes of a line lane; none where the rig has not paired it. -/
def State.hostsOf (s : State) (n : Lane) : List Host :=
  if s.flag (LN.GBX_MAP_MAP_VALID n) then [s.hostA n, s.hostB n] else []

/-- The line lane a host lane is paired with (R26). -/
def State.lineOf (s : State) (j : Host) : Option Lane := (List.finRange 8).find? (fun n => (s.hostsOf n).contains j)

/-- The state of the port a host lane belongs to (R7). -/
def State.hstate (s : State) (j : Host) : Nat := match s.lineOf j with | some n => s.lstate n | none => 0

/-- The timing host lane of a line lane (R23, R26). -/
def State.timingHost (s : State) (n : Lane) : Host :=
  if s.flag (LN.GBX_MAP_TIMING_SEL n) then s.hostB n else s.hostA n

/-- The brownout brace is in force (R326). -/
def State.braced (s : State) : Bool := s.flag PWR.STATUS_BRACE_NOW

/-! ## Forced clears of the bias DACs (R233) -/

/-- Cause PIN: LASER_CLR_N is low and the channel has CLR_EN. -/
def State.pinForced (s : State) (c : Nat) : Bool := s.flag SAF.STATUS_CLR_PIN_NOW && s.flag (BDA.CFG_CLR_EN c)

/-- Cause RIP: BDAn and BDA(n + 8) of a lane that is latched, disabled by TX_DISABLE, or behind a closed supervision gate
(R300, R302, R306). -/
def State.ripForced (s : State) (c : Nat) : Bool :=
  decide (c < 16) && (s.bitOf SAF.STATUS_LATCH (c % 8) || s.bitOf SAF.STATUS_TXD_NOW (c % 8) || s.bitOf SAF.CTRL_SUP_GATE (c % 8))

/-- A forced clear by PIN or RIP is in force. -/
def State.clearForced (s : State) (c : Nat) : Bool := s.pinForced c || s.ripForced c

/-- A range change is in progress (R235); bit 2 of FORCED. -/
def State.rangeForced (s : State) (c : Nat) : Bool := s.bitOf (BDA.CHSTATUS_FORCED c) 2

/-- Any forced clear is in force. -/
def State.forced (s : State) (c : Nat) : Bool := s.clearForced c || s.rangeForced c

/-! ## Indirect pairs (R365, R366) -/

/-- The word at `a` as its fields give it. -/
def State.wordAt (s : State) (a : Nat) : Nat :=
  (fieldsAt a).foldl (fun v f => v + s.get f * 2 ^ f.lo) 0

/-- ADDR advances by STRIDE modulo the width of its field (R365). -/
def State.advance (s : State) (i : Nat) (addr stride : Field) : State :=
  s.set (addr.forInit i) (s.get (addr.forInit i) + s.get (stride.forInit i))


/-- Change one KP4 monitor of a host lane. -/
def State.setKp4 (s : State) (j : Host) (d : Nat) (f : Kp4St → Kp4St) : State :=
  s.setHl j (fun h => { h with kp4 := vset h.kp4 (Fin.ofNat 2 d) (f (h.kp4.get (Fin.ofNat 2 d))) })

/-- `num / den` rounded half to even. -/
def roundDiv (num : Int) (den : Nat) : Int :=
  let q := num / (den : Nat)
  let r := num % (den : Nat)
  if 2 * r < (den : Nat) then q else if (den : Nat) < 2 * r then q + 1 else if q % 2 = 0 then q else q + 1

/-- An event of Spar is latched (R270); bit 0 TIMER, 1 SND, 2 BDA, 3 DOORBELL, 4 THM. Only TIMER reports a merge. -/
def State.sprEvent (s : State) (k : Nat) : State :=
  if s.pwr.dev = .doze ∨ s.pwr.dev = .run then
    (if k = 0 ∧ s.bitOf SPR.EVT_PEND 0 then s.on SPR.EVT_TIMER_OVR else s).setBit SPR.EVT_PEND k true
  else s

end Sys2Proof.Machine
end

