-- ==== Sys2Proof/Machine/MemOps.lean ====
section
/-!
DEFINITION. The memories (chapter 18): accesses, the merge buffer, correction, remapping and poison.
-/

namespace Sys2Proof.Machine

open Sys2Proof

/-! ## Windows (R375, R376) -/

/-- The address lies in the SRAM window. -/
def inSramWin (a : Nat) : Bool := decide (0x10000000 ≤ a) && decide (a < 0x11000000)

/-- The address lies in the QDR-IV window, data or check bits. -/
def inQdrWin (a : Nat) : Bool := decide (0x20000000 ≤ a) && decide (a < 0x22400000)

/-- The address lies in the check-bit view. -/
def inCheckView (a : Nat) : Bool := decide (0x22000000 ≤ a) && decide (a < 0x22400000)

/-- The address lies in a memory window. -/
def inMemory (a : Nat) : Bool := inSramWin a || inQdrWin a

/-- The QDR-IV devices fitted; code 3 is treated as none (Table 18-1). -/
def State.qdrDevices (s : State) : Nat := if s.get MEM.QDR_CFG_DEVICES = 3 then 0 else s.get MEM.QDR_CFG_DEVICES

/-- The data word a byte of the check-bit view belongs to. -/
def checkWord (a : Nat) : Nat := 0x20000000 + 8 * (a - 0x22000000)

/-- A QDR-IV address belongs to a device that is not fitted (R376). -/
def State.qdrUnfitted (s : State) (a : Nat) : Bool :=
  let d := if inCheckView a then checkWord a else a
  decide (s.qdrDevices ≤ (d - 0x20000000) / 0x1000000)

/-- The KIND of an access of `n` bytes that is answered with an error (R361, R362, R377), by the order of R362. -/
def State.memFault (s : State) (a n : Nat) (write : Bool) : Option Nat :=
  if inQdrWin a && s.qdrUnfitted a then some 4
  else if 8 < a % 8 + n then some 2
  else if write && inCheckView a then some 1
  else if inQdrWin a && !s.flag MEM.STATUS_QDR_RDY then some 5
  else none

/-- On PLG3208-A the QDR-IV window reads zero and ignores writes (R357). -/
def State.memAbsent (s : State) (a : Nat) : Bool := inQdrWin a && !s.variant

/-! ## Correction (R380 to R384) -/

/-- The bucket of a bank rises; the first time above CE_THRESH until it has been empty, the burst is raised (R380). -/
def State.bucketUp (s : State) (b : Nat) : State :=
  let v := min 0xFF (s.get (MEM.BANK_BUCKET b) + 1)
  let t := s.set (MEM.BANK_BUCKET b) v
  if s.get MEM.CTRL_CE_THRESH < v && !s.mem.burst.contains b then
    ({ t with mem := { t.mem with burst := b :: t.mem.burst } }.on MEM.STATUS_CE_BURST).alarm 0x13 b 0
  else t

/-- A lasting fault is remapped to the next free spare of its bank, or entered in the list (R382, R383). -/
def State.lastingFault (s : State) (w : Nat) : State :=
  let b := memBank w
  let k := s.get (MEM.BANK_SPARES_USED b)
  if b < 16 ∧ k < 32 then
    let t : State := { s with mem := { s.mem with remap := assocPut s.mem.remap w k } }
    (((t.set (MEM.BANK_SPARES_USED b) (k + 1)).inc MEM.CNT1_LASTING_CNT).on MEM.STATUS_LASTING).logRecord 6 b 1 w 0 0 0
  else
    let listed := (List.range 16).any (fun i => s.flag (MEM.UNMAP_VALID i) && s.get (MEM.UNMAP_ADDR i) == w / 8)
    let t := if listed then s else
      match (List.range 16).find? (fun i => !s.flag (MEM.UNMAP_VALID i)) with
      | some i => (s.on (MEM.UNMAP_VALID i)).set (MEM.UNMAP_ADDR i) (w / 8)
      | none => s
    ((t.inc MEM.CNT1_UNMAP_CNT).on MEM.STATUS_SPARES_OUT).alarm 0x15 b 0

/-- A correction of word `w` is classed by its bank's history of four write-backs (R381). -/
def State.classify (s : State) (w : Nat) : State :=
  let b := memBank w
  let gone := s.mem.history.filter (fun h => h.2.1 != w)
  match s.mem.history.find? (fun h => h.2.1 == w) with
  | some h =>
    if s.since h.2.2 ≤ 1000 then ({ s with mem := { s.mem with history := gone } }).lastingFault w
    else { s with mem := { s.mem with history := gone ++ [(b, w, s.now)] } }
  | none =>
    let mine := gone.filter (fun h => h.1 == b)
    let kept := if mine.length < 4 then gone else
      match mine with
      | [] => gone
      | o :: _ => gone.filter (fun h => h.2.1 != o.2.1)
    { s with mem := { s.mem with history := kept ++ [(b, w, s.now)] } }

/-- A read corrects word `w` (R380). -/
def State.memCorrect (s : State) (w : Nat) : State :=
  let b := memBank w
  let t := (((s.inc MEM.CNT0_CE_CNT).set MEM.CE_ADDR_ADDR w).on MEM.STATUS_CE).inc (MEM.BANK_CE_BANK_CNT b)
  ((t.countEvent 0x143 0 1).bucketUp b).classify w

/-- A read of word `w` finds it uncorrectable, or poisoned before (R385). -/
def State.memPoison (s : State) (i w : Nat) : State :=
  let t : State := if s.mem.poison.contains w then s else { s with mem := { s.mem with poison := w :: s.mem.poison } }
  ((((t.inc MEM.CNT0_UE_CNT).set MEM.UE_ADDR_ADDR w).set MEM.UE_INFO_INITIATOR i).on MEM.STATUS_UE).alarm 0x14 (memBank w) 0

/-- What the code of the word at `w` finds: an error that is there, or `e`, what the access meets. -/
def State.finding (s : State) (w : Nat) (e : SprEcc) : SprEcc :=
  match assocFind s.mem.upset w with
  | some .uncorrectable => .uncorrectable
  | some x => if e = .uncorrectable then e else x
  | none => e

/-- A read of the word at `w` finds nothing wrong. -/
def State.sound (s : State) (w : Nat) (e : SprEcc) : Bool := !s.mem.poison.contains w && s.finding w e == .clean

/-- A read of the word at `w` gives it with the mark of poison. -/
def State.spoilt (s : State) (w : Nat) (e : SprEcc) : Bool := s.mem.poison.contains w || s.finding w e == .uncorrectable

/-- What reading the word at `w` does by the errors met (R380, R385); a poisoned word stays so. -/
def State.memCheck (s : State) (i w : Nat) (e : SprEcc) : State :=
  let t : State := { s with mem := { s.mem with upset := s.mem.upset.filter (fun u => u.1 != w) } }
  if s.spoilt w e then t.memPoison i w
  else if s.finding w e = .corrected then t.memCorrect w
  else s

/-! ## Reads and writes (R377, R379) -/

/-- A partial merge entry of the word at `w` is about to be flushed: the word is read first, and corrected under R380 (R379). The
spec does not name the initiator of this read: a free value. -/
def State.flushRead (s : State) (w : Nat) (e : SprEcc) : State :=
  if s.mem.merge.any (fun x => x.addr == w && x.mask != 0xFF) && !s.sound w e then (s.memCheck (s.drawn 23 4) w e).drew else s

/-- The merge entry of the word at `w`, if there is one, is flushed; `e` is what the code finds in a partial one (R379). -/
def State.flushOut (s : State) (w : Nat) (e : SprEcc) : State :=
  let t := s.flushRead w e
  t.each (t.mem.merge.filter (fun x => x.addr == w)) (fun x u => u.flushEntry x)

/-- A read of the word flushes its merge entry first (R379). -/
def State.readHit (s : State) (w : Nat) : State := s.flushOut w .clean

/-- Every entry of the merge buffer is flushed, the longest idle first: a barrier (R379). -/
def State.flushAll (s : State) : State := s.each (s.mem.merge.map (·.addr)) (fun w t => t.flushOut w .clean)

/-- The word at `w` is read by initiator `i`: flush, check and correction. -/
def State.memTouch (s : State) (i w : Nat) (e : SprEcc) : State := ((s.readHit w).memCount w 0 1).memCheck i w e

/-- Initiator `i` reads all the words that `p` names: those that wait in the merge buffer are flushed, and the errors among them
are met (R379, R380, R385). -/
def State.sweep (s : State) (i : Nat) (p : Nat → Bool) : State :=
  let t := s.each ((s.mem.merge.map (·.addr)).filter p) (fun w t => t.readHit w)
  t.each ((t.mem.upset.map (·.1) ++ t.mem.poison).filter p).eraseDups (fun w u => u.memCheck i w .clean)

/-- The words that hold any of the `n` bytes at `a`. -/
def inRange (a n w : Nat) : Bool := decide (w < a + n) && decide (a < w + 8)

/-- The check bits of the word at `w`: those of its code, or of a poisoned word those that mark it (R375, R385). -/
def State.memCode (s : State) (w : Nat) : Nat :=
  (if s.mem.poison.contains w then Config.poisonBits w else Config.checkBits (readLE s.mem.cells w 8)) % 256

/-- A read of `n` bytes at `a` (R377, R380, R385). -/
def State.memRead (s : State) (i a n : Nat) (e : SprEcc) : State :=
  if s.memAbsent a then s.respond (.data 0)
  else match s.memFault a n false with
    | some k => s.accessError i a k false n
    | none =>
      if inCheckView a then
        s.respond (.data (leVal ((List.range n).map (fun j => s.memCode (checkWord (a + j))))))
      else
        let t := s.readHit (wordOf a)
        let v := readLE t.mem.cells a n
        (s.memTouch i (wordOf a) e).respond (if t.spoilt (wordOf a) e then .poisoned v else .data v)

/-- The bytes of `v` are merged into an entry (R379). -/
def MergeEntry.merge (e : MergeEntry) (a n v : Nat) : MergeEntry :=
  let byte (j : Nat) : Nat := if a % 8 ≤ j ∧ j < a % 8 + n then v / 256 ^ (j - a % 8) % 256 else e.data / 256 ^ j % 256
  let valid (j : Nat) : Bool := (decide (a % 8 ≤ j) && decide (j < a % 8 + n)) || bit e.mask j
  { addr := e.addr
    data := (List.range 8).foldl (fun x j => x + byte j * 256 ^ j) 0
    mask := (List.range 8).foldl (fun x j => x + (valid j).toNat * 2 ^ j) 0 }

/-- A narrow write is taken into the merge buffer (R379): its entry is written last, so it moves to the end; with all 8
entries in use the one idle longest is flushed; a full entry is flushed. -/
def State.memMerge (s : State) (a n v : Nat) : State :=
  let w := wordOf a
  let (t, e) := match s.mem.merge.find? (fun x => x.addr == w) with
    | some x => (s, x)
    | none =>
      match s.mem.merge with
      | o :: _ => (if s.mem.merge.length < 8 then s else s.flushOut o.addr .clean, ⟨w, 0, 0⟩)
      | [] => (s, ⟨w, 0, 0⟩)
  let x := e.merge a n v
  let u : State := { t with mem := { t.mem with merge := (t.mem.merge.filter (fun y => y.addr != w)).take 7 ++ [x],
                                                history := t.mem.history.filter (fun h => h.2.1 != w) } }
  if x.mask = 0xFF then u.flushEntry x else u

/-- A write of `n` bytes at `a` (R377). -/
def State.memWrite (s : State) (i a n v : Nat) : State :=
  if s.memAbsent a then s.respond .done
  else match s.memFault a n true with
    | some k => s.accessError i a k true n
    | none => (if n = 8 then s.memPut64 a v else s.memMerge a n v).respond .done

/-- An entry idle for 64 MEM cycles is flushed (R379); `e` is what the code finds in a partial one. -/
def State.mergeIdle (s : State) (w : Nat) (e : SprEcc) : State := s.flushOut w e

/-- Every bucket leaks by 1 (R380); a bank may raise its burst again once its bucket is empty. -/
def State.bucketLeak (s : State) : State :=
  s.each (List.range 18) (fun b t =>
    let v := t.get (MEM.BANK_BUCKET b) - 1
    let u := t.set (MEM.BANK_BUCKET b) v
    if v = 0 then { u with mem := { u.mem with burst := u.mem.burst.filter (· != b) } } else u)

/-- The patrol's key of spare `k` of bank `b`, beyond every address. -/
def spareKey (b k : Nat) : Nat := 2 ^ 32 + 32 * b + k

/-- The patrol may read the word `key`: SCRUB_EN = 1, and SCRUB_INT hours, at least one, have passed since it read that word
(R384). -/
def State.patrolDue (s : State) (key : Nat) : Bool :=
  s.flag MEM.CTRL_SCRUB_EN && (match assocFind s.mem.patrol key with
    | some a => decide (3600000 * max 1 (s.get MEM.CTRL_SCRUB_INT) ≤ s.since a)
    | none => true)

/-- The patrol has read the word `key` now. -/
def State.patrolled (s : State) (key : Nat) : State :=
  { s with mem := { s.mem with patrol := (key, s.now) :: s.mem.patrol.filter (fun p => p.1 != key) } }

/-- A patrol read of a data word, or of the spare that serves it (R384); initiator code 0xF (Table 18-2). -/
def State.scrub (s : State) (w : Nat) (e : SprEcc) : State :=
  if s.patrolDue w && !s.memAbsent w && (s.memFault w 8 false).isNone && !inCheckView w then (s.patrolled w).memTouch 0xF w e else s

/-- A patrol read of spare `k` of bank `b` (R384): of the word it serves. A spare that serves none has no address: it is corrected and
counted, with a free address, and not classed (log 206). -/
def State.scrubSpare (s : State) (b k : Nat) (e : SprEcc) : State :=
  if !s.patrolDue (spareKey b k) then s
  else
    let s := s.patrolled (spareKey b k)
    match s.mem.remap.find? (fun p => p.2 == k && memBank p.1 == b) with
    | some p => s.memTouch 0xF p.1 e
    | none =>
      let w := s.drawn 41 32
      match e with
      | .clean => s
      | .corrected =>
        let t := (((s.inc MEM.CNT0_CE_CNT).set MEM.CE_ADDR_ADDR w).on MEM.STATUS_CE).inc (MEM.BANK_CE_BANK_CNT b)
        ((t.countEvent 0x143 0 1).bucketUp b).drew
      | .uncorrectable =>
        ((((s.inc MEM.CNT0_UE_CNT).set MEM.UE_ADDR_ADDR w).set MEM.UE_INFO_INITIATOR 0xF).on MEM.STATUS_UE).alarm 0x14 b 0 |>.drew

/-- The zero fill of wake step MEM (R378). -/
def State.sramFill (s : State) : State :=
  let t := ((s.each (List.range 18) (fun b t => t.set (MEM.BANK_BUCKET b) 0)).each (List.range 16) (fun b t =>
    t.set (MEM.BANK_SPARES_USED b) 0)).on MEM.STATUS_SRAM_RDY
  { t with mem := { cells := t.mem.cells.filter (fun c => decide (0x20000000 ≤ c.1))
                    poison := t.mem.poison.filter (fun w => decide (0x20000000 ≤ w))
                    upset := t.mem.upset.filter (fun u => decide (0x20000000 ≤ u.1))
                    merge := t.mem.merge.filter (fun e => decide (0x20000000 ≤ e.addr)) } }

/-- QDR-IV training and fill end (R378); a port that is ready does not train again. -/
def State.qdrTrained (s : State) (ok : Bool) : State :=
  if !s.variant || !s.flag PWR.CTRL_QDR_EN || s.qdrDevices == 0 || s.flag MEM.STATUS_QDR_RDY then s
  else if ok then
    ({ s with mem := { s.mem with cells := s.mem.cells.filter (fun c => decide (c.1 < 0x20000000))
                                  poison := s.mem.poison.filter (fun w => decide (w < 0x20000000))
                                  upset := s.mem.upset.filter (fun u => decide (u.1 < 0x20000000))
                                  merge := s.mem.merge.filter (fun e => decide (e.addr < 0x20000000)) } }).on MEM.STATUS_QDR_RDY
  else (s.on MEM.STATUS_QDR_FAIL).alarm 0x16 0 0

/-- The QDR-IV port is powered only with QDR_EN = 1 (R376): as QDR_EN falls, what waits for it in the merge buffer is flushed (R379),
and it is no longer ready. -/
def State.qdrPower (s : State) : State :=
  if s.flag PWR.CTRL_QDR_EN || !s.flag MEM.STATUS_QDR_RDY then s
  else (s.each ((s.mem.merge.map (·.addr)).filter inQdrWin) (fun w t => t.flushOut w .clean)).off MEM.STATUS_QDR_RDY

/-- Errors arise in memory words of their own accord: which, and of what kind, is a free value of the time (R380, R385). -/
def State.upsets (s : State) : State :=
  let new := (Config.upsets s.fresh).filter (fun u => inMemory u.1 && u.1 % 8 == 0 && !inCheckView u.1)
  { s with mem := { s.mem with upset := new.map (fun u => (u.1, if u.2 then .uncorrectable else .corrected)) ++ s.mem.upset } }

/-- MEM_CMD.CNT_CLR (R387, Table 18-1). -/
def State.memCntClr (s : State) : State :=
  let t := (((s.off MEM.CNT0_CE_CNT).off MEM.CNT0_UE_CNT).off MEM.CNT1_LASTING_CNT).off MEM.CNT1_UNMAP_CNT
  t.each (List.range 18) (fun b u => u.off (MEM.BANK_CE_BANK_CNT b))

end Sys2Proof.Machine
end

