-- ==== Sys2Proof/Machine/EqMath.lean ====
section
/-!
DEFINITION. The arithmetic of the line receive chain as the spec states it: the FFE sum (R67), the Volterra term (R68),
the target response (R70), the soft output (R71), the extrinsic value and the prior (R72), the signs of the LMS update
(R74, R76) and the steps (R75).
-/

namespace Sys2Proof.Machine

open Sys2Proof

/-- `x / 2 ^ k` rounded half to even. -/
def roundShift (k : Nat) (x : Int) : Int :=
  let q := x / (2 ^ k : Nat)
  let r := x % (2 ^ k : Nat)
  if 2 * r < (2 ^ k : Nat) then q
  else if (2 ^ k : Nat) < 2 * r then q + 1
  else if q % 2 = 0 then q else q + 1

/-- The sign of an integer: sign(0) = 0 (R74). -/
def sgn (x : Int) : Int := if 0 < x then 1 else if x < 0 then -1 else 0

/-- The FFE sum for one position, exact, in units of 2^-9: `x d` is the corrected code `d` symbols before the main
cursor's (R67). -/
def ffeSum (taps : List (Int × Int)) (x : Int → Int) : Int :=
  taps.foldl (fun a t => a + t.1 * x t.2) 0

/-- The 15 index pairs of the second-order terms, in the order of Table 03-12. -/
def volterraPairs : List (Int × Int) :=
  [(-2, -2), (-2, -1), (-2, 0), (-2, 1), (-2, 2), (-1, -1), (-1, 0), (-1, 1), (-1, 2), (0, 0), (0, 1), (0, 2), (1, 1),
   (1, 2), (2, 2)]

/-- The Volterra term, exact, in units of 2^-20: w2 has LSB 2^-14 and w3 LSB 2^-20 (R68). -/
def volterraSum (w2 w3 : List Int) (x : Int → Int) : Int :=
  ((volterraPairs.zip w2).foldl (fun a p => a + 64 * p.2 * x p.1.1 * x p.1.2) 0) +
    ((([-2, -1, 0, 1, 2] : List Int).zip w3).foldl (fun a p => a + p.2 * x p.1 * x p.1 * x p.1) 0)

/-- The equaliser output z = y + v rounded half to even to the 10-bit scale (R67, R68). DESIGN CHOICE
(log 150): one beyond the scale is held at its end. -/
def equalised (taps : List (Int × Int)) (w2 w3 : List Int) (volt : Bool) (x : Int → Int) : Int :=
  clamp (-512) 511 (roundShift 20 (2048 * ffeSum taps x + if volt then volterraSum w2 w3 x else 0))

/-- The four PAM4 target levels (R67). -/
def level (a : Fin 4) : Int := match a with | 0 => -96 | 1 => -32 | 2 => 32 | 3 => 96

/-- The expected value of R70 for the symbols (a0, a1, a2), in units of 2^-9. -/
def expected (h1 h2 : Int) (a0 a1 a2 : Fin 4) : Int := 512 * level a0 + h1 * level a1 + h2 * level a2

/-- The branch metric (z - s)^2 in units of 2^-18 (R70). -/
def branchMetric (h1 h2 z : Int) (a0 a1 a2 : Fin 4) : Int :=
  (512 * z - expected h1 h2 a0 a1 a2) * (512 * z - expected h1 h2 a0 a1 a2)

/-- The two bits of a symbol under the Gray code of the mapper (R111): the first bit, then the second. -/
def grayBits (a : Fin 4) : Bool × Bool :=
  match a with | 0 => (false, false) | 1 => (false, true) | 2 => (true, true) | 3 => (true, false)

/-- The soft output of a bit: the raw difference shifted right by LLR_SCALE, rounded half to even and clamped to -7 to
+7; a saturation-marked symbol gives 0 (R71). -/
def softOut (scale : Nat) (raw : Int) (marked : Bool) : Int :=
  if marked then 0 else clamp (-7) 7 (roundShift scale raw)

/-- The extrinsic value of a bit (R72). -/
def extrinsic (decoderOut firstPass : Int) : Int := clamp (-7) 7 (decoderOut - firstPass)

/-- The prior of a branch, in eighths: PRIOR_WT times the sum over the two bits, negative where the bit is 0 (R72). -/
def prior (wt : Nat) (e0 e1 : Int) (a : Fin 4) : Int :=
  wt * ((if (grayBits a).1 then e0 else -e0) + (if (grayBits a).2 then e1 else -e1))

/-- All symbols. -/
def symbols : List (Fin 4) := [0, 1, 2, 3]

/-! ## The detector (R70, R71) -/

/-- A symbol of a run of the detector: the equaliser output, the saturation mark of its main-cursor sample (R49), and the
extrinsic values of its two bits, 0 in the first pass (R72). -/
structure ZSym where
  z : Int
  marked : Bool
  e0 : Int := 0
  e1 : Int := 0
deriving DecidableEq, Repr

/-- The survivor of lesser metric, the first one of equals. -/
def lesser (a b : Option Survivor) : Option Survivor :=
  match a, b with
  | none, y => y
  | x, none => x
  | some x, some y => if y.metric < x.metric then some y else some x

/-- The best survivor of a trellis. -/
def bestOf (m : Trellis) : Survivor := ((m.foldl lesser none).getD {})

/-- The branch metric of symbol `a0` after (a1, a2) with its prior, in units of 2^-18 (R70, R72). In the 4-state trellis
h2 is held at 0. -/
def branch (h1 h2 : Int) (wt : Nat) (y : ZSym) (a0 a1 a2 : Fin 4) : Int :=
  branchMetric h1 h2 y.z a0 a1 a2 + 2 ^ 15 * prior wt y.e0 y.e1 a0

/-- One symbol of the trellis: each state (a0, a1) keeps its best survivor, by a branch that `allow` admits. -/
def trellisStep (h1 h2 : Int) (wt : Nat) (allow : Fin 4 → Bool) (m : Trellis) (y : ZSym) : Trellis :=
  symbols.flatMap (fun a0 => symbols.map (fun a1 =>
    if allow a0 then
      symbols.foldl (fun b a2 => lesser b ((m.getD (4 * a1.val + a2.val) none).map (fun v =>
        { metric := v.metric + branch h1 h2 wt y a0 a1 a2, path := (a0 :: v.path).take 20 }))) none
    else none))

/-- A trellis run over symbols, every branch allowed; the metrics are then counted from the least one. -/
def trellisRun (h1 h2 : Int) (wt : Nat) (m : Trellis) (ys : List ZSym) : Trellis :=
  let t := ys.foldl (trellisStep h1 h2 wt (fun _ => true)) m
  t.map (fun v => v.map (fun x => { x with metric := x.metric - (bestOf t).metric }))

/-- The best-path metric over the first symbol of a run, where `allow` restricts it, and the 48 symbols after it: the
fixed traceback (R71). -/
def throughMetric (h1 h2 : Int) (wt : Nat) (m : Trellis) (ys : List ZSym) (allow : Fin 4 → Bool) : Int :=
  match ys with
  | [] => 0
  | y :: r => (bestOf ((r.take 48).foldl (trellisStep h1 h2 wt (fun _ => true)) (trellisStep h1 h2 wt allow m y))).metric

/-- The raw soft output of a bit of the first symbol of a run, in units of 2^-18: best-path metric with the bit at 1
minus with the bit at 0 (R71). -/
def rawSoft (h1 h2 : Int) (wt : Nat) (m : Trellis) (ys : List ZSym) (second : Bool) : Int :=
  let bitIs (b : Bool) (a : Fin 4) : Bool := (if second then (grayBits a).2 else (grayBits a).1) == b
  throughMetric h1 h2 wt m ys (bitIs true) - throughMetric h1 h2 wt m ys (bitIs false)

/-- The soft outputs of the first `k` symbols of a run, two for each (R71). -/
def softRun (h1 h2 : Int) (wt scale k : Nat) (m : Trellis) (ys : List ZSym) : List Int :=
  match k, ys with
  | k + 1, y :: r =>
    softOut (18 + scale) (rawSoft h1 h2 wt m (y :: r) false) y.marked ::
      softOut (18 + scale) (rawSoft h1 h2 wt m (y :: r) true) y.marked ::
      softRun h1 h2 wt scale k (trellisRun h1 h2 wt m [y]) r
  | _, _ => []

/-- The tentative decisions a0, a1, a2 for the first symbol of a run: the survivor at depth 16 (R74). -/
def tentative (h1 h2 : Int) (m : Trellis) (ys : List ZSym) : Fin 4 × Fin 4 × Fin 4 :=
  let v := bestOf ((ys.take 17).foldl (trellisStep h1 h2 0 (fun _ => true)) m)
  (v.path.getD 16 0, v.path.getD 17 0, v.path.getD 18 0)

/-- The tentative decisions for the first `k` symbols of a run. -/
def tentativeRun (h1 h2 : Int) (k : Nat) (m : Trellis) (ys : List ZSym) : List (Fin 4 × Fin 4 × Fin 4) :=
  match k, ys with
  | k + 1, y :: r => tentative h1 h2 m (y :: r) :: tentativeRun h1 h2 k (trellisRun h1 h2 0 m [y]) r
  | _, _ => []

/-! ## Adaptation (R74 to R76) -/

/-- The error of the decision-directed update, in units of 2^-9 (R74), and of the constant-modulus update (R76). -/
def ddError (h1 h2 z : Int) (a0 a1 a2 : Fin 4) : Int := 512 * z - expected h1 h2 a0 a1 a2
def cmaError (z : Int) : Int := sgn (z * z - 5120) * z

/-- The majority vote of a beat over its unmarked positions: each gives an error and a regressor (R74). -/
def lmsVote (ps : List (Int × Int)) : Int := ps.foldl (fun a p => a + sgn p.1 * sgn p.2) 0

/-- The step in accumulator LSBs of a step code (Table 03-3). -/
def stepOf (code : Nat) : Nat := if code = 0 then 0 else 2 ^ (code - 1)

end Sys2Proof.Machine
end

