-- ==== Sys2Proof/Machine/LocMath.lean ====
section
/-!
DEFINITION. The codes of the line: interleaving (R90), the inner Hamming code (R91), the frame scrambler (R92), Chase
decoding and its soft outputs (R93, R94), the CRC-32 of a superframe (R100) and the superframe's bytes (Tables 04-1 and
04-3).
-/

namespace Sys2Proof.Machine

open Sys2Proof

/-! ## Interleaving (R90) -/

/-- Information bit `u` of block `i`: whether it comes from HOST_B, the RS symbol number and the bit within it. -/
def interleave (i u : Nat) : Bool × Nat × Nat := (u / 10 % 2 == 1, 6 * i + u / 20, u % 10)

/-- The bits of a 10-bit RS symbol, and the symbol of a list of bits. DESIGN CHOICE (log 190): the bit received first on the
host lane is bit 0, the coefficient of x^0 in the field of RS(544,514); R88 and R90 give the order of the bits and no place
in the field element. -/
def rsBits (v : Nat) : List Bool := (List.range 10).map (bit v)
def rsSymbol (bs : List Bool) : Nat := (bs.zip (List.range 10)).foldl (fun a p => a + p.1.toNat * 2 ^ p.2) 0

/-- A list cut into groups of `k`. -/
def bitGroups {α : Type} (k fuel : Nat) (l : List α) : List (List α) :=
  match fuel, l with
  | _, [] => []
  | 0, _ => []
  | f + 1, x :: r => (x :: r).take k :: bitGroups k f ((x :: r).drop k)

/-- Every `k`-th entry of a list, from the first on. -/
def everyNth {α : Type} (k : Nat) (l : List α) : List α := ((l.zip (List.range l.length)).filter (fun p => p.2 % k == 0)).map (·.1)

/-- The 120 information bits of a block from the six symbols of each host stream (R90). -/
def blockBits (a b : List Nat) : List Bool :=
  (List.range 120).map (fun u =>
    bit ((if (interleave 0 u).1 then b else a).getD (interleave 0 u).2.1 0) (interleave 0 u).2.2)

/-- The six symbols of one host stream in the information bits of a block: even slots for HOST_A, odd ones for HOST_B
(R90). -/
def blockSymbols (hostB : Bool) (u : List Bool) : List Nat :=
  (List.range 6).map (fun r => rsSymbol ((u.drop (20 * r + if hostB then 10 else 0)).take 10))

/-! ## The inner code (R91) -/

/-- One step of the division by g(x) = x^7 + x^3 + 1: shift a bit in. -/
def hammingStep (r : Nat) (b : Bool) : Nat :=
  let v := 2 * r + b.toNat
  if 128 ≤ v then (v - 128) ^^^ 9 else v

/-- The remainder of c(x) modulo g(x), first bit at the highest degree. -/
def syndrome (c : List Bool) : Nat := c.foldl hammingStep 0

/-- The parity of a list of bits: true for odd. -/
def parity (c : List Bool) : Bool := c.foldl (fun a b => a != b) false

/-- The 7 Hamming bits of 120 information bits: the remainder of u(x)·x^7, x^6 first. -/
def hammingBits (u : List Bool) : List Bool :=
  let r := syndrome (u ++ List.replicate 7 false)
  (List.range 7).map (fun k => bit r (6 - k))

/-- The codeword of 120 information bits (R91). -/
def encodeInner (u : List Bool) : List Bool :=
  let c := u ++ hammingBits u
  c ++ [parity c]

/-! ## The scrambler (R92) -/

/-- One step of the scrambler x^31 + x^28 + 1: the bit it produces and its next state. DESIGN CHOICE (log 189): R92 gives the
generator and the all-ones state and not the stage that the bit is taken from; it is the bit fed back, the sum of stages 31
and 28. -/
def scrambleStep (st : Nat) : Bool × Nat :=
  let b := bit st 30 != bit st 27
  (b, (2 * st) % 2 ^ 31 + b.toNat)

/-- The first `n` scrambler bits from a state. -/
def scrambleBits (n st : Nat) : List Bool :=
  match n with
  | 0 => []
  | n + 1 => (scrambleStep st).1 :: scrambleBits n (scrambleStep st).2

/-- The scrambler state after `n` bits. -/
def scrambleSkip (n st : Nat) : Nat :=
  match n with
  | 0 => st
  | n + 1 => scrambleSkip n (scrambleStep st).2

/-- The scrambler bits of codeword `i` of a frame: the state is all ones at the first codeword bit (R92). -/
def scrambleOf (i : Nat) : List Bool := scrambleBits 128 (scrambleSkip (128 * i) (2 ^ 31 - 1))

/-- Codeword bits combined with their scrambler bits (R92). -/
def scramble (on : Bool) (i : Nat) (c : List Bool) : List Bool :=
  if on then (c.zip (scrambleOf i)).map (fun p => p.1 != p.2) else c

/-- Soft values descrambled: the sign is inverted where the scrambler bit is 1 (R92). -/
def descramble (on : Bool) (i : Nat) (llr : List Int) : List Int :=
  if on then (llr.zip (scrambleOf i)).map (fun p => if p.2 then -p.1 else p.1) else llr

/-! ## Chase decoding (R93, R94) -/

/-- The hard decision of a soft value: 0 for a value at or above 0. -/
def hard (x : Int) : Bool := x < 0

/-- The four positions of least reliability, the lower index first among equals. -/
def leastReliable (llr : List Int) : List Nat :=
  let ps := (llr.map Int.natAbs).zip (List.range llr.length)
  (((List.range 8).flatMap (fun v => ps.filter (fun p => p.1 == v))).take 4).map (·.2)

/-- A word with the bits of a list of positions flipped. -/
def flipAt (w : List Bool) (ps : List Nat) : List Bool :=
  (w.zip (List.range w.length)).map (fun p => p.1 != ps.contains p.2)

/-- The x-powers modulo g(x) of the bit positions c0 to c126: x^126 down to x^0. -/
def powerOf (p : Nat) : Nat := syndrome (true :: List.replicate (126 - p) false)

/-- The candidate of one pattern (R93). -/
def candidate (w : List Bool) : Option (List Bool) :=
  let s := syndrome (w.take 127)
  let p := parity w
  if s = 0 then (if p then some (flipAt w [127]) else some w)
  else if p then ((List.range 127).find? (fun k => powerOf k == s)).map (fun k => flipAt w [k])
  else none

/-- The metric of a candidate: the reliabilities of the bits in which it differs from the hard decisions. -/
def metricOf (llr : List Int) (c : List Bool) : Nat :=
  ((llr.zip c).filter (fun p => hard p.1 != p.2)).foldl (fun a p => a + p.1.natAbs) 0

/-- All candidates with their metrics, in the order of the patterns. -/
def candidates (llr : List Int) : List (Nat × List Bool) :=
  let h := llr.map hard
  let low := leastReliable llr
  (List.range 16).filterMap (fun k =>
    (candidate (flipAt h ((low.zip (List.range 4)).filterMap (fun p => if bit k p.2 then some p.1 else none)))).map
      (fun c => (metricOf llr c, c)))

/-- The candidate of least metric, the lowest pattern among equals. -/
def bestCandidate (cs : List (Nat × List Bool)) : Option (Nat × List Bool) :=
  cs.foldl (fun b c => match b with | none => some c | some x => if c.1 < x.1 then some c else some x) none

/-- What a decoding gives: whether it decoded, whether it corrected, and the output bits. -/
structure Decoded where
  ok : Bool
  corrected : Bool
  out : List Bool
deriving DecidableEq, Repr

/-- Decode one codeword from its descrambled soft values (R93). -/
def chase (llr : List Int) : Decoded :=
  let h := llr.map hard
  match bestCandidate (candidates llr) with
  | none => { ok := false, corrected := false, out := h }
  | some b => { ok := true, corrected := b.2 != h, out := b.2 }

/-- The output soft values for the turbo pass (R94). -/
def chaseSoft (beta : Nat) (llr : List Int) : List Int :=
  let cs := candidates llr
  match bestCandidate cs with
  | none => llr
  | some b =>
    (b.2.zip (llr.zip (List.range llr.length))).map (fun p =>
      let others := cs.filter (fun c => c.2.getD p.2.2 false != p.1)
      let m := match bestCandidate others with
        | some o => min 7 (o.1 - b.1)
        | none => min 7 (p.2.1.natAbs + beta)
      if p.1 then -(m : Int) else m)

/-- Bits in which two words differ. -/
def distance (a b : List Bool) : Nat := ((a.zip b).filter (fun p => p.1 != p.2)).length

/-- The symbol value of a level index (Table 05-1). -/
def symbolValue (l : Nat) : Int := match l with | 0 => -3 | 1 => -1 | 2 => 1 | _ => 3

/-- Pairs of bits mapped to level indices by the Gray code of Table 05-1, the first bit most significant (R97, R111). -/
def grayMap (c : List Bool) : List Nat :=
  match c with
  | a :: b :: r => (match a, b with | false, false => 0 | false, true => 1 | true, true => 2 | true, false => 3) :: grayMap r
  | _ => []

/-- The 64 line symbols of a codeword, re-formed by scrambling and the mapper's Gray code (R95, R111), as level
indices. -/
def reform (on : Bool) (i : Nat) (out : List Bool) : List Nat := grayMap (scramble on i out)

/-! ## CRC-32 (R100) -/

/-- One bit of the CRC register. -/
def crc32Bit (r : Nat) (b : Bool) : Nat :=
  if (bit r 31) != b then ((2 * r) % 2 ^ 32) ^^^ 0x04C11DB7 else (2 * r) % 2 ^ 32

/-- The bits of a byte, bit 7 first. -/
def byteBits (b : Nat) : List Bool := (List.range 8).map (fun k => bit b (7 - k))

/-- CRC-32 with generator 0x04C11DB7, initial value all ones, no reflection, complemented (R100). -/
def crc32 (bs : List Nat) : Nat := (2 ^ 32 - 1) - (bs.flatMap byteBits).foldl crc32Bit (2 ^ 32 - 1)

/-- The marker of a superframe (R100), and the number of bits in which a received one differs. -/
def sfMarker : Nat := 0x1ACFFC1D
def markerDistance (m : Nat) : Nat := ((List.range 32).filter (fun k => bit m k != bit sfMarker k)).length

/-! ## Superframe bytes -/

/-- The 640 bits of a superframe: the marker, then the bytes of payload and CRC, the most significant bit first (R100). -/
def sfBits (bs : List Nat) : List Bool := (List.range 32).map (fun k => bit sfMarker (31 - k)) ++ bs.flatMap byteBits

/-- A number from bits, most significant first, and the bytes of a run of bits. -/
def bitsVal (bs : List Bool) : Nat := bs.foldl (fun a b => 2 * a + b.toNat) 0
def bitsBytes (n : Nat) (bs : List Bool) : List Nat := (List.range n).map (fun k => bitsVal ((bs.drop (8 * k)).take 8))

/-- `n` bytes of a number, big-endian (R100). -/
def beBytes (n v : Nat) : List Nat :=
  match n with
  | 0 => []
  | n + 1 => v / 256 ^ n % 256 :: beBytes n v

/-- The number of a list of bytes, big-endian. -/
def beVal (bs : List Nat) : Nat := bs.foldl (fun a b => 256 * a + b % 256) 0

/-- A list of bytes cut or filled with zeros to length `n`. -/
def padTo (n : Nat) (bs : List Nat) : List Nat := (bs ++ List.replicate n 0).take n

/-- The 16 bytes of a message slot. -/
def slotBytes (m : LocMsg) : List Nat := m.type :: m.tag :: padTo 14 m.body

/-- The types of Table 04-2. -/
def locKnown (t : Nat) : Bool :=
  t == 0x01 || t == 0x02 || t == 0x10 || t == 0x11 || t == 0x20 || t == 0x21 || t == 0x30 || t == 0x80

/-- The priority of a type (Table 04-2): 1 is served first. -/
def locPriority (t : Nat) : Nat :=
  match t with | 0x20 => 1 | 0x21 => 2 | 0x11 => 3 | 0x10 => 4 | 0x01 => 5 | 0x02 => 5 | 0x30 => 6 | _ => 7

/-- Messages in priority order, the earlier first among equals. -/
def byPriority (ms : List LocMsg) : List LocMsg :=
  (List.range 8).flatMap (fun p => ms.filter (fun m => locPriority m.type == p))

end Sys2Proof.Machine
end

