-- ==== Sys2Proof/Machine/RxOps.lean ====
section
/-!
DEFINITION. The line receive front end and the gearbox (chapters 1 and 2): gain steps, backoff, loss of signal,
over-range counting, transmit timing references.
-/

namespace Sys2Proof.Machine

open Sys2Proof

/-! ## Transmit timing (R23) -/

/-- The line lane whose HOLDOVER bits show a PLL, for HTPLLj the lane paired with HLj. -/
def State.pllLane (s : State) : Pll → Option Lane
  | .tx n => some n
  | .ht j => s.lineOf j

/-- What a transmit PLL runs from. -/
def State.pllRef (s : State) : Pll → PllRef
  | .tx n => s.txpll.get n
  | .ht j => s.htpll.get j

/-- Move a transmit PLL to another source. -/
def State.setPll (s : State) (p : Pll) (r : PllRef) : State :=
  match p with
  | .tx n => { s with txpll := vset s.txpll n r }
  | .ht j => { s with htpll := vset s.htpll j r }

/-- The HOLDOVER bits of Table 01-7 follow the PLL: bit 20 TXPLLn in holdover, bit 21 TXPLLn on REFCLK, bits 22 and 23
the HTPLLs of HOST_A and HOST_B on REFCLK. -/
def State.showPll (s : State) (p : Pll) : State :=
  match p with
  | .tx n => (s.setBit (LN.GBX_STATUS_HOLDOVER n) 0 (s.pllRef p == .holdover)).setBit (LN.GBX_STATUS_HOLDOVER n) 1
      (s.pllRef p == .refclk)
  | .ht j =>
    match s.lineOf j with
    | some n => s.setBit (LN.GBX_STATUS_HOLDOVER n) (if s.hostA n = j then 2 else 3) (s.pllRef p == .refclk)
    | none => s

/-- The transmit PLLs of a line lane: its own and those of its host lanes. -/
def State.lanePlls (s : State) (n : Lane) : List Pll := .tx n :: (s.hostsOf n).map .ht

/-- TIMING_HOLDOVER of a lane ends once no transmit PLL of the lane holds (R23). -/
def State.holdoverEnd (s : State) (n : Lane) : State :=
  if (s.lanePlls n).any (fun p => s.pllRef p == .holdover) then s else s.alarmEnd 0x03 n

/-- The traffic reference of a PLL is lost: it holds its frequency and TIMING_HOLDOVER is raised (R23). -/
def State.pllLose (s : State) (p : Pll) : State :=
  if s.pllRef p = .traffic then
    let t := (s.setPll p .holdover).showPll p
    match s.pllLane p with
    | some n => t.alarm 0x03 n 0
    | none => t
  else s

/-- A PLL leaves holdover for `r`, and TIMING_HOLDOVER is no longer active for it (R23). -/
def State.pllMove (s : State) (p : Pll) (r : PllRef) : State :=
  let t := (s.setPll p r).showPll p
  match s.pllLane p with
  | some n => if s.pllRef p = .holdover then t.holdoverEnd n else t
  | none => t

/-- A PLL stops with its lane: it is in no holdover, and its HOLDOVER bits read 0. -/
def State.pllStop (s : State) (p : Pll) : State :=
  let t := s.pllMove p .refclk
  match p with
  | .tx n => (t.setBit (LN.GBX_STATUS_HOLDOVER n) 0 false).setBit (LN.GBX_STATUS_HOLDOVER n) 1 false
  | .ht j =>
    match t.lineOf j with
    | some n => t.setBit (LN.GBX_STATUS_HOLDOVER n) (if t.hostA n = j then 2 else 3) false
    | none => t

/-- A line lane is Active: its clocks run, TXPLLn from REFCLK until its traffic reference is there (R23, R315). -/
def State.laneOn (s : State) (n : Lane) : State := (s.setLn n { s.ln n with power := .active }).showPll (.tx n)

/-- The recovered clock of host lane `j` is present: TXPLLn of the lane it times follows it (R23). -/
def State.pllHostClock (s : State) (j : Host) : State :=
  match s.lineOf j with
  | some n => if s.timingHost n = j then s.pllMove (.tx n) .traffic else s
  | none => s

/-- The recovered clock of host lane `j` is gone. -/
def State.pllHostLost (s : State) (j : Host) : State :=
  match s.lineOf j with
  | some n => if s.timingHost n = j then s.pllLose (.tx n) else s
  | none => s

/-! ## Gearbox (R24, R25) -/

/-- Both buffers of a line lane are recentred (R24). -/
def State.gbxSlip (s : State) (n : Lane) : State := (s.on (LN.GBX_STATUS_SLIP n)).inc (LN.GBX_STATUS_SLIP_CNT n)

/-- The skew between the alignment markers of a line lane's host lanes, in host UI, against the limit of 16 ns (R25). -/
def State.gbxSkew (s : State) (n : Lane) (ui : Nat) : State :=
  let t := s.set (LN.GBX_STATUS_SKEW n) (min ui 0xFFFF)
  if 1700 < ui then (t.on (LN.GBX_STATUS_SKEW_ERR n)).alarm 0x02 n (min ui 0xFFFF)
  else t.alarmEnd 0x02 n

/-- The measured skew is within R25. -/
def State.skewOk (s : State) (n : Lane) : Bool := s.get (LN.GBX_STATUS_SKEW n) ≤ 1700

/-! ## Gain (R35 to R39) -/

/-- TARGET in force: values outside 0x10 to 0x60 act as the nearer bound (Table 02-3). -/
def State.agcTarget (s : State) (n : Lane) : Nat := clampN 0x10 0x60 (s.get (LN.AGC_CFG_TARGET n))

/-- The beats over which the inverse digital gain of a gain step from code `g` to code `h` releases, negative where it lies
below unity: 238 for one code, 482 for two down (R37). -/
def compOf (g h : Nat) : Int :=
  if g = h + 1 then 238 else if g = h + 2 then 482 else if h = g + 1 then -238 else 0

/-- The excess of the digital gain over unity with `comp` beats of its release left, in 1/(8128·238), 8,128 being full scale
in 1/64 LSB (R37): a step down lies 238 or 482 of these LSB above unity; a step up starts at 10^(-1/80), 231 of them below,
and each of its 238 beats moves 231/238 of one. -/
def compGain (comp : Int) : Int := if comp < 0 then 231 * comp else 238 * comp

/-- A gain step to code `g` takes effect: the inverse digital gain is applied at once, and starts to release (R37). A
calibration window in progress is not qualified any more (R135). -/
def State.gainStep (s : State) (n : Lane) (g : Nat) : State :=
  let h := s.get (LN.AGC_STATUS_GAIN n)
  if h = g then s
  else (((s.set (LN.AGC_STATUS_GAIN n) g).on (LN.AGC_STATUS_COMP_ACTIVE n)).setRx n (fun r =>
    { r with comp := compOf h g, stepFrom := some h })).setCal n (fun c => { c with winDirty := true })

/-- A gain step to code `g` is made. Where a handover has taken effect at the same beat boundary, the step waits for the next
one (R46). -/
def State.gainTo (s : State) (n : Lane) (g : Nat) : State :=
  if s.get (LN.AGC_STATUS_GAIN n) = g then s
  else if (s.ln n).rx.handNow then s.setRx n (fun r => { r with gainWait := some g })
  else s.gainStep n g

/-- A handover takes effect at this beat boundary. It prevails over a gain step that falls on the same boundary: the step is
taken back, and made at the next one (R46). -/
def State.handMark (s : State) (n : Lane) : State :=
  match (s.ln n).rx.stepFrom with
  | none => s.setRx n (fun r => { r with handNow := true })
  | some h =>
    let g := s.get (LN.AGC_STATUS_GAIN n)
    ((s.set (LN.AGC_STATUS_GAIN n) h).off (LN.AGC_STATUS_COMP_ACTIVE n)).setRx n (fun r =>
      { r with handNow := true, stepFrom := none, gainWait := some g, comp := 0 })

/-- The boundary after a beat: a gain step that a handover put off is made (R46). -/
def State.gainBeat (s : State) (n : Lane) : State :=
  let t := s.setRx n (fun r => { r with handNow := false, stepFrom := none, gainWait := none })
  match (s.ln n).rx.gainWait with
  | none => t
  | some g => t.gainStep n g

/-- The digital gain moves toward unity, by at most 1/64 LSB at full scale, at a beat boundary (R37). -/
def State.compBeat (s : State) (n : Lane) : State := s.setRx n (fun r => { r with comp := stepToward 1 r.comp 0 })

/-- The release ends once the digital gain has returned to unity (R37). -/
def State.compEnd (s : State) (n : Lane) : State :=
  if (s.ln n).rx.comp = 0 then s.off (LN.AGC_STATUS_COMP_ACTIVE n) else s

/-- The gain code an AGC step would give: AUTO by the 6 % band around TARGET, MANUAL one code toward AGC_SET, HOLD none
(R36). The mean is `sum / cnt`, saturated samples left out; where every sample is saturated there is no mean. DESIGN CHOICE
(log 186): R36 says that the gain follows AGC_SET in MANUAL and gives it no pace of its own, so it moves one code at each
step that R38 admits. -/
def State.agcNext (s : State) (n : Lane) (sum cnt : Nat) : Nat :=
  let g := s.get (LN.AGC_STATUS_GAIN n)
  match s.get (LN.AFE_CTRL_AGC_MODE n) with
  | 0 =>
    if cnt = 0 then g
    else if 106 * s.agcTarget n * cnt < 100 * sum then g - 1
    else if 100 * sum < 94 * s.agcTarget n * cnt ∧ g < 72 ∧ (s.ln n).rx.holdoff = false then g + 1
    else g
  | 1 => (stepToward 1 g (s.get (LN.AFE_CTRL_AGC_SET n))).toNat
  | _ => g

/-- A gain step may start: no compensation release is in progress, and no step waits for its boundary (R37, R46). -/
def State.stepFree (s : State) (n : Lane) : Bool :=
  !s.flag (LN.AGC_STATUS_COMP_ACTIVE n) && (s.ln n).rx.gainWait.isNone

/-- The AGC may make a step: no loss of signal (R36), no compensation release or backoff outstanding (R37, R38), no
gross-overload recovery (R51). -/
def State.agcFree (s : State) (n : Lane) : Bool :=
  !s.flag (LN.RX_STATUS_LOS_NOW n) && s.stepFree n && !s.flag (LN.RX_STATUS_DCR_BUSY n) && !(s.ln n).rx.backoffPend

/-- The block mean `sum / cnt`, multiplied by 10^((72 - g)/80), is below `level` (R40), as whole numbers: both sides are
raised to the 80th power. -/
def referredBelow (sum cnt g level : Nat) : Bool := sum ^ 80 * 10 ^ (72 - g) < (level * cnt) ^ 80

/-- Loss of signal is judged on one block (R40). DESIGN CHOICE (log 134): a block with no unsaturated sample has no mean,
and leaves LOS_NOW and LOS as they are. -/
def State.losJudge (s : State) (n : Lane) (sum cnt : Nat) : State :=
  let g := s.get (LN.AGC_STATUS_GAIN n)
  let lvl := s.get (LN.AGC_CFG_LOS_LEVEL n)
  if cnt = 0 then s
  else if s.flag (LN.AFE_CTRL_LOS_EN n) && referredBelow sum cnt g lvl then
    let t := (s.on (LN.RX_STATUS_LOS_NOW n)).on (LN.RX_STATUS_LOS n)
    if s.flag (LN.RX_STATUS_LOS_NOW n) then t else t.alarm 0x01 n 0
  else if s.flag (LN.RX_STATUS_LOS_NOW n) && !referredBelow sum cnt g (lvl + 4) then
    (s.off (LN.RX_STATUS_LOS_NOW n)).alarmEnd 0x01 n
  else s

/-- The count of a window has been reached (R39): OVR_RATE, and in AUTO with OVR_BACKOFF_EN a backoff that waits for the
release of any previous step. -/
def State.rateExceeded (s : State) (n : Lane) : State :=
  let t := s.on (LN.RX_STATUS_OVR_RATE n)
  if s.get (LN.AFE_CTRL_AGC_MODE n) = 0 ∧ s.flag (LN.AFE_CTRL_OVR_BACKOFF_EN n) then
    t.setRx n (fun r => { r with backoffPend := true })
  else t

/-- A backoff that waits is dropped once AGC_MODE is AUTO no more (R36, R39). -/
def State.backoffDrop (s : State) (n : Lane) : State :=
  if s.get (LN.AFE_CTRL_AGC_MODE n) = 0 then s else s.setRx n (fun r => { r with backoffPend := false })

/-- The backoff itself (R39): two codes down, or to the floor from below code 2; counted; a new window and the hold-off
start. -/
def State.backoff (s : State) (n : Lane) : State :=
  let g := s.get (LN.AGC_STATUS_GAIN n)
  let t := (s.gainTo n (g - 2)).inc (LN.AGC_STATUS_BACKOFF_CNT n)
  let u := if g < 2 then t.on (LN.AGC_STATUS_AT_FLOOR n) else t
  u.setRx n (fun r => { r with backoffPend := false, winCnt := 0, stepAge := 0,
                               holdoff := 0 < s.get (LN.AGC_CFG_HOLDOFF n) || r.holdoff })

/-! ## Over-range (R48 to R52) -/

/-- The state word of a slice (Table 02-9): 0 SERVING, 1 SHADOW, 2 REFERENCE, 3 IDLE, 4 SUSPECT, 5 OFF. -/
def State.slice (s : State) (n : Lane) (i : Nat) : Nat := s.get (SLC.W0_STATE n i)

/-- A saturated sample of a slice (R48): a serving slice counts for the lane as well, and its window of R39 is judged
when the count reaches 227; a slice in SHADOW counts only for itself. -/
def State.saturated (s : State) (n : Lane) (i : Nat) : State :=
  if s.slice n i = 0 then
    let t := ((s.inc (SLC.W5_SLC_OVR_CNT n i)).inc (LN.RX_OVR_CNT_OVR_CNT n)).on (LN.RX_STATUS_OVR n)
    let u := (t.countEvent 0x043 n 1).setRx n (fun r => { r with winCnt := r.winCnt + 1 })
    if (u.ln n).rx.winCnt = 227 then u.rateExceeded n else u
  else if s.slice n i = 1 then s.inc (SLC.W5_SLC_OVR_CNT n i)
  else s

/-! ## The correction stage (R42, R43) -/

/-- The correction of a slice for quantity 0 gain, 1 offset, 2 skew, 3 bandwidth. -/
def sliceField (n : Lane) (i q : Nat) : Field :=
  match q with | 0 => SLC.W1_GAIN n i | 1 => SLC.W2_OFFSET n i | 2 => SLC.W3_SKEW n i | _ => SLC.W4_BW n i

/-- A correction as a number: gain is unsigned (Table 02-9). -/
def State.sliceGet (s : State) (n : Lane) (i q : Nat) : Int :=
  if q = 0 then (s.get (sliceField n i q) : Nat) else s.geti (sliceField n i q)

/-- The correction in force, in 1/64 of the slice file's unit: the applied value while it moves (R137). -/
def State.inForce (s : State) (n : Lane) (i q : Nat) : Int :=
  match assocFind (s.ln n).cal.applied i with
  | some v => v.getD q 0
  | none => 64 * s.sliceGet n i q

/-- The slice that serves position `p` of a beat (R42, R44): SP where it serves there, else the home slice. -/
def State.servingAt (s : State) (n : Lane) (p : Nat) : Nat :=
  if s.slice n 64 = 0 ∧ s.get (SLC.W0_POSITION n 64) = p then 64 else p

/-- A raw conversion with the corrections of its slice, exact, in units of 2^-20 LSB: times the gain, plus the offset, plus
the free contribution of skew and bandwidth (R43). -/
def State.corrected (s : State) (n : Lane) (i : Nat) (raw : Int) : Int :=
  raw * s.inForce n i 0 + 256 * s.inForce n i 1 +
    (if s.inForce n i 2 = 0 ∧ s.inForce n i 3 = 0 then 0
     else Config.skewBw (s.inForce n i 2) (s.inForce n i 3) raw s.fresh)

/-- The code of a raw conversion before the clamp: corrected, times the digital gain of R37, rounded half to even. -/
def State.codeOf (s : State) (n : Lane) (i : Nat) (raw : Int) : Int :=
  roundDiv (s.corrected n i raw * (8128 * 238 + compGain (s.ln n).rx.comp)) (2 ^ 20 * (8128 * 238))

/-- A conversion saturates: it is at an end code, or its corrected value clamps (R48). -/
def State.saturates (s : State) (n : Lane) (i : Nat) (raw : Int) : Bool :=
  raw == -128 || raw == 127 || 127 < (s.codeOf n i raw).natAbs

/-- What the correction stage emits for a conversion (R43, R48). -/
def State.convert (s : State) (n : Lane) (i : Nat) (raw : Int) : Sample :=
  if s.saturates n i raw then
    { code := if raw = -128 then -127 else if raw = 127 ∨ 0 < s.codeOf n i raw then 127 else -127, sat := true, slice := i }
  else { code := s.codeOf n i raw, sat := false, slice := i }

/-- A served sample enters the AGC's block: its |code| unless it is saturated. After 4,096 beats the block is complete, and
its sums stand for AGC_BLOCK while the next block begins (R36). -/
def RxSt.blockTake (r : RxSt) (x : Sample) : RxSt :=
  let sum := if x.sat then r.absSum else r.absSum + x.code.natAbs
  let cnt := if x.sat then r.absCnt else r.absCnt + 1
  let q := { r with stepAge := min 262144 (r.stepAge + 1) }
  if r.blkCnt + 1 < 262144 then { q with absSum := sum, absCnt := cnt, blkCnt := r.blkCnt + 1 }
  else { q with absSum := 0, absCnt := 0, blkCnt := 0, block := some (sum, cnt) }

/-- One conversion of a slice: counted where it saturates; a serving slice's code is emitted, a shadowing one's is not
used (R43, R44, R48). -/
def State.takeSample (s : State) (n : Lane) (i : Nat) (raw : Int) : State :=
  let t := (if s.saturates n i raw then s.saturated n i else s).drew
  if s.slice n i = 0 then
    t.setRx n (fun r => { r.blockTake (s.convert n i raw) with
      hist := (s.convert n i raw :: r.hist).take 1024, pos := (r.pos + 1) % 64 })
  else t

/-- Conversions of the serving slices, in the order of their positions (R42). -/
def State.takeRaw (s : State) (n : Lane) (raws : List (BitVec 8)) : State :=
  s.each raws (fun x t => t.takeSample n (t.servingAt n (t.ln n).rx.pos) x.toInt)

/-- One conversion by itself: that of a serving slice is the one at its position, which no other slice samples (R42). -/
def State.takeAlone (s : State) (n : Lane) (i : Nat) (raw : Int) : State :=
  if s.slice n i = 0 ∧ s.servingAt n (s.ln n).rx.pos ≠ i then s else s.takeSample n i raw

/-! ## The average-current tap (R53, R54) -/

/-- The tap runs: KTAP_EN = 1 on a lane that is Active or in Nap (R54). -/
def State.tapRuns (s : State) (n : Lane) : Bool := (s.ln n).power != .off && s.flag (LN.AFE_CTRL_KTAP_EN n)

/-- A tap code: one that stands at an end of its range has clamped; every 4,096 codes their mean is published (R53). DESIGN
CHOICE (log 187): the mean is rounded half to even. -/
def State.tapCode (s : State) (n : Lane) (x : BitVec 12) : State :=
  let t := s.setIf (x.toInt == 2047 || x.toInt == -2048) (LN.RX_STATUS_KTAP_OVR n) 1
  let sum := (s.ln n).rx.tapSum + x.toInt
  if (s.ln n).rx.tapCnt + 1 < 4096 then t.setRx n (fun r => { r with tapSum := sum, tapCnt := r.tapCnt + 1 })
  else ((t.seti (LN.KTAP_AVG_AVG n) (roundDiv sum 4096)).on (LN.KTAP_AVG_VALID n)).setRx n (fun r =>
    { r with tapSum := 0, tapCnt := 0 })

/-- The tap stops: no mean counts as taken since its last start (Table 02-8). -/
def State.tapStop (s : State) (n : Lane) : State :=
  (s.off (LN.KTAP_AVG_VALID n)).setRx n (fun r => { r with tapSum := 0, tapCnt := 0 })

/-- LNn_RX_CMD.CNT_CLR: the over-range, gross and backoff counters, every SLC_OVR_CNT and the equaliser counters of the
lane (Table 02-7, Table 03-10). -/
def State.rxCntClr (s : State) (n : Lane) : State :=
  let t := ((((s.off (LN.RX_OVR_CNT_OVR_CNT n)).off (LN.RX_GROSS_CNT_GROSS_CNT n)).off (LN.AGC_STATUS_BACKOFF_CNT n)).off
    (LN.EQ_CNT_GUARD_CNT n)).off (LN.EQ_CNT_BOOST_CNT n)
  t.each (List.range 65) (fun i u => u.off (SLC.W5_SLC_OVR_CNT n i))

/-! ## Front-end peaking (R41) -/

/-- The front-end peaking takes effect at once outside TRAIN, LOCKED, TRAFFIC, and ONE_WAY, whose receive side runs as in
TRAFFIC (R198); there it is stored (R41). -/
def State.peakWritten (s : State) (n : Lane) : State :=
  if carries (s.lstate n) then s else s.setRx n (fun r => { r with peak := s.get (AFE.AFE_PEAK_PEAK n) })

end Sys2Proof.Machine
end

