-- ==== Sys2Proof/Machine/KiteOps.lean ====
section
/-!
DEFINITION. The kite line (chapter 9): spreading and the spectral mask, packet fields, transmissions on their two paths
and their aborts, and the receiver.
-/

namespace Sys2Proof.Machine

open Sys2Proof

/-! ## The waveform (R206 to R208) -/

/-- The spreading sequence, chip 0 in the most significant bit (R206). -/
def kiteSpread : Nat := 0xB38E2A5D

/-- `w` bits of a number, most significant first. -/
def msbBits (w v : Nat) : List Bool := (List.range w).map (fun k => bit v (w - 1 - k))

/-- The 64 samples of a symbol in units of 1/16: two samples per chip, inverted for a bit of 1, at ramp value `r`/16. -/
def symbolSamples (b : Bool) (r : Nat) : List Int :=
  (msbBits 32 kiteSpread).flatMap (fun c => let v : Int := if c != b then r else -(r : Int); [v, v])

/-- The symbols of a transmission with their ramp values: the preamble ramps up over 16 symbols, the tail of 16 symbols
ramps down (R208). -/
def ramped (body : List Bool) : List (Bool × Nat) :=
  (body.zip (List.range body.length)).map (fun p => (p.1, min 16 (p.2 + 1))) ++
    (List.range 16).map (fun k => (false, 15 - k))

/-- The CRC-8 of a header's bits 31 to 8 (R213). -/
def crc8 (bs : List Bool) : Nat :=
  bs.foldl (fun r b => if bit r 7 != b then ((2 * r) % 256) ^^^ 0x07 else (2 * r) % 256) 0xFF

/-- A header word (Table 09-2). -/
def kiteHeader (type len seq lane stack : Nat) : Nat :=
  let h := 0x40000000 + type % 16 * 2 ^ 26 + len % 512 * 2 ^ 17 + seq % 16 * 2 ^ 13 + lane % 8 * 2 ^ 10 + stack % 4 * 2 ^ 8
  h + crc8 (msbBits 24 (h / 256))

/-- The fields of a header word. -/
def hdrType (h : Nat) : Nat := bits h 26 4
def hdrLen (h : Nat) : Nat := bits h 17 9
def hdrSeq (h : Nat) : Nat := bits h 13 4
def hdrLane (h : Nat) : Nat := bits h 10 3
def hdrStack (h : Nat) : Nat := bits h 8 2

/-- A header passes (R213): its CRC-8, VER 0b01 and LEN of at most 256. -/
def hdrOk (h : Nat) : Bool :=
  crc8 (msbBits 24 (h / 256)) == h % 256 && bits h 30 2 == 1 && hdrLen h ≤ 256

/-- The symbol bits of a packet up to its payload CRC (Table 09-1). -/
def packetBits (hdr : Nat) (payload : List Nat) : List Bool :=
  msbBits 32 0x5A93C2F1 ++ msbBits 16 0x1F35 ++ msbBits 32 hdr ++ payload.flatMap (msbBits 8) ++ msbBits 32 (crc32 payload)

/-- The symbol bits of a wake transmission (R218). -/
def wakeBits : List Bool := (List.range 64).flatMap (fun _ => msbBits 32 0xA56C3D0E)

/-- One sample through the mask: the window of the last 31 inputs, newest first; the sum in units of 2^-15. -/
def maskSum (h window : List Int) : Int := (h.zip window).foldl (fun a p => a + p.1 * p.2) 0

/-- The sums of a run of input samples, the mask empty at its start. -/
def maskRun (h : List Int) (window : List Int) (qs : List Int) : List Int :=
  match qs with
  | [] => []
  | q :: t => maskSum h ((q :: window).take 31) :: maskRun h ((q :: window).take 31) t

/-- The 31 coefficients of a stored half (R207). -/
def maskFull (half : List Int) : List Int := half.take 16 ++ (half.take 15).reverse

/-- The waveform held within -1 and +1 (R207). -/
def kiteClamp (w : Int) : Int := clamp (-32768) 32768 w

/-- DEPTH in force: values outside 0x05 to 0x3C act as the nearer bound (Table 09-7). -/
def State.kiteDepth (s : State) (n : Lane) : Nat := clampN 0x05 0x3C (s.get (KL.CFG_DEPTH n))

/-- The injection of a sample (R210). -/
def kiteInjection (scale : Nat) (w : Int) : Int := roundDiv (kiteClamp w * scale) 32768

/-! ## State -/

/-- A kite line's state outside its registers. -/
def State.kl (s : State) (n : Lane) : KiteSt := s.kite.get n

/-- Change a kite line's state. -/
def State.setKl (s : State) (n : Lane) (f : KiteSt → KiteSt) : State := { s with kite := vset s.kite n (f (s.kl n)) }

/-- The symbols of a transmission. -/
def State.kiteSymbols (s : State) (n : Lane) (t : KiteTx) : List (Bool × Nat) :=
  match t with
  | .wake => ramped wakeBits
  | .packet type seq payload =>
    ramped (packetBits (kiteHeader type payload.length seq n (s.get TTH.STATUS_ID)) payload)

/-- The mask inputs of a transmission (R207). -/
def State.kiteInputs (s : State) (n : Lane) (t : KiteTx) : List Int :=
  (s.kiteSymbols n t).flatMap (fun p => symbolSamples p.1 p.2)

/-- The laser bias of a lane is away from its clear code. -/
def State.biasLit (s : State) (n : Lane) : Bool := s.get (BDA.OUT_OUT n.val) != s.get (BDA.CLR_CLR_CODE n.val)

/-- A lane's laser bias channel, the channel of its number (Table 10-1), takes injection: not while it is forced or stands at
its clear code (R236), nor in the brace (R232). -/
def State.injOpen (s : State) (n : Lane) : Bool := !s.forced n.val && s.biasLit n && !s.braced

/-- The injection in force for a sample `inj`: clipped so that the code with it stays within the channel's limits (R236). -/
def State.injection (s : State) (n : Lane) (inj : Int) : Int :=
  let x : Int := s.get (BDA.OUT_OUT n.val)
  if s.injOpen n then clamp (s.get (BDA.LIM_LO n.val) : Nat) (s.get (BDA.LIM_HI n.val) : Nat) (x + inj) - x else 0

/-- A sample of the waveform is clipped as it is injected (R210, R236). -/
def State.injClips (s : State) (n : Lane) (w : Int) : Bool :=
  let inj := kiteInjection (s.get (KL.CFG2_INJ_SCALE n)) w
  s.injOpen n && s.injection n inj != inj

/-- Samples of the waveform are sent: a clamp of the mask or of the injection is flagged (R207, R236). -/
def State.kiteSent (s : State) (n : Lane) (ws : List Int) : State :=
  let a := s.setIf (ws.any (fun w => w != kiteClamp w)) (KL.STATUS_MASK_CLIP n) 1
  a.setIf (s.flag (KL.STATUS_TX_PATH n) && ws.any (s.injClips n)) (BDA.CHSTATUS_INJ_CLIP n.val) 1

/-- The mask's outputs for a run of inputs after those already in it. -/
def State.kiteOut (s : State) (n : Lane) (before qs : List Int) : List Int := maskRun (maskFull (s.kl n).mask) before qs

/-- The injection into a laser bias channel now, in codes: that of the sample which a transmission on the injection path sends
next (R210, R236). -/
def State.injNow (s : State) (n : Lane) : Int :=
  match (s.kl n).tx with
  | none => 0
  | some t =>
    let k := (s.kl n).done
    let qs := s.kiteInputs n t
    if s.flag (KL.STATUS_TX_PATH n) then
      s.injection n (kiteInjection (s.get (KL.CFG2_INJ_SCALE n)) ((s.kiteOut n ((qs.take k).reverse.take 30)
        ((qs.drop k).take 1)).headD 0))
    else 0

/-- Time passes in a transmission before something that bears on it changes: the samples sent until now are judged as
things stand. How many they are no command says: a free value. -/
def State.kitePass (s : State) (n : Lane) : State :=
  match (s.kl n).tx with
  | none => s
  | some t =>
    let k := (s.kl n).done
    let qs := s.kiteInputs n t
    let m := s.drawn 11 24 % (qs.length - k + 1)
    ((s.kiteSent n (s.kiteOut n ((qs.take k).reverse.take 30) ((qs.drop k).take m))).setKl n (fun x =>
      { x with done := k + m, phase := 0 })).drew

/-- A transmission ends, or is cut off where it stands: its inputs are 0 from then on, and the mask empties (R207, R211). -/
def State.kiteStop (s : State) (n : Lane) (t : KiteTx) (whole : Bool) : State :=
  let k := (s.kl n).done
  let qs := s.kiteInputs n t
  let sent := if whole then qs else qs.take k
  (s.kiteSent n (s.kiteOut n ((qs.take k).reverse.take 30) (sent.drop k ++ List.replicate 30 0))).setKl n (fun x =>
    { x with tx := none, done := 0, phase := 0, fade := sent.reverse.take 30 })

/-! ## Transmissions (R210, R211, R223) -/

/-- SEND and WAKE_SEND are written: the USER packet of TX_BUF, or the wake pattern, is asked for (R218, R225). The request
outlives a Nap, which clears the bit (R224, Table 16-2). -/
def State.userSendAsk (s : State) (n : Lane) : State := (s.on (KL.CMD_SEND n)).setKl n (fun k => { k with userAsk := true })
def State.wakeSendAsk (s : State) (n : Lane) : State := (s.on (KL.CMD_WAKE_SEND n)).setKl n (fun k => { k with wakeAsk := true })

/-- SEND and WAKE_SEND clear when what they asked for is sent or aborted. -/
def State.kiteCmdOff (s : State) (n : Lane) (t : KiteTx) : State :=
  match t with
  | .wake => (s.off (KL.CMD_WAKE_SEND n)).setKl n (fun k => { k with wakeAsk := false })
  | .packet type _ _ => if type = 8 then (s.off (KL.CMD_SEND n)).setKl n (fun k => { k with userAsk := false }) else s

/-- The transmission is over. -/
def State.kiteIdle (s : State) (n : Lane) (t : KiteTx) : State :=
  (s.off (KL.STATUS_TX_BUSY n)).kiteCmdOff n t

/-- A transmission in progress is aborted (R211). -/
def State.kiteAbort (s : State) (n : Lane) : State :=
  match (s.kl n).tx with
  | none => s
  | some t =>
    ((((s.kitePass n).kiteStop n t false).on (KL.STATUS_TX_ABORT n)).inc (KL.CNT2_TX_ABORT_CNT n)).kiteIdle n t

/-- AMP_STATE leaves ON: the DAC path ceases (R210). -/
def State.kiteDacGone (s : State) (n : Lane) : State := if s.flag (KL.STATUS_TX_PATH n) then s else s.kiteAbort n

/-- The laser bias channel of a lane is forced to its clear code: the injection path ceases (R210). -/
def State.kiteInjGone (s : State) (n : Lane) : State := if s.flag (KL.STATUS_TX_PATH n) then s.kiteAbort n else s

/-- Reception ends. -/
def State.kiteRxOff (s : State) (n : Lane) : State := (s.off (KL.STATUS_RX_LOCK n)).setKl n (fun k => { k with rx := none })

/-- The lane goes Off: both directions end. -/
def State.kiteOff (s : State) (n : Lane) : State := (s.kiteAbort n).kiteRxOff n

/-- The path open to a transmission now: 0 DAC, 1 injection (R210). -/
def State.kitePath (s : State) (n : Lane) : Option Nat :=
  if (s.ln n).power = .active ∧ s.get (LN.TX_STATUS_AMP_STATE n) = 2 then some 0
  else if ((s.ln n).power = .nap ∨ ((s.ln n).power = .active ∧ s.get (LN.TX_STATUS_AMP_STATE n) = 0)) ∧ s.biasLit n = true then
    some 1
  else none

/-- The priority of a packet type (R223). -/
def kitePriority (type : Nat) : Nat :=
  match type with | 7 => 2 | 5 => 3 | 6 => 3 | 2 => 4 | 4 => 4 | 1 => 5 | 3 => 5 | 0 => 6 | _ => 7

/-- The packet that waits longest in the first priority that has one. -/
def kiteFirst (q : List KiteMsg) : Option KiteMsg :=
  (List.range 8).findSome? (fun p => q.find? (fun m => kitePriority m.type == p))

/-- The payload of the USER packet in TX_BUF (R225). -/
def State.userPayload (s : State) (n : Lane) : List Nat :=
  ((List.range 64).flatMap (fun i => beBytes 4 (s.get (KL.TX_BUF_W n i)))).take (s.get (KL.TX_HDR_LEN n))

/-- A transmission begins on a path with the mask stored now (R207, R210). -/
def State.kiteBegin (s : State) (n : Lane) (path : Nat) (t : KiteTx) : State :=
  let half := (List.range 16).map (fun j => s.geti (KL.MASK_H n j))
  ((s.on (KL.STATUS_TX_BUSY n)).set (KL.STATUS_TX_PATH n) path).setKl n (fun k =>
    { k with tx := some t, done := 0, phase := 0, fade := [], mask := half })

/-- A packet begins under its SEQ: a repeat keeps its own, any other takes the counter's (R213, R222). A request of
resident firmware remembers it. -/
def State.kitePacket (s : State) (n : Lane) (path : Nat) (m : KiteMsg) : State :=
  let seq := m.seq.getD (s.kl n).txSeq
  let t := s.setKl n (fun k =>
    { k with txSeq := if m.seq.isSome then k.txSeq else (k.txSeq + 1) % 16
             queue := k.queue.erase m
             asks := k.asks.map (fun a => if a.type = m.type ∧ a.seq = none then { a with seq := some seq } else a) })
  t.kiteBegin n path (.packet m.type seq m.payload)

/-- A quiesce request stands for the lane, which is not in Nap yet: a transmission waits for the Nap (R224). -/
def State.quiesceAsked (s : State) (n : Lane) : Bool :=
  (s.ln n).power == .active && s.pwr.sleeps.any (fun q => (q.asked || q.granted) &&
    (match q.kind with | .nap k => s.portOf n == some k | _ => true))

/-- The next transmission starts (R210, R223): none is in progress, TX_EN = 1, no brace, no quiesce request, and a path is
open. -/
def State.kiteStart (s : State) (n : Lane) : State :=
  if (s.kl n).tx.isSome || !s.flag (KL.CTRL_TX_EN n) || s.braced || s.quiesceAsked n then s
  else
    match s.kitePath n with
    | none => s
    | some p =>
      if (s.kl n).wakeAsk then s.kiteBegin n p .wake
      else
        match kiteFirst (s.kl n).queue with
        | some m => s.kitePacket n p m
        | none => if (s.kl n).userAsk then s.kitePacket n p ⟨8, s.userPayload n, none⟩ else s

/-- A transmission ends with its tail. -/
def State.kiteEnd (s : State) (n : Lane) : State :=
  match (s.kl n).tx with
  | none => s
  | some t => ((s.kiteStop n t true).inc (KL.CNT2_TX_CNT n)).kiteIdle n t

/-- Resident firmware queues a packet; a PROBE replaces one that waits (R223). -/
def State.kiteQueue (s : State) (n : Lane) (type : Nat) (payload : List Nat) (seq : Option Nat) : State :=
  s.setKl n (fun k =>
    { k with queue := (if type = 0 then k.queue.filter (fun m => m.type != 0) else k.queue) ++ [⟨type, payload, seq⟩] })

/-- Resident firmware sends a request and awaits its answer (R222); one of the same type that waits is given up. -/
def State.kiteRequest (s : State) (n : Lane) (type : Nat) (payload : List Nat) : State :=
  (s.setKl n (fun k =>
    { k with asks := k.asks.filter (·.type != type) ++ [⟨type, payload, none, 0⟩]
             queue := k.queue.filter (·.type != type) })).kiteQueue n type payload none

/-- The outstanding request of a type. -/
def State.kiteAsk (s : State) (n : Lane) (type : Nat) : Option KiteAsk := (s.kl n).asks.find? (·.type == type)

/-- A request is outstanding no more, and no repeat of it waits. -/
def State.kiteAskOver (s : State) (n : Lane) (type : Nat) : State :=
  s.setKl n (fun k => { k with asks := k.asks.filter (·.type != type), queue := k.queue.filter (·.type != type) })

/-- PROBE_INT in microseconds; it is in units of 10 ms. -/
def State.probeUs (s : State) (n : Lane) : Nat := 10 * msUs 1 (s.get (KL.CFG2_PROBE_INT n))

/-- An unanswered request is repeated under its SEQ, at most 3 times (R222). -/
def State.kiteRepeat (s : State) (n : Lane) (type : Nat) : State :=
  match s.kiteAsk n type with
  | none => s
  | some a =>
    if 3 ≤ a.tries then s.kiteAskOver n type
    else if (s.kl n).queue.any (·.type == type) then s
    else (s.setKl n (fun k =>
      { k with asks := k.asks.map (fun x => if x.type = type then { x with tries := x.tries + 1 } else x) })).kiteQueue n
        type a.payload a.seq

/-! ## Reception (R214 to R216) -/

/-- The receiver of a lane runs: the tap runs and RX_EN = 1 (R54, R214). -/
def State.kiteListens (s : State) (n : Lane) : Bool :=
  s.tapRuns n && s.flag (KL.CTRL_RX_EN n)

/-- The despread value of a symbol from the deviations of the tap signal over its chips, in 1/16 tap LSB: 512 times their
mean product with the chip values (R214). -/
def despread (chips : List Int) : Int :=
  (chips.zip (msbBits 32 kiteSpread)).foldl (fun x p => if p.2 then x + p.1 else x - p.1) 0

/-- The value of a symbol: +1 for bit 0, -1 for bit 1 (R206). -/
def symbolSign (b : Bool) : Int := if b then -1 else 1

/-- The equalised value of a symbol of despread value `d`, in 2^-19 tap LSB (R214). DESIGN CHOICE (log 149): a feedback
coefficient weighs a symbol of 1 tap LSB. -/
def equalise (k : KiteSt) (d : Int) : Int :=
  (((k.dfe.take 8).zip (d :: k.line)).foldl (fun x p => x + p.1 * p.2) 0) -
    ((k.dfe.drop 8).zip k.decs).foldl (fun x p => x + p.1 * 512 * symbolSign p.2) 0

/-- The equaliser after a symbol that is bit `b`: every coefficient has moved by a step or not, by the signs of the error and
of what it weighs (R214). The spec gives the error no reference: its sign is free. -/
def equaliserStep (k : KiteSt) (d err : Int) (b : Bool) : KiteSt :=
  let f := ((k.dfe.take 8).zip ((d :: k.line) ++ List.replicate 8 0)).map (fun p => p.1 - err * sgn p.2)
  let g := ((k.dfe.drop 8).zip (k.decs.map symbolSign ++ List.replicate 3 0)).map (fun p => p.1 + err * p.2)
  { k with dfe := f ++ g, line := (d :: k.line).take 7, decs := (b :: k.decs).take 3 }

/-- The receiver takes symbols: each is equalised, and trains the equaliser as the bit it is known to be, or else as the one
decided. Their equalised values, oldest first. -/
def State.kiteHear (s : State) (n : Lane) (syms : List (List Int × Option Bool)) : State × List Int :=
  syms.foldl (fun a p =>
    let d := despread p.1
    let y := equalise (a.1.kl n) d
    let err : Int := (a.1.drawn 21 2 % 3 : Nat) - 1
    ((a.1.setKl n (fun k => equaliserStep k d err (p.2.getD (y < 0)))).drew, a.2 ++ [y])) (s, [])

/-- Symbols that the hunt passes: they fill the equaliser's line. -/
def State.kiteLead (s : State) (n : Lane) (syms : List (List Int)) : State :=
  s.setKl n (fun k => syms.foldl (fun k c =>
    { k with line := (despread c :: k.line).take 7, decs := (decide (despread c < 0) :: k.decs).take 3 }) k)

/-- The agreement threshold in 2^-19 tap LSB; 0x000 acts as 0x001 (Table 09-4). -/
def State.kiteThresh (s : State) (n : Lane) : Nat := 32768 * max 1 (s.get (KL.CFG_KL_THRESH n))

/-- At least 24 of a window's symbols, at most 32, agree with a pattern from its first bit on (R214, R215). DEDUCED (log 149):
the example of R224 detects a preamble at the end of its 30th symbol, so the window need not be complete. -/
def patternFound (thr pattern : Nat) (ys : List Int) : Bool :=
  ys.length ≤ 32 && 24 ≤ ((ys.zip (msbBits 32 pattern)).filter (fun p => thr ≤ p.1.natAbs && decide (p.1 < 0) == p.2)).length

/-- The strength of a preamble: |d| over the last 8 symbols of its window, as their sum. -/
def strengthOf (ys : List Int) : Nat := (ys.reverse.take 8).foldl (fun a y => a + y.natAbs) 0

/-- A window of symbols heard against a pattern; the first 7 of `syms` stand before it. -/
def State.kiteWindow (s : State) (n : Lane) (pattern : Nat) (syms : List (List Int)) : State × List Int :=
  (s.kiteLead n (syms.take 7)).kiteHear n ((syms.drop 7).zip ((msbBits 32 pattern).map some))

/-- Correlator A locks on a preamble of a strength. -/
def State.kiteLock (s : State) (n : Lane) (strength : Nat) : State :=
  (s.on (KL.STATUS_RX_LOCK n)).setKl n (fun k => { k with rx := some ⟨strength, false, none⟩, dets := k.dets + 1 })

/-- Symbols heard while hunting: a preamble is locked on (R215). -/
def State.kiteDetect (s : State) (n : Lane) (syms : List (List Int)) : State :=
  let w := s.kiteWindow n 0x5A93C2F1 syms
  if s.kiteListens n && (s.kl n).rx.isNone && patternFound (s.kiteThresh n) 0x5A93C2F1 w.2 then w.1.kiteLock n (strengthOf w.2)
  else s

/-- Correlator B detects a preamble of at least twice the strength of the packet in progress (R216). -/
def State.captures (s : State) (n : Lane) (syms : List (List Int)) : Bool :=
  let w := s.kiteWindow n 0x5A93C2F1 syms
  (s.kl n).rx.any (fun r => patternFound (s.kiteThresh n) 0x5A93C2F1 w.2 && decide (2 * r.strength ≤ strengthOf w.2))

/-- Symbols heard by correlator B: a second preamble that captures is switched to (R216). -/
def State.kiteCapture (s : State) (n : Lane) (syms : List (List Int)) : State :=
  let w := s.kiteWindow n 0x5A93C2F1 syms
  if s.captures n syms then (w.1.inc (KL.CNT0_CAPTURE_LOST_CNT n)).kiteLock n (strengthOf w.2) else s

/-- Sixteen decided symbols that differ from the SFD in at most 2 (R215). -/
def isSfd (bs : List Bool) : Bool :=
  bs.length == 16 && ((bs.zip (msbBits 16 0x1F35)).filter (fun p => p.1 != p.2)).length ≤ 2

/-- The SFD stands somewhere among decided symbols. -/
def hasSfd (bs : List Bool) : Bool := (List.range bs.length).any (fun i => isSfd ((bs.drop i).take 16))

/-- The symbols since the detection, at most 40, end with the SFD (R215). They are the rest of the preamble and the SFD. -/
def State.kiteSfd (s : State) (n : Lane) (syms : List (List Int)) : State :=
  match (s.kl n).rx with
  | none => s
  | some r =>
    let known := (msbBits 32 0x5A93C2F1 ++ msbBits 16 0x1F35).drop (48 - syms.length)
    let w := s.kiteHear n (syms.zip (known.map some))
    if !r.sfd && syms.length ≤ 40 && isSfd ((w.2.drop (w.2.length - 16)).map (fun y => decide (y < 0))) then
      w.1.setKl n (fun k => { k with rx := some { r with sfd := true } })
    else s

/-- A false reception ends (R215). -/
def State.kiteFalse (s : State) (n : Lane) : State := (s.inc (KL.CNT0_FALSE_PRE_CNT n)).kiteRxOff n

/-- A false reception ends in the last symbol of `window`: a capture in that symbol prevails (R224). `heard` is the state with
the symbols heard. -/
def State.kiteFalseIn (s : State) (n : Lane) (window : List (List Int)) (heard : State) : State :=
  if s.captures n window then s.kiteCapture n window else heard.kiteFalse n

/-- The symbols since detection number `det`, on which A is locked, are 40, and the SFD is not among them (R215). -/
def State.kiteNoSfd (s : State) (n : Lane) (det : Nat) (syms : List (List Int)) : State :=
  match (s.kl n).rx with
  | none => s
  | some r =>
    let w := s.kiteHear n ((syms.take 40).map (fun c => (c, none)))
    if det = (s.kl n).dets && !r.sfd && decide (40 ≤ syms.length) && !hasSfd (w.2.map (fun y => decide (y < 0))) then
      s.kiteFalseIn n ((syms.take 40).drop 1) w.1
    else s

/-- The symbols of a header or a payload move the equaliser: where to is free, by at most a step a symbol. -/
def State.kiteDrift (s : State) (n : Lane) (m : Nat) : State :=
  (s.setKl n (fun k => { k with dfe := (List.range 11).map (fun i =>
    k.dfe.getD i 0 + ((s.drawn (24 + i) 16 % (2 * m + 1) : Nat) : Int) - m) })).drew

/-- The header word is received (R213, R215); `window` holds the symbols of correlator B's window that end with it. -/
def State.kiteHdr (s : State) (n : Lane) (h : Nat) (window : List (List Int)) : State :=
  match (s.kl n).rx with
  | none => s
  | some r =>
    if !r.sfd || r.hdr.isSome then s
    else if hdrOk h then (s.kiteDrift n 32).setKl n (fun k => { k with rx := some { r with hdr := some h } })
    else s.kiteFalseIn n window (s.kiteDrift n 32)

/-- The header of the packet in reception, if it is of a type and of the length that type fixes. -/
def State.kitePkt (s : State) (n : Lane) (type : Nat) (payload : List Nat) : Option (Nat × Nat) :=
  match (s.kl n).rx with
  | some r =>
    match r.hdr with
    | some h => if hdrType h = type ∧ hdrLen h = payload.length then some (h, r.strength) else none
    | none => none
  | none => none

/-- The payload CRC fails (R215). -/
def State.kiteCrcFail (s : State) (n : Lane) : State :=
  match (s.kl n).rx.bind (·.hdr) with
  | some h => ((s.kiteDrift n (8 * hdrLen h + 32)).inc (KL.CNT1_RX_CRC_CNT n)).kiteRxOff n
  | none => s

/-- STRENGTH of a packet, in 1/16 tap LSB. DESIGN CHOICE (log 149): rounded half to even. -/
def strengthShown (strength : Nat) : Nat := min 0xFFF (roundDiv strength 262144).toNat

/-- A good packet is delivered (R215, R221). -/
def State.kiteDeliver (s : State) (n : Lane) (h strength : Nat) : State :=
  let t := (((s.kiteDrift n (8 * hdrLen h + 32)).inc (KL.CNT1_RX_OK_CNT n)).kiteRxOff n).on (KL.STATUS_PARTNER_SEEN n)
  (((t.set (KL.RX_INFO_STRENGTH n) (strengthShown strength)).set (KL.RX_INFO_TYPE n) (hdrType h)).set (KL.PARTNER_INFO_LANE n)
    (hdrLane h)).set (KL.PARTNER_INFO_STACK n) (hdrStack h)

/-- A good packet of a type acts by `f` on its header; where no such packet is in reception there is no event. -/
def State.kiteGood (s : State) (n : Lane) (type : Nat) (payload : List Nat) (f : Nat → State → State) : State :=
  match s.kitePkt n type payload with
  | some p => f p.1 (s.kiteDeliver n p.1 p.2)
  | none => s

/-- The LEN each type fixes (Table 09-3). -/
def kiteLen (type : Nat) : Option Nat :=
  match type with
  | 0 => some 8 | 1 => some 0 | 2 => some 16 | 3 => some 0 | 4 => some 16 | 5 => some 4 | 6 => some 4 | 7 => some 4
  | _ => none

/-- A packet of a reserved type or a wrong LEN is discarded after its CRC. -/
def State.kiteBad (s : State) (n : Lane) : State :=
  match (s.kl n).rx.bind (·.hdr) with
  | some h =>
    if 9 ≤ hdrType h ∨ (kiteLen (hdrType h)).any (· != hdrLen h) then
      ((s.kiteDrift n (8 * hdrLen h + 32)).on (KL.STATUS_BAD_TYPE n)).kiteRxOff n else s
  | none => s

/-- A SERIAL packet (R221). -/
def State.kiteSerial (s : State) (n : Lane) (payload : List Nat) : State :=
  let a := beVal (payload.take 4)
  let b := beVal ((payload.drop 4).take 4)
  let same := a == s.get (KL.PARTNER_SN_SN n 0) && b == s.get (KL.PARTNER_SN_SN n 1)
  let t := ((s.set (KL.PARTNER_SN_SN n 0) a).set (KL.PARTNER_SN_SN n 1) b).on (KL.PARTNER_INFO_SN_VALID n)
  if same then t else t.on (KL.STATUS_PARTNER_NEW n)

/-- A USER packet is placed in RX_BUF, or discarded with RX_OVF (R225). -/
def State.kiteUser (s : State) (n : Lane) (h : Nat) (payload : List Nat) : State :=
  if s.flag (KL.STATUS_RX_FULL n) then s.on (KL.STATUS_RX_OVF n)
  else
    let t := s.each (List.range ((payload.length + 3) / 4)) (fun i u =>
      u.set (KL.RX_BUF_W n i) (beVal (padTo 4 (payload.drop (4 * i)))))
    ((((t.set (KL.RX_HDR_LEN n) payload.length).set (KL.RX_HDR_SEQ n) (hdrSeq h)).set (KL.RX_HDR_SRC_LANE n)
      (hdrLane h)).set (KL.RX_HDR_SRC_STACK n) (hdrStack h)).on (KL.STATUS_RX_FULL n)

/-- KLn_CMD.CNT_CLR (R226). -/
def State.kiteCntClr (s : State) (n : Lane) : State :=
  (((((s.off (KL.CNT0_FALSE_PRE_CNT n)).off (KL.CNT0_CAPTURE_LOST_CNT n)).off (KL.CNT1_RX_OK_CNT n)).off
    (KL.CNT1_RX_CRC_CNT n)).off (KL.CNT2_TX_CNT n)).off (KL.CNT2_TX_ABORT_CNT n)

end Sys2Proof.Machine
end

