-- ==== Sys2Proof/Machine/EqOps.lean ====
section
/-!
DEFINITION. The line equaliser (chapter 3): tap layout, adaptation with its freezes, guard and boost windows, host
writes of coefficients, and the hitless mode changes with their ramps and shed checks.
-/

namespace Sys2Proof.Machine

open Sys2Proof

/-! ## Tap layout (R62 to R65) -/

/-- First delay of slot `s`: by its placement; the k-th POST block of the lane covers 24 + 16k on (Table 03-2). -/
def State.slotBase (s : State) (n : Lane) (q : Nat) : Option Int :=
  match s.get (EQC.SLOT_KIND n q) with
  | 0 => some (-24)
  | 1 => some (24 + 16 * ((List.range q).countP (fun r => s.flag (LN.TAP_MAP_VALID n r) && s.get (EQC.SLOT_KIND n r) == 1) : Nat))
  | 2 => some (s.get (EQC.SLOT_START n q) : Nat)
  | _ => none

/-- The delays of the pool taps of a lane, slot by slot. -/
def State.poolBases (s : State) (n : Lane) : List (Nat × Option Int) :=
  ((List.range 5).filter (fun q => s.flag (LN.TAP_MAP_VALID n q))).map (fun q => (q, s.slotBase n q))

/-- Two blocks of 16 taps share a delay. -/
def blocksClash (a b : Int) : Bool := a < b + 16 && b < a + 16

/-- The layout of a lane is valid (R65): at most one PRE block, no shared delay, none beyond +511, no reserved KIND. -/
def State.layoutOk (s : State) (n : Lane) : Bool :=
  let bs := s.poolBases n
  bs.all (fun b => match b.2 with | some d => d + 15 ≤ 511 && !(d + 15 ≥ -8 && d ≤ 23) | none => false) &&
    (bs.filter (fun b => s.get (EQC.SLOT_KIND n b.1) == 0)).length ≤ 1 &&
    bs.all (fun a => bs.all (fun b => a.1 == b.1 || match a.2, b.2 with | some x, some y => !blocksClash x y | _, _ => false))

/-- Tap `t` exists: a base tap, or a tap of a slot that holds a block. -/
def State.tapOn (s : State) (n : Lane) (t : Nat) : Bool := t < 32 || s.flag (LN.TAP_MAP_VALID n ((t - 32) / 16))

/-- The layout is put in force at a rig application: every tap's delay, TAP_COUNT, and TAP_LAYOUT_ERR while it is
invalid (R65, Table 03-10). -/
def State.layoutApply (s : State) (n : Lane) : State :=
  let t := s.each (List.range 112) (fun t u =>
    if t < 32 then u.seti (EQC.FFE_D n t) ((t : Nat) - 8)
    else if u.tapOn n t then
      u.seti (EQC.FFE_D n t) (((u.slotBase n ((t - 32) / 16)).getD 0) + ((t - 32) % 16 : Nat))
    else (u.set (EQC.FFE_D n t) 0).set (EQC.FFE_C n t) 0)
  let u := t.set (LN.EQ_STATUS_TAP_COUNT n) (32 + 16 * (t.poolBases n).length)
  if u.layoutOk n then u else u.on (LN.EQ_EVENTS_TAP_LAYOUT_ERR n)

/-! ## Coefficients and their accumulators (R74) -/

/-- The numbers of the FFE, Volterra and target coefficients: the word numbers of the coefficient file (Table 03-11). -/
def coefVolt (k : Nat) : Nat := 128 + k
def coefH1 : Nat := 192
def coefH2 : Nat := 193

/-- The field that holds a coefficient. -/
def coefField (n : Lane) (c : Nat) : Field :=
  if c < 112 then EQC.FFE_C n c else if c < 192 then EQC.VOLT_W n (c - 128) else if c = 192 then EQC.T1_H1 n else EQC.T2_H2 n

/-- A number that names a coefficient of the lane. -/
def State.coefOn (s : State) (n : Lane) (c : Nat) : Bool :=
  (c < 112 && s.tapOn n c) || (128 ≤ c && c < 148) || c == 192 || c == 193

/-- Accumulator bits below the coefficient: 10 for FFE, 12 for VOLT and TGT (R74). -/
def coefShift (c : Nat) : Nat := if c < 112 then 10 else 12

/-- The bounds of a coefficient: those of its width, and -0.500 to +0.500 for h2 (R70). -/
def coefLo (c : Nat) : Int := if c < 112 then -2048 else if c = 193 then -256 else -512
def coefHi (c : Nat) : Int := if c < 112 then 2047 else if c = 193 then 256 else 511

/-- The accumulator of a coefficient. -/
def State.coefAcc (s : State) (n : Lane) (c : Nat) : Int :=
  s.geti (coefField n c) * (2 ^ coefShift c : Nat) + ((assocFind (s.ln n).eq.accLow c).getD 0 : Nat)

/-- Write an accumulator; one that would pass a bound stays at it, and COEF_LIMIT is set (R70). -/
def State.coefAccSet (s : State) (n : Lane) (c : Nat) (a : Int) : State :=
  let sh : Int := ((2 ^ coefShift c : Nat) : Int)
  let lo := coefLo c * sh
  let hi := if c = 193 then coefHi c * sh else coefHi c * sh + (sh - 1)
  let b := clamp lo hi a
  let t := (s.seti (coefField n c) (b / sh)).setEq n (fun e => { e with accLow := assocPut e.accLow c (b % sh).toNat })
  if b = a then t else t.on (LN.EQ_EVENTS_COEF_LIMIT n)

/-- Write a coefficient itself, within its bounds; one that would pass a bound stays at it, and COEF_LIMIT is set (R70).
DESIGN CHOICE (log 135): the range that R70 gives for adapted values of h2 bounds a written one as well. -/
def State.coefSet (s : State) (n : Lane) (c : Nat) (x : Int) : State :=
  let t := s.seti (coefField n c) (clamp (coefLo c) (coefHi c) x)
  if clamp (coefLo c) (coefHi c) x = x then t else t.on (LN.EQ_EVENTS_COEF_LIMIT n)

/-! ## The equaliser's outputs (R67 to R70) -/

/-- The samples that follow the last symbol of the codeword to be decoded: the 48 of the traceback (R71) and the 24 of the
longest pre-cursor (R64). -/
def look : Nat := 72

/-- The code of the sample `j` before the newest; 0 where none has been taken. -/
def RxSt.code (r : RxSt) (j : Int) : Int := if j < 0 then 0 else (r.hist.getD j.toNat {}).code

/-- The taps of a lane, as coefficient and delay (R62, R64). -/
def State.taps (s : State) (n : Lane) : List (Int × Int) :=
  ((List.range 112).filter (s.tapOn n)).map (fun t => (s.geti (EQC.FFE_C n t), s.geti (EQC.FFE_D n t)))

/-- The equaliser output z for the symbol whose main cursor is the sample `j` before the newest, with that sample's mark
(R49, R67 to R69). -/
def State.zOf (s : State) (n : Lane) (taps : List (Int × Int)) (j : Nat) : ZSym :=
  { z := equalised taps ((List.range 15).map (fun k => s.geti (EQC.VOLT_W n k)))
      ((List.range 5).map (fun k => s.geti (EQC.VOLT_W n (15 + k)))) (s.flag (LN.EQ_STATUS_EFF_VOLT n))
      (fun d => (s.ln n).rx.code (j + d)),
    marked := ((s.ln n).rx.hist.getD j {}).sat }

/-- The equaliser outputs of `k` symbols and the 48 after them, the last of the `k` being the last symbol of the codeword
to be decoded. -/
def State.zRun (s : State) (n : Lane) (k : Nat) : List ZSym :=
  (List.range (k + 48)).map (fun i => s.zOf n (s.taps n) (look + k - 1 - i))

/-- The target weights in force; h2 is held at 0 in the 4-state trellis (R70). -/
def State.h1 (s : State) (n : Lane) : Int := s.geti (EQC.T1_H1 n)
def State.h2 (s : State) (n : Lane) : Int := if s.flag (LN.EQ_STATUS_EFF_16 n) then s.geti (EQC.T2_H2 n) else 0

/-! ## What adapts (R75 to R77) -/

/-- The freeze sources in force, as FREEZE_SRC shows them: bit 0 HOST, 1 DCR, 2 LOC, 3 GUARD (R77). -/
def State.freezeSrc (s : State) (n : Lane) : Nat :=
  (s.flag (LN.EQ_MODE_FREEZE_FFE n) || s.flag (LN.EQ_MODE_FREEZE_VOLT n) || s.flag (LN.EQ_MODE_FREEZE_TGT n)).toNat +
    2 * (s.flag (LN.RX_STATUS_DCR_BUSY n)).toNat + 4 * (decide (0 < (s.ln n).eq.locFreeze)).toNat +
    8 * (s.ln n).eq.guardFreeze.toNat

/-- All groups are frozen by DCR, LOC or GUARD. -/
def State.frozenAll (s : State) (n : Lane) : Bool := 2 ≤ s.freezeSrc n

/-- The group of a coefficient is frozen (R77). -/
def State.coefFrozen (s : State) (n : Lane) (c : Nat) : Bool :=
  s.frozenAll n || (if c < 112 then s.flag (LN.EQ_MODE_FREEZE_FFE n)
    else if c < 192 then s.flag (LN.EQ_MODE_FREEZE_VOLT n) else s.flag (LN.EQ_MODE_FREEZE_TGT n))

/-- ACQUIRE before frame lock: blind constant-modulus adaptation of the FFE (Table 03-4). -/
def State.blind (s : State) (n : Lane) : Bool := s.lstate n == 2 && !s.flag (LN.FRM_STATUS_FRAME_LOCK n)

/-- Adaptation runs in ACQUIRE and later states, not in DOWN, LIGHT or Nap (Table 03-4). -/
def State.adapts (s : State) (n : Lane) : Bool := 2 ≤ s.lstate n && s.lstate n ≤ 6 && decide ((s.ln n).power = .active)

/-- ADAPT_STATE (Table 03-9). -/
def State.adaptState (s : State) (n : Lane) : Nat :=
  if !s.adapts n then 0
  else if s.frozenAll n || (s.flag (LN.EQ_MODE_FREEZE_FFE n) && s.flag (LN.EQ_MODE_FREEZE_VOLT n) && s.flag (LN.EQ_MODE_FREEZE_TGT n))
  then 3
  else if s.blind n then 1 else 2

/-- The step code in effect for a coefficient (R75, R79): raised in a boost window, limited to 0xA in TRAIN, LOCKED and
TRAFFIC, and in ONE_WAY, where the receive side runs as in TRAFFIC (R198); a code of 0 stays 0. DESIGN CHOICE (log 136):
in the other states a code raised beyond 0xC acts as 0xC, the last code with a step. -/
def State.stepCode (s : State) (n : Lane) (c : Nat) : Nat :=
  let base := if c < 112 then (if s.blind n then s.get (LN.EQ_STEP_STEP_CMA n) else s.get (LN.EQ_STEP_STEP_FFE n))
    else if c < 192 then s.get (LN.EQ_STEP_STEP_VOLT n) else s.get (LN.EQ_STEP_STEP_TGT n)
  let up := if s.flag (LN.EQ_STATUS_BOOST_ACTIVE n) then base + s.get (LN.EQ_STEP_BOOST_ADD n) else base
  if base = 0 then 0 else if carries (s.lstate n) then min up 0xA else min up 0xC

/-- A coefficient adapts: its group adapts in this state (Table 03-4), is not frozen, and the coefficient is neither on
its way to a written value (R80) nor in a pre-shed ramp (Table 03-5). -/
def State.coefAdapts (s : State) (n : Lane) (c : Nat) : Bool :=
  s.adapts n && s.coefOn n c && !s.coefFrozen n c &&
    (c < 112 || !s.blind n) &&
    (c < 112 || 192 ≤ c || s.flag (LN.EQ_STATUS_EFF_VOLT n)) &&
    (c != 193 || s.flag (LN.EQ_STATUS_EFF_16 n)) &&
    (assocFind (s.ln n).eq.slew c).isNone &&
    (match (s.ln n).eq.ramp with | some r => (assocFind r.saved c).isNone | none => true)

/-- A position that votes: the place of its sample among those held, its error, and the target levels of its two previous
symbols (R74). -/
structure VotePos where
  j : Nat
  err : Int
  l1 : Int
  l2 : Int
deriving DecidableEq, Repr

/-- The positions of the codeword to be decoded that vote: a marked one is left out; in constant-modulus operation the
error is that of R76. -/
def State.votePositions (s : State) (n : Lane) (ys : List ZSym) (m : Trellis) : List VotePos :=
  let as := tentativeRun (s.h1 n) (s.h2 n) 64 m ys
  ((as.zip ys).zip (List.range 64)).filterMap (fun p =>
    if p.1.2.marked then none
    else some { j := look + 63 - p.2
                err := if s.blind n then cmaError p.1.2.z
                       else ddError (s.h1 n) (s.h2 n) p.1.2.z p.1.1.1 p.1.1.2.1 p.1.1.2.2
                l1 := level p.1.1.2.1, l2 := level p.1.1.2.2 })

/-- The regressor of a coefficient at a position (R74). -/
def State.regressor (s : State) (n : Lane) (c : Nat) (v : VotePos) : Int :=
  let x (d : Int) : Int := (s.ln n).rx.code (v.j + d)
  if c < 112 then x (s.geti (EQC.FFE_D n c))
  else if c < 143 then (let p := volterraPairs.getD (c - 128) (0, 0); x p.1 * x p.2)
  else if c < 148 then (let i : Int := ((c - 145 : Int)); x i * x i * x i)
  else if c = 192 then v.l1 else v.l2

/-- The coefficients of a lane. -/
def State.coefs (s : State) (n : Lane) : List Nat := ((List.range 194).filter (s.coefOn n))

/-- The votes of a beat (R74). -/
def State.votes (s : State) (n : Lane) (ys : List ZSym) (m : Trellis) : List (Nat × Int) :=
  let ps := s.votePositions n ys m
  (s.coefs n).map (fun c => (c, lmsVote (ps.map (fun v => (v.err, s.regressor n c v)))))

/-- The LMS update of one beat (R74): each coefficient with a vote moves one step against its sign. -/
def State.lmsBeat (s : State) (n : Lane) (votes : List (Nat × Int)) : State :=
  s.each votes (fun v t =>
    if t.coefAdapts n v.1 then t.coefAccSet n v.1 (t.coefAcc n v.1 - sgn v.2 * (stepOf (t.stepCode n v.1) : Nat)) else t)

/-- Host writes on their way move one coefficient LSB in a beat (R80). -/
def State.slewBeat (s : State) (n : Lane) : State :=
  s.each (s.ln n).eq.slew (fun p t =>
    let u := t.coefSet n p.1 (stepToward 1 (t.geti (coefField n p.1)) p.2)
    if u.geti (coefField n p.1) = p.2 then u.setEq n (fun e => { e with slew := assocDel e.slew p.1 }) else u)

/-- A host write of a coefficient (R80): outside TRAIN to TRAFFIC it stands at once; there the coefficient moves toward
it. A word of an empty slot discards the write, and h2 ignores it in 4-state mode. -/
def State.coefWrite (s : State) (n : Lane) (c : Nat) (x : Int) : State :=
  if !s.coefOn n c || (c == 193 && !s.flag (LN.EQ_STATUS_EFF_16 n)) then s
  else if 3 ≤ s.lstate n && s.lstate n ≤ 6 then
    let y := clamp (coefLo c) (coefHi c) x
    (if y = x then s else s.on (LN.EQ_EVENTS_COEF_LIMIT n)).setEq n (fun e =>
      { e with slew := if s.geti (coefField n c) = y then assocDel e.slew c else assocPut e.slew c y })
  else (s.coefSet n c x).setEq n (fun e => { e with slew := assocDel e.slew c })

/-! ## Effective mode (R73, R81, R82, R83) -/

/-- The mode requested, less the Ballast steps held against the lane (R81) and less a second pass that a one-pass class
cannot run (R73). -/
def State.wantPasses (s : State) (n : Lane) : Bool :=
  s.flag (LN.EQ_MODE_TWO_PASS n) && s.flag (LN.EQ_STATUS_LAT_CLASS n) && !s.bitOf (LN.EQ_STATUS_SHED_HELD n) 0
def State.want16 (s : State) (n : Lane) : Bool :=
  s.flag (LN.EQ_MODE_MLSE_16 n) && !s.bitOf (LN.EQ_STATUS_SHED_HELD n) 1
def State.wantVolt (s : State) (n : Lane) : Bool :=
  s.flag (LN.EQ_MODE_VOLT_EN n) && !s.bitOf (LN.EQ_STATUS_SHED_HELD n) 2

/-- A mode change of the lane is in progress. -/
def State.modeBusy (s : State) (n : Lane) : Bool := (s.ln n).eq.ramp.isSome || (s.ln n).eq.passStart

/-- The bit of SHED_HELD of a ladder step. -/
def ShedStep.index : ShedStep → Nat
  | .pass => 0
  | .states => 1
  | .volt => 2

/-- The effective mode differs from the wanted one in this aspect. -/
def State.modeDiffers (s : State) (n : Lane) : ShedStep → Bool
  | .pass => s.flag (LN.EQ_STATUS_EFF_PASSES n) != s.wantPasses n
  | .states => s.flag (LN.EQ_STATUS_EFF_16 n) != s.want16 n
  | .volt => s.flag (LN.EQ_STATUS_EFF_VOLT n) != s.wantVolt n

/-- The change that starts next: a Ballast step before a host write (R84). -/
def State.modeNext (s : State) (n : Lane) : Option ShedStep :=
  match [ShedStep.pass, .states, .volt].find? (fun a => s.modeDiffers n a && s.bitOf (LN.EQ_STATUS_SHED_HELD n) a.index) with
  | some a => some a
  | none => [ShedStep.pass, .states, .volt].find? (s.modeDiffers n)

/-- A pre-shed ramp of the given coefficients starts (Table 03-5). -/
def State.rampStart (s : State) (n : Lane) (volt : Bool) (cs : List Nat) : State :=
  let r : Ramp := { volt := volt, ballast := s.bitOf (LN.EQ_STATUS_SHED_HELD n) (if volt then 2 else 1), reverse := false,
                    saved := cs.map (fun c => (c, s.geti (coefField n c))), beats := 0 }
  s.setEq n (fun e => { e with ramp := some r })

/-- The Volterra coefficients. -/
def voltCoefs : List Nat := (List.range 20).map coefVolt

/-- A change of effective mode starts (Table 03-5). -/
def State.modeStart (s : State) (n : Lane) : State :=
  if s.modeBusy n then s
  else
    match s.modeNext n with
    | none => s
    | some .pass =>
      if s.wantPasses n then s.setEq n (fun e => { e with passStart := true }) else s.off (LN.EQ_STATUS_EFF_PASSES n)
    | some .states =>
      if s.want16 n then (s.on (LN.EQ_STATUS_EFF_16 n)).coefSet n coefH2 0 else s.rampStart n false [coefH2]
    | some .volt =>
      if s.wantVolt n then (s.each voltCoefs (fun c t => t.coefSet n c 0)).on (LN.EQ_STATUS_EFF_VOLT n)
      else s.rampStart n true voltCoefs

/-- Where a ramp takes a coefficient: 0, or back to its value before the ramp (R83). -/
def Ramp.target (r : Ramp) (p : Nat × Int) : Int := if r.reverse then p.2 else 0

/-- A ramp moves by one coefficient LSB every 16 beats, and stands while DCR_BUSY = 1 (Table 03-5, R83). -/
def State.rampBeat (s : State) (n : Lane) : State :=
  match (s.ln n).eq.ramp with
  | none => s
  | some r =>
    if s.flag (LN.RX_STATUS_DCR_BUSY n) then s
    else
      let t := s.setEq n (fun e => { e with ramp := some { r with beats := (r.beats + 1) % 16 } })
      if r.beats = 15 then
        t.each r.saved (fun p u => u.coefSet n p.1 (stepToward 1 (u.geti (coefField n p.1)) (r.target p)))
      else t

/-- A ramp has arrived. -/
def State.rampDone (s : State) (n : Lane) (r : Ramp) : Bool :=
  r.saved.all (fun p => s.geti (coefField n p.1) == r.target p)

/-- The change completes at a boundary (Table 03-5): the selector moves to the second pass; a ramp that has arrived
switches the trellis or the bypass, a reversed one just ends. -/
def State.modeFinish (s : State) (n : Lane) : State :=
  if (s.ln n).eq.passStart then (s.on (LN.EQ_STATUS_EFF_PASSES n)).setEq n (fun e => { e with passStart := false })
  else
    match (s.ln n).eq.ramp with
    | none => s
    | some r =>
      if s.rampDone n r then
        let t := s.setEq n (fun e => { e with ramp := none })
        if r.reverse then t else if r.volt then t.off (LN.EQ_STATUS_EFF_VOLT n) else t.off (LN.EQ_STATUS_EFF_16 n)
      else s

/-- The wanted mode is in force at once on a lane that has no received grid to change it on; a lane with frame lock keeps
its mode until a boundary (R478). In 4-state mode h2 is held at 0 (R70). -/
def State.modeNow (s : State) (n : Lane) : State :=
  if s.flag (LN.FRM_STATUS_FRAME_LOCK n) then s
  else
    let t := ((s.setB (LN.EQ_STATUS_EFF_PASSES n) (s.wantPasses n)).setB (LN.EQ_STATUS_EFF_16 n) (s.want16 n)).setB
      (LN.EQ_STATUS_EFF_VOLT n) (s.wantVolt n)
    (if s.want16 n then t else t.coefSet n coefH2 0).setEq n (fun e => { e with ramp := none, passStart := false })

/-- The threshold of a mode in units of 10^-4 (Table 03-1). -/
def shedThreshold (states16 passes2 : Bool) : Nat :=
  if states16 then (if passes2 then 65 else 56) else (if passes2 then 53 else 48)

/-- The threshold of the mode that a ladder step would leave. DESIGN CHOICE (log 137): a ramp of the Volterra step, for
which R82 gives no check, is judged by R83 against the threshold of the trellis and passes the lane keeps. -/
def State.shedTarget (s : State) (n : Lane) : ShedStep → Nat
  | .pass => shedThreshold (s.flag (LN.EQ_STATUS_EFF_16 n)) false
  | .states => shedThreshold false (s.flag (LN.EQ_STATUS_EFF_PASSES n))
  | .volt => shedThreshold (s.flag (LN.EQ_STATUS_EFF_16 n)) (s.flag (LN.EQ_STATUS_EFF_PASSES n))

/-- An error count over `bitsSeen` bits is above SHED_MARGIN/16 of a threshold; SHED_MARGIN = 0 disables the check
(R82, R83). -/
def State.shedOver (s : State) (n : Lane) (step : ShedStep) (errs bitsSeen : Nat) : Bool :=
  s.get (LN.EQ_GUARD_SHED_MARGIN n) != 0 &&
    s.get (LN.EQ_GUARD_SHED_MARGIN n) * s.shedTarget n step * bitsSeen < errs * 160000

/-- A ladder step is refused (R82, R332): SHED_UNSAFE, counted, and tried again at a later press. -/
def State.shedRefuse (s : State) (n : Lane) (step : ShedStep) : State :=
  ((s.on (LN.EQ_EVENTS_SHED_UNSAFE n)).inc PWR.BAL_CNT_SHED_REF_CNT).setEq n (fun e =>
    { e with refused := if e.refused.contains step then e.refused else e.refused ++ [step] })

/-- A ladder step is held against the lane (R81); a lane that runs without the resource anyway changes nothing (R331). -/
def State.shedHold (s : State) (n : Lane) (step : ShedStep) : State :=
  (s.setBit (LN.EQ_STATUS_SHED_HELD n) step.index true).setEq n (fun e => { e with refused := e.refused.filter (· != step) })

/-- The lane runs what the step would take away, or, while it has no frame lock, would run it once it is up: the check
then waits for its first window (R82). -/
def State.shedMatters (s : State) (n : Lane) (step : ShedStep) : Bool :=
  let up := s.flag (LN.FRM_STATUS_FRAME_LOCK n)
  match step with
  | .pass => if up then s.flag (LN.EQ_STATUS_EFF_PASSES n) else s.wantPasses n
  | .states => if up then s.flag (LN.EQ_STATUS_EFF_16 n) else s.want16 n
  | .volt => if up then s.flag (LN.EQ_STATUS_EFF_VOLT n) else s.wantVolt n

/-- The shed check of a waiting step (R82): on the last completed 1 ms window; a lane that has completed none since
FRAME_LOCK rose keeps the step waiting. VOLT needs no check. -/
def State.shedCheck (s : State) (n : Lane) : State :=
  match (s.ln n).eq.shedAsk with
  | [] => s
  | step :: rest =>
    let judged := step != .volt && s.shedMatters n step && s.get (LN.EQ_GUARD_SHED_MARGIN n) != 0
    if judged && !(s.ln n).loc.winSinceLock then s
    else
      let t := s.setEq n (fun e => { e with shedAsk := rest })
      if judged && s.shedOver n step (s.get (LN.DEC_WIN0_BITERR_LAST n) + 4 * s.get (LN.DEC_WIN1_FAIL_LAST n)) 453336960 then
        t.shedRefuse n step
      else t.shedHold n step

/-- A window of 4,096 beats during a Ballast ramp fails the bound: the ramp reverses and the step is refused (R83). -/
def State.rampJudge (s : State) (n : Lane) : State :=
  match (s.ln n).eq.ramp with
  | none => s
  | some r =>
    let step := if r.volt then ShedStep.volt else .states
    if r.ballast && !r.reverse &&
        s.shedOver n step ((s.ln n).eq.guardBits + 4 * (s.ln n).eq.guardFails) (128 * (s.ln n).eq.guardCw) then
      ((s.setEq n (fun e => { e with ramp := some { r with reverse := true, beats := 0 } })).setBit
        (LN.EQ_STATUS_SHED_HELD n) step.index false).shedRefuse n step
    else s

/-! ## Guard and boost (R78, R79) -/

/-- A 4,096-beat window of the guard ends. -/
def State.guardWindow (s : State) (n : Lane) : State :=
  let t := s.rampJudge n
  let hit := s.get (LN.EQ_GUARD_GUARD_FAIL n) != 0 && s.get (LN.EQ_GUARD_GUARD_FAIL n) ≤ (s.ln n).eq.guardFails
  let u := t.setEq n (fun e => { e with guardFreeze := hit, guardFails := 0, guardBits := 0, guardCw := 0 })
  if hit then (u.on (LN.EQ_EVENTS_GUARD_FREEZE n)).inc (LN.EQ_CNT_GUARD_CNT n) else u

/-- A boost window opens for BOOST_WIN superframes; 0 gives none (R79). -/
def State.boostNow (s : State) (n : Lane) : State :=
  let t := s.setEq n (fun e => { e with boostPend := none })
  let w := s.get (LN.EQ_STEP_BOOST_WIN n)
  if w = 0 then t
  else (((t.setEq n (fun e => { e with boostLeft := w })).on (LN.EQ_STATUS_BOOST_ACTIVE n)).inc (LN.EQ_CNT_BOOST_CNT n)).setCal n
    (fun c => { c with winDirty := true })

/-- The scheduled boost window opens once the superframes before it have been received (R79, R104). -/
def State.boostOpen (s : State) (n : Lane) : State := if (s.ln n).eq.boostPend = some 0 then s.boostNow n else s

/-- An announcement accepted in received superframe M, with countdown `c`: the window opens at the start of superframe
M + c - 1, or at once if that start has passed; a window that is open is extended to the later end (R79, R104). -/
def State.boostPlan (s : State) (n : Lane) (c : Nat) : State :=
  if s.flag (LN.EQ_STATUS_BOOST_ACTIVE n) then
    let w := s.get (LN.EQ_STEP_BOOST_WIN n)
    s.setEq n (fun e => { e with boostLeft := if w = 0 then e.boostLeft else max e.boostLeft (c - 2 + w) })
  else if c = 1 then s.boostNow n
  else s.setEq n (fun e => { e with boostPend := some (c - 2) })

/-- A superframe has been received: the boost windows scheduled and open count it (R79). -/
def State.boostCount (s : State) (n : Lane) : State :=
  s.setEq n (fun e => { e with boostPend := e.boostPend.map (· - 1), boostLeft := e.boostLeft - 1 })

/-- The boost window closes once its superframes are over (R79). -/
def State.boostClose (s : State) (n : Lane) : State :=
  if (s.ln n).eq.boostLeft = 0 then s.off (LN.EQ_STATUS_BOOST_ACTIVE n) else s

/-- The equaliser of a lane that loses its received grid: no ramp and no window is left. A far-end freeze lasts its
DURATION (R105), and a lane that keeps frame lock keeps everything. -/
def State.eqStop (s : State) (n : Lane) : State :=
  if s.flag (LN.FRM_STATUS_FRAME_LOCK n) then s
  else (s.off (LN.EQ_STATUS_BOOST_ACTIVE n)).setEq n (fun e =>
    { e with ramp := none, passStart := false, boostPend := none, boostLeft := 0, guardFreeze := false, guardFails := 0, guardBits := 0,
             guardCw := 0 })

end Sys2Proof.Machine
end

