-- ==== Sys2Proof/Machine/LocOps.lean ====
section
/-!
DEFINITION. Framing, pre-inner windows and the line overhead channel (chapter 4), and the handshake messages (R195).
-/

namespace Sys2Proof.Machine

open Sys2Proof

/-! ## Locks (R99) -/

/-- The receiver hunts for frames and holds lock: the port is in ACQUIRE, TRAIN, LOCKED, TRAFFIC or ONE_WAY. -/
def State.hunts (s : State) (n : Lane) : Bool := 2 ≤ s.lstate n && s.lstate n ≤ 6

/-- A saturating count. -/
def satInc (w v : Nat) : Nat := if v + 1 < 2 ^ w then v + 1 else 2 ^ w - 1
def satAdd (w v k : Nat) : Nat := min (v + k) (2 ^ w - 1)

/-- Change the live counters of a lane (R107). -/
def State.count (s : State) (n : Lane) (f : CwCounters → CwCounters) : State :=
  s.setLoc n (fun l => { l with live := f l.live })

/-- SF_LOCK is lost, with its records (R99). -/
def State.sfLose (s : State) (n : Lane) : State :=
  if s.flag (LN.FRM_STATUS_SF_LOCK n) then
    (((s.off (LN.FRM_STATUS_SF_LOCK n)).on (LN.FRM_STATUS_SF_LOSS n)).count n
      (fun c => { c with sfLoss := satInc 16 c.sfLoss })).setLoc n (fun l => { l with mkGood := 0, mkBad := 0 })
  else s.setLoc n (fun l => { l with mkGood := 0, mkBad := 0 })

/-- The search for alignment markers of a monitor starts afresh. -/
def State.amDrop (s : State) (j : Host) (d : Nat) : State :=
  (s.off (LST.KP4_STATUS_AM_LOCK j d)).setKp4 j d (fun m => { m with found := 0, missed := 0, since := none, words := [] })

/-- AM_LOCK of a monitor falls, with its records (R88). -/
def State.amLose (s : State) (j : Host) (d : Nat) : State :=
  if s.flag (LST.KP4_STATUS_AM_LOCK j d) then
    ((s.off (LST.KP4_STATUS_AM_LOCK j d)).on (LST.KP4_STATUS_AM_LOSS j d)).setKp4 j d
      (fun m => { m with found := 0, missed := 0, since := none, words := [], loss := satInc 16 m.loss })
  else s.setKp4 j d (fun m => { m with found := 0, missed := 0, since := none, words := [] })

/-- The frame lock of a lane is gone: the window is abandoned, DEC_CLEAN falls (R96), the superframe lock goes with it,
the direction-1 monitors lose AM_LOCK (R88), and the host transmit PLLs lose their reference (R23). -/
def State.frameLose (s : State) (n : Lane) : State :=
  let t := ((s.off (LN.FRM_STATUS_FRAME_LOCK n)).off (LN.FRM_STATUS_DEC_CLEAN n)).setLoc n
    (fun l => { l with good := 0, bad := 0, winBits := 0, winFail := 0, winSinceLock := false, ruleFresh := false,
                       ruleWin := false, pads := [], sfAge := 0 })
  let u := (t.sfLose n).setCal n (fun c => { c with winDirty := true })
  u.each (u.hostsOf n) (fun j v => (v.amLose j 1).pllLose (.ht j))

/-- FRAME_LOCK is lost while the receiver holds lock: FRAME_LOSS and its count (R99). -/
def State.frameLoss (s : State) (n : Lane) : State :=
  ((s.frameLose n).on (LN.FRM_STATUS_FRAME_LOSS n)).count n (fun c => { c with frameLoss := satInc 16 c.frameLoss })

/-- Entry to DOWN, LIGHT or Nap clears the locks without a loss: nothing is set or counted (R99), and the direction-1
monitors search again. -/
def State.unlock (s : State) (n : Lane) : State :=
  let t := (((s.off (LN.FRM_STATUS_FRAME_LOCK n)).off (LN.FRM_STATUS_SF_LOCK n)).off (LN.FRM_STATUS_DEC_CLEAN n)).setLoc n
    (fun l => { l with good := 0, bad := 0, mkGood := 0, mkBad := 0, winBits := 0, winFail := 0, winSinceLock := false,
                       ruleFresh := false, ruleWin := false, pads := [], sfAge := 0, frmOk := 0, frmBad := 0 })
  t.each (t.hostsOf n) (fun j u => u.amDrop j 1)

/-- The recovered line clock is gone: the host transmit PLLs that followed it hold (R23). -/
def State.lineClockLost (s : State) (n : Lane) : State := s.each (s.hostsOf n) (fun j u => u.pllLose (.ht j))

/-- FRAME_LOCK is set: the marker search and the first window begin, and the host transmit PLLs follow the recovered
line clock (R23, R96, R99). -/
def State.frameGain (s : State) (n : Lane) : State :=
  let t := (s.on (LN.FRM_STATUS_FRAME_LOCK n)).setLoc n
    (fun l => { l with good := 0, bad := 0, mkGood := 0, mkBad := 0, winBits := 0, winFail := 0, winSinceLock := false,
                       pads := [], sfAge := 0 })
  t.each (t.hostsOf n) (fun j u => u.pllMove (.ht j) .traffic)

/-- A received frame of which `ok` codewords decoded and `failed` failed is judged (R99). A lane whose checker is locked
receives a PRBS, and gains no frame lock (R185). -/
def State.frameJudge (s : State) (n : Lane) (ok failed : Nat) : State :=
  if s.flag (LN.FRM_STATUS_FRAME_LOCK n) then
    if 42 < failed then
      if (s.ln n).loc.bad = 3 then s.frameLoss n else s.setLoc n (fun l => { l with bad := l.bad + 1 })
    else s.setLoc n (fun l => { l with bad := 0 })
  else if 80 ≤ ok ∧ s.flag (PRBS.STATUS_CHK_LOCK (PrbsLane.line n).base) = false then
    if (s.ln n).loc.good = 1 then s.frameGain n else s.setLoc n (fun l => { l with good := 1 })
  else s.setLoc n (fun l => { l with good := 0 })

/-- A received frame ends (R99): it is judged by its codewords, and counts toward the superframe and the calibration
window (R135). -/
def State.frame (s : State) (n : Lane) : State :=
  if !s.hunts n then s
  else
    let t := ((s.setLoc n (fun l => { l with frmOk := 0, frmBad := 0, sfAge := min 65 (l.sfAge + 1) })).setCal n
      (fun c => { c with winFrames := min 32 (c.winFrames + 1) }))
    t.frameJudge n (s.ln n).loc.frmOk (s.ln n).loc.frmBad

/-! ## Codewords (R72, R93 to R96) -/

/-- The symbols of a codeword with the extrinsic values of their bits (R72): the first pass is decoded. `first` are the
descrambled first-pass values. DESIGN CHOICE (log 138): symbols beyond the codeword, which the traceback reaches before they
are decoded, have no extrinsic value yet. -/
def State.priors (s : State) (n : Lane) (i : Nat) (ys : List ZSym) (first : List Int) : List ZSym :=
  let e := descramble (s.ln n).loc.scr i (((chaseSoft (s.ln n).loc.beta first).zip first).map (fun p => extrinsic p.1 p.2))
  (ys.zip (List.range ys.length)).map (fun p => { p.1 with e0 := e.getD (2 * p.2) 0, e1 := e.getD (2 * p.2 + 1) 0 })

/-- The second-pass soft outputs of a codeword (R72): the detector runs again on the same outputs, each branch with its
prior. -/
def State.secondPass (s : State) (n : Lane) (i : Nat) (m : Trellis) (zs : List ZSym) : List Int :=
  descramble (s.ln n).loc.scr i
    (softRun (s.h1 n) (s.h2 n) (s.get (LN.EQ_GUARD_PRIOR_WT n)) (s.get (LN.EQ_GUARD_LLR_SCALE n)) 64 m zs)

/-- What the lane delivers of a codeword, from the descrambled soft values of its passes (R72): in the two-pass mode a
codeword that decoded in the first pass and fails in the second is delivered from the first. -/
def deliver (first : List Int) (second : Option (List Int)) : Decoded :=
  match second with
  | some l2 => if (chase first).ok && !(chase l2).ok then chase first else chase l2
  | none => chase first

/-- A delivered codeword is counted (R96, R78, Table 04-5) and handed to CAL with its DECODED flag (R95). `first` are the
first-pass hard decisions. -/
def State.codeword (s : State) (n : Lane) (i : Nat) (d : Decoded) (first : List Bool) : State :=
  let flips := if d.ok then distance d.out first else 0
  let t := s.setLoc n (fun l =>
    { l with live := { l.live with total := satInc 64 l.live.total,
                                   corr := if d.corrected then satInc 64 l.live.corr else l.live.corr,
                                   fail := if d.ok then l.live.fail else satInc 64 l.live.fail,
                                   bits := satAdd 64 l.live.bits flips }
             winBits := l.winBits + flips, winFail := l.winFail + (!d.ok).toNat
             ref := reform l.scr i d.out, refOk := d.ok })
  let u := t.setEq n (fun e => { e with guardFails := e.guardFails + (!d.ok).toNat, guardBits := e.guardBits + flips,
                                        guardCw := e.guardCw + 1 })
  let v := if d.ok then u else (u.setCal n (fun c => { c with winDirty := true })).countEvent 0x042 n 1
  if d.corrected then v.countEvent 0x041 n 1 else v

/-- A codeword of the candidate or locked frame counts toward its judgement (R99). -/
def State.frameCount (s : State) (n : Lane) (ok : Bool) : State :=
  s.setLoc n (fun l => { l with frmOk := l.frmOk + ok.toNat, frmBad := l.frmBad + (!ok).toNat })

/-- The codewords, `m` of them interleaved symbol by symbol, whose last bit is the newest of a stream (R88). -/
def kp4Group (m : Nat) (bits : List Bool) : List (List Nat) :=
  let ss := (bitGroups 10 (5440 * m) (bits.take (5440 * m)).reverse).map rsSymbol
  (List.range m).map (fun c => everyNth m (ss.drop c))

/-- Bits of a monitor's stream: from the boundary located, every `m` · 544 symbols complete `m` codewords; with `run`, they wait
to be counted (R88). -/
def Kp4St.feed (q : Kp4St) (m : Nat) (run : Bool) (bs : List Bool) : Kp4St :=
  let all := bs.reverse ++ q.bits
  match q.since with
  | none => { q with bits := all.take 21760 }
  | some k =>
    let n := k + bs.length
    let g := 5440 * m
    { q with bits := all.take 21760, since := some (n % g),
             words := if run then q.words ++ (List.range (n / g)).flatMap (fun i => kp4Group m (all.drop (n - (i + 1) * g)))
                      else q.words }

/-- Bits pass a monitor, which counts nothing without AM_LOCK (R88). -/
def State.kp4Feed (s : State) (j : Host) (d : Nat) (bs : List Bool) : State :=
  s.setKp4 j d (fun q => q.feed (2 ^ s.get (LST.KP4_CFG_ILV j)) (s.flag (LST.KP4_STATUS_AM_LOCK j d)) bs)

/-- The deframer delivers a block to the host lanes of the line lane, even slots to HOST_A and odd ones to HOST_B (R90);
without frame lock it delivers zeros (R99). The lane's direction-1 monitor sees the same symbols (R88). -/
def State.deframe (s : State) (n : Lane) (u : List Bool) : State :=
  let bits := if s.flag (LN.FRM_STATUS_FRAME_LOCK n) then u.take 120 else []
  let give (t : State) (j : Host) (b : Bool) : State :=
    (t.setHl j (fun h => { h with down := (h.down ++ blockSymbols b bits).drop (h.down.length + 6 - 2176) })).kp4Feed j 1
      ((blockSymbols b bits).flatMap rsBits)
  if s.flag (LN.GBX_MAP_MAP_VALID n) then give (give s (s.hostA n) false) (s.hostB n) true else s

/-- The calibration window takes a codeword: its samples with the reference symbols, the pad symbols before it without
(R134, R136). A window that has its WIN_FRAMES frames takes no more (R135). -/
def State.winTake (s : State) (n : Lane) (pads : Nat) (as : List Nat) : State :=
  let h := (s.ln n).rx.hist
  let sym (j : Nat) (a : Option Int) : WinSym := { a := a, x := h.getD j {} }
  let new := (List.range (64 + pads)).map (fun k =>
    if k < 64 then sym (look + k) ((as[63 - k]?).map (fun l => symbolValue l)) else sym (look + k) none)
  if (s.ln n).cal.winFrames < 4 * 2 ^ s.get CAL.REFINE_WIN_FRAMES then s.setCal n (fun c => { c with win := new ++ c.win }) else s

/-! ## The 1 ms window (R96) -/

/-- The body of a STATS message (Table 04-3). -/
def State.statsBody (s : State) (n : Lane) : List Nat :=
  beBytes 4 (s.get (LN.DEC_WIN0_BITERR_LAST n)) ++ beBytes 4 (s.get (LN.DEC_WIN1_FAIL_LAST n)) ++
    beBytes 2 (s.get (LN.KTAP_AVG_AVG n)) ++
    [s.get (LN.AGC_STATUS_GAIN n), s.get (LN.RX_STATUS_OVR_RATE n) + 2 * s.get (LN.RX_STATUS_SUSPECT_ANY n) +
      4 * s.get (LN.EQ_EVENTS_GUARD_FREEZE n), s.get (LN.DEC_WIN2_WIN_CNT n) % 256, 0]

/-! ## Queueing (R102, R103) -/

/-- The next tag of the lane's counter, 0x01 to 0xFF. -/
def nextTag (t : Nat) : Nat := t % 255 + 1

/-- Queue an untagged message; STATS and USER replace one that waits (R103). -/
def State.locPlain (s : State) (n : Lane) (type : Nat) (body : List Nat) : State :=
  s.setLoc n (fun l =>
    let q := if type = 0x30 ∨ type = 0x80 then l.plain.filter (fun m => m.type != type) else l.plain
    { l with plain := q ++ [{ tag := 0, type := type, body := body, due := true, age := 0, tries := 0 }] })

/-- The tagged queue of the lane is full (R103). -/
def State.txqFull (s : State) (n : Lane) : Bool := 8 ≤ (s.ln n).loc.txq.length

/-- Queue a tagged message under the next tag; with the queue full it is refused and TXQ_FULL is set. -/
def State.locTagged (s : State) (n : Lane) (type : Nat) (body : List Nat) : State :=
  if s.txqFull n then s.on (LN.LOC_STATUS_TXQ_FULL n)
  else s.setLoc n (fun l =>
    { l with tagCnt := nextTag l.tagCnt,
             txq := l.txq ++ [{ tag := nextTag l.tagCnt, type := type, body := body, due := true, age := 0, tries := 0 }] })

/-! ## Handshake (R195) -/

/-- The three fields of a HELLO or HELLO_ACK: PORT_LANES, LANE_IN_PORT and CAPS. -/
def State.helloBody (s : State) (n : Lane) : List Nat :=
  match s.portOf n with
  | some k =>
    [(s.pt k).lanes, n.val - k.val, s.get (LN.TX_CTRL_TXC_EN n) + 2 * s.get CAL.CTRL_DACBG_EN +
      4 * s.get (LN.EQ_STATUS_LAT_CLASS n)]
  | none => [0, 0, 0]

/-- The lane takes part in the handshake: its port is in TRAIN, LOCKED or ONE_WAY, and it has superframe lock. -/
def State.shakes (s : State) (n : Lane) : Bool :=
  (s.lstate n == 3 || s.lstate n == 4 || s.lstate n == 6) && s.flag (LN.FRM_STATUS_SF_LOCK n)

/-- The lane sends a HELLO; it becomes the lane's latest one. -/
def State.helloSend (s : State) (n : Lane) : State :=
  if s.txqFull n then s.on (LN.LOC_STATUS_TXQ_FULL n)
  else (s.locTagged n 0x01 (s.helloBody n)).setLoc n (fun l =>
    { l with helloTag := some l.tagCnt, helloAcked := false, hsDone := false, settled := false })

/-- The handshake of every lane of a port is complete. -/
def State.handshook (s : State) (k : PortId) : Bool := (s.lanesOf k).all (fun n => (s.ln n).loc.hsDone)

/-- The handshake of a lane is complete while a matching partner message has been accepted and its own latest HELLO is
acknowledged (R195). As the last lane of a port in LOCKED or ONE_WAY completes it, TRAFFIC follows at the next boundary
(Table 08-2). -/
def State.helloJudge (s : State) (n : Lane) : State :=
  let t := s.setLoc n (fun l => { l with hsDone := l.helloMatch && l.helloAcked })
  match t.portOf n with
  | some k => if (t.pstate k == 4 || t.pstate k == 6) && t.handshook k then t.setPt k (fun p => { p with due := true }) else t
  | none => t

/-- A lane that has gained superframe lock in a state of the handshake starts it, if it has none under way. -/
def State.helloStart (s : State) (n : Lane) : State :=
  let l := (s.ln n).loc
  if s.shakes n && !l.hsDone && l.helloTag.isNone && !l.helloAcked then s.helloSend n else s

/-- A partner HELLO or HELLO_ACK is accepted, by a lane that takes part or is in TRAFFIC: a mismatch is flagged and alarmed; a
match, with the partner's CAPS, counts toward completion outside TRAFFIC; a HELLO is answered, and answered with a HELLO of
its own in LOCKED and ONE_WAY. -/
def State.helloIn (s : State) (n : Lane) (ack : Bool) (body : List Nat) : State :=
  match s.portOf n with
  | none => s
  | some k =>
    if !s.shakes n && !(s.pstate k == 5 && s.flag (LN.FRM_STATUS_SF_LOCK n)) then s
    else
      let own := s.helloBody n
      let same := body.getD 0 0 == own.getD 0 0 && body.getD 1 0 == own.getD 1 0
      let u := if same then s.alarmEnd 0x05 k else (s.on (PORT.STATUS_MISMATCH k)).alarm 0x05 k 0
      let v := if same && s.pstate k != 5 then
          (u.setLoc n (fun l => { l with helloMatch := true, caps := body.getD 2 0 })).helloJudge n else u
      let w := if ack then v else v.locTagged n 0x02 own
      if !ack && (s.pstate k == 4 || s.pstate k == 6) then w.helloSend n else w

/-! ## Messages received (R102 to R105) -/

/-- A message is skipped and counted in LOC_BAD_TYPE. -/
def State.locBad (s : State) (n : Lane) : State :=
  (s.on (LN.LOC_STATUS_BAD_TYPE n)).count n (fun c => { c with badType := satInc 16 c.badType })

/-- A DACCAL_ANN is accepted: a new STEP_ID schedules or extends the boost window (R104). -/
def State.daccalHeard (s : State) (n : Lane) (countdown step : Nat) : State :=
  if (s.ln n).eq.lastStep = some step then s
  else (s.setEq n (fun e => { e with lastStep := some step })).boostPlan n countdown

/-- A USER message is stored (Table 04-8). -/
def State.userIn (s : State) (n : Lane) (body : List Nat) : State :=
  let b := padTo 14 body
  let t := s.each (List.range 4) (fun i u =>
    u.set (LN.LOC_USER_RX_USER_RX n i) (beVal ((b.drop (4 * i)).take 4)))
  (if s.flag (LN.LOC_STATUS_USER_RX n) then t.on (LN.LOC_STATUS_USER_OVW n) else t).on (LN.LOC_STATUS_USER_RX n)

/-- TXC_DONE ends the outstanding request with that tag (R124). -/
def State.txcDone (s : State) (n : Lane) (tag : Nat) : State :=
  if (s.ln n).tx.txcOut = some tag then s.setTx n (fun x => { x with txcOut := none }) else s

/-- A body that makes its message be skipped: a TXC_REQ whose COUNT is not 1 to 6, a DACCAL_ANN whose COUNTDOWN is not 1
to 8 (Table 04-3). -/
def locSkipped (type : Nat) (body : List Nat) : Bool :=
  (type == 0x10 && (body.getD 0 0 == 0 || 6 < body.getD 0 0)) || (type == 0x20 && (body.getD 0 0 == 0 || 8 < body.getD 0 0))

/-- The tag of an accepted message joins the acknowledgements and the 16 remembered tags (R102). -/
def State.locAccept (s : State) (n : Lane) (tag : Nat) : State :=
  if tag = 0 then s
  else s.setLoc n (fun l => { l with acks := l.acks ++ [tag], seen := (tag :: l.seen).take 16 })

/-- A tag already acted on: acknowledged again, and the stored TXC_DONE of a TXC_REQ sent again (R102). -/
def State.locRepeat (s : State) (n : Lane) (type tag : Nat) : State :=
  let t := s.setLoc n (fun l => { l with acks := l.acks ++ [tag] })
  match type == 0x10, assocFind (s.ln n).loc.dones tag with
  | true, some b => t.locPlain n 0x11 b
  | _, _ => t

/-- The lane's own HELLO or a request of its own has been acknowledged (R102): it leaves the queue. -/
def State.locAcked (s : State) (n : Lane) (tag : Nat) : State :=
  match (s.ln n).loc.txq.find? (fun m => m.tag == tag) with
  | none => s
  | some m =>
    let t := s.setLoc n (fun l => { l with txq := l.txq.filter (fun x => x.tag != tag) })
    let u := if (s.ln n).loc.helloTag = some tag then
        (t.setLoc n (fun l => { l with helloTag := none, helloAcked := true })).helloJudge n else t
    if m.type = 0x80 then u.off (LN.LOC_USER_CMD_USER_SEND n) else u

/-- A tagged message is dropped after its last attempt (R102): counted, flagged, its originator told. -/
def State.locDrop (s : State) (n : Lane) (m : LocMsg) : State :=
  let t := ((s.setLoc n (fun l => { l with txq := l.txq.filter (fun x => x.tag != m.tag) })).on (LN.LOC_STATUS_NOACK n)).count n
    (fun c => { c with noack := satInc 16 c.noack })
  let u := if m.type = 0x80 then t.off (LN.LOC_USER_CMD_USER_SEND n) else t
  let v := if m.type = 0x10 && (s.ln n).tx.txcOut = some m.tag then u.setTx n (fun x => { x with txcOut := none }) else u
  if (s.ln n).loc.helloTag = some m.tag then
    let w := v.setLoc n (fun l => { l with helloTag := none })
    if s.lstate n = 3 ∧ s.shakes n = true then w.helloSend n else w
  else v

/-- RETX_INT in force: values below 0x08 act as 0x08 (Table 04-8). -/
def State.retxInt (s : State) (n : Lane) : Nat := max 8 (s.get (LN.LOC_CTRL_RETX_INT n))

/-- A tagged message is not acknowledged within RETX_INT superframes: sent again, or dropped after RETX_MAX (R102). -/
def State.locRetx (s : State) (n : Lane) (tag : Nat) : State :=
  match (s.ln n).loc.txq.find? (fun m => m.tag == tag && !m.due && s.retxInt n ≤ m.age) with
  | none => s
  | some m =>
    if s.get (LN.LOC_CTRL_RETX_MAX n) ≤ m.tries then s.locDrop n m
    else s.setLoc n (fun l => { l with txq := l.txq.map (fun x =>
      if x.tag = tag then { x with due := true, age := 0, tries := x.tries + 1 } else x) })

end Sys2Proof.Machine
end

