-- ==== Sys2Proof/Machine/TxOps.lean ====
section
/-!
DEFINITION. The line transmitter (chapter 5): the DAC code, coefficient banks and their SWAP, swing, the modulation
demand and its ramp, far-end corrections, announced DAC steps; and the superframe the lane sends (R103).
-/

namespace Sys2Proof.Machine

open Sys2Proof

/-! ## The DAC code (R111 to R114) -/

/-- The DAC code of a symbol before the clamp: FIR taps and the symbols they meet (tap t meets a[k + 2 - t]), the entry
selected by the level indices, amp of 4,096, and the modulation m as a fraction of `mDen` (R114). -/
def dacRaw (c a : List Int) (e : Int) (amp : Nat) (mNum : Int) (mDen : Nat) : Int :=
  let u := (c.zip a).foldl (fun x p => x + p.1 * p.2) 0
  roundDiv ((160 * u + 256 * e) * amp * (mDen + mNum)) (4 * 256 * 4096 * mDen)

/-- The DAC code (R114). -/
def dacCode (c a : List Int) (e : Int) (amp : Nat) (mNum : Int) (mDen : Nat) : Int :=
  clamp (-127) 127 (dacRaw c a e amp mNum mDen)

/-- The pre-distortion entry selected by three level indices (R113). -/
def pdIndex (prev cur next : Nat) : Nat := 16 * prev + 4 * cur + next

/-! ## Coefficient banks (R116 to R118) -/

/-- The values of a bank: FIR taps, pre-distortion entries, skew corrections. -/
def State.firOf (s : State) (n : Lane) (shadow : Bool) : List Int :=
  (List.range 9).map (fun t => s.geti (if shadow then TXT.FIRS_C_SHD n t else TXT.FIRA_C_ACT n t))

/-- The sum of the tap magnitudes. -/
def magnitude (c : List Int) : Nat := c.foldl (fun a x => a + x.natAbs) 0

/-- The active banks take the shadow values. -/
def State.bankReplace (s : State) (n : Lane) : State :=
  let t := s.each (List.range 9) (fun i u => u.set (TXT.FIRA_C_ACT n i) (u.get (TXT.FIRS_C_SHD n i)))
  let u := t.each (List.range 64) (fun i u => u.set (TXT.PDA_E_ACT n i) (u.get (TXT.PDS_E_SHD n i)))
  u.each (List.range 4) (fun i u => u.set (TXT.SKA_SK_ACT n i) (u.get (TXT.SKS_SK_SHD n i)))

/-- The shadow banks take the active values and SHADOW_DIRTY clears (R116). -/
def State.shadowLoad (s : State) (n : Lane) : State :=
  if s.flag (LN.TX_STATUS_SWAP_PEND n) then s
  else
    let t := s.each (List.range 9) (fun i u => u.set (TXT.FIRS_C_SHD n i) (u.get (TXT.FIRA_C_ACT n i)))
    let u := t.each (List.range 64) (fun i u => u.set (TXT.PDS_E_SHD n i) (u.get (TXT.PDA_E_ACT n i)))
    let v := u.each (List.range 4) (fun i u => u.set (TXT.SKS_SK_SHD n i) (u.get (TXT.SKA_SK_ACT n i)))
    v.off (LN.TX_STATUS_SHADOW_DIRTY n)

/-- TRAIN, LOCKED, TRAFFIC or ONE_WAY: banks slew and swing steps (R117, R120). -/
def State.slews (s : State) (n : Lane) : Bool := carries (s.lstate n)

/-- A write of SWAP (R117, R118). -/
def State.swap (s : State) (n : Lane) : State :=
  if s.flag (LN.TX_STATUS_SWAP_PEND n) then s
  else if 256 < magnitude (s.firOf n true) then s.on (LN.TX_STATUS_SWAP_REJ n)
  else (((s.off (LN.TX_STATUS_SHADOW_DIRTY n)).on (LN.TX_STATUS_SWAP_PEND n)).on (LN.TX_CMD_SWAP n)).setB
    (LN.TX_STATUS_SLEWING n) (s.slews n)

/-- The SWAP in progress ends: SWAP_PEND, SLEWING and the command bit clear (Table 05-6). -/
def State.swapEnd (s : State) (n : Lane) : State :=
  ((s.off (LN.TX_STATUS_SWAP_PEND n)).off (LN.TX_STATUS_SLEWING n)).off (LN.TX_CMD_SWAP n)

/-- The shadow banks replace the active banks (R117). -/
def State.swapReplace (s : State) (n : Lane) : State :=
  if s.flag (LN.TX_STATUS_SWAP_PEND n) then (s.bankReplace n).swapEnd n else s

/-- The step bounds in force: values above 0x8 act as 0x8 (Table 05-4). -/
def State.maxFir (s : State) (n : Lane) : Nat := min 8 (s.get (LN.TX_TXC_CFG_MAX_FIR n))
def State.maxPd (s : State) (n : Lane) : Nat := min 8 (s.get (LN.TX_TXC_CFG_MAX_PD n))
def State.maxSkew (s : State) (n : Lane) : Nat := min 8 (s.get (LN.TX_TXC_CFG_MAX_SKEW n))

/-- The FIR taps after a slew step: a step that would exceed the magnitude limit moves only the taps whose magnitude
falls (R118). -/
def firStep (m : Nat) (act shd : List Int) : List Int :=
  let next := (act.zip shd).map (fun p => stepToward m p.1 p.2)
  if magnitude next ≤ 256 then next
  else (act.zip next).map (fun p => if p.2.natAbs < p.1.natAbs then p.2 else p.1)

/-- Active and shadow values agree. -/
def State.bankArrived (s : State) (n : Lane) : Bool :=
  (List.range 9).all (fun i => s.get (TXT.FIRA_C_ACT n i) == s.get (TXT.FIRS_C_SHD n i)) &&
    (List.range 64).all (fun i => s.get (TXT.PDA_E_ACT n i) == s.get (TXT.PDS_E_SHD n i)) &&
    (List.range 4).all (fun i => s.get (TXT.SKA_SK_ACT n i) == s.get (TXT.SKS_SK_SHD n i))

/-- One slew step of a SWAP (R117). -/
def State.swapStep (s : State) (n : Lane) : State :=
  let fir := firStep (s.maxFir n) (s.firOf n false) (s.firOf n true)
  let t := s.each (List.range 9) (fun i u => u.seti (TXT.FIRA_C_ACT n i) (fir.getD i 0))
  let u := t.each (List.range 64) (fun i u => u.seti (TXT.PDA_E_ACT n i)
    (stepToward (s.maxPd n) (u.geti (TXT.PDA_E_ACT n i)) (u.geti (TXT.PDS_E_SHD n i))))
  let v := u.each (List.range 4) (fun i u => u.seti (TXT.SKA_SK_ACT n i)
    (stepToward (s.maxSkew n) (u.geti (TXT.SKA_SK_ACT n i)) (u.geti (TXT.SKS_SK_SHD n i))))
  if v.bankArrived n then v.swapEnd n else v

/-! ## Swing (R120) -/

/-- One swing step: a code toward SWING in the slewing states, the new value otherwise. -/
def State.swingStep (s : State) (n : Lane) : State :=
  if s.slews n then
    s.seti (LN.TX_STATUS_SWING_EFF n) (stepToward 1 (s.get (LN.TX_STATUS_SWING_EFF n)) (s.get (LN.TX_CTRL_SWING n)))
  else s.set (LN.TX_STATUS_SWING_EFF n) (s.get (LN.TX_CTRL_SWING n))

/-! ## Announced DAC steps (R130, R131) -/

/-- The trims of a step are put in use (R130, R150), or its table entries in both banks (R151). -/
def State.dacStepApply (s : State) (n : Lane) (d : DacStep) : State :=
  match d with
  | .trim j g o => (s.set (CAL.DTRIM_DGAIN n j) g.toNat).set (CAL.DTRIM_DOFF n j) o.toNat
  | .table es => s.each es (fun e t => (t.set (TXT.PDA_E_ACT n e.1) e.2.toNat).set (TXT.PDS_E_SHD n e.1) e.2.toNat)

/-- The announcement of a step starts with the next STEP_ID (R130). -/
def State.dacAnnounce (s : State) (n : Lane) (d : DacStep) : State :=
  ((s.incWrap (LN.TX_DACCAL_STEP_ID n)).on (LN.TX_STATUS_DACCAL_BUSY n)).setTx n
    (fun x => { x with dac := some d, dacNext := 8 })

/-- No step may be announced: modulation is not demanded, the port is not in a state that keeps a step, or the brace is
in force (R131). DESIGN CHOICE (log 140): a step asked for meanwhile waits and is announced once it may be. -/
def State.dacHeld (s : State) (n : Lane) : Bool := s.braced || !(s.ln n).tx.demand || !s.slews n

/-- A waiting step is announced once nothing is in flight. -/
def State.dacNextUp (s : State) (n : Lane) : State :=
  match (s.ln n).tx.dac, (s.ln n).tx.dacQueue with
  | none, d :: q => if s.dacHeld n then s else (s.setTx n (fun x => { x with dacQueue := q })).dacAnnounce n d
  | _, _ => s

/-- CAL requests a step (R130): with AMP_STATE = OFF it changes nothing on the fibre and is made at once. -/
def State.dacRequest (s : State) (n : Lane) (d : DacStep) : State :=
  if s.get (LN.TX_STATUS_AMP_STATE n) = 0 then s.dacStepApply n d
  else (s.setTx n (fun x => { x with dacQueue := x.dacQueue ++ [d] })).dacNextUp n

/-- The step in flight ends; the record of its countdown clears. -/
def State.dacEnd (s : State) (n : Lane) : State :=
  ((s.off (LN.TX_STATUS_DACCAL_BUSY n)).off (LN.TX_DACCAL_COUNTDOWN n)).setTx n (fun x => { x with dac := none, dacNext := 0 })

/-- The step is executed at the first boundary after COUNTDOWN 1 (R130). -/
def State.dacExecute (s : State) (n : Lane) : State :=
  match (s.ln n).tx.dac with
  | none => s
  | some d =>
    if (s.ln n).tx.dacNext = 0 then (((s.dacStepApply n d).inc (LN.TX_DACCAL_DACCAL_CNT n)).dacEnd n).dacNextUp n else s

/-- A step announced and not executed is cancelled, and CAL is told (R131). -/
def State.dacCancel (s : State) (n : Lane) : State :=
  match (s.ln n).tx.dac with
  | none => s
  | some d => ((s.dacEnd n).on (LN.TX_STATUS_DACCAL_CANCEL n)).setCal n (fun c =>
    match d with
    | .trim _ _ _ => { c with dacCancelled := true }
    | .table es => { c with pdPend := some es })

/-! ## Modulation demand and its ramp (R121, R122) -/

/-- Modulation is demanded: by the bring-up sequence and MOD_EN on an Active lane, and by nothing that withdraws it at once:
TX_DISABLE, LASER_CLR_N, a Rip-panel latch, a request for Nap, the CMIS Tx disable of a paired host lane (R121, R424). -/
def State.modDemand (s : State) (n : Lane) : Bool :=
  (s.ln n).tx.seqDemand && decide ((s.ln n).power = .active) && s.flag (LN.TX_CTRL_MOD_EN n) && !s.bitOf SAF.STATUS_TXD_NOW n && !s.flag SAF.STATUS_CLR_PIN_NOW &&
    !s.bitOf SAF.STATUS_LATCH n && !(match s.portOf n with | some k => (s.pt k).napReq | none => false)

/-- AMP_STATE of a demand and a ramp value (R121). -/
def ampCode (d : Bool) (amp : Nat) : Nat := if d then (if amp = 4096 then 2 else 1) else (if amp = 0 then 0 else 3)

/-- The demand of a lane is judged anew: the ramp turns at its present value (R122), and a withdrawal cancels an
announced DAC step (R131). -/
def State.demandEval (s : State) (n : Lane) : State :=
  let d := s.modDemand n
  if d = (s.ln n).tx.demand then s
  else
    let t := (s.setTx n (fun x => { x with demand := d })).set (LN.TX_STATUS_AMP_STATE n) (ampCode d (s.ln n).tx.amp)
    if d then t else (t.dacCancel n).kiteDacGone n

/-- The demand of every lane is judged anew. -/
def State.demandAll (s : State) : State := s.each (List.finRange 8) (fun n t => t.demandEval n)

/-- amp moves by 1 in each of `b` beats (R121): up to 4,096 with demand, down to 0 without. -/
def State.ampMove (s : State) (n : Lane) (b : Nat) : State :=
  s.setTx n (fun x => { x with amp := if x.demand then min 4096 (x.amp + b) else x.amp - b })

/-- AMP_STATE does not yet show that the ramp has arrived. -/
def State.rampDue (s : State) (n : Lane) : Bool :=
  s.get (LN.TX_STATUS_AMP_STATE n) != ampCode (s.ln n).tx.demand (s.ln n).tx.amp

/-- The ramp arrives (R121): AMP_STATE reads ON at 4,096 with demand, and OFF at 0 without. -/
def State.rampArrive (s : State) (n : Lane) : State :=
  s.set (LN.TX_STATUS_AMP_STATE n) (ampCode (s.ln n).tx.demand (s.ln n).tx.amp)

/-- The bring-up sequence demands or ceases to demand modulation. -/
def State.seqDemand (s : State) (n : Lane) (b : Bool) : State :=
  (s.setTx n (fun x => { x with seqDemand := b })).demandEval n

/-! ## Far-end correction (R125 to R128) -/

/-- The values a request is worked on: FIR, pre-distortion and skew of the active bank, with what has changed so far. -/
structure TxcWork where
  fir : List Int
  pd : List Int
  skew : List Int
  changed : List (Nat × Nat)
  clipped : Bool
  refused : Bool
deriving DecidableEq, Repr

/-- The largest change of the sign of `d` and at most its size that meets `ok` (0 meets every check). -/
def largestChange (d : Int) (ok : Int → Bool) : Int :=
  match ((List.range (d.natAbs + 1)).reverse.map (fun k : Nat => if d < 0 then -(k : Int) else (k : Int))).find? ok with
  | some k => k
  | none => 0

/-- What one item makes of its target: the change that passes checks 3 to 6 of Table 05-2. -/
def txcChange (max drift : Nat) (drifts : Bool) (lo hi v ref d : Int) (sumOk : Int → Bool) : Int :=
  let d3 := clamp (-(max : Int)) max d
  let d4 := if drifts then largestChange d3 (fun k =>
    decide ((v + k - ref).natAbs ≤ drift) || decide ((v + k - ref).natAbs ≤ (v - ref).natAbs)) else d3
  let d5 := clamp lo hi (v + d4) - v
  largestChange d5 sumOk

/-- One item of a request (Table 05-2). An item whose DELTA is 0 changes nothing. -/
def State.txcItem (s : State) (n : Lane) (w : TxcWork) (i : TxcItem) : TxcWork :=
  let d := i.delta.toInt
  let k := i.index.val
  let done (c : Int) (w' : TxcWork) : TxcWork :=
    if c = 0 then { w with refused := true }
    else { w' with changed := w.changed ++ [(i.kind.val, k)], clipped := w.clipped || c != d }
  if d = 0 then w
  else
    match i.kind.val with
    | 0 =>
      if 8 < k then { w with refused := true }
      else
        let v := w.fir.getD k 0
        let c := txcChange (s.maxFir n) (s.get (LN.TX_TXC_CFG_DRIFT_FIR n)) true (-512) 511 v ((s.ln n).tx.refFir.getD k 0) d
          (fun x => x == 0 || magnitude (w.fir.set k (v + x)) ≤ 256)
        done c { w with fir := w.fir.set k (v + c) }
    | 1 =>
      let v := w.pd.getD k 0
      let c := txcChange (s.maxPd n) (s.get (LN.TX_TXC_CFG_DRIFT_PD n)) true (-512) 511 v ((s.ln n).tx.refPd.getD k 0) d
        (fun _ => true)
      done c { w with pd := w.pd.set k (v + c) }
    | 2 =>
      if 3 < k then { w with refused := true }
      else
        let v := w.skew.getD k 0
        let c := txcChange (s.maxSkew n) 0 false (-128) 127 v 0 d (fun _ => true)
        done c { w with skew := w.skew.set k (v + c) }
    | _ => { w with refused := true }

/-- The values of the active bank. -/
def State.txcStart (s : State) (n : Lane) : TxcWork :=
  { fir := s.firOf n false, pd := (List.range 64).map (fun i => s.geti (TXT.PDA_E_ACT n i)),
    skew := (List.range 4).map (fun j => s.geti (TXT.SKA_SK_ACT n j)), changed := [], clipped := false, refused := false }

/-- The items of a request worked through in order (R125). -/
def State.txcWork (s : State) (n : Lane) (items : List TxcItem) : TxcWork :=
  items.foldl (fun w i => s.txcItem n w i) (s.txcStart n)

/-- The minimum interval between applications (R127). -/
def State.txcInterval (s : State) (n : Lane) : Nat := if s.lstate n = 3 then 16 else 65536

/-- A condition of the Deferral table holds (R128). DESIGN CHOICE (log 141): a request that comes while the values of another
wait for their boundary is deferred as well. -/
def State.txcDeferred (s : State) (n : Lane) : Bool :=
  s.get (LN.TX_SINCE_TXC_SINCE_TXC n) < s.txcInterval n || s.flag (LN.TX_STATUS_SHADOW_DIRTY n) ||
    s.flag (LN.TX_STATUS_SWAP_PEND n) || s.flag (LN.TX_STATUS_SLEWING n) || s.braced || (s.ln n).tx.staged.isSome

/-- The RESULT of a worked request (R126): 0 APPLIED, 1 CLIPPED, 3 REFUSED. -/
def TxcWork.result (w : TxcWork) : Nat :=
  if w.refused && w.changed.isEmpty then 3
  else if !w.changed.isEmpty && (w.clipped || w.refused) then 1 else 0

/-- The answer of a request: records, counter and the TXC_DONE of the next superframe (R126). -/
def State.txcAnswer (s : State) (n : Lane) (tag result items : Nat) : State :=
  let t := ((s.set (LN.TX_TXC_LAST_TAG n) tag).set (LN.TX_TXC_LAST_RESULT n) result).set (LN.TX_TXC_LAST_ITEMS n) items
  let u := t.inc (match result with
    | 0 => LN.TX_TXC_CNT0_APPLIED_CNT n | 1 => LN.TX_TXC_CNT0_CLIPPED_CNT n
    | 2 => LN.TX_TXC_CNT1_DEFERRED_CNT n | _ => LN.TX_TXC_CNT1_REFUSED_CNT n)
  let keep (l : LocSt) := l.dones.filter (fun d => l.seen.contains d.1)
  (u.setLoc n (fun l => { l with dones := assocPut (keep l) tag [tag, result, items] })).locPlain n 0x11 [tag, result, items]

/-- The new values of a worked request, each target once. -/
def TxcWork.values (w : TxcWork) : List (Nat × Nat × Int) :=
  w.changed.map (fun c => (c.1, c.2,
    match c.1 with | 0 => w.fir.getD c.2 0 | 1 => w.pd.getD c.2 0 | _ => w.skew.getD c.2 0))

/-- A received TXC_REQ is decided (R126): answered at once, or staged for the next boundary of the transmitted grid. -/
def State.txcRequest (s : State) (n : Lane) (tag : Nat) (items : List TxcItem) : State :=
  if !s.flag (LN.TX_CTRL_TXC_EN n) || !correctable (s.lstate n) then s.txcAnswer n tag 3 0
  else if s.txcDeferred n then s.txcAnswer n tag 2 0
  else
    let w := s.txcWork n items
    if w.changed.isEmpty then s.txcAnswer n tag w.result 0
    else
      let g : TxcStage := { tag := tag, result := w.result, items := w.changed.length, values := w.values }
      s.setTx n (fun x => { x with staged := some g })

/-- A staged correction is applied to both banks (R125), and the interval starts again (R127). -/
def State.txcApply (s : State) (n : Lane) : State :=
  match (s.ln n).tx.staged with
  | none => s
  | some g =>
    let t := s.each g.values (fun v u =>
      match v.1 with
      | 0 => (u.seti (TXT.FIRA_C_ACT n v.2.1) v.2.2).seti (TXT.FIRS_C_SHD n v.2.1) v.2.2
      | 1 => (u.seti (TXT.PDA_E_ACT n v.2.1) v.2.2).seti (TXT.PDS_E_SHD n v.2.1) v.2.2
      | _ => (u.seti (TXT.SKA_SK_ACT n v.2.1) v.2.2).seti (TXT.SKS_SK_SHD n v.2.1) v.2.2)
    let u := (t.off (LN.TX_SINCE_TXC_SINCE_TXC n)).setTx n (fun x => { x with staged := none })
    (u.setLoc n (fun l => { l with txcAge := 0 })).txcAnswer n g.tag g.result g.items

/-- The body of a TXC_REQ (Table 04-3). -/
def txcBody (items : List TxcItem) : List Nat :=
  items.length :: items.flatMap (fun i => [64 * i.kind.val + i.index.val, i.delta.toNat])

/-- The items of a received TXC_REQ body. -/
def txcItems (body : List Nat) : List TxcItem :=
  (List.range (min 6 (body.getD 0 0))).map (fun v =>
    { kind := Fin.ofNat 4 (body.getD (1 + 2 * v) 0 / 64), index := Fin.ofNat 64 (body.getD (1 + 2 * v) 0),
      delta := BitVec.ofNat 8 (body.getD (2 + 2 * v) 0) })

/-- A request is sent (R124): to a partner that accepts them, one outstanding at a time. -/
def State.txcSend (s : State) (n : Lane) (items : List TxcItem) : State :=
  if !bit (s.ln n).loc.caps 0 || (s.ln n).tx.txcOut.isSome then s
  else if s.txqFull n then s.on (LN.LOC_STATUS_TXQ_FULL n)
  else (s.locTagged n 0x10 (txcBody items)).setTx n (fun x => { x with txcOut := some (nextTag (s.ln n).loc.tagCnt) })

/-! ## A received message and a sent superframe (R101 to R103) -/

/-- A message that is accepted and not a repetition acts by its type (Table 04-2). -/
def State.locAct (s : State) (n : Lane) (type tag : Nat) (body : List Nat) : State :=
  match type with
  | 0x01 => s.helloIn n false body
  | 0x02 => s.helloIn n true body
  | 0x10 => s.txcRequest n tag (txcItems body)
  | 0x11 => s.txcDone n (body.getD 0 0)
  | 0x20 => s.daccalHeard n (body.getD 0 0) (body.getD 1 0)
  | 0x21 => s.setEq n (fun e => { e with locFreeze := beVal (body.take 2) })
  | 0x30 => s.setLoc n (fun l => { l with peerStats := padTo 14 body })
  | 0x80 => s.userIn n body
  | _ => s

/-- A message slot is received (R102). `prevail` is false for a message that a higher slot of the same superframe overrides:
it is acknowledged and has no effect (R101). -/
def State.locMessage (s : State) (n : Lane) (prevail : Bool) (type tag : Nat) (body : List Nat) : State :=
  if type = 0 then s
  else if !locKnown type || locSkipped type body then s.locBad n
  else if tag != 0 && (s.ln n).loc.seen.contains tag then s.locRepeat n type tag
  else if prevail then (s.locAccept n tag).locAct n type tag body
  else s.locAccept n tag

/-- The slots 0 to 3 of a payload, as (type, tag, body). -/
def sfSlots (payload : List Nat) : List (Nat × Nat × List Nat) :=
  (List.range 4).map (fun k =>
    let b := (payload.drop (8 + 16 * k)).take 16
    (b.getD 0 0, b.getD 1 0, b.drop 2))

/-- A later slot's message acts on the same thing as a message of type `type` and tag `tag`: it is of the same type, is not
skipped, and is no repetition, of an earlier superframe or of that message itself (R101, R102). -/
def State.overrides (s : State) (n : Lane) (type tag : Nat) (m : Nat × Nat × List Nat) : Bool :=
  m.1 == type && !locSkipped m.1 m.2.2 && (m.2.1 == 0 || (m.2.1 != tag && !(s.ln n).loc.seen.contains m.2.1))

/-- The messages of a superframe act in slot order (R101). -/
def State.sfMessages (s : State) (n : Lane) (slots : List (Nat × Nat × List Nat)) : State :=
  match slots with
  | [] => s
  | m :: rest => (s.locMessage n (!rest.any (s.overrides n m.1 m.2.1)) m.1 m.2.1 m.2.2).sfMessages n rest

/-- A superframe with a good CRC: its header, then its slots (R101, Table 04-1). DESIGN CHOICE (log 142): one of another
LOC_VER counts in LOC_SF_OK and LOC_BAD_TYPE, and leaves RX_SEQ, and with it ACK_SEQ, as they are. -/
def State.sfGood (s : State) (n : Lane) (payload : List Nat) : State :=
  let t := s.count n (fun c => { c with sfOk := satInc 32 c.sfOk })
  if payload.getD 0 0 / 16 % 16 != 1 then t.locBad n
  else
    let u := ((t.set (LN.LOC_STATUS_RX_SEQ n) (payload.getD 1 0)).set (LN.LOC_STATUS_PEER_STATE n) (payload.getD 0 0 % 16)).set
      (LN.LOC_STATUS_PEER_FLAGS n) (payload.getD 2 0 / 4)
    let v := u.each ([payload.getD 4 0, payload.getD 5 0].filter (· != 0)) (fun tag x => x.locAcked n tag)
    v.sfMessages n (sfSlots payload)

/-- The superframe received last: its marker, payload bytes and CRC from the 640 pad bits (R100). -/
def State.sfMark (s : State) (n : Lane) : Nat := bitsVal ((s.ln n).loc.pads.take 32)
def State.sfPayload (s : State) (n : Lane) : List Nat := bitsBytes 72 ((s.ln n).loc.pads.drop 32)
def State.sfCrc (s : State) (n : Lane) : Nat := bitsVal (((s.ln n).loc.pads.drop 608).take 32)

/-- A superframe is judged by its marker, then by its CRC (R99, R101). In the search a marker counts with the one before if
it stands one superframe after it, at the same position. -/
def State.sfJudge (s : State) (n : Lane) (same : Bool) : State :=
  let good := markerDistance (s.sfMark n) ≤ 4
  if !s.flag (LN.FRM_STATUS_SF_LOCK n) then
    if good then
      if (s.ln n).loc.mkGood = 1 ∧ same = true then
        ((s.on (LN.FRM_STATUS_SF_LOCK n)).setLoc n (fun l => { l with mkGood := 0, mkBad := 0 })).helloStart n
      else s.setLoc n (fun l => { l with mkGood := 1 })
    else s.setLoc n (fun l => { l with mkGood := 0 })
  else if !good then
    let t := s.count n (fun c => { c with markerErr := satInc 16 c.markerErr })
    if (s.ln n).loc.mkBad = 2 then t.sfLose n else t.setLoc n (fun l => { l with mkBad := l.mkBad + 1 })
  else
    let t := s.setLoc n (fun l => { l with mkBad := 0 })
    if crc32 (s.sfPayload n) = s.sfCrc n then t.sfGood n (s.sfPayload n)
    else (t.on (LN.LOC_STATUS_CRC_ERR n)).count n (fun c => { c with crcErr := satInc 32 c.crcErr })

/-- A superframe of 640 pad bits ends (R99, R100). -/
def State.superframe (s : State) (n : Lane) : State :=
  if !s.hunts n || !s.flag (LN.FRM_STATUS_FRAME_LOCK n) || (s.ln n).loc.pads.length != 640 then s
  else ((s.setLoc n (fun l => { l with sfAge := 0 })).boostCount n).sfJudge n ((s.ln n).loc.sfAge == 64)

/-- The header of the superframe a lane sends (Table 04-1). -/
def State.sfHeader (s : State) (n : Lane) (ack0 ack1 : Nat) : List Nat :=
  let lossy := s.lstate n = 5 ∨ s.lstate n = 6
  let loss (j : Host) : Nat := if lossy ∧ s.get (LST.KP4_STATUS_AM_LOCK j 0) = 0 then 1 else 0
  [16 + s.lstate n, (s.ln n).loc.txSeq,
   128 * s.get (LN.FRM_STATUS_FRAME_LOCK n) + 64 * s.get (LN.FRM_STATUS_SF_LOCK n) + 32 * s.get (LN.FRM_STATUS_DEC_CLEAN n) +
     16 * s.get (LN.RX_STATUS_LOS_NOW n) + 8 * loss (s.hostA n) + 4 * loss (s.hostB n),
   s.get (LN.LOC_STATUS_RX_SEQ n), ack0, ack1, n.val + 8 * s.get TTH.STATUS_ID, 0]

/-- The messages of the next superframe: a DACCAL_ANN of the step in flight, then what is due, by priority, at most
four (R103, R104). -/
def State.sfChoice (s : State) (n : Lane) : List LocMsg :=
  let x := (s.ln n).tx
  let ann := if x.dac.isSome && x.dacNext != 0 then
    [{ tag := 0, type := 0x20, body := [x.dacNext, s.get (LN.TX_DACCAL_STEP_ID n)], due := true, age := 0, tries := 0 : LocMsg }]
    else []
  (byPriority (ann ++ (s.ln n).loc.plain ++ (s.ln n).loc.txq.filter (·.due))).take 4

/-- The messages sent leave the untagged queue, or wait for their acknowledgement; every other waiting message ages. -/
def State.sfSent (s : State) (n : Lane) (ms : List LocMsg) : State :=
  s.setLoc n (fun l =>
    { l with plain := l.plain.filter (fun m => !ms.contains m)
             txq := l.txq.map (fun m => if ms.contains m then { m with due := false, age := 0 }
                                        else if m.due then m else { m with age := m.age + 1 })
             txcAge := if ms.any (fun m => m.type == 0x10) then 0 else min 1024 (l.txcAge + 1)
             acks := l.acks.drop 2, txSeq := (l.txSeq + 1) % 256 })

/-- A superframe time passes for the interval of R127. -/
def State.sinceTxc (s : State) (n : Lane) : State :=
  s.set (LN.TX_SINCE_TXC_SINCE_TXC n) (min 0x10000 (s.get (LN.TX_SINCE_TXC_SINCE_TXC n) + 1))

/-- The lane sends one superframe (R103): it is assembled, a countdown sent moves on, an untagged USER message sent
clears USER_SEND, and SINCE_TXC counts it (R127). A line-lane generator replaces the frames: nothing of them is sent
(R185). -/
def State.sfSend (s : State) (n : Lane) : State :=
  if s.lstate n = 0 ∨ s.lstate n = 7 then s
  else if s.flag (PRBS.CTRL_GEN_EN (PrbsLane.line n).base) then s.sinceTxc n
  else
    let s := s.dacNextUp n
    let ms := s.sfChoice n
    let acks := (s.ln n).loc.acks
    let payload := s.sfHeader n (acks.getD 0 0) (acks.getD 1 0) ++ (ms.flatMap slotBytes) ++
      List.replicate (16 * (4 - ms.length)) 0
    let t := ((s.sfSent n ms).setLoc n (fun l => { l with sent := payload ++ beBytes 4 (crc32 payload) })).setTx n
      (fun x => { x with cw := 0, frm := 0 })
    let u := if ms.any (fun m => m.type == 0x20) then
        (t.set (LN.TX_DACCAL_COUNTDOWN n) (s.ln n).tx.dacNext).setTx n (fun x => { x with dacNext := x.dacNext - 1 }) else t
    let v := if ms.any (fun m => m.type == 0x80 && m.tag == 0) then u.off (LN.LOC_USER_CMD_USER_SEND n) else u
    v.sinceTxc n

/-- A USER message that is queued and not yet sent gives way to a newer one (R103). -/
def State.userDrop (s : State) (n : Lane) : State :=
  s.setLoc n (fun l => { l with plain := l.plain.filter (fun m => m.type != 0x80),
                                txq := l.txq.filter (fun m => !(m.type == 0x80 && m.due && m.tries == 0)) })

/-- USER_SEND (R103): USER_TX is queued, tagged by USER_ACK; a refused message clears USER_SEND at once. -/
def State.userSend (s : State) (n : Lane) : State :=
  let s := s.userDrop n
  let body := (List.range 3).flatMap (fun i => beBytes 4 (s.get (LN.LOC_USER_TX_USER_TX n i))) ++
    beBytes 2 (s.get (LN.LOC_USER_TX_USER_TX n 3))
  let t := s.on (LN.LOC_USER_CMD_USER_SEND n)
  if s.flag (LN.LOC_CTRL_USER_ACK n) then
    if s.txqFull n then (s.locTagged n 0x80 body).off (LN.LOC_USER_CMD_USER_SEND n) else t.locTagged n 0x80 body
  else t.locPlain n 0x80 body

/-- The reference set is the set just seeded (R125). -/
def State.refTake (s : State) (n : Lane) : State :=
  s.setTx n (fun x => { x with refFir := s.firOf n false, refPd := (List.range 64).map (fun i => s.geti (TXT.PDA_E_ACT n i)) })

end Sys2Proof.Machine
end

