-- ==== Sys2Proof/Machine/CalOps.lean ====
section
/-!
DEFINITION. Live calibration (chapter 6): plausibility and rejections, slots and handovers, refinement, foreground and
seeded starts, refreshes, calibration sets in SRAM, and the token of protection pairs.
-/

namespace Sys2Proof.Machine

open Sys2Proof

/-! ## Temperature (R154, R155, R284) -/

/-- The sensor CAL uses for lane `n`: DSn, or DS8 while DSn is faulted (R284). -/
def State.laneSensor (s : State) (n : Lane) : Nat := if s.flag (THM.OD_FAULT n) then 8 else n

/-- The reading CAL uses, in 0.125 °C. -/
def State.laneTemp (s : State) (n : Lane) : Int := s.geti (THM.OD_TEMP (s.laneSensor n))

/-- The rate of change of the lane's sensor is above RATE_FAST; 0x00 acts as 0x01 (Table 06-7). -/
def State.laneFast (s : State) (n : Lane) : Bool :=
  max 1 (s.get CAL.TEMP_RATE_FAST) < (s.geti (THM.OD_RATE (s.laneSensor n))).natAbs

/-- CAL_DT in force (Table 06-7). -/
def State.calDt (s : State) : Nat := clampN 4 0x80 (s.get CAL.TEMP_CAL_DT)

/-! ## Plausibility (R152, R153) -/

/-- A result for a slice lies within its limit; a limit beyond the hard bound acts as that bound (R152). -/
def State.plausible (s : State) (q : Nat) (v : Int) : Bool :=
  match q with
  | 0 => decide ((max 0x2CCD (s.get CAL.LIMIT0_GAIN_MIN) : Nat) ≤ v) && decide (v ≤ (min 0x599A (s.get CAL.LIMIT0_GAIN_MAX) : Nat))
  | 1 => v.natAbs ≤ min 0x600 (s.get CAL.LIMIT1_OFFSET_LIM)
  | 2 => v.natAbs ≤ min 0x12C (s.get CAL.LIMIT1_SKEW_LIM)
  | _ => v.natAbs ≤ min 0x5DC (s.get CAL.LIMIT2_BW_LIM)

/-- The consecutive-rejection count of a unit and quantity. -/
def State.rejRun (s : State) (n : Lane) (unit q : Nat) : Nat := (assocFind (s.ln n).cal.rej (8 * unit + q)).getD 0

/-- A result is rejected (R152): counted and recorded. -/
def State.rejected (s : State) (n : Lane) (unit q : Nat) : State :=
  ((((s.inc (CAL.LANE_CNT0_REJECT_CNT n)).on (CAL.LANE_EVENTS_REJECT n)).set (CAL.LANE_LAST_REJ_SLICE n) unit).set
    (CAL.LANE_LAST_REJ_QTY n) q).set (CAL.LANE_LAST_REJ_RUN n) (min 3 (s.rejRun n unit q))

/-- A reference result of a unit is rejected: its consecutive count goes up (R153). -/
def State.refRejected (s : State) (n : Lane) (unit q : Nat) : State :=
  let r := min 3 (s.rejRun n unit q + 1)
  (s.setCal n (fun c => { c with rej := assocPut c.rej (8 * unit + q) r })).rejected n unit q

/-- A reference result of a unit is accepted: its consecutive count is 0 again. -/
def State.refAccepted (s : State) (n : Lane) (unit q : Nat) : State :=
  s.setCal n (fun c => { c with rej := assocDel c.rej (8 * unit + q) })

/-- A slice has a count of three. -/
def State.condemned (s : State) (n : Lane) (i : Nat) : Bool := [0, 1, 2, 3].any (fun q => s.rejRun n i q == 3)

/-- A sub-DAC with a count of three keeps its last trim, and DAC background calibration of the lane stops (R153). -/
def State.dacJudge (s : State) (n : Lane) (j : Nat) : State :=
  if s.rejRun n (0x50 + j) 4 = 3 ∨ s.rejRun n (0x50 + j) 5 = 3 then s.setCal n (fun c => { c with dacStop := true }) else s

/-- Corrections of a slice that no longer change (R153). -/
def State.sliceFrozen (s : State) (n : Lane) (i : Nat) : Bool := (s.ln n).cal.frozen.contains i

/-- Write a correction of a slice. A serving slice ramps toward it; any other takes it at once (R137, R138). -/
def State.correct (s : State) (n : Lane) (i q : Nat) (v : Int) : State :=
  let t := if s.slice n i = 0 ∧ (assocFind (s.ln n).cal.applied i).isNone then
      s.setCal n (fun c => { c with applied := assocPut c.applied i ([0, 1, 2, 3].map (fun r => 64 * s.sliceGet n i r)) })
    else s
  t.set (sliceField n i q) (ucode 16 v)

/-- The refinement accumulators of a slice restart (R145, R148): samples that the present window already holds of it count
for no slice any more. -/
def State.accRestart (s : State) (n : Lane) (i : Nat) : State :=
  s.setCal n (fun c => { c with
    acc := assocDel c.acc i
    win := c.win.map (fun w => if w.x.slice = i then { w with x := { w.x with slice := 65 } } else w) })

/-- A reference result of a slice: the four quantities are checked one by one (R141, R145, R147, R153), and a correction that
is written restarts the slice's accumulators (R148). -/
def State.refResult (s : State) (n : Lane) (i : Nat) (vs : List Int) : State :=
  s.each (vs.zip (List.range 4)) (fun v u =>
    if u.plausible v.2 v.1 then
      (if u.sliceFrozen n i then u else (u.correct n i v.2 v.1).accRestart n i).refAccepted n i v.2
    else u.refRejected n i v.2)

/-- The largest changes per beat of Table 06-1, in 1/64 of the slice-file units. -/
def rampBound (q : Nat) : Nat := match q with | 0 => 128 | 2 => 1 | _ => 64

/-- Every applied correction moves toward its slice file at a beat boundary; none moves in the brace (R137, R162). -/
def State.correctBeat (s : State) (n : Lane) : State :=
  if s.braced then s
  else
    s.setCal n (fun c =>
      { c with applied := c.applied.filterMap (fun p =>
          let v := (p.2.zip (List.range 4)).map (fun a => stepToward (rampBound a.2) a.1 (64 * s.sliceGet n p.1 a.2))
          if (v.zip (List.range 4)).all (fun a => a.1 == 64 * s.sliceGet n p.1 a.2) then none else some (p.1, v)) })

/-! ## Slice states (Table 02-1, R47) -/

/-- The coarsest ladder step of the serving slices (R149); 80 fs where none serves. -/
def State.showLadder (s : State) (n : Lane) : State :=
  let serving := (List.range 65).filter (fun i => s.slice n i == 0)
  s.set (CAL.LANE_STATUS_SKEW_STEP n)
    (if serving.isEmpty then 0 else serving.foldl (fun a i => min a ((assocFind (s.ln n).cal.ladder i).getD 0)) 3)

/-- Put a slice in a state; POSITION is meaningful in SERVING and SHADOW only. A slice that changes state restarts its
accumulators (R148). -/
def State.sliceTo (s : State) (n : Lane) (i st pos : Nat) : State :=
  let t := ((s.set (SLC.W0_STATE n i) st).set (SLC.W0_POSITION n i) (if st ≤ 1 then pos else 0)).setB
    (SLC.W0_POS_VALID n i) (st ≤ 1)
  let u := (t.accRestart n i).showLadder n
  if st = 0 then u else u.setCal n (fun c => { c with applied := assocDel c.applied i })

/-- All slices are put in service after a start: home slices serve, the spare stands IDLE; a SUSPECT slice stays out,
and the spare serves for it. -/
def State.slicesServe (s : State) (n : Lane) : State :=
  let t := (s.each (List.range 64) (fun i u => if u.slice n i = 4 then u else u.sliceTo n i 0 i)).setB
    (CAL.LANE_STATUS_SPARE_USED n) ((List.range 65).any (fun i => s.slice n i == 4))
  if t.slice n 64 = 4 then t
  else match (List.range 64).find? (fun i => t.slice n i == 4) with
    | some k => t.sliceTo n 64 0 k
    | none => t.sliceTo n 64 3 0

/-- All slices stand in one state, SUSPECT ones apart. -/
def State.slicesAll (s : State) (n : Lane) (st : Nat) : State :=
  s.each (List.range 65) (fun i u => if u.slice n i = 4 then u else u.sliceTo n i st 0)

/-- A slice is marked SUSPECT (R47, R153): disconnected, alarmed; SP serves its position for good. -/
def State.suspect (s : State) (n : Lane) (i : Nat) : State :=
  let t := ((((s.sliceTo n i 4 0).on (LN.RX_STATUS_SUSPECT_ANY n)).on (CAL.LANE_EVENTS_SUSPECT_NEW n)).alarm 0x06 n i).on
    (CAL.LANE_STATUS_SPARE_USED n)
  if i = 64 then t else t.sliceTo n 64 0 i

/-- No spare remains: the slice keeps serving with its last corrections (R153). -/
def State.noSpare (s : State) (n : Lane) (i : Nat) : State :=
  ((s.setCal n (fun c => { c with frozen := if c.frozen.contains i then c.frozen else i :: c.frozen })).on
    (CAL.LANE_EVENTS_NO_SPARE n)).alarm 0x07 n i

/-- A slice whose count has reached three: SUSPECT while the spare is free, otherwise frozen (R153). -/
def State.condemn (s : State) (n : Lane) (i : Nat) : State :=
  if !s.condemned n i || s.sliceFrozen n i || s.slice n i = 4 then s
  else if s.flag (CAL.LANE_STATUS_SPARE_USED n) then s.noSpare n i
  else s.suspect n i

/-! ## Slots (R143 to R147) -/

/-- Slots, steps and refreshes run in TRAIN, LOCKED, TRAFFIC and ONE_WAY, outside the brace and unless quiesced. -/
def State.calRuns (s : State) (n : Lane) : Bool := carries (s.lstate n) && !s.braced && !(s.ln n).cal.quiesced

/-- The other port of a pair on this device. -/
def State.pairMate (s : State) (k : PortId) : Option PortId :=
  (List.finRange 8).find? (fun m => m != k && s.flag (CAL.PAIR_PAIRED m) && s.get (CAL.PAIR_PAIR_ID m) == s.get (CAL.PAIR_PAIR_ID k))

/-- A member of a stack cannot reach the anchor (R161). -/
def State.noAnchor (s : State) : Bool := s.variant && !s.flag TTH.STATUS_ROLE && !s.bitOf TTH.STATUS_REACH 0

/-- The pair's other port is on another device. DESIGN CHOICE (log 194): a member without the anchor has lost it for these
ports only, and a pair of its own two ports goes on under its own arbiter. -/
def State.pairedAway (s : State) (k : PortId) : Bool := s.flag (CAL.PAIR_PAIRED k) && (s.pairMate k).isNone

/-- The port of a lane may start a governed operation: it is unpaired, or holds its pair's token and the lane has not yet
made the one operation that the grant covers (R160). -/
def State.calToken (s : State) (n : Lane) : Bool :=
  match s.portOf n with
  | some k => !s.flag (CAL.PAIR_PAIRED k) ||
      (s.bitOf CAL.TOKEN_STATUS_HELD k && (s.ln n).cal.granted && !(s.noAnchor && s.pairedAway k))
  | none => false

/-- The lane makes the operation that the grant covers (R160). -/
def State.tokenSpend (s : State) (n : Lane) : State := s.setCal n (fun c => { c with granted := false })

/-- A position of the run that gets a slot: a home slice or SP that is not SUSPECT, or, with the spare used, one of the
64 positions (R143, R147). -/
def State.visits (s : State) (n : Lane) (i : Nat) : Bool :=
  if s.flag (CAL.LANE_STATUS_SPARE_USED n) then i < 64 else s.slice n i != 4

/-- The slices of a full run from the one next in order. -/
def runFrom (k : Nat) : List Nat := (List.range 65).map (fun i => (k + i) % 65)

/-- The positions of the run that are left. -/
def State.runLeft (s : State) (n : Lane) : List Nat := (s.ln n).cal.todo.filter (s.visits n)

/-- Every slice returns to 80 fs (R149). DESIGN CHOICE (log 192): the sign of its previous skew result is forgotten with the
step it was taken at. -/
def State.ladderReset (s : State) (n : Lane) : State :=
  (s.setCal n (fun c => { c with ladder := [], lastSign := [] })).set (CAL.LANE_STATUS_SKEW_STEP n) 0

/-- The slice that serves position `k`. -/
def State.server (s : State) (n : Lane) (k : Nat) : Nat := if s.slice n k = 4 then 64 else k

/-! ## Calibration sets (R156 to R158) -/

/-- The SRAM address of point `p` of lane `n`. -/
def State.setAddr (s : State) (n : Lane) (p : Nat) : Nat := s.get CAL.SET_BASE_BASE + 0x4000 * n.val + 0x400 * p

/-- A 16-bit signed field of a record. -/
def State.recI (s : State) (a : Nat) : Int := sext 16 (readLE s.image a 2)

/-- The bytes of a memory range. -/
def bytesAt (m : List Host.Cell) (a n : Nat) : List Nat :=
  match n with
  | 0 => []
  | n + 1 => (byteAt m a).toNat :: bytesAt m (a + 1) n

/-- The set of a lane is read from SRAM: the errors of its words are met (R380, R385). -/
def State.setRead (s : State) (n : Lane) : State := s.sweep Initiator.gondola.code (inRange (s.setAddr n 0) 0x4000)

/-- A point is valid: its VALID bit is set and its CRC matches (R156); a record with a poisoned word is not read (R385). -/
def State.pointOk (s : State) (n : Lane) (p : Nat) : Bool :=
  let a := s.setAddr n p
  !s.mem.poison.any (inRange a 1024) && bit (readLE s.image a 4) 0 && crc32 (bytesAt s.image a 0x3FC) == readLE s.image (a + 0x3FC) 4

/-- The valid points of a lane. -/
def State.points (s : State) (n : Lane) : List Nat := (List.range 16).filter (s.pointOk n)

/-- The temperature of a point. -/
def State.pointTemp (s : State) (n : Lane) (p : Nat) : Int := s.recI (s.setAddr n p + 2)

/-- The layout words of a point equal the lane's present layout (R158). -/
def State.layoutMatches (s : State) (n : Lane) (p : Nat) : Bool :=
  let a := s.setAddr n p
  readLE s.image (a + 4) 4 == (List.range 5).foldl (fun v q => v + s.get (LN.TAP_MAP_VALID n q) * 2 ^ (6 * q + 5)) 0 &&
    (List.range 5).all (fun q => readLE s.image (a + 8 + 4 * q) 4 ==
      s.get (EQC.SLOT_KIND n q) + 0x10000 * s.get (EQC.SLOT_START n q))

/-- The points that hold a part (1 slice, 2 DAC, 3 transmit, 4 equaliser). -/
def State.partPoints (s : State) (n : Lane) (part : Nat) : List Nat :=
  (s.points n).filter (fun p => bit (readLE s.image (s.setAddr n p) 4) part && (part != 4 || s.layoutMatches n p))

/-- The point of a list that is nearest in temperature on one side of `t` (above or at, or below or at). -/
def State.nearest (s : State) (n : Lane) (ps : List Nat) (t : Int) (above : Bool) : Option Nat :=
  (ps.filter (fun p => if above then decide (t ≤ s.pointTemp n p) else decide (s.pointTemp n p ≤ t))).foldl
    (fun b p => match b with
      | none => some p
      | some x => if (s.pointTemp n p - t).natAbs < (s.pointTemp n x - t).natAbs then some p else some x) none

/-- The two points between which a part is interpolated at `t`; the same one twice where there is one side only. -/
def State.bracket (s : State) (n : Lane) (part : Nat) (t : Int) : Option (Nat × Nat) :=
  let ps := s.partPoints n part
  match s.nearest n ps t false, s.nearest n ps t true with
  | some a, some b => some (a, b)
  | some a, none => some (a, a)
  | none, some b => some (b, b)
  | none, none => none

/-- A field of the interpolated set (R158): linear between the two points, rounded half to even. -/
def State.interp (s : State) (n : Lane) (t : Int) (ab : Nat × Nat) (read : Nat → Int) : Int :=
  let x := read (s.setAddr n ab.1)
  let y := read (s.setAddr n ab.2)
  let d := s.pointTemp n ab.2 - s.pointTemp n ab.1
  if d = 0 then x else roundDiv (x * d + (y - x) * (t - s.pointTemp n ab.1)) d.toNat

/-- The record bytes of the lane's present values (Table 06-4), the parts of transmit and equaliser only in a full
capture. -/
def State.recordBytes (s : State) (n : Lane) (full : Bool) (t : Int) : List Nat :=
  let le (w v : Nat) : List Nat := (List.range w).map (fun i => v / 256 ^ i % 256)
  let i16 (x : Int) : List Nat := le 2 (ucode 16 x)
  le 2 (if full then 0x1F else 0x07) ++ i16 t ++
    le 4 ((List.range 5).foldl (fun v q => v + s.get (LN.TAP_MAP_VALID n q) * 2 ^ (6 * q + 5)) 0) ++
    (List.range 5).flatMap (fun q => le 4 (s.get (EQC.SLOT_KIND n q) + 0x10000 * s.get (EQC.SLOT_START n q))) ++
    le 4 s.now ++
    (List.range 65).flatMap (fun i => (List.range 4).flatMap (fun q => i16 (s.sliceGet n i q))) ++
    (List.range 4).flatMap (fun j => le 2 (s.get (CAL.DTRIM_DGAIN n j)) ++ i16 (s.geti (CAL.DTRIM_DOFF n j))) ++
    (if full then
      (List.range 64).flatMap (fun i => i16 (s.geti (TXT.PDA_E_ACT n i))) ++
      (List.range 9).flatMap (fun i => i16 (s.geti (TXT.FIRA_C_ACT n i))) ++
      (List.range 4).map (fun j => s.get (TXT.SKA_SK_ACT n j)) ++ [0, 0] ++
      (List.range 112).flatMap (fun i => i16 (s.geti (EQC.FFE_C n i))) ++
      (List.range 20).flatMap (fun k => i16 (s.geti (EQC.VOLT_W n k))) ++
      i16 (s.geti (EQC.T1_H1 n)) ++ i16 (s.geti (EQC.T2_H2 n)) ++ le 4 (s.get (LN.AGC_STATUS_GAIN n))
    else List.replicate (128 + 24 + 224 + 40 + 4 + 4) 0) ++ List.replicate 28 0

/-- The point a capture at `t` goes to (R157): one within 1.0 °C, else a free record, else the nearest. -/
def State.capturePoint (s : State) (n : Lane) (t : Int) : Nat :=
  let ps := s.points n
  match ps.find? (fun p => (s.pointTemp n p - t).natAbs ≤ 8) with
  | some p => p
  | none =>
    match (List.range 16).find? (fun p => !ps.contains p) with
    | some p => p
    | none => (ps.foldl (fun b p => match b with
        | none => some p
        | some x => if (s.pointTemp n p - t).natAbs < (s.pointTemp n x - t).natAbs then some p else some x) none).getD 0

/-- The lane's values are captured (R157). -/
def State.capture (s : State) (n : Lane) (full : Bool) (t : Int) : State :=
  if !s.flag CAL.CTRL_CAPTURE_EN then s
  else
    let s := s.setRead n
    let b := s.recordBytes n full t
    let u := s.memPutBytes (s.setAddr n (s.capturePoint n t)) (b ++ [0, 1, 2, 3].map (fun i => crc32 b / 256 ^ i % 256))
    u.setCal n (fun c => { c with changed := true })

/-- A full run completes (R154, R157): T_LAST takes the reading of its start, and the set is captured, all of it only in
TRAFFIC with DEC_CLEAN = 1. -/
def State.runComplete (s : State) (n : Lane) (rotation : Bool) : State :=
  let t := s.seti (CAL.LANE_LAST_T_LAST n) (s.ln n).cal.runTemp
  t.capture n (rotation && s.lstate n == 5 && s.flag (LN.FRM_STATUS_DEC_CLEAN n)) (s.ln n).cal.runTemp

/-! ## DAC steps of CAL (R150, R151) -/

/-- An interpolation step that waits is requested once nothing holds it back (R151, R160). -/
def State.pdTry (s : State) (n : Lane) : State :=
  match (s.ln n).cal.pdPend with
  | none => s
  | some es =>
    if s.flag (LN.TX_STATUS_SHADOW_DIRTY n) || s.flag (LN.TX_STATUS_SWAP_PEND n) || s.flag (LN.TX_STATUS_SLEWING n) ||
        !s.calToken n || !s.calRuns n || s.lstate n == 6 then s
    else ((s.setCal n (fun c => { c with pdPend := none })).tokenSpend n).dacRequest n (.table es)

/-- The interpolation step of a refresh (R151): rejected as a whole if an entry would change by more than PD_LIM. -/
def State.interpolate (s : State) (n : Lane) : State :=
  if (s.ln n).cal.pdStop || s.lstate n == 6 then s
  else
    match s.bracket n 3 (s.laneTemp n) with
    | none => s
    | some ab =>
      let es := (List.finRange 64).map (fun i => (i, s.interp n (s.laneTemp n) ab (fun a => s.recI (a + 0x238 + 2 * i.val))))
      if es.any (fun e => min 8 (s.get CAL.LIMIT2_PD_LIM) < (e.2 - s.geti (TXT.PDA_E_ACT n e.1)).natAbs) then
        let t := s.refRejected n 0x7F 6
        if t.rejRun n 0x7F 6 = 3 then t.setCal n (fun c => { c with pdStop := true }) else t
      else
        ((s.refAccepted n 0x7F 6).setCal n (fun c =>
          { c with pdPend := some (es.map (fun e => (e.1, BitVec.ofInt 10 e.2))) })).pdTry n

/-- A trim step may be requested (R150, R160): the lane has its token, and DAC_INT superframes have passed since the last
request, or that step was cancelled. -/
def State.trimDue (s : State) (n : Lane) : Bool :=
  s.calToken n && ((s.ln n).cal.dacCancelled || decide (max 0x40 (s.get CAL.REFINE_DAC_INT) ≤ (s.ln n).cal.trimAge))

/-- A sub-DAC estimate completes (R150): checked, limited to ±4 LSB and requested as a step. A step that may not be
requested now follows a later estimate. -/
def State.dacEstimate (s : State) (n : Lane) (j : Fin 4) (gain off : Int) : State :=
  let g0 : Int := (s.get (CAL.DTRIM_DGAIN n j) : Nat)
  let o0 := s.geti (CAL.DTRIM_DOFF n j)
  if !s.flag CAL.CTRL_DACBG_EN || !s.calRuns n || (s.ln n).cal.dacStop then s
  else if gain = g0 ∧ off = o0 then (s.refAccepted n (0x50 + j.val) 4).refAccepted n (0x50 + j.val) 5
  else
    let g1 := g0 + clamp (-4) 4 (gain - g0)
    let o1 := o0 + clamp (-4) 4 (off - o0)
    let gOk := (g1 - 0x800).natAbs ≤ min 0xCD (s.get CAL.LIMIT3_DGAIN_DEV)
    let oOk := o1.natAbs ≤ min 0x7F (s.get CAL.LIMIT3_DOFF_LIM)
    let t := if gOk then s.refAccepted n (0x50 + j.val) 4 else s.refRejected n (0x50 + j.val) 4
    let u := if oOk then t.refAccepted n (0x50 + j.val) 5 else t.refRejected n (0x50 + j.val) 5
    let g := if gOk then g1 else g0
    let o := if oOk then o1 else o0
    let w := u.dacJudge n j
    if (w.ln n).cal.dacStop || (g == g0 && o == o0) || !s.trimDue n then w
    else ((w.setCal n (fun c => { c with trimAge := 0, dacCancelled := false })).tokenSpend n).dacRequest n
      (.trim j (BitVec.ofInt 12 g) (BitVec.ofInt 8 o))

/-! ## The course of a slot -/

/-- The slot in progress ends; the slice next in order follows (R144). A run that is complete counts a rotation, and a
paced one is a full run (R154). -/
def State.slotEnd (s : State) (n : Lane) : State :=
  let k := (s.ln n).cal.slot
  let t := (s.off (CAL.LANE_STATUS_SLOT_ACTIVE n)).setCal n (fun c =>
    { c with phase := none, todo := c.todo.dropWhile (fun i => i != k) |>.drop 1, next := (k + 1) % 65 })
  if (t.runLeft n).isEmpty then
    let u := t.inc (CAL.LANE_CNT0_ROT_CNT n)
    if s.get (CAL.LANE_STATUS_MODE n) = 3 then u.runComplete n true else u
  else t

/-- The slot in progress is abandoned (R146): a slice at the reference returns with its old corrections, and the next
slot visits it again. -/
def State.slotDrop (s : State) (n : Lane) : State :=
  let k := (s.ln n).cal.slot
  let t := (s.off (CAL.LANE_STATUS_SLOT_ACTIVE n)).setCal n (fun c => { c with phase := none })
  match (s.ln n).cal.phase with
  | none => s
  | some .inService => t
  | some .shadowIn => t.sliceTo n 64 3 0
  | some _ => if k = 64 then t.sliceTo n 64 3 0 else ((t.sliceTo n k 0 k).sliceTo n 64 3 0).handMark n

/-- The slot in progress is to be abandoned (R146). While gross-overload recovery runs, a slice that is to serve its position
again waits for its end (R46), and the slot counts as ended only then. -/
def State.slotAbandon (s : State) (n : Lane) : State :=
  let back := (s.ln n).cal.phase == some .reference || (s.ln n).cal.phase == some .shadowOut
  if back && (s.ln n).cal.slot != 64 && s.flag (LN.RX_STATUS_DCR_BUSY n) then
    s.setRx n (fun r => { r with abandPend := true })
  else s.slotDrop n

/-- A rotation slot begins and SLOT shows its slice, in service the one that serves the position (R143, R147, Table 06-9), `us` after the end of the slot before it: a paced one only once ROT_GAP has passed
(R144), and where no refresh waits for its start (R154). -/
def State.slotBegin (s : State) (n : Lane) (us : Nat) : State :=
  let refresh := s.get (CAL.LANE_STATUS_MODE n) = 4
  if !(refresh || decide (msUs 0 (s.get CAL.TEMP_ROT_GAP) ≤ us)) || !s.calRuns n || !s.calToken n || (s.ln n).cal.phase.isSome ||
      !(refresh || (s.flag CAL.CTRL_BG_EN && !s.flag (CAL.LANE_STATUS_REFRESH_PEND n))) then s
  else
    let t := if (s.runLeft n).isEmpty && !refresh then
        s.setCal n (fun c => { c with todo := runFrom c.next, runTemp := s.laneTemp n })
      else s
    match t.runLeft n with
    | [] => t
    | k :: _ =>
      let used := s.flag (CAL.LANE_STATUS_SPARE_USED n)
      let u := (if refresh then t else t.set (CAL.LANE_STATUS_MODE n) 3).set (CAL.LANE_STATUS_SLOT n)
        (if used then s.server n k else k)
      let v := ((u.on (CAL.LANE_STATUS_SLOT_ACTIVE n)).tokenSpend n).setCal n (fun c => { c with slot := k })
      if used then v.setCal n (fun c => { c with phase := some .inService, slotAcc := {} })
      else if k = 64 then (v.sliceTo n 64 2 0).setCal n (fun c => { c with phase := some .reference })
      else (v.sliceTo n 64 1 k).setCal n (fun c => { c with phase := some .shadowIn })

/-- SP takes the position over and the home slice goes to the reference (Table 02-1, step 2); postponed while
gross-overload recovery runs (R46). -/
def State.handover (s : State) (n : Lane) : State :=
  let k := (s.ln n).cal.slot
  if (s.ln n).cal.phase != some .shadowIn then s
  else if s.flag (LN.RX_STATUS_DCR_BUSY n) then s.setRx n (fun r => { r with handPend := true })
  else (((s.sliceTo n 64 0 k).sliceTo n k 2 0).handMark n).setCal n (fun c => { c with phase := some .reference })

/-- The reference measurement ends (R145): results are checked and written before step 4, a third rejection makes the
slice SUSPECT and ends the slot (R153). -/
def State.measured (s : State) (n : Lane) (vs : List Int) : State :=
  let k := (s.ln n).cal.slot
  if (s.ln n).cal.phase != some .reference || s.braced then s
  else
    let t := s.refResult n k vs
    if t.condemned n k then (t.suspect n k).slotEnd n
    else if k = 64 then (t.sliceTo n 64 3 0).slotEnd n
    else (t.sliceTo n k 1 k).setCal n (fun c => { c with phase := some .shadowOut })

/-- The slice serves again and SP goes IDLE (Table 02-1, step 5). -/
def State.sliceBack (s : State) (n : Lane) : State :=
  let k := (s.ln n).cal.slot
  if (s.ln n).cal.phase != some .shadowOut then s
  else if s.flag (LN.RX_STATUS_DCR_BUSY n) then s.setRx n (fun r => { r with handPend := true })
  else (((s.sliceTo n k 0 k).sliceTo n 64 3 0).handMark n).slotEnd n

/-! ## Windows and refinement (R135, R136, R148, R149) -/

/-- What must hold throughout a qualified window beside the decoding of every codeword (R135). -/
def State.windowCond (s : State) (n : Lane) : Bool :=
  s.flag (LN.FRM_STATUS_FRAME_LOCK n) && carries (s.lstate n) && !s.flag (LN.RX_STATUS_DCR_BUSY n) &&
    !s.flag (LN.AGC_STATUS_COMP_ACTIVE n) && !s.flag (LN.EQ_STATUS_BOOST_ACTIVE n) && !s.braced

/-- A calibration window is qualified: nothing has disqualified it since it began, and nothing does at its end (R135). -/
def State.windowOk (s : State) (n : Lane) : Bool := !(s.ln n).cal.winDirty && s.windowCond n

/-- The expected sample from the channel estimate and the reference symbols a[p + 4] down to a[p - 11], in 2^-12 codes; none
where one of them is a pad symbol or lies outside the window (R136). -/
def expectedSample (hc : List Int) (as : List (Option Int)) : Option Int :=
  if as.length = 16 ∧ as.all (·.isSome) = true then some ((hc.zip as).foldl (fun x p => x + p.1 * p.2.getD 0) 0) else none

/-- A window being worked through: the channel estimate, the reference symbols passed, newest first, and
the samples to accumulate, newest first, each with the slice that served it (R136, R148). -/
structure WinRun where
  hc : List Int
  past : List (Option Int)
  taken : List (Nat × SliceAcc)
deriving DecidableEq, Repr

/-- The sums of one sample: x in 2^-12 codes, r, expected(p + 1) and expected(p - 1) (R148). -/
def sampleSums (x r up down : Int) : SliceAcc :=
  let e := x - r
  let d2 := 2 * r - up - down
  { off := e, gn := e * r, pw := r * r, sk := e * (up - down), bw := e * d2, hp := d2 * d2, n := 1 }

/-- One sample of a qualified window. A sample that carries a mark, or whose expected value is not there, is left out
(R134, R135); any other moves the channel estimate by 2^-10 code (R136), and counts for the slice that served it where its
two neighbours are expected as well (R148). -/
def WinRun.sample (w : WinRun) (cur : WinSym) (after : List WinSym) : WinRun :=
  let as := (List.range 5).map (fun k => (after[4 - k]?).bind (·.a)) ++ cur.a :: w.past
  let next := { w with past := (cur.a :: w.past).take 12 }
  match cur.x.sat, expectedSample w.hc ((as.drop 1).take 16) with
  | false, some r =>
    let x := 4096 * cur.x.code
    let hc := (w.hc.zip ((as.drop 1).take 16)).map (fun p => p.1 + 4 * sgn (x - r) * sgn (p.2.getD 0))
    match expectedSample w.hc (as.take 16), expectedSample w.hc ((as.drop 2).take 16) with
    | some up, some down =>
      { next with hc := hc, taken := (cur.x.slice, sampleSums x r up down) :: w.taken }
    | _, _ => { next with hc := hc }
  | _, _ => next

/-- A window worked through, oldest sample first. -/
def winRun (w : WinRun) : List WinSym → WinRun
  | [] => w
  | y :: rest => winRun (w.sample y rest) rest

/-- The frames of a calibration window (Table 06-7). -/
def State.winLength (s : State) : Nat := 4 * 2 ^ s.get CAL.REFINE_WIN_FRAMES

/-- A quotient that the spec does not round: its floor or the integer above it, by a free value; exact where it is
exact. -/
def State.quot (s : State) (tag : Nat) (num : Int) (den : Nat) : Int :=
  if num % (den : Nat) = 0 then num / (den : Nat) else num / (den : Nat) + (s.drawn tag 1 : Nat)

/-- The raw changes of gain, offset, skew and bandwidth of a refinement result (R148). A quotient by an accumulated
power of 0 is not stated: a free value. The sums are kept in 2^-12 codes. -/
def State.refineRaw (s : State) (n : Lane) (i : Nat) (a : SliceAcc) : List Int :=
  let step : Int := ((2 : Nat) ^ (3 - (assocFind (s.ln n).cal.ladder i).getD 0) : Nat)
  let div (tag : Nat) (num den : Int) : Int := if den = 0 then sext 16 (s.drawn tag 16) else s.quot tag num den.toNat
  [div 2 (-(s.sliceGet n i 0) * a.gn) a.pw, div 3 (-64 * a.off) (4096 * a.n), -(sgn a.sk) * step, div 4 (-10000 * a.bw) a.hp]

/-- REFINE_LOG2 in force (Table 06-7). -/
def State.refineN (s : State) : Nat := 2 ^ clampN 0x10 0x18 (s.get CAL.REFINE_REFINE_LOG2)

/-- The changes less the mean of the most recent change of each quantity over the serving slices (R139); a skew result of
sign 0 changes nothing (R149). -/
def State.refineRel (s : State) (n : Lane) (i : Nat) (raw : List Int) : List Int :=
  let serving := (List.range 65).filter (fun k => s.slice n k == 0)
  (raw.zip (List.range 4)).map (fun p =>
    let sum := serving.foldl (fun a k =>
      a + (if k = i then p.1 else ((assocFind (s.ln n).cal.changes k).getD []).getD p.2 0)) 0
    if p.2 = 2 ∧ p.1 = 0 then 0 else p.1 - s.quot (5 + p.2) sum (max 1 serving.length))

/-- The most recent changes of a slice: a skew result of sign 0 leaves the one before it (R149). -/
def State.changeKeep (s : State) (n : Lane) (i : Nat) (raw : List Int) : State :=
  let old := (assocFind (s.ln n).cal.changes i).getD []
  let now := (raw.zip (List.range 4)).map (fun p => if p.2 = 2 ∧ p.1 = 0 then old.getD 2 0 else p.1)
  s.setCal n (fun c => { c with changes := assocPut c.changes i now })

/-- The skew ladder after a result of the given sign (R149). -/
def State.ladderStep (s : State) (n : Lane) (i : Nat) (sg : Int) : State :=
  if sg = 0 then s
  else
    let last := (assocFind (s.ln n).cal.lastSign i).getD 0
    let l := (assocFind (s.ln n).cal.ladder i).getD 0
    (s.setCal n (fun c =>
      { c with lastSign := assocPut c.lastSign i sg,
               ladder := if sg + last = 0 then assocPut c.ladder i (min 3 (l + 1)) else c.ladder })).showLadder n

/-- A refinement result of a serving slice is due (R148). -/
def State.refineDue (s : State) (n : Lane) (i : Nat) : Bool :=
  decide (s.refineN ≤ ((assocFind (s.ln n).cal.acc i).getD {}).n) && s.flag CAL.CTRL_REFINE_EN && s.slice n i == 0 && !s.braced &&
    !(s.ln n).cal.quiesced

/-- The refinement result of the accumulators `a` of a serving slice (R148): checked, applied and recorded; its accumulators
are cleared. -/
def State.refineApply (s : State) (n : Lane) (i : Nat) (a : SliceAcc) : State :=
  let raw := s.refineRaw n i a
  let rel := s.refineRel n i raw
  let t := s.each (rel.zip (List.range 4)) (fun p u =>
    if u.sliceFrozen n i || p.1 = 0 then u
    else if u.plausible p.2 (u.sliceGet n i p.2 + p.1) then u.correct n i p.2 (u.sliceGet n i p.2 + p.1)
    else u.rejected n i p.2)
  let u := (t.changeKeep n i raw).ladderStep n i (sgn a.sk)
  (u.accRestart n i).drew

/-- A refinement result that is due is applied. -/
def State.refine (s : State) (n : Lane) (i : Nat) : State :=
  if s.refineDue n i then s.refineApply n i ((assocFind (s.ln n).cal.acc i).getD {}) else s

/-- A qualified sample counts: while REFINE_EN = 1 for the slice that serves it, whose result is applied as its count reaches
2^REFINE_LOG2 (R148), and in an in-service slot for the estimate of its slice (R147). -/
def State.sampleTake (s : State) (n : Lane) (x : Nat × SliceAcc) : State :=
  let t := if (s.ln n).cal.phase = some .inService ∧ x.1 = s.server n (s.ln n).cal.slot then
      s.setCal n (fun c => { c with slotAcc := c.slotAcc.add x.2 }) else s
  if t.flag CAL.CTRL_REFINE_EN && t.slice n x.1 == 0 && decide (x.1 < 65) then
    (t.setCal n (fun c => { c with acc := assocPut c.acc x.1 (((assocFind c.acc x.1).getD {}).add x.2) })).refine n x.1
  else t

/-- A calibration window of WIN_FRAMES frames ends (R135): a qualified one is worked through, its samples
count in their order, any other is counted; the next one begins. -/
def State.windowEnd (s : State) (n : Lane) : State :=
  if (s.ln n).power ≠ .active ∨ (s.ln n).cal.winFrames < s.winLength then s
  else
    let t := s.setCal n (fun c => { c with win := [], winFrames := 0, winDirty := !s.windowCond n })
    if s.windowOk n then
      let r := winRun ⟨(s.ln n).cal.hc, [], []⟩ (s.ln n).cal.win.reverse
      (t.setCal n (fun c => { c with hc := r.hc })).each r.taken.reverse (fun x u => u.sampleTake n x)
    else (t.inc (CAL.LANE_CNT1_DISQ_CNT n)).countEvent 0x044 n 1

/-- An in-service slot ends (R147): the decision-directed estimate of the slice that serves the position, held to the lane's
mean (R139), is checked and counted like a reference result. DESIGN CHOICE (log 144): a slot without a qualified sample has
no result. -/
def State.inServiceEnd (s : State) (n : Lane) : State :=
  let i := s.server n (s.ln n).cal.slot
  let a := (s.ln n).cal.slotAcc
  if (s.ln n).cal.phase != some .inService || s.braced then s
  else if a.n = 0 then s.slotEnd n
  else
    let raw := s.refineRaw n i a
    let vs := ((s.refineRel n i raw).zip (List.range 4)).map (fun p => s.sliceGet n i p.2 + p.1)
    let t := (s.changeKeep n i raw).ladderStep n i (sgn a.sk)
    (((t.refResult n i vs).condemn n i).slotEnd n).drew

/-! ## Starts (R140 to R142, R158) -/

/-- The point pair of a seeded start: a valid point whose slice part lies within CAL_DT (R142). -/
def State.seedable (s : State) (n : Lane) : Bool :=
  s.flag CAL.CTRL_SEED_START &&
    (s.partPoints n 1).any (fun p => (s.pointTemp n p - s.laneTemp n).natAbs ≤ s.calDt)

/-- The interpolated slice corrections and sub-DAC trims are loaded (R142); corrections that no longer change stay (R153). -/
def State.loadSlices (s : State) (n : Lane) : State :=
  let t := s.laneTemp n
  let u := match s.bracket n 1 t with
    | none => s
    | some ab => s.each ((List.range 65).filter (fun i => !s.sliceFrozen n i)) (fun i v => v.each (List.range 4) (fun q w =>
        w.set (sliceField n i q) (ucode 16 (s.interp n t ab (fun a =>
          if q = 0 then (readLE s.image (a + 0x20 + 8 * i) 2 : Nat) else s.recI (a + 0x20 + 8 * i + 2 * q))))))
  match s.bracket n 2 t with
  | none => u
  | some ab => u.each (List.range 4) (fun j v =>
      (v.set (CAL.DTRIM_DGAIN n j) (s.interp n t ab (fun a => s.recI (a + 0x228 + 4 * j))).toNat).seti (CAL.DTRIM_DOFF n j)
        (s.interp n t ab (fun a => s.recI (a + 0x22A + 4 * j))))

/-- The transmit banks and the reference set are seeded at an exit from DOWN: from the interpolated transmit part, or
with the reset values of Table 05-9 (R140). DESIGN CHOICE (log 200): interpolated taps beyond the magnitude limit, which the
active bank never exceeds (R112), give way to the reset values of the FIR. -/
def State.seedTx (s : State) (n : Lane) : State :=
  let t := s.laneTemp n
  let ab := s.bracket n 3 t
  let val (off : Nat) (d : Nat) : Int := match ab with | some p => s.interp n t p (fun a => s.recI (a + off)) | none => (d : Nat)
  let sk (j : Nat) : Int := match ab with
    | some p => s.interp n t p (fun a => sext 8 (readLE s.image (a + 0x2CA + j) 1)) | none => 0
  let taps := (List.range 9).map (fun i => val (0x2B8 + 2 * i) (if i = 2 then 256 else 0))
  let fir := if magnitude taps ≤ 256 then taps else [0, 0, 256, 0, 0, 0, 0, 0, 0]
  let u := s.each (List.range 9) (fun i v =>
    (v.seti (TXT.FIRA_C_ACT n i) (fir.getD i 0)).seti (TXT.FIRS_C_SHD n i) (fir.getD i 0))
  let v := u.each (List.range 64) (fun i w =>
    (w.seti (TXT.PDA_E_ACT n i) (val (0x238 + 2 * i) 0)).seti (TXT.PDS_E_SHD n i) (val (0x238 + 2 * i) 0))
  let w := v.each (List.range 4) (fun j x => (x.seti (TXT.SKA_SK_ACT n j) (sk j)).seti (TXT.SKS_SK_SHD n j) (sk j))
  w.refTake n

/-- The equaliser and the AGC are seeded at entry to ACQUIRE after a foreground calibration or a seeded start (R158). h2 is
held at 0 in the 4-state trellis (R70). -/
def State.seedRx (s : State) (n : Lane) : State :=
  let s := s.setRead n
  let t := s.laneTemp n
  let u := s.setEq n (fun e => { e with accLow := [], slew := [] })
  let ab := s.bracket n 4 t
  let f (off d : Nat) : Int := match ab with | some p => s.interp n t p (fun a => s.recI (a + off)) | none => (d : Nat)
  let v := u.each (List.range 112) (fun i v => v.coefSet n i (f (0x2D0 + 2 * i) (if i = 8 then 0x200 else 0)))
  let w := v.each (List.range 20) (fun k x => x.coefSet n (coefVolt k) (f (0x3B0 + 2 * k) 0))
  let x := (w.coefSet n coefH1 (f 0x3D8 0)).coefSet n coefH2 (if s.flag (LN.EQ_STATUS_EFF_16 n) then f 0x3DA 0 else 0)
  x.set (LN.AGC_STATUS_GAIN n) (match ab with
    | some p => (s.interp n t p (fun a => (readLE s.image (a + 0x3DC) 1 % 128 : Nat))).toNat
    | none => 0x24)

/-- A start writes what it begins with: at an exit from DOWN the seed of the transmit side (R140), in a seeded start the
interpolated corrections and trims (R142). In the brace nothing is written, and it is done as the brace ends (R162). -/
def State.startLoad (s : State) (n : Lane) : State :=
  if s.braced then s.setCal n (fun c => { c with loadPend := true })
  else
    let t := s.setCal n (fun c => { c with loadPend := false })
    let u := if (s.ln n).cal.wake then t else t.seedTx n
    if s.get (CAL.LANE_STATUS_MODE n) = 2 then u.loadSlices n else u

/-- A start that began in the brace goes on (R162). -/
def State.startResume (s : State) (n : Lane) : State := if (s.ln n).cal.loadPend then s.startLoad n else s

/-- Calibration of a lane starts (R140, R142): seeded where the set permits it, else in the foreground. -/
def State.calStart (s : State) (n : Lane) (wake : Bool) : State :=
  let t := ((s.setRead n).ladderReset n).setCal n (fun c =>
    { c with wake := wake, ready := false, runTemp := s.laneTemp n, phase := none, todo := [], quiesced := false })
  ((t.slicesAll n 2).set (CAL.LANE_STATUS_MODE n) (if t.seedable n then 2 else 1)).startLoad n

/-- A start has completed: the slices serve, and the port may go on. -/
def State.calReady (s : State) (n : Lane) : State :=
  ((s.slicesServe n).off (CAL.LANE_STATUS_MODE n)).setCal n (fun c => { c with ready := true })

/-- A start in progress is given up: the port no longer leaves DOWN or wakes. -/
def State.calAbort (s : State) (n : Lane) : State :=
  let t := s.setCal n (fun c => { c with ready := false, loadPend := false })
  if s.get (CAL.LANE_STATUS_MODE n) = 1 ∨ s.get (CAL.LANE_STATUS_MODE n) = 2 then t.off (CAL.LANE_STATUS_MODE n) else t

/-- The results of Table 06-2 are there: four quantities of each of the 65 slices, a trim and a skew of each sub-DAC. -/
def foregroundWhole (slices : List (Nat × List Int)) (trims : List (Nat × Int × Int)) (skews : List (Nat × Int)) : Bool :=
  (List.range 65).all (fun i => slices.any (fun r => r.1 == i && r.2.length == 4)) &&
    (List.range 4).all (fun j => trims.any (fun r => r.1 == j) && skews.any (fun r => r.1 == j))

/-- Foreground calibration completes with all its results (R141): every one is checked; nothing stops it. Within a wake the transmit banks
stay as they are (R140). In the brace nothing is written, and it completes later (R162). -/
def State.foreground (s : State) (n : Lane) (slices : List (Nat × List Int)) (trims : List (Nat × Int × Int))
    (skews : List (Nat × Int)) : State :=
  if s.get (CAL.LANE_STATUS_MODE n) != 1 || s.braced || !foregroundWhole slices trims skews then s
  else
    let t := s.each slices (fun r u => u.refResult n r.1 r.2)
    let u := t.each trims (fun r v =>
      let gOk := (r.2.1 - 0x800).natAbs ≤ min 0xCD (s.get CAL.LIMIT3_DGAIN_DEV)
      let oOk := r.2.2.natAbs ≤ min 0x7F (s.get CAL.LIMIT3_DOFF_LIM)
      let w := if gOk then (v.set (CAL.DTRIM_DGAIN n r.1) r.2.1.toNat).refAccepted n (0x50 + r.1) 4
               else v.refRejected n (0x50 + r.1) 4
      let x := if oOk then (w.seti (CAL.DTRIM_DOFF n r.1) r.2.2).refAccepted n (0x50 + r.1) 5 else w.refRejected n (0x50 + r.1) 5
      x.dacJudge n r.1)
    let v := if (s.ln n).cal.wake then u
      else u.each skews (fun r w => (w.seti (TXT.SKA_SK_ACT n r.1) r.2).seti (TXT.SKS_SK_SHD n r.1) r.2)
    let w := v.each (List.range 65) (fun i x => x.condemn n i)
    let x := (w.setCal n (fun c => { c with hc := List.replicate 16 0 })).calReady n
    x.runComplete n false

/-- A seeded start's verification ends (R142): within 1 LSB of offset and 0.5 % of gain of the loaded values on every
one of the 65 slices, or a foreground calibration follows, which starts at the present reading (R154). DESIGN CHOICE
(log 193): an accepted one keeps the channel estimate of R136 as the lane holds it. -/
def State.verified (s : State) (n : Lane) (meas : List (Nat × Int × Int)) : State :=
  if s.get (CAL.LANE_STATUS_MODE n) != 2 || s.braced then s
  else if (List.range 65).all (fun i => meas.any (fun m => m.1 == i && (m.2.2 - s.sliceGet n i 1).natAbs ≤ 64 &&
      decide (200 * (m.2.1 - s.sliceGet n i 0).natAbs ≤ (s.sliceGet n i 0).natAbs))) then
    (s.calReady n).seti (CAL.LANE_LAST_T_LAST n) (s.ln n).cal.runTemp
  else (((s.on (CAL.LANE_EVENTS_VERIFY_FAIL n)).set (CAL.LANE_STATUS_MODE n) 1).ladderReset n).setCal n
    (fun c => { c with runTemp := s.laneTemp n })

/-! ## Refresh (R154, R155) -/

/-- A refresh is scheduled; one that is pending or running takes it in. -/
def State.refreshAsk (s : State) (n : Lane) : State := s.on (CAL.LANE_STATUS_REFRESH_PEND n)

/-- The temperature trigger of a lane is judged on a new reading (R154, R155). DESIGN CHOICE (log 191): the refreshes of a fast
change are scheduled by the same trigger, and so run only while TEMP_EN = 1. -/
def State.calTemp (s : State) (n : Lane) : State :=
  if s.flag CAL.CTRL_TEMP_EN && carries (s.lstate n) &&
      (s.laneFast n || decide (s.calDt ≤ (s.laneTemp n - s.geti (CAL.LANE_LAST_T_LAST n)).natAbs)) then s.refreshAsk n
  else s

/-- A pending refresh starts (R154): a gapless run of every slot, with the ladder reset and the interpolation step. -/
def State.refreshStart (s : State) (n : Lane) : State :=
  if !s.flag (CAL.LANE_STATUS_REFRESH_PEND n) || s.get (CAL.LANE_STATUS_MODE n) = 4 || (s.ln n).cal.phase.isSome ||
      !s.calRuns n || !s.calToken n then s
  else
    let t := (s.set (CAL.LANE_STATUS_MODE n) 4).setCal n (fun c => { c with todo := runFrom c.next, runTemp := s.laneTemp n })
    (t.ladderReset n).interpolate n

/-- A refresh completes (R154). -/
def State.refreshEnd (s : State) (n : Lane) : State :=
  if s.get (CAL.LANE_STATUS_MODE n) != 4 || (s.ln n).cal.phase.isSome || !(s.runLeft n).isEmpty then s
  else
    let t := ((s.off (CAL.LANE_STATUS_REFRESH_PEND n)).inc (CAL.LANE_CNT1_REFRESH_CNT n)).set (CAL.LANE_STATUS_MODE n)
      (if s.flag CAL.CTRL_BG_EN then 3 else 0)
    let u := t.runComplete n true
    if s.flag CAL.CTRL_TEMP_EN && s.laneFast n then u.refreshAsk n else u

/-- CAL quiesces a lane (R163): the slot is abandoned, and steps not yet announced are withdrawn. -/
def State.calQuiesce (s : State) (n : Lane) : State :=
  ((s.slotAbandon n).setTx n (fun x => { x with dacQueue := [] })).setCal n (fun c => { c with quiesced := true, pdPend := none })

/-- CAL refuses to quiesce: a start is in progress (R163). -/
def State.calBusy (s : State) (n : Lane) : Bool :=
  s.get (CAL.LANE_STATUS_MODE n) == 1 || s.get (CAL.LANE_STATUS_MODE n) == 2

/-- Background calibration stops as the port leaves TRAIN, LOCKED, TRAFFIC and ONE_WAY (R146), and the window in progress is
not qualified (R135). -/
def State.calLeave (s : State) (n : Lane) : State :=
  let t := (s.slotAbandon n).setCal n (fun c => { c with todo := [], pdPend := none, winDirty := true })
  if s.get (CAL.LANE_STATUS_MODE n) = 3 ∨ s.get (CAL.LANE_STATUS_MODE n) = 4 then t.off (CAL.LANE_STATUS_MODE n) else t

/-- MODE as it reads: PAUSED in the brace, while waiting for a token, and while quiesced (Table 06-9). -/
def State.calMode (s : State) (n : Lane) : Nat :=
  if s.braced || s.flag (CAL.LANE_STATUS_TOKEN_WAIT n) || (s.ln n).cal.quiesced then 5 else s.get (CAL.LANE_STATUS_MODE n)

/-! ## The token of a protection pair (R160, R161) -/

/-- TOKEN_WAIT of a port's lanes. -/
def State.tokenWait (s : State) (k : PortId) (b : Bool) : State :=
  s.each (s.lanesOf k) (fun n t => t.setB (CAL.LANE_STATUS_TOKEN_WAIT n) b)

/-- Port `k` has lost the anchor (R161): LOST and the alarm. -/
def State.portLost (s : State) (k : PortId) : State :=
  if s.bitOf CAL.TOKEN_STATUS_LOST k then s else (s.setBit CAL.TOKEN_STATUS_LOST k true).alarm 0x08 k 0

/-- The anchor can be reached no more: every port whose pair is on another device has lost it (R161). -/
def State.anchorLost (s : State) : State :=
  s.each ((List.finRange 8).filter (fun k => s.pairedAway k)) (fun k t => t.portLost k)

/-- A request for the token of a pair across the stack has to wait: at the anchor while a member holds the token, at a member
always, for the anchor's grant (R160). DESIGN CHOICE (log 145). -/
def State.tokenBusy (s : State) (k : PortId) : Bool :=
  s.variant && (!s.flag TTH.STATUS_ROLE || s.tth.remote.any (fun r => r.1 == s.get (CAL.PAIR_PAIR_ID k) && r.2.2))

/-- A port asks for its pair's token; a request that has to wait is counted. A member of a stack that cannot reach the anchor records the loss (R161). -/
def State.tokenAsk (s : State) (k : PortId) : State :=
  if !s.flag (CAL.PAIR_PAIRED k) || s.bitOf CAL.TOKEN_STATUS_HELD k || s.bitOf CAL.TOKEN_STATUS_WAITING k then s
  else
    let t := (s.setBit CAL.TOKEN_STATUS_WAITING k true).tokenWait k true
    match s.pairMate k with
    | some m => if s.bitOf CAL.TOKEN_STATUS_HELD m then t.inc CAL.TOKEN_CNT_WAIT_CNT else t
    | none =>
      if s.noAnchor then (s.each (s.lanesOf k) (fun n u => u.on (CAL.LANE_EVENTS_TOKEN_LOST n))).portLost k
      else if s.tokenBusy k then t.inc CAL.TOKEN_CNT_WAIT_CNT else t

/-- The port the pair's last grant went to. -/
def State.lastGrant (s : State) (k : PortId) : Option Nat := assocFind s.tokens (s.get (CAL.PAIR_PAIR_ID k))

/-- The arbiter of `k`'s pair may grant to `k` now: `k` waits, its mate holds nothing, and with both waiting the grants
alternate. The arbiter is this device for a pair of its own ports, else the anchor (R160). -/
def State.grantable (s : State) (k : PortId) : Bool :=
  s.bitOf CAL.TOKEN_STATUS_WAITING k &&
    match s.pairMate k with
    | some m => !s.bitOf CAL.TOKEN_STATUS_HELD m && !(s.bitOf CAL.TOKEN_STATUS_WAITING m && s.lastGrant k == some k.val)
    | none =>
      let pair := s.get (CAL.PAIR_PAIR_ID k)
      if !s.variant then true
      else s.flag TTH.STATUS_ROLE && !s.tth.remote.any (fun r => r.1 == pair && r.2.2) &&
        !(s.tth.remote.any (fun r => r.1 == pair) && s.lastGrant k == some k.val)

/-- A grant reaches a port, for one operation of each of its lanes; one that comes while its lanes are quiesced is not taken
(R160, R164). -/
def State.tokenGive (s : State) (k : PortId) : State :=
  let t := ((s.setBit CAL.TOKEN_STATUS_WAITING k false).tokenWait k false)
  let u := { t with tokens := assocPut t.tokens (s.get (CAL.PAIR_PAIR_ID k)) k.val }
  if (s.lanesOf k).any (fun n => (s.ln n).cal.quiesced) then u
  else (u.setBit CAL.TOKEN_STATUS_HELD k true).each (s.lanesOf k) (fun n v => v.setCal n (fun c => { c with granted := true }))

/-- The holding port returns its grant. -/
def State.tokenBack (s : State) (k : PortId) : State :=
  (s.setBit CAL.TOKEN_STATUS_HELD k false).each (s.lanesOf k) (fun n t => t.tokenSpend n)

/-- This device arbitrates the pair of port `k`: it has both ports, or is the anchor (R160). -/
def State.arbiter (s : State) (k : PortId) : Bool := (s.pairMate k).isSome || !s.variant || s.flag TTH.STATUS_ROLE

/-- A grant expires: the arbiter reclaims and counts it, and the port's lanes abandon their slots (R161). -/
def State.tokenExpire (s : State) (k : PortId) : State :=
  if s.bitOf CAL.TOKEN_STATUS_HELD k then
    let t := s.tokenBack k
    (if s.arbiter k then t.inc CAL.TOKEN_CNT_EXPIRE_CNT else t).each (s.lanesOf k) (fun n t => t.slotAbandon n)
  else s

/-- CALn_CMD.CNT_CLR (Table 06-10). -/
def State.calCntClr (s : State) (n : Lane) : State :=
  (((s.off (CAL.LANE_CNT0_REJECT_CNT n)).off (CAL.LANE_CNT0_ROT_CNT n)).off (CAL.LANE_CNT1_DISQ_CNT n)).off
    (CAL.LANE_CNT1_REFRESH_CNT n)

end Sys2Proof.Machine
end

