-- ==== Sys2Proof/Machine/PrbsOps.lean ====
section
/-!
DEFINITION. The PRBS generators and checkers (R184 to R188).
-/

namespace Sys2Proof.Machine

open Sys2Proof

/-- The next bit of a pattern's register, whose newest bit stands first (Table 07-4). -/
def prbsNext (pat : Nat) (r : List Bool) : Bool :=
  let t (ks : List Nat) : Bool := ks.foldl (fun a k => a != r.getD (k - 1) false) false
  match pat with
  | 0 => t [7, 6] | 1 => t [9, 5] | 2 => t [13, 12, 2, 1] | 3 => t [15, 14] | 4 => t [23, 18] | 5 => t [31, 28]
  | 6 => t [13, 12, 2, 1] | _ => t [31, 28]

/-- The length of a pattern's register. -/
def prbsLength (pat : Nat) : Nat :=
  match pat with | 0 => 7 | 1 => 9 | 2 => 13 | 3 => 15 | 4 => 23 | 5 => 31 | 6 => 13 | _ => 31

/-- A Q pattern sends two bits per symbol (R184). -/
def prbsQ (pat : Nat) : Bool := 6 ≤ pat

/-- `n` bits of a pattern and the register after them. -/
def prbsRun (pat n : Nat) (r : List Bool) : List Bool × List Bool :=
  match n with
  | 0 => ([], r)
  | n + 1 =>
    let b := prbsNext pat r
    let x := prbsRun pat n ((b :: r).take 31)
    (b :: x.1, x.2)

/-- The level indices of pattern bits (R184): a binary pattern sends -3 for 0 and +3 for 1, a Q pattern maps pairs with
Table 05-1. -/
def prbsLevels (pat : Nat) (bs : List Bool) : List Nat :=
  if prbsQ pat then grayMap bs else bs.map (fun b => if b then 3 else 0)

/-- The pattern bits of received level indices: a binary pattern is told by the sign, a Q pattern by the Gray code. -/
def prbsBitsOf (pat : Nat) (ls : List Nat) : List Bool :=
  if prbsQ pat then ls.flatMap (fun l => match l with | 0 => [false, false] | 1 => [false, true] | 2 => [true, true] | _ => [true, false])
  else ls.map (fun l => 2 ≤ l)

/-- The PRBS unit of a lane. -/
def State.prbs (s : State) : PrbsLane → PrbsSt
  | .line n => (s.ln n).prbs
  | .host j => (s.hl j).prbs

/-- Change it. -/
def State.setPrbs (s : State) (l : PrbsLane) (f : PrbsSt → PrbsSt) : State :=
  match l with
  | .line n => s.setLn n { s.ln n with prbs := f (s.ln n).prbs }
  | .host j => s.setHl j (fun h => { h with prbs := f h.prbs })

/-! ## The generator (R184, R188) -/

/-- The level indices of the next `k` symbols of a generator: GEN_INV inverts every bit, INJECT the first one. -/
def State.genLevels (s : State) (l : PrbsLane) (k : Nat) : List Nat :=
  let pat := s.get (PRBS.CTRL_GEN_PAT l.base)
  let bs := (prbsRun pat (if prbsQ pat then 2 * k else k) (s.prbs l).gen).1
  let inv := bs.map (fun b => b != s.flag (PRBS.CTRL_GEN_INV l.base))
  prbsLevels pat (match inv, (s.prbs l).inject with | b :: r, true => (!b) :: r | x, _ => x)

/-- The generator after `k` symbols. -/
def State.genSent (s : State) (l : PrbsLane) (k : Nat) : State :=
  let pat := s.get (PRBS.CTRL_GEN_PAT l.base)
  (s.setPrbs l (fun p => { p with gen := (prbsRun pat (if prbsQ pat then 2 * k else k) p.gen).2
                                  inject := p.inject && k == 0 })).setIf (k != 0) (PRBS.CMD_INJECT l.base) 0

/-! ## The checker (R187) -/

/-- A checker at work: its unit, CHK_LOCK, the locks lost, and whether a counter has saturated. -/
structure ChkRun where
  p : PrbsSt
  lock : Bool
  lost : Nat
  sat : Bool
deriving DecidableEq, Repr

/-- A block of 1,024 bits ends: 64 or more mismatches lose the lock and reseed the checker (R187). -/
def ChkRun.block (r : ChkRun) : ChkRun :=
  if r.p.blkBits < 1024 then r
  else if 64 ≤ r.p.blkErrs then
    { r with p := { r.p with chk := [], run := 0, blkBits := 0, blkErrs := 0 }, lock := false, lost := r.lost + 1 }
  else { r with p := { r.p with blkBits := 0, blkErrs := 0 } }

/-- One bit checked. The register is seeded from received bits until the lock, and runs by itself under it; the lock comes
after 1,024 bits without a mismatch (R187). -/
def ChkRun.bit (pat : Nat) (r : ChkRun) (b : Bool) : ChkRun :=
  let want := prbsNext pat r.p.chk
  let miss := b != want
  if r.lock then
    let q := { r.p with chk := (want :: r.p.chk).take 31, bits := satAdd 48 r.p.bits 1, errs := satAdd 48 r.p.errs miss.toNat
                        blkBits := r.p.blkBits + 1, blkErrs := r.p.blkErrs + miss.toNat }
    { r with p := q, sat := r.sat || q.bits == 2 ^ 48 - 1 || q.errs == 2 ^ 48 - 1 }.block
  else
    let seeded := prbsLength pat ≤ r.p.chk.length
    let run := if seeded && !miss then r.p.run + 1 else 0
    { r with p := { r.p with chk := (b :: r.p.chk).take 31, run := if run = 1024 then 0 else run, blkBits := 0, blkErrs := 0 }
             lock := run == 1024 }

/-- Received bits go through the checker; CHK_INV inverts each (R184). -/
def State.prbsFeed (s : State) (l : PrbsLane) (bs : List Bool) : State :=
  if !s.flag (PRBS.CTRL_CHK_EN l.base) then s
  else
    let r := (bs.map (fun b => b != s.flag (PRBS.CTRL_CHK_INV l.base))).foldl (ChkRun.bit (s.get (PRBS.CTRL_CHK_PAT l.base)))
      ⟨s.prbs l, s.flag (PRBS.STATUS_CHK_LOCK l.base), 0, false⟩
    let t := (s.setPrbs l (fun _ => r.p)).setB (PRBS.STATUS_CHK_LOCK l.base) r.lock
    let u := if r.lost = 0 then t else (t.on (PRBS.STATUS_LOCK_LOSS l.base)).incBy (PRBS.HOLD4_LOCK_LOSS_CNT l.base) r.lost
    if r.sat then u.on (PRBS.STATUS_SAT l.base) else u

/-! ## The counters (R188) -/

/-- LATCH: both live counters are copied. -/
def State.prbsLatch (s : State) (l : PrbsLane) : State :=
  let p := s.prbs l
  (((((s.set (PRBS.HOLD0_BITS_LO l.base) p.bits).set (PRBS.HOLD1_BITS_HI l.base) (p.bits / 2 ^ 32)).set
    (PRBS.HOLD2_ERRS_LO l.base) p.errs).set (PRBS.HOLD3_ERRS_HI l.base) (p.errs / 2 ^ 32)).on (PRBS.STATUS_HOLD_VALID l.base))

end Sys2Proof.Machine
end

