-- ==== Sys2Proof/Machine/HostOps.lean ====
section
/-!
DEFINITION. Host lanes (chapter 7): the receiver's arithmetic and adaptation, the transmitter's coefficient sets and
source, link training, the KP4 monitors (R88) and the PRBS generators and checkers.
-/

namespace Sys2Proof.Machine

open Sys2Proof

/-! ## Receiver (R170, R171, R173) -/

/-- The equalised value of a symbol, from the FFE products in units of 2^-7 and the DFE products in units of 2^-4 (R170);
the result is in units of 2^-4. -/
def hostZ (f x b a : List Int) : Int :=
  16 * roundDiv ((f.zip x).foldl (fun s p => s + p.1 * p.2) 0) 128 - (b.zip a).foldl (fun s p => s + p.1 * p.2) 0

/-- The decision on an equalised value in units of 2^-4 (R170). -/
def hostDecision (z : Int) : Int := if z < -512 then -3 else if z < 0 then -1 else if z < 512 then 1 else 3

/-- The error of a decision, in units of 2^-4 (R170). -/
def hostError (z : Int) : Int := z - 256 * hostDecision z

/-- A receive coefficient: 0 to 23 the FFE taps, 64 to 66 the DFE taps, as the words of Table 07-7. -/
def rxField (j : Host) (c : Nat) : Field := if c < 64 then RXC.FFE_F j c else RXC.DFE_B j (c - 64)

/-- A number that names a receive coefficient. -/
def rxOn (c : Nat) : Bool := c < 24 || (64 ≤ c && c < 67)

/-- The width of a coefficient and the accumulator bits below it (R171). -/
def rxWidth (c : Nat) : Nat := if c < 64 then 10 else 8
def rxShift (c : Nat) : Nat := if c < 64 then 10 else 12

/-- DATA or FALLBACK. -/
def State.hostCarries (s : State) (j : Host) : Bool :=
  s.get (HL.TRN_STATUS_STATE j) == 3 || s.get (HL.TRN_STATUS_STATE j) == 4

/-- Host adaptation runs: the lane is Active and not in OFF, with SD and CDR lock (R171). -/
def State.hostAdapts (s : State) (j : Host) (c : Nat) : Bool :=
  decide ((s.hl j).power = .active) && s.get (HL.TRN_STATUS_STATE j) != 0 && s.flag (HL.RX_STATUS_SD_NOW j) &&
    s.flag (HL.RX_STATUS_CDR_LOCK j) && rxOn c && (assocFind (s.hl j).slew c).isNone &&
    !(if c < 64 then s.flag (HL.RX_CTRL_FREEZE_FFE j) else s.flag (HL.RX_CTRL_FREEZE_DFE j))

/-- ADAPT_STATE (Table 07-6). -/
def State.hostAdaptState (s : State) (j : Host) : Nat :=
  if (s.hl j).power ≠ .active ∨ s.get (HL.TRN_STATUS_STATE j) = 0 then 0
  else if !s.flag (HL.RX_STATUS_SD_NOW j) || !s.flag (HL.RX_STATUS_CDR_LOCK j) then 3
  else if s.flag (HL.RX_CTRL_FREEZE_FFE j) && s.flag (HL.RX_CTRL_FREEZE_DFE j) then 2 else 1

/-- The step in effect: limited to code 0x9 in DATA and FALLBACK (R171). -/
def State.hostStep (s : State) (j : Host) (c : Nat) : Nat :=
  let code := if c < 64 then s.get (HL.RX_CFG_STEP_FFE j) else s.get (HL.RX_CFG_STEP_DFE j)
  stepOf (if s.hostCarries j then min code 9 else code)

/-- One coefficient takes its vote. -/
def State.hostVote (s : State) (j : Host) (c : Nat) (vote : Int) : State :=
  if s.hostAdapts j c then
    let sh : Nat := 2 ^ rxShift c
    let top : Int := (2 ^ (rxWidth c - 1) : Nat)
    let a := s.geti (rxField j c) * (sh : Nat) + ((assocFind (s.hl j).accLow c).getD 0 : Nat) - sgn vote * (s.hostStep j c : Nat)
    let b := clamp (-top * sh) (top * sh - 1) a
    (s.seti (rxField j c) (b / (sh : Nat))).setHl j (fun h => { h with accLow := assocPut h.accLow c (b % (sh : Nat)).toNat })
  else s

/-- One host beat: the votes of the beat, then the host writes on their way (R171, R173). -/
def State.hostBeat (s : State) (j : Host) (votes : List (Nat × Int)) : State :=
  let t := s.each votes (fun v u => u.hostVote j v.1 v.2)
  t.each (t.hl j).slew (fun p u =>
    let v := u.seti (rxField j p.1) (stepToward 1 (u.geti (rxField j p.1)) p.2)
    if v.geti (rxField j p.1) = p.2 then v.setHl j (fun h => { h with slew := assocDel h.slew p.1 }) else v)

/-- A host write of a receive coefficient (R173). -/
def State.rxWrite (s : State) (j : Host) (c : Nat) (x : Int) : State :=
  if !rxOn c then s
  else if s.hostCarries j then
    s.setHl j (fun h => { h with slew := if s.geti (rxField j c) = x then assocDel h.slew c else assocPut h.slew c x })
  else (s.seti (rxField j c) x).setHl j (fun h => { h with slew := assocDel h.slew c })

/-! ## Transmitter (R174 to R177) -/

/-- The tap ranges of Table 07-1, c(-3) first. -/
def tapLo (i : Nat) : Int := match i with | 0 => -16 | 1 => -32 | 2 => -96 | 3 => 128 | 4 => -64 | _ => -16
def tapHi (i : Nat) : Int := match i with | 0 => 16 | 1 => 32 | 2 => 0 | 3 => 256 | 4 => 0 | _ => 16

/-- A coefficient set is valid (R174). -/
def coefSetOk (c : List Int) : Bool :=
  c.length == 6 && magnitude c ≤ 256 &&
    (c.zip (List.range 6)).all (fun p => decide (tapLo p.2 ≤ p.1) && decide (p.1 ≤ tapHi p.2))

/-- The six coefficients of the two words of Table 07-9. -/
def coefsOfWords (w0 w1 : Nat) : List Int :=
  [w0, w1].flatMap (fun w => [sext 10 (bits w 0 10), sext 10 (bits w 10 10), sext 10 (bits w 20 10)])

/-- The fields of set 0 (TX_MAN) or k (preset k). -/
def setField (j : Host) (k i : Nat) : Field := if k = 0 then HL.TX_MAN_C j i else HL.TX_PRESET_C j (k - 1) i

/-- The coefficients of a set, and those in use. -/
def State.setCoefs (s : State) (j : Host) (k : Nat) : List Int := (List.range 6).map (fun i => s.geti (setField j k i))
def State.actCoefs (s : State) (j : Host) : List Int := (List.range 6).map (fun i => s.geti (HL.TX_ACT_C j i))

/-- Write the coefficients in use. -/
def State.actSet (s : State) (j : Host) (c : List Int) : State :=
  s.each (List.range 6) (fun i t => t.seti (HL.TX_ACT_C j i) (c.getD i 0))

/-- The transmitter is given new coefficients (R176): slewed in DATA and FALLBACK, at once elsewhere. -/
def State.actTarget (s : State) (j : Host) (c : List Int) : State :=
  let t := s.setHl j (fun h => { h with target := c })
  if s.hostCarries j then t.setB (HL.TX_STATUS_SLEWING j) (s.actCoefs j != c)
  else (t.actSet j c).off (HL.TX_STATUS_SLEWING j)

/-- The coefficients in use jump to a set. -/
def State.actJump (s : State) (j : Host) (c : List Int) : State :=
  ((s.setHl j (fun h => { h with target := c })).actSet j c).off (HL.TX_STATUS_SLEWING j)

/-- The first word of a set is kept until the second one arrives (Table 07-9). -/
def State.setFirst (s : State) (j : Host) (k w : Nat) : State :=
  s.setHl j (fun h => { h with firstWord := assocPut h.firstWord k w })

/-- The second word of a set is written (R175, R176): both words take effect, or both are discarded. A TX_MAN write
reaches the transmitter in static mode, one of preset 1 in FALLBACK. -/
def State.setSecond (s : State) (j : Host) (k w : Nat) : State :=
  let old := (List.range 3).foldl (fun v i => v + s.get (setField j k i) * 2 ^ (10 * i)) 0
  let c := coefsOfWords ((assocFind (s.hl j).firstWord k).getD old) w
  let t := s.setHl j (fun h => { h with firstWord := assocDel h.firstWord k })
  if coefSetOk c then
    let u := t.each (List.range 6) (fun i v => v.seti (setField j k i) (c.getD i 0))
    if (k = 0 ∧ (s.hl j).trnEn = false) ∨ (k = 1 ∧ s.get (HL.TRN_STATUS_STATE j) = 3) then u.actTarget j c else u
  else t.on (HL.TX_STATUS_PRESET_REJ j)

/-- A write of AMP (Table 01-11): slewed in DATA and FALLBACK, at once elsewhere. -/
def State.ampWritten (s : State) (j : Host) : State :=
  if s.hostCarries j then s else s.setHl j (fun h => { h with amp := s.get (HL.TX_CTRL_AMP j) })

/-- One slew step of the coefficients: each moves one code (R176). -/
def State.actStep (s : State) (j : Host) : State :=
  let c := ((s.actCoefs j).zip (s.hl j).target).map (fun p => stepToward 1 p.1 p.2)
  (s.actSet j c).setB (HL.TX_STATUS_SLEWING j) (c != (s.hl j).target)

/-- One slew step of the amplitude, counted from its own write (R176). -/
def State.ampStep (s : State) (j : Host) : State :=
  s.setHl j (fun h => { h with amp := (stepToward 1 h.amp (s.get (HL.TX_CTRL_AMP j))).toNat })

/-- The lane's slot carries the partner's data (R177): frame and superframe lock, a partner in TRAFFIC or ONE_WAY, no
loss flag of the slot. -/
def State.deframed (s : State) (j : Host) : Bool :=
  match s.lineOf j with
  | none => false
  | some n =>
    s.flag (LN.FRM_STATUS_FRAME_LOCK n) && s.flag (LN.FRM_STATUS_SF_LOCK n) &&
      (s.get (LN.LOC_STATUS_PEER_STATE n) == 5 || s.get (LN.LOC_STATUS_PEER_STATE n) == 6) &&
      !s.bitOf (LN.LOC_STATUS_PEER_FLAGS n) (if s.hostA n = j then 1 else 0)

/-- The source the transmitter is to use (R177): 0 training frames, 3 PRBS, 1 deframer stream, 2 fill. -/
def State.hostSource (s : State) (j : Host) : Nat :=
  let st := s.get (HL.TRN_STATUS_STATE j)
  if st = 1 ∨ st = 2 ∨ (s.hl j).offer then 0
  else if s.flag (PRBS.CTRL_GEN_EN (PrbsLane.host j).base) then 3
  else if s.deframed j then 1 else 2

/-- SOURCE follows at once. -/
def State.sourceNow (s : State) (j : Host) : State := s.set (HL.TX_STATUS_SOURCE j) (s.hostSource j)

/-! ## KP4 monitors (R88) -/

/-- A monitor runs: MON_EN, and for direction 0 a lane with SD and CDR lock outside WAIT_SD and TRAINING, for direction
1 frame lock of the paired line lane. -/
def State.monRuns (s : State) (j : Host) (d : Dir) : Bool :=
  s.flag (LST.KP4_CFG_MON_EN j) &&
    (if d = 0 then s.flag (HL.RX_STATUS_SD_NOW j) && s.flag (HL.RX_STATUS_CDR_LOCK j) && s.hostCarries j
     else match s.lineOf j with | some n => s.flag (LN.FRM_STATUS_FRAME_LOCK n) | none => false)

/-- The newest bits of a monitor's stream are a marker group: they match its specified value in all but at most 8 bits
(R88). -/
def State.amFound (s : State) (j : Host) (d : Dir) : Bool :=
  let m := Config.amMarker j
  let bs := (((s.hl j).kp4.get d).bits.take m.length).reverse
  bs.length == m.length && distance bs m ≤ 8

/-- The boundaries follow from a marker group that has just ended: of the codewords, and, in direction 0, of the RS symbols that
the gearbox takes (R88, R89). DEDUCED (log 199): the group's first bit is the first bit of a codeword. -/
def State.amLocate (s : State) (j : Host) (d : Dir) : State :=
  let k := (Config.amMarker j).length
  let t := s.setKp4 j d (fun m => { m with since := some k })
  if d = 0 then t.setHl j (fun h => { h with part := (((h.kp4.get 0).bits.take (k % 10)).reverse) }) else t

/-- A marker group is found, or missed (R88). -/
def State.amGroup (s : State) (j : Host) (d : Dir) (found : Bool) : State :=
  let m := (s.hl j).kp4.get d
  if !s.monRuns j d then s
  else if found then
    let t := (s.setKp4 j d (fun m => { m with found := m.found + 1, missed := 0 })).amLocate j d
    if m.found = 0 then t else t.on (LST.KP4_STATUS_AM_LOCK j d)
  else if m.missed = 2 && s.flag (LST.KP4_STATUS_AM_LOCK j d) then s.amLose j d
  else s.setKp4 j d (fun m => { m with found := 0, missed := m.missed + 1 })

/-- A monitored codeword with `errs` symbol errors (R88, R109). -/
def State.kp4Codeword (s : State) (j : Host) (d : Dir) (errs : Nat) : State :=
  if !s.monRuns j d || !s.flag (LST.KP4_STATUS_AM_LOCK j d) then s
  else
    let t := s.setKp4 j d (fun m =>
      if 15 < errs then { m with total := satInc 48 m.total, uncorr := satInc 48 m.uncorr }
      else { m with total := satInc 48 m.total, sym := satAdd 48 m.sym errs,
                    tail := m.tail.set errs (satInc 48 (m.tail.getD errs 0)) })
    if d = 0 then (if 15 < errs then t.countEvent 0x082 j 1 else if errs = 0 then t else t.countEvent 0x081 j 1) else t

/-! ## Training states (Table 07-2) -/

/-- The held fields take effect (R33). -/
def State.hostHeld (s : State) (j : Host) : State :=
  s.setHl j (fun h => { h with rxInv := s.flag (HL.RX_CTRL_RX_INV j), rxPre := s.flag (HL.RX_CTRL_RX_PRECODE j),
                               txInv := s.flag (HL.TX_CTRL_TX_INV j), txPre := s.flag (HL.TX_CTRL_TX_PRECODE j) })

/-- Peaking follows HLn_RX_CTRL.CTLE where it is not adapted (R169). -/
def State.ctleManual (s : State) (j : Host) : State :=
  if s.flag (HL.RX_CTRL_CTLE_AUTO j) then s else s.set (HL.RX_STATUS_CTLE_EFF j) (s.get (HL.RX_CTRL_CTLE j))

/-- A write `v` of HLn_RX_CTRL names CTLE or CTLE_AUTO: what CTLE then says takes effect at once, in Nap at the wake; a write
in DATA is stored until the next entry to TRAINING (R33, R169). -/
def State.ctleWritten (s : State) (j : Host) (v : Nat) : State :=
  if !(bit v (16 + (HL.RX_CTRL_CTLE_AUTO j).lo) || bits v (16 + (HL.RX_CTRL_CTLE j).lo) 4 == 0xF) || s.get (HL.TRN_STATUS_STATE j) == 4 then s
  else if (s.hl j).power = .active then s.ctleManual j
  else s.setHl j (fun h => { h with ctleWake := true })

/-- Peaking that is adapted in WAIT_SD and TRAINING: where the adaptation has brought it is a free value (R169). -/
def State.ctleAdapt (s : State) (j : Host) : State :=
  if s.flag (HL.RX_CTRL_CTLE_AUTO j) then (s.set (HL.RX_STATUS_CTLE_EFF j) (s.drawn 16 4)).drew else s

/-- Change of training state: the timers stop, the ready bits clear, and what starts in the new state starts afresh. Outside
DATA and FALLBACK the amplitude written is in force (R176). DESIGN CHOICE (log 198): Table 07-10 does not say how long
LOCAL_READY and PARTNER_READY stay set; they belong to one stay in TRAINING. -/
def State.trnTo (s : State) (j : Host) (st : Nat) : State :=
  (((s.set (HL.TRN_STATUS_STATE j) st).off (HL.TRN_STATUS_LOCAL_READY j)).off (HL.TRN_STATUS_PARTNER_READY j)).setHl j
    (fun h => { h with noTmo := st == 2, readyHold := false, firstAns := none, reqs := 0, offer := false, restart := false,
                       ctleHeld := false, search := {}, ask := none,
                       amp := if st = 3 ∨ st = 4 then h.amp else s.get (HL.TX_CTRL_AMP j) })

/-- No precoding request of this training has been exchanged yet (R168). -/
def State.precodeClear (s : State) (j : Host) : State :=
  (s.off (HL.TRN_STATUS_PRECODE_RX j)).off (HL.TRN_STATUS_PRECODE_TX j)

/-- Entry to TRAINING: NO_PARTNER_TMO starts, the transmitter starts from TX_INIT_PRESET (R179), a peaking that is not
adapted takes effect (R169), the direction-0 monitor loses AM_LOCK (R88). -/
def State.enterTraining (s : State) (j : Host) : State :=
  let t := (((s.amLose j 0).trnTo j 2).hostHeld j).precodeClear j
  (((t.actJump j (t.setCoefs j (s.get (HL.TRN_CTRL_TX_INIT_PRESET j)))).ctleManual j).ctleAdapt j).sourceNow j

/-- WAIT_SD: training frames from TX_INIT_PRESET; the direction-0 monitor loses AM_LOCK (R88), and the search for training
frames starts afresh (R178). -/
def State.waitSd (s : State) (j : Host) : State :=
  let t := ((((s.amLose j 0).trnTo j 1).hostHeld j).precodeClear j).setHl j (fun h => { h with trnLock := false })
  ((t.actJump j (t.setCoefs j (s.get (HL.TRN_CTRL_TX_INIT_PRESET j)))).ctleAdapt j).sourceNow j

/-- Entry to WAIT_SD; with SD_NOW = 1 the lane goes on to TRAINING. -/
def State.enterWaitSd (s : State) (j : Host) : State :=
  let u := s.waitSd j
  if s.flag (HL.RX_STATUS_SD_NOW j) then u.enterTraining j else u

/-- Entry to FALLBACK, with preset 1. -/
def State.enterFallback (s : State) (j : Host) : State :=
  ((((s.trnTo j 3).on (HL.TRN_STATUS_TRAIN_NO_PARTNER j)).inc (HL.TRN_CNT_NO_PARTNER_CNT j)).actJump j (s.setCoefs j 1)).sourceNow j

/-- Entry to DATA. -/
def State.enterData (s : State) (j : Host) : State :=
  ((s.trnTo j 4).setHl j (fun h => { h with sdLost := none })).sourceNow j

/-- In static mode the precoding shown is that of the control fields in force (R168). -/
def State.precodeShow (s : State) (j : Host) : State :=
  (s.setB (HL.TRN_STATUS_PRECODE_RX j) (s.hl j).rxPre).setB (HL.TRN_STATUS_PRECODE_TX j) (s.hl j).txPre

/-- Entry to static DATA: the transmitter on TX_MAN, precoding by the control fields in force (R168, R176). -/
def State.enterStatic (s : State) (j : Host) : State :=
  let t := s.enterData j
  (t.actJump j (t.setCoefs j 0)).precodeShow j

/-- The lane starts by TRN_EN as it now reads (Table 07-2). -/
def State.trnStart (s : State) (j : Host) : State :=
  let t := s.setHl j (fun h => { h with trnEn := s.flag (HL.TRN_CTRL_TRN_EN j) })
  if s.flag (HL.TRN_CTRL_TRN_EN j) then
    t.enterWaitSd j
  else t.enterStatic j

/-- A host lane becomes Active from Off. -/
def State.hostOn (s : State) (j : Host) : State :=
  if (s.hl j).power = .off then
    ((((s.setHl j (fun h => { h with power := .active, amp := s.get (HL.TX_CTRL_AMP j) })).showPll (.ht j)).hostHeld j).ctleManual j).trnStart j
  else s

/-- SD and CDR lock of a lane are gone, without a record. -/
def State.hostDark (s : State) (j : Host) : State :=
  ((((s.off (HL.RX_STATUS_SD_NOW j)).off (HL.RX_STATUS_CDR_LOCK j)).setHl j (fun h => { h with trnLock := false, part := [] })).amLose j 0).pllHostLost j

/-- A host lane goes Off: its PLL stops with it, and holds nothing (R23). -/
def State.hostOff (s : State) (j : Host) : State :=
  if (s.hl j).power = .off then s
  else (((((s.pllStop (.ht j)).hostDark j).amLose j 1).trnTo j 0).setHl j (fun h => { h with power := .off, sdLost := none, slew := [] }))

/-- A host lane enters Nap with its line lane (R182). DESIGN CHOICE (log 196): a host write of a receive coefficient that is
still on its way stops where the coefficient stands, as it does when the lane goes Off. -/
def State.hostNap (s : State) (j : Host) : State :=
  if (s.hl j).power = .active then
    ((((s.pllStop (.ht j)).hostDark j).amLose j 1).setHl j (fun h => { h with power := .nap, napAt := s.now, slew := [], offer := false }))
  else s

/-- A host lane leaves Nap (R182): DATA is kept, with coefficients that are still on their way (R176), any other state
restarts at WAIT_SD; time in Nap is no absence. The held fields take effect, and in static mode the precoding shown with them
(R33, R168), and a CTLE written in the Nap (R169). -/
def State.hostWake (s : State) (j : Host) : State :=
  if (s.hl j).power = .nap then
    let t := ((s.setHl j (fun h => { h with power := .active, amp := s.get (HL.TX_CTRL_AMP j), ctleWake := false,
                                            sdLost := h.sdLost.map (fun a => (a + s.since h.napAt) % timeMod) })).showPll (.ht j)).hostHeld j
    let u := if (s.hl j).ctleWake then t.ctleManual j else t
    if s.get (HL.TRN_STATUS_STATE j) = 4 then
      ((if (s.hl j).trnEn then u else u.precodeShow j).setB (HL.TX_STATUS_SLEWING j) (s.actCoefs j != (s.hl j).target)).sourceNow j
    else u.enterWaitSd j
  else s

/-- The signal-detect threshold in mVppd (R172); SD_LEVEL 0x00 acts as 0x01. -/
def State.sdLevel (s : State) (j : Host) : Nat := 2 * max 1 (s.get (HL.RX_CFG_SD_LEVEL j))

/-- An absence of SD since powered time `a` is longer than RETRAIN_HOLD (R181). DESIGN CHOICE (log 197): it is measured in whole
milliseconds of powered time, and with RETRAIN_HOLD = 0x00 every absence is longer. -/
def State.sdAbsent (s : State) (j : Host) (a : Nat) : Bool :=
  let hold := s.get (HL.RX_CFG_RETRAIN_HOLD j)
  hold != 0xFF && (hold == 0 || decide (hold < s.since a))

/-- Signal detect rises (R172, Table 07-2, R181): the amplitude, in mVppd, has stayed at `mv` or above for 1 us. -/
def State.sdRise (s : State) (j : Host) (mv : Nat) : State :=
  if (s.hl j).power ≠ .active ∨ s.flag (HL.RX_STATUS_SD_NOW j) ∨ mv < s.sdLevel j then s
  else
    let t := s.on (HL.RX_STATUS_SD_NOW j)
    match s.get (HL.TRN_STATUS_STATE j) with
    | 1 => if (s.hl j).restart then t else t.enterTraining j
    | 4 =>
      match (s.hl j).sdLost with
      | some a =>
        let u := t.setHl j (fun h => { h with sdLost := none })
        if (s.hl j).trnEn && s.sdAbsent j a then u.enterTraining j else u
      | none => t
    | _ => t

/-- HOST_LOS is set and counted (Table 07-2). -/
def State.hostLos (s : State) (j : Host) : State := (s.on (HL.RX_STATUS_HOST_LOS j)).inc (HL.RX_CNT_LOS_CNT j)

/-- Signal detect falls (R172, Table 07-2): the amplitude has stayed at `mv` or below for 2 us, less than three quarters of
the level. -/
def State.sdFall (s : State) (j : Host) (mv : Nat) : State :=
  if !s.flag (HL.RX_STATUS_SD_NOW j) || decide (3 * s.sdLevel j ≤ 4 * mv) then s
  else
    let t := s.hostDark j
    match s.get (HL.TRN_STATUS_STATE j) with
    | 2 => ((t.on (HL.TRN_STATUS_TRAIN_ABORT_SD j)).inc (HL.TRN_CNT_ABORT_SD_CNT j)).enterWaitSd j
    | 3 => (t.hostLos j).enterWaitSd j
    | 4 => (t.hostLos j).setHl j (fun h => { h with sdLost := some s.now })
    | _ => t

/-- The CDR locks (R172). -/
def State.cdrLock (s : State) (j : Host) : State :=
  if s.flag (HL.RX_STATUS_SD_NOW j) then (s.on (HL.RX_STATUS_CDR_LOCK j)).pllHostClock j else s

/-- CDR lock is lost with SD_NOW = 1 (R172). -/
def State.cdrLoss (s : State) (j : Host) : State :=
  if s.flag (HL.RX_STATUS_SD_NOW j) && s.flag (HL.RX_STATUS_CDR_LOCK j) then
    (((((s.off (HL.RX_STATUS_CDR_LOCK j)).on (HL.RX_STATUS_CDR_LOSS j)).inc (HL.RX_CNT_CDR_LOSS_CNT j)).setHl j
      (fun h => { h with trnLock := false, part := [] })).amLose j 0).pllHostLost j
  else s

/-- The taps in the order of the search (R179): c(-1), c(+1), c(-2), c(-3), c(+2). -/
def searchTap (k : Nat) : Fin 6 := match k with | 0 => 2 | 1 => 4 | 2 => 1 | 3 => 0 | _ => 5

/-- The search goes on after a frame whose MSE_EST is `mse`: the new stand and the request to send, none where a full pass has
brought no improvement (R179). DESIGN CHOICE (log 146): each tap is tried upward, and goes on while that improves; a step that
does not is taken back, and the tap tried downward in the same way. -/
def TrnSearch.next (q : TrnSearch) (mse preset : Nat) : TrnSearch × Option TrnReq :=
  let tap := searchTap q.tap
  let better := mse < q.best
  match q.phase with
  | .idle => ({ q with phase := .preset }, some (.preset (Fin.ofNat 8 preset)))
  | .preset => ({ q with phase := .up, best := mse }, some (.inc tap))
  | .up => if better then ({ q with best := mse, improved := true }, some (.inc tap)) else ({ q with phase := .upUndo }, some (.dec tap))
  | .upUndo => ({ q with phase := .down }, some (.dec tap))
  | .down => if better then ({ q with best := mse, improved := true }, some (.dec tap)) else ({ q with phase := .downUndo }, some (.inc tap))
  | .downUndo =>
    if q.tap < 4 then ({ q with phase := .up, tap := q.tap + 1 }, some (.inc (searchTap (q.tap + 1))))
    else if q.improved then ({ q with phase := .up, tap := 0, improved := false }, some (.inc (searchTap 0)))
    else (q, none)

/-- The lane's next request, unless it is ready or has sent MAX_REQ requests; else it is ready (R179). -/
def State.trnAsk (s : State) (j : Host) : State :=
  let h := s.hl j
  if s.flag (HL.TRN_STATUS_LOCAL_READY j) then s
  else if max 1 (s.get (HL.TRN_CFG2_MAX_REQ j)) ≤ h.reqs then (s.on (HL.TRN_STATUS_LOCAL_READY j)).setHl j (fun h => { h with ask := none })
  else
    let r := h.search.next (s.get (HL.RX_STATUS_MSE_EST j)) (s.get (HL.TRN_CTRL_REQ_INIT_PRESET j))
    let t := s.setHl j (fun h => { h with search := r.1, ask := r.2, reqs := h.reqs + r.2.toList.length })
    if r.2.isSome then t else t.on (HL.TRN_STATUS_LOCAL_READY j)

/-- A valid training frame (R178): the first one gives training-frame lock; one under lock is an answer in TRAINING, and a way
back to TRAINING from FALLBACK. Each answer moves the lane's search on (R179). DESIGN CHOICE (log 195): what makes the lock is
left to IEEE 802.3; one valid frame does, and that frame is no answer yet, in FALLBACK as in TRAINING. -/
def State.trnFrame (s : State) (j : Host) (ready confirm : Bool) : State :=
  let st := s.get (HL.TRN_STATUS_STATE j)
  if (st ≠ 2 ∧ st ≠ 3) ∨ !s.flag (HL.RX_STATUS_CDR_LOCK j) then s
  else if !(s.hl j).trnLock then s.setHl j (fun h => { h with trnLock := true })
  else
    let t := ((if st = 3 then s.enterTraining j else s).ctleAdapt j).trnAsk j
    let u := (t.setB (HL.TRN_STATUS_PARTNER_READY j) ready).setB (HL.TRN_STATUS_PRECODE_RX j) (confirm && s.flag (HL.TRN_CTRL_REQ_PRECODE j))
    u.setHl j (fun h => { h with noTmo := false, readyHold := t.flag (HL.TRN_STATUS_LOCAL_READY j) && ready,
                                 firstAns := match h.firstAns with | none => some s.now | some a => some a })

/-- A partner's request, read under training-frame lock, is answered in TRAINING (R178, R179). -/
def State.trnRequest (s : State) (j : Host) (r : TrnReq) : State :=
  let answer (a : TrnAnswer) (t : State) := t.setHl j (fun h => { h with answer := a })
  let move (i : Nat) (d : Int) : State :=
    let c := s.actCoefs j
    let v := c.getD i 0 + d * (max 1 (s.get (HL.TRN_CFG2_TRN_STEP j)) : Nat)
    if v < tapLo i || tapHi i < v then answer .limit s
    else if 256 < magnitude (c.set i v) then answer .equalization s
    else answer .updated (s.actJump j (c.set i v))
  if (s.hl j).power ≠ .active ∨ s.get (HL.TRN_STATUS_STATE j) ≠ 2 ∨ (s.hl j).trnLock = false then s
  else
    match r with
    | .hold _ => answer .held s
    | .inc i => move i 1
    | .dec i => move i (-1)
    | .preset k => if 1 ≤ k.val ∧ k.val ≤ 5 then answer .updated (s.actJump j (s.setCoefs j k)) else answer .unsupported s
    | .precode => answer .precoding (s.on (HL.TRN_STATUS_PRECODE_TX j))

/-- An offer in progress ends where no offers are sent: in TRAFFIC and ONE_WAY with OFFER_IN_TRAFFIC = 0 (R180). -/
def State.offerCut (s : State) (j : Host) : State :=
  if (s.hl j).offer && (s.hstate j == 5 || s.hstate j == 6) && !s.flag (HL.TRN_CTRL_OFFER_IN_TRAFFIC j) then
    (s.setHl j (fun h => { h with offer := false })).sourceNow j
  else s

/-! ## PRBS (R184 to R188) -/

/-- A generator enable is refused in the port's present state (R186). -/
def State.genRefused (s : State) : PrbsLane → Bool
  | .line n => carries (s.lstate n)
  | .host j => s.hstate j == 5 || s.hstate j == 6

/-- GEN_EN is written as 1 (R186). -/
def State.genEnable (s : State) (l : PrbsLane) : State :=
  if s.genRefused l then s.on (PRBS.STATUS_GEN_REFUSED l.base)
  else
    let t := s.on (PRBS.CTRL_GEN_EN l.base)
    match l with | .host j => t.sourceNow j | .line _ => t

/-- CLR (R188, Table 07-11). -/
def State.prbsClear (s : State) (l : PrbsLane) : State :=
  (((s.setPrbs l (fun p => { p with bits := 0, errs := 0 })).off (PRBS.STATUS_SAT l.base)).off
    (PRBS.STATUS_HOLD_VALID l.base)).off (PRBS.HOLD4_LOCK_LOSS_CNT l.base)

/-- HLn_CMD.CNT_CLR (Table 07-6). -/
def State.hostCntClr (s : State) (j : Host) : State :=
  ((((((s.off (HL.RX_CNT_LOS_CNT j)).off (HL.RX_CNT_CDR_LOSS_CNT j)).off (HL.TRN_CNT_NO_PARTNER_CNT j)).off
    (HL.TRN_CNT_ABORT_SD_CNT j)).off (HL.TRN_CNT_FAIL_CNT j)).off (HL.TRN_CNT_DONE_CNT j))

end Sys2Proof.Machine
end

