-- ==== Sys2Proof/Machine/BdaOps.lean ====
section
/-!
DEFINITION. Bias and heater DACs (chapter 10): queues, the sample tick, the deglitcher, forced clears, range changes and
the kite injection.
-/

namespace Sys2Proof.Machine

open Sys2Proof

/-- A channel's state outside its registers. -/
def State.ch (s : State) (c : Chan) : BdaCh := s.bda.get c

/-- Change a channel's state. LEVEL follows the queue. -/
def State.setCh (s : State) (c : Chan) (f : BdaCh → BdaCh) : State :=
  { s with bda := vset s.bda c (f (s.ch c)) }.set (BDA.CHSTATUS_LEVEL c) (f (s.ch c)).queue.length

/-- What bears on a laser channel's injection is about to change: the samples injected until now are judged as things stand
(R236, R238). -/
def State.injPass (s : State) (c : Chan) : State :=
  if h : c.val < 8 then
    let n : Lane := ⟨c.val, h⟩
    if (s.kl n).tx.isSome ∧ s.flag (KL.STATUS_TX_PATH n) = true then s.kitePass n else s
  else s

/-- The output of a channel in units of 1.25 V / 65,536 (R228): the full scale doubles with RANGE_EFF. -/
def State.biasOut (s : State) (c : Chan) : Nat := s.get (BDA.OUT_OUT c) * (1 + s.get (BDA.OUT_RANGE_EFF c))

/-- The laser bias channel of a lane, and its modulator bias channel (Table 10-1). -/
def biasChan (n : Lane) : Chan := ⟨n.val, by omega⟩
def modChan (n : Lane) : Chan := ⟨n.val + 8, by omega⟩

/-- The safety logic of a lane. -/
def State.sf (s : State) (n : Lane) : SafLane := s.saf.lane.get n

/-- Change it. -/
def State.setSf (s : State) (n : Lane) (f : SafLane → SafLane) : State :=
  { s with saf := { s.saf with lane := vset s.saf.lane n (f (s.sf n)) } }

/-- How an output is driven (Table 10-2): a driven one to so many units of 1.25 V / 65,536. -/
inductive BiasDrive where
  | highZ | grounded | driven (units : Nat)
deriving DecidableEq, Repr

/-- The injection into an output now, in units of 1.25 V / 65,536: the summing converter of a laser bias channel adds it past
the deglitcher (R236). -/
def State.injUnits (s : State) (c : Chan) : Int :=
  if h : c.val < 8 then s.injNow ⟨c.val, h⟩ * (1 + s.get (BDA.OUT_RANGE_EFF c) : Nat) else 0

/-- The output clamp of a laser bias channel that a comparator's trip has engaged (R300). -/
def State.clamped (s : State) (c : Chan) : Bool := if h : c.val < 8 then (s.sf ⟨c.val, h⟩).clamp else false

/-- The output of a channel by supply and domain state (R237, R309) and its clamp (R300), the deglitcher's hold (R231) and the
injection (R236) included. -/
def State.biasDrive (s : State) (c : Chan) : BiasDrive :=
  if s.pwr.dev = .off ∨ s.saf.uvlo = true then .highZ
  else if s.awake ∧ s.flag SAF.STATUS_SUPPLY_NOW = false then
    if s.clamped c then .grounded
    else .driven (((if s.flag (BDA.CHSTATUS_DEGLITCH c) then (s.ch c).held else s.biasOut c : Nat) : Int) + s.injUnits c).toNat
  else if c.val < 8 then .grounded else .highZ

/-! ## The monitor comparators (R298, R299) -/

/-- The channels of lane `n` whose outputs go to the lane gate: bit 0 A, bit 1 B; the one under test is disconnected. -/
def State.gated (s : State) (n : Lane) (chans : Nat) : Nat :=
  match (s.sf n).test with
  | some t => putBit (chans % 4) t.stage false % 4
  | none => chans % 4

/-- The thresholds in force, in mV: HI above 0x3E8 and LO below 0x010 act as those bounds (R311). -/
def State.hiMv (s : State) (n : Lane) : Nat := min 0x3E8 (s.get (SAF.LIM_HI n))
def State.loMv (s : State) (n : Lane) : Nat := max 0x010 (s.get (SAF.LIM_LO n))

/-- The channels of lane `n` whose HI comparator is tripped, and whose LO comparator would be (R298): bit 0 A, bit 1 B. -/
def State.cmpHi (s : State) (n : Lane) : Nat :=
  (decide (s.hiMv n < (s.sf n).mpdA)).toNat + 2 * (decide (s.hiMv n < (s.sf n).mpdB)).toNat
def State.cmpLo (s : State) (n : Lane) : Nat :=
  (decide ((s.sf n).mpdA < s.loMv n)).toNat + 2 * (decide ((s.sf n).mpdB < s.loMv n)).toNat

/-- CMP_NOW of lane `n`: a comparator is tripped; LO counts while armed (R298, R299). -/
def State.cmpNow (s : State) (n : Lane) : Bool :=
  s.gated n (s.cmpHi n) != 0 || (s.flag (SAF.INFO_ARMED_LO n) && s.gated n (s.cmpLo n) != 0)

/-- CMP_NOW follows. -/
def State.cmpShow (s : State) (n : Lane) : State := s.setBit SAF.STATUS_CMP_NOW n (s.cmpNow n)

/-- The output voltage of BDAn in units of 1.25 V / 65,536; an output that is not driven lies at ground (R237). -/
def State.biasUnits (s : State) (n : Lane) : Nat :=
  match s.biasDrive (biasChan n) with | .driven u => u | _ => 0

/-- It is above 50 mV, or below (R299). -/
def State.biasAbove (s : State) (n : Lane) : Bool := decide (50 * 65536 < 1250 * s.biasUnits n)
def State.biasBelow (s : State) (n : Lane) : Bool := decide (1250 * s.biasUnits n < 50 * 65536)

/-- The LO comparators of lane `n` disarm as soon as the output is below 50 mV (R299). -/
def State.loFollow (s : State) (n : Lane) : State :=
  if s.flag (SAF.INFO_ARMED_LO n) && s.biasBelow n then (s.off (SAF.INFO_ARMED_LO n)).cmpShow n else s

/-- After a change of a channel's output: the LO comparators of a laser bias channel follow it. -/
def State.outFollow (s : State) (c : Chan) : State := if h : c.val < 8 then s.loFollow ⟨c.val, h⟩ else s

/-- The output goes to the clear code, past the deglitcher and the limits (R233). -/
def State.outClear (s : State) (c : Chan) : State :=
  (((s.injPass c).set (BDA.OUT_OUT c) (s.get (BDA.CLR_CLR_CODE c))).off (BDA.CHSTATUS_DEGLITCH c)).outFollow c

/-- A forced clear ends a kite injection into a laser bias channel (R211). -/
def State.injGone (s : State) (c : Chan) : State := if h : c.val < 8 then s.kiteInjGone ⟨c.val, h⟩ else s

/-- A forced clear by PIN or RIP starts on a channel: its queue is flushed (R233). -/
def State.forceStart (s : State) (c : Chan) : State :=
  ((s.setCh c (fun h => { h with queue := [], wait := true })).outClear c).injGone c

/-- A change `f` of the safety or pin state; every channel that it newly forces is cleared (R233). A channel whose last
cause it ends stays at its clear code until a new code (R234). -/
def State.forcing (s : State) (f : State → State) : State :=
  let new := (List.finRange 24).filter (fun c : Chan => !s.clearForced c.val && (f s).clearForced c.val)
  (f (s.each new (fun c t => t.injPass c))).each new (fun c t => t.forceStart c)

/-- A code is written to a queue (R229, R233). -/
def State.qdata (s : State) (c : Chan) (v : Nat) : State :=
  if s.clearForced c then s.on (BDA.CHSTATUS_CLR_DROP c)
  else if 32 ≤ (s.ch c).queue.length then (s.on (BDA.CHSTATUS_QOVF c)).inc (BDA.CNT_QOVF_CNT c)
  else (s.setCh c (fun h => { h with queue := h.queue ++ [v % 65536] })).set (BDA.QDATA_CODE c) v

/-- A code is applied: clipped to the limits, and where bits 15 to 12 change held off by the deglitcher, which keeps the
output as it was (R229, R231). -/
def State.codeApply (s : State) (c : Chan) (v : Nat) : State :=
  let x := clampN (s.get (BDA.LIM_LO c)) (s.get (BDA.LIM_HI c)) v
  let p := s.injPass c
  let t := if x = v then p else p.on (BDA.CHSTATUS_LIM_CLIP c)
  let u := t.setCh c (fun h => { h with held := s.biasOut c })
  ((u.set (BDA.OUT_OUT c) x).setB (BDA.CHSTATUS_DEGLITCH c) (x / 4096 != s.get (BDA.OUT_OUT c) / 4096)).outFollow c

/-- The deglitcher's hold is over, and the output is at the applied code (R231). -/
def State.deglitched (s : State) (c : Chan) : State := (s.off (BDA.CHSTATUS_DEGLITCH c)).outFollow c

/-- The channel is the laser channel of a line lane in no port: it stays at its clear code (R27). DESIGN CHOICE (log 147):
codes that reach its head are taken, and not applied. -/
def State.unusedLaser (s : State) (c : Chan) : Bool := decide (c.val < 8) && (s.portOf (Fin.ofNat 8 c.val)).isNone

/-- One channel takes its queue head at a tick, or holds (R229, R230, R232). An empty queue is an underrun in a range change
too (R230), not in the brace (R232). -/
def State.tickQueue (s : State) (c : Chan) : State :=
  if s.braced || s.bitOf BDA.PAUSE_PAUSE c then s
  else
    match (s.ch c).queue with
    | v :: q =>
      if s.forced c then s
      else
        let t := s.setCh c (fun h => { h with queue := q, wait := false })
        if s.unusedLaser c then t.outClear c else t.codeApply c v
    | [] =>
      if s.flag (BDA.CFG_UNDER_EN c) && !(s.ch c).wait then (s.on (BDA.CHSTATUS_UNDERRUN c)).inc (BDA.CNT_UNDERRUN_CNT c)
      else s

/-- The range change of a channel at a tick (R235): begun at the first tick, over at the ninth. -/
def State.tickRange (s : State) (c : Chan) : State :=
  let h := s.ch c
  if h.rangePend then
    (((((s.injPass c).set (BDA.OUT_RANGE_EFF c) (s.get (BDA.CFG_RANGE c))).setBit (BDA.CHSTATUS_FORCED c) 2 true).setCh c
      (fun h => { h with rangePend := false, rangeLeft := 8 })).outClear c).injGone c
  else if h.rangeLeft = 1 then
    (s.setCh c (fun h => { h with rangeLeft := 0 })).setBit (BDA.CHSTATUS_FORCED c) 2 false
  else s.setCh c (fun h => { h with rangeLeft := h.rangeLeft - 1 })

/-- One sample tick of all channels (R229), an event of Spar (R270). -/
def State.bdaTick (s : State) : State :=
  if s.awake then (s.each (List.finRange 24) (fun c t => (t.tickRange c).tickQueue c)).sprEvent 2 else s

/-- RANGE is written (R235): a change starts a range change, and a write during one restarts it. -/
def State.rangeWrite (s : State) (c : Chan) (v : Nat) : State :=
  if v % 2 = s.get (BDA.CFG_RANGE c) ∧ (s.ch c).rangeLeft = 0 ∧ (s.ch c).rangePend = false then s
  else (s.set (BDA.CFG_RANGE c) v).setCh c (fun h => { h with rangePend := true })

/-- The clear code is changed by its guarded pair: an output held at it moves with it (R238). -/
def State.clrWritten (s : State) (c : Chan) : State :=
  if s.forced c || (s.ch c).wait || s.unusedLaser c then (s.set (BDA.OUT_OUT c) (s.get (BDA.CLR_CLR_CODE c))).outFollow c else s

/-- FLUSH empties the queue while the output holds (Table 10-4). -/
def State.bdaFlush (s : State) (c : Chan) : State := s.setCh c (fun h => { h with queue := [] })

/-- CNT_CLR (Table 10-4). -/
def State.bdaCntClr (s : State) (c : Chan) : State := (s.off (BDA.CNT_UNDERRUN_CNT c)).off (BDA.CNT_QOVF_CNT c)

/-- New limits of a channel are in force; injection samples before them were judged by the old ones (R238). -/
def State.limitsPut (s : State) (c : Chan) (lo hi : Nat) : State :=
  ((s.injPass c).set (BDA.LIM_LO c) lo).set (BDA.LIM_HI c) hi

/-- A LIM value is written: one with LO above HI is discarded as a whole, and LIM_REJ set (R239). -/
def State.limitsSet (s : State) (c : Chan) (lo hi : Nat) : State :=
  if hi < lo then s.on BDA.STATUS_LIM_REJ else s.limitsPut c lo hi

/-- The laser bias of a lane is away from its clear code. -/
def State.lit (s : State) (n : Lane) : Bool := s.get (BDA.OUT_OUT (biasChan n)) != s.get (BDA.CLR_CLR_CODE (biasChan n))

/-- Resident firmware takes the laser bias channel of a lane to its clear code (R194). -/
def State.biasClear (s : State) (n : Lane) : State :=
  if s.lit n || !(s.ch (biasChan n)).queue.isEmpty then s.qdata (biasChan n) (s.get (BDA.CLR_CLR_CODE (biasChan n))) else s

end Sys2Proof.Machine
end

