-- ==== Sys2Proof/Machine/MbxOps.lean ====
section
/-!
DEFINITION. The mailbox (R432): a command starts with a write of GLB_MBX_CMD, and ends with its completion.
-/

namespace Sys2Proof.Machine

open Sys2Proof

/-- A write of GLB_MBX_CMD by initiator `i` (R432): BUSY, OWNER, and the command starts; while BUSY it is discarded and
REJECT set. -/
def State.mbxStart (s : State) (i op tag : Nat) : State :=
  if s.flag GLB.MBX_STATUS_BUSY then s.on GLB.MBX_STATUS_REJECT
  else
    let t := ((s.set GLB.MBX_CMD_OPCODE op).set GLB.MBX_CMD_TAG tag).on GLB.MBX_STATUS_BUSY
    { (t.set GLB.MBX_STATUS_OWNER i) with mbx := { begun := false } }

/-- A write of an ARG word: discarded while BUSY. -/
def State.mbxArg (s : State) (k v : Nat) : State := if s.flag GLB.MBX_STATUS_BUSY then s else s.set (GLB.MBX_ARG_ARG k) v

/-- The mailbox closes the command with code `comp`: COMP and TAG, BUSY and DONE. -/
def State.mbxClose (s : State) (comp : Nat) : State :=
  let t := ((s.off GLB.MBX_STATUS_BUSY).on GLB.MBX_STATUS_DONE).set GLB.MBX_STATUS_COMP comp
  { (t.set GLB.MBX_STATUS_TAG (s.get GLB.MBX_CMD_TAG)) with mbx := { begun := false } }

/-- Resident firmware completes the command with code `comp` and its response words; it writes all eight, and those to
which Table 21-6 gives no content are free values. -/
def State.mbxDone (s : State) (comp : Nat) (rsp : List Nat := []) : State :=
  if !s.flag GLB.MBX_STATUS_BUSY then s
  else
    ((s.each (List.range 8) (fun k t => t.set (GLB.MBX_RSP_RSP k) (rsp.getD k (s.drawn (30 + k) 32)))).drew).mbxClose comp

/-- Argument word `k`. -/
def State.arg (s : State) (k : Nat) : Nat := s.get (GLB.MBX_ARG_ARG k)

/-- Command `op` has been started and is not yet begun; in DEAD the mailbox does not run (Table 22-3). -/
def State.mbxIs (s : State) (op : Nat) : Bool :=
  s.flag GLB.MBX_STATUS_BUSY && !s.mbx.begun && s.get GLB.MBX_CMD_OPCODE == op && s.lc != 5

/-- The command runs on until an event completes it. -/
def State.mbxBegin (s : State) : State := { s with mbx := { begun := true } }

/-- Command `op` runs. -/
def State.mbxRuns (s : State) (op : Nat) : Bool :=
  s.flag GLB.MBX_STATUS_BUSY && s.mbx.begun && s.get GLB.MBX_CMD_OPCODE == op

/-- The commands that run in ROM recovery (R345, R433). -/
def romCommand (op : Nat) : Bool := op == 0x0A || op == 0x0B || op == 0x09

/-- Command `op` is carried out: in ROM recovery every other command than those of R433 completes with NOT_PERMITTED. -/
def State.mbxRun (s : State) (op : Nat) (f : State → State) : State :=
  if !s.mbxIs op then s
  else if s.flag CFG.BOOT_FW_NONE && !romCommand op then s.mbxDone 0x04
  else f s.mbxBegin

/-- The worst-case duration of the command in hand, in microseconds (Table 21-6). -/
def State.mbxWorst (s : State) : Nat :=
  match s.get GLB.MBX_CMD_OPCODE with
  | 0x01 => 70000
  | 0x03 => 10000
  | 0x04 => max 1 (s.get PWR.QUIESCE_PWR_QUIESCE_TMO) + 5000
  | 0x07 => 1000 * (s.arg 2 % 65536 + 1)
  | 0x08 => 120000
  | 0x0A => 3000000
  | 0x0B => 40000
  | 0x0C => 30000
  | 0x0D => 2000
  | 0x0E => 2000000
  | 0x10 => 4 * 10000 * max 1 (s.get (KL.CFG2_PROBE_INT (s.arg 0 % 8))) + 70000
  | _ => 1000

/-- The worst-case duration is exceeded (R432): the mailbox itself completes the command. -/
def State.mbxTimeout (s : State) : State := if s.flag GLB.MBX_STATUS_BUSY then s.mbxClose 0x05 else s

end Sys2Proof.Machine
end

