-- ==== Sys2Proof/Machine/ReelOps.lean ====
section
/-!
DEFINITION. Control of the Reel DMA engine (chapter 19): descriptors, the channel states, start, stop, completion and
quiescence. Data moves stand in `Machine/ReelMove.lean`.
-/

namespace Sys2Proof.Machine

open Sys2Proof

/-- A channel's state outside its registers. -/
def State.rl (s : State) (c : ReelId) : ReelCh := s.reel.get c

/-- Change it. -/
def State.setRl (s : State) (c : ReelId) (f : ReelCh → ReelCh) : State := { s with reel := vset s.reel c (f (s.rl c)) }

/-! ## Descriptors (Table 19-1) -/

/-- Word `i` of the descriptor in progress. -/
def ReelCh.word (h : ReelCh) (i : Nat) : Nat := h.desc.getD i 0

/-- MODE: 0 LINEAR, 1 TWO_D, 2 INDEX. -/
def ReelCh.mode (h : ReelCh) : Nat := bits (h.word 0) 0 2
def ReelCh.barrier (h : ReelCh) : Bool := bit (h.word 0) 2
def ReelCh.irq (h : ReelCh) : Bool := bit (h.word 0) 3
def ReelCh.isLast (h : ReelCh) : Bool := bit (h.word 0) 4
def ReelCh.srcHost (h : ReelCh) : Bool := bit (h.word 0) 5
def ReelCh.dstHost (h : ReelCh) : Bool := bit (h.word 0) 6
def ReelCh.srcFix (h : ReelCh) : Bool := bit (h.word 0) 7
def ReelCh.dstFix (h : ReelCh) : Bool := bit (h.word 0) 8
def ReelCh.req (h : ReelCh) : Nat := bits (h.word 0) 9 5
/-- Beats per burst; 0 means 64. -/
def ReelCh.burst (h : ReelCh) : Nat := if bits (h.word 0) 14 6 = 0 then 64 else bits (h.word 0) 14 6
/-- INDEX element size in bytes. -/
def ReelCh.elem (h : ReelCh) : Nat := bits (h.word 0) 20 8 + 1
def ReelCh.scatter (h : ReelCh) : Bool := bit (h.word 0) 28
def ReelCh.length (h : ReelCh) : Nat := h.word 1
def ReelCh.src (h : ReelCh) : Nat := h.word 2 + 2 ^ 32 * h.word 3
def ReelCh.dst (h : ReelCh) : Nat := h.word 4 + 2 ^ 32 * h.word 5
def ReelCh.srcStride (h : ReelCh) : Nat := h.word 6
def ReelCh.dstStride (h : ReelCh) : Nat := h.word 7
def ReelCh.rows (h : ReelCh) : Nat := bits (h.word 8) 0 16
def ReelCh.next (h : ReelCh) : Nat := h.word 9

/-- Total bytes (R391). -/
def ReelCh.total (h : ReelCh) : Nat :=
  match h.mode with
  | 0 => h.length
  | 1 => h.length * h.rows
  | _ => h.length * h.elem

/-- The beats a request line guarantees (Table 19-2); none for a reserved code. -/
def reelGuarantee (req : Nat) : Option Nat :=
  if req = 0 then some 64 else if req = 1 then some 4 else if req ≤ 0x0B then some 64 else none

/-- A device address lies in the register space. -/
def inRegs (a : Nat) : Bool := decide (a < 0x400000)

/-- A FIX side as R392 asks it to be: in the register space, aligned, not in INDEX mode. -/
def fixOk (h : ReelCh) (a : Nat) : Bool := a % 4 == 0 && h.length % 4 == 0 && h.mode != 2 && inRegs a

/-- The fields of a descriptor are in order (R392, R395). `resume` admits CODE 0x5 and 0x7. -/
def descOk (variantB resume : Bool) (h : ReelCh) : Bool :=
  let code := bits (h.word 10) 0 4
  h.mode != 3 && bits (h.word 0) 29 3 == 0 && bits (h.word 8) 16 16 == 0 && (h.desc.drop 12).all (· == 0) &&
    (if resume then code == 5 || code == 7 else code == 0) && h.length != 0 && (h.mode != 1 || h.rows != 0) &&
    (variantB || !(h.srcHost || h.dstHost)) && (h.srcHost || h.word 3 == 0) && (h.dstHost || h.word 5 == 0) &&
    (!h.srcFix || (!h.srcHost && fixOk h h.src)) && (!h.dstFix || (!h.dstHost && fixOk h h.dst)) &&
    (h.isLast || h.next % 64 == 0) &&
    (match reelGuarantee h.req with | some g => decide (h.burst ≤ g) | none => false)

/-! ## Channel states (Table 19-5) -/

/-- STATE of a channel: 0 IDLE, 1 RUN, 2 PAUSED, 3 STOPPED; RUNNING and QUIESCED follow. -/
def State.reelState (s : State) (c : ReelId) (st : Nat) : State :=
  ((s.set (REEL.CH_STATUS_STATE c) st).setBit REEL.STATUS_RUNNING c (st == 1)).setBit REEL.STATUS_QUIESCED c (st == 2)

/-- The channel runs or is paused. -/
def State.reelBusy (s : State) (c : ReelId) : Bool :=
  s.get (REEL.CH_STATUS_STATE c) == 1 || s.get (REEL.CH_STATUS_STATE c) == 2

/-- INFLIGHT: the channels with data in flight (R388). -/
def State.inflight (s : State) : Nat := ((List.finRange 8).filter (fun c => !(s.rl c).bursts.isEmpty)).length

/-- INFLIGHT follows. -/
def State.reelFlight (s : State) : State := s.set REEL.STATUS_INFLIGHT s.inflight

/-- START or RESUME (R397, R399, R401). -/
def State.reelStart (s : State) (c : ReelId) (resume : Bool) : State :=
  if s.reelBusy c then s.on (REEL.CH_STATUS_START_REJ c)
  else (((s.setRl c (fun _ => { resume := resume })).reelState c 1).off (REEL.CH_BYTES_BYTES c))

/-- STATUS and BYTES are written into the descriptor by one aligned 64-bit write (R390). -/
def State.reelWriteback (s : State) (c : ReelId) (code : Nat) (invalid : Bool) : State :=
  let h := s.rl c
  (s.memWrite Initiator.reel.code (s.get (REEL.CH_DESC_ADDR c) + 0x28) 8
    (code + 16 * h.poison.toNat + 32 * invalid.toNat + 2 ^ 32 * (h.bytes % 2 ^ 32))).respond s.brd.resp

/-- The channel stops with a code other than OK (Table 19-3): ERR, ERR_CNT, STOPPED. -/
def State.reelFail (s : State) (c : ReelId) (code : Nat) : State :=
  let t := (((s.set (REEL.CH_STATUS_CODE c) code).on (REEL.CH_STATUS_ERR c)).inc REEL.CNT1_ERR_CNT).reelState c 3
  (((t.off (REEL.CH_CMD_STOP c)).off (REEL.CH_STATUS_WAIT_REQ c)).setRl c (fun _ => {})).reelFlight

/-- The descriptor ends with a code other than OK, which is written into it. -/
def State.reelEnd (s : State) (c : ReelId) (code : Nat) (invalid : Bool) : State :=
  (((s.reelWriteback c code invalid).set (REEL.CH_BYTES_BYTES c) (s.rl c).bytes).reelFail c code)

/-- A burst boundary (R399, R400): a pending power-down abort comes before a STOP; a paused channel becomes quiescent.
A descriptor whose bytes have all moved completes instead of stopping. -/
def State.reelBoundary (s : State) (c : ReelId) : State :=
  let h := s.rl c
  if !h.bursts.isEmpty then s
  else if h.desc.isEmpty then s.when (s.reelBusy c && h.paused) (·.reelState c 2)
  else if h.abort then
    ((s.inc REEL.CNT0_DOMAIN_ABORT_CNT).on PWR.STATUS_DOMAIN_ABORT).reelEnd c 5 false
  else if h.stop && decide (h.bytes < h.total) then s.reelEnd c 7 false
  else if h.paused then s.reelState c 2
  else s

/-- STOP (R399). -/
def State.reelStop (s : State) (c : ReelId) : State :=
  if s.reelBusy c then ((s.on (REEL.CH_CMD_STOP c)).setRl c (fun h => { h with stop := true })).reelBoundary c else s

/-- A descriptor completes with OK (R397): its status is written, and the chain goes on or ends. -/
def State.reelComplete (s : State) (c : ReelId) : State :=
  let h := s.rl c
  if !s.reelBusy c || h.desc.isEmpty || !h.bursts.isEmpty || decide (h.bytes < h.total) || (h.barrier && !h.confirmed) then s
  else
    let t := ((s.reelWriteback c 1 false).set (REEL.CH_STATUS_CODE c) 1).setIf h.irq (REEL.CH_STATUS_DONE c) 1
    let u := ((t.set (REEL.CH_BYTES_BYTES c) h.bytes).inc (REEL.CH_CNT_DESC_CNT c)).countEvent 0x101 0 1
    if h.isLast then (((u.reelState c 0).off (REEL.CH_CMD_STOP c)).off (REEL.CH_STATUS_WAIT_REQ c)).setRl c (fun _ => {})
    else (u.set (REEL.CH_DESC_ADDR c) h.next).setRl c (fun _ => { stop := h.stop, paused := h.paused })

/-- The barrier of a descriptor is confirmed (R397): every write has reached its target, the merge buffer is flushed. -/
def State.reelBarrier (s : State) (c : ReelId) : State :=
  let h := s.rl c
  if !s.reelBusy c || !h.barrier || h.desc.isEmpty || !h.bursts.isEmpty || decide (h.bytes < h.total) then s
  else s.flushAll.setRl c (fun h => { h with confirmed := true })

/-! ## Quiescence (R323, R400) -/

/-- What goes down: the named line lanes, or everything at Shelf entry. -/
inductive Domain where
  | lanes (l : List Lane)
  | all
deriving DecidableEq, Repr

/-- An address in the QDR-IV window. -/
def inQdr (a : Nat) : Bool := decide (0x20000000 ≤ a) && decide (a < 0x22400000)

/-- The channel touches the domain that goes down (R400): by a descriptor in progress with its offset table, or by the address of
the one it is to fetch. -/
def State.reelTouches (s : State) (c : ReelId) (d : Domain) : Bool :=
  let h := s.rl c
  s.reelBusy c &&
    (match d with
     | .lanes l => !h.desc.isEmpty && l.any (fun n => h.req == 4 + n.val)
     | .all => inQdr (s.get (REEL.CH_DESC_ADDR c)) ||
         (!h.desc.isEmpty && ((decide (4 ≤ h.req) && decide (h.req ≤ 0x0B)) || h.req == 1 || h.srcHost || h.dstHost || inQdr h.src ||
           inQdr h.dst || (h.mode == 2 && inQdr h.srcStride) || (!h.isLast && inQdr h.next))))

/-- What Reel is asked to quiesce for (R400). -/
def State.sleepDomain (s : State) : SleepKind → Domain
  | .nap k => .lanes (s.lanesOf k)
  | .doze => .lanes (List.finRange 8)
  | .shelf => .all

/-- A quiesce request, under way or granted, concerns the channel (R400). -/
def State.reelAsked (s : State) (c : ReelId) : Bool :=
  s.pwr.sleeps.any (fun q => (q.asked || q.granted) && s.reelTouches c (s.sleepDomain q.kind))

/-- The channels that touch the domain. -/
def State.reelSet (s : State) (d : Domain) : List ReelId := (List.finRange 8).filter (fun c => s.reelTouches c d)

/-- Reel is asked to quiesce: the channels concerned start no new burst (R400). -/
def State.reelQuiesce (s : State) (d : Domain) : State :=
  s.each (s.reelSet d) (fun c t => (t.setRl c (fun h => { h with paused := true })).reelBoundary c)

/-- Reel is quiescent: the bursts in progress of the channels concerned have completed. -/
def State.reelQuiet (s : State) (d : Domain) : Bool := (s.reelSet d).all (fun c => (s.rl c).bursts.isEmpty)

/-- A request is withdrawn: the channels that no other one concerns go on as if never paused (R400). -/
def State.reelRelease (s : State) : State :=
  s.each ((List.finRange 8).filter (fun c => (s.rl c).paused && !s.reelAsked c)) (fun c t =>
    let u := t.setRl c (fun h => { h with paused := false })
    if u.get (REEL.CH_STATUS_STATE c) = 2 then u.reelState c 1 else u)

/-- The channels concerned are aborted at their next burst boundary (R400). -/
def State.reelAbort (s : State) (d : Domain) : State :=
  s.each (s.reelSet d) (fun c t => (t.setRl c (fun h => { h with abort := true })).reelBoundary c)

/-- REEL_CMD.CNT_CLR (Table 19-4). -/
def State.reelCntClr (s : State) : State :=
  let t := (((s.off REEL.CNT0_PERIPH_ABORT_CNT).off REEL.CNT0_DOMAIN_ABORT_CNT).off REEL.CNT1_POISON_CNT).off REEL.CNT1_ERR_CNT
  t.each (List.range 8) (fun c u => (u.off (REEL.CH_CNT_DESC_CNT c)).off (REEL.CH_CNT_BURST_CNT c))

end Sys2Proof.Machine
end

