-- ==== Sys2Proof/Machine/PortOps.lean ====
section
/-!
DEFINITION. Ports (chapter 8): hold conditions, the transitions of Table 08-2, the hold-off, Nap and wake, and the lane
changes they bring.
-/

namespace Sys2Proof.Machine

open Sys2Proof

/-- A condition on every lane of a port, and on any lane. -/
def State.allLanes (s : State) (k : PortId) (p : Lane → Bool) : Bool := (s.lanesOf k).all p
def State.anyLane (s : State) (k : PortId) (p : Lane → Bool) : Bool := (s.lanesOf k).any p

/-- An operation on every lane of a port. -/
def State.onLanes (s : State) (k : PortId) (f : Lane → State → State) : State := s.each (s.lanesOf k) f

/-- An operation on every host lane of a port. -/
def State.onHosts (s : State) (k : PortId) (f : Host → State → State) : State :=
  s.each ((s.lanesOf k).flatMap s.hostsOf) f

/-! ## Hold conditions (Table 08-1) -/

/-- A lane's maps keep its port in DOWN: no map, a layout found invalid, or one that is invalid still, its flag having been
cleared (R65, Table 08-1). -/
def State.laneBad (s : State) (n : Lane) : Bool :=
  !s.flag (LN.GBX_MAP_MAP_VALID n) || s.flag (LN.EQ_EVENTS_TAP_LAYOUT_ERR n) || !s.layoutOk n

/-- The causes that force DOWN, with their DOWN_CAUSE. -/
def State.forceCause (s : State) (k : PortId) : Option Nat :=
  if s.anyLane k (fun n => s.bitOf SAF.STATUS_TXD_NOW n) then some 2
  else if s.flag SAF.STATUS_CLR_PIN_NOW then some 3
  else if s.anyLane k (fun n => s.bitOf SAF.STATUS_LATCH n) then some 4
  else if s.anyLane k (fun n => s.bitOf THM.STATUS_LASER_BAN n) then some 5
  else if s.flag CFG.BOOT_SAFE_BOOT || s.flag TST.STATUS_SAFE_HOLD then some 6
  else if s.anyLane k s.laneBad then some 7
  else none

/-- Calibration for a start is in progress on a lane of the port (bit 11). -/
def State.calibrating (s : State) (k : PortId) : Bool := s.anyLane k s.calBusy

/-- HOLD as it reads: bit 0 of the field is HOLD bit 4 (Table 08-1). -/
def State.hold (s : State) (k : PortId) : Nat :=
  (s.anyLane k (fun n => s.bitOf SAF.STATUS_TXD_NOW n)).toNat + 2 * s.get SAF.STATUS_CLR_PIN_NOW +
    4 * (s.anyLane k (fun n => s.bitOf SAF.STATUS_LATCH n)).toNat +
    8 * (s.anyLane k (fun n => s.bitOf THM.STATUS_LASER_BAN n)).toNat +
    16 * (s.flag CFG.BOOT_SAFE_BOOT || s.flag TST.STATUS_SAFE_HOLD).toNat +
    32 * (s.anyLane k s.laneBad).toNat +
    64 * (s.pt k).staged.toNat + 128 * (s.calibrating k).toNat

/-- Both host lanes of every line lane have AM_LOCK in direction 0, and the skew is within R25. -/
def State.hostsReady (s : State) (k : PortId) : Bool :=
  s.allLanes k (fun n => s.skewOk n && (s.hostsOf n).all (fun j => s.flag (LST.KP4_STATUS_AM_LOCK j 0)))

/-- Frame and superframe lock on every lane. -/
def State.locked (s : State) (k : PortId) : Bool :=
  s.allLanes k (fun n => s.flag (LN.FRM_STATUS_FRAME_LOCK n) && s.flag (LN.FRM_STATUS_SF_LOCK n))

/-- HOST_WAIT and HANDSHAKE as they read (Table 08-5). -/
def State.hostWait (s : State) (k : PortId) : Bool := s.pstate k == 2 && s.locked k && !s.hostsReady k
def State.handshake (s : State) (k : PortId) : Bool := (s.pt k).defined && s.handshook k

/-! ## Entries (R194) -/

/-- A port state is entered: PORT_CHG is flagged (EVT_PORT_CHG), and a TRAFFIC entry that waited for its boundary is over. -/
def State.pstateTo (s : State) (k : PortId) (st : Nat) : State :=
  if s.pstate k = st then s
  else ((s.set (PORT.STATUS_STATE k) st).setBit EVT.PORT_CHG_PORT_CHG k true).setPt k (fun p => { p with due := false })

/-- The handshake state of the port's lanes is cleared (R194), with the handshake messages that wait. -/
def State.hsClear (s : State) (k : PortId) : State :=
  s.onLanes k (fun n t => t.setLoc n (fun l =>
    { l with txq := l.txq.filter (fun m => m.type != 0x01 && m.type != 0x02)
             helloTag := none, helloAcked := false, helloMatch := false, hsDone := false, settled := false, caps := 0 }))

/-- The hold-off, the wake and a Nap entry of the port are over. -/
def State.portQuiet (s : State) (k : PortId) : State :=
  (s.off (PORT.STATUS_LOSHOLD_RUN k)).setPt k (fun p => { p with wake := none, napReq := false, retries := 0 })

/-- The states in which the port holds lock, steps and slots are left; a slew ends there, and its SWAP waits for the next
boundary (R117). -/
def State.leaveTraffic (s : State) (k : PortId) : State :=
  s.onLanes k (fun n t => ((t.dacCancel n).calLeave n).off (LN.TX_STATUS_SLEWING n))

/-- A lane whose clocks stop receives no longer: its slot is over, and what its receiver was recovering from or releasing
with it. -/
def State.rxStop (s : State) (n : Lane) : State :=
  let t := ((s.slotDrop n).off (LN.RX_STATUS_DCR_BUSY n)).off (LN.AGC_STATUS_COMP_ACTIVE n)
  t.setRx n (fun r => { r with comp := 0, handPend := false, abandPend := false, absSum := 0, absCnt := 0, blkCnt := 0,
                               block := none, handNow := false, stepFrom := none, gainWait := none })

/-- A line lane goes Off once its amp is 0: its slices are OFF (Table 02-9), its clocks stop, and it has no loss of signal. -/
def State.laneOff (s : State) (n : Lane) : State :=
  if (s.ln n).power = .off ∨ s.get (LN.TX_STATUS_AMP_STATE n) ≠ 0 then s
  else
    let t := (((s.swapReplace n).rxStop n).slicesAll n 5).kiteOff n
    ((((t.setLn n { t.ln n with power := .off }).tapStop n).pllStop (.tx n)).off (LN.RX_STATUS_LOS_NOW n)).alarmEnd 0x01 n

/-- A lane of a port in DOWN whose amp is 0 gives up its bias, and goes Off unless it calibrates (R194). -/
def State.laneDown (s : State) (n : Lane) : State :=
  if s.get (LN.TX_STATUS_AMP_STATE n) ≠ 0 then s
  else if s.calBusy n then s.biasClear n
  else (s.biasClear n).laneOff n

/-! ## Requests of sleep entries (R322 to R324) -/

/-- Change the power controller's state outside its registers. -/
def State.setPwr (s : State) (f : PwrSt → PwrSt) : State := { s with pwr := f s.pwr }

/-- The mailbox command that runs awaits this entry: LANE_NAP of a lane of the port, or SHELF (R324, R432). -/
def State.sleepMbx (s : State) : SleepKind → Bool
  | .nap k => s.mbxRuns 0x04 && s.portOf (Fin.ofNat 8 (s.arg 0)) == some k
  | .doze => false
  | .shelf => s.mbxRuns 0x0E

/-- The mailbox command that awaits this entry, if one does, completes. -/
def State.sleepTell (s : State) (k : SleepKind) (comp : Nat) : State := if s.sleepMbx k then s.mbxDone comp else s

/-- The request of an entry, if one is under way. -/
def State.sleepReq (s : State) (k : SleepKind) : Option SleepReq := s.pwr.sleeps.find? (fun q => q.kind == k)

/-- Change the request of an entry. -/
def State.setSleep (s : State) (k : SleepKind) (f : SleepReq → SleepReq) : State :=
  s.setPwr (fun p => { p with sleeps := p.sleeps.map (fun q => if q.kind == k then f q else q) })

/-- The request of an entry is no more. -/
def State.dropSleep (s : State) (k : SleepKind) : State :=
  s.setPwr (fun p => { p with sleeps := p.sleeps.filter (fun q => q.kind != k) })

/-- A Nap that is asked for, or under way, ends as its port enters DOWN, where none is accepted (R200): its users are
released, and a mailbox command that awaits it completes with BAD_STATE. -/
def State.napGone (s : State) (k : PortId) : State :=
  if (s.sleepReq (.nap k)).isNone then s
  else
    let t := (s.onLanes k (fun n u => u.setCal n (fun c => { c with quiesced := false }))).reelRelease
    (t.sleepTell (.nap k) 8).dropSleep (.nap k)

/-- Entry to DOWN (R194). DESIGN CHOICE (log 115): the PLLs of the port stop in order, TXPLLn on REFCLK first, and hold
nothing. -/
def State.portDown (s : State) (k : PortId) (cause : Nat) : State :=
  let t := (((s.leaveTraffic k).hsClear k).portQuiet k).napGone k
  let u := t.onLanes k (fun n u => ((((u.calAbort n).unlock n).eqStop n).pllMove (.tx n) .refclk).seqDemand n false)
  let v := (u.pstateTo k 0).set (PORT.STATUS_DOWN_CAUSE k) cause
  let w := (v.onHosts k (fun j x => x.hostOff j)).onLanes k (fun n x => x.laneDown n)
  (((w.off (PORT.CTRL_NAP k)).alarmEnd 0x04 k).alarmEnd 0x05 k).onLanes k (fun n x => x.alarmEnd 0x01 n)

/-- A proof test of lane `n` is due (R305). -/
def State.proofDue (s : State) (n : Lane) : State := s.setSf n (fun l => { l with due := true })

/-- Entry to LIGHT (R194): host lanes Active, handshake cleared, a proof test due on every lane (R305). A frame lock that is
given up takes the recovered line clock with it (R23). -/
def State.portLight (s : State) (k : PortId) : State :=
  let t := ((s.leaveTraffic k).hsClear k).portQuiet k
  let u := (t.onLanes k (fun n u =>
    ((if u.flag (LN.FRM_STATUS_FRAME_LOCK n) then u.lineClockLost n else u).unlock n).eqStop n)).pstateTo k 1
  (u.onHosts k (fun j v => v.hostOn j)).onLanes k (fun n v => v.proofDue n)

/-- The bias of a lane is at its operating point: away from the clear code, with nothing left in its queue. DESIGN CHOICE
(log 148): resident firmware's queue writes bring it there, and the spec gives it no code. -/
def State.biased (s : State) (n : Lane) : Bool := s.lit n && (s.ch (biasChan n)).queue.isEmpty

/-- In LIGHT resident firmware raises the modulation demand of each lane whose bias is at its operating point (R194). -/
def State.lightDemand (s : State) (k : PortId) : State :=
  s.onLanes k (fun n t => if (t.ln n).tx.seqDemand || !t.biased n then t else t.seqDemand n true)

/-- The port leaves DOWN: LAST_UP_DUR counts from here (Table 08-6). -/
def State.portLeave (s : State) (k : PortId) : State :=
  let t := s.onLanes k (fun n t => t.setCal n (fun c => { c with ready := false }))
  (t.setPt k (fun p => { p with upAt := s.now, reached := false })).portLight k

/-- The line-lane held fields take effect (Table 01-11). -/
def State.laneHeld (s : State) (n : Lane) : State :=
  (s.setLoc n (fun l => { l with scr := s.flag (LN.FRM_CTRL_SCR_EN n), beta := s.get (LN.FRM_CTRL_BETA n) })).setTx n
    (fun x => { x with pd := s.flag (LN.TX_CTRL_PD_EN n) })

/-- A lane enters ACQUIRE: latency class, peaking, held fields, effective mode. -/
def State.laneAcquire (s : State) (k : PortId) (n : Lane) : State :=
  let t := (s.setB (LN.EQ_STATUS_LAT_CLASS n) (s.pt k).twoPass).setRx n (fun r => { r with peak := s.get (AFE.AFE_PEAK_PEAK n) })
  (t.laneHeld n).modeNow n

/-- Entry to ACQUIRE (R194), with seeding under R158. -/
def State.portAcquire (s : State) (k : PortId) : State :=
  let t := (s.leaveTraffic k).off (PORT.STATUS_LOSHOLD_RUN k)
  (t.pstateTo k 2).onLanes k (fun n u => ((u.laneAcquire k n).eqStop n).seedRx n)

/-- A SWAP still pending slews from here: the port has come from a state in which it waited for its boundary (R117). -/
def State.slewPending (s : State) (k : PortId) : State :=
  s.onLanes k (fun n t => t.setIf (t.flag (LN.TX_STATUS_SWAP_PEND n)) (LN.TX_STATUS_SLEWING n) 1)

/-- Entry to TRAIN (R194): the handshake starts; the clean rule is judged afresh; a SWAP still pending slews (R117). -/
def State.portTrain (s : State) (k : PortId) : State :=
  let t := (s.pstateTo k 3).onLanes k (fun n t => t.setLoc n (fun l => { l with ruleFresh := false, ruleWin := false }))
  (t.onLanes k (fun n u => if u.shakes n && !(u.ln n).loc.hsDone then u.helloSend n else u)).slewPending k

/-- Entry to LOCKED: PARTNER_TMO runs from here. -/
def State.portLocked (s : State) (k : PortId) : State := (s.pstateTo k 4).setPt k (fun p => { p with retries := 0 })

/-- TRAFFIC or ONE_WAY is reached: LAST_UP_DUR if it is the first since DOWN (Table 08-2). -/
def State.portReached (s : State) (k : PortId) : State :=
  if (s.pt k).reached then s
  else (s.set (PORT.TIME_LAST_UP_DUR k) (min 0xFFFF (s.since (s.pt k).upAt))).setPt k (fun p => { p with reached := true })

/-- An offer in progress is cut short as the port enters TRAFFIC or ONE_WAY (R180). -/
def State.offersCut (s : State) (k : PortId) : State :=
  s.onHosts k (fun j t => t.offerCut j)

/-- Entry to TRAFFIC. -/
def State.portTraffic (s : State) (k : PortId) : State :=
  ((((s.pstateTo k 5).inc (PORT.CNT_UP_CNT k)).portReached k).offersCut k).alarmEnd 0x04 k

/-- Entry to ONE_WAY (R198). -/
def State.portOneWay (s : State) (k : PortId) : State :=
  (((((s.pstateTo k 6).on (PORT.STATUS_PARTNER_SILENT k)).alarm 0x04 k 0).portReached k).offersCut k)

/-! ## The clean rule and the hold-off (R196, R197) -/

/-- A lane meets the clean rule. -/
def State.laneClean (s : State) (n : Lane) : Bool :=
  let l := (s.ln n).loc
  l.ruleWin && (!l.hsDone || l.txcAge == 1024 || l.settled)

/-- A lane is dark: LOS_NOW = 1 or FRAME_LOCK = 0. -/
def State.laneDark (s : State) (n : Lane) : Bool :=
  s.flag (LN.RX_STATUS_LOS_NOW n) || !s.flag (LN.FRM_STATUS_FRAME_LOCK n)

/-- The trace record of a hold-off's start or end (Table 20-9). -/
def State.holdTrace (s : State) (k : PortId) (ev d : Nat) : State := s.traceRecord 2 k ev d

/-- The drop to LIGHT on loss of signal. -/
def State.losDrop (s : State) (k : PortId) : State := (s.inc (PORT.CNT_LOS_DROP_CNT k)).portLight k

/-- The hold-off starts while a lane is dark, and ends as every lane has recovered (R197). -/
def State.holdoff (s : State) (k : PortId) : State :=
  if !carries (s.pstate k) then s
  else if s.flag (PORT.STATUS_LOSHOLD_RUN k) then
    if s.anyLane k s.laneDark then s
    else
      let t := (s.off (PORT.STATUS_LOSHOLD_RUN k)).holdTrace k 2 (s.pstate k)
      if s.pstate k = 3 then t.onLanes k (fun n u => u.setLoc n (fun l => { l with ruleFresh := false, ruleWin := false }))
      else t
  else if s.anyLane k s.laneDark then
    let t := s.holdTrace k 1 (s.pstate k + ((s.lanesOf k).filter s.laneDark).foldl (fun a n => a + 2 ^ (8 + n.val)) 0)
    if s.get (PORT.CFG_LOS_HOLD k) = 0 then t.losDrop k else t.on (PORT.STATUS_LOSHOLD_RUN k)
  else s

/-- The hold-off expires: the port enters LIGHT, unless every lane has recovered (R197, R199). -/
def State.holdExpire (s : State) (k : PortId) : State :=
  if !s.flag (PORT.STATUS_LOSHOLD_RUN k) then s
  else if s.anyLane k s.laneDark then (s.holdTrace k 2 (1 + 0x10000)).losDrop k
  else s.holdoff k

/-! ## Leaving DOWN (R193) -/

/-- The exit from DOWN starts: the lanes become Active and calibrate; out of Doze the lane supplies are asked for first
(Table 15-2). -/
def State.portStart (s : State) (k : PortId) : State :=
  if s.flag THM.STATUS_TRIPPED then s
  else if s.pwr.dev = .run then s.onLanes k (fun n t => (t.laneOn n).calStart n false)
  else if s.pwr.dev = .doze ∧ s.pwr.laneStall = false then { s with pwr := { s.pwr with laneAsk := true } }
  else s

/-- A start that ends while the port may not leave DOWN is made again (R193): its lane goes Off. -/
def State.startLost (s : State) (k : PortId) : State :=
  s.onLanes k (fun n t => if (t.ln n).cal.ready then (t.setCal n (fun c => { c with ready := false })).laneDown n else t)

/-- Every lane of the port has finished its start. -/
def State.calDone (s : State) (k : PortId) : Bool := s.allLanes k (fun n => (s.ln n).cal.ready)

/-- A Shelf entry is under way (R319). -/
def State.shelving (s : State) : Bool := s.pwr.sleeps.any (fun q => q.kind == .shelf)

/-- The port may leave DOWN: UP = 1, no Shelf entry and no hold condition but a calibration in progress. -/
def State.mayLeave (s : State) (k : PortId) : Bool :=
  s.flag (PORT.CTRL_UP k) && !s.shelving && (s.forceCause k).isNone && !(s.pt k).staged &&
    s.allLanes k (fun n => s.get (LN.TX_STATUS_AMP_STATE n) == 0)

/-! ## Level-triggered transitions (Table 08-2) -/

/-- One transition of Table 08-2 that the present levels call for. -/
def State.portStep (s : State) (k : PortId) : State :=
  match s.pstate k with
  | 0 =>
    if !s.mayLeave k then s.startLost k
    else if s.calDone k then s.portLeave k
    else if s.calibrating k then s
    else s.portStart k
  | 1 =>
    let t := s.lightDemand k
    if t.allLanes k (fun n => t.get (LN.TX_STATUS_AMP_STATE n) == 2 && !t.flag (LN.RX_STATUS_LOS_NOW n)) then t.portAcquire k
    else t
  | 2 =>
    if (s.pt k).wake.isSome then s
    else if s.anyLane k (fun n => s.flag (LN.RX_STATUS_LOS_NOW n)) then s.losDrop k
    else if s.locked k && s.hostsReady k && !s.anyLane k (fun n => s.flag (PRBS.CTRL_GEN_EN (PrbsLane.line n).base)) then
      s.portTrain k
    else s
  | 3 =>
    let t := s.holdoff k
    if t.pstate k = 3 && t.allLanes k t.laneClean && !t.flag (PORT.STATUS_LOSHOLD_RUN k) then t.portLocked k else t
  | 4 => s.holdoff k
  | 5 => s.holdoff k
  | 6 => s.holdoff k
  | _ => s

/-- A port is judged on its present levels: a DOWN cause first (R199), then its transitions, as far as they carry. -/
def State.portEval (s : State) (k : PortId) : State :=
  if !(s.pt k).defined then s
  else
    let t := match s.forceCause k with
      | some c => if s.pstate k = 0 then s else s.portDown k c
      | none => s
    ((t.portStep k).portStep k).portStep k

/-- Every port is judged. -/
def State.portsEval (s : State) : State := s.each (List.finRange 8) (fun k t => t.portEval k)

/-- The port of a line lane is judged. -/
def State.evalLane (s : State) (n : Lane) : State := match s.portOf n with | some k => s.portEval k | none => s

/-- The port of a host lane is judged. -/
def State.evalHost (s : State) (j : Host) : State := match s.lineOf j with | some n => s.evalLane n | none => s

/-- UP = 0: the port goes to DOWN with cause 0x1 (R193). -/
def State.portStop (s : State) (k : PortId) : State :=
  let t := s.off (PORT.CTRL_UP k)
  if s.pstate k = 0 then t.onLanes k (fun n u => (u.calAbort n).laneDown n) else t.portDown k 1

/-- The completed 1 ms window of a lane is judged by its port (R196, Table 08-2): a failed codeword in LOCKED returns
the port to TRAIN, except during a hold-off, which keeps the state. -/
def State.portWindow (s : State) (n : Lane) (failed : Nat) : State :=
  let t := s.setLoc n (fun l => { l with ruleWin := l.ruleFresh && failed == 0, ruleFresh := true })
  match t.portOf n with
  | none => t
  | some k =>
    if t.pstate k = 4 && failed != 0 && !t.flag (PORT.STATUS_LOSHOLD_RUN k) then (t.portTrain k).setLoc n (fun l => { l with ruleFresh := true }) else t.portEval k

/-! ## Nap and wake (R200 to R202) -/

/-- Nap entry proceeds once its quiesce was granted: demand is withdrawn, and the port waits for amp = 0. -/
def State.napStart (s : State) (k : PortId) : State :=
  (s.setPt k (fun p => { p with napReq := true })).onLanes k (fun n t => (t.demandEval n).dacCancel n)

/-- Nap entry completes (R200): pending SWAPs are replaced before the snapshot (R117), T_NAP and PRE_NAP are recorded and
the fast clocks stop; the bring-up sequence demands modulation again as the wake raises it (R140, R201). DESIGN CHOICE (log 115): the PLLs stop in order, TXPLLn before its host lanes, and hold nothing. -/
def State.napCommit (s : State) (k : PortId) : State :=
  if !(s.pt k).napReq || !s.allLanes k (fun n => s.get (LN.TX_STATUS_AMP_STATE n) == 0) then s
  else
    let t := ((s.set (PORT.STATUS_PRE_NAP k) (s.pstate k)).pstateTo k 7).portQuiet k
    let u := t.onLanes k (fun n u =>
      let v := ((((u.swapReplace n).calLeave n).rxStop n).unlock n).eqStop n
      ((v.setLn n { v.ln n with power := .nap, tNap := v.laneTemp n }).setTx n (fun x => { x with seqDemand := false })).pllStop (.tx n))
    (u.onHosts k (fun j v => v.hostNap j)).onLanes k (fun n v => (v.alarmEnd 0x01 n).proofDue n)

/-- The lane's sensor reads within 2.0 °C of T_NAP. -/
def State.napTempOk (s : State) (n : Lane) : Bool := (s.laneTemp n - (s.ln n).tNap).natAbs ≤ 16

/-- A napping port wakes (R201, R202): fast where its state and temperature allow, else by a seeded start on each lane. -/
def State.wakeStart (s : State) (k : PortId) : State :=
  if s.pstate k ≠ 7 then s
  else
    let fast := (s.get (PORT.STATUS_PRE_NAP k) = 4 ∨ s.get (PORT.STATUS_PRE_NAP k) = 5 ∨ s.get (PORT.STATUS_PRE_NAP k) = 6) ∧
      s.allLanes k s.napTempOk = true
    let t := ((s.off (PORT.CTRL_NAP k)).pstateTo k 2).setPt k (fun p => { p with wake := some ⟨decide fast, false⟩ })
    let u := t.onLanes k (fun n u => u.setCal n (fun c => { c with quiesced := false }))
    if fast then u
    else u.onLanes k (fun n v => (v.laneOn n).calStart n true)

/-- The fast clocks run again (Table 08-3): lanes and host lanes are Active, demand is raised. A slow wake waits for its
lanes' starts, seeds the coefficient files, and continues from ACQUIRE where PRE_NAP was LIGHT, ACQUIRE or TRAIN: there the
wake ends, `us` microseconds after it began. -/
def State.clocksRun (s : State) (k : PortId) (us : Nat) : State :=
  match (s.pt k).wake with
  | none => s
  | some w =>
    if w.clocks || !(w.fast || s.calDone k) then s
    else
      let t := s.onLanes k (fun n t => (t.laneOn n).laneAcquire k n)
      let u := if w.fast then t else t.onLanes k (fun n u => (u.seedRx n).setCal n (fun c => { c with ready := false }))
      let v := (u.onHosts k (fun j x => x.hostWake j)).onLanes k (fun n x => x.seqDemand n true)
      if !w.fast && s.get (PORT.STATUS_PRE_NAP k) ≤ 3 then
        (v.setPt k (fun p => { p with wake := none })).set (PORT.TIME_LAST_WAKE_DUR k) (min 0xFFFF us)
      else v.setPt k (fun p => { p with wake := some { w with clocks := true } })

/-- A host-lane generator of the port is enabled (R186). -/
def State.hostGen (s : State) (k : PortId) : Bool :=
  ((s.lanesOf k).flatMap s.hostsOf).any (fun j => s.flag (PRBS.CTRL_GEN_EN (PrbsLane.host j).base))

/-- A waking port may go back to PRE_NAP: what keeps a port in ACQUIRE, or out of TRAFFIC, keeps it here too (R25, R89,
R186). ONE_WAY counts with TRAFFIC: neither accepts a host-lane generator. -/
def State.wakeFree (s : State) (k : PortId) : Bool :=
  s.locked k && s.hostsReady k && !s.anyLane k (fun n => s.flag (PRBS.CTRL_GEN_EN (PrbsLane.line n).base)) &&
    !(5 ≤ s.get (PORT.STATUS_PRE_NAP k) && s.hostGen k)

/-- 64 clean superframes on every lane: the port is back in PRE_NAP with its handshake retained (Table 08-3). -/
def State.wakeDone (s : State) (k : PortId) (us : Nat) : State :=
  match (s.pt k).wake with
  | none => s
  | some w =>
    if w.clocks && s.wakeFree k then
      let t := (s.setPt k (fun p => { p with wake := none })).set (PORT.TIME_LAST_WAKE_DUR k) (min 0xFFFF us)
      ((t.pstateTo k (s.get (PORT.STATUS_PRE_NAP k))).offersCut k).slewPending k
    else s

/-- WAKE_TMO is over, `us` microseconds after the wake began and `run` after WAKE_TMO started, which in a slow wake is the end
of ACQUIRE: the port enters LIGHT, clears its handshake and sets WAKE_SLOW (R201, R202). -/
def State.wakeLate (s : State) (k : PortId) (us run : Nat) : State :=
  match (s.pt k).wake with
  | none => s
  | some w =>
    if run < msUs 1 (s.get (PORT.CFG2_WAKE_TMO k)) || !(w.fast || (w.clocks && s.locked k)) then s
    else ((s.on (PORT.STATUS_WAKE_SLOW k)).set (PORT.TIME_LAST_WAKE_DUR k) (min 0xFFFF us)).portLight k

/-- PORTk_CMD.CNT_CLR (Table 08-4). -/
def State.portCntClr (s : State) (k : PortId) : State :=
  (((s.off (PORT.CNT_UP_CNT k)).off (PORT.CNT_RETRY_CNT k)).off (PORT.CNT_ACQ_FAIL_CNT k)).off (PORT.CNT_LOS_DROP_CNT k)

end Sys2Proof.Machine
end

