-- ==== Sys2Proof/Machine/IndOps.lean ====
section
/-!
DEFINITION. Data accesses through the indirect pairs of the lanes (R56, R86, R119, R133, R190, R365, R366): the slice
files, the coefficient files, the transmit banks and the host receive coefficients.
-/

namespace Sys2Proof.Machine

open Sys2Proof

/-- An indirect pair of a lane. -/
inductive Pair where
  | slc (n : Lane)
  | eqc (n : Lane)
  | txt (n : Lane)
  | rxc (j : Host)
deriving DecidableEq, Repr

/-- The ADDR and STRIDE fields of a pair, and the Bridle address of its data register. -/
def Pair.addr : Pair → Field
  | .slc n => LN.SLC_ADDR_ADDR n | .eqc n => LN.EQC_ADDR_ADDR n | .txt n => LN.TXT_ADDR_ADDR n | .rxc j => HL.RXC_ADDR_ADDR j
def Pair.stride : Pair → Field
  | .slc n => LN.SLC_ADDR_STRIDE n | .eqc n => LN.EQC_ADDR_STRIDE n | .txt n => LN.TXT_ADDR_STRIDE n
  | .rxc j => HL.RXC_ADDR_STRIDE j
def Pair.data : Pair → Field
  | .slc n => LN.SLC_DATA_DATA n | .eqc n => LN.EQC_DATA_DATA n | .txt n => LN.TXT_DATA_DATA n | .rxc j => HL.RXC_DATA_DATA j

/-- Where the words behind a pair stand in the register map. -/
def Pair.base : Pair → Nat
  | .slc n => 0x100000000 + 0x10000 * n.val
  | .eqc n => 0x100100000 + 0x10000 * n.val
  | .txt n => 0x100200000 + 0x10000 * n.val
  | .rxc j => 0x100300000 + 0x1000 * j.val

/-- The valid ranges of a pair (R56, R86, R133, R190). -/
def Pair.valid (a : Nat) : Pair → Bool
  | .slc _ => a ≤ 0x103F || (0x1100 ≤ a && a ≤ 0x1103)
  | .eqc _ => a ≤ 0x01BF || (0x0200 ≤ a && a ≤ 0x024F) || (0x0300 ≤ a && a ≤ 0x0307) || (0x0800 ≤ a && a ≤ 0x0813)
  | .txt _ => a ≤ 0x0023 || (0x0040 ≤ a && a ≤ 0x0063) || (0x0100 ≤ a && a ≤ 0x02FF) || (0x0300 ≤ a && a ≤ 0x031F)
  | .rxc _ => a ≤ 0x005F || (0x0100 ≤ a && a ≤ 0x010B)

/-- The lane behind a pair is in Nap or Off (R56). -/
def State.pairAsleep (s : State) : Pair → Bool
  | .slc n => (s.ln n).power != .active
  | .eqc n => (s.ln n).power != .active
  | .txt n => (s.ln n).power != .active
  | .rxc j => (s.hl j).power != .active

/-- A shadow word of the transmit banks (Table 05-9). -/
def isShadow (a : Nat) : Bool := (0x0040 ≤ a && a ≤ 0x0063) || (0x0200 ≤ a && a ≤ 0x02FF) || (0x0310 ≤ a && a ≤ 0x031F)

/-- The word is busy: a shadow word while SWAP_PEND = 1 (R119). -/
def State.pairBusy (s : State) (a : Nat) : Pair → Bool
  | .txt n => isShadow a && s.flag (LN.TX_STATUS_SWAP_PEND n)
  | _ => false

/-- Every field of a word takes its bits of a written value. -/
def State.wordSet (s : State) (fs : List Field) (v : Nat) : State := s.each fs (fun f t => t.set f (bits v f.lo f.w))

/-- A write of an indirect word takes effect by the rules of its unit: R41 for AFE_PEAK, R80 for coefficients, R116 for
the shadow banks, R173 for host coefficients; a read-only or unused word discards it. -/
def State.pairWrite (s : State) (a v : Nat) : Pair → State
  | .slc n => if a = 0x1100 then (s.set (AFE.AFE_PEAK_PEAK n) v).peakWritten n else s
  | .eqc n =>
    if a < 0x01C0 then s.coefWrite n (a / 4) (sext 12 v)
    else if a < 0x0250 then s.coefWrite n (128 + (a - 0x0200) / 4) (sext 10 v)
    else if a = 0x0300 then s.coefWrite n 192 (sext 10 v)
    else if a = 0x0304 then s.coefWrite n 193 (sext 10 v)
    else s
  | .txt n =>
    if isShadow a then (s.wordSet (fieldsAt ((Pair.txt n).base + a)) v).on (LN.TX_STATUS_SHADOW_DIRTY n) else s
  | .rxc j =>
    if a < 0x0060 then s.rxWrite j (a / 4) (sext 10 v) else s.rxWrite j (64 + (a - 0x0100) / 4) (sext 8 v)

/-- A data access through a pair by an initiator (R365): faults first, in the order of R362; then the access under its
word's type, and the advance. -/
def State.pairAccess (s : State) (i : Initiator) (p : Pair) (acc : DataAcc) : State :=
  let a := s.get (p.addr.forInit i.code) / 4 * 4
  let wr := acc.isWrite
  let fault (kind : Nat) : State := s.accessError i.code p.data.addr kind wr 4
  if !s.mayAccess i then s
  else if s.pairAsleep p || s.pairBusy a p then fault 5
  else if !p.valid a then fault 8
  else
    match acc with
    | .write v => (((s.pairWrite a v.toNat p).parityRight (p.base + a)).advance i.code p.addr p.stride).respond .done
    | _ =>
      if acc.ecc ≠ .clean ∨ s.brd.parityBad.contains (p.base + a) = true then
        (s.pairParity (p.base + a) p.data.addr).accessError i.code p.data.addr 9 false 4
      else (s.advance i.code p.addr p.stride).respond (.data (s.wordAt (p.base + a)))

end Sys2Proof.Machine
end

