-- ==== Sys2Proof/Machine/BiasDacs.lean ====
section
/-!
DEFINITION. Commands of the bias and heater DACs (chapter 10).
-/

namespace Sys2Proof.Machine

open Sys2Proof

/-- QDATA_WRITE (R229, R233). -/
def execQdataWrite (c : Chan) (code : BitVec 16) (s : State) : Out := .next (s.whenAwake (fun s => s.qdata c code.toNat))

/-- BDA_SAMPLE_TICK (R229). -/
def execBdaSampleTick (s : State) : Out := .next s.bdaTick.portsEval

/-- DEGLITCH_END (R231). -/
def execDeglitchEnd (c : Chan) (s : State) : Out := .next (s.deglitched c)

/-- RANGE_CHANGE (R235). -/
def execRangeChange (c : Chan) (v : Fin 2) (s : State) : Out := .next (s.whenAwake (fun s => s.rangeWrite c v.val))

/-- BDA_FLUSH (Table 10-4). A QDATA write that falls in the same cycle is discarded and counted nowhere (R238). -/
def execBdaFlush (c : Chan) (_write : Option (BitVec 16)) (s : State) : Out := .next (s.whenAwake (fun s => s.bdaFlush c))

/-- BDA_CNT_CLR (Table 10-4). -/
def execBdaCntClr (c : Chan) (s : State) : Out := .next (s.whenAwake (fun s => s.bdaCntClr c))

end Sys2Proof.Machine
end

