-- ==== Sys2Proof/Machine/TxPath.lean ====
section
/-!
DEFINITION. What a line lane sends in a beat: frame bits from the host streams and the superframe, mapping, shaping, the
ramp and the kite modulation (R90 to R92, R97, R98, R100, R111 to R114, R121, R123).
-/

namespace Sys2Proof.Machine

open Sys2Proof

/-- The lane transmits frames: LIGHT, ACQUIRE, TRAIN, LOCKED, TRAFFIC and ONE_WAY (R98, R127). -/
def State.sendsFrames (s : State) (n : Lane) : Bool := 1 ≤ s.lstate n && s.lstate n ≤ 6 && decide ((s.ln n).power = .active)

/-- The host lane's slots carry data: the port is in TRAFFIC or ONE_WAY, and the lane has AM_LOCK in direction 0 (R98). -/
def State.hostFills (s : State) (n : Lane) (j : Host) : Bool :=
  (s.lstate n == 5 || s.lstate n == 6) && s.flag (LST.KP4_STATUS_AM_LOCK j 0)

/-- The RS symbols of a host lane for the next block, in order of their reception; missing ones are zeros (R90, R98). -/
def State.hostSlots (s : State) (n : Lane) (j : Host) : List Nat := if s.hostFills n j then (s.hl j).up.take 6 else []

/-- The gearbox gives up the symbols of a block, also where zeros fill its slots. -/
def State.hostTaken (s : State) (j : Host) : State := s.setHl j (fun h => { h with up := h.up.drop 6 })

/-- The frame bits that are sent next: a scrambled codeword of the block, after the pad bits where it is the first of its
frame: the frame's share of the superframe (R92, R97, R100). -/
def State.txBits (s : State) (n : Lane) : List Bool :=
  let x := (s.ln n).tx
  let pads := if x.cw = 0 then
    (List.range 10).map (fun k => (sfBits (s.ln n).loc.sent).getD (10 * x.frm + k) false) else []
  pads ++ scramble (s.ln n).loc.scr x.cw (encodeInner (blockBits (s.hostSlots n (s.hostA n)) (s.hostSlots n (s.hostB n))))

/-- The level indices that are sent next: a line-lane generator replaces the frame bit stream (R111, R185). -/
def State.txLevels (s : State) (n : Lane) : List Nat :=
  if s.flag (PRBS.CTRL_GEN_EN (PrbsLane.line n).base) then s.genLevels (.line n) (if (s.ln n).tx.cw = 0 then 69 else 64)
  else grayMap (s.txBits n)

/-- The kite modulation m of the present beat on the DAC path, as its numerator over 1000 · 2^15 · 3,544,921,875: DEPTH times
the waveform, interpolated between the present sample and the next (R123, R210). -/
def State.kiteM (s : State) (n : Lane) : Int :=
  let k := s.kl n
  let at2 : Int × Int := match k.tx with
    | some t =>
      let qs := s.kiteInputs n t
      let before := (qs.take k.done).reverse.take 30
      let ws := s.kiteOut n before (qs.drop k.done |>.take 2)
      (ws.getD 0 0, ws.getD 1 0)
    | none =>
      let ws := s.kiteOut n k.fade [0, 0]
      (ws.getD 0 0, ws.getD 1 0)
  if s.flag (KL.STATUS_TX_PATH n) then 0
  else s.kiteDepth n * (kiteClamp at2.1 * (3544921875 - k.phase) + kiteClamp at2.2 * k.phase)

/-- The denominator of `kiteM`. -/
def kiteDen : Nat := 1000 * 2 ^ 15 * 3544921875

/-- A beat passes for the kite transmitter: its samples follow one another at 2.048 MS/s (R123, R207). -/
def State.kiteBeat (s : State) (n : Lane) : State :=
  let k := s.kl n
  if k.tx.isNone && k.fade.isEmpty then s
  else if k.phase + 2048000 < 3544921875 then s.setKl n (fun x => { x with phase := x.phase + 2048000 })
  else
    match k.tx with
    | some t =>
      let qs := s.kiteInputs n t
      if k.done + 1 < qs.length then
        (s.kiteSent n (s.kiteOut n ((qs.take k.done).reverse.take 30) (qs.drop k.done |>.take 1))).setKl n (fun x =>
          { x with done := x.done + 1, phase := x.phase + 2048000 - 3544921875 })
      else s
    | none => s.setKl n (fun x => { x with fade := (0 :: x.fade).take 30 |>.reverse.dropWhile (· == 0) |>.reverse,
                                           phase := x.phase + 2048000 - 3544921875 })

/-- The DAC code before its clamp of the symbol two places before the newest of `h` (R112 to R114): tap t meets the symbol
a[k + 2 - t], and the entry is that of the symbol and its neighbours, 0 with pre-distortion off. -/
def State.txCode (s : State) (n : Lane) (fir : List Int) (m : Int) (h : List Nat) : Int :=
  let e := if (s.ln n).tx.pd then s.geti (TXT.PDA_E_ACT n (pdIndex (h.getD 3 0) (h.getD 2 0) (h.getD 1 0))) else 0
  dacRaw fir ((h.take 9).map symbolValue) e (s.ln n).tx.amp m kiteDen

/-- The codes of new symbols, oldest first, each before its clamp, after the symbols `h`. -/
def State.txCodes (s : State) (n : Lane) (fir : List Int) (m : Int) (h new : List Nat) : List Int :=
  match new with
  | [] => []
  | l :: r => s.txCode n fir m ((l :: h).take 16) :: s.txCodes n fir m ((l :: h).take 16) r

/-- A beat in which frames are sent: the next codeword's symbols go out, a clamped code is counted (R114), and the frame
and superframe positions move on. -/
def State.txFrames (s : State) (n : Lane) : State :=
  if !s.sendsFrames n then s
  else
    let new := s.txLevels n
    let h := (s.ln n).tx.syms
    let raw := s.txCodes n (s.firOf n false) (s.kiteM n) h new
    let clips := (raw.filter (fun c => c != clamp (-127) 127 c)).length
    let t := if s.flag (PRBS.CTRL_GEN_EN (PrbsLane.line n).base) then s.genSent (.line n) new.length
      else s.each (s.hostsOf n) (fun j t => t.hostTaken j)
    let u := t.setTx n (fun x =>
      { x with syms := (new.reverse ++ x.syms).take 16, codes := raw.map (clamp (-127) 127)
               cw := (x.cw + 1) % 85, frm := if x.cw = 84 then (x.frm + 1) % 64 else x.frm })
    if clips = 0 then u else (u.on (LN.TX_STATUS_CLIP n)).incBy (LN.TX_CLIP_CNT_CLIP_CNT n) clips

/-- A beat of the transmitter: what it sends, then amp, which moves in every state of the port (R121), and the kite
modulation (R123). -/
def State.txBeat (s : State) (n : Lane) : State := ((s.txFrames n).ampMove n 1).kiteBeat n

end Sys2Proof.Machine
end

