-- ==== Sys2Proof/Machine/HostPath.lean ====
section
/-!
DEFINITION. The host lanes' data: what a receiver makes of its ADC codes (R168, R170, R171), the gearbox (R24, R87, R89), the
RS(544,514) decoding of the KP4 monitors (R88), and what a host transmitter sends (R168, R174, R177, R184).
-/

namespace Sys2Proof.Machine

open Sys2Proof

/-! ## The receiver (R169 to R171) -/

/-- A host beat in progress: the codes and decisions before the next symbol, newest first, the votes so far, the errors and
the decisions made, newest first. -/
structure HostRun where
  adc : List Int
  dec : List Int
  votes : List Int
  errs : List Nat
  out : List Int
deriving DecidableEq, Repr

/-- One more code: the symbol four before it is decided (R170), and votes with its error and its regressors (R171). -/
def HostRun.take (f b : List Int) (r : HostRun) (x : Int) : HostRun :=
  let xs := (x :: r.adc).take 24
  let z := hostZ f xs b r.dec
  let e := hostError z
  let a := hostDecision z
  let regs := (xs ++ List.replicate (24 - xs.length) 0) ++ ((r.dec ++ List.replicate (3 - r.dec.length) 0).map (fun d => -d))
  { adc := xs, dec := (a :: r.dec).take 3, votes := (r.votes.zip regs).map (fun p => p.1 + sgn e * sgn p.2),
    errs := e.natAbs :: r.errs, out := a :: r.out }

/-- The level index of a symbol value (Table 05-1). -/
def levelIndex (a : Int) : Nat := ((a + 3) / 2).toNat

/-- The removal of 1/(1+D) mod 4 precoding: each level index gains the one before it (R168). -/
def unprecode (before : Nat) (ls : List Nat) : List Nat :=
  match ls with
  | [] => []
  | l :: r => (l + before) % 4 :: unprecode l r

/-- 1/(1+D) mod 4 precoding after the symbol `before` (R168). -/
def precode (before : Nat) (ls : List Nat) : List Nat :=
  match ls with
  | [] => []
  | l :: r => (l + 4 - before % 4) % 4 :: precode ((l + 4 - before % 4) % 4) r

/-- The bits of level indices by the Gray code of Table 05-1, the most significant first (R168). -/
def grayUnmap (ls : List Nat) : List Bool :=
  ls.flatMap (fun l => match l with | 0 => [false, false] | 1 => [false, true] | 2 => [true, true] | _ => [true, false])

/-- One host beat of the receiver (R171): up to 32 codes are decided with the coefficients as they stand, then the votes act.
The level indices decided come back with the state, oldest first. RX_INV inverts the codes. -/
def State.hostTake (s : State) (j : Host) (xs : List Int) : State × List Nat :=
  let h := s.hl j
  let f := (List.range 24).map (fun t => s.geti (RXC.FFE_F j t))
  let b := (List.range 3).map (fun t => s.geti (RXC.DFE_B j t))
  let r := (xs.map (fun x => clamp (-31) 31 (if h.rxInv then -x else x))).foldl (HostRun.take f b) ⟨h.adc, h.dec, List.replicate 27 0, [], []⟩
  let t := s.setHl j (fun h => { h with adc := r.adc, dec := r.dec, errs := (r.errs ++ h.errs).take 4096 })
  let votes := (r.votes.zip (List.range 27)).map (fun p => (if p.2 < 24 then p.2 else p.2 + 40, p.1))
  (t.hostBeat j votes, r.out.reverse.map levelIndex)

/-- MSE_EST follows (Table 07-6): the mean error magnitude in 1/8 output unit, rounded as the spec leaves open. -/
def State.mseShow (s : State) (j : Host) : State :=
  let es := (s.hl j).errs
  if es.isEmpty then s
  else (s.set (HL.RX_STATUS_MSE_EST j) (min 255 (s.quot 17 ((es.foldl (· + ·) 0 : Nat) : Int) (2 * es.length)).toNat)).drew

/-- The codes of a host receiver: decided beat by beat; the lane's checker sees the decisions (R185). -/
def State.hostReceive (s : State) (j : Host) (xs : List Int) : State × List Nat :=
  let r := (bitGroups 32 xs.length xs).foldl (fun (a : State × List Nat) c =>
    let q := a.1.hostTake j c
    (q.1, a.2 ++ q.2)) (s, [])
  (((r.1.mseShow j).prbsFeed (.host j) (prbsBitsOf (s.get (PRBS.CTRL_CHK_PAT (PrbsLane.host j).base)) r.2)), r.2)

/-! ## The gearbox (R24, R87, R89) -/

/-- The RS symbols of an elastic buffer: 4,096 bits (chapter 1), and those of one codeword that arrives. -/
def gearDepth : Nat := 409 + 544

/-- Received bits pass the direction-0 monitor and become RS symbols at the boundaries that it has located; the gearbox takes
them (R87 to R89). -/
def State.gearTake (s : State) (j : Host) (bs : List Bool) : State :=
  if !s.flag (LST.KP4_STATUS_AM_LOCK j 0) then (s.setHl j (fun h => { h with part := [] })).kp4Feed j 0 bs
  else
    let all := (s.hl j).part ++ bs
    let k := all.length / 10
    let new := (bitGroups 10 k (all.take (10 * k))).map rsSymbol
    (s.setHl j (fun h => { h with part := all.drop (10 * k)
                                  up := (h.up ++ new).drop (h.up.length + k - gearDepth) })).kp4Feed j 0 bs

/-- Both elastic buffers of a line lane are recentred (R24): symbols beyond the centre are lost, and missing ones are filled
with free values. -/
def State.gearCentre (s : State) (j : Host) : State :=
  let t := s.each (List.range (204 - (s.hl j).up.length)) (fun _ t =>
    (t.setHl j (fun h => { h with up := t.drawn 18 10 :: h.up })).drew)
  t.setHl j (fun h => { h with up := h.up.drop (h.up.length - 204) })

/-- GBX_SLIP: both buffers of the line lane are recentred, and the record is made (R24). -/
def State.gearSlip (s : State) (n : Lane) : State := (s.each (s.hostsOf n) (fun j t => t.gearCentre j)).gbxSlip n

/-! ## RS(544,514) (R88) -/

/-- Multiplication by x in GF(2^10) with x^10 + x^3 + 1. -/
def gfX (a : Nat) : Nat := if 512 ≤ a then (2 * a) ^^^ 1033 else 2 * a

/-- The product of two elements: `k` bits of `b` are left. -/
def gfMulFrom (k a b : Nat) : Nat :=
  match k with
  | 0 => 0
  | k + 1 => (if b % 2 = 1 then a else 0) ^^^ gfMulFrom k (gfX a) (b / 2)
def gfMul (a b : Nat) : Nat := if a = 0 ∨ b = 0 then 0 else gfMulFrom 10 a b

/-- A power of the primitive element, and the inverse: the 1,022nd power. -/
def gfAlpha (k : Nat) : Nat :=
  match k with
  | 0 => 1
  | k + 1 => gfX (gfAlpha k)
def gfInv (a : Nat) : Nat := (List.range 8).foldl (fun r _ => gfMul (gfMul r r) a) a |> fun r => gfMul r r

/-- The syndromes of a received codeword, its first symbol at the highest degree: the values at alpha^0 to alpha^29. -/
def rsSyndromes (c : List Nat) : List Nat :=
  (List.range 30).map (fun i => c.foldl (fun a x => gfMul a (gfAlpha i) ^^^ x) 0)

/-- The state of the search for the shortest error locator (Berlekamp and Massey). -/
structure RsLocator where
  sigma : List Nat
  prev : List Nat
  len : Nat
  gap : Nat
  disc : Nat
deriving DecidableEq, Repr

/-- The sum of two polynomials, lowest degree first. -/
def gfAdd (a b : List Nat) : List Nat := (List.range (max a.length b.length)).map (fun k => a.getD k 0 ^^^ b.getD k 0)

/-- One step, at syndrome `k`. -/
def RsLocator.step (syn : List Nat) (r : RsLocator) (k : Nat) : RsLocator :=
  let d := (List.range (r.len + 1)).foldl (fun a i => a ^^^ gfMul (r.sigma.getD i 0) (if i ≤ k then syn.getD (k - i) 0 else 0)) 0
  if d = 0 then { r with gap := r.gap + 1 }
  else
    let q := gfMul d (gfInv r.disc)
    let s := gfAdd r.sigma (List.replicate r.gap 0 ++ r.prev.map (gfMul q))
    if 2 * r.len ≤ k then { sigma := s, prev := r.sigma, len := k + 1 - r.len, gap := 1, disc := d }
    else { r with sigma := s, gap := r.gap + 1 }

/-- The positions of a codeword of 544 symbols at which an error locator vanishes. -/
def rsRoots (sigma : List Nat) : Nat :=
  (List.range 544).countP (fun p => sigma.reverse.foldl (fun a x => gfMul a (gfAlpha ((1023 - p) % 1023)) ^^^ x) 0 == 0)

/-- The symbol errors that bounded-distance decoding finds in a codeword: 0 to 15, or 16 where it fails (R88). -/
def rsErrors (c : List Nat) : Nat :=
  let syn := rsSyndromes c
  if syn.all (· == 0) then 0
  else
    let r := (List.range 30).foldl (RsLocator.step syn) ⟨[1], [1], 0, 1, 1⟩
    if r.len ≤ 15 ∧ rsRoots r.sigma = r.len then r.len else 16

/-- The codewords of a monitor that are complete are decoded for counting (R88). -/
def State.kp4Count (s : State) (j : Host) (d : Dir) : State :=
  (s.setKp4 j d (fun q => { q with words := [] })).each ((s.hl j).kp4.get d).words (fun w t => t.kp4Codeword j d (rsErrors w))

/-! ## The transmitter (R168, R174, R177) -/

/-- The level indices of `k` symbols of the source in use before precoding, and whether precoding applies (R168, R177, R184):
none for training frames, whose content the spec leaves to IEEE 802.3, and for a squelched output. -/
def State.hostLevels (s : State) (j : Host) (k : Nat) : List Nat × Bool :=
  let h := s.hl j
  let stream := grayMap (h.down.flatMap rsBits)
  if h.power ≠ .active ∨ s.flag (HL.TX_CTRL_TX_EN j) = false then ([], false)
  else match s.get (HL.TX_STATUS_SOURCE j) with
    | 0 => ([], false)
    | 1 => (stream, true)
    | 3 => (s.genLevels (.host j) k, false)
    | _ => match s.get (HL.TX_CTRL_FILL j) with
      | 0 => (prbsLevels 6 (prbsRun 6 (2 * k) h.fill).1, true)
      | 1 => ([], false)
      | _ => (stream, true)

/-- The FIR sums of new symbols after the symbols `h`, oldest first: tap c(i) meets a[k - i] (R174). -/
def hostSums (c : List Int) (h new : List Nat) : List Int :=
  match new with
  | [] => []
  | l :: r => (c.zip ((l :: h).map symbolValue)).foldl (fun x p => x + p.1 * p.2) 0 :: hostSums c ((l :: h).take 6) r

/-- The transmitter sends for as long as the gearbox's symbols of its stream last: they leave the gearbox, whatever source is
in use, and the FIR sums of what is sent are held; TX_INV inverts each level. -/
def State.hostSend (s : State) (j : Host) : State :=
  let h := s.hl j
  let k := 5 * h.down.length
  let r := s.hostLevels j k
  let ls := if r.2 && s.flag (HL.TRN_STATUS_PRECODE_TX j) then precode h.pre r.1 else r.1
  let out := ls.map (fun l => if h.txInv then 3 - l else l)
  let t := if s.get (HL.TX_STATUS_SOURCE j) = 3 ∧ h.power = .active then s.genSent (.host j) k else s
  t.setHl j (fun h => { h with down := [], pre := ls.getLastD h.pre, fill := (prbsRun 6 (2 * k) h.fill).2
                               syms := (out.reverse ++ h.syms).take 6, sums := hostSums (s.actCoefs j) h.syms out })

end Sys2Proof.Machine
end

