-- ==== Sys2Proof/Machine/HostLanes.lean ====
section
/-!
DEFINITION. Commands of the host lanes, link training and the PRBS blocks (chapter 7).
-/

namespace Sys2Proof.Machine

open Sys2Proof

/-- SD_ASSERT (R172). -/
def execSdAssert (j : Host) (mv : BitVec 16) (s : State) : Out := .next (s.sdRise j mv.toNat)

/-- SD_DEASSERT (R172). -/
def execSdDeassert (j : Host) (mv : BitVec 16) (s : State) : Out := .next (s.sdFall j mv.toNat)

/-- CDR_LOCK (R172, R23). -/
def execCdrLock (j : Host) (s : State) : Out := .next (s.cdrLock j)

/-- CDR_LOSS (R172). -/
def execCdrLoss (j : Host) (s : State) : Out := .next (s.cdrLoss j)

/-- PRESET_WRITE (R175): the second word of preset `k + 1`. -/
def execPresetWrite (j : Host) (k : Fin 5) (w : Word) (s : State) : Out := .next (s.whenAwake (fun s => s.setSecond j (k.val + 1) w.toNat))

/-- TX_MAN_WRITE (R176). -/
def execTxManWrite (j : Host) (w : Word) (s : State) : Out := .next (s.whenAwake (fun s => s.setSecond j 0 w.toNat))

/-- TX_COEF_SLEW_STEP (R176): a step of the coefficients, or one of the amplitude. -/
def execTxCoefSlewStep (j : Host) (amp : Bool) (s : State) : Out :=
  .next (if (s.hl j).power = .active ∧ s.hostCarries j = true then (if amp then s.ampStep j else s.actStep j) else s)

/-- TX_SOURCE_CHANGE (R177). -/
def execTxSourceChange (j : Host) (s : State) : Out :=
  .next (if (s.hl j).power = .active then s.sourceNow j else s)

/-- TRAINING_FRAME_RECEIVED (R178, R179): its codes adapt the receiver and give MSE_EST (R171). -/
def execTrainingFrameReceived (j : Host) (ready confirm : Bool) (xs : List (BitVec 6)) (s : State) : Out :=
  .next (if (s.hl j).power = .active then (s.hostReceive j (xs.map BitVec.toInt)).1.trnFrame j ready confirm else s)

/-- TRAINING_REQUEST (R178). -/
def execTrainingRequest (j : Host) (req : TrnReq) (s : State) : Out := .next (s.trnRequest j req)

/-- The lane trains: its training state is TRAINING, and it is not asleep (R179, R182). -/
def State.trains (s : State) (j : Host) : Bool := decide ((s.hl j).power = .active) && s.get (HL.TRN_STATUS_STATE j) == 2

/-- NO_PARTNER_TMO, `us` after the entry to TRAINING (R179). -/
def execNoPartnerTmo (j : Host) (us : Nat) (s : State) : Out :=
  .next (if s.trains j = true ∧ (s.hl j).noTmo = true ∧ msUs 10 (s.get (HL.TRN_CFG_NO_PARTNER_TMO j)) ≤ us then s.enterFallback j else s)

/-- Training completes: DATA, with the peaking the adaptation has reached (R169, R179). -/
def State.trained (s : State) (j : Host) (ctle : Nat) : State :=
  let dur := match (s.hl j).firstAns with | some a => s.since a | none => 0
  let t := ((s.on (HL.TRN_STATUS_TRAIN_DONE j)).inc (HL.TRN_CNT_DONE_CNT j)).set (HL.TRN_TIME_LAST_DUR j) (min 0xFFFF dur)
  (t.setIf (s.flag (HL.RX_CTRL_CTLE_AUTO j)) (HL.RX_STATUS_CTLE_EFF j) ctle).enterData j

/-- READY_HOLD_END (R179). -/
def execReadyHoldEnd (j : Host) (ctle : Fin 16) (s : State) : Out :=
  .next (if s.trains j = true ∧ (s.hl j).readyHold = true then s.trained j ctle.val else s)

/-- TRAIN_MAX_EXPIRY, `us` after the first answer (R179): WAIT_SD, held for the restart hold-off. TRAIN_MAX is in units of
10 ms. -/
def execTrainMaxExpiry (j : Host) (us : Nat) (s : State) : Out :=
  .next (if s.trains j = true ∧ (s.hl j).firstAns.isSome = true ∧
      10 * msUs 1 (s.get (HL.TRN_CFG_TRAIN_MAX j)) ≤ us then
    (((s.on (HL.TRN_STATUS_TRAIN_FAIL j)).inc (HL.TRN_CNT_FAIL_CNT j)).waitSd j).setHl j (fun h => { h with restart := true })
    else s)

/-- RESTART_HOLDOFF_END (R179). -/
def execRestartHoldoffEnd (j : Host) (s : State) : Out :=
  .next (if (s.hl j).power = .active ∧ s.get (HL.TRN_STATUS_STATE j) = 1 ∧ (s.hl j).restart = true then
    let t := s.setHl j (fun h => { h with restart := false })
    if s.flag (HL.RX_STATUS_SD_NOW j) then t.enterTraining j else t
    else s)

/-- An offer may start: FALLBACK on an Active lane, and not in TRAFFIC or ONE_WAY unless OFFER_IN_TRAFFIC = 1 (R180). -/
def State.mayOffer (s : State) (j : Host) : Bool :=
  s.get (HL.TRN_STATUS_STATE j) == 3 && decide ((s.hl j).power = .active) &&
    (s.flag (HL.TRN_CTRL_OFFER_IN_TRAFFIC j) || !(s.hstate j == 5 || s.hstate j == 6))

/-- OFFER_START, `us` after the entry to FALLBACK or the offer before (R180). -/
def execOfferStart (j : Host) (us : Nat) (s : State) : Out :=
  .next (if s.mayOffer j && decide (msUs 10 (s.get (HL.TRN_CFG_OFFER_INT j)) ≤ us) then (s.setHl j (fun h => { h with offer := true })).sourceNow j else s)

/-- OFFER_END, `us` after the offer's start (R180). -/
def execOfferEnd (j : Host) (us : Nat) (s : State) : Out :=
  .next (if (s.hl j).offer && decide ((s.hl j).power = .active) && decide (msUs 1 (s.get (HL.TRN_CFG2_OFFER_WIN j)) ≤ us) then (s.setHl j (fun h => { h with offer := false })).sourceNow j else s)

/-- RETRAIN: ignored in OFF and WAIT_SD (Table 07-6). -/
def State.retrain (s : State) (j : Host) : State :=
  if (s.hl j).power = .active ∧ 2 ≤ s.get (HL.TRN_STATUS_STATE j) then s.trnStart j else s

/-- RETRAIN (Table 07-6). -/
def execRetrain (j : Host) (s : State) : Out := .next (s.whenAwake (fun s => s.retrain j))

/-- HL_CNT_CLR (Table 07-6). -/
def execHlCntClr (j : Host) (s : State) : Out := .next (s.whenAwake (fun s => s.hostCntClr j))

/-- GEN_EN (R186). -/
def execGenEn (l : PrbsLane) (s : State) : Out := .next (s.whenAwake (fun s => s.genEnable l))

/-- CHK_LOCK (R187): the checker sees the bits received since it last saw any. -/
def execChkLock (l : PrbsLane) (bs : List Bool) (s : State) : Out := .next (s.prbsFeed l bs)

/-- CHK_LOCK_LOSS (R187): the same on bits that bring a block of 1,024 to its end. -/
def execChkLockLoss (l : PrbsLane) (bs : List Bool) (s : State) : Out := .next (s.prbsFeed l bs)

/-- PRBS_LATCH (R188): the bits checked since the last count, then the copy. -/
def execPrbsLatch (l : PrbsLane) (bs : List Bool) (s : State) : Out := .next (s.whenAwake (fun s => (s.prbsFeed l bs).prbsLatch l))

/-- PRBS_CLR (R188). -/
def execPrbsClr (l : PrbsLane) (s : State) : Out := .next (s.whenAwake (fun s => s.prbsClear l))

/-- INJECT: the next bit of a running generator is inverted, and the command bit reads 1 until it is sent (R188,
Table 07-11). -/
def State.prbsInject (s : State) (l : PrbsLane) : State :=
  if s.flag (PRBS.CTRL_GEN_EN l.base) then (s.setPrbs l (fun p => { p with inject := true })).on (PRBS.CMD_INJECT l.base) else s

/-- PRBS_INJECT (R188). -/
def execPrbsInject (l : PrbsLane) (s : State) : Out := .next (s.whenAwake (fun s => s.prbsInject l))

/-- FALLBACK_CTLE_HOLD (R169). -/
def execFallbackCtleHold (j : Host) (peak : Fin 16) (s : State) : Out :=
  .next (if (s.hl j).power = .active ∧ s.get (HL.TRN_STATUS_STATE j) = 3 ∧ s.flag (HL.RX_CTRL_CTLE_AUTO j) = true ∧ (s.hl j).ctleHeld = false then
    (s.set (HL.RX_STATUS_CTLE_EFF j) peak.val).setHl j (fun h => { h with ctleHeld := true })
    else s)

end Sys2Proof.Machine
end

