-- ==== Sys2Proof/Machine/SndOps.lean ====
section
/-!
DEFINITION. The monitoring converter (chapter 11): entry timing, runs and triggers, conversions, results, the DC block
and the FIFO.
-/

namespace Sys2Proof.Machine

open Sys2Proof

/-- Change the converter's state outside its registers. -/
def State.setSnd (s : State) (f : SndSt → SndSt) : State := { s with snd := f s.snd }

/-- OSR of a code (R240), and N of R243. -/
def osrOf (code : Nat) : Nat := 64 * 2 ^ code

/-- The gain of a code (R242). -/
def gainOf (code : Nat) : Nat := 2 ^ code

/-- The divider of an input: a supply passes through one of exactly 1/2 (R241, Table 11-1). -/
def inputDivider (input : Nat) : Nat := if 0x50 ≤ input ∧ input ≤ 0x56 then 2 else 1

/-- A conversion is a system slot's. -/
def SndConv.sys (c : SndConv) : Bool := c.slot.isSome

/-- The voltage of an input within what Table 11-1 gives it, in units of 1.25 V / 2^39: a single-ended input measures none below
ground, the reference check and the shorted input lie in their bounds (R241). -/
def inputVoltage (input : Nat) (v : Int) : Int :=
  if input < 0x20 then max 0 v
  else if input = 0x58 then clamp (0x3FF800 * 65536) (0x400800 * 65536) v
  else if input = 0x59 then clamp (-0x200 * 65536) (0x200 * 65536) v
  else v

/-- The modulator's output for a voltage at the selected input: the divided voltage times the gain, in units of full scale / 2^39
(R240 to R242). -/
def modulated (input gain : Nat) (v : Int) : Int := roundDiv (inputVoltage input v * gainOf gain) (inputDivider input)

/-! ## The decimation chain (R243, R245) -/

/-- The coefficients of a half-band, of 23 taps, and of the compensation FIR, of 63, in units of 2^-24: symmetric, with unit DC gain
(R244, R245). -/
def halfBandTap (k d : Nat) : Int :=
  if d = 0 then 2 ^ 23
  else if d = 1 then 2 ^ 22 - ([3, 5, 7, 9, 11].map (Config.halfBand k)).sum
  else if d % 2 = 0 then 0
  else Config.halfBand k d
def halfBandTaps (k : Nat) : List Int := (List.range 23).map (fun (j : Nat) => halfBandTap k (Int.natAbs ((j : Int) - 11)))
def compTap (d : Nat) : Int :=
  if d = 0 then 2 ^ 24 - 2 * ((List.range 31).map (fun j => Config.compFir (j + 1))).sum else Config.compFir d
def compTaps : List Int := (List.range 63).map (fun (j : Nat) => compTap (Int.natAbs ((j : Int) - 31)))

/-- The sums of `n` successive values. -/
def boxSums (n : Nat) (w : List Int) : List Int := (List.range (w.length + 1 - n)).map (fun i => ((w.drop i).take n).sum)

/-- The sinc⁵ sum over 5(N - 1) + 1 samples, of DC gain N⁵. -/
def sincSum (n : Nat) (w : List Int) : Int :=
  ((boxSums n (boxSums n (boxSums n (boxSums n (boxSums n w))))).headD 0)

/-- The output `num / den` of stage `k` reduced to the width of the next stage's input, half to even, and whether that clips it. -/
def stageOut (k : Nat) (num : Int) (den : Nat) : Int × Bool :=
  let y := roundDiv num (den * 2 ^ Config.stageDrop k) * 2 ^ Config.stageDrop k
  let top : Int := 2 ^ (39 + Config.stageRoom k)
  let z := clamp (-top) (top - 1) y
  (z, z != y)

/-- A sum of products. -/
def firSum (h line : List Int) : Int := (h.zip line).foldl (fun a p => a + p.1 * p.2) 0

/-- Successive pairs of a list. -/
def pairs : List Int → List (Int × Int)
  | a :: b :: t => (a, b) :: pairs t
  | _ => []

/-- A FIR of decimation 2 takes its inputs: its line after them and its output sums. -/
def decimate (h line xs : List Int) : List Int × List Int :=
  (pairs xs).foldl (fun a p =>
    let l := (p.2 :: p.1 :: a.1).take h.length
    (l, a.2 ++ [firSum h l])) (line, [])

/-- The samples since the last clip of outputs that come `step` samples apart. -/
def clipAge (step : Nat) (ys : List (Int × Bool)) : Option Nat := (ys.reverse.findIdx? (·.2)).map (· * step)

/-- The later of two moments by their ages. -/
def latest (a b : Option Nat) : Option Nat :=
  match a, b with
  | some x, some y => some (min x y)
  | some x, none => some x
  | none, b => b

/-- The chain makes a result of 8N modulator samples: the chain after them, the compensation output in units of 2^-24, and the
age of the latest clip. -/
def SndChain.result (c : SndChain) (n : Nat) (xs : List Int) : SndChain × Int × Option Nat :=
  let w := c.sinc ++ xs
  let y0 := (List.range 8).map (fun b => stageOut 0 (sincSum n ((w.drop (n * b)).take (5 * n - 4))) (n ^ 5))
  let r1 := decimate (halfBandTaps 1) c.hb1 (y0.map (·.1))
  let y1 := r1.2.map (fun v => stageOut 1 v (2 ^ 24))
  let r2 := decimate (halfBandTaps 2) c.hb2 (y1.map (·.1))
  let y2 := r2.2.map (fun v => stageOut 2 v (2 ^ 24))
  let r3 := decimate compTaps c.comp (y2.map (·.1))
  (⟨w.drop (8 * n), r1.1, r2.1, r3.1⟩, r3.2.headD 0,
    latest (clipAge n y0) (latest (clipAge (2 * n) y1) (clipAge (4 * n) y2)))

/-- The chain after a prefill of 5N modulator samples: the sinc⁵ output at its end stands in every delay line (R245). -/
def prefilled (n : Nat) (xs : List Int) : SndChain × Bool :=
  let y := stageOut 0 (sincSum n (xs.drop 4)) (n ^ 5)
  (⟨xs.drop (n + 4), List.replicate 23 y.1, List.replicate 23 y.1, List.replicate 63 y.1⟩, y.2)

/-- The first `n` of a list; where it is shorter, its last value holds. -/
def holdTo (n : Nat) (xs : List Int) : List Int := xs.take n ++ List.replicate (n - xs.length) (xs.getLastD 0)

/-- A conversion of these settings is longer than 400 µs (R245, R255). One µs is 6.144 modulator samples; the sums are
in thousandths of a sample. -/
def convLong (osr settle count : Nat) : Bool :=
  decide (2457600 < 6144 * (1 + settle) + (1000 * (count + 1) + 625) * osrOf osr)

/-- Entry `j` is longer than 400 µs. -/
def State.entLong (s : State) (j : Nat) : Bool :=
  convLong (s.get (SND.ENT0_OSR j)) (s.get (SND.ENT1_SETTLE j)) (s.get (SND.ENT1_COUNT j))

/-- SUP_ACTIVE = 1 and the sequence holds an entry longer than 400 µs (R255). -/
def State.seqLong (s : State) : Bool :=
  s.flag SND.STATUS_SUP_ACTIVE && (List.range (s.get SND.CTRL_LEN + 1)).any s.entLong

/-- A run starts (R246). -/
def State.runBegin (s : State) : State :=
  ((s.stamp SND.RUN_TIME0_TIME_LO SND.RUN_TIME1_TIME_HI).on SND.STATUS_RUNNING).setSnd
    (fun d => { d with pos := 0, stop := false })

/-- A trigger or a CONTINUOUS start asks for a run, or is refused (R255). -/
def State.runAsk (s : State) : State := if s.seqLong then s.on SND.STATUS_ENTRY_LONG else s.runBegin

/-- The run in progress ends: Spar's SND event; CONTINUOUS goes on with a new run unless it was stopped; a pending
trigger starts the next run at once (R246, R247, R257). -/
def State.runEnd (s : State) : State :=
  let halted := s.snd.stop
  let t := ((s.off SND.STATUS_RUNNING).sprEvent 1).setSnd (fun d => { d with stop := false, pos := 0 })
  if s.flag SND.CTRL_MODE then (if halted then t else t.runAsk)
  else if s.flag SND.STATUS_TRIG_PEND then (t.off SND.STATUS_TRIG_PEND).runAsk
  else t

/-- A run is abandoned (R255). -/
def State.runAbort (s : State) : State :=
  (((s.on SND.STATUS_SEQ_ABORT).on SND.STATUS_ENTRY_LONG).setSnd (fun d =>
    { d with conv := none, stop := true, lastOvr := match d.conv with | some c => c.anyOvr | none => d.lastOvr })).runEnd

/-- A trigger from source `src` (R246, R247): 0 SND_CMD.TRIG, 1 the timer, 2 Spar's EVT 0. It counts in SINGLE mode, when
armed, from the selected source. -/
def State.sndTrigger (s : State) (src : Nat) : State :=
  if !s.awake || s.flag SND.CTRL_MODE || !s.snd.armed || s.get SND.CTRL_TRIG_SRC != src then s
  else if !s.flag SND.STATUS_RUNNING then s.runAsk
  else if s.flag SND.STATUS_TRIG_PEND then (s.on SND.STATUS_TRIG_OVR).inc SND.CNT_TRIG_DROP_CNT
  else (s.on SND.STATUS_TRIG_OVR).on SND.STATUS_TRIG_PEND

/-- SND_CMD.START (R246, R255): arms in SINGLE mode, begins runs in CONTINUOUS mode. -/
def State.sndStart (s : State) : State :=
  if !s.awake then s
  else if s.seqLong then s.on SND.STATUS_ENTRY_LONG
  else if !s.flag SND.CTRL_MODE then s.setSnd (fun d => { d with armed := true })
  else if s.flag SND.STATUS_RUNNING then s
  else s.runBegin

/-- SND_CMD.STOP (R246, R247). -/
def State.sndStop (s : State) : State :=
  let t := s.off SND.STATUS_TRIG_PEND
  if !t.flag SND.STATUS_RUNNING then t
  else
    let u := t.setSnd (fun d => { d with stop := true })
    if u.snd.conv.isSome then u else u.runEnd

/-- The settle time is over, and the conversion's prefill begins (R245): its results carry REF_COLD where REF_RDY = 0 now (R253). -/
def State.convFill (s : State) (us : Nat) : State :=
  s.setSnd (fun d => { d with conv := d.conv.map (fun c =>
    if c.filled = false ∧ 1 + c.settle ≤ us then { c with filled := true, cold := !s.flag SND.STATUS_REF_RDY } else c) })

/-- The next system slot starts (R252, R254): its settle time meets 20 µs, so that it is clean. -/
def State.slotStart (s : State) (c : SndSlot) (waitUs : Nat) : State :=
  let t := (s.on SND.STATUS_SYS_ACTIVE).setIf (s.get SND.SYS_SYS_WAIT_MAX < waitUs) SND.SYS_SYS_WAIT_MAX (min waitUs 0xFFFF)
  t.setSnd (fun d => { d with slots := d.slots.drop 1, conv := some {
      slot := some c, entry := 0, input := c.input, gain := c.gain, osr := c.osr, settle := if s.snd.lastOvr then max 20 c.settle else c.settle, count := c.count, avg := false, dcbEn := false, dcbFc := 0, isRec := false,
      cold := false, anyOvr := false, ovlAge := none, results := [], filled := false, chain := {} } })

/-- User entry `j` starts with the settings it has now (R245, R252, R253, R257). -/
def State.entryStart (s : State) (j : Nat) : State :=
  if s.flag SND.STATUS_SUP_ACTIVE && s.entLong j then s.runAbort
  else
    (s.set SND.STATUS_ENTRY j).setSnd (fun d => { d with conv := some {
        slot := none, entry := j, input := s.get (SND.ENT0_INPUT j), gain := s.get (SND.ENT0_GAIN j), osr := s.get (SND.ENT0_OSR j), settle := s.get (SND.ENT1_SETTLE j), count := s.get (SND.ENT1_COUNT j)
        avg := s.flag (SND.ENT0_AVG j), dcbEn := s.flag (SND.ENT0_DCB_EN j), dcbFc := s.get (SND.ENT0_DCB_FC j)
        isRec := d.lastOvr && decide (s.get (SND.ENT1_SETTLE j) < 20), cold := false
        anyOvr := false, ovlAge := none, results := [], filled := false, chain := {} } })

/-- A conversion starts when none is in progress: a requested system slot first (R254), else the run's next entry. -/
def State.convStart (s : State) (waitUs : Nat) : State :=
  if !s.awake || s.snd.conv.isSome then s
  else
    match s.snd.slots with
    | c :: _ => s.slotStart c waitUs
    | [] => if s.flag SND.STATUS_RUNNING then s.entryStart s.snd.pos else s

/-- The modulator overloads `before` samples ahead of the next result (R251). What happens before the prefill
begins does not count. -/
def State.overload (s : State) (before : Nat) : State :=
  s.setSnd (fun d => { d with conv := d.conv.map (fun c =>
    if c.filled = false ∨ (c.results = [] ∧ 13 * (osrOf c.osr / 8) ≤ before) then c
    else { c with ovlAge := some (match c.ovlAge with | some a => min a before | none => before) }) })

/-- The filter span of a result in modulator samples (R244). -/
def spanOf (osr : Nat) : Nat := 319 * (osrOf osr / 8) - 4

/-- The corner fc of a DCB_FC code in tenths of a hertz (Table 11-4). -/
def dcbTenths (code : Nat) : Nat :=
  match code with | 0 => 1 | 1 => 2 | 2 => 5 | 3 => 10 | 4 => 20 | 5 => 50 | _ => 100

/-- k = 2π·fc / (output rate) as a multiple of 2^-24 (R249). -/
def dcbK (fc osr : Nat) : Int :=
  roundDiv (2 * 3141592653589793 * dcbTenths fc * osrOf osr * 2 ^ 24 : Nat) (61440000 * 10 ^ 15)

/-- The range of a result. -/
def sat24 (x : Int) : Int := clamp (-8388608) 8388607 x

/-- E of entry `j` is cleared (R250). -/
def State.dcbClear (s : State) (j : Nat) : State :=
  (s.setSnd (fun d => { d with est := d.est.set j 0 })).off (SND.DCB_EST_EST j)

/-- E of entry `j` takes a result (R249). -/
def State.dcbUpdate (s : State) (c : SndConv) (x : Int) : State :=
  let e := s.snd.est.getD c.entry 0
  let e' := e + roundDiv (dcbK c.dcbFc c.osr * (x * 65536 - e)) (2 ^ 24)
  (s.setSnd (fun d => { d with est := d.est.set c.entry e' })).seti (SND.DCB_EST_EST c.entry) (e' / 65536)

/-- What the DC block delivers of a result (R249). -/
def State.dcbOut (s : State) (c : SndConv) (x : Int) : Int :=
  if c.dcbEn then sat24 (roundDiv (x * 65536 - s.snd.est.getD c.entry 0) 65536) else x

/-- A word is pushed into the FIFO, or dropped (R248). -/
def State.fifoPush (s : State) (w : Nat) : State :=
  if !s.flag SND.CTRL_FIFO_EN then s
  else if 64 ≤ s.snd.fifo.length then (s.on SND.STATUS_FIFO_OVF).inc SND.CNT_FIFO_DROP_CNT
  else s.setSnd (fun d => { d with fifo := d.fifo ++ [w] })

/-- A result is delivered: held in SND_RESULTj and pushed into the FIFO (R248, Table 11-8). LAST marks the run's last. -/
def State.sndDeliver (s : State) (c : SndConv) (x : Int) (ovr : Bool) (final : Bool) : State :=
  let v := ucode 24 (s.dcbOut c x)
  let j := c.entry
  let w := v + j * 2 ^ 24 + ovr.toNat * 2 ^ 28 + c.isRec.toNat * 2 ^ 29 + c.cold.toNat * 2 ^ 30
  let isLast := final && (decide (s.get SND.CTRL_LEN ≤ j) || s.snd.stop)
  let t := ((((s.set (SND.RESULT_VALUE j) v).set (SND.RESULT_ENTRY j) j).setB (SND.RESULT_OVR j) ovr).setB
    (SND.RESULT_REC j) c.isRec).setB (SND.RESULT_REF_COLD j) c.cold
  let u := if c.dcbEn && !ovr && !c.isRec && !s.bitOf SND.DCB_FREEZE j then t.dcbUpdate c x else t
  u.fifoPush (w + isLast.toNat * 2 ^ 31)

/-- The chain makes the next result of the conversion `c` from the voltages at the selected input, one per modulator sample; the
first result takes those of the prefill before its own (R243, R245). The conversion with its chain and with the age of the latest
clip, and the result before its clamp (R240). -/
def SndConv.convert (c : SndConv) (vin : List Int) : SndConv × Int :=
  let n := osrOf c.osr / 8
  let first := c.results.isEmpty
  let xs := (holdTo (if first then 13 * n else 8 * n) vin).map (modulated c.input c.gain)
  let pre := if first then prefilled n (xs.take (5 * n)) else (c.chain, false)
  let r := pre.1.result n (if first then xs.drop (5 * n) else xs)
  ({ c with chain := r.1, ovlAge := latest c.ovlAge (latest r.2.2 (if pre.2 then some (8 * n) else none)) },
    roundDiv r.2.1 (2 ^ 40))

/-- A result is made of the voltages `vin` (R240, R248, R251): clamped to 24 bits, flagged OVR by the clamp or by an overload or
a clip within its span, and delivered, or averaged with the conversion's others. -/
def State.sndResult (s : State) (vin : List Int) : State :=
  match s.snd.conv with
  | none => s
  | some c =>
    if c.filled = false ∨ c.count < c.results.length then s
    else
      let k := c.convert vin
      let y := sat24 k.2
      let ovl := match k.1.ovlAge with | some a => decide (a < spanOf c.osr) | none => false
      let ovr := y != k.2 || ovl
      let c' := { k.1 with results := c.results ++ [y], anyOvr := c.anyOvr || ovr, ovlAge := k.1.ovlAge.map (· + osrOf c.osr) }
      let t := (if ovr then s.on SND.STATUS_OVR else s).setSnd (fun d => { d with conv := some c' })
      let final := c'.results.length == c.count + 1
      if c.sys then t
      else if !c.avg then t.sndDeliver c' y ovr final
      else if final then t.sndDeliver c' (roundDiv (c'.results.foldl (· + ·) 0) (c.count + 1)) c'.anyOvr true
      else t

/-- The result of a system slot is kept for who asked for it, in place of an earlier one of such a slot (R248). -/
def State.slotKeep (s : State) (c : SndConv) : State :=
  match c.slot with
  | none => s
  | some q => s.setSnd (fun d => { d with out := d.out.filter (fun p => p.1 != q) ++ [(q, c.results.getLastD 0)] })

/-- The result that a system slot has left, and not been asked for yet. -/
def State.slotRead (s : State) (q : SndSlot) : Option Int := (s.snd.out.find? (fun p => p.1 == q)).map (·.2)

/-- The results of some slots are taken. -/
def State.slotsTaken (s : State) (qs : List SndSlot) : State :=
  s.setSnd (fun d => { d with out := d.out.filter (fun p => !qs.contains p.1) })

/-- The conversion in progress ends after its last result (R245 to R247, R254). -/
def State.convEnd (s : State) : State :=
  match s.snd.conv with
  | none => s
  | some c =>
    if c.results.length ≤ c.count then s
    else
      let t := s.setSnd (fun d => { d with conv := none, lastOvr := c.anyOvr })
      if c.sys then
        let u := ((t.slotKeep c).inc SND.SYS_SYS_CNT).off SND.STATUS_SYS_ACTIVE
        if u.flag SND.STATUS_RUNNING && u.snd.stop then u.runEnd else u
      else if t.snd.stop || decide (t.get SND.CTRL_LEN ≤ c.entry) then t.runEnd
      else t.setSnd (fun d => { d with pos := c.entry + 1 })

/-- A system slot is requested (R254); resident firmware then holds SONDE_REF_EN at 1 (R253). -/
def State.slotAsk (s : State) (c : SndSlot) : State :=
  if s.awake then (s.on SND.CTRL_SONDE_REF_EN).setSnd (fun d => { d with slots := d.slots ++ [c], sysOn := true }) else s

/-- The reference buffer has settled (R253). -/
def State.refReady (s : State) : State :=
  if s.awake && s.flag SND.CTRL_SONDE_REF_EN then s.on SND.STATUS_REF_RDY else s

/-- SONDE_REF_EN is written (R253). -/
def State.refWrite (s : State) (v : Bool) : State :=
  if v then s.on SND.CTRL_SONDE_REF_EN
  else if s.snd.sysOn then s
  else (s.off SND.CTRL_SONDE_REF_EN).off SND.STATUS_REF_RDY

/-- Some laser bias channel is away from its clear code (R255). -/
def State.anyLit (s : State) : Bool := (List.finRange 8).any s.lit

/-- SUP_ACTIVE rises (R255). -/
def State.supRise (s : State) : State :=
  if !s.awake || !s.anyLit || s.flag SND.STATUS_SUP_ACTIVE then s
  else
    let t := s.on SND.STATUS_SUP_ACTIVE
    match t.snd.conv with
    | none => t
    | some c => if !c.sys && convLong c.osr c.settle c.count then t.runAbort else t

/-- The head of the FIFO is read and popped (Table 11-6); an empty FIFO reads zero. -/
def State.fifoPop (s : State) : State :=
  (s.respond (.data (s.snd.fifo.headD 0))).setSnd (fun d => { d with fifo := d.fifo.drop 1 })

/-- A word of entry `j` is written (R241, R242, R250, R258): reserved encodings discard their field, and a write of INPUT
or a rise of DCB_EN clears E. -/
def State.entWrite (s : State) (j w v : Nat) : State :=
  if w % 2 = 0 then
    let inp := bits v 0 7
    let resv := decide (0x30 ≤ inp ∧ inp ≤ 0x3F) || decide (0x4C ≤ inp ∧ inp ≤ 0x4F) || inp == 0x57 ||
      decide (0x5A ≤ inp ∧ inp ≤ 0x5F) || decide (0x68 ≤ inp) || (inp == 0x56 && !s.variant)
    let rise := bit v 16 && !s.flag (SND.ENT0_DCB_EN j)
    let t := s.setIf (!resv) (SND.ENT0_INPUT j) inp
    let u := t.setIf (decide (bits v 8 3 < 6)) (SND.ENT0_GAIN j) (bits v 8 3)
    let x := u.setIf (bits v 12 3 != 7) (SND.ENT0_OSR j) (bits v 12 3)
    let y := (x.setB (SND.ENT0_AVG j) (bit v 15)).setB (SND.ENT0_DCB_EN j) (bit v 16)
    let z := y.setIf (bits v 17 3 != 7) (SND.ENT0_DCB_FC j) (bits v 17 3)
    if !resv || rise then z.dcbClear j else z
  else (s.set (SND.ENT1_SETTLE j) (bits v 0 10)).set (SND.ENT1_COUNT j) (bits v 16 8)

/-- SND_CMD.CNT_CLR (R258). -/
def State.sndCntClr (s : State) : State := (s.off SND.CNT_TRIG_DROP_CNT).off SND.CNT_FIFO_DROP_CNT

/-- The converter loses its power, or a device-level reset reaches it (R256): nothing is armed, converting or queued. -/
def State.sndOff (s : State) : State := { s with snd := { est := s.snd.est } }

/-- The FIFO raises its Reel request (R248). -/
def State.sndRequest (s : State) : Bool := decide (16 ≤ s.snd.fifo.length)

end Sys2Proof.Machine
end

