-- ==== Sys2Proof/Machine/SafOps.lean ====
section
/-!
DEFINITION. Laser safety (chapter 14): the Rip-panel latches, the supervision gates, proof tests, releases, the
supervision loop and the device-wide protections.
-/

namespace Sys2Proof.Machine

open Sys2Proof

/-- After a change of what forces lane `n`: newly forced channels are cleared (R233), modulation demand is judged (R121),
and the port with it (Table 08-1). -/
def State.safForce (s : State) (n : Lane) (f : State → State) : State := ((s.forcing f).demandEval n).evalLane n

/-! ## Latches (R300, R301) -/

/-- The log record of a trip (Table 20-9, R313). -/
def State.safLog (s : State) (n : Lane) (cause chan : Nat) (already : Bool) : State :=
  s.logRecord 5 n 1 (cause + 16 * chan + 256 * already.toNat) (s.get (SAF.CNT_TRIP_CNT n)) 0 0

/-- A third trip within 10 s of powered time makes the fault lasting (R301). -/
def State.lastingEval (s : State) (n : Lane) : State :=
  let ts := (s.now :: (s.sf n).trips).take 3
  let t := s.setSf n (fun l => { l with trips := ts })
  if ts.length = 3 && decide (s.since (ts.getD 2 0) ≤ 10000) && !s.flag (SAF.INFO_LASTING n) then
    (t.on (SAF.INFO_LASTING n)).alarm 0x0F n 0
  else t

/-- What the lane records of the first cause after a release (R301). -/
def State.latchRecord (s : State) (n : Lane) (cause chan : Nat) : State :=
  let t := (((s.set (SAF.INFO_CAUSE n) cause).set (SAF.INFO_CHAN n) chan).set (SAF.TRIP_TIME_TRIP_TIME n) s.now).inc
    (SAF.CNT_TRIP_CNT n)
  (t.on SAF.EVT_TRIP).alarm 0x0E n cause

/-- A latching cause acts on lane `n` (R301, Table 14-1): the first one latches and is recorded, a later one is only
logged. -/
def State.latch (s : State) (n : Lane) (cause chan : Nat) : State :=
  if s.bitOf SAF.STATUS_LATCH n then s.safLog n cause chan true
  else
    let t := s.safForce n (fun u => u.setBit SAF.STATUS_LATCH n true)
    ((t.latchRecord n cause chan).lastingEval n).safLog n cause chan false

/-- A cause that acts on every lane. -/
def State.latchAll (s : State) (cause : Nat) : State := s.each (List.finRange 8) (fun n t => t.latch n cause 0)

/-! ## Supervision gates (R306, R480) -/

/-- A cause closes the supervision gate of lane `n`, and latches it. -/
def State.gateClose (s : State) (n : Lane) (cause : Nat) : State :=
  let t := s.setSf n (fun l => { l with gate := if l.gate.contains cause then l.gate else l.gate ++ [cause] })
  (t.safForce n (fun u => u.setBit SAF.CTRL_SUP_GATE n true)).latch n cause 0

/-- A cause closes the gates of all lanes. -/
def State.gateAll (s : State) (cause : Nat) : State := s.each (List.finRange 8) (fun n t => t.gateClose n cause)

/-- A closing cause has ended on lane `n` (R480). -/
def State.gateEnd (s : State) (n : Lane) (cause : Nat) : State :=
  s.setSf n (fun l => { l with gate := l.gate.filter (· != cause) })

/-- A closing cause has ended on all lanes. -/
def State.gateEndAll (s : State) (cause : Nat) : State := s.each (List.finRange 8) (fun n t => t.gateEnd n cause)

/-- Resident firmware opens the gate of lane `n` once every cause that closed it has ended (R480). -/
def State.gateOpen (s : State) (n : Lane) : State :=
  if (s.sf n).gate.isEmpty then s.safForce n (fun u => u.setBit SAF.CTRL_SUP_GATE n false) else s

/-- A write of SUP_GATE by Gondola: a 1 closes the gate with cause SUP, a 0 opens it where no cause holds (R306, R480). -/
def State.gateWrite (s : State) (n : Lane) (v : Bool) : State :=
  if v = s.bitOf SAF.CTRL_SUP_GATE n then s else if v then s.gateClose n 4 else s.gateOpen n

/-! ## Proof tests (R304, R305) -/

/-- PROOF_BUSY: some lane is under test. -/
def State.proofBusy (s : State) : State :=
  s.setB SAF.STATUS_PROOF_BUSY ((List.finRange 8).any (fun n => (s.sf n).test.isSome))

/-- A condition that refuses the release of lane `n` (R303 step 1). A lane in no port is never released. -/
def State.relRefuses (s : State) (n : Lane) (ack : Bool) : Bool :=
  (s.portOf n).isNone || s.cmpNow n || s.bitOf SAF.STATUS_TXD_NOW n || s.flag SAF.STATUS_CLR_PIN_NOW ||
    s.bitOf SAF.CTRL_SUP_GATE n || s.flag SAF.STATUS_SUP_DEAD || s.flag SAF.STATUS_CLK_LOSS_NOW ||
    s.flag SAF.STATUS_SUPPLY_NOW || (s.flag (SAF.INFO_LASTING n) && !ack)

/-- A release of lane `n` is asked for (R303): refused, or a proof test is due for it. In SAFE_BOOT and SAFE_HOLD no latch
is released (R351, R456). -/
def State.relAsk (s : State) (n : Lane) (ack : Bool) : State :=
  if !s.bitOf SAF.STATUS_LATCH n then s
  else if s.relRefuses n ack || s.flag CFG.BOOT_SAFE_BOOT || s.flag TST.STATUS_SAFE_HOLD then s.on SAF.EVT_REL_REFUSED
  else (s.proofDue n).setSf n (fun l => { l with release := some ack })

/-- The latch of lane `n` clears, and LASTING with it; the lane's port is judged. DESIGN CHOICE (log 201): the output clamp of
R300 opens with the latch. -/
def State.latchClear (s : State) (n : Lane) : State :=
  let t := s.setSf n (fun l => { l with clamp := false })
  ((t.safForce n (fun u => u.setBit SAF.STATUS_LATCH n false)).off (SAF.INFO_LASTING n)).alarmEnd 0x0F n

/-- A due proof test starts with channel A; it waits while the brace is in force (R304, R305). -/
def State.proofStart (s : State) (n : Lane) : State :=
  if !(s.sf n).due || (s.sf n).test.isSome || s.braced then s
  else
    ((s.setSf n (fun l => { l with due := false, release := none, test := some ⟨0, l.release, l.asked⟩, asked := false })).proofBusy).cmpShow n

/-- The test is over: the interval of R305 starts anew, and PROOF clears where it asked for this test and for no other since
(R314). -/
def State.proofOver (s : State) (n : Lane) : State :=
  let own := (s.sf n).test.any (·.asked) && !(s.sf n).asked
  let t := (s.setSf n (fun l => { l with test := none, proofAt := s.now })).proofBusy
  (if own then t.setBit SAF.CMD_PROOF n false else t).cmpShow n

/-- A proof test ends (R303 step 3, R304): the release it served clears the latch only where both channels passed and no
condition refuses it. -/
def State.proofEnd (s : State) (n : Lane) : State :=
  match (s.sf n).test with
  | none => s
  | some t =>
    if t.stage < 2 then s
    else
      let u := s.proofOver n
      match t.release with
      | none => u
      | some ack =>
        if u.flag (SAF.INFO_PROOF_A_OK n) && u.flag (SAF.INFO_PROOF_B_OK n) && !u.relRefuses n ack then u.latchClear n
        else u.on SAF.EVT_REL_REFUSED

/-- A real trip abandons the test; a release it served, or that waits, is refused (R313). -/
def State.proofAbandon (s : State) (n : Lane) : State :=
  let had := match (s.sf n).test with | some t => t.release.isSome | none => false
  let t := if (s.sf n).test.isSome then s.proofOver n else s
  if had || (s.sf n).release.isSome then
    (t.setSf n (fun l => { l with release := none })).on SAF.EVT_REL_REFUSED
  else t

/-- PROOF_INT in milliseconds of powered time; 0 acts as 1 minute. -/
def State.proofInt (s : State) : Nat := 60000 * max 1 (s.get SAF.SUPCFG_PROOF_INT)

/-- The periodic interval of lane `n` has passed (R305): a test is due, or left to the next LIGHT entry where the port is
DOWN. -/
def State.proofPeriodic (s : State) (n : Lane) : State :=
  if s.flag SAF.CTRL_PERIODIC_EN && decide (s.proofInt ≤ s.since (s.sf n).proofAt) && decide (s.lstate n ≠ 0) then s.proofDue n
  else s

/-- SAF_CMD.PROOF for lane `n`. -/
def State.proofAsk (s : State) (n : Lane) : State := 
  ((s.setBit SAF.CMD_PROOF n true).proofDue n).setSf n (fun l => { l with asked := true })

/-! ## Comparators (R298 to R300) -/

/-- A trip engages the output clamp of BDAn where its clear code is 0 (R300). -/
def State.clampOn (s : State) (n : Lane) : State :=
  s.when (s.get (BDA.CLR_CLR_CODE (biasChan n)) == 0) (·.setSf n (fun l => { l with clamp := true }))

/-- Tripped comparators of lane `n` whose outputs go to the lane gate act (R300, R313): they abandon a test and latch, HI with
cause 2 before LO, while armed, with cause 3. -/
def State.cmpAct (s : State) (n : Lane) : State :=
  let h := s.gated n (s.cmpHi n)
  let l := if s.flag (SAF.INFO_ARMED_LO n) then s.gated n (s.cmpLo n) else 0
  let a := s.cmpShow n
  let t := if h = 0 ∧ l = 0 then a else a.clampOn n
  let u := if h = 0 then t else (t.proofAbandon n).latch n 2 h
  if l = 0 then u else (u.proofAbandon n).latch n 3 l

/-- The comparators of the channel under test are tripped by MPD_IN[n] once it is reconnected: HI, or LO while armed. -/
def State.proofTripped (s : State) (n : Lane) (stage : Nat) : Bool :=
  bit (s.cmpHi n) stage || (s.flag (SAF.INFO_ARMED_LO n) && bit (s.cmpLo n) stage)

/-- The test of the channel under test ends with its reconnection (R304): it fails where a comparator that is connected again
shows a trip, and that trip then acts (R300). -/
def State.proofChannel (s : State) (n : Lane) (pass : Bool) : State :=
  match (s.sf n).test with
  | none => s
  | some t =>
    if 2 ≤ t.stage then s
    else
      let ok := pass && !s.proofTripped n t.stage
      let u := (s.setB (if t.stage = 0 then SAF.INFO_PROOF_A_OK n else SAF.INFO_PROOF_B_OK n) ok).setSf n
        (fun l => { l with test := some { t with stage := t.stage + 1 } })
      let v := if ok then u else ((u.inc (SAF.CNT_PROOF_FAIL_CNT n)).on SAF.EVT_PROOF_FAIL).latch n 10 0
      v.cmpAct n

/-- The voltage of MPD_IN[n] changes; channels A and B see it through their own buffers and filters (R298). -/
def State.mpdIn (s : State) (n : Lane) (a b : Nat) : State := (s.setSf n (fun l => { l with mpdA := a, mpdB := b })).cmpAct n

/-- The output of BDAn has stayed above 50 mV for the blanking time: the LO comparators of lane `n` arm (R299), and tripped
ones act at once. -/
def State.armLo (s : State) (n : Lane) : State := if s.biasAbove n then (s.on (SAF.INFO_ARMED_LO n)).cmpAct n else s

/-! ## Pins (R302) -/

/-- TX_DISABLE[n] changes. -/
def State.txDisable (s : State) (n : Lane) (v : Bool) : State :=
  let t := { s with saf := { s.saf with txd := putBit s.saf.txd n v } }
  t.safForce n (fun u => u.setBit SAF.STATUS_TXD_NOW n v)

/-- LASER_CLR_N changes; `low` is its level. Every port is judged. -/
def State.laserClr (s : State) (low : Bool) : State :=
  let t := { s with saf := { s.saf with clrPin := low } }
  ((t.forcing (fun u => u.setB SAF.STATUS_CLR_PIN_NOW low)).demandAll).portsEval

/-- LASER_SHUNT[n] is high while the lane is latched, TX_DISABLE[n] is high or LASER_CLR_N is low (R302); none:
high-impedance, under the Rip panel's undervoltage lockout (R309). -/
def State.shunt (s : State) (n : Lane) : Option Bool :=
  if s.saf.uvlo then none
  else some (s.bitOf SAF.STATUS_LATCH n || s.bitOf SAF.STATUS_TXD_NOW n || s.flag SAF.STATUS_CLR_PIN_NOW)

/-- CLR_NZ: some laser bias channel has a non-zero clear code (R296). -/
def State.clrNz (s : State) : Bool := (List.range 8).any (fun c => s.get (BDA.CLR_CLR_CODE c) != 0)

/-- The clear code of a channel has been written: the output follows where it stands at it (R238), and a CLR_NZ that
rises is alarmed (R296). -/
def State.clrChange (s : State) (c : Chan) (v : Nat) : State :=
  let t := ((s.injPass c).set (BDA.CLR_CLR_CODE c) v).clrWritten c
  if t.clrNz && !s.clrNz then t.alarm 0x11 0 0 else t

/-! ## The supervision loop (R306, R307, R479) -/

/-- KICK: the dead-man restarts and SUP_DEAD clears (R307). -/
def State.kick (s : State) : State := s.off SAF.STATUS_SUP_DEAD

/-- The system slot in which the loop reads lane `n`: the SONDE_IN pin that SUP_IN names, OSR 64, gain 1, SETTLE 20 µs, one
result (R306). -/
def State.supSlot (s : State) (n : Lane) : SndSlot := ⟨s.get (SAF.INFO_SUP_IN n), 0, 0, 20, 0, 0⟩

/-- The reading of lane `n` as a result of the converter, of which 2^23 stand for 1,250 mV (R240), violates a limit of the
loop. SUP_LO and the expected value are compared from the second pass on that finds the bias away from its clear code (R306),
the latter while the code has not changed (R479). -/
def State.supViolates (s : State) (n : Lane) (x : Int) : Bool :=
  let l := s.sf n
  let code := s.get (BDA.OUT_OUT (biasChan n))
  let mv (m : Nat) : Int := m * 2 ^ 23
  decide (mv (s.get (SAF.SUP_SUP_HI n)) < 1250 * x) ||
    (s.lit n && l.lit && (decide (1250 * x < mv (s.get (SAF.SUP_SUP_LO n))) ||
      (l.supTol != 0 && l.code == code &&
        decide (1000 * mv l.supTol < (1250000 * x - 2 ^ 23 * (l.supGain * (code : Nat) + 1000 * l.supOfs)).natAbs))))

/-- One lane in a loop pass: supervised while lit, or while its gate is closed (R480). -/
def State.supWatches (s : State) (n : Lane) : Bool := s.lit n || s.bitOf SAF.CTRL_SUP_GATE n
def State.supLane (s : State) (n : Lane) (x : Int) (tick : Bool) : State :=
  let closed := s.bitOf SAF.CTRL_SUP_GATE n
  let bad := s.supWatches n && s.supViolates n x
  let t := s.setSf n (fun l => { l with lit := s.lit n, code := s.get (BDA.OUT_OUT (biasChan n)) })
  if !tick || (bad && s.lit n) then t.gateClose n 4
  else
    let u := if closed && !bad && !s.lit n then t.gateEnd n 4 else t
    if closed && !bad && !s.flag SAF.STATUS_SUP_DEAD then u.gateEnd n 5 else u

/-- The loop has a reading of every lane that it supervises. -/
def State.supReady (s : State) : Bool :=
  (List.finRange 8).all (fun n => !s.supWatches n || (s.slotRead (s.supSlot n)).isSome)

/-- One pass of the supervision loop (R306, R307, R480), made on the readings that system slots have taken since the pass
before; `tick` says that the pilot-light tick count has advanced. It ends with a KICK, and SUP_ACTIVE falls when no laser bias
channel is away from its clear code. Without the readings there is no pass, and the dead-man is not kicked. -/
def State.supPass (s : State) (tick : Bool) : State :=
  if !s.awake || !s.supReady then s
  else
    let t := s.each (List.finRange 8) (fun n t => t.supLane n ((s.slotRead (s.supSlot n)).getD 0) tick)
    let u := (t.slotsTaken ((List.finRange 8).map s.supSlot)).kick
    if u.anyLit then u else u.off SND.STATUS_SUP_ACTIVE

/-- SUP_TMO in microseconds, from 1 to 0x32 ms (Table 14-3). -/
def State.supUs (s : State) : Nat := msUs 1 (min 0x32 (s.get SAF.SUPCFG_SUP_TMO))

/-- The dead-man expires, `us` after the latest KICK (R307). -/
def State.deadman (s : State) (us : Nat) : State :=
  if !s.awake || !s.flag SND.STATUS_SUP_ACTIVE || decide (us < s.supUs) then s
  else ((s.on SAF.STATUS_SUP_DEAD).on SAF.EVT_DEADMAN).gateAll 5

/-! ## Device-wide protections (R308, R309) -/

/-- A watched clock is lost. -/
def State.clockLoss (s : State) : State :=
  if s.awake then ((s.on SAF.STATUS_CLK_LOSS_NOW).on SAF.EVT_CLK_LOSS).gateAll 6 else s

/-- All three clocks have run for 1 ms. -/
def State.clockBack (s : State) : State := (s.off SAF.STATUS_CLK_LOSS_NOW).gateEndAll 6

/-- VDDA_12 is at `mv`: it has left its window of 1.10 V to 1.32 V (R309). The window comparators watch it whenever VDDIO_18 is
present; outside Doze and Run every latch is set as it is. -/
def State.supplyLost (s : State) (mv : Nat) : State :=
  if s.pwr.dev = .off ∨ s.saf.uvlo = true ∨ (1100 ≤ mv ∧ mv ≤ 1320) then s
  else
    let t := ({ s with saf := { s.saf with supplyOut := true } }.on SAF.STATUS_SUPPLY_NOW).on SAF.EVT_SUPPLY
    let u := t.each (List.finRange 8) (fun n v => v.loFollow n)
    if s.awake then u.latchAll 7 else u

/-! ## Limits (R311) -/

/-- A guarded write of SAF_LANEn_LIM: only while the lane is latched. CMP_NOW follows. -/
def State.limWrite (s : State) (n : Lane) (hi lo : Nat) : State :=
  if s.bitOf SAF.STATUS_LATCH n then ((s.set (SAF.LIM_HI n) hi).set (SAF.LIM_LO n) lo).cmpShow n else s.on SAF.EVT_LIM_REFUSED

/-- VDDA_12 has been inside its window for 1 ms. -/
def State.supplyBack (s : State) : State := { s with saf := { s.saf with supplyOut := false } }.off SAF.STATUS_SUPPLY_NOW

/-- VDDIO_18 falls below 1.55 V: the Rip panel is locked out (R309). -/
def State.vddioLow (s : State) : State := { s with saf := { s.saf with uvlo := true } }

/-- SAF_REL is written by its guarded pair: the lanes named are released (R303). -/
def State.relWrite (s : State) (lanes ack : Nat) : State :=
  ((s.set SAF.REL_LANES lanes).set SAF.REL_LASTING_ACK ack).each ((List.finRange 8).filter (fun n : Lane => bit lanes n.val))
    (fun n t => t.relAsk n (bit ack n.val))

/-- SAF_CMD.CNT_CLR (R314). -/
def State.safCntClr (s : State) : State :=
  s.each (List.range 8) (fun n t => (t.off (SAF.CNT_TRIP_CNT n)).off (SAF.CNT_PROOF_FAIL_CNT n))

/-- A parity mismatch in a SAF register: the lanes of a per-lane register, or all lanes, latch through their supervision
gates (R310, Table 14-1). -/
def State.safParity (s : State) (a : Nat) : State :=
  let t := (s.on SAF.EVT_PARITY).alarm 0x10 0 0
  if 0x20100 ≤ a && a < 0x20200 then t.gateClose (Fin.ofNat 8 ((a - 0x20100) / 0x20)) 8 else t.gateAll 8

end Sys2Proof.Machine
end

