-- ==== Sys2Proof/Machine/ThmOps.lean ====
section
/-!
DEFINITION. The thermal unit (chapter 13): on-die readings, rates, the limits of Table 13-1, the hard trip, cross-checks
and the external channels. Temperatures are in units of 0.125 °C.
-/

namespace Sys2Proof.Machine

open Sys2Proof

/-! ## Logarithms for the conversions of R286 -/

/-- Values of the logarithm are integers in units of 2^-60. -/
def lnOne : Nat := 2 ^ 60

/-- ln 2 and ln 10 in units of 2^-60, rounded. -/
def ln2Fix : Int := 799144290325165979
def ln10Fix : Int := 2654699869899991814

/-- 2·(z + z³/3 + z⁵/5 + …) for z in units of 2^-60, to `k` terms from power `p` on. -/
def atanhSum (z2 : Int) (p : Nat) (term : Int) (k : Nat) : Int :=
  match k with
  | 0 => 0
  | k + 1 => 2 * (term / (p : Nat)) + atanhSum z2 (p + 2) (term * z2 / lnOne) k

/-- ln of `m / lnOne` for `m` between 1/2 and 2 times `lnOne`. -/
def lnNear (m : Int) : Int :=
  let z := (m - lnOne) * lnOne / (m + lnOne)
  atanhSum (z * z / lnOne) 1 z 24

/-- The power of two nearest to `num / den`, as an exponent. -/
def ratioExp (num den : Nat) : Int := (num.log2 : Int) - (den.log2 : Int)

/-- ln (num / den) for positive `num` and `den`. -/
def lnFix (num den : Nat) : Int :=
  let e := ratioExp num den
  let m : Int := if 0 ≤ e then (num * lnOne : Nat) / (den * 2 ^ e.toNat : Nat) else (num * 2 ^ (-e).toNat * lnOne : Nat) / (den : Nat)
  e * ln2Fix + lnNear m

/-- The temperature of an RD reading as numerator and denominator (R286): `num / den` is ΔV in volts, q / k =
16021.76634 / 1.380649 K/V. -/
def rdTemp (conv : Nat) (num : Int) (den : Nat) : Option (Int × Nat) :=
  if conv = 0 ∨ den = 0 then none
  else
    let d : Nat := den * 138064900 * conv * ln10Fix.toNat
    some (40 * (num * 1602176634000 * 16384 * lnOne) - 10926 * d, 5 * d)

/-- The temperature of a TH reading as numerator and denominator (R286): `num / den` is the measured ratio. None where the
ratio has no logarithm or the formula divides by 0. -/
def thTemp (conv : Nat) (num : Int) (den : Nat) : Option (Int × Nat) :=
  if conv = 0 ∨ den = 0 ∨ num ≤ 0 then none
  else
    let d : Int := 100 * conv * lnOne + 29815 * lnFix num.toNat den
    if d = 0 then none else some (d.sign * (40 * (29815 * conv * lnOne : Nat) - 10926 * d), 5 * d.natAbs)

/-! ## On-die sensors (R283 to R285) -/

/-- DSd is faulted. -/
def State.dsFault (s : State) (d : Nat) : Bool := s.bitOf THM.STATUS_OD_FAULT d

/-- Tj (R283): the highest reading of the sensors that are not faulted; 0x7FFF where all are. -/
def State.tj (s : State) : Int :=
  match (List.range 12).filter (fun d => !s.dsFault d) with
  | [] => 0x7FFF
  | d :: t => t.foldl (fun m k => max m (s.geti (THM.OD_TEMP k))) (s.geti (THM.OD_TEMP d))

/-- RATE of a history of readings, newest first (R284): 0 before 600 readings. How the quotient is brought to the
register's unit is not stated. -/
def State.rateSet (s : State) (d : Nat) : State :=
  let h := s.thm.hist.getD d []
  if h.length < 600 then s.off (THM.OD_RATE d)
  else
    let x := (h.take 100).foldl (· + ·) 0 - ((h.drop 500).take 100).foldl (· + ·) 0
    let q := s.quot 9 x 50
    (s.set (THM.OD_RATE d) (if -2048 ≤ q ∧ q ≤ 2047 then ucode 12 q else s.drawn 9 12)).drew

/-- A reading is held at the converter's bounds and recorded (R283). -/
def State.dsRecord (s : State) (d : Nat) (t : Int) : State :=
  let x := clamp (-512) 1200 t
  let u := s.seti (THM.OD_TEMP d) x
  ({ u with thm := { u.thm with hist := u.thm.hist.set d ((x :: u.thm.hist.getD d []).take 600) } }).rateSet d

/-! ## Limits (Table 13-1, R289) -/

/-- WARN and SHED in force, in units of 0.125 °C (Table 13-2). -/
def State.warnLim (s : State) : Int := 8 * min 0x64 (s.get THM.CTRL_WARN)
def State.shedLim (s : State) : Int := max s.warnLim (8 * min 0x67 (s.get THM.CTRL_SHED))

/-- The warning. -/
def State.warnEval (s : State) : State :=
  if s.flag THM.STATUS_WARN_NOW then
    if s.tj ≤ s.warnLim - 16 then (s.off THM.STATUS_WARN_NOW).alarmEnd 0x0A 0 else s
  else if s.warnLim ≤ s.tj then
    ((((s.on THM.STATUS_WARN_NOW).on THM.STATUS_WARN).inc THM.CNT_WARN_CNT).alarm 0x0A 0 0)
  else s

/-- The shedding request. -/
def State.shedEval (s : State) : State :=
  if s.flag THM.STATUS_SHED_REQ then (if s.tj ≤ s.shedLim - 24 then s.off THM.STATUS_SHED_REQ else s)
  else if s.shedLim ≤ s.tj then
    let t := (s.on THM.STATUS_SHED_REQ).on THM.STATUS_SHED
    { t with pwr := { t.pwr with shedFirst := true } }
  else s

/-- The hard trip at 110 °C (R289): every gate closes, TRIPPED and TRIP are set, and the power controller drops the way to Run.
While TRIPPED = 1 a gate that a reset has opened closes again. -/
def State.tripEval (s : State) : State :=
  if s.tj < 880 then s
  else if s.flag THM.STATUS_TRIPPED then
    if (List.finRange 8).all (fun n => (s.sf n).gate.contains 9) then s else s.gateAll 9
  else
    ((((s.setPwr (fun p => { p with laneAsk := false })).gateAll 9).on THM.STATUS_TRIPPED).on THM.STATUS_TRIP).inc
      THM.CNT_TRIP_CNT |>.alarm 0x0B 0 0

/-- MTP_OK: every sensor that is not faulted reads 0 °C to 95 °C, and one is not faulted (R283, Table 13-1). -/
def State.mtpEval (s : State) : State :=
  let ds := (List.range 12).filter (fun d => !s.dsFault d)
  s.setB THM.STATUS_MTP_OK (!ds.isEmpty && ds.all (fun d => decide (0 ≤ s.geti (THM.OD_TEMP d)) && decide (s.geti (THM.OD_TEMP d) ≤ 760)))

/-- Tj and everything that is compared with it. -/
def State.tjEval (s : State) : State :=
  let t := (s.set THM.TJ_TJ (ucode 16 s.tj)).setIf (decide (s.geti THM.TJ_TJ_PEAK < s.tj)) THM.TJ_TJ_PEAK (ucode 16 s.tj)
  t.warnEval.shedEval.mtpEval.tripEval

/-- A new on-die reading (R283, R284, R288): the limits act on it, CAL looks at the lanes it is the sensor of (R154), and
Spar's THM event is raised (R270). -/
def State.thmReading (s : State) (d : Nat) (t : Int) : State :=
  if !s.awake then s
  else
    let u := (s.dsRecord d t).tjEval
    (u.each ((List.finRange 8).filter (fun n => u.laneSensor n == d)) (fun n v => v.calTemp n)).sprEvent 4

/-- The system slots on the diode of DSd whose results are there (R285). -/
def State.diodeSlots (s : State) (d : Nat) : List SndSlot :=
  (s.snd.out.map (·.1)).filter (fun q => q.input == 0x40 + d)

/-- The cross-check of the next sensor in the rotation, DSd, against a Sonde slot on its diode, which reads `t` (R285). -/
def State.crossCheck (s : State) (t : Int) : State :=
  let d := s.thm.next
  if !s.awake || (s.diodeSlots d).isEmpty then s
  else
    let bad := decide (24 < (s.geti (THM.OD_TEMP d) - t).natAbs)
    let u := { s with thm := { s.thm with diff := s.thm.diff.set d bad, next := (d + 1) % 12 } }.slotsTaken (s.diodeSlots d)
    if !bad then u
    else
      let v := u.inc THM.CNT_XCHK_CNT
      if s.thm.diff.getD d false && !s.dsFault d then
        ((((v.setBit THM.STATUS_OD_FAULT d true).on (THM.OD_FAULT d)).on THM.STATUS_SENSOR_FAULT).alarm 0x0D d 0).tjEval
      else v

/-- TRIP_REL (R289): a closing cause of the gates ends with TRIPPED (R480). -/
def State.tripRelease (s : State) : State :=
  if s.flag THM.STATUS_TRIPPED && decide (s.tj ≤ s.warnLim - 16) then
    ((s.off THM.STATUS_TRIPPED).gateEndAll 9).alarmEnd 0x0B 0
  else s

/-! ## External channels (R286 to R288) -/

/-- THM_EXT of channel `c` is due: read, named by no lane and outside its window. -/
def State.extAlarmed (s : State) (c : Nat) : Bool :=
  s.flag (THM.EXT_CFG_EN c) && s.get (THM.EXT_CFG_LANES c) == 0 && s.flag (THM.EXT_STATUS_OUT_WIN c)

/-- LASER_BAN: lane `n` is named by a channel that is outside its window. -/
def State.banned (s : State) (n : Nat) : Bool :=
  (List.range 8).any (fun c => s.bitOf (THM.EXT_CFG_LANES c) n && s.flag (THM.EXT_STATUS_OUT_WIN c))

/-- After a change `f` of channel `c`: its alarm, the bans and the ports follow. -/
def State.extChange (s : State) (c : Nat) (f : State → State) : State :=
  let t := f s
  let u := t.set THM.STATUS_LASER_BAN ((List.range 8).foldl (fun v n => v + (t.banned n).toNat * 2 ^ n) 0)
  let v := if t.extAlarmed c && !s.extAlarmed c then u.alarm 0x0C c 0
           else if s.extAlarmed c && !t.extAlarmed c then u.alarmEnd 0x0C c else u
  v.portsEval

/-- LANES or EN of channel `c` is written (R288): a channel that is not read counts as outside its window where LANES
names a lane, and one that is FAULT counts as outside and is read at 200 Hz (R287). -/
def State.extCfg (s : State) (c lanes : Nat) (en : Bool) : State :=
  s.extChange c (fun t =>
    let u := (t.set (THM.EXT_CFG_LANES c) lanes).setB (THM.EXT_CFG_EN c) en
    let fault := s.flag (THM.EXT_STATUS_FAULT c)
    if !en then (u.setB (THM.EXT_STATUS_OUT_WIN c) (lanes != 0 || fault)).off (THM.EXT_STATUS_FAST c)
    else if fault then (u.on (THM.EXT_STATUS_OUT_WIN c)).on (THM.EXT_STATUS_FAST c)
    else u)

/-- MARGIN in force (Table 13-2). -/
def State.margin (s : State) : Int := clampN 0x08 0x80 (s.get THM.CTRL_MARGIN)

/-- FAST of channel `c` after reading `t` (R287); a reading outside the window counts as within MARGIN of its edge. -/
def State.extFast (s : State) (c : Nat) (t : Int) (fault : Bool) : State :=
  let lo := s.geti (THM.EXT_WIN_LO c)
  let hi := s.geti (THM.EXT_WIN_HI c)
  let near := decide (t ≤ lo + s.margin) || decide (hi - s.margin ≤ t)
  let calm := decide (lo + s.margin + 8 < t) && decide (t < hi - s.margin - 8) && !fault
  let k := if calm then s.thm.calm.getD c 0 + 1 else 0
  let u := { s with thm := { s.thm with calm := s.thm.calm.set c k } }
  if fault || near then u.on (THM.EXT_STATUS_FAST c)
  else if 200 ≤ k then u.off (THM.EXT_STATUS_FAST c)
  else u

/-- OUT_WIN of channel `c` after reading `t` (Table 13-1). -/
def State.extWindow (s : State) (c : Nat) (t : Int) (fault : Bool) : State :=
  let lo := s.geti (THM.EXT_WIN_LO c)
  let hi := s.geti (THM.EXT_WIN_HI c)
  if fault || decide (t < lo) || decide (hi < t) then s.on (THM.EXT_STATUS_OUT_WIN c)
  else if lo + 8 ≤ t ∧ t ≤ hi - 8 then s.off (THM.EXT_STATUS_OUT_WIN c)
  else s

/-- The system slots of a reading of external channel `c` (R286): a remote diode at 10 µA and at 100 µA, a thermistor once. -/
def extSlots (c : Nat) : List SndSlot :=
  if c < 4 then [⟨0x60 + c, 3, 2, 50, 0, 10⟩, ⟨0x60 + c, 3, 2, 50, 0, 100⟩] else [⟨0x60 + c, 0, 2, 20, 0, 0⟩]

/-- What the slots of channel `c` have read, once all have: of a remote diode ΔV in volts, of a thermistor the ratio `num / den`,
which the spec does not derive from the result (log 202). -/
def State.extMeasured (s : State) (c : Nat) (num : Int) (den : Nat) : Option (Int × Nat) :=
  match (extSlots c).map s.slotRead with
  | [some a, some b] => some (5 * (b - a), 4 * 2 ^ 26)
  | [some _] => some (num, den)
  | _ => none

/-- A channel is read at 10 Hz, and at 200 Hz while FAST (R287): its period in microseconds. -/
def State.extPeriod (s : State) (c : Nat) : Nat := if s.flag (THM.EXT_STATUS_FAST c) then 5000 else 100000

/-- A measurement of external channel `c` is converted and judged (R286 to R288). A temperature that the formula does not give, or
that the register cannot hold, is not stated. -/
def State.extJudge (s : State) (c : Nat) (num : Int) (den : Nat) : State :=
  let conv := s.get (THM.EXT_CONV_CONV c)
  let t : Int := match (if c < 4 then rdTemp conv num den else thTemp conv num den) with
    | some p => s.quot 9 p.1 p.2
    | none => sext 16 (s.drawn 9 16)
  let x := if -32768 ≤ t ∧ t ≤ 32767 then t else sext 16 (s.drawn 9 16)
  let fault := decide (t < -480) || decide (1200 < t)
  let u := (s.seti (THM.EXT_STATUS_TEMP c) x).setB (THM.EXT_STATUS_FAULT c) fault
  let v := if fault && !s.flag (THM.EXT_STATUS_FAULT c) then (u.on THM.STATUS_SENSOR_FAULT).alarm 0x0D (0x10 + c) 0 else u
  (v.extChange c (fun w => (w.extFast c t fault).extWindow c t fault)).drew

/-- A reading of external channel `c`, `us` after the one before. -/
def State.extReading (s : State) (c us : Nat) (num : Int) (den : Nat) : State :=
  if !s.awake || !s.flag (THM.EXT_CFG_EN c) || decide (us < s.extPeriod c) then s
  else
    match s.extMeasured c num den with
    | none => s
    | some m => (s.slotsTaken (extSlots c)).extJudge c m.1 m.2

/-- THM_CMD.CNT_CLR clears THM_CNT but TRIP_CNT (Table 13-3). -/
def State.thmCntClr (s : State) : State := (s.off THM.CNT_WARN_CNT).off THM.CNT_XCHK_CNT

/-- PEAK_CLR (Table 13-3). -/
def State.peakClr (s : State) : State := s.set THM.TJ_TJ_PEAK (s.get THM.TJ_TJ)

end Sys2Proof.Machine
end

