-- ==== Sys2Proof/Machine/PwrOps.lean ====
section
/-!
DEFINITION. The power controller (chapter 15): retention (Table 16-2), wake steps and wake sources, sleep entries and
their refusals, the brace, and the Ballast ladder.
-/

namespace Sys2Proof.Machine

open Sys2Proof

/-! ## Retention (R341, Table 16-2) -/

/-- The Bridle address a stored key belongs to; copies of indirect pairs belong to their pair (R366). -/
def keyAddr (k : Nat) : Nat := k / 32 % 2 ^ 40

/-- The retention class of a stored field. -/
def keyRet (k : Nat) : Ret := retentionOf (keyAddr k * 32 + k % 32)

/-- The fields that `p` names by address and class return to their reset values. -/
def State.clearRegs (s : State) (p : Nat → Ret → Bool) : State :=
  { s with regs := s.regs.filter (fun kv => !p (keyAddr kv.1) (keyRet kv.1)) }

/-- The address lies in the blocks of line lane `n`: LNn, KLn and the words behind its pairs. -/
def laneBlock (n a : Nat) : Bool :=
  (decide (0x100000 + 0x10000 * n ≤ a) && decide (a < 0x110000 + 0x10000 * n)) ||
    (decide (0x1C0000 + 0x1000 * n ≤ a) && decide (a < 0x1C1000 + 0x1000 * n)) ||
    (decide (0x100000000 ≤ a) && decide (a < 0x100300000) && a / 0x10000 % 0x10 == n)

/-- The address lies in the block of host lane `j` or behind its pair. -/
def hostBlock (j a : Nat) : Bool :=
  (decide (0x180000 + 0x4000 * j ≤ a) && decide (a < 0x184000 + 0x4000 * j)) ||
    (decide (0x100300000 ≤ a) && decide (a < 0x100310000) && (a - 0x100300000) / 0x1000 == j)

/-- The address lies in PORTk. -/
def portBlock (k a : Nat) : Bool := decide (0x31000 + 0x20 * k ≤ a) && decide (a < 0x31020 + 0x20 * k)

/-- What lane and port resets clear of a class list. -/
def lnVo (r : Ret) : Bool := r == .ln || r == .vo
def ptLnVo (r : Ret) : Bool := r == .pt || r == .ln || r == .vo

/-- A line lane's state outside its registers after its LN and VO classes are cleared: Off. The counts and stops of R153
end with them; which sets have changed, the slice next in order, and the peaking in force, of class DV, stay (R340, R41). -/
def LineSt.cleared (l : LineSt) : LineSt :=
  { cal := { changed := l.cal.changed, next := l.cal.next }, rx := { peak := l.rx.peak } }

/-- A line lane with its kite line is cleared (R340); the held fields, of class DV, stand as they are written; the conditions
of its stateful alarms are over. DESIGN CHOICE
(log 152): the holding registers of its link statistics, in LST, stay, while the live counters restart. -/
def State.laneCleared (s : State) (n : Lane) : State :=
  let t := (s.clearRegs (fun a r => laneBlock n a && lnVo r)).each [0x01, 0x02, 0x03, 0x07] (fun id u => u.alarmEnd id n)
  State.laneHeld { (t.setLn n (t.ln n).cleared) with kite := vset t.kite n {}, txpll := vset t.txpll n .refclk, cap := vset t.cap n {} } n

/-- A host lane is cleared (R340). -/
def State.hostCleared (s : State) (j : Host) : State :=
  let t := s.clearRegs (fun a r => hostBlock j a && lnVo r)
  { (t.setHl j (fun _ => {})) with htpll := vset t.htpll j .refclk }

/-- A port with its line, host and kite lanes is cleared of PT, LN and VO (R340). -/
def State.portCleared (s : State) (k : PortId) : State :=
  let hs := (s.lanesOf k).flatMap s.hostsOf
  let ls := s.lanesOf k
  let t := s.clearRegs (fun a r => (portBlock k a || ls.any (fun n => laneBlock n.val a) || hs.any (fun j => hostBlock j.val a)) && ptLnVo r)
  let u := (t.each ls (fun n u => u.laneCleared n)).each hs (fun j u => u.hostCleared j)
  u.setPt k (fun p => { defined := p.defined, lanes := p.lanes, twoPass := p.twoPass, staged := p.staged })

/-- Run to Doze: PT, LN and VO of all ports and lanes (Table 16-2). -/
def State.lanesCleared (s : State) : State :=
  let t := s.clearRegs (fun a r => ((List.range 8).any (fun k => portBlock k a || laneBlock k a) || (List.range 16).any (fun j => hostBlock j a)) && ptLnVo r)
  let u := (t.each (List.finRange 8) (fun n u => u.laneCleared n)).each (List.finRange 16) (fun j u => u.hostCleared j)
  u.each (List.finRange 8) (fun k v => v.setPt k (fun p =>
    { defined := p.defined, lanes := p.lanes, twoPass := p.twoPass, staged := p.staged }))

/-- Nap of a port clears VO of that port (Table 16-2); its STATE reads NAP (R200). -/
def State.napVo (s : State) (k : PortId) : State :=
  let hs := (s.lanesOf k).flatMap s.hostsOf
  let ls := s.lanesOf k
  let t := s.clearRegs (fun a r => r == .vo &&
    (portBlock k a || ls.any (fun n => laneBlock n.val a) || hs.any (fun j => hostBlock j.val a)))
  (t.set (PORT.STATUS_STATE k) (s.pstate k)).each ls (fun n v => v.setKl n (fun x => { x with rx := none }))

/-- The levels of TX_DISABLE, LASER_CLR_N and MPD_IN show in SAF_STATUS; the pins outlive every class. -/
def State.pinsShow (s : State) : State :=
  (((s.set SAF.STATUS_TXD_NOW s.saf.txd).setB SAF.STATUS_CLR_PIN_NOW s.saf.clrPin).setB SAF.STATUS_SUPPLY_NOW
    s.saf.supplyOut).each (List.finRange 8) (fun n t => t.cmpShow n)

/-- Shelf entry and every device-level reset clear DV, PT, LN and VO; POR and PLBOR clear PL too (Table 16-2), but for
what is per device (Tables 22-6 and 22-7). What the units hold beside their registers goes with their power; flash, OTP,
MTP, pins and straps stay. -/
def State.classesCleared (s : State) (pl : Bool) : State :=
  let keep (a : Nat) (r : Ret) : Bool := r == .pl && (!pl || decide (a < 0x14) || (decide (0xF0010 ≤ a) && decide (a < 0xF2000)))
  let t : State := { variant := s.variant, now := if pl then 0 else s.now, fresh := s.fresh, pending := s.pending, tokens := [] }
  let u : State := { t with
    regs := s.regs.filter (fun kv => keep (keyAddr kv.1) (keyRet kv.1))
    str := { mtpCkpt := s.str.mtpCkpt, mtpOrderly := s.str.mtpOrderly }
    tth := { strapAnchor := s.tth.strapAnchor, strapId := s.tth.strapId, strapAddr := s.tth.strapAddr }
    mgt := { allowHW := pl || s.mgt.allowHW }
    sec := { keys := s.sec.keys, seed := s.sec.seed, jtag := s.sec.jtag }
    saf := s.saf.pins
    flash := s.flash
    pwr := { s.pwr with laneAsk := false, laneStall := false, sleeps := [], packed := false, rungs := [], passed := none } }
  u.pinsShow

/-! ## Regulator enables (R317) -/

/-- REG_EN[5:0] by the device state and the step in progress (Table 15-3). -/
def State.regEn (s : State) : Nat :=
  let qdr := s.variant && s.flag PWR.CTRL_QDR_EN
  let core := 1 + (if s.flag PWR.CTRL_AUX_WITH_CORE then 32 else 0)
  let up (st : Nat) : Nat := (if 1 ≤ st then core else 0) + (if 2 ≤ st then 8 else 0) + (if 3 ≤ st ∧ qdr then 16 else 0)
  match s.pwr.dev with
  | .off => 0
  | .shelf => 0
  | .waking st => up st
  | .doze => up 7 + (if s.pwr.laneAsk then 6 else 0)
  | .run => up 7 + 6

/-! ## The wake sequence (R318) -/

/-- The last-wake record (R321). -/
def State.lastWake (s : State) (src det : Nat) (race asleep : Bool) : State :=
  ((((s.set PWR.LAST_WAKE_SOURCE src).set PWR.LAST_WAKE_DETAIL det).setB PWR.LAST_WAKE_RACE race).setB
    PWR.LAST_WAKE_ASLEEP asleep).stamp PWR.LAST_WAKE1_TIME_LO PWR.LAST_WAKE2_TIME_HI

/-- The sequence starts with step PG_CORE. -/
def State.wakeBegin (s : State) (src det : Nat) : State :=
  (s.lastWake src det false true).setPwr (fun p =>
    { p with dev := .waking 1, second := false, retry := false, source := src, detail := det })

/-- The ready signal of step `st` arrives, and the next step starts; step PG_QDR only where the port is enabled. -/
def State.wakeStep (s : State) (st : Nat) : State :=
  if s.pwr.dev = .waking st then
    s.setPwr (fun p => { p with dev := .waking (if st = 2 ∧ ¬ (s.variant = true ∧ s.flag PWR.CTRL_QDR_EN = true) then 4 else st + 1) })
  else s

/-- The timeout of a wake step, in microseconds (Table 15-3). -/
def State.stepUs (s : State) (st : Nat) : Nat :=
  if st = 4 then 2000 else if st = 5 ∨ st = 6 then 1000 else msUs 1 (s.get PWR.SEQ_SEQ_TMO)

/-- The wake step in progress; 7 is PG_LANE. -/
def State.stepNow (s : State) : Nat := match s.pwr.dev with | .waking st => st | _ => 7

/-- A ready signal is still missing `us` after the step's start (R318): at its timeout the enables fall, the step is
recorded; the sequence is tried once more 100 ms later. A stall in PG_LANE leaves the device in Doze. -/
def State.wakeStall (s : State) (us : Nat) : State :=
  if us < s.stepUs s.stepNow then s else
  let note (t : State) (st : Nat) : State :=
    (((t.set PWR.STALL_STEP st).inc PWR.STALL_STALL_CNT).on PWR.STATUS_WAKE_STALL).setPwr (fun p => { p with stalled := some st })
  match s.pwr.dev with
  | .waking st => (note s st).setPwr (fun p => { p with dev := .shelf, retry := !s.pwr.second, second := s.pwr.second })
  | .doze => if s.pwr.laneAsk then (note s 7).setPwr (fun p => { p with laneAsk := false, laneStall := true }) else s
  | _ => s

/-- 100 ms after a stall the sequence is tried once more. -/
def State.wakeRetry (s : State) : State :=
  if s.pwr.dev = .shelf ∧ s.pwr.retry = true ∧ s.pwr.resetLow = false then
    s.setPwr (fun p => { p with dev := .waking 1, retry := false, second := true })
  else s

/-- A wake completes: a stall before it is alarmed (R318). -/
def State.stallAlarm (s : State) : State :=
  match s.pwr.stalled with
  | some st => (s.alarm 0x1A st 0).setPwr (fun p => { p with stalled := none })
  | none => s

/-! ## Sleep entries (R322 to R324) -/

/-- The line lanes whose domains an entry powers down. -/
def State.sleepLanes (s : State) : SleepKind → List Lane
  | .nap k => s.lanesOf k
  | _ => List.finRange 8

/-- LOC of a lane is quiescent: no tagged message awaits acknowledgement (Table 15-5). -/
def State.locQuiet (s : State) (n : Lane) : Bool := (s.ln n).loc.txq.isEmpty

/-- A user that refuses at once (Table 15-5), by its LAST_REFUSER code: CAL, the kite transmitter, a proof test or a latch on a
lane whose domain is to power down, a self-test. A trip is not refused (R289). -/
def State.refuser (s : State) (k : SleepKind) : Option Nat :=
  let ls := s.sleepLanes k
  if s.flag THM.STATUS_TRIPPED && k == .doze then none
  else if ls.any s.calBusy then some 1
  else if ls.any (fun n => (s.kite.get n).tx.isSome) then some 3
  else if ls.any (fun n => (s.sf n).test.isSome || s.bitOf SAF.STATUS_LATCH n) then some 4
  else if s.flag TST.STATUS_ENG_BUSY then some 7
  else none

/-- The device counter of a refuser (Table 15-9). -/
def refuseCnt (code : Nat) : Field := if code ≤ 4 then PWR.REFUSE_CNT0_C (code - 1) else PWR.REFUSE_CNT1_C (code - 5)

/-- A refusal is recorded (R324): LAST_REFUSER at each attempt, the counts once per request. Only a port's lanes have
lane records. -/
def State.refuseNote (s : State) (q : SleepReq) (code : Nat) : State :=
  let t := if q.counted.contains code then s else s.inc (refuseCnt code)
  let u := match q.kind with
    | .nap k => t.onLanes k (fun n u =>
        (if q.counted.isEmpty then u.inc (PWR.LANE_REFUSE_COUNT n) else u).set (PWR.LANE_REFUSE_LAST_REFUSER n) code)
    | _ => t
  u.setSleep q.kind (fun r => { r with counted := code :: r.counted })

/-- The preparation of an entry is undone (R322): demand is judged again, CAL and Reel are released, ports that Shelf
held DOWN may rise. A Packdown is abandoned (R455). -/
def State.sleepUndo (s : State) (k : SleepKind) : State :=
  let t := (s.setSleep k (fun q => { q with asked := false, granted := false })).reelRelease
  match k with
  | .nap p => (t.setPt p (fun x => { x with napReq := false })).onLanes p (fun n u =>
      (u.setCal n (fun c => { c with quiesced := false })).demandEval n)
  | .doze => t
  | .shelf =>
    let u := t.setPwr (fun x => { x with packed := false })
    if u.sec.slice.isSome || s.pwr.packed then { u with sec := { u.sec with abandon := true } } else u

/-- Shelf entry refused leaves the device in Doze (R319). -/
def State.dozeCommit (s : State) : State := (s.reelRelease.lanesCleared).setPwr (fun p => { p with dev := .doze, laneAsk := false })

/-- A rung is held: LEVEL and SHED_CNT, and LONG_CNT for one that the brace has pressed (R330, R335). -/
def State.rungHold (s : State) (r : Rung) (brace : Bool) : State :=
  let t := s.setPwr (fun p => { p with rungs := r :: p.rungs })
  let u := (t.inc PWR.BAL_CNT_SHED_CNT).set PWR.STATUS_LEVEL t.pwr.rungs.length
  if brace then u.inc PWR.BROWN_LONG_CNT else u

/-- The port of a Nap rung that is passed over is the first one tried at the next press (R332). -/
def State.rungPassed (s : State) (k : SleepKind) : State :=
  (s.setSleep k (fun q => { q with rung := none })).setPwr (fun p => match k with
    | .nap x => { p with passed := match p.passed with | some y => some y | none => some x }
    | _ => p)

/-- An attempt is refused (R322 to R324). A mailbox command that awaits the entry completes with the refuser. A request of
a bit or a pin stays pending; one of a mailbox command, and a request of Ballast or of the controller's own is over. -/
def State.sleepRefuse (s : State) (k : SleepKind) (code : Nat) : State :=
  match s.sleepReq k with
  | none => s
  | some q =>
    let t := (s.refuseNote q code).sleepUndo k
    let v := (if k == .shelf && t.pwr.dev == .run then t.dozeCommit else t).sleepTell k (0x10 + code)
    let u := if q.rung.isSome then v.rungPassed k else v
    match q.src with
    | .bit => u
    | .pin => u
    | .mailbox => (u.dropSleep k).portsEval
    | .ballast => u.dropSleep k

/-- An entry is granted: a Nap goes on with R200, Shelf answers its mailbox command before the enables fall. A Nap rung
of Ballast is held from here on. -/
def State.sleepGrant (s : State) (k : SleepKind) : State :=
  match s.sleepReq k with
  | none => s
  | some q =>
    let t := s.setSleep k (fun r => { r with granted := true, asked := false })
    match k with
    | .nap p =>
      let u := t.napStart p
      match q.rung with
      | some b => ((u.setSleep k (fun r => { r with rung := none })).setPwr (fun x =>
          { x with passed := if x.passed = some p then none else x.passed })).rungHold (.nap p (q.src == .ballast)) b
      | none => u
    | .doze => t
    | .shelf => t.sleepTell k 0

/-- No lane of a Nap awaits a LOC answer. -/
def State.locsQuiet (s : State) (k : SleepKind) : Bool := match k with | .nap p => s.allLanes p s.locQuiet | _ => true

/-- CAL reports quiescent: on every lane of a Nap the slice of an abandoned slot has returned (R146, R163). -/
def State.calQuiet (s : State) (k : SleepKind) : Bool :=
  match k with | .nap p => s.allLanes p (fun n => !(s.ln n).rx.abandPend) | _ => true

/-- The users that may be waited for have answered: Reel's bursts are done, no lane of a Nap awaits a LOC answer, and CAL is
quiescent. -/
def State.sleepQuiet (s : State) (k : SleepKind) : Bool :=
  s.reelQuiet (s.sleepDomain k) && s.locsQuiet k && s.calQuiet k

/-- Every port is DOWN with its modulation at 0. -/
def State.allDown (s : State) : Bool :=
  (List.finRange 8).all (fun k => s.pstate k == 0) &&
    (List.finRange 8).all (fun n => s.get (LN.TX_STATUS_AMP_STATE n) == 0)

/-- The users of a domain are asked to quiesce (R323): those that refuse at once do, CAL and Reel quiesce, and the entry is
granted as soon as every answer is there. A port that is DOWN, or that sleeps already, has nothing to enter, nor has Doze
once a port has left DOWN; Shelf asks Reel only after Packdown (R319) and not under the brace. -/
def State.sleepTry (s : State) (k : SleepKind) : State :=
  match s.sleepReq k with
  | none => s
  | some q =>
    let gone := match k with
      | .nap p => s.pstate p == 0 || s.pstate p == 7
      | .doze => !s.allDown
      | .shelf => false
    if gone then ((if k == .doze then s.sleepUndo k else s).sleepTell k 8).dropSleep k
    else if s.braced && (q.hold || k == .shelf) || k == .shelf && !s.pwr.packed then s
    else if q.granted then (match k with | .nap p => if (s.pt p).napReq then s else s.napStart p | _ => s)
    else
      match s.refuser k with
      | some c => s.sleepRefuse k c
      | none =>
        let t := (s.setSleep k (fun r => { r with asked := true })).reelQuiesce (s.sleepDomain k)
        let u := match k with | .nap p => t.onLanes p (fun n v => v.calQuiesce n) | _ => t
        if u.sleepQuiet k then u.sleepGrant k else u

/-- A Nap of port `k` is requested (R200), of Ballast for a rung. Requests merge with one that is under way. -/
def State.napAsk (s : State) (k : PortId) (src : SleepSrc) (rung : Option Bool := none) : State :=
  if s.pwr.dev ≠ .run ∨ s.pstate k = 0 ∨ s.pstate k = 7 ∨ (s.sleepReq (.nap k)).isSome = true then s
  else (s.setPwr (fun p => { p with sleeps := p.sleeps ++ [{ kind := .nap k, src := src, rung := rung }] })).sleepTry (.nap k)

/-- The port of a lane that has finished its start is judged. A Nap asked for by NAP = 1 in DOWN, which accepts none, is a
request from the state the port reaches (R199, R200). -/
def State.startedEval (s : State) (n : Lane) : State :=
  match s.portOf n with
  | none => s
  | some k =>
    let t := s.portEval k
    if s.pstate k = 0 ∧ t.pstate k ≠ 0 ∧ t.flag (PORT.CTRL_NAP k) = true then t.napAsk k .bit else t

/-- A request of a port's Nap is withdrawn, and what has been prepared is undone. -/
def State.napDrop (s : State) (k : PortId) : State :=
  if (s.sleepReq (.nap k)).isSome then (s.sleepUndo (.nap k)).dropSleep (.nap k) else s

/-- NAP = 0 is written (R200 to R202): a pending request is withdrawn, a napping port wakes, and Reel goes on. -/
def State.wakeAsk (s : State) (k : PortId) : State :=
  let t := (s.off (PORT.CTRL_NAP k)).napDrop k
  if t.pstate k = 7 then (t.wakeStart k).reelRelease else t

/-- A Nap entry commits (R200), in a brace as well: only the start of one prevails over a commit (R328). -/
def State.napDone (s : State) (k : PortId) : State :=
  if !(s.pt k).napReq then s
  else
    let t := s.napCommit k
    if t.pstate k = 7 then
      ((t.sleepTell (.nap k) 0).dropSleep (.nap k)).napVo k
    else t

/-- Shelf entry is requested (R319): every port is taken to DOWN with DOWN_CAUSE 0x1; a self-test in progress refuses the
entry. -/
def State.shelfAsk (s : State) (src : SleepSrc) : State :=
  if !s.awake || s.shelving then s
  else
    let t := s.setPwr (fun p => { p with sleeps := p.sleeps ++ [{ kind := .shelf, src := src }], packed := false })
    let d := t.each (List.finRange 8) (fun k u =>
      let v := (u.napDrop k)
      if (v.pt k).defined && v.pstate k != 0 then v.portDown k 1 else v.onLanes k (fun n w => w.calAbort n))
    if d.flag TST.STATUS_ENG_BUSY then d.sleepRefuse .shelf 7 else d

/-- The quiesce time is over (R323): Reel refuses, or is aborted under QUIESCE_POLICY = 1 and always for Ballast and a
trip; LOC refuses. CAL, which does not refuse on time, is waited for. -/
def State.quiesceLate (s : State) (k : SleepKind) : State :=
  match s.sleepReq k with
  | none => s
  | some q =>
    if !q.asked then s
    else if !s.reelQuiet (s.sleepDomain k) then
      if s.flag PWR.CTRL_QUIESCE_POLICY || q.src == .ballast || s.flag THM.STATUS_TRIPPED then
        let t := s.reelAbort (s.sleepDomain k)
        if t.sleepQuiet k then t.sleepGrant k else t
      else s.sleepRefuse k 2
    else if !s.locsQuiet k then s.sleepRefuse k 6
    else if s.calQuiet k then s.sleepGrant k
    else s

/-! ## Nap rungs of Ballast (R330 to R332) -/

/-- The port has a Nap rung that is held, or being asked for. -/
def State.napRungOf (s : State) (k : PortId) : Bool :=
  s.pwr.rungs.any (fun r => match r with | .nap x _ => x == k | _ => false) || (s.sleepReq (.nap k)).any (fun q => q.rung.isSome)

/-- The ports a Nap rung may take, in order (R330, R332): the port passed over first, then by NAP_PRIO and number. -/
def State.napOrder (s : State) : List PortId :=
  let cand : List PortId := (List.finRange 8).filter (fun (k : PortId) =>
    (s.pt k).defined && s.get (PWR.NAP_PRIO_P k.val) != 0xF && !s.napRungOf k)
  let sorted : List PortId := (List.range 15).flatMap (fun p => cand.filter (fun (k : PortId) => s.get (PWR.NAP_PRIO_P k.val) == p))
  match s.pwr.passed with
  | some k => if sorted.contains k then k :: sorted.filter (· != k) else sorted
  | none => sorted

/-- A Nap rung asks for one port: one that is DOWN, sleeps already or enters Nap changes nothing and counts as held; a request
of its host that is pending is tried for the rung. -/
def State.rungAsk (s : State) (k : PortId) (brace : Bool) : State :=
  if s.pstate k = 0 ∨ s.pstate k = 7 then s.rungHold (.nap k false) brace
  else
    match s.sleepReq (.nap k) with
    | none => s.napAsk k .ballast (some brace)
    | some q =>
      if q.granted then s.rungHold (.nap k false) brace
      else (s.setSleep (.nap k) (fun r => { r with rung := some brace })).sleepTry (.nap k)

/-- A Nap rung: the ports are tried in order until one is held or is being asked (R332); with no port left LADDER_END is
set. -/
def State.napRung (s : State) (brace : Bool) (ps : List PortId) : State :=
  match ps with
  | [] => s.on PWR.STATUS_LADDER_END
  | k :: rest =>
    let t := s.rungAsk k brace
    if t.napRungOf k then t else t.napRung brace rest

/-- From `s` to `t` a port of a Nap rung may have refused: the rung goes on with the next port in order (R332). -/
def State.rungNext (s t : State) (k : SleepKind) : State :=
  match k, s.sleepReq k with
  | .nap p, some q =>
    match q.rung with
    | some b => if t.napRungOf p then t else t.napRung b ((t.napOrder.filter (· != p)))
    | none => t
  | _, _ => t

/-- The users of an entry are asked; a Nap rung that is refused goes on (R332). -/
def State.quiesceAsk (s : State) (k : SleepKind) : State := s.rungNext (s.sleepTry k) k

/-- The quiesce time of an entry is over; a Nap rung that is refused goes on (R332). -/
def State.quiesceEnd (s : State) (k : SleepKind) : State := s.rungNext (s.quiesceLate k) k

/-! ## Wake sources (R320 to R322) -/

/-- A wake source fires against sleep entries not yet committed: all of them are refused with WAKE_RACE, and a
Nap rung goes on with the next port (R324, R332). -/
def State.wakeRace (s : State) : State :=
  let t := s.each s.pwr.sleeps (fun q t => t.sleepRefuse q.kind 5)
  t.each s.pwr.sleeps (fun q u => s.rungNext u q.kind)

/-- The wake source of PWR_WAKE_EN bit `b` fires with its detail (R320, Table 15-4). -/
def State.wakeFire (s : State) (b det : Nat) : State :=
  if !s.bitOf PWR.WAKE_EN_EN b then s
  else if s.pwr.dev = .shelf then (if s.pwr.resetLow then s else s.wakeBegin (b + 2) det)
  else if s.awake then
    let race := !s.pwr.sleeps.isEmpty
    (if race then s.wakeRace else s).lastWake (b + 2) det race false
  else s

/-- TIMER (R320): armed, and the powered time has reached the value; it fires once and disarms. -/
def State.wakeTimer (s : State) : State :=
  if s.flag PWR.TIMER1_ARMED && s.bitOf PWR.WAKE_EN_EN 7 &&
      decide (s.get PWR.TIMER_WAKE_AT + 2 ^ 32 * s.get PWR.TIMER1_WAKE_AT_HI ≤ s.now) then
    (s.off PWR.TIMER1_ARMED).wakeFire 7 0
  else s

/-- WAKE_AT_HI is written: TIMER is armed (R320). -/
def State.wakeAtHi (s : State) (v : Nat) : State := (s.set PWR.TIMER1_WAKE_AT_HI v).on PWR.TIMER1_ARMED

/-- LPMODE rises: Shelf is requested while LPMODE_EN = 1 (R319). -/
def State.lpRise (s : State) : State :=
  let t := s.setPwr (fun p => { p with lpmode := true })
  if t.flag PWR.CTRL_LPMODE_EN then t.shelfAsk .pin else t

/-- LPMODE falls: a request of the pin is withdrawn, and the LPMODE source fires (R320, R324). -/
def State.lpFall (s : State) : State :=
  let t := (s.setPwr (fun p => { p with lpmode := false })).wakeFire 2 0
  if (t.sleepReq .shelf).any (fun q => q.src == .pin) then ((t.sleepUndo .shelf).dropSleep .shelf).portsEval else t

/-! ## Run and Doze (R316) -/

/-- The device is asked to fall from Run to Doze, `us` after every port is DOWN: once DOZE_HOLD has passed, or on a trip
(R316). -/
def State.dozeAsk (s : State) (us : Nat) : State :=
  if s.pwr.dev ≠ .run then s
  else if s.allDown = false then s.sleepTry .doze
  else if !s.flag THM.STATUS_TRIPPED && decide (us < msUs 0 (s.get PWR.SEQ_DOZE_HOLD)) then s
  else
    let t := if (s.sleepReq .doze).isSome then s
      else s.setPwr (fun p => { p with sleeps := p.sleeps ++ [{ kind := .doze, src := .bit }] })
    let u := t.sleepTry .doze
    if (u.sleepReq .doze).any (fun q => q.granted) then (u.dropSleep .doze).dozeCommit else u

/-! ## Brownout (R325 to R329) -/

/-- An entry whose commit cycle falls with the start of a brace is undone without a refuser count, and waits (R328). -/
def State.braceUndo (s : State) (k : SleepKind) : State :=
  if (s.sleepReq k).any (fun q => q.granted) then (s.sleepUndo k).setSleep k (fun q => { q with hold := true }) else s

/-- The brace begins (R326): announced DAC steps are cancelled and kite transmissions stop; a self-test slice is hit. `commit`
is a sleep entry whose commit cycle falls in the same cycle. -/
def State.braceStart (s : State) (commit : Option SleepKind) : State :=
  if !s.awake || s.braced then s
  else
    let s := match commit with | some k => s.braceUndo k | none => s
    let t := (((s.inc PWR.BROWN_DIP_COUNT).each (List.finRange 8) (fun n t => t.injPass (biasChan n))).on
      PWR.STATUS_BRACE_NOW).each (List.finRange 8) (fun n t =>
      ((t.dacCancel n).kiteAbort n).setCal n (fun c => { c with winDirty := true }))
    if t.sec.slice.isSome then { t with sec := { t.sec with hit := true } } else t

/-- The brace ends after `us`, and is logged (R326, Table 20-9); starts that began in it go on (R162), and entries that it
has undone are tried again (R328). -/
def State.braceEnd (s : State) (us : Nat) : State :=
  if !s.braced then s
  else
    let t := (s.off PWR.STATUS_BRACE_NOW).logRecord 4 0 1 (min us 0xFFFFFFFF) (s.get PWR.BROWN_DIP_COUNT) 0 0
    (t.each (List.finRange 8) (fun n u => u.startResume n)).each (s.pwr.sleeps.filter (·.hold)) (fun q u =>
      (u.setSleep q.kind (fun r => { r with hold := false })).quiesceAsk q.kind)

/-! ## Ballast (R330 to R333) -/

/-- The step of a code of PWR_BALLAST.ORDER. -/
def orderStep (c : Nat) : Option ShedStep :=
  match c with | 0 => some .pass | 1 => some .states | 2 => some .volt | _ => none

/-- The mode rungs held. -/
def State.modeRungs (s : State) : Nat := (s.pwr.rungs.filter (fun r => match r with | .mode _ => true | _ => false)).length

/-- The latest cause presses the ladder (R331): 0 THERMAL, 1 BRACE, 2 HOST. -/
def State.presses (s : State) (cause : Nat) : Bool :=
  match cause with
  | 0 => s.flag THM.STATUS_SHED_REQ && decide (s.shedLim ≤ s.geti THM.TJ_TJ)
  | 1 => s.braced
  | _ => decide (s.get PWR.STATUS_LEVEL < s.get PWR.BALLAST_HOST_MIN)

/-- CAUSES (Table 15-6): THERMAL, BRACE, HOST present. -/
def State.causes (s : State) : Nat :=
  s.get THM.STATUS_SHED_REQ + 2 * s.braced.toNat +
    4 * (decide (s.get PWR.STATUS_LEVEL < s.get PWR.BALLAST_HOST_MIN)).toNat

/-- A lane that refused mode rungs still held is asked again (R332). -/
def State.refusedAgain (s : State) : State :=
  s.each (List.finRange 8) (fun n t =>
    if (t.ln n).power = .off then t
    else t.setEq n (fun e => { e with shedAsk := e.shedAsk ++ e.refused, refused := [] }))

/-- A mode rung is shed on every lane that is not Off (R331). -/
def State.modeRung (s : State) (step : ShedStep) (brace : Bool) : State :=
  (s.each (List.finRange 8) (fun n t =>
    if (t.ln n).power = .off then t else t.setEq n (fun e => { e with shedAsk := e.shedAsk ++ [step] }))).rungHold (.mode step) brace

/-- A cause's next press is due, `us` after its last one (R331): the brace every 5 ms, the others at SHED_INT, THERMAL beginning
with the reading that set SHED_REQ. -/
def State.pressDue (s : State) (cause us : Nat) : Bool :=
  if cause = 1 then decide (5000 ≤ us)
  else (cause = 0 && s.pwr.shedFirst) || decide (msUs 1 (s.get PWR.BALLAST_SHED_INT) ≤ us)

/-- One press of the ladder (R331, R332): refusing lanes are tried again, then one rung is shed. -/
def State.ballastPress (s : State) (cause us : Nat) : State :=
  if !s.awake || !s.flag PWR.CTRL_BALLAST_EN || !s.presses cause || !s.pressDue cause us then s
  else
    let t := (if cause = 0 then s.setPwr (fun p => { p with shedFirst := false }) else s).refusedAgain
    match (if t.modeRungs < 3 then orderStep (bits (t.get PWR.BALLAST_ORDER) (2 * t.modeRungs) 2) else none) with
    | some step => t.modeRung step (cause == 1)
    | none => t.napRung (cause == 1) t.napOrder

/-- A mode rung is restored: each lane has its requested setting back (R81, R333). -/
def State.modeRestore (s : State) (step : ShedStep) : State :=
  s.each (List.finRange 8) (fun n t =>
    (t.setBit (LN.EQ_STATUS_SHED_HELD n) step.index false).setEq n (fun e =>
      { e with shedAsk := e.shedAsk.filter (· != step), refused := e.refused.filter (· != step) }))

/-- A BALLAST section is put in force: ORDER and the priorities (Table 16-6). -/
def State.ballastSet (s : State) (b : Nat × List Nat) : State :=
  (s.set PWR.BALLAST_ORDER b.1).each (List.range 8) (fun k t => t.set (PWR.NAP_PRIO_P k) (b.2.getD k 0xF))

/-- A BALLAST section that waits is put in force once LEVEL = 0 (R352). -/
def State.ballastLand (s : State) : State :=
  match s.boot.ballast with
  | some b =>
    if s.get PWR.STATUS_LEVEL = 0 then
      ({ (s.ballastSet b) with boot := { s.boot with ballast := none } }).off CFG.BOOT_BALLAST_PEND
    else s
  | none => s

/-- RESTORE_INT has passed since every cause cleared: the latest rung is restored (R333). -/
def State.ballastRestore (s : State) : State :=
  if !s.awake || !s.flag PWR.CTRL_BALLAST_EN || s.flag THM.STATUS_SHED_REQ || s.braced ||
      decide (s.get PWR.STATUS_LEVEL ≤ s.get PWR.BALLAST_HOST_MIN) then s
  else
    match s.pwr.rungs with
    | [] => s
    | r :: rest =>
      let t := (s.setPwr (fun p => { p with rungs := rest })).set PWR.STATUS_LEVEL rest.length
      match r with
      | .mode step => (t.modeRestore step).ballastLand
      | .nap k acted => (if acted then t.wakeAsk k else t).ballastLand

/-- PWR_CMD.CNT_CLR clears the counters of Tables 15-8 and 15-9 (Table 15-6). -/
def State.pwrCntClr (s : State) : State :=
  let t := (((((s.off PWR.STALL_STALL_CNT).off PWR.BROWN_DIP_COUNT).off PWR.BROWN_LONG_CNT).off PWR.BAL_CNT_SHED_CNT).off
    PWR.BAL_CNT_SHED_REF_CNT)
  let u := (t.each (List.range 4) (fun i v => v.off (PWR.REFUSE_CNT0_C i))).each (List.range 3) (fun i v => v.off (PWR.REFUSE_CNT1_C i))
  u.each (List.range 8) (fun n v => v.off (PWR.LANE_REFUSE_COUNT n))

end Sys2Proof.Machine
end

