-- ==== Sys2Proof/Machine/SecOps.lean ====
section
/-!
DEFINITION. Security (chapter 22): SHAKE256, the measurement chain, tokens and the checks of Table 22-2, life-cycle and
keys.
-/

namespace Sys2Proof.Machine

open Sys2Proof

/-! ## SHAKE256 (FIPS 202), which R347 and R451 name -/

/-- The rotation of lane `x + 5 · y`. -/
def keccakRot : List Nat :=
  [0, 1, 62, 28, 27, 36, 44, 6, 55, 20, 3, 10, 43, 25, 39, 41, 45, 15, 21, 8, 18, 2, 61, 56, 14]

/-- The round constants. -/
def keccakRc : List Nat :=
  [0x0000000000000001, 0x0000000000008082, 0x800000000000808A, 0x8000000080008000, 0x000000000000808B,
   0x0000000080000001, 0x8000000080008081, 0x8000000000008009, 0x000000000000008A, 0x0000000000000088,
   0x0000000080008009, 0x000000008000000A] ++
  [0x000000008000808B, 0x800000000000008B, 0x8000000000008089, 0x8000000000008003, 0x8000000000008002,
   0x8000000000000080, 0x000000000000800A, 0x800000008000000A, 0x8000000080008081, 0x8000000000008080,
   0x0000000080000001, 0x8000000080008008]

/-- A 64-bit word turned left by `k`. -/
def rotl64 (v k : Nat) : Nat := (v * 2 ^ k) % 2 ^ 64 + v / 2 ^ (64 - k)

/-- One round. -/
def keccakRound (a : List Nat) (rc : Nat) : List Nat :=
  let g (i : Nat) : Nat := a.getD i 0
  let c := (List.range 5).map (fun x => g x ^^^ g (x + 5) ^^^ g (x + 10) ^^^ g (x + 15) ^^^ g (x + 20))
  let d := (List.range 5).map (fun x => c.getD ((x + 4) % 5) 0 ^^^ rotl64 (c.getD ((x + 1) % 5) 0) 1)
  let e := (List.range 25).map (fun i => rotl64 (g i ^^^ d.getD (i % 5) 0) (keccakRot.getD i 0))
  let b := (List.range 25).map (fun i => e.getD ((i % 5 + 3 * (i / 5)) % 5 + 5 * (i % 5)) 0)
  let f := (List.range 25).map (fun i =>
    let n1 := b.getD ((i + 1) % 5 + 5 * (i / 5)) 0
    let n2 := b.getD ((i + 2) % 5 + 5 * (i / 5)) 0
    b.getD i 0 ^^^ ((n1 ^^^ (2 ^ 64 - 1)) &&& n2))
  f.mapIdx (fun i v => if i = 0 then v ^^^ rc else v)

/-- The permutation. -/
def keccakF (a : List Nat) : List Nat := keccakRc.foldl keccakRound a

/-- A block of 136 bytes is taken in. -/
def keccakAbsorb (a : List Nat) (block : List Nat) : List Nat :=
  keccakF (a.mapIdx (fun i v => if i < 17 then v ^^^ leVal ((block.drop (8 * i)).take 8) else v))

/-- The blocks of a padded message. -/
def keccakBlocks (k : Nat) (a : List Nat) (m : List Nat) : List Nat :=
  match k with
  | 0 => a
  | k + 1 => keccakBlocks k (keccakAbsorb a (m.take 136)) (m.drop 136)

/-- The 32 bytes of SHAKE256's 256-bit output. -/
def shake256 (m : List Nat) : List Nat :=
  let k := m.length / 136 + 1
  let z := 136 * k - m.length
  let pad := if z = 1 then [0x9F] else 0x1F :: List.replicate (z - 2) 0 ++ [0x80]
  ((keccakBlocks k (List.replicate 25 0) (m ++ pad)).take 4).flatMap (leBytes 8)

/-! ## The measurement chain (R451) -/

/-- The chain as SEC_MEAS shows it. -/
def State.meas (s : State) : List Nat := (List.range 8).flatMap (fun w => leBytes 4 (s.get (SEC.MEAS_MEAS w)))

/-- An event extends the chain. -/
def State.measure (s : State) (type : Nat) (d : List Nat) : State :=
  let m := shake256 (s.meas ++ [type] ++ d)
  (s.each (List.range 8) (fun w t => t.set (SEC.MEAS_MEAS w) (leVal ((m.drop (4 * w)).take 4)))).inc SEC.MEAS_CNT_COUNT

/-- SEC_KEYS[3:0]. -/
def State.keyBits (s : State) : Nat := s.get (SEC.KEYS_SLOT 0) + 4 * s.get (SEC.KEYS_SLOT 1)

/-- A customer slot is LIVE. -/
def State.slotLive (s : State) (k : Nat) : Bool := decide (k < 2) && s.get (SEC.KEYS_SLOT k) == 1

/-! ## Life-cycle (R449) -/

/-- A pending life-cycle transition takes effect at a device-level reset. -/
def State.lcReset (s : State) : State :=
  let p := s.get GLB.LC_PENDING
  let t := s.set GLB.LC_STATE p
  if p = s.lc then t
  else if p = 4 then
    { ((t.set (SEC.KEYS_SLOT 0) 2).set (SEC.KEYS_SLOT 1) 2) with sec := { t.sec with seed := false } }
  else if p = 5 then { t with sec := { t.sec with seed := false } }
  else t

/-! ## Security operations (R446 to R449) -/

/-- An address in the SRAM window, with `n` bytes after it. -/
def inSram (a n : Nat) : Bool := decide (0x10000000 ≤ a) && decide (a + n ≤ 0x11000000)

/-- Byte `k` of the token. -/
def State.tokByte (s : State) (k : Nat) : Nat := (byteAt s.mem.cells (s.get SEC.TOKEN_ADDR_ADDR + k)).toNat

/-- Bytes of the token, as a number. -/
def State.tokLE (s : State) (k n : Nat) : Nat := readLE s.mem.cells (s.get SEC.TOKEN_ADDR_ADDR + k) n

/-- SIGNER of the token. -/
def State.signer (s : State) : Nat := s.tokByte 0x10

/-- The token is in order (check 1 of Table 22-2). -/
def State.tokenOk (s : State) (op target : Nat) : Bool :=
  let a := s.get SEC.TOKEN_ADDR_ADDR
  let n := if s.signer = 0xFF then 0x60 else 0xB64
  inSram a n && s.tokLE 0 4 == 0x4C4E544B && s.tokByte 4 == op && s.tokByte 5 == target && s.tokLE 6 2 == 0 &&
    s.tokLE 0x11 15 == 0 && (op == 2 || s.tokLE 0x20 64 == 0) && decide (1 ≤ op) && decide (op ≤ 3)

/-- The signer is permitted for the operation, and its key is LIVE or is the root (check 3). -/
def State.signerOk (s : State) (op target : Nat) : Bool :=
  let g := s.signer
  let slot := (g == 1 || g == 2) && s.slotLive (g - 1)
  match op with
  | 1 => g == 0 || (slot && ((s.lc == 2 && target == 3) || target == 5))
  | 2 => if s.lc = 3 then slot && g - 1 == 1 - target else g == 0xFF
  | _ => slot

/-- The operation is permitted in the present state (check 5). -/
def State.opOk (s : State) (op target : Nat) : Bool :=
  match op with
  | 1 => (s.lc == 1 && target == 2) || (s.lc == 2 && target == 3 && (s.slotLive 0 || s.slotLive 1)) || (s.lc == 3 && target == 4) ||
      (target == 5 && s.lc != 5)
  | 2 => decide (target < 2) && s.get (SEC.KEYS_SLOT target) == 0 && (s.lc == 2 || s.lc == 3)
  | _ => s.slotLive target && (s.lc == 2 || (s.lc == 3 && s.slotLive (1 - target)))

/-- The checks of Table 22-2 in order: the code of the first that fails, 0 for none. `sig`: the signature verifies;
`brace`: a brace fell into the OTP write; `otp`: the read-back matches. -/
def State.opCode (s : State) (op target : Nat) (sig brace otp : Bool) : Nat :=
  if !s.tokenOk op target then 2
  else if s.tokLE 8 8 ≠ s.get (GLB.SERIAL_SERIAL 0) + 2 ^ 32 * s.get (GLB.SERIAL_SERIAL 1) then 3
  else if !s.signerOk op target then 4
  else if s.signer ≠ 0xFF ∧ sig = false then 5
  else if !s.opOk op target then 6
  else if !s.flag THM.STATUS_MTP_OK then 7
  else if s.braced || brace then 8
  else if !otp then 9
  else 0

/-- SEC_OP is written by its guarded pair (R446): the operation starts; a reserved OP fails its first check at once. -/
def State.opStart (s : State) (op target : Nat) : State :=
  if s.flag SEC.OP_STATUS_BUSY then s
  else
    let t := (s.set SEC.OP_OP op).set SEC.OP_TARGET target
    if op = 0 ∨ 3 < op then t.set SEC.OP_STATUS_RESULT 2
    else { ((t.on SEC.OP_STATUS_BUSY).set SEC.OP_STATUS_RESULT 1) with sec := { t.sec with op := some (op, target) } }

/-- The operation ends with a RESULT. A failed signature check counts as a failed verification (R445). -/
def State.opEnd (s : State) (code : Nat) : State :=
  let t := (s.off SEC.OP_STATUS_BUSY).set SEC.OP_STATUS_RESULT code
  let u := if code = 5 then t.inc SEC.CNT_VERIFY_FAIL else t
  { u with sec := { u.sec with op := none } }

/-- The operation `op` in progress is judged on its token in memory, and `f` writes OTP where every check passes. -/
def State.opRun (s : State) (op : Nat) (sig brace otp : Bool) (f : Nat → State → State) : State :=
  match s.sec.op with
  | none => s
  | some (o, target) =>
    if o ≠ op then s
    else
      let t := s.sweep Initiator.gondola.code (inRange (s.get SEC.TOKEN_ADDR_ADDR) 0xB64)
      let code := t.opCode op target sig brace otp
      if code = 0 then (f target t).opEnd 0 else t.opEnd code

/-- KEY_PROGRAM: the key of the token goes into an EMPTY slot, which becomes LIVE (R444). -/
def State.keyProgram (s : State) (k : Nat) : State :=
  let key := leBytes 64 (s.tokLE 0x20 64)
  { (s.set (SEC.KEYS_SLOT k) 1) with sec := { s.sec with keys := vset s.sec.keys (Fin.ofNat 2 k) key } }

/-- SEC_CMD.CNT_CLR. -/
def State.secCntClr (s : State) : State := (s.off SEC.CNT_VERIFY_FAIL).off SEC.CNT_ATT_REFUSED

/-- TST_CMD.CNT_CLR. -/
def State.tstCntClr (s : State) : State := (s.off TST.CNT_ABORT_CNT).off TST.CNT_FAIL_CNT

/-! ## Attestation (R452) -/

/-- The device public key in the certificate (Table 22-7). -/
def State.devKey (s : State) : List Nat :=
  ((List.range 18).flatMap (fun w => leBytes 4 (s.get (SEC.CERT_CERT w)))).drop 8

/-- Bytes 0x000 to 0x09F of the record with index `i` (Table 22-4). -/
def State.attBody (s : State) (i : Nat) : List Nat :=
  leBytes 4 0x4C4E4154 ++ leBytes 2 0x0100 ++ [s.lc, s.keyBits] ++
    (leBytes 4 (s.get (GLB.SERIAL_SERIAL 0)) ++ leBytes 4 (s.get (GLB.SERIAL_SERIAL 1))) ++
    (List.range 4).flatMap (fun k => leBytes 4 (s.get (GLB.MBX_ARG_ARG k))) ++
    (leBytes 4 (s.get CFG.FW_SEQ_SEQ) ++ leBytes 4 (s.get CFG.RIG_SEQ_SEQ) ++ leBytes 8 s.now ++ leBytes 4 i) ++
    (leBytes 4 (s.get SEC.MEAS_CNT_COUNT) ++ leBytes 4 (0x3208 + 0x10000 * (if s.variant then 2 else 1) + 0x02100000)) ++
    (leBytes 4 0 ++ s.meas ++ s.devKey)

end Sys2Proof.Machine
end

