-- ==== Sys2Proof/Machine/RstOps.lean ====
section
/-!
DEFINITION. Resets (chapter 16): device-level resets, the watchdog, and port and lane resets.
-/

namespace Sys2Proof.Machine

open Sys2Proof

/-! ## Device-level resets (R336 to R339) -/

/-- A reset is recorded: CAUSE, SEEN, its time and its counter (Table 16-8). -/
def State.resetNote (s : State) (cause : Nat) : State :=
  let t := ((s.set CFG.RST_STATUS_CAUSE cause).setBit CFG.RST_STATUS_SEEN (cause - 1) true).stamp CFG.RST_TIME0_TIME_LO
    CFG.RST_TIME1_TIME_HI
  match cause with
  | 3 => t.inc CFG.RST_CNT_BOR_CNT
  | 4 => t.inc CFG.RST_CNT_PIN_CNT
  | 6 => t.inc CFG.RST_CNT_WDR_CNT
  | _ => t

/-- A device-level reset (R338): the classes of Table 16-2 are cleared, a pending life-cycle transition takes effect, and
the wake sequence starts with source RESET; while RESET_N is low the device is held in Shelf. -/
def State.devReset (s : State) (cause : Nat) : State :=
  let t := ((s.classesCleared (cause == 1 || cause == 2)).resetNote cause).lcReset
  let u := t.setPwr (fun p => { p with stalled := if cause = 1 ∨ cause = 2 then none else p.stalled,
                                       wdrs := if cause = 1 ∨ cause = 2 then [] else p.wdrs
                                       otherFw := p.otherFw && cause != 1 && cause != 2
                                       timeLost := p.timeLost || cause == 1 || cause == 2 })
  if u.pwr.resetLow then u.setPwr (fun p => { p with dev := .shelf, retry := false, second := false })
  else u.wakeBegin 1 cause

/-- Power is applied (R316, Table 16-1): POR. -/
def State.powerOn (s : State) : State := ({ s with saf := { s.saf with uvlo := false } }).devReset 1

/-- The device has power. -/
def State.powered (s : State) : Bool := s.pwr.dev != .off

/-- A device-level reset of a powered device. -/
def State.resetBy (s : State) (cause : Nat) : State := if s.powered then s.devReset cause else s

/-- RESET_N falls (R337). -/
def State.pinReset (s : State) : State := (s.setPwr (fun p => { p with resetLow := true })).resetBy 4

/-- RESET_N rises: the wake sequence starts with source RESET. -/
def State.pinRelease (s : State) : State :=
  let t := s.setPwr (fun p => { p with resetLow := false })
  if s.pwr.resetLow && t.pwr.dev == .shelf then t.wakeBegin 1 (t.get CFG.RST_STATUS_CAUSE) else t

/-- CFG_SWR is written by its guarded pair (Table 16-9). -/
def State.swrWrite (s : State) (v : Nat) : State := if v % 2 = 1 then s.resetBy 5 else s

/-- The watchdog's timeout in ms; 0x0000 acts as 0x0001 (Table 16-9). -/
def State.wdtTmo (s : State) : Nat := max 1 (s.get CFG.WDT_TMO)

/-- The timeout of a running watchdog has passed (R339). -/
def State.wdtOver (s : State) : Bool := match s.boot.wdt with | some t => decide (s.wdtTmo ≤ t) | none => false

/-- A kick restarts the timeout of a running watchdog (R339). -/
def State.wdtKick (s : State) : State :=
  { s with boot := { s.boot with wdt := s.boot.wdt.map (fun _ => 0) } }

/-- The watchdog expires (R339): WDR; WDR_RUN counts the WDRs of the latest 60,000 ms, and the third makes the next boot take the other
firmware slot. -/
def State.watchdog (s : State) : State :=
  if !s.awake || !s.wdtOver then s
  else
    let ts := (s.now :: s.pwr.wdrs).filter (fun t => decide (s.since t ≤ 60000)) |>.take 3
    (((s.setPwr (fun p => { p with wdrs := ts, otherFw := p.otherFw || ts.length == 3 })).set CFG.RST_CNT_WDR_RUN ts.length).devReset 6)

/-- CFG_CMD.CNT_CLR (Table 16-8). -/
def State.cfgCntClr (s : State) : State := ((s.off CFG.RST_CNT_BOR_CNT).off CFG.RST_CNT_PIN_CNT).off CFG.RST_CNT_WDR_CNT

/-! ## Port and lane resets (R340) -/

/-- A port is taken to DOWN with DOWN_CAUSE 0x1 unless it is there. -/
def State.resetDown (s : State) (k : PortId) : State :=
  if (s.pt k).defined && s.pstate k != 0 then (s.napDrop k).portDown k 1 else s

/-- The modulation of every lane of a port is at 0: it is in DOWN altogether. -/
def State.portDark (s : State) (k : PortId) : Bool := s.allLanes k (fun n => s.get (LN.TX_STATUS_AMP_STATE n) == 0)

/-- A reset of the port has taken it to DOWN: its fields are cleared, its bit with them, and a port with UP = 1 comes up
again. While a lane's amp still falls (R121) the bit reads 1, and the reset waits. -/
def State.portResetEnd (s : State) (k : PortId) : State :=
  if s.portDark k then ((s.setBit CFG.RST_PORT_PORTS k false).portCleared k).portEval k
  else s.setBit CFG.RST_PORT_PORTS k true

/-- PTR of a port; one for a port that the rig does not define is discarded. -/
def State.portReset (s : State) (k : PortId) : State :=
  if (s.pt k).defined then (s.resetDown k).portResetEnd k else s

/-- A reset of a line lane whose port is in DOWN: it waits for the lane's amp, as that of a port does. -/
def State.laneResetEnd (s : State) (n : Lane) : State :=
  if s.get (LN.TX_STATUS_AMP_STATE n) = 0 then ((s.setBit CFG.RST_LANE_LN n false).laneCleared n).evalLane n
  else s.setBit CFG.RST_LANE_LN n true

/-- LNR of a line lane. -/
def State.laneReset (s : State) (n : Lane) : State :=
  let t := match s.portOf n with | some k => s.resetDown k | none => s
  t.laneResetEnd n

/-- A lane of a port in DOWN goes Off once its amp is 0 (R194). -/
def State.downOff (s : State) (n : Lane) : State := if s.lstate n = 0 then s.laneDown n else s

/-- The resets that waited for the lane's amp are completed. -/
def State.resetGo (s : State) (n : Lane) : State :=
  let t := if s.bitOf CFG.RST_LANE_LN n then s.laneResetEnd n else s
  match t.portOf n with
  | some k => if t.bitOf CFG.RST_PORT_PORTS k then t.portResetEnd k else t
  | none => t

/-- amp has moved (R121): where the ramp has arrived, AMP_STATE shows it, a lane in DOWN goes Off, resets that waited
complete, and the port is judged. -/
def State.rampSettle (s : State) (n : Lane) : State :=
  if s.rampDue n then (((s.rampArrive n).downOff n).resetGo n).evalLane n else s

/-- LNR of a host lane. -/
def State.hostReset (s : State) (j : Host) : State :=
  let t := match s.lineOf j with
    | some n => (match s.portOf n with | some k => s.resetDown k | none => s)
    | none => s
  (t.hostCleared j).evalHost j

/-! ## Partitions of the self-test (R453, Table 22-5) -/

/-- The address lies in a partition that a logic slice resets. -/
def inPartition (code a : Nat) : Bool :=
  match code with
  | 1 => decide (0x10000 ≤ a ∧ a < 0x30000) || decide (0xA0000 ≤ a ∧ a < 0xD0000) || decide (0x1C0000 ≤ a ∧ a < 0x1C8000)
  | 2 => decide (0x50000 ≤ a ∧ a < 0x70000) || decide (0x80000 ≤ a ∧ a < 0xA0000) || decide (0x1F0000 ≤ a ∧ a < 0x200000)
  | 0x0B => (List.range 16).any (fun j => hostBlock j a)
  | 0x0C => decide (0x1D0000 ≤ a ∧ a < 0x1F0000)
  | _ => decide (3 ≤ code) && decide (code ≤ 0x0A) && laneBlock (code - 3) a && decide (a < 0x1C0000 ∨ 0x1D0000 ≤ a)

/-- What the units of a partition hold beside their registers. -/
def State.partitionUnits (s : State) (code : Nat) : State :=
  match code with
  | 1 =>
    let t : State := { s with
      snd := {}
      thm := {}
      bda := Vector.replicate 24 {}
      kite := Vector.replicate 8 {}
      saf := s.saf.pins }
    (t.setPwr (fun p => { p with rungs := [], passed := none })).pinsShow
  | 2 =>
    let t := s.on MEM.STATUS_SRAM_RDY
    { t with
      spr := { prog := s.spr.prog, data := s.spr.data, exec := s.spr.exec }
      reel := Vector.replicate 8 {}
      str := { mtpCkpt := s.str.mtpCkpt, mtpOrderly := s.str.mtpOrderly }
      mem := { s.mem with history := [], burst := [], remap := [] } }
  | 0x0B => s.each (List.finRange 16) (fun j t => t.setHl j (fun _ => {}))
  | 0x0C => { s with tth := { strapAnchor := s.tth.strapAnchor, strapId := s.tth.strapId, strapAddr := s.tth.strapAddr } }
  | _ => if 3 ≤ code ∧ code ≤ 0x0A then s.setLn (Fin.ofNat 8 (code - 3)) (s.ln (Fin.ofNat 8 (code - 3))).cleared else s

/-- A logic slice resets its partition: every class but PL, which the pilot-light domain holds outside the partitions. -/
def State.partitionReset (s : State) (code : Nat) : State :=
  (s.clearRegs (fun a r => inPartition code a && r != .pl)).partitionUnits code

end Sys2Proof.Machine
end

