-- ==== Sys2Proof/Machine/LineLoc.lean ====
section
/-!
DEFINITION. Commands of framing, the inner decoder, the line overhead channel and the statistics snapshot (chapter 4).
-/

namespace Sys2Proof.Machine

open Sys2Proof

/-- The pad bits that precede the first codeword of a frame: the hard decisions of the five symbols before it (R97). -/
def State.padBits (s : State) (n : Lane) (m : Trellis) (ys : List ZSym) : List Bool :=
  (softRun (s.h1 n) (s.h2 n) 0 (s.get (LN.EQ_GUARD_LLR_SCALE n)) 5 m ys).map hard

/-- A received codeword, `skip` symbols after the one before: the detector runs over the symbols between, gives the
first-pass values, from which the lane's result and CAL's reference follow (R71, R72, R93 to R96); a line-lane checker sees
the first-pass hard decisions before descrambling (R185). -/
def State.receive (s : State) (n : Lane) (i : Fin 85) (skip : Nat) : State :=
  let ys := s.zRun n (skip + 64)
  let h1 := s.h1 n
  let h2 := s.h2 n
  let wt := s.get (LN.EQ_GUARD_PRIOR_WT n)
  let m0 := trellisRun h1 h2 0 (s.ln n).eq.trellis (ys.take skip)
  let n0 := trellisRun h1 h2 wt (s.ln n).eq.trellis2 (ys.take skip)
  let cw := ys.drop skip
  let pads := if i = 0 ∧ 5 ≤ skip then
      s.padBits n (trellisRun h1 h2 0 (s.ln n).eq.trellis (ys.take (skip - 5))) (ys.drop (skip - 5)) else []
  let llr := softRun h1 h2 0 (s.get (LN.EQ_GUARD_LLR_SCALE n)) 64 m0 cw
  let first := descramble (s.ln n).loc.scr i llr
  let two := s.flag (LN.EQ_STATUS_EFF_PASSES n)
  let zs := if two then s.priors n i cw first else cw
  let second := if two then some (s.secondPass n i n0 zs) else none
  let d := deliver first second
  let votes := s.votes n cw m0
  let t := s.setEq n (fun e => { e with trellis := trellisRun h1 h2 0 m0 (cw.take 64), trellis2 := trellisRun h1 h2 wt n0 (zs.take 64) })
  let u := if t.hunts n then t.frameCount n d.ok else t
  let v := if u.flag (LN.FRM_STATUS_FRAME_LOCK n) then
      ((u.setLoc n (fun l => { l with pads := (l.pads ++ pads).drop (l.pads.length + pads.length - 640) })).codeword n i d
        (first.map hard)).winTake n (if i = 0 then 5 else 0) (reform (s.ln n).loc.scr i d.out)
    else u
  ((v.deframe n d.out).prbsFeed (.line n) (prbsBitsOf (s.get (PRBS.CTRL_CHK_PAT (PrbsLane.line n).base))
    (grayMap (llr.map hard)))).lmsBeat n votes

/-- One beat of a lane: its conversions are corrected, the codeword they complete is received, coefficients on their way
(R80), ramps (R81, R83), applied corrections (R137) and the compensation (R37) move, and the transmitter sends (DESIGN CHOICE,
log 139). -/
def State.beat (s : State) (n : Lane) (i : Fin 85) (raw : List (BitVec 8)) : State :=
  let t := (s.takeRaw n raw).receive n i (raw.length - 64)
  ((((((t.slewBeat n).rampBeat n).correctBeat n).compBeat n).gainBeat n).txBeat n)

/-- INNER_CODEWORD (R93, R95, R96). -/
def execInnerCodeword (n : Lane) (i : Fin 85) (raw : List (BitVec 8)) (s : State) : Out :=
  .next (if (s.ln n).power = .active then (s.beat n i raw).rampSettle n else s)

/-- The Ballast steps that have waited for the lane's first window are checked on it (R82). -/
def State.shedFirst (s : State) (n : Lane) : State := s.each (s.ln n).eq.shedAsk (fun _ t => t.shedCheck n)

/-- The window's counts move to the LAST registers (R96), STATS is queued, the checks that wait for a first window are made on
it (R82), and the port judges the window (R196). -/
def State.decWindow (s : State) (n : Lane) : State :=
  if s.flag (LN.FRM_STATUS_FRAME_LOCK n) then
    let l := (s.ln n).loc
    let t := (((s.set (LN.DEC_WIN0_BITERR_LAST n) (min l.winBits (2 ^ 32 - 1))).set (LN.DEC_WIN1_FAIL_LAST n)
      (min l.winFail (2 ^ 32 - 1))).incWrap (LN.DEC_WIN2_WIN_CNT n)).setB (LN.FRM_STATUS_DEC_CLEAN n) (l.winFail == 0)
    let u := t.setLoc n (fun l => { l with winBits := 0, winFail := 0, winSinceLock := true })
    let v := if l.winSinceLock then u else u.shedFirst n
    (if v.flag (LN.LOC_CTRL_STATS_EN n) then v.locPlain n 0x30 (v.statsBody n) else v).portWindow n l.winFail
  else s

/-- DEC_WINDOW_END (R96). -/
def execDecWindowEnd (n : Lane) (s : State) : Out := .next (s.decWindow n)

/-- FRAME_RECEIVED (R99): locks follow, and the port's hold-off with them (R197). -/
def execFrameReceived (n : Lane) (s : State) : Out := .next ((s.frame n).evalLane n)

/-- SUPERFRAME_RECEIVED (R99, R101). -/
def execSuperframeReceived (n : Lane) (s : State) : Out := .next ((s.superframe n).evalLane n)

/-- A message accepted on a lane that holds superframe lock (R101, R102). -/
def State.locHear (s : State) (n : Lane) (type tag : Nat) (body : List Nat) : State :=
  if s.flag (LN.FRM_STATUS_SF_LOCK n) then s.locMessage n true type tag body else s

/-- LOC_HELLO (R195). -/
def execLocHello (n : Lane) (tag lanes idx caps : Byte) (s : State) : Out :=
  .next (s.locHear n 0x01 tag.toNat [lanes.toNat, idx.toNat, caps.toNat])

/-- LOC_HELLO_ACK (R195). -/
def execLocHelloAck (n : Lane) (tag lanes idx caps : Byte) (s : State) : Out :=
  .next (s.locHear n 0x02 tag.toNat [lanes.toNat, idx.toNat, caps.toNat])

/-- LOC_TXC_REQ (R125 to R128). -/
def execLocTxcReq (n : Lane) (tag : Byte) (items : List TxcItem) (s : State) : Out :=
  .next (s.locHear n 0x10 tag.toNat (txcBody items))

/-- LOC_TXC_DONE (R124). -/
def execLocTxcDone (n : Lane) (tag reqTag result applied : Byte) (s : State) : Out :=
  .next (s.locHear n 0x11 tag.toNat [reqTag.toNat, result.toNat, applied.toNat])

/-- LOC_DACCAL_ANN (R104). -/
def execLocDaccalAnn (n : Lane) (tag countdown stepId : Byte) (s : State) : Out :=
  .next (s.locHear n 0x20 tag.toNat [countdown.toNat, stepId.toNat])

/-- LOC_FREEZE_REQ (R105). -/
def execLocFreezeReq (n : Lane) (tag : Byte) (duration : BitVec 16) (s : State) : Out :=
  .next (s.locHear n 0x21 tag.toNat (beBytes 2 duration.toNat))

/-- LOC_STATS (Table 04-3). -/
def execLocStats (n : Lane) (tag : Byte) (body : List Nat) (s : State) : Out := .next (s.locHear n 0x30 tag.toNat body)

/-- LOC_USER (Table 04-3, Table 04-8). -/
def execLocUser (n : Lane) (tag : Byte) (body : List Nat) (s : State) : Out := .next (s.locHear n 0x80 tag.toNat body)

/-- LOC_RESERVED_TYPE (R102): a type of Table 04-2 is none. -/
def execLocReservedType (n : Lane) (type tag : Byte) (s : State) : Out :=
  .next (if locKnown type.toNat then s else s.locHear n type.toNat tag.toNat [])

/-- LOC_RETX (R102). -/
def execLocRetx (n : Lane) (tag : Byte) (s : State) : Out := .next (s.locRetx n tag.toNat)

/-- SUPERFRAME_SEND (R103): the superframe counts toward the interval of R150, and a waiting interpolation step may
start. -/
def execSuperframeSend (n : Lane) (s : State) : Out :=
  .next (((s.sfSend n).setCal n (fun c => { c with trimAge := min 65536 (c.trimAge + 1) })).pdTry n)

/-- USER_SEND (R103). -/
def execUserSend (n : Lane) (s : State) : Out := .next (s.whenAwake (fun s => s.userSend n))

/-! ## Snapshot (R107) -/

/-- A counter wider than a word is held in two words, the lower first. -/
def State.hold2 (s : State) (f : Nat → Field) (v : Nat) : State := (s.set (f 0) v).set (f 1) (v / 2 ^ 32)

/-- The counters of a line lane are copied (Table 04-5). -/
def State.snapLane (s : State) (n : Lane) : State :=
  let c := (s.ln n).loc.live
  let t := (((s.hold2 (LST.CW_TOTAL_W n) c.total).hold2 (LST.CW_CORR_W n) c.corr).hold2 (LST.CW_FAIL_W n) c.fail).hold2
    (LST.BIT_CORR_W n) c.bits
  let u := (((t.set (LST.SF_OK_LOC_SF_OK n) c.sfOk).set (LST.SF_CRC_LOC_CRC_ERR n) c.crcErr).set (LST.LOC_ERR_BAD_TYPE n)
    c.badType).set (LST.LOC_ERR_NOACK n) c.noack
  let v := ((u.set (LST.LOCK_LOSS_FRAME n) c.frameLoss).set (LST.LOCK_LOSS_SF n) c.sfLoss).set (LST.MARKER_LOC_MARKER_ERR n)
    c.markerErr
  if s.flag LST.CTRL_CLR_ON_SNAP then v.count n (fun _ => {}) else v

/-- The counters of a KP4 monitor are copied (Table 04-7). -/
def State.snapKp4 (s : State) (j : Host) (d : Dir) : State :=
  let c := (s.hl j).kp4.get d
  let t := (((s.set (LST.KP4_LOSS_AM_LOSS_CNT j d) c.loss).hold2 (LST.KP4_CW_TOTAL_W j d) c.total).hold2
    (LST.KP4_CW_UNCORR_W j d) c.uncorr).hold2 (LST.KP4_SYM_CORR_W j d) c.sym
  let u := t.each (List.range 16) (fun k v => v.hold2 (LST.KP4_TAIL_W j d k) (c.tail.getD k 0))
  if s.flag LST.CTRL_CLR_ON_SNAP then
    u.setKp4 j d (fun m => { m with loss := 0, total := 0, uncorr := 0, sym := 0, tail := List.replicate 16 0 })
  else u

/-- A snapshot of every live counter; one in progress takes no further effect (R107, R108). -/
def State.snap (s : State) : State :=
  if s.flag LST.STATUS_SNAP_BUSY then s
  else
    let t := s.each (List.finRange 8) (fun n u => u.snapLane n)
    let u := t.each (List.finRange 16) (fun j v => (v.snapKp4 j 0).snapKp4 j 1)
    (((u.incWrap LST.STATUS_SNAP_SEQ).stamp LST.SNAP_TIME0_TIME_LO LST.SNAP_TIME1_TIME_HI).on LST.STATUS_SNAP_BUSY).on
      LST.CTRL_SNAP

/-- SNAP (R107). -/
def execSnap (s : State) : Out := .next (s.whenAwake (fun s => s.snap))

/-- SNAP_DONE (R107). -/
def execSnapDone (s : State) : Out := .next ((s.off LST.STATUS_SNAP_BUSY).off LST.CTRL_SNAP)

end Sys2Proof.Machine
end

