-- ==== Sys2Proof/Machine/LineRx.lean ====
section
/-!
DEFINITION. Commands of timing, gearbox, KP4 monitors and the receive front end (chapters 1, 2 and R88).
-/

namespace Sys2Proof.Machine

open Sys2Proof

/-- REFERENCE_LOSS (R23). -/
def execReferenceLoss (p : Pll) (s : State) : Out := .next (s.pllLose p)

/-- HOLDOVER_EXPIRY (R23): a PLL still in holdover moves to REFCLK. -/
def execHoldoverExpiry (p : Pll) (s : State) : Out :=
  .next (if s.pllRef p = .holdover then s.pllMove p .refclk else s)

/-- GBX_SLIP (R24). -/
def execGbxSlip (n : Lane) (s : State) : Out := .next (s.gearSlip n)

/-- The skew of a line lane is measured when both of its direction-0 monitors hold lock (R25). -/
def State.skewMeasure (s : State) (j : Host) (skew : Nat) : State :=
  match s.lineOf j with
  | some n =>
    if (s.hostsOf n).all (fun h => s.flag (LST.KP4_STATUS_AM_LOCK h 0)) then s.gbxSkew n skew else s
  | none => s

/-- AM_RECEIVED (R88, R25): the place of a marker group in the stream has passed; in direction 0 the skew is judged where the
group is found, and the port may leave ACQUIRE. -/
def execAmReceived (j : Host) (d : Dir) (skew : Nat) (s : State) : Out :=
  let t := s.amGroup j d (s.amFound j d)
  .next (if d = 0 ∧ s.amFound j d = true then (t.skewMeasure j skew).evalHost j else t)

/-- The codes of a received codeword: decided, freed of precoding and Gray-coded, its bits go to the gearbox, and the codewords
they complete are counted (R87 to R89, R168, R170). -/
def State.kp4Receive (s : State) (j : Host) (xs : List (BitVec 6)) : State :=
  let r := s.hostReceive j (xs.map BitVec.toInt)
  let before := levelIndex ((s.hl j).dec.getD 0 (-3))
  let ls := if s.flag (HL.TRN_STATUS_PRECODE_RX j) then unprecode before r.2 else r.2
  (r.1.gearTake j (grayUnmap ls)).kp4Count j 0

/-- KP4_CODEWORD (R88): in direction 0 the codes that bring the last symbol of a codeword to its decision, in direction 1 the
codewords of the deframer's stream that are complete, which the host transmitter sends. -/
def execKp4Codeword (j : Host) (d : Dir) (xs : List (BitVec 6)) (s : State) : Out :=
  .next (if d = 0 then (if (s.hl j).power = .active ∧ s.hostCarries j = true then s.kp4Receive j xs else s)
    else (s.kp4Count j 1).hostSend j)

/-- The pace of R38 allows an AGC step `us` after the last step or backoff: once per INTERVAL in TRAIN, LOCKED and TRAFFIC, and
in ONE_WAY, whose receive side runs as in TRAFFIC (R198); elsewhere 4,096 beats after the last step or backoff. -/
def State.agcPaced (s : State) (n : Lane) (us : Nat) : Bool :=
  if 3 ≤ s.lstate n && s.lstate n ≤ 6 then decide (max 1 (s.get (LN.AGC_CFG_INTERVAL n)) ≤ us)
  else decide (262144 ≤ (s.ln n).rx.stepAge)

/-- An AGC step on the sums of a block: it counts as made at the block's end (R36, R38). -/
def State.agcStep (s : State) (n : Lane) (sum cnt us : Nat) : State :=
  let g := s.agcNext n sum cnt
  if s.agcPaced n us && s.agcFree n && g != s.get (LN.AGC_STATUS_GAIN n) then
    (s.gainTo n g).setRx n (fun r => { r with stepAge := r.blkCnt })
  else s

/-- AGC_BLOCK (R36, R38, R40): the block that is complete is judged, LOS first, then the AGC steps if it may; `us` is the time
since its last step or backoff. -/
def execAgcBlock (n : Lane) (us : Nat) (s : State) : Out :=
  .next (
    match (s.ln n).rx.block with
    | none => s
    | some b =>
      if (s.ln n).power ≠ .active then s
      else
        let t := (s.setRx n (fun r => { r with block := none })).losJudge n b.1 b.2
        (t.agcStep n b.1 b.2 us).evalLane n)

/-- COMP_RELEASE_END (R37). -/
def execCompReleaseEnd (n : Lane) (s : State) : Out := .next (s.compEnd n)

/-- OVR_WINDOW (R39): a window ends; AT_FLOOR lasts while the rate persists (Table 02-4). DESIGN CHOICE (log 188): it ends with a
window whose count stays below 227, and neither with a host write of OVR_RATE nor with a step off code 0. -/
def execOvrWindow (n : Lane) (s : State) : Out :=
  let t := if (s.ln n).rx.winCnt < 227 then s.off (LN.AGC_STATUS_AT_FLOOR n) else s
  .next (t.setRx n (fun r => { r with winCnt := 0 }))

/-- OVR_BACKOFF (R39): a backoff that waits is made once no release is in progress. DESIGN CHOICE (log 143): it waits for
nothing else (R38), neither for the end of gross-overload recovery (R51) nor for LOS_NOW (R36). -/
def execOvrBackoff (n : Lane) (s : State) : Out :=
  .next (if (s.ln n).rx.backoffPend && s.stepFree n then s.backoff n else s)

/-- HOLDOFF_END, `us` after the backoff (R39). -/
def execHoldoffEnd (n : Lane) (us : Nat) (s : State) : Out :=
  .next (if msUs 0 (s.get (LN.AGC_CFG_HOLDOFF n)) ≤ us then s.setRx n (fun r => { r with holdoff := false }) else s)

/-- SAMPLE_SATURATION (R48): a conversion that no INNER_CODEWORD brings. -/
def execSampleSaturation (n : Lane) (slice : Fin 65) (raw : BitVec 8) (s : State) : Out := .next (s.takeAlone n slice raw.toInt)

/-- GROSS_OVERLOAD (R51). -/
def execGrossOverload (n : Lane) (s : State) : Out :=
  .next (if (s.ln n).power ≠ .active then s
    else (((s.on (LN.RX_STATUS_OVR_GROSS n)).inc (LN.RX_GROSS_CNT_GROSS_CNT n)).on (LN.RX_STATUS_DCR_BUSY n)).setCal n
      (fun c => { c with winDirty := true }))

/-- DCR_RECOVERY_END (R51, R46): the shadow interval of a postponed handover is then repeated. -/
def execDcrRecoveryEnd (n : Lane) (s : State) : Out :=
  let t := (s.off (LN.RX_STATUS_DCR_BUSY n)).setRx n (fun r => { r with handPend := false, abandPend := false })
  .next (if (s.ln n).rx.abandPend then t.slotDrop n else t)

/-- LN_RX_CNT_CLR (Table 02-7, R52). -/
def execLnRxCntClr (n : Lane) (s : State) : Out := .next (s.whenAwake (fun s => s.rxCntClr n))

/-- LIGHT or ACQUIRE: AUTO regulation restarts, the hold-off of a backoff ended (Table 02-7). -/
def State.agcRestart (s : State) (n : Lane) : State :=
  if s.lstate n = 1 ∨ s.lstate n = 2 then s.setRx n (fun r => { r with holdoff := false }) else s

/-- AGC_RESTART (Table 02-7). -/
def execAgcRestart (n : Lane) (s : State) : Out := .next (s.whenAwake (fun s => s.agcRestart n))

/-- KTAP_MEAN (R53, R54): codes of a tap that runs, up to the last one of a mean. -/
def execKtapMean (n : Lane) (codes : List (BitVec 12)) (s : State) : Out :=
  .next (if s.tapRuns n then s.each codes (fun x t => t.tapCode n x) else s)

end Sys2Proof.Machine
end

