-- ==== Sys2Proof/Machine/LineTx.lean ====
section
/-!
DEFINITION. Commands of the line transmitter (chapter 5).
-/

namespace Sys2Proof.Machine

open Sys2Proof

/-- SWAP (R117, R118). -/
def execSwap (n : Lane) (s : State) : Out := .next (s.whenAwake (fun s => s.swap n))

/-- SWAP_APPLY (R117): outside the slewing states the banks are replaced at a boundary. -/
def execSwapApply (n : Lane) (s : State) : Out := .next (if s.slews n then s else s.swapReplace n)

/-- SWAP_SLEW_STEP (R117, R118). -/
def execSwapSlewStep (n : Lane) (s : State) : Out :=
  .next (if s.slews n && s.flag (LN.TX_STATUS_SWAP_PEND n) then s.swapStep n else s)

/-- SHADOW_LOAD (R116). -/
def execShadowLoad (n : Lane) (s : State) : Out := .next (s.whenAwake (fun s => s.shadowLoad n))

/-- LNn_TX_CMD.CNT_CLR: the TXC counters, CLIP_CNT and DACCAL_CNT (Tables 05-6 and 05-8). -/
def State.txCntClr (s : State) (n : Lane) : State :=
  (((((s.off (LN.TX_TXC_CNT0_APPLIED_CNT n)).off (LN.TX_TXC_CNT0_CLIPPED_CNT n)).off (LN.TX_TXC_CNT1_DEFERRED_CNT n)).off
    (LN.TX_TXC_CNT1_REFUSED_CNT n)).off (LN.TX_CLIP_CNT_CLIP_CNT n)).off (LN.TX_DACCAL_DACCAL_CNT n)

/-- LN_TX_CNT_CLR (Table 05-6). -/
def execLnTxCntClr (n : Lane) (s : State) : Out := .next (s.whenAwake (fun s => s.txCntClr n))

/-- SWING_STEP (R120). -/
def execSwingStep (n : Lane) (s : State) : Out := .next (s.swingStep n)

/-- AMP_RAMP_COMPLETE (R121): `beats` beats pass that no INNER_CODEWORD brings, up to the ramp's end where they reach it. -/
def execAmpRampComplete (n : Lane) (beats : Nat) (s : State) : Out :=
  .next (if (s.ln n).power = .active then (s.ampMove n beats).rampSettle n else s)

/-- A lane may send TXC_REQ: not in ONE_WAY, nor during a hold-off of its port (R124, R197, R198). -/
def State.txcSends (s : State) (n : Lane) : Bool :=
  match s.portOf n with
  | some k => s.pstate k != 6 && !s.flag (PORT.STATUS_LOSHOLD_RUN k)
  | none => false

/-- TXC_REQ_SEND (R124). -/
def execTxcReqSend (n : Lane) (items : List TxcItem) (s : State) : Out :=
  .next (if s.txcSends n then s.txcSend n items else s)

/-- TXC_APPLY (R125). -/
def execTxcApply (n : Lane) (s : State) : Out := .next (s.txcApply n)

/-- DACCAL_REQUEST (R130). -/
def execDaccalRequest (n : Lane) (step : DacStep) (s : State) : Out := .next (s.dacRequest n step)

/-- DACCAL_EXECUTE (R130). -/
def execDaccalExecute (n : Lane) (s : State) : Out := .next (s.dacExecute n)

end Sys2Proof.Machine
end

