-- ==== Sys2Proof/Machine/Ports.lean ====
section
/-!
DEFINITION. Commands of the ports (chapter 8). Nap entry starts in `Machine/PwrOps.lean`, with the quiescence it needs.
-/

namespace Sys2Proof.Machine

open Sys2Proof

/-- UP = 1 is asked of a port (R193); a port without a definition discards it (R192). A stalled PG_LANE is tried again
(R318). -/
def State.upSet (s : State) (k : PortId) : State :=
  if (s.pt k).defined then (({ s with pwr := { s.pwr with laneStall := false } }).on (PORT.CTRL_UP k)).portEval k else s

/-- UP_SET (R193). -/
def execUpSet (k : PortId) (s : State) : Out := .next (s.whenAwake (fun s => s.upSet k))

/-- UP_CLEAR (R193). -/
def execUpClear (k : PortId) (s : State) : Out := .next (s.whenAwake (fun s => s.portStop k))

/-- AUTO_RESTART (R193): with UP = 1 and every hold condition gone. -/
def execAutoRestart (k : PortId) (s : State) : Out := .next (s.portEval k)

/-- A lane of the port still lacks frame or superframe lock, and no line-lane PRBS generator of the port is enabled
(Table 08-2). A slow wake goes through ACQUIRE (R202), a fast one does not. -/
def State.acqLate (s : State) (k : PortId) : Bool :=
  s.pstate k == 2 && (s.pt k).wake.all (fun w => !w.fast && w.clocks) && !s.locked k &&
    !s.anyLane k (fun n => s.flag (PRBS.CTRL_GEN_EN (PrbsLane.line n).base))

/-- ACQ_TMO, `us` after the entry (Table 08-2): reseeded under R158. -/
def execAcqTmo (k : PortId) (us : Nat) (s : State) : Out :=
  .next (if s.acqLate k && decide (msUs 1 (s.get (PORT.CFG_ACQ_TMO k)) ≤ us) then
    ((s.on (PORT.STATUS_ACQ_FAIL k)).inc (PORT.CNT_ACQ_FAIL_CNT k)).onLanes k (fun n t => t.seedRx n)
    else s)

/-- TRAIN_TMO, `us` after the entry (Table 08-2): a hold-off keeps the state (R197). -/
def execTrainTmo (k : PortId) (us : Nat) (s : State) : Out :=
  .next (if s.pstate k = 3 ∧ s.flag (PORT.STATUS_LOSHOLD_RUN k) = false ∧ msUs 1 (s.get (PORT.CFG2_TRAIN_TMO k)) ≤ us then (s.on (PORT.STATUS_OTRAIN_TMO k)).portAcquire k else s)

/-- The handshake is complete on every lane of the port, or has been since it entered its state (Table 08-2). -/
def State.trafficDue (s : State) (k : PortId) : Bool := s.handshake k || (s.pt k).due

/-- TRAFFIC_ENTRY (Table 08-2): from LOCKED or ONE_WAY once the handshake has completed on every lane, no host-lane generator
holding the port back (R186) and no hold-off keeping its state (R197). -/
def execTrafficEntry (k : PortId) (s : State) : Out :=
  .next (if (s.pstate k = 4 ∨ s.pstate k = 6) ∧ s.trafficDue k = true ∧ s.hostGen k = false ∧
      s.flag (PORT.STATUS_LOSHOLD_RUN k) = false then s.portTraffic k else s)

/-- HELLO is sent again by the lanes that take part in the handshake (R195). -/
def State.helloAgain (s : State) (k : PortId) : State := s.onLanes k (fun n t => if t.shakes n then t.helloSend n else t)

/-- PARTNER_TMO expires in LOCKED or ONE_WAY, `us` after its start; a complete handshake prevails (Table 08-2, R195, R199), and a hold-off keeps the
state (R197). -/
def State.partnerLate (s : State) (k : PortId) (us : Nat) : State :=
  if s.trafficDue k || decide (us < msUs 1 (s.get (PORT.CFG_PARTNER_TMO k))) then s
  else if s.pstate k = 4 then
    if (s.pt k).retries < s.get (PORT.CFG_PARTNER_RETRY k) then
      ((s.inc (PORT.CNT_RETRY_CNT k)).setPt k (fun p => { p with retries := p.retries + 1 })).helloAgain k
    else if s.flag (PORT.STATUS_LOSHOLD_RUN k) then s
    else s.portOneWay k
  else if s.pstate k = 6 then s.helloAgain k
  else s

/-- PARTNER_TMO (R194). -/
def execPartnerTmo (k : PortId) (us : Nat) (s : State) : Out := .next (s.partnerLate k us)

/-- LOS_HOLD_EXPIRY, `us` after the start of the hold-off (R197, R199). -/
def execLosHoldExpiry (k : PortId) (us : Nat) (s : State) : Out :=
  .next (if msUs 0 (s.get (PORT.CFG_LOS_HOLD k)) ≤ us then s.holdExpire k else s)

/-- WAKE_QUALIFIED (R201). -/
def execWakeQualified (k : PortId) (us : Nat) (s : State) : Out := .next (s.wakeDone k us)

/-- WAKE_TMO (R201, R202), `run` after its start and `us` after that of the wake. -/
def execWakeTmo (k : PortId) (us run : Nat) (s : State) : Out := .next (s.wakeLate k us run)

/-- PORT_CNT_CLR (Table 08-4). -/
def execPortCntClr (k : PortId) (s : State) : Out := .next (s.whenAwake (fun s => s.portCntClr k))

/-- TXC_SETTLE of the lane's port, in microseconds. -/
def State.settleUs (s : State) (n : Lane) : Nat :=
  match s.portOf n with | some k => msUs 1 (s.get (PORT.CFG2_TXC_SETTLE k)) | none => 0

/-- TXC_SETTLE_ELAPSED, `us` after the completion of the handshake (R196). -/
def execTxcSettleElapsed (n : Lane) (us : Nat) (s : State) : Out :=
  .next (if (s.ln n).loc.hsDone && decide (s.settleUs n ≤ us) then (s.setLoc n (fun l => { l with settled := true })).evalLane n else s)

/-- FAST_CLOCKS_RESTART (R201). -/
def execFastClocksRestart (k : PortId) (us : Nat) (s : State) : Out := .next ((s.clocksRun k us).portEval k)

end Sys2Proof.Machine
end

