-- ==== Sys2Proof/Machine/SprOps.lean ====
section
/-!
DEFINITION. The Spar coprocessor (chapter 12): registers, memories, encodings, issue with its latency, flags, faults,
control flow, address generators, multiply-accumulate and accumulator moves.
-/

namespace Sys2Proof.Machine

open Sys2Proof

/-- Change Spar's state outside its registers. -/
def State.setSpr (s : State) (f : SprSt → SprSt) : State := { s with spr := f s.spr }

/-! ## Registers (R259) -/

/-- General register `g` in the present mode; G0 reads zero. -/
def SprSt.reg (r : SprSt) (g : Fin 16) : Word :=
  if g.val = 0 then 0
  else if g.val < 8 then r.lo.get (Fin.ofNat 8 g.val)
  else if r.user then r.user8.get (Fin.ofNat 8 g.val) else r.priv8.get (Fin.ofNat 8 g.val)

/-- Write general register `g` in the present mode; a write to G0 is discarded. -/
def SprSt.put (r : SprSt) (g : Fin 16) (v : Word) : SprSt :=
  if g.val = 0 then r
  else if g.val < 8 then { r with lo := vset r.lo (Fin.ofNat 8 g.val) v }
  else if r.user then { r with user8 := vset r.user8 (Fin.ofNat 8 g.val) v }
  else { r with priv8 := vset r.priv8 (Fin.ofNat 8 g.val) v }

/-- A listed word of program or data memory, or what an unlisted word reads as. -/
def sprFind (m : List (Nat × Nat)) (a : Nat) (none : Word) : Word := ((assocFind m a).map (BitVec.ofNat 32)).getD none

/-- Write a word of program or data memory; where an unlisted word is 0 (Table 12-10), a zero word is not listed. -/
def sprStore (m : List (Nat × Nat)) (a : Nat) (v : Word) (plain : Bool) : List (Nat × Nat) :=
  if v = 0 ∧ plain = true then assocDel m a else assocPut m a v.toNat

/-- A word of the privileged regions, which the executive's image fills while it is loaded (R261, R271): of the program, and of
the data banks. -/
def SprSt.execInsn (r : SprSt) (w : Nat) : Option Word := if w < 0x1000 then r.exec.map (fun q => Config.execWord q w) else none
def SprSt.execDatum (r : SprSt) (a : Nat) : Option Word :=
  if a % 0x10000 < 0x2000 then r.exec.map (fun q => Config.execData q a) else none

/-- The program word at `w`, and the data word at `a`. -/
def SprSt.insn (r : SprSt) (w : Nat) : Word := sprFind r.prog w ((r.execInsn w).getD 0)
def SprSt.datum (r : SprSt) (a : Nat) : Word := sprFind r.data a ((r.execDatum a).getD 0)

/-- Write them. -/
def SprSt.setInsn (r : SprSt) (w : Nat) (v : Word) : SprSt := { r with prog := sprStore r.prog w v (r.execInsn w).isNone }
def SprSt.setDatum (r : SprSt) (a : Nat) (v : Word) : SprSt := { r with data := sprStore r.data a v (r.execDatum a).isNone }

/-- Resident firmware loads its executive, of FW_SEQ `q`, into the privileged regions (R271, R277). -/
def SprSt.execLoad (r : SprSt) (q : Nat) : SprSt :=
  { r with exec := some q, prog := r.prog.filter (fun p => decide (0x1000 ≤ p.1)),
           data := r.data.filter (fun p => decide (0x2000 ≤ p.1 % 0x10000)) }

/-- SPR_STATUS.STATE: 0 HALTED, 1 PRIV, 2 USER, 3 WAIT (Table 12-7). -/
def SprSt.stateCode (r : SprSt) : Nat :=
  match r.run with
  | .halted => 0
  | .waiting _ => 3
  | _ => if r.user then 2 else 1

/-! ## Encodings (Tables 12-2 and 12-3) -/

/-- A word of the REG format. -/
def encReg (op : Nat) (gd ga gb : Fin 16) : Nat := op * 2 ^ 26 + gd.val * 2 ^ 22 + ga.val * 2 ^ 18 + gb.val * 2 ^ 14

/-- A word of the IMM and IO formats. -/
def encImm (op : Nat) (gd ga : Fin 16) (imm : BitVec 18) : Nat :=
  op * 2 ^ 26 + gd.val * 2 ^ 22 + ga.val * 2 ^ 18 + imm.toNat

/-- A word of the MEM format. -/
def encMem (op : Nat) (g : Fin 16) (ag : Fin 8) (pm : Bool) : Nat :=
  op * 2 ^ 26 + g.val * 2 ^ 22 + ag.val * 2 ^ 19 + pm.toNat * 2 ^ 18

/-- A word of the AGF format. -/
def encAgf (op : Nat) (g : Fin 16) (ag : Fin 8) (f : Fin 4) : Nat :=
  op * 2 ^ 26 + g.val * 2 ^ 22 + ag.val * 2 ^ 19 + f.val * 2 ^ 17

/-- A MAC4 word. -/
def encMac4 (agx agy : Fin 8) (clr neg xreg : Bool) (gx : Fin 16) : Nat :=
  0x20 * 2 ^ 26 + agx.val * 2 ^ 23 + agy.val * 2 ^ 20 + clr.toNat * 2 ^ 19 + neg.toNat * 2 ^ 18 + xreg.toNat * 2 ^ 17 +
    gx.val * 2 ^ 13

/-- A MAC2 word. -/
def encMac2 (agx agy : Fin 8) (clr neg : Bool) (p : Fin 2) : Nat :=
  0x21 * 2 ^ 26 + agx.val * 2 ^ 23 + agy.val * 2 ^ 20 + clr.toNat * 2 ^ 19 + neg.toNat * 2 ^ 18 + p.val * 2 ^ 17

/-- A MACR word. -/
def encMacr (ga gb : Fin 16) (k : Fin 4) (clr neg : Bool) : Nat :=
  0x22 * 2 ^ 26 + ga.val * 2 ^ 22 + gb.val * 2 ^ 18 + k.val * 2 ^ 16 + clr.toNat * 2 ^ 15 + neg.toNat * 2 ^ 14

/-- A MOVA word, and an LDA word with `clr` zero. -/
def encAcc (op : Nat) (g : Fin 16) (k : Fin 4) (clr : Bool) : Nat :=
  op * 2 ^ 26 + g.val * 2 ^ 22 + k.val * 2 ^ 20 + clr.toNat * 2 ^ 19

/-- A word of the CTL format: a value in bits [25:22] and one in the low bits. -/
def encCtl (op hi low : Nat) : Nat := op * 2 ^ 26 + hi * 2 ^ 22 + low

/-- A word is a legal instruction (R267): its opcode and condition are not reserved, the bits its format does not use and
the fields that must be 0 are zero, a WAIT mask is not zero and an EVT line is 0 or 1. -/
def sprLegal (w : Nat) : Bool :=
  let z (lo n : Nat) : Bool := bits w lo n == 0
  match bits w 26 6 with
  | 0x00 => z 0 26
  | 0x01 | 0x02 | 0x03 | 0x04 | 0x05 | 0x06 | 0x07 | 0x08 | 0x09 | 0x0A | 0x0B | 0x0C | 0x0D => z 0 14
  | 0x0E => z 0 18
  | 0x0F => z 0 14 && z 22 4
  | 0x10 | 0x12 | 0x13 => true
  | 0x11 => z 18 4
  | 0x14 => z 22 4
  | 0x15 | 0x16 | 0x17 => z 5 13
  | 0x18 | 0x19 => z 0 18
  | 0x1A | 0x1B => true
  | 0x1C | 0x1D => z 0 17
  | 0x20 => z 0 13 && (!bit w 17 || z 23 3)
  | 0x21 => z 0 17
  | 0x22 => z 0 14
  | 0x23 => z 0 19
  | 0x24 => z 0 20
  | 0x25 => z 0 22
  | 0x28 => z 14 12
  | 0x29 => z 14 8 && decide (bits w 22 4 ≤ 8)
  | 0x2A => z 14 12
  | 0x2B => z 0 26
  | 0x2C => z 14 8
  | 0x2D => z 8 18 && !z 0 8
  | 0x2E => z 2 24 && decide (bits w 0 2 ≤ 1)
  | 0x2F => z 8 18
  | 0x30 => z 14 11
  | 0x31 => z 0 26
  | _ => false

/-! ## Faults (R268, R272 to R274, Table 12-5) -/

/-- A fault is recorded and counted. -/
def State.sprRecord (s : State) (code : Nat) : State :=
  (((((s.set SPR.FAULT_CODE code).setB SPR.FAULT_MODE s.spr.user).set SPR.FAULT_FPC s.spr.pc).on SPR.STATUS_FAULT).inc
    SPR.CNT_FAULT_CNT)

/-- The executive is entered from user mode at word `p`, the user PC saved. -/
def SprSt.enterPriv (r : SprSt) (saved p : Nat) : SprSt :=
  { r with savedPc := saved, user := false, pc := p, run := .running }

/-- Spar starts in privileged mode at word 0 (R271). -/
def SprSt.start (r : SprSt) : SprSt := { r with run := .running, user := false, pc := 0, haltPend := false, leave := false, retP := [], loopP := [] }

/-- A fault (R272 to R274): a user fault enters the executive at word 0x0020, ends the user program and is alarmed. A privileged
one halts Spar; resident firmware loads its executive again and restarts Spar, but for the second fault within 1,000 ms, which is
alarmed as lasting. -/
def State.sprFault (s : State) (code : Nat) : State :=
  let t := s.sprRecord code
  if s.spr.user then (t.setSpr (fun r => { (r.enterPriv r.pc 0x20) with phase := .ended })).alarm 0x17 0 code
  else
    let again := match s.spr.privFault with | some x => decide (s.since x ≤ 1000) | none => false
    let u := t.setSpr (fun r => { r with run := .halted, privFault := some s.now, lasting := r.lasting || again })
    if again then u.alarmFrom (u.get TTH.STATUS_ID) 0x17 0 code true
    else match s.spr.exec with
      | some q => u.setSpr (fun r => if r.lasting || r.haltPend then r else (r.execLoad q).start)
      | none => u

/-! ## Flags (R260) -/

/-- The flags of a result: Z and N from it, V as given. -/
def SprSt.flags (r : SprSt) (x : Word) (v : Bool) : SprSt := { r with z := x == 0, n := x.msb, v := v }

/-- A signed result that does not fit 32 bits. -/
def ovf32 (x : Int) : Bool := decide (x < -2147483648 ∨ 2147483647 < x)

/-- A signed result saturated to 32 bits. -/
def sat32 (x : Int) : Word := BitVec.ofInt 32 (clamp (-2147483648) 2147483647 x)

/-! ## Sequencing (R267, R268) -/

/-- The next word and the loops left after the instruction at `pc`: the end of a loop's body leads back to its start
while passes are left. -/
def loopNext (pc : Nat) (ls : List SprLoop) : Nat × List SprLoop :=
  match ls with
  | [] => (pc + 1, [])
  | l :: t => if l.last = pc then (if 1 < l.left then (l.first, { l with left := l.left - 1 } :: t) else loopNext pc t)
              else (pc + 1, l :: t)

/-- The loop stack of the present mode. -/
def SprSt.loops (r : SprSt) : List SprLoop := if r.user then r.loopU else r.loopP
def SprSt.setLoops (r : SprSt) (l : List SprLoop) : SprSt := if r.user then { r with loopU := l } else { r with loopP := l }

/-- The return stack of the present mode. -/
def SprSt.rets (r : SprSt) : List Nat := if r.user then r.retU else r.retP
def SprSt.setRets (r : SprSt) (l : List Nat) : SprSt := if r.user then { r with retU := l } else { r with retP := l }

/-- The PC moves to word `p`; a PC that leaves the program memory is a BOUNDS fault (R268). -/
def State.sprGo (s : State) (p : Nat) : State := if p < 0x4000 then s.setSpr (fun r => { r with pc := p }) else s.sprFault 3

/-- The PC moves past an instruction that is no taken branch. -/
def State.sprNext (s : State) : State :=
  let x := loopNext s.spr.pc s.spr.loops
  (s.setSpr (·.setLoops x.2)).sprGo x.1

/-- A taken JMP or BR to `p`: one that leaves the body of the innermost loop ends it (R268). -/
def State.sprBranch (s : State) (p : Nat) : State :=
  let ls := match s.spr.loops with
    | l :: t => if l.first ≤ p ∧ p ≤ l.last then l :: t else t
    | [] => []
  (s.setSpr (·.setLoops ls)).sprGo p

/-! ## Issue and latency (R269) -/

/-- What the latency of an instruction depends on: the registers it reads, the accumulators it reads outside a MAC,
those a MAC writes, the register an LD loads, its sub-bank conflicts and other additional cycles; `later`: they are known, and
it is counted, when its Bridle response comes. -/
structure SprInfo where
  srcs : List (Fin 16) := []
  accs : List (Fin 4) := []
  macs : List (Fin 4) := []
  ld : Option (Fin 16) := none
  conflict : Nat := 0
  extra : Nat := 0
  later : Bool := false
deriving DecidableEq, Repr

/-- The cycles an instruction waits for an LD result or a MAC before it issues. -/
def SprSt.hazard (r : SprSt) (x : SprInfo) : Nat :=
  x.accs.foldl (fun m k => max m (3 - r.macAge.getD k.val 3))
    (if x.srcs.any (fun g => r.loaded == some g.val) then 1 else 0)

/-- Count `k` events where `k` is not 0. -/
def State.countSome (s : State) (ev k : Nat) (smp : Option SprSample) : State :=
  if k = 0 then s else s.countEvent ev 0 k smp

/-- An instruction issues: the performance counters of group 0x3 (Table 20-1) take it with its latency, and the hazards of
the next instruction are set. -/
def State.sprCount (s : State) (w : Nat) (x : SprInfo) : State :=
  let stall := s.spr.hazard x + x.conflict + x.extra
  let smp := some ⟨s.spr.pc, w, 1 + stall⟩
  let t := (((s.countSome 0xC0 1 smp).countSome 0xC1 stall smp).countSome 0xC2 (if x.macs = [] then 0 else 1) smp).countSome
    0xC3 x.conflict smp
  t.setSpr (fun r => { r with
    loaded := x.ld.map (·.val)
    macAge := (List.range 4).map (fun k =>
      if x.macs.any (fun m => m.val = k) then min 3 (1 + x.conflict) else min 3 (r.macAge.getD k 3 + 1 + stall)) })

/-- Spar has waited `k` cycles with an instruction in hand: the latest MACs are that much older (R269). -/
def State.sprWaited (s : State) (k : Nat) : State :=
  s.setSpr (fun r => { r with macAge := (List.range 4).map (fun a => min 3 (r.macAge.getD a 3 + k)) })

/-- A preempting event is pending in user mode (R272). -/
def State.sprPreempted (s : State) : Bool := s.spr.user && (s.get SPR.EVT_PEND &&& s.get SPR.PRIV_EV_PREEMPT) != 0

/-- Spar issues the word `w` next: it is powered and issuing, no event preempts it, and `w` stands at its PC. -/
def State.sprReady (s : State) (w : Nat) : Bool :=
  s.awake && s.spr.run == .running && !s.sprPreempted && (s.spr.insn s.spr.pc).toNat == w

/-- The fault an instruction meets before it executes, if any: user code in the privileged region, an uncorrectable
error, an illegal word, a privileged instruction in user mode, or what its own check `chk` finds. -/
def State.sprTrouble (s : State) (w : Nat) (e : SprEcc) (priv : Bool) (chk : SprSt → Option Nat) : Option Nat :=
  if s.spr.user ∧ s.spr.pc < 0x1000 then some 2
  else if e = .uncorrectable then some 6
  else if !sprLegal w then some 1
  else if priv && s.spr.user then some 2
  else chk s.spr

/-- A memory word that Spar reads is corrected (R262). -/
def State.sprCorrect (s : State) (e : SprEcc) : State := if e = .corrected then s.inc SPR.CNT_ECC_CNT else s

/-- Spar issues an instruction word: where it is not the next one there is no event; otherwise it takes the fault it
meets, or its effect `f`. `e` is what its fetch meets, `ds` what its reads of data words meet, in their order (R262). -/
def State.sprIssue (s : State) (w : Nat) (e : SprEcc) (priv : Bool) (chk : SprSt → Option Nat) (x : SprInfo)
    (f : State → State) (ds : List SprEcc := []) : State :=
  if !s.sprReady w then s
  else
    let t := s.sprCorrect e
    match t.sprTrouble w e priv chk with
    | some code => t.sprFault code
    | none =>
      let u := t.each ds (fun d v => v.sprCorrect d)
      if ds.contains .uncorrectable then u.sprFault 6 else f (if x.later then u else u.sprCount w x)

/-- No check of the instruction's own. -/
def noCheck (_ : SprSt) : Option Nat := none

/-- An instruction that writes general register `g` with a result, sets the flags and goes on (REG and IMM formats). -/
def State.sprAlu (s : State) (w : Nat) (e : SprEcc) (srcs : List (Fin 16)) (g : Fin 16) (res : SprSt → Word)
    (v : SprSt → Bool) : State :=
  s.sprIssue w e false noCheck { srcs := srcs } (fun t =>
    (t.setSpr (fun r => (r.put g (res r)).flags (res r) (v r))).sprNext)

/-- V stays clear. -/
def noV (_ : SprSt) : Bool := false

/-- A shift's amount. -/
def amount (x : Word) : Nat := x.toNat % 32

/-- imm18 sign-extended and zero-extended (R267). -/
def immS (i : BitVec 18) : Word := i.signExtend 32
def immZ (i : BitVec 18) : Word := i.zeroExtend 32

/-! ## Data memory and address generators (R261, R266, R268) -/

/-- The fault of a data address, if any: BOUNDS, ALIGN, then PRIV for the privileged regions in user mode. -/
def SprSt.badAddr (r : SprSt) (a : Word) : Option Nat :=
  if 0x20000 ≤ a.toNat then some 3
  else if a.toNat % 4 ≠ 0 then some 4
  else if r.user ∧ a.toNat % 0x10000 < 0x2000 then some 2
  else none

/-- The first fault of a list of data addresses. -/
def SprSt.badAddrs (r : SprSt) (l : List Word) : Option Nat := l.findSome? r.badAddr

/-- AG4 to AG7 are out of reach of user mode. -/
def SprSt.badAg (r : SprSt) (a : Fin 8) : Option Nat := if r.user ∧ 4 ≤ a.val then some 2 else none

/-- A generator advanced once: linear, or circular within [B, B + L) (R266). -/
def SprAg.next (g : SprAg) : SprAg :=
  if g.l = 0 then { g with p := g.p + g.s }
  else { g with p := BitVec.ofInt 32 (g.b.toNat + ((g.p.toNat : Int) - g.b.toNat + g.s.toInt) % (g.l.toNat : Int)) }

/-- A generator advanced `k` times. -/
def SprAg.nextN (g : SprAg) (k : Nat) : SprAg :=
  match k with
  | 0 => g
  | k + 1 => (g.nextN k).next

/-- Advance generator `a` `k` times. -/
def SprSt.agAdvance (r : SprSt) (a : Fin 8) (k : Nat) : SprSt := { r with ag := vset r.ag a ((r.ag.get a).nextN k) }

/-- The extra cycles of words that share a sub-bank, bits [3:2] of their bank's address (R261, R269). -/
def conflicts (l : List Word) : Nat :=
  l.length - (l.map (fun a => (a.toNat / 0x10000 % 2, a.toNat / 4 % 4))).eraseDups.length

/-- The data word at an address. -/
def SprSt.load (r : SprSt) (a : Word) : Word := r.datum a.toNat

/-- A field of a generator: 0 P, 1 B, 2 L, 3 S. -/
def SprAg.field (g : SprAg) (f : Fin 4) : Word := if f = 0 then g.p else if f = 1 then g.b else if f = 2 then g.l else g.s
def SprAg.setField (g : SprAg) (f : Fin 4) (v : Word) : SprAg :=
  if f = 0 then { g with p := v } else if f = 1 then { g with b := v } else if f = 2 then { g with l := v }
  else { g with s := v }

/-! ## Multiply-accumulate and accumulator moves (R263 to R265) -/

/-- A MAC operand: bits [31:14] as an 18-bit two's complement value. -/
def macOp (x : Word) : Int := sext 18 (x.toNat / 16384)

/-- The bounds of an accumulator. -/
def sat48 (x : Int) : Int := clamp (-140737488355328) 140737488355327 x

/-- Accumulator `k` takes a product; one held at a bound sets ACC_OVF bit k. -/
def State.macAcc (s : State) (clr neg : Bool) (k : Fin 4) (p : Int) : State :=
  let x := (if clr then 0 else s.spr.acc.get k) + (if neg then -p else p)
  let t := s.setSpr (fun r => { r with acc := vset r.acc k (sat48 x) })
  if sat48 x = x then t else t.setBit SPR.STATUS_ACC_OVF k.val true

/-- SHIFT of an accumulator; values above 40 act as 40 (Table 12-8). -/
def State.scaleOf (s : State) (k : Fin 4) : Nat := min 40 (s.get (SPR.SCALE_SHIFT k.val))

/-- MOVA's value before SAT_EN acts: the accumulator over 2^SHIFT, rounded half to even (R265). -/
def State.movaExact (s : State) (k : Fin 4) : Int := roundDiv (s.spr.acc.get k) (2 ^ s.scaleOf k)

/-- MOVA moves an accumulator to a register, and clears it if asked. -/
def State.mova (s : State) (gd : Fin 16) (k : Fin 4) (clr : Bool) : State :=
  let x := s.movaExact k
  let sat := s.flag (SPR.SCALE_SAT_EN k.val)
  let v := if sat then sat32 x else BitVec.ofInt 32 x
  let t := s.setSpr (fun r => { (r.put gd v) with acc := if clr then vset r.acc k 0 else r.acc })
  if sat && ovf32 x then t.setBit SPR.STATUS_SAT k.val true else t

/-- LDA moves a register into an accumulator (R265); one held at a bound sets ACC_OVF (R263). -/
def State.lda (s : State) (g : Fin 16) (k : Fin 4) : State :=
  let x := (s.spr.reg g).toInt * 2 ^ s.scaleOf k
  let t := s.setSpr (fun r => { r with acc := vset r.acc k (sat48 x) })
  if sat48 x = x then t else t.setBit SPR.STATUS_ACC_OVF k.val true

/-! ## Control flow (R268, R270 to R273) -/

/-- A branch condition holds (Table 12-4). -/
def SprSt.cond (r : SprSt) (c : BitVec 4) : Bool :=
  match c.toNat with
  | 0 => r.z
  | 1 => !r.z
  | 2 => r.n != r.v
  | 3 => r.n == r.v
  | 4 => !r.z && r.n == r.v
  | 5 => r.z || r.n != r.v
  | 6 => r.v
  | 7 => !r.v
  | _ => true

/-- The executive takes control from user code, as by event DOORBELL (R279). DESIGN CHOICE (log 204): the spec does not say how. -/
def State.takeOver (s : State) : State :=
  match s.spr.run with
  | .io _ _ _ _ => s.setSpr (fun r => { r with leave := true })
  | .halted => s
  | _ => s.setSpr (fun r => { (r.enterPriv r.pc 0x13) with leave := false })

/-- Spar goes on after a WAIT or a Bridle response: it halts where RUN = 0 was written meanwhile (R280), and leaves user code
where the executive has asked for it. -/
def State.ioAfter (s : State) : State :=
  if s.spr.haltPend then s.setSpr (fun r => { r with run := .halted, haltPend := false, leave := false })
  else if s.spr.leave then (if s.spr.user then s.takeOver else s.setSpr (fun r => { r with leave := false }))
  else s

/-- The events of a WAIT mask that are pending are cleared, and Spar goes on (R270). -/
def State.waitDone (s : State) (mask : Nat) : State :=
  (((s.set SPR.EVT_PEND (s.get SPR.EVT_PEND - (s.get SPR.EVT_PEND &&& mask))).setSpr (fun r => { r with run := .running })).sprNext).ioAfter

/-- An LDIO or STIO has stalled for `cycles`: it is counted with its whole latency (R269). -/
def State.ioStalled (s : State) (write : Bool) (cycles : Nat) : State :=
  let w := (s.spr.insn s.spr.pc).toNat
  let ga : Fin 16 := Fin.ofNat 16 (bits w 18 4)
  let x : SprInfo := { srcs := if write then [Fin.ofNat 16 (bits w 22 4), ga] else [ga], extra := cycles }
  (s.countSome 0xC4 cycles (some ⟨s.spr.pc, w, 1 + s.spr.hazard x + cycles⟩)).sprCount w x

/-- The lowest event that is pending and preempts. -/
def State.preemptBit (s : State) : Option Nat :=
  (List.range 5).find? (fun k => s.bitOf SPR.EVT_PEND k && s.bitOf SPR.PRIV_EV_PREEMPT k)

/-- A preempting event returns user mode to privileged mode (R272). -/
def State.preempt (s : State) : State :=
  if !s.awake || !s.spr.user then s
  else
    match s.spr.run, s.preemptBit with
    | .running, some k => s.setSpr (fun r => r.enterPriv r.pc (0x10 + k))
    | .waiting _, some k => s.setSpr (fun r => r.enterPriv r.pc (0x10 + k))
    | _, _ => s

/-- A value of G1 after a service of the executive, which preserves every user register but it (R273). -/
def State.serviceDone (s : State) : State :=
  (s.setSpr (fun r => { (r.put 1 (BitVec.ofNat 32 (s.drawn 20 32))) with service := none })).drew

/-- SPR_CTRL.RUN is written by Gondola (R271, R280): 1 starts a halted Spar in privileged mode at word 0, 0 halts it after
the instruction in progress; `issue`: the write falls with the issue of the WAIT in progress. After a second privileged fault it
stays halted (R274). -/
def State.sprRunWrite (s : State) (v : Bool) (issue : Bool := false) : State :=
  let t := s.setB SPR.CTRL_RUN v
  if !s.awake then s
  else if v then
    if s.spr.run == .halted && !s.spr.lasting then t.setSpr SprSt.start else t.setSpr (fun r => { r with haltPend := false })
  else
    match s.spr.run, issue with
    | .io _ _ _ _, _ => t.setSpr (fun r => { r with haltPend := true })
    | .waiting _, true => t.setSpr (fun r => { r with haltPend := true })
    | _, _ => t.setSpr (fun r => { r with run := .halted, haltPend := false })

/-- Resident firmware loads the executive at boot and sets RUN (R271, R277). -/
def State.sparBoot (s : State) : State := (s.setSpr (·.execLoad (s.get CFG.FW_SEQ_SEQ))).sprRunWrite true

/-- SPR_CMD.USER_RESTART (R273, Table 12-9): ignored while no user program is loaded or USER_EN = 0; the executive enters the
program at its entry word next. -/
def State.userRestart (s : State) : State :=
  if !s.awake || !s.flag SPR.STATUS_USER_LOADED || !s.flag SPR.CTRL_USER_EN then s
  else (s.on SPR.CMD_USER_RESTART).setSpr (fun r => { r with phase := .ready })

/-- A RETU by the executive is one it makes (R271, R273, R279): a user program is loaded and USER_EN = 1; one that has ended is not
entered, and one that starts is entered at its entry word. Without an executive any RETU is made. -/
def State.retuOpen (s : State) (u : Bool) (target : Nat) : Bool :=
  s.spr.exec.isNone || (s.flag SPR.STATUS_USER_LOADED && s.flag SPR.CTRL_USER_EN &&
    (match s.spr.phase with
     | .ready => !u && target == s.spr.entry
     | .entered => true
     | .ended => false))

/-- SPR_CMD.CNT_CLR (Table 12-9). -/
def State.sprCntClr (s : State) : State := (s.off SPR.CNT_FAULT_CNT).off SPR.CNT_ECC_CNT

/-! ## The indirect space (R282, Table 12-10) -/

/-- The life-cycle state is FIELD (Table 22-4). -/
def State.isField (s : State) : Bool := s.get GLB.LC_STATE == 3

/-- The word at an address of the indirect space. -/
def SprSt.memWord (r : SprSt) (a : Nat) : Word :=
  if a < 0x10000 then r.insn (a / 4)
  else if a < 0x30000 then r.datum (a - 0x10000)
  else (r.ag.get (Fin.ofNat 8 (a / 16))).field (Fin.ofNat 4 (a / 4))

/-- Write a word of the indirect space. -/
def SprSt.setMemWord (r : SprSt) (a : Nat) (v : Word) : SprSt :=
  if a < 0x10000 then r.setInsn (a / 4) v
  else if a < 0x30000 then r.setDatum (a - 0x10000) v
  else { r with ag := vset r.ag (Fin.ofNat 8 (a / 16)) ((r.ag.get (Fin.ofNat 8 (a / 16))).setField (Fin.ofNat 4 (a / 4)) v) }

/-- A write R282 refuses: program memory while Spar is not halted or in FIELD, a privileged region or AG4 to AG7 in
FIELD. -/
def State.memLocked (s : State) (a : Nat) : Bool :=
  if a < 0x10000 then s.spr.run != .halted || s.isField
  else if a < 0x30000 then s.isField && decide (a % 0x10000 < 0x2000)
  else s.isField && decide (0x30040 ≤ a)

/-- A memory word read through SPR_MEM_DATA meets an error (R262): a correctable one is corrected and counted. An uncorrectable one
is recorded as the fault ECC, its value open. DESIGN CHOICE (log 205): Spar itself goes on. -/
def State.memMeet (s : State) (e : SprEcc) (v : Nat) : State :=
  match e with
  | .clean => s.respond (.data v)
  | .corrected => (s.sprCorrect .corrected).respond (.data v)
  | .uncorrectable => ((s.sprRecord 6).respond (.data (s.drawn 12 32))).drew

/-- A data access through SPR_MEM_DATA (R282): faults in the order of R362. What a read meets is of a memory word by its
code (R262), of a generator's word by its parity (R365). -/
def State.sprMemAccess (s : State) (i : Initiator) (acc : DataAcc) : State :=
  let f := SPR.MEM_ADDR_ADDR.forInit i.code
  let a := s.get f / 4 * 4
  let wr := acc.isWrite
  let fault (kind : Nat) : State := s.accessError i.code SPR.MEM_DATA_DATA.addr kind wr 4
  if !s.mayAccess i then s
  else if wr && decide (a < 0x30080) && s.memLocked a then fault 5
  else if 0x30080 ≤ a then fault 8
  else
    match acc with
    | .write v =>
      (((s.setSpr (·.setMemWord a v)).parityRight (0x100310000 + a)).advance i.code SPR.MEM_ADDR_ADDR SPR.MEM_ADDR_STRIDE).respond .done
    | _ =>
      if 0x30000 ≤ a ∧ (acc.ecc ≠ .clean ∨ s.brd.parityBad.contains (0x100310000 + a) = true) then
        (s.pairParity (0x100310000 + a) SPR.MEM_DATA_DATA.addr).accessError i.code SPR.MEM_DATA_DATA.addr 9 false 4
      else (s.memMeet acc.ecc (s.spr.memWord a).toNat).advance i.code SPR.MEM_ADDR_ADDR SPR.MEM_ADDR_STRIDE

/-- User mode may reach an address of the Bridle space (Table 12-6). -/
def State.sprMay (s : State) (a : Nat) (write : Bool) : Bool :=
  if 0xA0000 ≤ a ∧ a < 0xB0000 then true
  else if a = 0xB0000 then true
  else if 0xB0100 ≤ a ∧ a < 0xB0700 then
    let c := (a - 0xB0100) / 0x40
    let o := (a - 0xB0100) % 0x40
    s.bitOf SPR.USER_BDA_USER_BDA c && (!write || o == 0x00 || o == 0x04 || o == 0x14)
  else if 0xC0000 ≤ a ∧ a < 0xD0000 then !write
  else if 0x60000 ≤ a ∧ a < 0x70000 then s.flag SPR.CTRL_PMU_USER_EN
  else if 0x1F0000 ≤ a ∧ a < 0x200000 then
    !write || (decide (0x1F0010 ≤ a) && decide (a ≤ 0x1F0020)) || (decide (0x1F0100 ≤ a) && decide (a < 0x1F0120))
  else false

/-- The fault of LDIO and STIO before they issue: ALIGN, then PRIV (R268, R276). -/
def State.ioCheck (s : State) (ga : Fin 16) (imm : BitVec 18) (write : Bool) (r : SprSt) : Option Nat :=
  let a := (r.reg ga + immS imm).toNat
  if a % 4 ≠ 0 then some 4 else if r.user && !s.sprMay a write then some 2 else none

/-- Spar loses its power in Shelf (R277): it is off, and its memories wait for the next boot. -/
def State.sprOff (s : State) : State := { s with spr := {} }

end Sys2Proof.Machine
end

