-- ==== Sys2Proof/Machine/ViewOps.lean ====
section
/-!
DEFINITION. What a register reads as: the fields that follow other state, and the words built from them (R360, R367,
R431).
-/

namespace Sys2Proof.Machine

open Sys2Proof

/-! ## Interrupts (R431, Table 21-4) -/

/-- Some W1C flag of the word at `a` is set. -/
def State.anyW1c (s : State) (a : Nat) : Bool := (fieldsAt a).any (fun f => f.acc == .w1c && s.get f != 0)

/-- The source condition of vector `v`. -/
def State.vectorPend (s : State) (v : Nat) : Bool :=
  if v = 0 then s.flag GLB.MBX_STATUS_DONE
  else if v = 1 then s.flag STR.STATUS_ALM_NEW || s.flag STR.STATUS_ALM_OVF
  else if v = 2 then (List.range 8).any (fun i => s.bitOf PMU.STATUS_OVF i && s.flag (PMU.PMC_OVF_IRQ i))
  else if v = 3 then s.flag MEM.STATUS_CE_BURST || s.flag MEM.STATUS_UE || s.flag MEM.STATUS_SPARES_OUT || s.flag MEM.STATUS_QDR_FAIL
  else if v = 4 then s.anyW1c SAF.EVT_TRIP.addr
  else if v = 5 then s.anyW1c THM.STATUS_WARN.addr
  else if v = 6 then s.flag PWR.STATUS_LADDER_END || s.flag PWR.STATUS_WAKE_STALL || s.flag PWR.STATUS_DOMAIN_ABORT
  else if v = 7 then s.flag SPR.EVT_HOST_EVT
  else if v < 16 then s.flag (REEL.CH_STATUS_DONE (v - 8)) || s.flag (REEL.CH_STATUS_ERR (v - 8))
  else if v < 24 then s.bitOf EVT.PORT_CHG_PORT_CHG (v - 16) || s.anyW1c (PORT.STATUS_STATE (v - 16)).addr
  else if v < 32 then
    let n := v - 24
    [(LN.RX_STATUS_OVR n).addr, (LN.EQ_EVENTS_GUARD_FREEZE n).addr, (LN.FRM_STATUS_FRAME_LOSS n).addr,
     (LN.LOC_STATUS_CRC_ERR n).addr, (LN.TX_STATUS_CLIP n).addr, (CAL.LANE_EVENTS_REJECT n).addr,
     (PRBS.STATUS_SAT (0x100600 + 0x10000 * n)).addr].any s.anyW1c
  else if v < 48 then
    let j := v - 32
    [(HL.RX_STATUS_HOST_LOS j).addr, (HL.TX_STATUS_PRESET_REJ j).addr, (HL.TRN_STATUS_TRAIN_DONE j).addr,
     (PRBS.STATUS_SAT (0x180400 + 0x4000 * j)).addr].any s.anyW1c
  else if v < 56 then s.anyW1c (KL.STATUS_TX_ABORT (v - 48)).addr || s.flag (KL.STATUS_RX_FULL (v - 48))
  else if v = 56 then s.anyW1c TTH.STATUS_CFG_ERR.addr
  else if v = 57 then s.anyW1c GLB.BRD_STATUS_ACCESS.addr
  else if v = 58 then s.anyW1c SND.STATUS_OVR.addr
  else if v = 59 then (List.range 24).any (fun c => s.anyW1c (BDA.CHSTATUS_LEVEL c).addr)
  else if v < 63 then s.flag TTH.STATUS_ROLE && bit s.tth.int (v - 60)
  else false

/-- 32 conditions as a word, the first in bit 0. -/
def word32 (f : Nat → Bool) : Nat := (List.range 32).foldl (fun x k => x + (f k).toNat * 2 ^ k) 0

/-- INT_N is asserted while a pending vector is enabled. -/
def State.intN (s : State) : Bool := (List.range 64).any (fun v => s.vectorPend v && s.bitOf (EVT.EN_EN (v / 32)) (v % 32))

/-! ## Fields that follow other state -/

/-- A field of the device-wide blocks, where it follows other state. -/
def State.viewDevice (s : State) (f : Field) : Option Nat :=
  if f = GLB.ID_VARIANT then some (if s.variant then 2 else 1)
  else if f = PWR.STATUS_DEV_STATE then
    some (match s.pwr.dev with | .off => 0 | .shelf => 0 | .waking _ => 1 | .doze => 2 | .run => 3)
  else if f = PWR.STATUS_CAUSES then some s.causes
  else if f = SAF.STATUS_CLR_NZ then some s.clrNz.toNat
  else if f = EVT.PEND_PEND 0 then some (word32 s.vectorPend)
  else if f = EVT.PEND_PEND 1 then some (word32 (fun k => s.vectorPend (32 + k)))
  else if f = STR.TIME_TIME 0 then some (s.now % 2 ^ 32)
  else if f = STR.TIME_TIME 1 then some (s.now / 2 ^ 32 % 2 ^ 16)
  else if f = STR.STATUS_ALARM_N_NOW then some s.alarmN.toNat
  else if f = BDA.STATUS_CLR_PIN then some (s.flag SAF.STATUS_CLR_PIN_NOW).toNat
  else if f = BDA.STATUS_BRACE then some s.braced.toNat
  else if f = BDA.EVT_CH_EVT then some (word32 (fun c => decide (c < 24) && s.anyW1c (BDA.CHSTATUS_LEVEL c).addr))
  else if f = SND.FIFO_LEVEL_LEVEL then some s.snd.fifo.length
  else if f = SPR.STATUS_STATE then some s.spr.stateCode
  else if f = SPR.STATUS_PC then some s.spr.pc
  else if f = PCI.STATUS_L1 then some (decide (s.pwr.dev = .doze) && s.get PCI.STATUS_SPEED != 0).toNat
  else if f = TTH.CTRL_UP_EN then if s.flag TTH.STATUS_ROLE then some 0 else none
  else none

/-- A field of a bias channel, where it follows other state: the PIN and RIP causes of FORCED (Table 10-2). -/
def State.viewChan (s : State) (f : Field) : Option Nat :=
  let c := (f.addr - 0xB0100) / 0x40
  if f = BDA.CHSTATUS_FORCED c then
    some ((s.pinForced c).toNat + 2 * (s.ripForced c).toNat + 4 * (s.rangeForced c).toNat)
  else none

/-- A field of a port. -/
def State.viewPort (s : State) (f : Field) : Option Nat :=
  let k : PortId := Fin.ofNat 8 ((f.addr - 0x31000) / 0x20)
  if f = PORT.STATUS_HOLD k then some (s.hold k)
  else if f = PORT.STATUS_HOST_WAIT k then some (s.hostWait k).toNat
  else if f = PORT.STATUS_HANDSHAKE k then some (s.handshake k).toNat
  else none

/-- A field of a line lane or of its calibration. -/
def State.viewLane (s : State) (f : Field) (n : Lane) : Option Nat :=
  if f = LN.EQ_STATUS_ADAPT_STATE n then some (s.adaptState n)
  else if f = LN.EQ_STATUS_FREEZE_SRC n then some (s.freezeSrc n)
  else if f = LN.EQ_STATUS_PRESHED_BUSY n then some ((s.ln n).eq.ramp.isSome).toNat
  else if f = CAL.LANE_STATUS_MODE n then some (s.calMode n)
  else if f = CAL.LANE_SET_POINTS n then some (s.points n).length
  else if f = CAL.LANE_STATUS_RAMPING n then some (!(s.ln n).cal.applied.isEmpty).toNat
  else none

/-- The value a read shows of a field. -/
def State.view (s : State) (f : Field) : Nat :=
  let a := f.addr
  let derived : Option Nat :=
    if 0xB0100 ≤ a ∧ a < 0xB0700 then s.viewChan f
    else if 0x31000 ≤ a ∧ a < 0x31100 then s.viewPort f
    else if 0xD0100 ≤ a ∧ a < 0xD0300 then s.viewLane f (Fin.ofNat 8 ((a - 0xD0100) / 0x40))
    else if 0x100000 ≤ a ∧ a < 0x180000 then s.viewLane f (Fin.ofNat 8 ((a - 0x100000) / 0x10000))
    else if 0x180000 ≤ a ∧ a < 0x1C0000 then
      let j : Host := Fin.ofNat 16 ((a - 0x180000) / 0x4000)
      if f = HL.RX_STATUS_ADAPT_STATE j then some (s.hostAdaptState j) else none
    else s.viewDevice f
  derived.getD (s.get f)

/-! ## Words -/

/-- The address and stride registers of indirect pairs, which each initiator has for itself (R366). -/
def isPairAddr (a : Nat) : Bool :=
  (decide (0x100000 ≤ a) && decide (a < 0x180000) && (a % 0x10000 == 0x40 || a % 0x10000 == 0x120 || a % 0x10000 == 0x440)) ||
    (decide (0x180000 ≤ a) && decide (a < 0x1C0000) && a % 0x4000 == 0x40) || a == 0x1F0040

/-- The field as initiator `i` sees it. -/
def seenBy (i : Nat) (f : Field) : Field := if isPairAddr f.addr then f.forInit i else f

/-- The word at `a` as initiator `i` reads it: WM mask bits and bits of no field read zero; a complement word reads as the
complement of the value in force (R367). -/
def State.viewWord (s : State) (i a : Nat) : Nat :=
  let w (a : Nat) : Nat := (fieldsAt a).foldl (fun v f => v + s.view (seenBy i f) * 2 ^ f.lo) 0
  if (fieldsAt a).isEmpty && isComplement a then 2 ^ 32 - 1 - w (a - 4) else w a

end Sys2Proof.Machine
end

