-- ==== Sys2Proof/Machine/StrOps.lean ====
section
/-!
DEFINITION. Reads of the Streamer and of the capture memories that pop or copy (R414, R418, R432).
-/

namespace Sys2Proof.Machine

open Sys2Proof

/-- The port of a ring is enabled (R418). -/
def State.ringOn (s : State) (g : Nat) : Bool := s.flag (if g = 0 then STR.CTRL_LOG_PORT_EN else STR.CTRL_TRACE_PORT_EN)

/-- A 32-bit read of a ring port by initiator `i`: the word at RD, and RD advances by 4; an empty ring or a port that is off reads zero
(R418). The memory word is read as any other; `e` is what its code finds (R380, R385). -/
def State.ringPop (s : State) (i g : Nat) (e : SprEcc) : State :=
  if !s.ringOn g || s.ringUnread g == 0 then s.respond (.data 0)
  else
    let rd := s.get (STR.RING_RD_RD g) % s.ringSize g
    let a := s.get (STR.RING_BASE_BASE g) + rd
    let t := s.readHit (wordOf a)
    let v := readLE t.mem.cells a 4
    ((s.memTouch i (wordOf a) e).set (STR.RING_RD_RD g) ((rd + 4) % s.ringSize g)).respond
      (if t.spoilt (wordOf a) e then .poisoned v else .data v)

/-- Word `w` of alarm entry `e` is read by initiator `i`: word 0 copies the whole entry, the others come from the copy
where the initiator holds one of this entry (R414). -/
def State.almRead (s : State) (i e w : Nat) : State :=
  let base := (STR.ALM0_ID e).addr
  if w = 0 then
    let ws := (List.range 8).map (fun k => s.viewWord i (base + 4 * k))
    ({ s with str := { s.str with almCopy := assocPut s.str.almCopy i (e, ws) } }).respond (.data (ws.headD 0))
  else
    match assocFind s.str.almCopy i with
    | some c => s.respond (.data (if c.1 = e then c.2.getD w 0 else s.viewWord i (base + 4 * w)))
    | none => s.respond (.data (s.viewWord i (base + 4 * w)))

/-- A read of CAP_PORT pops a captured word; with none left it reads zero (R432). -/
def State.capPop (s : State) (n : Lane) : State :=
  let c := s.cap.get n
  ({ s with cap := vset s.cap n { c with words := c.words.drop 1 } }).respond (.data (c.words.headD 0))

end Sys2Proof.Machine
end

