-- ==== Sys2Proof/Machine/TstOps.lean ====
section
/-!
DEFINITION. The self-test engine and SAFE_HOLD (R456, R459).
-/

namespace Sys2Proof.Machine

open Sys2Proof

/-- TST_HOLD_REL is written by its guarded pair (R456). -/
def State.holdRelease (s : State) (v : Nat) : State :=
  if v % 2 = 0 then s
  else if s.flag TST.STATUS_POST_PASS then (s.off TST.STATUS_SAFE_HOLD).portsEval
  else s.on TST.STATUS_HOLD_REFUSED

/-- A logic slice the variant has (Table 22-5). -/
def State.logicSlice (s : State) (c : Nat) : Bool := decide (1 ≤ c) && decide (c ≤ (if s.variant then 0x0C else 0x0B))

/-- START: one logic slice runs, refused unless every port is DOWN (R459); its partition is reset. -/
def State.engStart (s : State) : State :=
  if !s.lcOpen || s.flag TST.STATUS_ENG_BUSY || !s.logicSlice (s.get TST.ENG0_SLICE) ||
      !(List.finRange 8).all (fun k => s.pstate k == 0) then s
  else ((s.partitionReset (s.get TST.ENG0_SLICE)).on TST.STATUS_ENG_BUSY).on TST.ENG0_START

/-- The run ends with its signature: a free value of the slice, the seed (0 acts as 1) and the pattern count, since the spec
gives neither the PRPG nor the MISR. -/
def State.engDone (s : State) : State :=
  if s.flag TST.STATUS_ENG_BUSY then
    ((s.off TST.STATUS_ENG_BUSY).off TST.ENG0_START).set TST.ENG3_MISR
      (Config.misr (s.get TST.ENG0_SLICE) (max 1 (s.get TST.ENG1_SEED)) (s.get TST.ENG2_PATTERNS) s.variant).toNat
  else s

/-- A write of TST_ENG (Table 22-8), open in FAB, VENDOR and RETURN. -/
def State.engWrite (s : State) (a v : Nat) : State :=
  if a = TST.ENG0_SLICE.addr then
    let t := s.setIf (decide (1 ≤ bits v 0 5 ∧ bits v 0 5 ≤ 0x0C)) TST.ENG0_SLICE (bits v 0 5)
    if bit v 8 then t.engStart else t
  else if a = TST.ENG1_SEED.addr then s.set TST.ENG1_SEED v
  else if a = TST.ENG2_PATTERNS.addr then s.set TST.ENG2_PATTERNS v
  else s

end Sys2Proof.Machine
end

