-- ==== Sys2Proof/Machine/TthOps.lean ====
section
/-!
DEFINITION. The tether (R434 to R441): links, reachability, the messages a device acts on, sends and forwards.
-/

namespace Sys2Proof.Machine

open Sys2Proof

/-- A tether port: 0 UP, 1 DOWN. -/
abbrev TthId := Fin 2

/-- Change the tether's state. -/
def State.setTth (s : State) (f : TthSt → TthSt) : State := { s with tth := f s.tth }

/-- A port's link state. -/
def State.tp (s : State) (p : TthId) : TthPort := if p = 0 then s.tth.up else s.tth.down

/-- Change a port's link state. -/
def State.setTp (s : State) (p : TthId) (f : TthPort → TthPort) : State :=
  s.setTth (fun t => if p = 0 then { t with up := f t.up } else { t with down := f t.down })

/-- This device is the anchor, and its ID. -/
def State.isAnchor (s : State) : Bool := s.flag TTH.STATUS_ROLE
def State.stackId (s : State) : Nat := s.get TTH.STATUS_ID

/-- The straps contradict each other (R435). -/
def State.strapsWrong (s : State) : Bool := s.isAnchor != (s.stackId == 0)

/-- The port runs: PLG3208-B, awake, right straps, its enable set; the anchor has no UP (R435, R436). -/
def State.tthRuns (s : State) (p : TthId) : Bool :=
  s.variant && s.awake && !s.strapsWrong &&
    (if p = 0 then !s.isAnchor && s.flag TTH.CTRL_UP_EN else s.flag TTH.CTRL_DOWN_EN)

/-- The LINK bit of a port. -/
def linkBit (p : TthId) : Field := if p = 0 then TTH.STATUS_UP_LINK else TTH.STATUS_DOWN_LINK

/-- A port is UP. -/
def State.linkUp (s : State) (p : TthId) : Bool := s.flag (linkBit p)

/-- The other port. -/
def otherPort (p : TthId) : TthId := if p = 0 then 1 else 0

/-- What this device has sent in answer to the command in hand. -/
def State.send (s : State) (p : TthId) (type : Nat) (body : List Nat) : State :=
  if s.linkUp p then s.setTth (fun t => { t with sent := t.sent ++ [(p.val, type, body)] }) else s

/-- No message has been sent yet. -/
def State.sendNone (s : State) : State := s.setTth (fun t => { t with sent := [] })

/-- A LINK message: this device's ID and what it reaches on its other side (Table 21-7); a port with block lock sends it. -/
def State.linkSend (s : State) (p : TthId) : State :=
  if (s.tp p).lock then
    s.setTth (fun t => { t with sent := t.sent ++
      [(p.val, 1, [s.stackId, if s.linkUp (otherPort p) then (s.tp (otherPort p)).beyond else 0])] })
  else s

/-- REACH follows the partners and what they reach (R436); a member that is reached no more asks for no token, and a
member that reaches the anchor no more has lost it (R161). -/
def State.reachShow (s : State) : State :=
  let m (p : TthId) : Nat := if s.linkUp p then (s.tp p).beyond % 16 else 0
  let r := m 0 ||| m 1
  let t := (s.set TTH.STATUS_REACH r).setTth (fun t => { t with remote := t.remote.filter (fun q => q.2.2 || bit r q.2.1) })
  if t.noAnchor && !s.noAnchor then t.anchorLost else t

/-- A port leaves UP, or has no partner: LINK_LOSS, TETHER_DOWN, and LINK toward the other side (R436). -/
def State.linkDown (s : State) (p : TthId) : State :=
  let t := s.setTp p (fun q => { q with lock := false, linked := false, beyond := 0 })
  if s.linkUp p then
    let u := ((t.off (linkBit p)).on TTH.STATUS_LINK_LOSS).reachShow
    (u.alarm 0x19 p.val 0).linkSend (otherPort p)
  else t

/-- A sync header of 64b/66b marks a data or a control block (R434). -/
def hdrValid (h : BitVec 2) : Bool := h == 1 || h == 2

/-- The headers, in order of arrival, hold 64 valid ones in succession. -/
def hdrsLock (hs : List (BitVec 2)) : Bool :=
  hs.foldl (fun r h => if 64 ≤ r then r else if hdrValid h then r + 1 else 0) 0 == 64

/-- Invalid headers and discarded blocks are counted (R434, Table 21-7). -/
def State.syncErrs (s : State) (p : TthId) (n : Nat) : State := s.incBy (if p = 0 then TTH.CNT1_UP_SYNC_ERR else TTH.CNT1_DOWN_SYNC_ERR) n

/-- The headers `hs` arrive: the invalid ones are counted, and block lock is gained after 64 consecutive valid headers (R434),
where the port announces itself. -/
def State.blockLock (s : State) (p : TthId) (hs : List (BitVec 2)) : State :=
  if s.tthRuns p then
    let t := s.syncErrs p (hs.countP (fun h => !hdrValid h))
    if hdrsLock hs && !(s.tp p).lock then (t.setTp p (fun q => { q with lock := true })).linkSend p else t
  else s

/-- The headers `hs` of 64 blocks arrive, and `dropped` blocks of reserved types are discarded: the invalid headers and those
blocks are counted; 16 invalid headers lose block lock (R434, Table 21-7). -/
def State.blockLoss (s : State) (p : TthId) (hs : List (BitVec 2)) (dropped : Nat) : State :=
  if s.tthRuns p then
    let errs := (hs.take 64).countP (fun h => !hdrValid h)
    let t := s.syncErrs p (errs + dropped)
    if 16 ≤ errs && (s.tp p).lock then t.linkDown p else t
  else s

/-- A port that is not UP restarts its receiver, 10 ms after the latest restart or the loss: `us` later (R436). -/
def State.tthRetry (s : State) (p : TthId) (us : Nat) : State :=
  if s.tthRuns p && !s.linkUp p && decide (10000 ≤ us) then
    (s.inc (if p = 0 then TTH.CNT0_UP_RETRY else TTH.CNT0_DOWN_RETRY)).setTp p (fun q => { q with lock := false, linked := false })
  else s

/-- The anchor sends TIME (R439). -/
def State.timeOut (s : State) : State := if s.isAnchor then s.send 1 5 [s.now] else s

/-- A LINK message with its sender's ID and the IDs that one reaches beyond (R435, R436): the DOWN partner's ID must be one
higher, the UP partner's one lower. The anchor sends TIME at each link-up: its own, or one further along the chain that brings a member into reach
(R439). -/
def State.linkIn (s : State) (p : TthId) (id beyond : Nat) : State :=
  if !s.tthRuns p || !(s.tp p).lock then s
  else if p = 1 ∧ id ≠ s.stackId + 1 then (s.linkDown p).on TTH.STATUS_ID_ERR
  else if p = 0 ∧ id + 1 ≠ s.stackId then s.linkDown p
  else
    let rose := !s.linkUp p
    let t := ((s.setTp p (fun q => { q with linked := true, wasUp := true, beyond := beyond ||| 2 ^ id })).on (linkBit p)).reachShow
    let u := if rose then (t.alarmEnd 0x19 p.val).linkSend p else t
    let v := u.linkSend (otherPort p)
    if rose || s.get TTH.STATUS_REACH ||| v.get TTH.STATUS_REACH != s.get TTH.STATUS_REACH then v.timeOut else v

/-! ## Messages (R437, Table 21-7) -/

/-- The words of an ALARM message. -/
def almBody (m : AlmMsg) : List Nat := [m.stack, m.id, m.inst, m.active.toNat, m.unacked.toNat, m.count, m.code]

/-- The anchor enters a member's change in its own table (R412): a higher COUNT, or a key it does not hold, is an
occurrence; an end of the condition ends it. -/
def State.almTake (s : State) (m : AlmMsg) : State :=
  let e := s.almEntry m.stack m.id m.inst
  let known := s.almIs m.stack m.id m.inst e && e != 63
  if !known || s.get (STR.ALM1_COUNT e) < m.count then
    let t := s.alarmFrom m.stack m.id m.inst m.code m.active
    let f := t.almEntry m.stack m.id m.inst
    t.setIf (f != 63) (STR.ALM1_COUNT f) m.count
  else if m.active then s
  else s.alarmEndFrom m.stack m.id m.inst

/-- An ALARM message from the chain: entered by the anchor, queued toward it by a member (R437). -/
def State.almIn (s : State) (m : AlmMsg) : State :=
  if !s.linkUp 1 then s else if s.isAnchor then s.almTake m else s.almForward m

/-- The oldest change that waits is sent toward the anchor (R412, R437). -/
def State.almOut (s : State) : State :=
  if !s.linkUp 0 then s
  else match s.tth.almQ with
    | [] => s
    | m :: rest => (s.send 0 2 (almBody m)).setTth (fun t => { t with almQ := rest })

/-- A wake request goes on along the chain (R440). -/
def State.tthWake (s : State) (p : TthId) : State := if s.linkUp p then s.send (otherPort p) 3 [] else s

/-- TIME of the anchor reaches a member (R439): behind, it takes the value; ahead, it stands still. -/
def State.timeIn (s : State) (v : Nat) : State :=
  if s.isAnchor || !s.linkUp 0 then s
  else
    let adj : Int := (v : Int) - s.now
    let t := s.seti TTH.TIME_ADJ_ADJ adj
    let u : State := if s.now < v then ({ t with now := v % timeMod }).setTth (fun x => { x with ahead := 0 })
      else t.setTth (fun x => { x with ahead := s.now - v })
    u.send 1 5 [v]

/-- The member's INT_N condition goes toward the anchor, or reaches it (R431). -/
def State.intIn (s : State) (d : Nat) (b : Bool) : State :=
  if !s.linkUp 1 then s
  else if s.isAnchor then (if d = 0 then s else s.setTth (fun t => { t with int := putBit t.int (d - 1) b }))
  else s.send 0 8 [d, b.toNat]

/-! ## Tokens between devices (R160) -/

/-- The anchor grants to a waiting member where no port of the pair holds the token, alternating between the two. -/
def State.remoteTry (s : State) (pair : Nat) : State :=
  let mine := (List.finRange 8).filter (fun (k : PortId) => s.flag (CAL.PAIR_PAIRED k.val) && s.get (CAL.PAIR_PAIR_ID k.val) == pair)
  let held := mine.any (fun k => s.bitOf CAL.TOKEN_STATUS_HELD k.val) || s.tth.remote.any (fun r => r.1 == pair && r.2.2)
  let waits := mine.any (fun k => s.bitOf CAL.TOKEN_STATUS_WAITING k.val)
  let asking := s.tth.remote.filter (fun r => r.1 == pair)
  let last := assocFind s.tokens pair
  let next := match asking.filter (fun r => last != some (8 + r.2.1)) with
    | r :: _ => some r
    | [] => if waits then none else asking.head?
  match (if held then none else next) with
  | none => s
  | some r =>
    let t := s.setTth (fun x => { x with remote := x.remote.map (fun q => if q == r then (r.1, r.2.1, true) else q) })
    ({ t with tokens := assocPut t.tokens pair (8 + r.2.1) }).send 1 4 [1, r.2.1, pair]

/-- A port's own request or return travels to the anchor where the pair's other port is on another device (R160); the
anchor serves a waiting member once its own port is done. -/
def State.tokenTell (s : State) (k : PortId) (kind : Nat) : State :=
  if !s.variant || !s.flag (CAL.PAIR_PAIRED k) || (s.pairMate k).isSome then s
  else if s.isAnchor then s.remoteTry (s.get (CAL.PAIR_PAIR_ID k))
  else s.send 0 4 [kind, s.stackId, s.get (CAL.PAIR_PAIR_ID k)]

/-- A grant that its port has not taken is returned unused (R164). -/
def State.tokenUnused (s : State) (k : PortId) : State :=
  if s.bitOf CAL.TOKEN_STATUS_HELD k then s else s.tokenTell k 2

/-- A TOKEN message (R160, Table 21-7): requests and returns go to the anchor, grants to their member. -/
def State.tokenIn (s : State) (p : TthId) (kind : TokKind) (member pair : Nat) : State :=
  if !s.linkUp p then s
  else match kind with
    | .request =>
      if !s.isAnchor then s.send 0 4 [0, member, pair]
      else if s.tth.remote.any (fun r => r.1 == pair && r.2.1 == member) then s.remoteTry pair
      else (s.setTth (fun t => { t with remote := t.remote ++ [(pair, member, false)] })).remoteTry pair
    | .giveBack =>
      if !s.isAnchor then s.send 0 4 [2, member, pair]
      else (s.setTth (fun t => { t with remote := t.remote.filter (fun r => !(r.1 == pair && r.2.1 == member)) })).remoteTry pair
    | .grant =>
      if s.isAnchor then s
      else if member = s.stackId then
        match (List.finRange 8).find? (fun (k : PortId) =>
          s.bitOf CAL.TOKEN_STATUS_WAITING k.val && s.get (CAL.PAIR_PAIR_ID k.val) == pair) with
        | some k => (s.tokenGive k).tokenUnused k
        | none => s
      else s.send 1 4 [1, member, pair]

/-- The arbiter reclaims a grant that a member has not returned within 400 us (R161), and grants anew. -/
def State.remoteExpire (s : State) (pair : Nat) : State :=
  if s.tth.remote.any (fun r => r.1 == pair && r.2.2) then
    ((s.setTth (fun t => { t with remote := t.remote.filter (fun r => !(r.1 == pair && r.2.2)) })).inc CAL.TOKEN_CNT_EXPIRE_CNT).remoteTry
      pair
  else s

/-- A TTH enable is cleared: its link goes down. -/
def State.tthEnables (s : State) : State :=
  s.each [0, 1] (fun (p : TthId) t => if t.tthRuns p then t else if (t.tp p).lock || t.linkUp p then t.linkDown p else t)

/-- TTH_CMD.CNT_CLR (Table 21-10). -/
def State.tthCntClr (s : State) : State :=
  (((s.off TTH.CNT0_UP_RETRY).off TTH.CNT0_DOWN_RETRY).off TTH.CNT1_UP_SYNC_ERR).off TTH.CNT1_DOWN_SYNC_ERR

/-- PCI_CMD.CNT_CLR (Table 21-10). -/
def State.pciCntClr (s : State) : State := (s.off PCI.CNT_CA_CNT).off PCI.CNT_EP_CNT

end Sys2Proof.Machine
end

