-- ==== Sys2Proof/Machine/RegOps.lean ====
section
/-!
DEFINITION. What a written word does to the register it reaches: the rules of each field kind (R9, R10, R363), the
encodings a field rejects, and the effect a unit gives the write.
-/

namespace Sys2Proof.Machine

open Sys2Proof

/-! ## Field kinds -/

/-- A WM word writes 1 to, or 0 to, bit `k` (R363). -/
def wmSet (v k : Nat) : Bool := bit v (16 + k) && bit v k
def wmClr (v k : Nat) : Bool := bit v (16 + k) && !bit v k

/-- The PMU events (Table 20-1). -/
def pmuEvent (e : Nat) : Bool :=
  let k := e % 64
  match e / 64 with
  | 0 => decide (k ≤ 2)
  | 1 => decide (k ≤ 5) || (decide (0x10 ≤ k) && decide (k ≤ 0x12))
  | 2 => decide (k ≤ 2)
  | 3 => decide (k ≤ 4)
  | 4 => decide (k ≤ 1) || k == 0x10
  | 5 => decide (k ≤ 3)
  | _ => false

/-- Value `x` is a reserved encoding of the field with lowest bit `lo` of line-lane register `off`. -/
def laneRejects (off lo x : Nat) : Bool :=
  if off = 0x0000 then (lo == 0 && x == 3) || (lo == 2 && decide (0x49 ≤ x))
  else if off = 0x0104 then if lo = 16 then decide (5 ≤ x) else decide (lo < 16 ∧ 0xD ≤ x)
  else if off = 0x0108 then lo == 12 && decide (0xD ≤ x)
  else if off = 0x0200 then lo == 0 && decide (8 ≤ x)
  else if off = 0x0400 then lo == 4 && decide (0x3D ≤ x)
  else if off = 0x0600 then (lo == 0 || lo == 8) && decide (8 ≤ x)
  else false

/-- The same for a host-lane register. -/
def hostRejects (off lo x : Nat) : Bool :=
  if off = 0x0004 then decide (lo < 8 ∧ 0xD ≤ x)
  else if off = 0x0100 then lo == 0 && x == 3
  else if off = 0x0200 then (lo == 2 || lo == 5) && (x == 0 || decide (6 ≤ x))
  else if off = 0x0400 then (lo == 0 || lo == 8) && decide (8 ≤ x)
  else false

/-- Writing `x` to the field is discarded: a reserved encoding (R10), or a value its table discards. -/
def State.rejects (s : State) (f : Field) (x : Nat) : Bool :=
  let a := f.addr
  if 0x100000 ≤ a ∧ a < 0x180000 then laneRejects (a % 0x10000) f.lo x
  else if 0x180000 ≤ a ∧ a < 0x1C0000 then hostRejects (a % 0x4000) f.lo x
  else if 0x1C0000 ≤ a ∧ a < 0x1C8000 then a % 0x1000 == 0x40 && decide (0x100 < x)
  else if 0x70800 ≤ a ∧ a < 0x70840 then f.lo == 0 && x == 3
  else if a = SND.CTRL_TRIG_SRC.addr then f.lo == 2 && x == 3
  else if a = STR.CTRL_PIN_SEV.addr then f.lo == 2 && x == 3
  else if a = PWR.WAKE_EN_GPIO_SEL.addr then f.lo == 9 && decide ((if s.variant then 0x20 else 0x10) ≤ x)
  else if 0x60100 ≤ a ∧ a < 0x60180 then
    a % 0x10 == 0 && ((f.lo == 0 && !pmuEvent x) || (f.lo == 25 && x == 1 && (a - 0x60100) / 0x10 % 2 == 0))
  else if 0xB0100 ≤ a ∧ a < 0xB0300 then a % 0x40 == 0 && f.lo == 1 && x == 0
  else if a = PWR.CTRL_QDR_EN.addr then f.lo == PWR.CTRL_QDR_EN.lo && !s.variant
  else false

/-- The write of one field under its kind (Table 00-5, R363); command bits, guarded and indirect words act below. -/
def State.fieldWrite (s : State) (i v : Nat) (f : Field) : State :=
  let x := bits v f.lo f.w
  let g := seenBy i f
  match f.acc with
  | .rw => s.setIf (!s.rejects f x) g x
  | .ba => s.setIf (!s.rejects f x) g x
  | .wm => s.setIf (bits v (16 + f.lo) f.w == 2 ^ f.w - 1 && !s.rejects f x) g x
  | .w1c => s.set g (s.get g - (s.get g &&& x))
  | _ => s

/-- Every field of the word but those `skip` names. -/
def State.wordWrite (s : State) (i a v : Nat) (skip : Field → Bool := fun _ => false) : State :=
  s.each ((fieldsAt a).filter (fun f => !skip f)) (fun f t => t.fieldWrite i v f)

/-- The members of `l` whose bit `lo + k` is written 1. -/
def picked (v lo k : Nat) : List Nat := (List.range k).filter (fun j => bit v (lo + j))

/-! ## Line and host lanes -/

/-- PRBS registers (Table 07-10). -/
def State.prbsWrite (s : State) (i : Nat) (l : PrbsLane) (a v : Nat) : State :=
  if a = l.base then
    let t := s.wordWrite i a v (fun f => f.lo == 4)
    let u := if wmSet v 4 then t.genEnable l
      else if wmClr v 4 then
        let w := t.off (PRBS.CTRL_GEN_EN l.base)
        match l with | .host j => w.sourceNow j | .line _ => w
      else t
    if wmClr v 12 then (u.off (PRBS.STATUS_CHK_LOCK l.base)).setPrbs l (fun p => { p with chk := [], run := 0, blkBits := 0, blkErrs := 0 })
    else u
  else if a = l.base + 8 then
    ((s.when (bit v 0) (·.prbsLatch l)).when (bit v 1) (·.prbsClear l)).when (bit v 2) (·.prbsInject l)
  else s.wordWrite i a v

/-- A held field of a line lane that a write `v` names in its mask takes effect at once in DOWN, LIGHT and ACQUIRE, and is
stored elsewhere (R33): SCR_EN and BETA, and PD_EN. -/
def State.frmHeldNow (s : State) (n : Lane) (v : Nat) : State :=
  if s.lstate n ≤ 2 then
    s.setLoc n (fun l =>
      { l with scr := if bit v (16 + (LN.FRM_CTRL_SCR_EN n).lo) then s.flag (LN.FRM_CTRL_SCR_EN n) else l.scr
               beta := if bits v (16 + (LN.FRM_CTRL_BETA n).lo) 4 = 0xF then s.get (LN.FRM_CTRL_BETA n) else l.beta })
  else s
def State.pdHeldNow (s : State) (n : Lane) (v : Nat) : State :=
  if s.lstate n ≤ 2 ∧ bit v (16 + (LN.TX_CTRL_PD_EN n).lo) = true then
    s.setTx n (fun x => { x with pd := s.flag (LN.TX_CTRL_PD_EN n) })
  else s

/-- A held field of a host lane is stored in DATA, FALLBACK and Nap (R33). -/
def State.hostHolds (s : State) (j : Host) : Bool := (s.hl j).power == .nap || s.hostCarries j

/-- Elsewhere those that a write `v` names in its mask take effect at once: of the receiver, and of the transmitter. -/
def State.rxHeldNow (s : State) (j : Host) (v : Nat) : State :=
  if s.hostHolds j then s
  else s.setHl j (fun h =>
    { h with rxInv := if bit v (16 + (HL.RX_CTRL_RX_INV j).lo) then s.flag (HL.RX_CTRL_RX_INV j) else h.rxInv
             rxPre := if bit v (16 + (HL.RX_CTRL_RX_PRECODE j).lo) then s.flag (HL.RX_CTRL_RX_PRECODE j) else h.rxPre })
def State.txHeldNow (s : State) (j : Host) (v : Nat) : State :=
  if s.hostHolds j then s
  else s.setHl j (fun h =>
    { h with txInv := if bit v (16 + (HL.TX_CTRL_TX_INV j).lo) then s.flag (HL.TX_CTRL_TX_INV j) else h.txInv
             txPre := if bit v (16 + (HL.TX_CTRL_TX_PRECODE j).lo) then s.flag (HL.TX_CTRL_TX_PRECODE j) else h.txPre })

/-- LNn registers. -/
def State.laneWrite (s : State) (i : Initiator) (n : Lane) (a v : Nat) : State :=
  let off := a % 0x10000
  let w : Word := BitVec.ofNat 32 v
  if off = 0x0044 then s.pairAccess i (.slc n) (.write w)
  else if off = 0x0124 then s.pairAccess i (.eqc n) (.write w)
  else if off = 0x0444 then s.pairAccess i (.txt n) (.write w)
  else if off = 0x0000 then
    ((s.wordWrite i.code a v).when (wmClr v 10) (fun t => (t.tapStop n).kiteRxOff n)).backoffDrop n
  else if off = 0x001C then (s.when (bit v 0) (·.rxCntClr n)).when (bit v 1) (·.agcRestart n)
  else if off = 0x02B0 then s.when (bit v 0) (·.userSend n)
  else if off = 0xF004 then (s.wordWrite i.code a v).when (bit v 17) (·.off (LN.GBX_STATUS_SLIP_CNT n))
  else if off = 0x0200 then (s.wordWrite i.code a v).frmHeldNow n v
  else if off = 0x0400 then ((s.wordWrite i.code a v).pdHeldNow n v).demandEval n
  else if off = 0x040C then ((s.when (bit v 0) (·.swap n)).when (bit v 1) (·.shadowLoad n)).when (bit v 2) (·.txCntClr n)
  else if 0x0600 ≤ off ∧ off < 0x0640 then s.prbsWrite i.code (.line n) a v
  else s.wordWrite i.code a v

/-- HLj registers. -/
def State.hostWrite (s : State) (i : Initiator) (j : Host) (a v : Nat) : State :=
  let off := a % 0x4000
  if off = 0x0044 then s.pairAccess i (.rxc j) (.write (BitVec.ofNat 32 v))
  else if off = 0x0000 then
    ((s.wordWrite i.code a v).rxHeldNow j v).ctleWritten j v
  else if off = 0x0010 then (s.when (bit v 0) (·.hostCntClr j)).when (bit v 1) (·.retrain j)
  else if off = 0x0100 then
    ((s.wordWrite i.code a v).txHeldNow j v).when (bits v 20 4 == 0xF) (·.ampWritten j)
  else if off = 0x0200 then (s.wordWrite i.code a v).offerCut j
  else if off = 0x0110 then s.setFirst j 0 v
  else if off = 0x0114 then s.setSecond j 0 v
  else if 0x0140 ≤ off ∧ off < 0x0168 then
    let k := (off - 0x0140) / 8 + 1
    if off % 8 = 0 then s.setFirst j k v else s.setSecond j k v
  else if 0x0400 ≤ off ∧ off < 0x0440 then s.prbsWrite i.code (.host j) a v
  else s.wordWrite i.code a v

/-- KLn registers. -/
def State.kiteWrite (s : State) (i : Nat) (n : Lane) (a v : Nat) : State :=
  let off := a % 0x1000
  if off = 0x0000 then (s.wordWrite i a v).when (wmClr v 1) (·.kiteRxOff n)
  else if off = 0x001C then
    (((s.when (bit v 0) (·.userSendAsk n)).when (bit v 1) (·.wakeSendAsk n)).when (bit v 2)
      (·.off (KL.STATUS_RX_FULL n))).when (bit v 3) (·.kiteCntClr n)
  else s.wordWrite i a v

/-! ## Ports, link statistics, calibration -/

/-- PORTk registers; those of a port the rig does not define discard writes (R192). -/
def State.portWrite (s : State) (i : Nat) (k : PortId) (a v : Nat) : State :=
  let off := a % 0x20
  if !(s.pt k).defined then s
  else if off = 0x00 then
    let t := if wmSet v 0 then s.upSet k else if wmClr v 0 then s.portStop k else s
    if wmSet v 1 then (t.on (PORT.CTRL_NAP k)).napAsk k .bit else if wmClr v 1 then t.wakeAsk k else t
  else if off = 0x18 then s.when (bit v 0) (·.portCntClr k)
  else s.wordWrite i a v

/-- LST registers: a monitor that is switched off loses its lock (Table 04-6). -/
def State.lstWrite (s : State) (i a v : Nat) : State :=
  let t := s.wordWrite i a v
  if a = LST.CTRL_SNAP.addr then t.when (bit v 0) (·.snap)
  else if 0x70800 ≤ a ∧ a < 0x70840 then
    let j : Host := Fin.ofNat 16 ((a - 0x70800) / 4)
    t.when (!bit v 2) (fun u => u.each [0, 1] (fun (d : Dir) w =>
      w.amDrop j d.val))
  else t

/-- CAL registers (Tables 06-6 to 06-10). -/
def State.calWrite (s : State) (i a v : Nat) : State :=
  if a = CAL.LIMIT0_GAIN_MIN.addr then if bits v 16 16 < bits v 0 16 then s else s.wordWrite i a v
  else if a = CAL.SET_BASE_BASE.addr then
    let b := v / 0x20000 * 0x20000
    s.setIf (decide (0x10000000 ≤ b) && decide (b ≤ 0x10FE0000)) CAL.SET_BASE_BASE b
  else if 0xD0100 ≤ a ∧ a < 0xD0300 then
    let n : Lane := Fin.ofNat 8 ((a - 0xD0100) / 0x40)
    if a = (CAL.LANE_CMD_REFRESH n).addr then (s.when (bit v 0) (·.refreshAsk n)).when (bit v 1) (·.calCntClr n)
    else s.wordWrite i a v
  else s.wordWrite i a v

/-! ## Bias DACs, Sonde, Spar, thermal -/

/-- BDA registers (Tables 10-3 to 10-5); a change of CLR_EN changes what LASER_CLR_N forces (R233). -/
def State.bdaWrite (s : State) (i a v : Nat) : State :=
  if a < 0xB0100 then s.wordWrite i a v
  else if h : (a - 0xB0100) / 0x40 < 24 then
    let c : Chan := ⟨(a - 0xB0100) / 0x40, h⟩
    let off := (a - 0xB0100) % 0x40
    if off = 0x00 then
      let t := (s.forcing (fun u => u.wordWrite i a v (fun f => f.lo == 0)))
      t.when (bit v 16) (·.rangeWrite c (v % 2))
    else if off = (BDA.QDATA_CODE 0).addr - 0xB0100 then s.qdata c (v % 65536)
    else if off = (BDA.CMD_FLUSH 0).addr - 0xB0100 then (s.when (bit v 0) (·.bdaFlush c)).when (bit v 1) (·.bdaCntClr c)
    else s.wordWrite i a v
  else s

/-- SND registers (Tables 11-5 to 11-7). What a counter clear in the word meets is counted after it, and a trigger with a STOP is
discarded (R257). -/
def State.sndWrite (s : State) (i a v : Nat) : State :=
  if a = SND.CTRL_MODE.addr then
    (s.wordWrite i a v (fun f => f.lo == 0)).when (bit v 16) (·.refWrite (bit v 0))
  else if a = SND.CMD_START.addr then
    ((((s.when (bit v 4) (·.sndCntClr)).when (bit v 3) (·.setSnd (fun d => { d with fifo := [] }))).when (bit v 0)
      (·.sndStart)).when (bit v 1) (·.sndStop)).when (bit v 2 && !bit v 1) (·.sndTrigger 0)
  else if 0xA0100 ≤ a ∧ a < 0xA0180 then s.entWrite ((a - 0xA0100) / 8) ((a - 0xA0100) / 4 % 2) v
  else s.wordWrite i a v

/-- SPR registers (Tables 12-7 to 12-10). RUN and PRIV_EV take writes of Gondola only (R281). -/
def State.sprWrite (s : State) (i : Initiator) (a v : Nat) : State :=
  if a = SPR.CTRL_RUN.addr then
    (s.wordWrite i.code a v (fun f => f.lo == 0)).when (i == .gondola && bit v 16) (·.sprRunWrite (bit v 0))
  else if a = SPR.PRIV_EV_PREEMPT.addr then s.when (i == .gondola) (·.wordWrite i.code a v)
  else if a = SPR.CMD_DOORBELL.addr then
    ((s.when (bit v 0) (·.userRestart)).when (bit v 1) (·.sprEvent 3)).when (bit v 2) (·.sprCntClr)
  else if a = SPR.MEM_DATA_DATA.addr then s.sprMemAccess i (.write (BitVec.ofNat 32 v))
  else s.wordWrite i.code a v

/-- THM registers (Tables 13-2 to 13-4). -/
def State.thmWrite (s : State) (i a v : Nat) : State :=
  if a = THM.CMD_PEAK_CLR.addr then
    ((s.when (bit v 0) (fun t => t.tripRelease.portsEval)).when (bit v 1) (·.peakClr)).when (bit v 2) (·.thmCntClr)
  else if 0xC0200 ≤ a ∧ a < 0xC0280 then
    let c := (a - 0xC0200) / 0x10
    if a = (THM.EXT_CFG_LANES c).addr then s.extCfg c (v % 256) (bit v 8)
    else if a = (THM.EXT_WIN_LO c).addr then
      if sext 16 (bits v 16 16) < sext 16 (bits v 0 16) then s else s.wordWrite i a v
    else s.wordWrite i a v
  else s.wordWrite i a v

/-! ## Safety, power, resets -/

/-- SAF registers but its guarded pairs. SUP_GATE and KICK take writes of Gondola only. -/
def State.safWrite (s : State) (i : Initiator) (a v : Nat) : State :=
  if a = SAF.CTRL_SUP_GATE.addr then
    (s.wordWrite i.code a v (fun f => f.lo == 8)).when (i == .gondola) (fun t =>
      t.each (List.finRange 8) (fun n u => u.gateWrite n (bit v (8 + n.val))))
  else if a = SAF.CMD_KICK.addr then
    let t := (s.when (i == .gondola && bit v 0) (·.kick)).when (bit v 1) (·.safCntClr)
    t.each (List.finRange 8) (fun n u => u.when (bit v (8 + n.val)) (·.proofAsk n))
  else s.wordWrite i.code a v

/-- PWR registers: WAKE_AT_HI arms the timer (R320). -/
def State.pwrWrite (s : State) (i a v : Nat) : State :=
  if a = PWR.TIMER1_WAKE_AT_HI.addr then s.wakeAtHi (bits v 0 16)
  else if a = PWR.CMD_CNT_CLR.addr then s.when (bit v 0) (·.pwrCntClr)
  else if a = PWR.CTRL_QDR_EN.addr then (s.wordWrite i a v).qdrPower
  else s.wordWrite i a v

/-- CFG registers but SWR and the ports. The watchdog's take writes of Gondola only (R355). -/
def State.cfgWrite (s : State) (i : Initiator) (a v : Nat) : State :=
  if a = CFG.RST_PORT_PORTS.addr then s.each (List.finRange 8) (fun k t => t.when (bit v k.val) (·.portReset k))
  else if a = CFG.RST_LANE_LN.addr then
    (s.each (List.finRange 8) (fun n t => t.when (bit v n.val) (·.laneReset n))).each (List.finRange 16) (fun j t =>
      t.when (bit v (16 + j.val)) (·.hostReset j))
  else if a = CFG.WDT_TMO.addr then s.when (i == .gondola) (·.wordWrite i.code a v)
  else if a = CFG.WDT_KICK_KICK.addr then s.when (i == .gondola && bit v 0) (·.wdtKick)
  else if a = CFG.CMD_CNT_CLR.addr then s.when (bit v 0) (·.cfgCntClr)
  else s.wordWrite i.code a v

/-- GLB_BRD_CMD.CNT_CLR clears GLB_BRD_CNT (Table 17-4). -/
def State.brdCntClr (s : State) : State :=
  (((s.off GLB.BRD_CNT0_ACCESS_FAULT).off GLB.BRD_CNT0_GUARD_FAULT).off GLB.BRD_CNT1_PARITY_CNT).off GLB.BRD_CNT1_TMO_CNT

/-- GLB registers: GLB_MBX_CMD starts a mailbox command (R432). -/
def State.glbWrite (s : State) (i : Nat) (a v : Nat) : State :=
  if a = GLB.BRD_CMD_CNT_CLR.addr then s.when (bit v 0) (·.brdCntClr)
  else if a = GLB.MBX_CMD_OPCODE.addr then s.mbxStart i (bits v 0 8) (bits v 8 8)
  else if 0x210 ≤ a ∧ a < 0x230 then s.mbxArg ((a - 0x210) / 4) v
  else s.wordWrite i a v

/-! ## Memory, Reel, counters, tether, security -/

/-- MEM registers. -/
def State.memRegWrite (s : State) (i a v : Nat) : State :=
  if a = MEM.CMD_FLUSH.addr then (s.when (bit v 0) (·.flushAll)).when (bit v 1) (·.memCntClr) else s.wordWrite i a v

/-- REEL registers (Tables 19-4 to 19-6): a running channel discards its descriptor address. -/
def State.reelWrite (s : State) (i a v : Nat) : State :=
  if a = REEL.CMD_CNT_CLR.addr then s.when (bit v 0) (·.reelCntClr)
  else if 0x80100 ≤ a ∧ a < 0x80300 then
    let c : ReelId := Fin.ofNat 8 ((a - 0x80100) / 0x40)
    if a = (REEL.CH_DESC_ADDR c).addr then s.setIf (!s.reelBusy c) (REEL.CH_DESC_ADDR c) (v / 64 * 64)
    else if a = (REEL.CH_CMD_START c).addr then
      ((s.when (bit v 0) (·.reelStart c false)).when (bit v 1) (·.reelStart c true)).when (bit v 2) (·.reelStop c)
    else s.wordWrite i a v
  else s.wordWrite i a v

/-- PMU registers: FREEZE returning to 0 adds what was held (R408). -/
def State.pmuWrite (s : State) (i a v : Nat) : State :=
  let t := s.wordWrite i a v
  if a = PMU.CTRL_FREEZE.addr && s.flag PMU.CTRL_FREEZE && !t.flag PMU.CTRL_FREEZE then t.pmuThaw else t

/-- A ring of `n` bytes at `b` is aligned to its size and inside the SRAM (R415). -/
def ringFits (b n : Nat) : Bool := b % n == 0 && decide (0x10000000 ≤ b) && decide (b + n ≤ 0x11000000)

/-- STR_CMD.CNT_CLR clears every STR counter but STR_CYCLE (Table 20-7). -/
def State.strCntClr (s : State) : State :=
  let t := s.each (List.range 15) (fun q u => u.off (STR.SRC1_DROP_CNT q))
  (((t.off (STR.RING_CNT_RING_DROP 0)).off (STR.RING_CNT_RING_DROP 1)).off (STR.RING_CNT_GAP_CNT 1)).off STR.CKPT1_DEFER_CNT

/-- The bucket of log source `q` holds at most BURST tokens (R416), so a lower BURST takes away what is above it. -/
def State.bucketFit (s : State) (q : Nat) : State :=
  s.set (STR.SRC1_TOKENS q) (min (max 1 (s.get (STR.SRC0_BURST q))) (s.get (STR.SRC1_TOKENS q)))

/-- STR registers (Tables 20-7, 20-8). -/
def State.strWrite (s : State) (i a v : Nat) : State :=
  let ring (g : Nat) : State :=
    if a = (STR.RING_BASE_BASE g).addr then s.setIf (ringFits v (s.ringSize g)) (STR.RING_BASE_BASE g) v
    else if a = (STR.RING_SIZE_SIZE g).addr then
      let z := bits v 0 3
      if z < 5 ∧ ringFits (s.get (STR.RING_BASE_BASE g)) (262144 * 2 ^ z) = true then
        ((s.set (STR.RING_SIZE_SIZE g) z).set (STR.RING_WR_WR g) 0).set (STR.RING_RD_RD g) 0
      else s
    else s.wordWrite i a v
  if a = STR.CMD_CNT_CLR.addr then s.when (bit v 0) (·.strCntClr)
  else if 0x50020 ≤ a ∧ a < 0x50038 then ring 0
  else if 0x50040 ≤ a ∧ a < 0x50058 then ring 1
  else if 0x51000 ≤ a ∧ a < 0x51800 then
    let e := (a - 0x51000) / 0x20
    s.when ((a - 0x51000) % 0x20 == 0 && bit v 19 && s.flag (STR.ALM0_UNACKED e)) (·.almAck e)
  else
    let t := s.wordWrite i a v
    if 0x50100 ≤ a ∧ a < 0x50178 then t.bucketFit ((a - 0x50100) / 8) else t

/-- TTH registers. -/
def State.tthWrite (s : State) (i a v : Nat) : State :=
  if a = TTH.CMD_CNT_CLR.addr then s.when (bit v 0) (·.tthCntClr)
  else if a = TTH.CTRL_UP_EN.addr then (s.wordWrite i a v).tthEnables
  else s.wordWrite i a v

/-- SEC registers: bits [5:0] of the token address are written as zero. -/
def State.secWrite (s : State) (i a v : Nat) : State :=
  if a = SEC.TOKEN_ADDR_ADDR.addr then s.set SEC.TOKEN_ADDR_ADDR (v / 64 * 64)
  else if a = SEC.CMD_CNT_CLR.addr then s.when (bit v 0) (·.secCntClr)
  else s.wordWrite i a v

/-- TST registers. -/
def State.tstWrite (s : State) (i a v : Nat) : State :=
  if a = TST.CMD_CNT_CLR.addr then s.when (bit v 0) (·.tstCntClr)
  else if 0xE0100 ≤ a ∧ a < 0xE0110 then s.when s.lcOpen (·.engWrite a v)
  else s.wordWrite i a v

/-! ## The register space -/

/-- On PLG3208-A the tether and PCIe blocks read zero and ignore writes (R357); so does the PCIe block of a member
(R428), and the registers of a port that is not defined (R192). -/
def State.absent (s : State) (a : Nat) : Bool :=
  (decide (0x1D0000 ≤ a) && decide (a < 0x1F0000) && !s.variant) ||
    (decide (0x1E0000 ≤ a) && decide (a < 0x1F0000) && !s.flag TTH.STATUS_ROLE) ||
    (decide (0x31000 ≤ a) && decide (a < 0x31100) && !(s.pt (Fin.ofNat 8 ((a - 0x31000) / 0x20))).defined)

/-- A word that is no guarded pair is written (Table 17-1). -/
def State.plainWrite (s : State) (i : Initiator) (a v : Nat) : State :=
  if s.absent a then s
  else if a < 0x10000 then s.glbWrite i.code a v
  else if a < 0x20000 then s.pwrWrite i.code a v
  else if a < 0x30000 then s.safWrite i a v
  else if a < 0x31000 then s.cfgWrite i a v
  else if a < 0x31100 then s.portWrite i.code (Fin.ofNat 8 ((a - 0x31000) / 0x20)) a v
  else if a < 0x50000 then s.wordWrite i.code a v
  else if a < 0x60000 then s.strWrite i.code a v
  else if a < 0x70000 then s.pmuWrite i.code a v
  else if a < 0x80000 then s.lstWrite i.code a v
  else if a < 0x90000 then s.reelWrite i.code a v
  else if a < 0xA0000 then s.memRegWrite i.code a v
  else if a < 0xB0000 then s.sndWrite i.code a v
  else if a < 0xC0000 then s.bdaWrite i.code a v
  else if a < 0xD0000 then s.thmWrite i.code a v
  else if a < 0xE0000 then s.calWrite i.code a v
  else if a < 0xF0000 then s.tstWrite i.code a v
  else if a < 0x100000 then s.secWrite i.code a v
  else if a < 0x180000 then s.laneWrite i (Fin.ofNat 8 ((a - 0x100000) / 0x10000)) a v
  else if a < 0x1C0000 then s.hostWrite i (Fin.ofNat 16 ((a - 0x180000) / 0x4000)) a v
  else if a < 0x1C8000 then s.kiteWrite i.code (Fin.ofNat 8 ((a - 0x1C0000) / 0x1000)) a v
  else if a < 0x1D0000 then s
  else if a < 0x1E0000 then s.tthWrite i.code a v
  else if a < 0x1F0000 then s.when (a == PCI.CMD_CNT_CLR.addr && bit v 0) (·.pciCntClr)
  else if a < 0x200000 then s.sprWrite i a v
  else s

/-- The value of a guarded pair is written (R367): REL, SUPCFG, LIM and SUP of the safety logic, clear codes and limits of
the bias channels, software reset, security operations, and the release of SAFE_HOLD. -/
def State.guardWrite (s : State) (a v : Nat) : State :=
  if a = SAF.REL_LANES.addr then s.relWrite (bits v 0 8) (bits v 8 8)
  else if a = SAF.SUPCFG_SUP_TMO.addr then (s.set SAF.SUPCFG_SUP_TMO (bits v 0 8)).set SAF.SUPCFG_PROOF_INT (bits v 8 16)
  else if 0x20100 ≤ a ∧ a < 0x20200 then
    let n : Lane := Fin.ofNat 8 ((a - 0x20100) / 0x20)
    if a = (SAF.LIM_HI n).addr then s.limWrite n (bits v 0 10) (bits v 16 10)
    else (s.set (SAF.SUP_SUP_HI n) (bits v 0 10)).set (SAF.SUP_SUP_LO n) (bits v 16 10)
  else if a = CFG.SWR_SWR.addr then s.swrWrite v
  else if 0xB0100 ≤ a ∧ a < 0xB0700 then
    if h : (a - 0xB0100) / 0x40 < 24 then
      let c : Chan := ⟨(a - 0xB0100) / 0x40, h⟩
      if a = (BDA.CLR_CLR_CODE c).addr then s.clrChange c (bits v 0 16)
      else s.limitsSet c (bits v 0 16) (bits v 16 16)
    else s
  else if a = SEC.OP_OP.addr then s.opStart (bits v 0 4) (bits v 4 4)
  else if a = TST.HOLD_REL_RELEASE.addr then s.holdRelease v
  else s

end Sys2Proof.Machine
end

