-- ==== Sys2Proof/Machine/BrdOps.lean ====
section
/-!
DEFINITION. Bridle (chapter 17): mapping, access faults and their order, restricted fields, guarded pairs, bit aliases,
parity, and accesses as every initiator makes them.
-/

namespace Sys2Proof.Machine

open Sys2Proof

/-! ## Mapping (R356, R357, R364, Table 17-1) -/

/-- The register behind an alias word and its bit (R364). -/
def aliasTarget (a : Nat) : Nat × Nat :=
  let off := (a - 0x200000) / 128
  (if off < 0x2000 then 0x10000 + off else 0x20000 + (off - 0x2000), (a - 0x200000) / 4 % 32)

/-- A word of the alias region. -/
def inAlias (a : Nat) : Bool := decide (0x200000 ≤ a) && decide (a < 0x400000)

/-- The alias of an offset at which a register is defined. -/
def aliasDefined (a : Nat) : Bool := let r := (aliasTarget a).1; r % 4 == 0 && isDefined r

/-- Offsets of the Gondola ROM. -/
def inRom (a : Nat) : Bool := decide (0x08000000 ≤ a) && decide (a < 0x08040000)

/-- No range of Table 17-1 holds the address for this initiator (R356). -/
def unmapped (i : Initiator) (a : Nat) : Bool :=
  if a < 0x200000 then decide (0x1C8000 ≤ a) && decide (a < 0x1D0000)
  else if a < 0x400000 then !aliasDefined (a / 4 * 4)
  else if inRom a then i != .gondola
  else !inMemory a

/-- The field of a register that bit `k` lies in. -/
def fieldOfBit (a k : Nat) : Option Field := (fieldsAt a).find? (fun f => decide (f.lo ≤ k) && decide (k < f.lo + f.w))

/-- The bit is of type BA. -/
def isBa (a k : Nat) : Bool := match fieldOfBit a k with | some f => f.acc == .ba | none => false

/-- A register with read side effects (R360): data registers of indirect pairs, SND_FIFO, the ring ports and CAP_PORT. -/
def sideEffect (a : Nat) : Bool :=
  (fieldsAt a).any (fun f => f.acc == .ix) || a == SND.FIFO_WORD.addr || a == (STR.RING_PORT_PORT 0).addr ||
    a == (STR.RING_PORT_PORT 1).addr || (decide (0x100000 ≤ a) && decide (a < 0x180000) && a % 0x10000 == 0xF100)

/-- The address space of stack members behind BAR0 (R429). -/
def inMemberBar (i : Initiator) (a : Nat) : Bool := i == .pcie && decide (0x400000 ≤ a) && decide (a < 0x1000000)

/-! ## Restricted fields (R358) -/

/-- The write would change a field that its initiator may not write: SUP_GATE, KICK, the watchdog, RUN and PRIV_EV from
others than Gondola; the self-test engine outside FAB, VENDOR and RETURN (R281, R355, R459). -/
def State.forbids (s : State) (i : Initiator) (a v : Nat) : Bool :=
  let g := i != .gondola
  if a = SAF.CTRL_SUP_GATE.addr then g && bits v 8 8 != s.get SAF.CTRL_SUP_GATE
  else if a = SAF.CMD_KICK.addr then g && bit v 0
  else if a = CFG.WDT_TMO.addr then g && bits v 0 16 != s.get CFG.WDT_TMO
  else if a = CFG.WDT_KICK_KICK.addr then g && bit v 0
  else if a = SPR.CTRL_RUN.addr then g && bit v 16 && bit v 0 != s.flag SPR.CTRL_RUN
  else if a = SPR.PRIV_EV_PREEMPT.addr then g && bits v 0 5 != s.get SPR.PRIV_EV_PREEMPT
  else if 0xE0100 ≤ a ∧ a < 0xE0110 then !s.lcOpen
  else false

/-! ## Guarded pairs (R367, R368) -/

/-- The word starts a guarded pair. -/
def isGuarded (a : Nat) : Bool := (fieldsAt a).any (fun f => f.acc == .gp)

/-- The pending value of an initiator: its address and the value. -/
def State.pendingOf (s : State) (i : Nat) : Option (Nat × Nat) := assocFind s.brd.guard i

/-- An initiator has nothing pending any more. -/
def State.guardDrop (s : State) (i : Nat) : State := { s with brd := { s.brd with guard := assocDel s.brd.guard i } }

/-- An initiator's value is held pending. -/
def State.guardHold (s : State) (i a v : Nat) : State := { s with brd := { s.brd with guard := assocPut s.brd.guard i (a, v) } }

/-- A write interrupts what its initiator has pending (R368, REASON 1). -/
def State.guardBreak (s : State) (i : Nat) : State :=
  match s.pendingOf i with
  | some p => (s.guardDrop i).guardFail i p.1 1
  | none => s

/-- 256 Bridle cycles have passed without the complement (REASON 2). -/
def State.guardLate (s : State) (i : Nat) : State :=
  match s.pendingOf i with
  | some p => (s.guardDrop i).guardFail i p.1 2
  | none => s

/-- The value of a complete pair is accepted: thresholds only of a latched lane (R311), limits with LO up to HI (R239). -/
def State.guardTaken (s : State) (a v : Nat) : Bool :=
  if 0x20100 ≤ a ∧ a < 0x20200 ∧ a % 0x20 = 0 then s.bitOf SAF.STATUS_LATCH ((a - 0x20100) / 0x20)
  else if 0xB0100 ≤ a ∧ a < 0xB0700 ∧ (a - 0xB0100) % 0x40 = 0x20 then decide (bits v 0 16 ≤ bits v 16 16)
  else true

/-- The word `v` reaches the complement address of the pair at `a`: the value takes effect, or the pair fails with REASON
3 or 4. A value that is taken gives both words their parity anew (R369). -/
def State.guardSecond (s : State) (i a v : Nat) : State :=
  match s.pendingOf i with
  | none => s.guardFail i a 4
  | some p =>
    if p.1 ≠ a then (s.guardBreak i).guardFail i a 4
    else if v = 2 ^ 32 - 1 - p.2 then
      ((s.guardDrop i).guardWrite a p.2).when (s.guardTaken a p.2) (fun t => (t.parityRight a).parityRight (a + 4))
    else (s.guardDrop i).guardFail i a 3

/-! ## Parity (R369, R370) -/

/-- A mismatch of the word at `a` is found (R369, R370): counted, and answered by its block. -/
def State.parityFound (s : State) (a : Nat) : State :=
  let u := s.parityNote a a
  if 0x10000 ≤ a ∧ a < 0x30000 then u.safParity a else u.alarm 0x12 0 0

/-- Every field of the register is restricted, and a write by `i` is discarded as a whole (R355, R358). -/
def State.shutOut (s : State) (i : Initiator) (a : Nat) : Bool :=
  ((a == CFG.WDT_TMO.addr || a == SPR.PRIV_EV_PREEMPT.addr) && i != .gondola) ||
    (decide (0xE0100 ≤ a) && decide (a < 0xE0110) && !s.lcOpen)

/-- A write of `v` at `a`, after which the state is `t`, has stored a field of the word: one that the write names stands at its
written value, or has changed. The word then has its parity anew (R369). -/
def State.stored (s t : State) (i : Initiator) (a v : Nat) : Bool :=
  !s.shutOut i a && (fieldsAt a).any (fun f =>
    (f.acc == .rw || f.acc == .ba || f.acc == .ixrw || (f.acc == .wm && bits v (16 + f.lo) f.w == 2 ^ f.w - 1)) &&
      (t.get (seenBy i.code f) == bits v f.lo f.w || t.get (seenBy i.code f) != s.get (seenBy i.code f)))

/-- The sweep visits the word at `a`; `wrong`: its parity is wrong (R369). Indirect words are left out (R365). -/
def State.parityVisit (s : State) (a : Nat) (wrong : Bool) : State :=
  if s.awake && decide (a < 0x200000) && hasParity a && (wrong || s.brd.parityBad.contains a) then s.parityFound a else s

/-! ## 32-bit accesses to the register space -/

/-- A write through an alias of a BA bit (R364). -/
def State.aliasWrite (s : State) (i : Initiator) (a v : Nat) : State :=
  let (r, k) := aliasTarget a
  let old := s.wordAt r
  let t := s.plainWrite i r (putBit old k (bit v 0))
  t.when (!s.forbids i r (putBit old k (bit v 0))) (·.parityRight r)

/-- A 32-bit write of a register that is mapped and whose access is not turned away (R358, R367, R371). -/
def State.wordTake (s : State) (i : Initiator) (a v : Nat) : State :=
  if isGuarded a then ((s.guardBreak i.code).guardHold i.code a v)
  else if 4 ≤ a ∧ isGuarded (a - 4) = true then s.guardSecond i.code (a - 4) v
  else
    let t := s.guardBreak i.code
    if inAlias a then
      let (r, k) := aliasTarget a
      let u := t.aliasWrite i a v
      if t.forbids i r (putBit (t.wordAt r) k (bit v 0)) then u.accessFault i.code a 7 true 4 else u
    else
      let w := t.plainWrite i a v
      let u := w.when (t.stored w i a v) (·.parityRight a)
      if t.forbids i a v then u.accessFault i.code a 7 true 4 else u

/-- An aligned 32-bit write by initiator `i` (R360, R361). Data registers judge their own faults (R365). -/
def State.write32 (s : State) (i : Initiator) (a v : Nat) : State :=
  let t := s.countEvent 0x001 0 1
  if unmapped i a then t.accessError i.code a 4 true 4
  else if inAlias a && !isBa (aliasTarget a).1 (aliasTarget a).2 then t.accessError i.code a 1 true 4
  else (t.respond .done).wordTake i a v

/-- The word in the Gondola ROM. -/
def State.romWord (_ : State) (a : Nat) : Nat := Config.rom a % 2 ^ 32

/-- What reading a register does beside the answer: pops, indirect accesses, and the copy of an alarm entry (R365, R414,
R418, R432). `wrong`: the parity of the indirect word is wrong; `e`: what the code of a memory word finds. -/
def State.readEffect (s : State) (i : Initiator) (a : Nat) (wrong : Bool) (e : SprEcc) : State :=
  let acc : DataAcc := if wrong then .bad .uncorrectable else .read
  if a = SND.FIFO_WORD.addr then s.fifoPop
  else if a = (STR.RING_PORT_PORT 0).addr then s.ringPop i.code 0 e
  else if a = (STR.RING_PORT_PORT 1).addr then s.ringPop i.code 1 e
  else if 0x51000 ≤ a ∧ a < 0x51800 then s.almRead i.code ((a - 0x51000) / 0x20) ((a - 0x51000) / 4 % 8)
  else if a = SPR.MEM_DATA_DATA.addr then s.sprMemAccess i (if wrong then acc else if e = .clean then .read else .bad e)
  else if 0x100000 ≤ a ∧ a < 0x180000 then
    let n : Lane := Fin.ofNat 8 ((a - 0x100000) / 0x10000)
    let off := a % 0x10000
    if off = 0x0044 then s.pairAccess i (.slc n) acc
    else if off = 0x0124 then s.pairAccess i (.eqc n) acc
    else if off = 0x0444 then s.pairAccess i (.txt n) acc
    else if off = 0xF100 then s.capPop n
    else s.respond (.data (s.viewWord i.code a))
  else if 0x180000 ≤ a ∧ a < 0x1C0000 ∧ a % 0x4000 = 0x0044 then s.pairAccess i (.rxc (Fin.ofNat 16 ((a - 0x180000) / 0x4000))) acc
  else s.respond (.data (s.viewWord i.code a))

/-- A read of the 32-bit word at `a`; `wrong`: its parity is found wrong (R370). A parity error is that of the access of `n` bytes
at `at_` (R362). -/
def State.read32 (s : State) (i : Initiator) (a : Nat) (wrong : Bool) (e : SprEcc) (at_ : Nat := a) (n : Nat := 4) : State :=
  let t := s.countEvent 0x001 0 1
  if unmapped i a then t.accessError i.code a 4 false 4
  else if inRom a then t.respond (.data (t.romWord a))
  else if t.absent a then t.respond (.data 0)
  else
    let r := if inAlias a then (aliasTarget a).1 else a
    if hasParity r && (wrong || t.brd.parityBad.contains r) then (t.parityFound r).accessError i.code at_ 9 false n
    else if inAlias a then t.respond (.data ((t.viewWord i.code r) / 2 ^ (aliasTarget a).2 % 2))
    else t.readEffect i a wrong e

/-! ## Accesses of every size (R360, Table 17-2) -/

/-- The first error of two halves, else both words. -/
def Resp.pair : Resp → Resp → Resp
  | .error k, _ => .error k
  | _, .error k => .error k
  | .data a, .data b => .data (a + 2 ^ 32 * b)
  | .data a, .poisoned b => .poisoned (a + 2 ^ 32 * b)
  | .poisoned a, .data b => .poisoned (a + 2 ^ 32 * b)
  | .poisoned a, .poisoned b => .poisoned (a + 2 ^ 32 * b)
  | a, _ => a

/-- A write of `2^size` bytes to the register space. A 64-bit write at a multiple of 8 is two 32-bit writes. -/
def State.regWrite (s : State) (i : Initiator) (a size v : Nat) : State :=
  let n := 2 ^ size
  if size = 3 ∧ a % 8 = 0 then
    let t := s.write32 i a (v % 2 ^ 32)
    let u := t.write32 i (a + 4) (v / 2 ^ 32 % 2 ^ 32)
    u.respond (Resp.pair t.brd.resp u.brd.resp)
  else if unmapped i a then (s.countEvent 0x001 0 1).accessError i.code a 4 true n
  else if a % n ≠ 0 then (s.countEvent 0x001 0 1).accessError i.code a 2 true n
  else if size < 2 then (s.countEvent 0x001 0 1).accessError i.code a 1 true n
  else s.write32 i a (v % 2 ^ 32)

/-- A read of `2^size` bytes of the register space; bit `k` of `wrong`: the parity of its word `k` is wrong. -/
def State.regRead (s : State) (i : Initiator) (a size : Nat) (wrong : BitVec 2) (e : SprEcc) : State :=
  let n := 2 ^ size
  if size = 3 ∧ a % 8 = 0 then
    let t := s.read32 i a (wrong.getLsbD 0) e
    let u := t.read32 i (a + 4) (wrong.getLsbD 1) e
    u.respond (Resp.pair t.brd.resp u.brd.resp)
  else if unmapped i a then (s.countEvent 0x001 0 1).accessError i.code a 4 false n
  else if a % n ≠ 0 then (s.countEvent 0x001 0 1).accessError i.code a 2 false n
  else if size < 2 then
    if sideEffect (a / 4 * 4) then (s.countEvent 0x001 0 1).accessError i.code a 3 false n
    else
      let t := s.read32 i (a / 4 * 4) (wrong.getLsbD 0) e a n
      match t.brd.resp with
      | .data w => t.respond (.data (w / 256 ^ (a % 4) % 256 ^ n))
      | _ => t
  else s.read32 i a (wrong.getLsbD 0) e

/-- What an error or poison on a read means to PCIe: a Completer Abort, or EP (R430). -/
def State.pcieNote (s : State) (i : Initiator) : State :=
  if i ≠ .pcie then s
  else match s.brd.resp with
    | .error _ => s.inc PCI.CNT_CA_CNT
    | .poisoned _ => s.inc PCI.CNT_EP_CNT
    | _ => s

/-- A BAR0 access to a stack member: turned away where it is not reachable, else sent on under a tag, a free value, that its
REG_RSP returns (R430, R438). -/
def State.memberAccess (s : State) (i : Initiator) (a size : Nat) (write : Bool) (words : List Nat) : State :=
  if bit (s.get TTH.STATUS_REACH) (a / 0x400000) then
    let tag := s.drawn 42 8
    (((s.respond .none).sendNone.send 1 7 ([a / 0x400000, a % 0x400000, size, tag] ++ words)).setTth
      (fun t => { t with asked := t.asked ++ [tag] })).drew
  else s.accessError i.code a 5 write (2 ^ size)

/-- A write by initiator `i` of `2^size` bytes anywhere in the Bridle address space. -/
def State.busWrite (s : State) (i : Initiator) (a size v : Nat) : State :=
  if !s.mayAccess i then s
  else if inMemberBar i a then s.memberAccess i a size true [v % 2 ^ 32, v / 2 ^ 32]
  else if inMemory a then s.memWrite i.code a (2 ^ size) v
  else s.regWrite i a size v

/-- Poison is an error response to the two-wire port and the tether, of a KIND that the spec does not give: a free value (R385). -/
def State.poisonNote (s : State) (i : Initiator) : State :=
  match i, s.brd.resp with
  | .mgmt, .poisoned _ => (s.respond (.error (s.drawn 40 8))).drew
  | .tether, .poisoned _ => (s.respond (.error (s.drawn 40 8))).drew
  | _, _ => s

/-- A read by initiator `i`. -/
def State.busRead (s : State) (i : Initiator) (a size : Nat) (wrong : BitVec 2) (e : SprEcc) : State :=
  if !s.mayAccess i then s
  else if inMemberBar i a then (s.memberAccess i a size false []).pcieNote i
  else (if inMemory a then s.memRead i.code a (2 ^ size) e else s.regRead i a size wrong e).pcieNote i |>.poisonNote i

/-- A 32-bit access of the data register at `a` of an indirect pair (R365). A read that is not `.read` finds its word wrong. -/
def State.dataAccess (s : State) (i : Initiator) (a : Nat) (acc : DataAcc) : State :=
  match acc with
  | .write w => s.busWrite i a 2 w.toNat
  | _ => s.busRead i a 2 (if acc.ecc = .uncorrectable ∨ (acc.ecc = .corrected ∧ a ≠ SPR.MEM_DATA_DATA.addr) then
      (if a = SPR.MEM_DATA_DATA.addr ∧ s.get (SPR.MEM_ADDR_ADDR.forInit i.code) < 0x30000 then 0 else 1) else 0) acc.ecc

/-- Bridle answers the LDIO or STIO of a stalled Spar with an error: IO_ERR (R275, R361). -/
def State.ioError (s : State) : State :=
  match s.spr.run with
  | .io _ _ _ _ => (s.sprFault 8).ioAfter
  | _ => s

/-- A domain has not answered in 1,536 Bridle cycles (R361, KIND 6). A stalled Spar has waited 3,072 cycles of its own. -/
def State.bridleTimeout (s : State) (i : Initiator) (a size : Nat) (write : Bool) : State :=
  if !s.mayAccess i then s
  else
    let t := ((s.inc GLB.BRD_CNT1_TMO_CNT).accessError i.code a 6 write (2 ^ size)).when (inMemberBar i a)
      (·.setTth (fun t => { t with asked := t.asked.tail }))
    let u := if write then t else t.pcieNote i
    match i, u.spr.run with
    | .spar, .io w _ _ _ => (u.ioStalled w 3072).ioError
    | _, _ => u

end Sys2Proof.Machine
end

