-- ==== Sys2Proof/Machine/BootOps.lean ====
section
/-!
DEFINITION. Boot and rig (chapter 16): slot checks and selection, the boot sequence after LGC_RDY, and the application
of a rig at boot and at runtime.
-/

namespace Sys2Proof.Machine

open Sys2Proof

/-- Change boot's state outside its registers. -/
def State.setBoot (s : State) (f : BootSt → BootSt) : State := { s with boot := f s.boot }

/-! ## Flash (R346 to R348, Tables 16-4 to 16-6) -/

/-- Where slot `k` of firmware, or of the rig, begins (Table 16-4). -/
def flashSlot (fw : Bool) (k : Fin 2) : Nat := (if fw then 0 else 0x800000) + 0x400000 * k.val

/-- Where the calibration mirror of rig slot `k` begins (Table 16-4). -/
def mirrorBase (k : Fin 2) : Nat := flashSlot false k + 0x3DF000

/-- Bytes of flash. -/
def State.flashBytes (s : State) (a n : Nat) : List Nat := bytesAt s.flash a n

/-- A little-endian field of flash (R347). -/
def State.flashLE (s : State) (a n : Nat) : Nat := readLE s.flash a n

/-- Bytes of flash are erased. -/
def State.flashErase (s : State) (a n : Nat) : State :=
  { s with flash := s.flash.filter (fun c => decide (c.1 < a) || decide (a + n ≤ c.1)) }

/-- Bytes are written into flash. -/
def State.flashWrite (s : State) (a : Nat) (bs : List Nat) : State := { s with flash := writeBytes s.flash a bs }

/-- The section table of the image at `b` (R348). -/
def State.sectionsIn (s : State) (b : Nat) : List RigSection :=
  (List.range (s.flashLE (b + 0x11) 1)).map (fun k =>
    let e := b + 0xB50 + 16 * k
    ⟨s.flashLE e 2, s.flashLE (e + 2) 2, s.flashLE (e + 4) 4, s.flashLE (e + 8) 4, s.flashLE (e + 12) 4⟩)

/-- The sections of a type in the image at `b`, in the order of the table. -/
def State.sectionsOf (s : State) (b type : Nat) : List RigSection := (s.sectionsIn b).filter (fun x => x.type == type)

/-- The bytes of the sections of a type in the image at `b`. -/
def State.contentOf (s : State) (b type : Nat) : List Nat :=
  (s.sectionsOf b type).flatMap (fun x => s.flashBytes (b + x.offset) x.length)

/-- The nodes of a STRUCT section from node `i` on: a 16-bit word each (Table 16-6). -/
def nodesOf : List Nat → Nat → List (Nat × Nat)
  | lo :: hi :: l, i => if lo + 256 * hi = 0 then nodesOf l (i + 1) else (i, lo + 256 * hi) :: nodesOf l (i + 1)
  | _, _ => []

/-- The pairs of a PRELOAD section: a 32-bit address and a 32-bit value each (Table 16-6). -/
def preloadPairs : List Nat → List (Nat × Nat)
  | a :: b :: c :: d :: e :: f :: g :: h :: l => (leVal [a, b, c, d], leVal [e, f, g, h]) :: preloadPairs l
  | _ => []

/-- The records of a CALSEED section: a 4-byte word with the lane in [2:0] and the point in [7:4], and a record of Table 06-4. -/
def calseedRecords (bs : List Nat) : List (Nat × Nat × List Nat) :=
  (List.range (bs.length / 1028)).map (fun k =>
    let w := leVal ((bs.drop (1028 * k)).take 4)
    (bits w 0 3, bits w 4 4, (bs.drop (1028 * k + 4)).take 1024))

/-- The image in rig slot `k`. -/
def State.rigIn (s : State) (k : Fin 2) : RigImage :=
  let b := flashSlot false k
  { seq := s.flashLE (b + 8) 4
    digest := s.flashBytes (b + 0x20) 32
    nodes := nodesOf (s.contentOf b 1) 0
    ports := Config.portsSection (s.contentOf b 7)
    preload := preloadPairs (s.contentOf b 2)
    spar := if (s.sectionsOf b 3).isEmpty then none else some (Config.sparSection (s.contentOf b 3))
    calseed := calseedRecords (s.contentOf b 4)
    safety := Config.safetySection (s.contentOf b 5)
    ballast := if (s.sectionsOf b 6).isEmpty then none else some (Config.ballastSection (s.contentOf b 6))
    apps := Config.appsOf (s.contentOf b 7)
    moduleSerial := Config.moduleSerial (s.flashBytes (b + 0x20) 32) % 2 ^ 64 }

/-! ## Slot checks (R346 to R350, Table 16-7) -/

/-- A list has no element twice. -/
def distinct (l : List Nat) : Bool := l.eraseDups.length == l.length

/-- R27 for a port: a group of 1, 2, 4 or 8 contiguous line lanes from a multiple of the group size, named by the lowest. -/
def portGrouped (p : RigPort) : Bool :=
  let g := p.lanes.length
  (g == 1 || g == 2 || g == 4 || g == 8) && p.port.val % g == 0 &&
    p.lanes.map (fun l => l.lane.val) == (List.range g).map (p.port.val + ·)

/-- Every line lane of the port definitions. -/
def rigLanes (ps : List RigPort) : List RigLane := ps.flatMap (·.lanes)

/-- A lane's blocks: numbers up to 0x17, at most five, and slot layout words within their fields (R63, Table 03-11). -/
def blocksOk (l : RigLane) : Bool :=
  decide (l.blocks.length ≤ 5) && l.blocks.all (fun b => decide (b.1 ≤ 0x17) && decide (b.2.1 ≤ 3) && decide (b.2.2 ≤ 0x1FF))

/-- A block is given to two lanes (R63). DESIGN CHOICE (log 151): two slots of one lane may name one block. -/
def blocksShared (ls : List RigLane) : Bool :=
  ls.any (fun a => ls.any (fun b => a.lane != b.lane && a.blocks.any (fun x => b.blocks.any (fun y => x.1 == y.1))))

/-- A PAIR_ID is held by more than two ports, or exceeds its field. -/
def pairsWrong (ps : List RigPort) : Bool :=
  let ids := ps.filterMap (·.pair)
  ids.any (fun i => decide (0x3F < i) || decide (2 < (ids.filter (· == i)).length))

/-- ORDER and NAP_PRIO are in order: no code 0x3, none repeated, six bits; priorities up to 0xF. -/
def ballastOk (b : Nat × List Nat) : Bool :=
  let cs := [b.1 % 4, b.1 / 4 % 4, b.1 / 16 % 4]
  decide (b.1 < 64) && !cs.contains 3 && distinct cs && b.2.all (fun p => decide (p ≤ 0xF))

/-- Every SAFETY value fits the field it is written to (Table 16-6). -/
def safetyFits (f : RigSafety) : Bool :=
  f.lanes.all (fun l => decide (l.hi < 0x400) && decide (l.lo < 0x400) && decide (l.supHi < 0x400) && decide (l.supLo < 0x400) &&
    decide (l.supIn < 0x20) && decide (-0x80000000 ≤ l.gain) && decide (l.gain ≤ 0x7FFFFFFF) && decide (-0x8000 ≤ l.ofs) &&
    decide (l.ofs ≤ 0x7FFF) && decide (l.tol < 0x10000)) &&
    decide (f.supTmo < 0x100) && decide (f.proofInt < 0x10000) &&
    f.channels.all (fun c => decide (c.1 < 0x10000) && decide (c.2.1 < 0x10000) && decide (c.2.2 < 0x10000))

/-- Check 8: R26, R27, R63 and the encodings of PORTS, BALLAST and SAFETY. -/
def contentOk (m : RigImage) : Bool :=
  let ls := rigLanes m.ports
  m.ports.all portGrouped && distinct (ls.map (·.lane.val)) && distinct (ls.flatMap (fun l => [l.hostA.val, l.hostB.val])) &&
    ls.all blocksOk && !blocksShared ls && m.ports.all (fun p => decide (p.latClass ≤ 1)) && !pairsWrong m.ports &&
    (match m.ballast with | some b => ballastOk b | none => true) && safetyFits m.safety

/-- Two sections do not overlap. -/
def sectionsApart (x y : RigSection) : Bool := decide (x.offset + x.length ≤ y.offset) || decide (y.offset + y.length ≤ x.offset)

/-- No two sections of the list overlap. -/
def sectionsDisjoint : List RigSection → Bool
  | [] => true
  | x :: xs => xs.all (sectionsApart x) && sectionsDisjoint xs

/-- Check 7 (R347, R348, Tables 16-5 to 16-7): the sections lie inside an image of `len` bytes, after the section table, without
overlap; a rig has 4 to 32 of them, each of a type of Table 16-6, STRUCT, PRELOAD, SAFETY and PORTS among them. -/
def sectionsOk (fw : Bool) (len : Nat) (l : List RigSection) : Bool :=
  l.all (fun x => decide (0xB50 + 16 * l.length ≤ x.offset) && decide (x.offset + x.length ≤ len)) && sectionsDisjoint l &&
    (fw || (decide (4 ≤ l.length) && decide (l.length ≤ 32) && l.all (fun x => decide (1 ≤ x.type) && decide (x.type ≤ 7)) &&
      [1, 2, 5, 7].all (fun t => l.any (fun x => x.type == t))))

/-- DIGEST of the image at `b` matches (Table 16-5). -/
def State.digestOk (s : State) (b : Nat) : Bool :=
  shake256 (s.flashBytes b 0x20 ++ s.flashBytes (b + 0xB50) (s.flashLE (b + 0x0C) 4 - 0xB50)) == s.flashBytes (b + 0x20) 32

/-- SIGNATURE of the image at `b` verifies: over its first 0x40 bytes, under the root key or the customer key that KEY_SLOT names
(R345, R445). -/
def State.signatureOk (s : State) (fw : Bool) (b : Nat) : Bool :=
  !Config.signatureFails fw (if fw then [] else s.sec.keys.get (Fin.ofNat 2 (s.flashLE (b + 0x10) 1))) (s.flashBytes b 0x40)
    (s.flashBytes (b + 0x40) 2820)

/-- The result code of a slot (Table 16-7); a firmware slot has KEY_SLOT 0x00 and no check 8 (R345, R445). -/
def State.slotCheck (s : State) (fw : Bool) (k : Fin 2) : Nat :=
  let b := flashSlot fw k
  if s.flashLE b 4 ≠ 0x4C4E5247 then 1
  else if s.flashLE (b + 5) 1 ≠ 1 ∨ s.flashLE (b + 6) 2 ≠ 0xB50 then 2
  else if s.flashLE (b + 0x0C) 4 < 0xB60 ∨ 0x3DF000 < s.flashLE (b + 0x0C) 4 then 3
  else if (if fw then s.flashLE (b + 0x10) 1 ≠ 0 else s.slotLive (s.flashLE (b + 0x10) 1) = false) then 4
  else if s.digestOk b = false then 5
  else if s.signatureOk fw b = false then 6
  else if sectionsOk fw (s.flashLE (b + 0x0C) 4) (s.sectionsIn b) = false then 7
  else if fw = false ∧ contentOk (s.rigIn k) = false then 8
  else 0

/-- SEQ `a` is newer than `b` (R350). -/
def seqNewer (a b : Nat) : Bool :=
  let d := (a + 2 ^ 32 - b) % 2 ^ 32
  decide (1 ≤ d) && decide (d ≤ 2 ^ 31 - 1)

/-- The slot the loader takes by the two result codes and SEQs (R350). -/
def slotTaken (c0 c1 q0 q1 : Nat) : Option (Fin 2) :=
  if c0 = 0 ∧ c1 = 0 then some (if seqNewer q1 q0 then 1 else 0)
  else if c0 = 0 then some 0
  else if c1 = 0 then some 1
  else none

/-- The SEQ of a slot's image. -/
def State.slotSeq (s : State) (fw : Bool) (k : Fin 2) : Nat := s.flashLE (flashSlot fw k + 8) 4

/-- The slot the loader takes (R350). -/
def State.slotPick (s : State) (fw : Bool) : Option (Fin 2) :=
  slotTaken (s.slotCheck fw 0) (s.slotCheck fw 1) (s.slotSeq fw 0) (s.slotSeq fw 1)

/-- A slot's result is shown, and a signature that does not verify is counted (R349, R445). -/
def State.checked (s : State) (f : Field) (code : Nat) : State :=
  let t := s.set f code
  if code = 6 then t.inc SEC.CNT_VERIFY_FAIL else t

/-! ## Port definitions and their staging (R203, R204) -/

/-- The definition of a port. -/
def defOf (ps : List RigPort) (k : PortId) : Option RigPort := ps.find? (fun p => p.port == k)

/-- What a definition uses: line lanes, host lanes and blocks, as numbers. -/
def usesOf (d : Option RigPort) : List Nat :=
  match d with
  | none => []
  | some p => p.lanes.flatMap (fun l => [l.lane.val, 100 + l.hostA.val, 100 + l.hostB.val] ++ l.blocks.map (fun b => 200 + b.1))

/-- Two ports share a lane or a block, in their old or their new definitions. -/
def State.portsShare (s : State) (new : List RigPort) (a b : PortId) : Bool :=
  let ua := usesOf (defOf s.boot.defs a) ++ usesOf (defOf new a)
  let ub := usesOf (defOf s.boot.defs b) ++ usesOf (defOf new b)
  ua.any ub.contains

/-- The ports whose definition changes. -/
def State.portsChanged (s : State) (new : List RigPort) : List PortId :=
  (List.finRange 8).filter (fun (k : PortId) => defOf s.boot.defs k != defOf new k)

/-- The changed ports that a part touches, found from those it has so far. -/
def State.partGrow (s : State) (new : List RigPort) (k : Nat) (part : List PortId) : List PortId :=
  match k with
  | 0 => part
  | k + 1 => s.partGrow new k ((s.portsChanged new).filter (fun b => part.any (fun a => a == b || s.portsShare new a b)))

/-- The parts of a rig: each a set of changed ports that move lanes or blocks between them. -/
def State.rigParts (s : State) (new : List RigPort) : List (List PortId) :=
  ((s.portsChanged new).map (fun k => s.partGrow new 8 [k])).eraseDups

/-- The maps of a line lane are cleared: GBX_MAP, TAP_MAP and the slot layout words. -/
def State.mapsClear (s : State) (n : Lane) : State :=
  let t := (((s.off (LN.GBX_MAP_HOST_A n)).off (LN.GBX_MAP_HOST_B n)).off (LN.GBX_MAP_TIMING_SEL n)).off (LN.GBX_MAP_MAP_VALID n)
  t.each (List.range 5) (fun q u =>
    (((u.off (LN.TAP_MAP_BLOCK n q)).off (LN.TAP_MAP_VALID n q)).off (EQC.SLOT_KIND n q)).off (EQC.SLOT_START n q))

/-- A line lane leaves its port: it goes Off, and it has no maps. -/
def State.laneUndefine (s : State) (n : Lane) : State := ((s.calAbort n).laneOff n).mapsClear n

/-- A line lane that no port has taken stays Off with its laser channel at its clear code (R27, log 147). -/
def State.laneUnused (s : State) (n : Lane) : State :=
  if (s.portOf n).isSome then s
  else (s.setCh (biasChan n) (fun h => { h with queue := [] })).outClear (biasChan n)

/-- A line lane takes its pairing, timing host lane and blocks; only a FLOAT slot has a START (Table 03-11). -/
def State.laneDefine (s : State) (l : RigLane) : State :=
  let n := l.lane
  let t := ((((s.mapsClear n).set (LN.GBX_MAP_HOST_A n) l.hostA).set (LN.GBX_MAP_HOST_B n) l.hostB).setB (LN.GBX_MAP_TIMING_SEL n)
    l.timingB).on (LN.GBX_MAP_MAP_VALID n)
  t.each ((List.range 5).zip l.blocks) (fun p u =>
    (((u.set (LN.TAP_MAP_BLOCK n p.1) p.2.1).on (LN.TAP_MAP_VALID n p.1)).set (EQC.SLOT_KIND n p.1) p.2.2.1).set (EQC.SLOT_START n p.1)
      (if p.2.2.1 = 2 then p.2.2.2 else 0))

/-- A port exists no more. -/
def State.portUndefine (s : State) (k : PortId) : State :=
  let t := s.each (s.lanesOf k) (fun n t => t.laneUndefine n)
  ((t.setPt k (fun p => { p with defined := false, lanes := 0, twoPass := false, staged := false })).off (CAL.PAIR_PAIRED k)).off
    (CAL.PAIR_PAIR_ID k)

/-- A port takes its definition. -/
def State.portDefine (s : State) (p : RigPort) : State :=
  let k := p.port
  let t := s.setPt k (fun x => { x with defined := true, lanes := p.lanes.length, twoPass := p.latClass == 1 })
  let u := t.each p.lanes (fun l u => u.laneDefine l)
  (u.setB (CAL.PAIR_PAIRED k) p.pair.isSome).set (CAL.PAIR_PAIR_ID k) (p.pair.getD 0)

/-- A part of a rig is put in force: the ports it touches lose their definitions and take the new ones (R204). -/
def State.partApply (s : State) (touched : List PortId) (new : List RigPort) : State :=
  let mine := new.filter (fun p => touched.contains p.port)
  let t := ((s.each touched (fun k t => t.portUndefine k)).each mine (fun p t => t.portDefine p)).each
    (touched.flatMap s.lanesOf) (fun n t => t.laneUnused n)
  t.setBoot (fun b => { b with defs := b.defs.filter (fun p => !touched.contains p.port) ++ mine })

/-- Every port a part touches is DOWN. -/
def State.partDown (s : State) (touched : List PortId) : Bool := touched.all (fun k => s.pstate k == 0)

/-- What is staged is superseded (R204). -/
def State.unstage (s : State) : State :=
  (s.each (List.finRange 8) (fun k t => t.setPt k (fun p => { p with staged := false }))).setBoot (fun b => { b with staged := [] })

/-- STAGED follows. -/
def State.stagedShow (s : State) : State := s.setB CFG.BOOT_STAGED (!s.boot.staged.isEmpty)

/-- The tap layouts are checked at every rig application (R65). -/
def State.layoutsApply (s : State) : State := s.each (List.finRange 8) (fun n t => t.layoutApply n)

/-- Port definitions and structure map are applied: parts whose ports are DOWN at once, the others staged (R204, R352). -/
def State.portsApply (s : State) (m : RigImage) : State :=
  let t := s.unstage
  let parts := t.rigParts m.ports
  let later := parts.filter (fun p => !t.partDown p)
  let u := t.each (parts.filter t.partDown) (fun p u => u.partApply p m.ports)
  let v := u.each later (fun p v => v.each p (fun k w => w.setPt k (fun x => { x with staged := true })))
  let w := v.setBoot (fun b => { b with
    nodes := if later.isEmpty then m.nodes else b.nodes
    staged := later.map (fun p => ⟨p, m.ports, m.nodes⟩) })
  w.layoutsApply.stagedShow

/-- Staged parts whose ports are all DOWN are applied, and hold bit 10 clears (R204, R354). -/
def State.stagedApply (s : State) : State :=
  let ready := s.boot.staged.filter (fun g => s.partDown g.touched)
  if ready.isEmpty then s
  else
    let t := s.each ready (fun g t =>
      ((t.partApply g.touched g.ports).each g.touched (fun k u => u.setPt k (fun p => { p with staged := false }))).setBoot
        (fun b => { b with nodes := g.nodes }))
    ((t.setBoot (fun b => { b with staged := b.staged.filter (fun g => !ready.contains g) })).layoutsApply.stagedShow).portsEval

/-! ## Preload (Table 16-6, R342, R352) -/

/-- The pair whose data register stands at `a`. -/
def dataPair (a : Nat) : Option Pair :=
  if 0x100000 ≤ a ∧ a < 0x180000 then
    let n : Lane := Fin.ofNat 8 ((a - 0x100000) / 0x10000)
    let off := a % 0x10000
    if off = 0x0044 then some (.slc n) else if off = 0x0124 then some (.eqc n) else if off = 0x0444 then some (.txt n) else none
  else if 0x180000 ≤ a ∧ a < 0x1C0000 ∧ a % 0x4000 = 0x0044 then some (.rxc (Fin.ofNat 16 ((a - 0x180000) / 0x4000)))
  else none

/-- The field is of class PT or LN. -/
def Field.ptLn (f : Field) : Bool := f.ret == .pt || f.ret == .ln

/-- A preload value goes to the word behind a pair, whatever the power of its lane; a busy or invalid word is the fault of
any host write (R119, R352). -/
def State.prePair (s : State) (p : Pair) (again : Bool) (v : Nat) : State :=
  let a := s.get (p.addr.forInit 0) / 4 * 4
  if s.pairBusy a p then (s.accessError 0 p.data.addr 5 true 4).respond s.brd.resp
  else if !p.valid a then (s.accessError 0 p.data.addr 8 true 4).respond s.brd.resp
  else
    (if !again || (fieldsAt (p.base + a)).any Field.ptLn then s.pairWrite a v p else s).advance 0 p.addr p.stride

/-- The bits of a written word that lie in fields of class PT or LN, with their mask bits. -/
def ptLnBits (a v : Nat) : Nat :=
  ((fieldsAt a).filter Field.ptLn).foldl (fun x f =>
    x + bits v f.lo f.w * 2 ^ f.lo + (if f.acc == .wm then bits v (16 + f.lo) f.w * 2 ^ (16 + f.lo) else 0)) 0

/-- One pair of the register preload is written by resident firmware, as a host writes it. `again`: at entry to Run, when
only fields of class PT and LN take their values (R342). -/
def State.preWrite (s : State) (again : Bool) (a v : Nat) : State :=
  match dataPair a with
  | some p => s.prePair p again v
  | none =>
    if again && !isPairAddr a then
      if (fieldsAt a).any Field.ptLn then (s.write32 .gondola a (ptLnBits a v)).respond s.brd.resp else s
    else (s.write32 .gondola a v).respond s.brd.resp

/-- The whole preload. -/
def State.preload (s : State) (again : Bool) (l : List (Nat × Nat)) : State := s.each l (fun p t => t.preWrite again p.1 p.2)

/-- The rig preload value of a register: the last one its preload gives. -/
def State.preloadOf (s : State) (a : Nat) : Option Nat :=
  match s.boot.rigNow with
  | some m => (m.preload.reverse.find? (fun p => p.1 == a)).map (·.2)
  | none => none

/-- The field of the preload that no host write reaches: the QDR-IV devices fitted (R376). -/
def State.fixedApply (s : State) (l : List (Nat × Nat)) : State :=
  match l.reverse.find? (fun p => p.1 == MEM.QDR_CFG_DEVICES.addr) with
  | some p => if s.variant then s.set MEM.QDR_CFG_DEVICES (bits p.2 MEM.QDR_CFG_DEVICES.lo MEM.QDR_CFG_DEVICES.w) else s
  | none => s

/-! ## Spar section, calibration points, safety (R278, R279, R352, R353) -/

/-- The Spar section is loaded; without one USER_LOADED reads 0 (R278). -/
def State.sparLoad (s : State) (sec : Option RigSpar) : State :=
  match sec with
  | none => s.off SPR.STATUS_USER_LOADED
  | some r =>
    let word (l : List Nat) (k : Nat) : Word := BitVec.ofNat 32 (l.getD k 0)
    let prog := (r.prog.take 0x3000).zip (List.range 0x3000)
    let data := r.data.filter (fun p => decide (0x10000 ≤ p.1) && decide (p.1 < 0x30000) && decide (0x2000 ≤ p.1 % 0x10000))
    let t := s.setSpr (fun x => { data.foldl (fun y p => y.setDatum ((p.1 - 0x10000) / 4 * 4) (BitVec.ofNat 32 p.2))
        (prog.foldl (fun y p => y.setInsn (0x1000 + p.2) (BitVec.ofNat 32 p.1)) x) with
      entry := r.entry % 0x4000, phase := .ready })
    let u := t.each ((List.finRange 4).zip r.ag) (fun p u => u.setSpr (fun x =>
      let g : SprAg := ⟨word [p.2.1] 0, word [p.2.2.1] 0, word [p.2.2.2.1] 0, word [p.2.2.2.2] 0⟩
      { x with ag := vset x.ag (Fin.ofNat 8 p.1.val) g }))
    let v := u.each ((List.range 4).zip r.scale) (fun p v =>
      (v.set (SPR.SCALE_SHIFT p.1) (bits p.2 0 6)).set (SPR.SCALE_SAT_EN p.1) (bits p.2 8 1))
    (v.set SPR.USER_BDA_USER_BDA r.userBda).on SPR.STATUS_USER_LOADED

/-- A rig application changes the Spar section (R279): the executive leaves the user program, loads the new section and will
enter it at its entry word; its own loops go on. -/
def State.sparChange (s : State) (sec : Option RigSpar) : State :=
  (if s.spr.user then s.takeOver else s).sparLoad sec

/-- A record is valid by its own CRC-32 (R353). -/
def recordOk (r : List Nat) : Bool := r.length == 1024 && crc32 (r.take 0x3FC) == leVal (r.drop 0x3FC)

/-- A record is placed in SRAM as point `p` of a lane. -/
def State.pointPut (s : State) (n : Lane) (p : Nat) (r : List Nat) : State :=
  if r.length = 1024 then s.memPutBytes (s.setAddr n p) r else s

/-- The points of a CALSEED section for the lanes that `p` names. -/
def State.calseed (s : State) (l : List (Nat × Nat × List Nat)) (p : Lane → Bool) : State :=
  s.each (l.filter (fun r => decide (r.1 < 8) && decide (r.2.1 < 16))) (fun r t =>
    let n : Lane := Fin.ofNat 8 r.1
    if p n then t.pointPut n r.2.1 r.2.2 else t)

/-- The header of the mirror of slot `k` is present and carries this SEQ (R353). -/
def State.mirrorHolds (s : State) (k : Fin 2) (seq : Nat) : Bool :=
  s.flashLE (mirrorBase k) 4 == 0x4C4E434D && s.flashLE (mirrorBase k + 4) 4 == seq

/-- Where the record of point `p` of lane `n` stands in the mirror of slot `k` (R353). -/
def recordBase (k : Fin 2) (n : Lane) (p : Nat) : Nat := mirrorBase k + 0x1000 + 0x400 * (16 * n.val + p)

/-- The calibration points of a boot (R353): of the slot's mirror where its SEQ is the image's, else of CALSEED. A lane whose
set then holds no valid point raises CAL_SET_EMPTY (R159). -/
def State.pointsLoad (s : State) (k : Fin 2) (m : RigImage) : State :=
  let t := if s.mirrorHolds k m.seq then
      s.each (List.finRange 8) (fun n t => t.each (List.range 16) (fun p u =>
        let r := s.flashBytes (recordBase k n p) 1024
        if recordOk r then u.pointPut n p r else u))
    else s.calseed m.calseed (fun _ => true)
  t.each (List.finRange 8) (fun n u =>
    if (u.points n).isEmpty then (u.on (CAL.LANE_EVENTS_SET_EMPTY n)).alarm 0x09 n 0 else u)

/-- The SAFETY section is put in force at boot (Table 16-6). -/
def State.safetyApply (s : State) (f : RigSafety) : State :=
  let t := s.each ((List.finRange 8).zip f.lanes) (fun p t =>
    let n := p.1
    let l := p.2
    let u := ((((t.set (SAF.LIM_HI n) l.hi).set (SAF.LIM_LO n) l.lo).set (SAF.SUP_SUP_HI n) l.supHi).set (SAF.SUP_SUP_LO n) l.supLo).set
      (SAF.INFO_SUP_IN n) l.supIn
    u.setSf n (fun x => { x with supGain := l.gain, supOfs := l.ofs, supTol := l.tol }))
  let u := (t.set SAF.SUPCFG_SUP_TMO f.supTmo).set SAF.SUPCFG_PROOF_INT f.proofInt
  let v := u.each ((List.finRange 24).zip f.channels) (fun p v =>
    let c := p.1
    (v.clrChange c p.2.1).limitsSet c p.2.2.1 p.2.2.2)
  (v.each (List.finRange 8) (fun n t => t.cmpShow n)).setBoot (fun b => { b with safety := some f })

/-- The values of a SAFETY section are those in force (R352). -/
def State.safetySame (s : State) (f : RigSafety) : Bool :=
  ((List.finRange 8).zip f.lanes).all (fun p =>
    let n := p.1
    let l := p.2
    s.get (SAF.LIM_HI n) == l.hi && s.get (SAF.LIM_LO n) == l.lo && s.get (SAF.SUP_SUP_HI n) == l.supHi &&
      s.get (SAF.SUP_SUP_LO n) == l.supLo && s.get (SAF.INFO_SUP_IN n) == l.supIn && (s.sf n).supGain == l.gain &&
      (s.sf n).supOfs == l.ofs && (s.sf n).supTol == l.tol) &&
    s.get SAF.SUPCFG_SUP_TMO == f.supTmo && s.get SAF.SUPCFG_PROOF_INT == f.proofInt &&
    ((List.finRange 24).zip f.channels).all (fun p =>
      s.get (BDA.CLR_CLR_CODE p.1) == p.2.1 && s.get (BDA.LIM_LO p.1) == p.2.2.1 && s.get (BDA.LIM_HI p.1) == p.2.2.2)

/-- The BALLAST section of an image; absent, the reset values apply. -/
def ballastOf (m : RigImage) : Nat × List Nat := m.ballast.getD (0x24, List.replicate 8 0xF)

/-! ## Application -/

/-- The rig in force is `m` of slot `k`. -/
def State.rigTake (s : State) (k : Fin 2) (m : RigImage) : State :=
  ((s.set CFG.BOOT_RIG_SLOT k).set CFG.RIG_SEQ_SEQ m.seq).setBoot (fun b => { b with rigNow := some m })

/-- A rig is applied at boot (step 7 of Table 16-3). -/
def State.rigBoot (s : State) (k : Fin 2) (m : RigImage) : State :=
  let t := ((((s.rigTake k m).portsApply m).fixedApply m.preload).preload false m.preload).sparLoad m.spar
  (((t.pointsLoad k m).safetyApply m.safety).ballastSet (ballastOf m))

/-- A rig is applied at runtime (R352). -/
def State.rigRun (s : State) (k : Fin 2) (m : RigImage) : State :=
  let old := match s.boot.rigNow with | some r => r.spar | none => none
  let t := (((s.rigTake k m).portsApply m).fixedApply m.preload).preload false m.preload
  let u := if old = m.spar then t else t.sparChange m.spar
  let v := (u.setB CFG.BOOT_SAFETY_PEND (!u.safetySame m.safety)).on CFG.BOOT_BALLAST_PEND
  let w := (v.setBoot (fun b => { b with ballast := some (ballastOf m) })).ballastLand
  let empty := (List.finRange 8).filter (fun n => (w.points n).isEmpty)
  let x := w.calseed m.calseed (fun n => empty.contains n)
  ((x.off CFG.BOOT_SAFE_BOOT).measure 4 m.digest).portsEval

/-! ## The boot sequence (R343, Table 16-3) -/

/-- What is sampled at LGC_RDY: STR_CYCLE starts at 0 (R482), the straps of the tether and of the two-wire port (R421, R435). -/
def State.straps (s : State) : State :=
  let t := s.set GLB.MGMT_ADDR (if s.tth.strapAddr then 0x54 else 0x50)
  let u := t.set STR.CYCLE_STR_CYCLE 0
  if s.variant then
    let v := (u.setB TTH.STATUS_ROLE s.tth.strapAnchor).set TTH.STATUS_ID s.tth.strapId
    if v.flag TTH.STATUS_ROLE != (v.get TTH.STATUS_ID == 0) then v.on TTH.STATUS_CFG_ERR else v
  else u

/-- The firmware slot taken (R339, R345): by R350, or the other one after three WDRs in the window if it is valid; the flag
says that the fallback was taken. -/
def fwTaken (c0 c1 : Nat) (pick : Option (Fin 2)) (third : Bool) : Option (Fin 2) × Bool :=
  match pick with
  | some 0 => if third && c1 == 0 then (some 1, true) else (some 0, false)
  | some 1 => if third && c0 == 0 then (some 0, true) else (some 1, false)
  | none => (none, false)

/-- Quick start is taken (R344): a passed record, less than 72 h old, of the rig chosen. -/
def State.quickOk (s : State) (valid : Bool) (rig : Option (Fin 2)) : Bool :=
  valid && s.flag CFG.QS_PASS && decide (s.since s.pwr.qsTime < 259200000) &&
    (match rig with | some k => s.slotSeq false k == s.get CFG.QS_SEQ_SEQ | none => false)

/-- Step 5: where the counter of powered time was lost, it is restored from the checkpoint (R404). -/
def State.timeRestore (s : State) : State :=
  if s.pwr.timeLost then
    { s with now := (s.str.mtpCkpt + (if s.str.mtpOrderly then 0 else 600000)) % timeMod, pwr := { s.pwr with timeLost := false } }
  else s

/-- Steps 4 and 5: the power-on self-test, if it runs, with its result `post`; SAFE_HOLD after a failure of it or of the
latest Packdown (R344, R454, R456). -/
def State.postRun (s : State) (quick post : Bool) : State :=
  let t := if quick then s.on CFG.BOOT_QUICK else (s.on CFG.BOOT_POST_RAN).setB TST.STATUS_POST_PASS post
  let bad := (!quick && !post) || (s.flag TST.RESULT0_DONE && !s.flag TST.RESULT0_PASS)
  (t.setB TST.STATUS_SAFE_HOLD bad).timeRestore

/-- The events of the measurement chain at boot (R451). -/
def State.bootMeasure (s : State) (fw rig : List Nat) : State :=
  ((s.measure 1 fw).measure 2 rig).measure 3 (shake256 [s.lc, s.keyBits])

/-- The device enters Doze (step 8): latches of lanes in ports are released, and ports are judged (R303). -/
def State.enterDoze (s : State) : State :=
  let t := (s.setPwr (fun p => { p with dev := .doze, second := false })).stallAlarm
  let u := if t.flag TST.STATUS_SAFE_HOLD then t
    else t.each ((List.finRange 8).filter (fun n => (t.portOf n).isSome)) (fun n v => v.relAsk n false)
  u.portsEval

/-- Steps 3 to 8 with firmware (R343 to R353), whose DIGEST is `fw`. -/
def State.bootFirmware (s : State) (valid post : Bool) (fw : List Nat) : State :=
  let pick := s.slotPick false
  let t := (((s.postRun (s.quickOk valid pick) post).checked CFG.RIG_CHK_CHK0 (s.slotCheck false 0)).checked CFG.RIG_CHK_CHK1
    (s.slotCheck false 1))
  match pick with
  | some k => ((t.rigBoot k (s.rigIn k)).bootMeasure fw (s.rigIn k).digest).enterDoze.sparBoot
  | none => ((t.on CFG.BOOT_SAFE_BOOT).bootMeasure fw (List.replicate 32 0)).enterDoze.sparBoot

/-- ROM recovery (R345, R427): no firmware slot is valid. The two-wire port answers with the fixed lower page: identifier 0x19, module
state ModuleFault (log 207: its code), and the recovery marker 0x5E in byte 0x7D. -/
def State.recovery (s : State) : State :=
  let t : State := { s with mgt := { s.mgt with image := [(0, 0x19), (3, 0x0A), (0x7D, 0x5E)] } }
  ((t.on CFG.BOOT_FW_NONE).on CFG.BOOT_SAFE_BOOT).setPwr (fun p => { p with dev := .doze, second := false })

/-- LGC_RDY (R339, R343 to R345, Table 22-3): Gondola starts. `post` is what the power-on self-test gives, should it run. -/
def State.bootRun (s : State) (post : Bool) : State :=
  let valid := s.flag CFG.QS_VALID
  let third := s.pwr.otherFw
  let t := ((s.straps.off CFG.QS_VALID).setBoot (fun b => { b with wdt := some 0 })).setPwr (fun p => { p with otherFw := false })
  if t.lc = 5 then t.setPwr (fun p => { p with dev := .doze, second := false })
  else
    let pick := fwTaken (t.slotCheck true 0) (t.slotCheck true 1) (t.slotPick true) third
    let u := (t.checked CFG.RIG_CHK_FWCHK0 (t.slotCheck true 0)).checked CFG.RIG_CHK_FWCHK1 (t.slotCheck true 1)
    match pick.1 with
    | some k =>
      (((u.set CFG.BOOT_FW_SLOT k).set CFG.FW_SEQ_SEQ (t.slotSeq true k)).when pick.2 (·.on CFG.BOOT_FW_FALLBACK)).bootFirmware valid post
        (t.flashBytes (flashSlot true k + 0x20) 32)
    | none => u.recovery

/-- LGC_RDY arrives in its wake step. -/
def State.lgcReady (s : State) (post : Bool) : State := if s.pwr.dev = .waking 6 then s.bootRun post else s

/-- PG_LANE is ready (Table 15-3): unless it is TRIPPED (R289) the device enters Run, the preload of PT and LN fields is written again (R342), Reel's
paused channels go on, and the ports that asked go on. -/
def State.runEnter (s : State) : State :=
  if s.pwr.dev = .doze ∧ s.pwr.laneAsk = true ∧ s.flag THM.STATUS_TRIPPED = false then
    let t := s.setPwr (fun p => { p with dev := .run, laneAsk := false })
    let u := match t.boot.rigNow with | some m => t.preload true m.preload | none => t
    (u.reelRelease.stallAlarm).portsEval
  else s

/-! ## The mirror (R159, R353) -/

/-- The records of a lane's valid points are written into the mirror of slot `k`, erased before. -/
def State.laneMirror (s : State) (k : Fin 2) (n : Lane) : State :=
  (s.flashErase (recordBase k n 0) 0x4000).each (s.points n) (fun p t => t.flashWrite (recordBase k n p) (bytesAt s.image (s.setAddr n p) 1024))

/-- The changed sets are mirrored into the slot in use (R159, R353): its header sector is erased first and written last; a mirror without
the header of this image is written whole. -/
def State.mirrorWrite (s : State) : State :=
  match s.boot.rigNow with
  | none => s
  | some m =>
    let k : Fin 2 := Fin.ofNat 2 (s.get CFG.BOOT_RIG_SLOT)
    let ns := (List.finRange 8).filter (fun n => (s.ln n).cal.changed || !s.mirrorHolds k m.seq)
    if (List.finRange 8).all (fun n => !(s.ln n).cal.changed) then s
    else
      let t := (s.each ns (fun n t => t.setRead n)).flashErase (mirrorBase k) 0x1000
      let u := (t.each ns (fun n u => u.laneMirror k n)).flashWrite (mirrorBase k) (leBytes 4 0x4C4E434D ++ leBytes 4 m.seq)
      u.each (List.finRange 8) (fun n v => v.setCal n (fun c => { c with changed := false }))

end Sys2Proof.Machine
end

