-- ==== Sys2Proof/Machine/Bridle.lean ====
section
/-!
DEFINITION. Commands of the register interface (chapter 17).
-/

namespace Sys2Proof.Machine

open Sys2Proof

/-- REGISTER_WRITE: initiator `i` writes `2^size` bytes at `a` (R360, R361). -/
def execRegisterWrite (i : Initiator) (a : BitVec 32) (size : Fin 4) (v : BitVec 64) (s : State) : Out :=
  .next (s.busWrite i a.toNat size v.toNat)

/-- REGISTER_READ: initiator `i` reads `2^size` bytes at `a`; bit `k` of `wrong`: the parity of word `k` is wrong (R370); `e`: what a
memory's code finds. -/
def execRegisterRead (i : Initiator) (a : BitVec 32) (size : Fin 4) (wrong : BitVec 2) (e : SprEcc) (s : State) : Out :=
  .next (s.busRead i a.toNat size wrong e)

/-- GUARDED_PAIR_WRITE: the value at `a` and its complement at `a + 4` are written one after the other (R367, R368). -/
def execGuardedPairWrite (i : Initiator) (a : BitVec 32) (v c : Word) (s : State) : Out :=
  .next ((s.busWrite i a.toNat 2 v.toNat).busWrite i (a.toNat + 4) 2 c.toNat)

/-- GUARD_LATE (R368, REASON 2). -/
def execGuardLate (i : Initiator) (s : State) : Out := .next (s.whenAwake (fun s => s.guardLate i.code))

/-- BRIDLE_TIMEOUT (R361, KIND 6). -/
def execBridleTimeout (i : Initiator) (a : BitVec 32) (size : Fin 4) (write : Bool) (s : State) : Out :=
  .next (s.bridleTimeout i a.toNat size write)

/-- GLB_CNT_CLR (Table 17-4). -/
def execGlbCntClr (s : State) : Out := .next (s.whenAwake (fun s => s.brdCntClr))

/-- PARITY_SWEEP: the sweep visits the word at `a` (R369). -/
def execParitySweep (a : BitVec 32) (wrong : Bool) (s : State) : Out := .next (s.parityVisit (a.toNat / 4 * 4) wrong)

/-- The word that writes every field of a register with its reset value. -/
def resetWord (a : Nat) : Nat :=
  let fs := fieldsAt a
  fs.foldl (fun v f => v + f.reset % 2 ^ f.w * 2 ^ f.lo) 0 + (if fs.any (fun f => f.acc == .wm) then 0xFFFF0000 else 0)

/-- What the SAFETY section in force gives a register (Table 16-6). -/
def State.safetyWord (s : State) (a : Nat) : Option Nat :=
  match s.boot.safety with
  | none => none
  | some f =>
    if a = SAF.SUPCFG_SUP_TMO.addr then some (f.supTmo + 256 * f.proofInt)
    else if 0x20100 ≤ a ∧ a < 0x20200 then
      (f.lanes[(a - 0x20100) / 0x20]?).bind (fun l =>
        if a % 0x20 = 0 then some (l.hi + 0x10000 * l.lo) else if a % 0x20 = 8 then some (l.supHi + 0x10000 * l.supLo) else none)
    else if 0xB0100 ≤ a ∧ a < 0xB0700 then
      (f.channels[(a - 0xB0100) / 0x40]?).bind (fun c =>
        if a = (BDA.CLR_CLR_CODE ((a - 0xB0100) / 0x40)).addr then some c.1
        else if a = (BDA.LIM_LO ((a - 0xB0100) / 0x40)).addr then some (c.2.1 + 0x10000 * c.2.2) else none)
    else none

/-- The indirect word whose place in the register map is `a`: its pair and its address (R365). -/
def pairWordAt (a : Nat) : Option (Pair × Nat) :=
  if 0x100000000 ≤ a ∧ a < 0x100080000 then some (.slc (Fin.ofNat 8 ((a - 0x100000000) / 0x10000)), a % 0x10000)
  else if 0x100100000 ≤ a ∧ a < 0x100180000 then some (.eqc (Fin.ofNat 8 ((a - 0x100100000) / 0x10000)), a % 0x10000)
  else if 0x100200000 ≤ a ∧ a < 0x100280000 then some (.txt (Fin.ofNat 8 ((a - 0x100200000) / 0x10000)), a % 0x10000)
  else if 0x100300000 ≤ a ∧ a < 0x100310000 then some (.rxc (Fin.ofNat 16 ((a - 0x100300000) / 0x1000)), a % 0x1000)
  else none

/-- What the preload writes to the word at `a` behind a pair, last, as its ADDR and STRIDE go (Table 16-6). -/
def prePairValue (p : Pair) (a : Nat) (l : List (Nat × Nat)) : Option Nat :=
  let f := p.addr
  let g := p.stride
  (l.foldl (fun (x : Nat × Nat × Option Nat) w =>
    if w.1 = f.addr then (bits w.2 f.lo f.w, bits w.2 g.lo g.w, x.2.2)
    else if w.1 = p.data.addr then ((x.1 + x.2.1) % 2 ^ f.w, x.2.1, if x.1 / 4 * 4 = a then some w.2 else x.2.2)
    else x) (f.reset, g.reset, none)).2.2

/-- The value resident firmware gives a word again: of the rig, else its reset value (R370). -/
def State.rewriteValue (s : State) (a : Nat) : Nat :=
  match s.safetyWord a, s.preloadOf a, pairWordAt a, s.boot.rigNow with
  | some v, _, _, _ => v
  | none, some v, _, _ => v
  | none, none, some p, some m => (prePairValue p.1 p.2 m.preload).getD (resetWord a)
  | none, none, _, _ => resetWord a

/-- A mismatched word concerns lane `n`: a SAF register of that lane, or a word of SAF or PWR that concerns all (R310). -/
def parityLane (n : Lane) (a : Nat) : Bool :=
  if 0x20100 ≤ a ∧ a < 0x20200 then (a - 0x20100) / 0x20 == n.val else decide (0x10000 ≤ a) && decide (a < 0x30000)

/-- The closing cause PARITY ends on the lanes with no word left to rewrite (R480). -/
def State.parityOver (s : State) : State :=
  s.each (List.finRange 8) (fun n t => if t.brd.parityDue.any (parityLane n) then t else t.gateEnd n 8)

/-- A word has been rewritten. -/
def State.parityDone (s : State) (a : Nat) : State :=
  { s.parityRight a with brd := { (s.parityRight a).brd with parityDue := s.brd.parityDue.filter (· != a) } }

/-- Resident firmware rewrites a word that was found mismatched, by an ordinary write (R370): an indirect word through its unit,
both words of a guarded pair. -/
def State.parityRewrite (s : State) (a : Nat) : State :=
  if !s.awake || !s.brd.parityDue.contains a then s
  else
    let r := if isComplement a then a - 4 else a
    let v := s.rewriteValue r % 2 ^ 32
    let t := match pairWordAt r with
      | some p => s.pairWrite p.2 v p.1
      | none =>
        if 0x100310000 ≤ r then s.setSpr (·.setMemWord (r - 0x100310000) (BitVec.ofNat 32 v))
        else
          let t := s.write32 .gondola r v
          if isGuarded r then t.write32 .gondola (r + 4) (2 ^ 32 - 1 - v) else t
    let u := (t.respond s.brd.resp).parityDone r
    (if isGuarded r then u.parityDone (r + 4) else u).parityOver

/-- PARITY_REWRITE (R370). -/
def execParityRewrite (a : BitVec 33) (s : State) : Out := .next (s.parityRewrite (a.toNat / 4 * 4))

end Sys2Proof.Machine
end

