-- ==== Sys2Proof/Machine/Calib.lean ====
section
/-!
DEFINITION. Commands of live calibration (chapter 6).
-/

namespace Sys2Proof.Machine

open Sys2Proof

/-- SLOT_START (R143, R144). -/
def execSlotStart (n : Lane) (us : Nat) (s : State) : Out := .next (s.slotBegin n us)

/-- SPARE_HANDOVER (R44). -/
def execSpareHandover (n : Lane) (s : State) : Out := .next (s.handover n)

/-- REFERENCE_MEASURE_DONE (R145). -/
def execReferenceMeasureDone (n : Lane) (gain off skew bw : Int) (s : State) : Out :=
  .next (s.measured n [gain, off, skew, bw])

/-- SLICE_RETURN (R44). -/
def execSliceReturn (n : Lane) (s : State) : Out := .next (s.sliceBack n)

/-- INSERVICE_SLOT_END (R147). -/
def execInserviceSlotEnd (n : Lane) (s : State) : Out := .next (s.inServiceEnd n)

/-- CAL_WINDOW_END (R135, R136). -/
def execCalWindowEnd (n : Lane) (s : State) : Out := .next (s.windowEnd n)

/-- REFINE_RESULT (R148). -/
def execRefineResult (n : Lane) (slice : Fin 65) (s : State) : Out := .next (s.refine n slice)

/-- DAC_ESTIMATE_DONE (R150). -/
def execDacEstimateDone (n : Lane) (j : Fin 4) (gain off : Int) (s : State) : Out := .next (s.dacEstimate n j gain off)

/-- FOREGROUND_CAL_DONE (R141): the port may leave DOWN, or its wake go on. -/
def execForegroundCalDone (n : Lane) (slices : List (Fin 65 × List Int)) (trims : List (Fin 4 × Int × Int))
    (skews : List (Fin 4 × Int)) (s : State) : Out :=
  .next ((s.foreground n (slices.map (fun p => (p.1.val, p.2))) (trims.map (fun p => (p.1.val, p.2)))
    (skews.map (fun p => (p.1.val, p.2)))).startedEval n)

/-- SEEDED_START_DONE (R142). -/
def execSeededStartDone (n : Lane) (meas : List (Fin 65 × Int × Int)) (s : State) : Out :=
  .next ((s.verified n (meas.map (fun p => (p.1.val, p.2)))).startedEval n)

/-- REFRESH_START (R154). -/
def execRefreshStart (n : Lane) (s : State) : Out := .next (s.refreshStart n)

/-- REFRESH_COMPLETE (R154). -/
def execRefreshComplete (n : Lane) (s : State) : Out := .next (s.refreshEnd n)

/-- CAL_REFRESH (Table 06-10). -/
def execCalRefresh (n : Lane) (s : State) : Out := .next (s.whenAwake (fun s => s.refreshAsk n))

/-- CAL_CNT_CLR (Table 06-10). -/
def execCalCntClr (n : Lane) (s : State) : Out := .next (s.whenAwake (fun s => s.calCntClr n))

/-- TOKEN_REQUEST (R160): the request travels to the anchor where the other port is on another device. -/
def execTokenRequest (k : PortId) (s : State) : Out :=
  let t := s.sendNone.tokenAsk k
  .next (if t.bitOf CAL.TOKEN_STATUS_WAITING k && !s.bitOf CAL.TOKEN_STATUS_WAITING k then t.tokenTell k 0 else t)

/-- TOKEN_GRANT (R160): a grant that is not taken is returned unused (R164). -/
def execTokenGrant (k : PortId) (s : State) : Out :=
  .next (if s.grantable k then (s.sendNone.tokenGive k).tokenUnused k else s)

/-- TOKEN_RETURN (R160). -/
def execTokenReturn (k : PortId) (s : State) : Out :=
  .next (if s.bitOf CAL.TOKEN_STATUS_HELD k then (s.sendNone.tokenBack k).tokenTell k 2 else s)

/-- TOKEN_EXPIRY (R161): of port `k`'s grant, or of a grant that a member holds for a pair. -/
def execTokenExpiry (k : PortId) (member : Option (Fin 64)) (s : State) : Out :=
  .next (match member with
    | some pair => s.sendNone.remoteExpire pair
    | none => s.tokenExpire k)

end Sys2Proof.Machine
end

