-- ==== Sys2Proof/Machine/CkpOps.lean ====
section
/-!
DEFINITION. Powered-time checkpoints, PMU wraps and token refills (R404, R405, R416).
-/

namespace Sys2Proof.Machine

open Sys2Proof

/-! ## Checkpoints (R404) -/

/-- MTP may be written: MTP_OK = 1 and no brace. -/
def State.mtpFree (s : State) : Bool := s.flag THM.STATUS_MTP_OK && !s.braced

/-- A checkpoint is written. -/
def State.ckptWrite (s : State) (orderly : Bool) : State :=
  let t := (((s.set (STR.CKPT0_CKPT_LO) s.now).set STR.CKPT1_CKPT_HI (s.now / 2 ^ 32)).setB STR.CKPT1_ORDERLY orderly).off
    STR.STATUS_CKPT_DEFER
  { t with str := { t.str with mtpCkpt := s.now, mtpOrderly := orderly, mtpPending := false } }

/-- A due checkpoint is deferred; each deferral is counted once. -/
def State.ckptDefer (s : State) : State :=
  if s.str.mtpPending then s
  else
    let t := (s.on STR.STATUS_CKPT_DEFER).inc STR.CKPT1_DEFER_CNT
    { t with str := { t.str with mtpPending := true } }

/-- A checkpoint is due at multiples of 600,000 ticks, and one that was deferred stays due. -/
def State.ckptDue (s : State) : Bool := s.str.mtpPending || s.now % 600000 == 0

/-- The periodic checkpoint. -/
def State.checkpoint (s : State) : State :=
  if !s.ckptDue then s else if s.mtpFree then s.ckptWrite false else s.ckptDefer

/-! ## PMU (R405, R406) -/

/-- An event of Table 20-1 that follows a clock or an occupancy: cycles, beats, frozen beats, occupancies. The model counts
the other events one by one. -/
def timedEvent (ev : Nat) : Bool :=
  ev == 0x000 || ev == 0x040 || ev == 0x045 || ev == 0x050 || ev == 0x051 || ev == 0x052 || ev == 0x080 || ev == 0x110

/-- The largest value of the occupancy an event watches, for the occupancy events (R406): queue entries of a lane, or Reel's
entries. -/
def occMax (ev : Nat) : Option Nat :=
  if ev = 0x050 ∨ ev = 0x051 then some 64 else if ev = 0x052 then some 8 else if ev = 0x110 then some 32 else none

/-- PMCi's clock or occupancy event can occur: an occupancy must be able to exceed THRESH (R406). -/
def State.pmcTimed (s : State) (i : Nat) : Bool :=
  timedEvent (s.get (PMU.PMC_EVENT i)) && (occMax (s.get (PMU.PMC_EVENT i))).all (fun m => decide (s.get (PMU.PMC_THRESH i) < m))

/-- PMCi's event has occurred as often as its count still lacks to a wrap (R405); `pos` is the domain position of a skidding
sample (R407). -/
def State.pmcWrap (s : State) (i pos : Nat) : State :=
  if s.flag PMU.CTRL_FREEZE || !s.pmcCounts i (s.get (PMU.PMC_EVENT i)) (s.get (PMU.PMC_INST i)) ||
      !s.pmcTimed i then s
  else s.pmcAdd i (2 ^ 48 - s.pmcCount i) pos none

/-! ## Log buckets (R416) -/

/-- The tick is a refill tick of log source `q`: floor(t · RATE / 1000) has increased. -/
def State.refillDue (s : State) (q : Nat) : Bool :=
  let r := s.get (STR.SRC0_RATE q)
  decide (0 < s.now) && decide ((s.now - 1) * r / 1000 < s.now * r / 1000) && assocFind s.str.refilled q != some s.now

/-- A bucket gains a token; its episode ends as it reaches BURST. -/
def State.refill (s : State) (q : Nat) : State :=
  if !s.refillDue q then s
  else
    let burst := max 1 (s.get (STR.SRC0_BURST q))
    let k := min burst (s.get (STR.SRC1_TOKENS q) + 1)
    let t := s.set (STR.SRC1_TOKENS q) k
    let u := if k = burst then t.off (STR.SRC0_THROTTLED q) else t
    { u with str := { u.str with refilled := assocPut u.str.refilled q s.now } }

end Sys2Proof.Machine
end

