-- ==== Sys2Proof/Machine/PckOps.lean ====
section
/-!
DEFINITION. Packdown (R453 to R455): its slices, its result, and what an abandoned one puts back.
-/

namespace Sys2Proof.Machine

open Sys2Proof

/-- Change the security and self-test state. -/
def State.setSec (s : State) (f : SecSt → SecSt) : State := { s with sec := f s.sec }

/-- The last slice of the variant (Table 22-5). -/
def State.lastSlice (s : State) : Nat := if s.variant then 0x12 else 0x0B

/-- A slice starts; a logic slice resets its partition (R453). -/
def State.sliceStart (s : State) (c : Nat) : State :=
  (if s.logicSlice c then s.partitionReset c else s).setSec (fun x => { x with slice := some c, hit := false })

/-- Packdown starts (R319 steps 2 and 3): every port is DOWN; the changed sets are mirrored and the checkpoint is written,
which waits for MTP and the end of a brace. -/
def State.packBegin (s : State) : State :=
  if !s.awake || !s.shelving || s.sec.slice.isSome || s.pwr.packed || !s.allDown then s
  else if s.mtpFree then
    ((s.mirrorWrite.ckptWrite true).setSec (fun x => { x with fails := [], again := false, abandon := false })).sliceStart 1
  else s.ckptDefer

/-- The results of a complete Packdown (R454). -/
def State.packResult (s : State) : State :=
  let fs := s.sec.fails
  let pass := fs.isEmpty
  let t := ((((s.on TST.RESULT0_DONE).setB TST.RESULT0_PASS pass).set TST.RESULT0_FAIL_SLICE (fs.headD 0)).set TST.RESULT0_FAIL_COUNT
    fs.length)
  let u := (t.stamp TST.RESULT1_TIME_LO TST.RESULT2_TIME_HI).set TST.RESULT3_RIG_SEQ (s.get CFG.RIG_SEQ_SEQ)
  let v := if pass then (((u.on CFG.QS_VALID).on CFG.QS_PASS).set CFG.QS_SEQ_SEQ (s.get CFG.RIG_SEQ_SEQ)).setPwr (fun p => { p with qsTime := s.now })
    else u.inc TST.CNT_FAIL_CNT
  (v.setSec (fun x => { x with slice := none })).setPwr (fun p => { p with packed := true })

/-- The partitions tested up to slice `c` are reset, and resident firmware loads them again from the rig; Spar starts again
(R455). -/
def State.reload (s : State) (c : Nat) : State :=
  let done := (List.range (c + 1)).filter s.logicSlice
  let t := s.each done (fun k t => t.partitionReset k)
  match s.boot.rigNow with
  | none => t
  | some m =>
    let ls := (rigLanes t.boot.defs).filter (fun l => done.contains (3 + l.lane.val))
    let u := (t.each ls (fun l u => u.laneDefine l)).layoutsApply
    let v := (u.fixedApply m.preload).preload false (m.preload.filter (fun p => done.any (fun k => inPartition k p.1)))
    let f := match v.boot.safety with | some f => f | none => m.safety
    let w := (v.safetyApply f).ballastSet (ballastOf m)
    let x := if done.contains 2 then (w.sparLoad m.spar).sprRunWrite true else w
    if x.flag TST.STATUS_SAFE_HOLD then x
    else x.each ((List.finRange 8).filter (fun n => (x.portOf n).isSome)) (fun n y => y.relAsk n false)

/-- A Packdown is abandoned (R455): no result, and its partitions are put back. -/
def State.packAbandon (s : State) (c : Nat) : State :=
  let t := (((s.off TST.RESULT0_DONE).off TST.RESULT0_PASS).off TST.RESULT0_FAIL_SLICE).off TST.RESULT0_FAIL_COUNT
  ((t.inc TST.CNT_ABORT_CNT).setSec (fun x => { x with slice := none, abandon := false, fails := [] })).reload c

/-- A Shelf entry that was undone after a complete Packdown has its partitions put back (R322, R455). -/
def State.packUndo (s : State) : State :=
  if s.sec.abandon && s.sec.slice.isNone then (s.setSec (fun x => { x with abandon := false })).reload s.lastSlice else s

/-- The slice in progress ends with its result (R453 to R455). A brace that overlapped it discards the result, the second
one fails it; while the brace is in force nothing ends. -/
def State.sliceEnd (s : State) (pass : Bool) : State :=
  match s.sec.slice with
  | none => s
  | some c =>
    if s.braced then s
    else if s.sec.abandon then s.packAbandon c
    else if s.sec.hit && !s.sec.again then (s.setSec (fun x => { x with again := true })).sliceStart c
    else
      let ok := pass && !s.sec.hit
      let t := s.setSec (fun x => { x with fails := if ok then x.fails else x.fails ++ [c], again := false, hit := false })
      if c < s.lastSlice then t.sliceStart (c + 1) else t.packResult

end Sys2Proof.Machine
end

