-- ==== Sys2Proof/Machine/Kite.lean ====
section
/-!
DEFINITION. The commands of the kite line (chapter 9).
-/

namespace Sys2Proof.Machine

open Sys2Proof

/-! ## Requests and their answers (R222, R432, R433) -/

/-- KITE_SEND of the mailbox concerns request `type` of lane `n`. -/
def State.kiteMbx (s : State) (n : Lane) (type : Nat) : Bool :=
  s.mbxRuns 0x10 && s.arg 0 % 8 == n.val && s.arg 1 % 16 == type

/-- The answer to request `type` of lane `n` has arrived; `rsp` goes to a KITE_SEND that waits for it. -/
def State.kiteAnswered (s : State) (n : Lane) (type rsp : Nat) : State :=
  if (s.kiteAsk n type).isNone then s
  else
    let t := s.kiteAskOver n type
    if s.kiteMbx n type then t.mbxDone 0 [rsp] else t

/-- A good packet acts by `f`; where PARTNER_SEEN rises while SN_VALID = 0, the serial number is asked for (R433). -/
def State.kiteTake (s : State) (n : Lane) (type : Nat) (payload : List Nat) (f : Nat → State → State) : State :=
  let t := s.kiteGood n type payload f
  if t.flag (KL.STATUS_PARTNER_SEEN n) && !s.flag (KL.STATUS_PARTNER_SEEN n) && !t.flag (KL.PARTNER_INFO_SN_VALID n) then
    t.kiteRequest n 1 []
  else t

/-- REQ_ACK of request `seq` with a code (Table 09-3). -/
def State.kiteAck (s : State) (n : Lane) (seq code : Nat) : State := s.kiteQueue n 7 [seq, code, 0, 0] none

/-- A NAP_REQ or WAKE_REQ is answered, and acted on by `f` if accepted (R222). One whose SEQ and SRC_LANE are those of the
last one acted on is acknowledged again only. -/
def State.kiteReq (s : State) (n : Lane) (h : Nat) (payload : List Nat) (f : PortId → State → State) : State :=
  let id := (hdrSeq h, hdrLane h)
  if (s.kl n).acted = some id then s.kiteAck n (hdrSeq h) 0
  else if !s.flag (KL.CTRL_REMOTE_NAP_EN n) then s.kiteAck n (hdrSeq h) 1
  else
    match s.portOf n with
    | none => s.kiteAck n (hdrSeq h) 2
    | some k =>
      if payload.take 2 != (s.helloBody n).take 2 then s.kiteAck n (hdrSeq h) 2
      else f k ((s.kiteAck n (hdrSeq h) 0).setKl n (fun x => { x with acted := some id }))

/-! ## Transmission -/

/-- KITE_TX_START (R210, R223). -/
def execKiteTxStart (n : Lane) (s : State) : Out := .next (s.kiteStart n)

/-- KITE_TX_END (R207): the tail ends. A KITE_SEND of the wake pattern is done. -/
def execKiteTxEnd (n : Lane) (s : State) : Out :=
  let t := s.kiteEnd n
  .next (if s.kiteMbx n 0xF && (s.kl n).tx == some .wake then t.mbxDone 0 else t)

/-- PROBE_SEND, `us` after the PROBE before (R221): a PROBE is queued on a lane whose port permits it. -/
def execProbeSend (n : Lane) (us : Nat) (s : State) : Out :=
  let ok := match s.portOf n with
    | some k => s.pstate k == 1 || s.flag (PORT.STATUS_LOSHOLD_RUN k) || s.pstate k == 6 || s.pstate k == 7
    | none => false
  let st := s.get (LN.RX_STATUS_LOS_NOW n) + 2 * s.get (LN.FRM_STATUS_FRAME_LOCK n)
  let body := [s.lstate n] ++ (s.helloBody n).take 2 ++ [st] ++ beBytes 2 (s.get (LN.KTAP_AVG_AVG n)) ++ [0, 0]
  .next (if ok && decide (s.probeUs n ≤ us) && s.flag (KL.CTRL_PROBE_EN n) && s.flag (KL.CTRL_TX_EN n) then s.kiteQueue n 0 body none else s)

/-- KITE_REQ_REPEAT, `us` after the request was last sent (R222): after the repeats a KITE_SEND completes with TIMEOUT
(Table 21-6). -/
def execKiteReqRepeat (n : Lane) (type : Fin 16) (us : Nat) (s : State) : Out :=
  let t := if s.probeUs n ≤ us then s.kiteRepeat n type else s
  .next (if s.kiteMbx n type && (s.kiteAsk n type).isSome && (t.kiteAsk n type).isNone then t.mbxTimeout else t)

/-- KL_SEND (R225). -/
def execKlSend (n : Lane) (s : State) : Out := .next (s.whenAwake (fun s => s.userSendAsk n))

/-- WAKE_SEND (R218). -/
def execWakeSend (n : Lane) (s : State) : Out := .next (s.whenAwake (fun s => s.wakeSendAsk n))

/-! ## Reception -/

/-- KITE_PREAMBLE_DETECT (R215). -/
def execKitePreambleDetect (n : Lane) (syms : List (List Int)) (s : State) : Out := .next (s.kiteDetect n syms)

/-- KITE_CAPTURE (R216). -/
def execKiteCapture (n : Lane) (syms : List (List Int)) (s : State) : Out := .next (s.kiteCapture n syms)

/-- KITE_SFD (R215). -/
def execKiteSfd (n : Lane) (syms : List (List Int)) (s : State) : Out := .next (s.kiteSfd n syms)

/-- KITE_HEADER (R213, R215). -/
def execKiteHeader (n : Lane) (hdr : Word) (window : List (List Int)) (s : State) : Out := .next (s.kiteHdr n hdr.toNat window)

/-- KITE_FALSE_PREAMBLE (R215): a reception, that of detection number `det`, whose SFD did not come. -/
def execKiteFalsePreamble (n : Lane) (det : Nat) (syms : List (List Int)) (s : State) : Out := .next (s.kiteNoSfd n det syms)

/-- KITE_CRC_FAIL (R215). -/
def execKiteCrcFail (n : Lane) (s : State) : Out := .next (s.kiteCrcFail n)

/-- KITE_PROBE (R221, Table 09-6): PORT_STATE is the state the latest PROBE names. -/
def execKiteProbe (n : Lane) (payload : List Nat) (s : State) : Out :=
  .next (s.kiteTake n 0 payload (fun _ t => t.set (KL.PARTNER_INFO_PORT_STATE n) (payload.headD 0)))

/-- KITE_SERIAL_REQ (R222). -/
def execKiteSerialReq (n : Lane) (s : State) : Out :=
  .next (s.kiteTake n 1 [] (fun _ t =>
    if t.flag (KL.CTRL_AUTO_ANS n) then
      t.kiteQueue n 2 (beBytes 4 (t.get (GLB.SERIAL_SERIAL 1)) ++ beBytes 4 (t.get (GLB.SERIAL_SERIAL 0)) ++ beBytes 8 ((t.boot.rigNow.map (·.moduleSerial)).getD 0)) none
    else t))

/-- KITE_SERIAL (R221). -/
def execKiteSerial (n : Lane) (payload : List Nat) (s : State) : Out :=
  .next (s.kiteTake n 2 payload (fun _ t => (t.kiteSerial n payload).kiteAnswered n 1 payload.length))

/-- KITE_STATS_REQ (R222). -/
def execKiteStatsReq (n : Lane) (s : State) : Out :=
  .next (s.kiteTake n 3 [] (fun _ t =>
    if t.flag (KL.CTRL_AUTO_ANS n) then t.kiteQueue n 4 (t.statsBody n ++ [0, 0]) none else t))

/-- KITE_STATS (R213). -/
def execKiteStats (n : Lane) (payload : List Nat) (s : State) : Out :=
  .next (s.kiteTake n 4 payload (fun _ t => t.kiteAnswered n 3 payload.length))

/-- KITE_NAP_REQ (R222): an accepted one acts as NAP = 1. -/
def execKiteNapReq (n : Lane) (payload : List Nat) (s : State) : Out :=
  .next (s.kiteTake n 5 payload (fun h t => t.kiteReq n h payload (fun k u => (u.on (PORT.CTRL_NAP k)).napAsk k .bit)))

/-- KITE_WAKE_REQ (R222): an accepted one acts as NAP = 0. -/
def execKiteWakeReq (n : Lane) (payload : List Nat) (s : State) : Out :=
  .next (s.kiteTake n 6 payload (fun h t => t.kiteReq n h payload (fun k u => u.wakeAsk k)))

/-- KITE_REQ_ACK (R222): the answer to the request whose SEQ it names. -/
def execKiteReqAck (n : Lane) (payload : List Nat) (s : State) : Out :=
  .next (s.kiteTake n 7 payload (fun _ t => t.each [5, 6] (fun ty u =>
    if (u.kiteAsk n ty).any (fun a => a.seq == some (payload.headD 0)) then u.kiteAnswered n ty (payload.getD 1 0) else u)))

/-- KITE_USER (R225). -/
def execKiteUser (n : Lane) (payload : List Nat) (s : State) : Out :=
  .next (s.kiteTake n 8 payload (fun h t => t.kiteUser n h payload))

/-- KITE_RESERVED_TYPE (R213). -/
def execKiteReservedType (n : Lane) (s : State) : Out := .next (s.kiteBad n)

/-- WAKE_SEEN (R217): the symbols of a window that is to be the wake preamble. -/
def execWakeSeen (n : Lane) (syms : List (List Int)) (s : State) : Out :=
  .next (if s.kiteListens n && patternFound (s.kiteThresh n) 0xA56C3D0E (s.kiteWindow n 0xA56C3D0E syms).2 then
    s.on (KL.STATUS_WAKE_SEEN n) else s)

/-- The repetitions of the wake preamble that the listener requires; 0x00 acts as 0x01 (Table 09-4). -/
def State.wakeReps (s : State) (n : Lane) : Nat := max 1 (s.get (KL.CFG_WAKE_REPS n))

/-- KITE_WAKE_DETECT (R219), `reps` consecutive repetitions detected: the listener runs in Shelf or Doze on a lane that is
Off, with LISTEN_EN = 1. -/
def execKiteWakeDetect (n : Lane) (reps : Nat) (s : State) : Out :=
  .next (if (s.pwr.dev == .shelf || s.pwr.dev == .doze) && (s.ln n).power == .off && s.flag (KL.CTRL_LISTEN_EN n) &&
      s.wakeReps n ≤ reps then
    ((s.on (KL.STATUS_WAKE_DET n)).wakeFire 0 n.val).packUndo else s)

/-- PARTNER_SEEN_EXPIRY, `us` after the latest good packet (R221). -/
def execPartnerSeenExpiry (n : Lane) (us : Nat) (s : State) : Out :=
  .next (if 3 * s.probeUs n ≤ us then s.off (KL.STATUS_PARTNER_SEEN n) else s)

/-- RX_RELEASE (R225). -/
def execRxRelease (n : Lane) (s : State) : Out := .next (s.whenAwake (fun s => s.off (KL.STATUS_RX_FULL n)))

/-- KL_CNT_CLR (R226). -/
def execKlCntClr (n : Lane) (s : State) : Out := .next (s.whenAwake (fun s => s.kiteCntClr n))

end Sys2Proof.Machine
end

