-- ==== Sys2Proof/Machine/LineEq.lean ====
section
/-!
DEFINITION. Commands of the line equaliser (chapter 3).
-/

namespace Sys2Proof.Machine

open Sys2Proof

/-- GUARD_WINDOW (R78, R83). -/
def execGuardWindow (n : Lane) (s : State) : Out := .next (s.guardWindow n)

/-- BOOST_OPEN (R79). -/
def execBoostOpen (n : Lane) (s : State) : Out := .next (s.boostOpen n)

/-- BOOST_CLOSE (R79). -/
def execBoostClose (n : Lane) (s : State) : Out := .next (s.boostClose n)

/-- LOC_FREEZE_END, `us` after the end of the superframe that carried the request in force (R105): DURATION superframes of
1.536 us (R100) are over. -/
def execLocFreezeEnd (n : Lane) (us : Nat) (s : State) : Out :=
  .next (if 1536 * (s.ln n).eq.locFreeze ≤ 1000 * us then s.setEq n (fun e => { e with locFreeze := 0 }) else s)

/-- MODE_CHANGE (R81, R84): at a boundary of the received grid. -/
def execModeChange (n : Lane) (s : State) : Out := .next (s.modeStart n)

/-- PRESHED_RAMP_END (R81, R83). -/
def execPreshedRampEnd (n : Lane) (s : State) : Out := .next (s.modeFinish n)

/-- SHED_CHECK (R82). -/
def execShedCheck (n : Lane) (s : State) : Out := .next (s.shedCheck n)

end Sys2Proof.Machine
end

