-- ==== Sys2Proof/Machine/MbxCmd.lean ====
section
/-!
DEFINITION. What the commands of the mailbox do (R432, Tables 21-5 and 21-6).
-/

namespace Sys2Proof.Machine

open Sys2Proof

/-- The lane of ARG0. -/
def State.argLane (s : State) : Lane := Fin.ofNat 8 (s.arg 0)

/-- The ports named by ARG0 [7:0]. -/
def State.argPorts (s : State) : List PortId := (List.finRange 8).filter (fun k => bit (s.arg 0) k)

/-- The line lanes named by ARG0 [7:0]. -/
def State.argLanes (s : State) : List Lane := (List.finRange 8).filter (fun n => bit (s.arg 0) n)

/-- Bytes of a device range may be written by resident firmware: all in the SRAM, or all in the QDR-IV data window, fitted
and ready. -/
def State.rangeOk (s : State) (a n : Nat) : Bool :=
  n == 0 || (inSramWin a && inSramWin (a + n - 1)) ||
    (s.variant && inQdrWin a && !inCheckView (a + n - 1) && inQdrWin (a + n - 1) && !s.qdrUnfitted (a + n - 1) &&
      s.flag MEM.STATUS_QDR_RDY)

/-- RIG_APPLY: the slot is verified, and applied if it is valid (R352). -/
def State.cmdRigApply (s : State) : State :=
  let k : Fin 2 := Fin.ofNat 2 (s.arg 0)
  let code := s.slotCheck false k
  let t := s.checked (if k = 0 then CFG.RIG_CHK_CHK0 else CFG.RIG_CHK_CHK1) code
  if code = 0 then
    let u := t.rigRun k (s.rigIn k)
    u.mbxDone 0 [u.get CFG.RIG_SEQ_SEQ]
  else t.mbxDone (0x20 + code) [t.get CFG.RIG_SEQ_SEQ]

/-- Some port of ARG0 has no definition. -/
def State.portsUnknown (s : State) : Bool := s.argPorts.any (fun k => !(s.pt k).defined)

/-- PORT_UP: as writes of UP = 1 (R193). -/
def State.cmdPortUp (s : State) : State :=
  if s.portsUnknown then s.mbxDone 3 else (s.each s.argPorts (fun k t => t.upSet k)).mbxDone 0

/-- PORT_DOWN: as writes of UP = 0 (R193); every port is DOWN at once. -/
def State.cmdPortDown (s : State) : State :=
  if s.portsUnknown then s.mbxDone 3 else (s.each s.argPorts (fun k t => t.portStop k)).mbxDone 0

/-- LANE_NAP: the Nap of the lane's port is requested (R200); the command completes at NAP or at a refusal (R324). -/
def State.cmdLaneNap (s : State) : State :=
  match s.portOf s.argLane with
  | none => s.mbxDone 3
  | some k =>
    if s.pstate k = 7 then s.mbxDone 0
    else if s.pstate k = 0 ∨ s.pwr.dev ≠ .run then s.mbxDone 8
    else s.napAsk k .mailbox

/-- LANE_WAKE: the lane's port leaves NAP; RSP0 [0] tells a fast wake (R201, R202). -/
def State.cmdLaneWake (s : State) : State :=
  match s.portOf s.argLane with
  | none => s.mbxDone 3
  | some k =>
    if s.pstate k ≠ 7 then s.mbxDone 8
    else
      let t := s.wakeAsk k
      t.mbxDone 0 [(match (t.pt k).wake with | some w => w.fast | none => false).toNat]

/-- CAL_NOW (R155). -/
def State.cmdCalNow (s : State) : State :=
  if s.argLanes.any (fun n => (s.portOf n).isNone) then s.mbxDone 3 else (s.each s.argLanes (fun n t => t.refreshAsk n)).mbxDone 0

/-- Change the capture of a lane. -/
def State.setCap (s : State) (n : Lane) (f : CapSt → CapSt) : State := { s with cap := vset s.cap n (f (s.cap.get n)) }

/-- CAPTURE: the lane's capture is armed; its memory fills anew. -/
def State.cmdCapture (s : State) : State :=
  if bits (s.arg 0) 4 2 = 3 ∨ (s.portOf s.argLane).isNone = true then s.mbxDone 3
  else s.setCap s.argLane (fun _ => { armed := true, point := bits (s.arg 0) 4 2, trigger := bits (s.arg 1) 0 2, words := [] })

/-- The trigger of the armed capture occurs at beat `beat`, and the second half has filled; LOS_NOW, as a trigger, is a
condition of the lane. -/
def State.capTrigger (s : State) (beat : Nat) (words : List Nat) : State :=
  let n := s.argLane
  if !s.mbxRuns 0x07 || !(s.cap.get n).armed || ((s.cap.get n).trigger == 1 && !s.flag (LN.RX_STATUS_LOS_NOW n)) then s
  else (s.setCap n (fun c => { c with armed := false, words := words })).mbxDone 0 [beat]

/-- The armed capture of a command that has run out of time is armed no more. -/
def State.capDisarm (s : State) : State :=
  if s.mbxRuns 0x07 then s.setCap s.argLane (fun c => { c with armed := false }) else s

/-- A refusal of ATTEST is counted (R452). -/
def State.attRefuse (s : State) (comp : Nat) : State := (s.inc SEC.CNT_ATT_REFUSED).mbxDone comp

/-- The attestation record of index `i` (Table 22-4). -/
def State.attRecord (s : State) (i : Nat) : List Nat :=
  let body := s.attBody i
  body ++ (List.range 2820).map (fun k => (Config.signature body k).toNat) ++ List.replicate 1116 0

/-- ATTEST (R452): `brace` tells that a brace begins before the new index has been read back. -/
def State.cmdAttest (s : State) (brace : Bool) : State :=
  let a := s.arg 4
  let i := s.get SEC.ATT_INDEX
  if (s.lc ≠ 2 ∧ s.lc ≠ 3) ∨ s.flag CFG.BOOT_FW_NONE = true ∨ s.flag SEC.ATT_EXHAUSTED = true then s.attRefuse 4
  else if a % 4096 ≠ 0 ∨ inSramWin a = false then s.attRefuse 3
  else if s.flag THM.STATUS_MTP_OK = false then s.attRefuse 6
  else if s.braced || brace then s.attRefuse 7
  else
    let t := (s.set SEC.ATT_INDEX (i + 1)).when (i == 1048575) (·.on SEC.ATT_EXHAUSTED)
    (t.memPutBytes a (t.attRecord i)).mbxDone 0

/-- SELFTEST_RESULT (R454): the retained words. -/
def State.cmdSelftest (s : State) : State :=
  s.mbxDone 0 ((List.range 4).map (fun k => s.viewWord Initiator.gondola.code (TST.RESULT0_DONE.addr + 4 * k)))

/-- The slot FW_STAGE writes: 0 and 1 firmware, 2 and 3 rig; none for the reserved target. The idle firmware slot is the
one not in use. -/
def State.stageTarget (s : State) : Option Nat :=
  match bits (s.arg 3) 0 2 with
  | 0 => some (if s.flag CFG.BOOT_FW_NONE then 0 else 1 - s.get CFG.BOOT_FW_SLOT)
  | 1 => some 2
  | 2 => some 3
  | _ => none

/-- The slot is in use. -/
def State.slotUsed (s : State) (t : Nat) : Bool :=
  if t < 2 then !s.flag CFG.BOOT_FW_NONE && s.get CFG.BOOT_FW_SLOT == t
  else !s.flag CFG.BOOT_SAFE_BOOT && s.get CFG.BOOT_RIG_SLOT + 2 == t

/-- The size of a slot (Table 16-4). -/
def slotSize (t : Nat) : Nat := if t < 2 then 0x400000 else 0x3DF000

/-- Where the slot that FW_STAGE writes begins. -/
def stageBase (t : Nat) : Nat := flashSlot (decide (t < 2)) (Fin.ofNat 2 t)

/-- FW_STAGE: a chunk is copied into a slot, erased before the first one (Table 21-6). -/
def State.cmdFwStage (s : State) : State :=
  match s.stageTarget with
  | none => s.mbxDone 3
  | some t =>
    if 0x100000 < s.arg 1 ∨ slotSize t < s.arg 2 + s.arg 1 ∨ s.rangeOk (s.arg 0) (s.arg 1) = false then s.mbxDone 3
    else if s.slotUsed t then s.mbxDone 8
    else
      let u := s.sweep Initiator.gondola.code (inRange (s.arg 0) (s.arg 1))
      ((u.when (bit (s.arg 3) 4) (·.flashErase (stageBase t) (slotSize t))).flashWrite (stageBase t + s.arg 2)
        (bytesAt u.image (s.arg 0) (s.arg 1))).mbxDone 0

/-- FW_COMMIT: the staged slot is verified (R345, R349), and the result shown. -/
def State.cmdFwCommit (s : State) : State :=
  if bit (s.arg 0) 0 then
    let k : Fin 2 := Fin.ofNat 2 (s.arg 1)
    let code := s.slotCheck false k
    (s.checked (if k = 0 then CFG.RIG_CHK_CHK0 else CFG.RIG_CHK_CHK1) code).mbxDone (if code = 0 then 0 else 0x20 + code)
  else
    let k : Fin 2 := Fin.ofNat 2 (if s.flag CFG.BOOT_FW_NONE then 0 else 1 - s.get CFG.BOOT_FW_SLOT)
    let code := s.slotCheck true k
    (s.checked (if k = 0 then CFG.RIG_CHK_FWCHK0 else CFG.RIG_CHK_FWCHK1) code).mbxDone (if code = 0 then 0 else 0x20 + code)

/-- The addresses of the bytes of a ring from RD on. -/
def State.ringAddrs (s : State) (g n : Nat) : List Nat :=
  (List.range n).map (fun j => s.get (STR.RING_BASE_BASE g) + (s.get (STR.RING_RD_RD g) + j) % s.ringSize g)

/-- The bytes of a ring from RD on. -/
def State.ringBytes (s : State) (g n : Nat) : List Nat := (s.ringAddrs g n).map (fun a => (byteAt s.image a).toNat)

/-- The word at `w` holds any of the first `n` unread bytes of a ring. -/
def State.inUnread (s : State) (g n w : Nat) : Bool :=
  let b := s.get (STR.RING_BASE_BASE g)
  let z := s.ringSize g
  decide (0 < n) && decide (b ≤ w) && decide (w < b + z) && decide ((w + 7 - b + z - s.get (STR.RING_RD_RD g) % z) % z < n + 7)

/-- LOG_DRAIN (R418): whole records are copied, and RD advances. Resident firmware's reads of the ring meet the errors there are (R380,
R385); poisoned bytes go to the PCIe host with the mark of poison. -/
def State.cmdLogDrain (s : State) : State :=
  let g := s.arg 0 % 2
  let rec' := if g = 0 then 32 else 16
  let n := min (s.ringUnread g) (s.arg 4) / rec' * rec'
  let a := s.arg 1 + 2 ^ 32 * s.arg 2
  let bs := s.ringBytes g n
  let u := s.sweep Initiator.gondola.code (s.inUnread g n)
  let t := u.set (STR.RING_RD_RD g) ((s.get (STR.RING_RD_RD g) + n) % s.ringSize g)
  if bit (s.arg 3) 0 then
    if !s.variant then s.mbxDone 3
    else (if n = 0 then t else { t with hostOut := [(a, bs.zip ((s.ringAddrs g n).map (fun x => u.mem.poison.contains (wordOf x))))] }).mbxDone 0 [n]
  else if s.rangeOk a n = false then s.mbxDone 3
  else (if n = 0 then t else (t.sweep Initiator.gondola.code (fun w => inRange a n w && !(decide (a ≤ w) && decide (w + 8 ≤ a + n)))).memPutBytes a bs).mbxDone 0 [n]

/-- The words of LST 0x0000 to 0x2FFF. -/
def State.lstBytes (s : State) : List Nat :=
  (List.range 0xC00).flatMap (fun k => leBytes 4 (s.viewWord Initiator.gondola.code (0x70000 + 4 * k)))

/-- SNAPSHOT_EXPORT (R107, R432): a snapshot, complete, is copied to the SRAM. -/
def State.cmdSnapshotExport (s : State) : State :=
  let a := s.arg 0
  if a % 64 ≠ 0 ∨ inSramWin a = false ∨ inSramWin (a + 0x2FFF) = false then s.mbxDone 3
  else
    let t := (s.snap.off LST.STATUS_SNAP_BUSY).off LST.CTRL_SNAP
    (t.memPutBytes a t.lstBytes).mbxDone 0 [t.get LST.STATUS_SNAP_SEQ]

/-- SHELF (R319): the command completes with OK before step 5, or with the refuser (R324). -/
def State.cmdShelf (s : State) : State := s.shelfAsk .mailbox

/-- TIME_READ (R482). -/
def State.cmdTimeRead (s : State) : State :=
  s.mbxDone 0 [s.now % 2 ^ 32, s.now / 2 ^ 32, s.get STR.CYCLE_STR_CYCLE]

/-- KITE_SEND (R222, R433): a request of the lane, or its wake pattern. -/
def State.cmdKiteSend (s : State) : State :=
  let n := s.argLane
  let ty := bits (s.arg 1) 0 4
  if (s.portOf n).isNone then s.mbxDone 3
  else if ty = 0xF then s.wakeSendAsk n
  else if ty = 1 ∨ ty = 3 then s.kiteRequest n ty []
  else if ty = 5 ∨ ty = 6 then s.kiteRequest n ty ((s.helloBody n).take 2 ++ [0, 0])
  else s.mbxDone 3

/-- A reserved opcode. -/
def opReserved (op : Nat) : Bool := op == 0 || decide (0x10 < op)

/-- A command with a reserved opcode completes with BAD_OPCODE, in ROM recovery with NOT_PERMITTED (R433). -/
def State.cmdReserved (s : State) : State :=
  let op := s.get GLB.MBX_CMD_OPCODE
  if opReserved op then s.mbxRun op (fun t => t.mbxDone 2) else s

end Sys2Proof.Machine
end

