-- ==== Sys2Proof/Machine/Mailbox.lean ====
section
/-!
DEFINITION. The commands of the mailbox (R432, Table 21-6): each takes effect once a write of GLB_MBX_CMD has started it.
-/

namespace Sys2Proof.Machine

open Sys2Proof

/-- RIG_APPLY (R352). -/
def execRigApply (s : State) : Out := .next (s.whenAwake (fun s => s.mbxRun 0x01 (·.cmdRigApply)))

/-- PORT_UP (R193). -/
def execPortUp (s : State) : Out := .next (s.whenAwake (fun s => s.mbxRun 0x02 (·.cmdPortUp)))

/-- PORT_DOWN (R193). -/
def execPortDown (s : State) : Out := .next (s.whenAwake (fun s => s.mbxRun 0x03 (·.cmdPortDown)))

/-- LANE_NAP (R200). -/
def execLaneNap (s : State) : Out := .next (s.whenAwake (fun s => s.mbxRun 0x04 (·.cmdLaneNap)))

/-- LANE_WAKE (R201, R202). -/
def execLaneWake (s : State) : Out := .next (s.whenAwake (fun s => s.mbxRun 0x05 (·.cmdLaneWake)))

/-- CAL_NOW (R155). -/
def execCalNow (s : State) : Out := .next (s.whenAwake (fun s => s.mbxRun 0x06 (·.cmdCalNow)))

/-- CAPTURE (R432). -/
def execCapture (s : State) : Out := .next (s.whenAwake (fun s => s.mbxRun 0x07 (·.cmdCapture)))

/-- CAPTURE_TRIGGER (R432): `beat` is the beat count at the trigger, `words` what the memory then holds. -/
def execCaptureTrigger (beat : BitVec 32) (words : List (BitVec 32)) (s : State) : Out :=
  .next (s.whenAwake (fun s => s.capTrigger beat.toNat (words.map (·.toNat))))

/-- ATTEST (R452), which waits for the RESULT of a security operation in progress (R457). -/
def execAttest (brace : Bool) (s : State) : Out :=
  .next (s.whenAwake (fun s => if s.mbxIs 0x08 && !s.flag SEC.OP_STATUS_BUSY then s.mbxBegin.cmdAttest brace else s))

/-- SELFTEST_RESULT (R454). -/
def execSelftestResult (s : State) : Out := .next (s.whenAwake (fun s => s.mbxRun 0x09 (·.cmdSelftest)))

/-- FW_STAGE (R432). -/
def execFwStage (s : State) : Out := .next (s.whenAwake (fun s => s.mbxRun 0x0A (·.cmdFwStage)))

/-- FW_COMMIT (R345). -/
def execFwCommit (s : State) : Out := .next (s.whenAwake (fun s => s.mbxRun 0x0B (·.cmdFwCommit)))

/-- LOG_DRAIN (R418). -/
def execLogDrain (s : State) : Out := .next (s.whenAwake (fun s => s.mbxRun 0x0C (·.cmdLogDrain)))

/-- SNAPSHOT_EXPORT (R432). -/
def execSnapshotExport (s : State) : Out := .next (s.whenAwake (fun s => s.mbxRun 0x0D (·.cmdSnapshotExport)))

/-- SHELF (R319). -/
def execShelf (s : State) : Out := .next (s.whenAwake (fun s => s.mbxRun 0x0E (·.cmdShelf)))

/-- TIME_READ (R482). -/
def execTimeRead (s : State) : Out := .next (s.whenAwake (fun s => s.mbxRun 0x0F (·.cmdTimeRead)))

/-- KITE_SEND (R433). -/
def execKiteSend (s : State) : Out := .next (s.whenAwake (fun s => s.mbxRun 0x10 (·.cmdKiteSend)))

/-- MBX_RESERVED_OPCODE (Table 21-6). -/
def execMbxReservedOpcode (s : State) : Out := .next (s.whenAwake (·.cmdReserved))

/-- MAILBOX_TIMEOUT, `us` after the command's start (R432). -/
def execMailboxTimeout (us : Nat) (s : State) : Out :=
  .next (s.whenAwake (fun s => if s.mbxWorst ≤ us then s.capDisarm.mbxTimeout else s))

end Sys2Proof.Machine
end

