-- ==== Sys2Proof/Machine/Memory.lean ====
section
/-!
DEFINITION. Commands of the memories (chapter 18).
-/

namespace Sys2Proof.Machine

open Sys2Proof

/-- MEMORY_READ: initiator `i` reads `2^size` bytes of a memory; `e` is what the word's code finds (R377, R380, R385). -/
def execMemoryRead (i : Initiator) (a : BitVec 32) (size : Fin 4) (e : SprEcc) (s : State) : Out :=
  .next (if inMemory a.toNat then s.busRead i a.toNat size 0 e else s)

/-- MEMORY_WRITE: initiator `i` writes `2^size` bytes of a memory (R377, R379). -/
def execMemoryWrite (i : Initiator) (a : BitVec 32) (size : Fin 4) (v : BitVec 64) (s : State) : Out :=
  .next (if inMemory a.toNat then s.busWrite i a.toNat size v.toNat else s)

/-- MERGE_IDLE_FLUSH: the entry of the word at `a` has been idle for 64 MEM cycles (R379); `e` is what the word's code
finds. -/
def execMergeIdleFlush (a : BitVec 32) (e : SprEcc) (s : State) : Out :=
  .next (s.whenAwake (fun s => s.mergeIdle (wordOf a.toNat) e))

/-- BUCKET_LEAK (R380). -/
def execBucketLeak (s : State) : Out := .next (s.whenAwake (fun s => s.bucketLeak))

/-- SCRUB_READ of the word at `a`, or of spare `k` of a bank (R384). -/
def execScrubRead (a : BitVec 32) (spare : Option (Fin 16 × Fin 32)) (e : SprEcc) (s : State) : Out :=
  .next (s.whenAwake (fun s => match spare with
    | some p => s.scrubSpare p.1 p.2 e
    | none => if inMemory a.toNat then s.scrub (wordOf a.toNat) e else s))

/-- QDR_TRAIN_DONE (R378). -/
def execQdrTrainDone (ok : Bool) (s : State) : Out := .next (s.whenAwake (fun s => s.qdrTrained ok))

/-- MEM_FLUSH: a barrier of the merge buffer (R379). -/
def execMemFlush (s : State) : Out := .next (s.whenAwake (fun s => s.flushAll))

/-- MEM_CNT_CLR (Table 18-1). -/
def execMemCntClr (s : State) : Out := .next (s.whenAwake (fun s => s.memCntClr))

end Sys2Proof.Machine
end

