-- ==== Sys2Proof/Machine/MgtOps.lean ====
section
/-!
DEFINITION. The two-wire port, the CMIS map and page B0h (R421 to R427).
-/

namespace Sys2Proof.Machine

open Sys2Proof

/-- Change the two-wire port and its map. -/
def State.setMgt (s : State) (f : MgtSt → MgtSt) : State := { s with mgt := f s.mgt }

/-- The port answers: in Doze and Run (R421), and not in DEAD (Table 22-3). -/
def State.mgtRuns (s : State) : Bool := s.awake && s.lc != 5

/-! ## Addresses and the in-band interrupt (R422) -/

/-- A dynamic address is assigned: the port is an I3C target; `enec`: with the assignment the controller enables the in-band
interrupt by ENEC. -/
def State.dynSet (s : State) (a : Nat) (enec : Bool) : State :=
  ((s.on GLB.MGMT_I3C).set GLB.MGMT_DYN_ADDR a).setMgt (fun m => { m with ibiEn := enec })

/-- The dynamic address is dropped: the port is an I2C target. -/
def State.dynDrop (s : State) : State :=
  ((s.off GLB.MGMT_I3C).off GLB.MGMT_DYN_ADDR).setMgt (fun m => { m with ibiEn := false })

/-- The lowest pending vector, the mandatory data byte of the in-band interrupt, while one is raised. -/
def State.ibi (s : State) : Option Nat :=
  if s.flag GLB.MGMT_I3C && s.mgt.ibiEn && s.intN then (List.range 64).find? s.vectorPend else none

/-! ## The module state machine (R424, Table 21-2) -/

/-- Low power is requested: by LowPwrRequestSW, or by LPMODE where the host allows it. -/
def State.lowPwrAsked (s : State) : Bool := s.mgt.lowPwrSW || (s.pwr.lpmode && s.mgt.allowHW)

/-- The CMIS module state. -/
inductive ModState where
  | lowPwr | pwrUp | ready | pwrDn | fault
deriving DecidableEq, Repr

/-- The module state that Table 21-2 gives the device: ModuleFault in SAFE_BOOT (and in ROM recovery, R427), SAFE_HOLD or
TRIPPED; under a low-power request ModulePwrDn until every port is DOWN; ModulePwrUp takes no time here. -/
def State.modState (s : State) : ModState :=
  if s.flag CFG.BOOT_FW_NONE || s.flag CFG.BOOT_SAFE_BOOT || s.flag TST.STATUS_SAFE_HOLD || s.flag THM.STATUS_TRIPPED then .fault
  else if !s.lowPwrAsked then .ready
  else if (List.finRange 8).all (fun k => s.pstate k == 0) then .lowPwr
  else .pwrDn

/-- The module state's code in byte 3 (PRESUMED: CMIS 5.2; log 207). -/
def ModState.code : ModState → Nat
  | .lowPwr => 1
  | .pwrUp => 2
  | .ready => 3
  | .pwrDn => 4
  | .fault => 5

/-- The CMIS data path state of a port. -/
inductive PathState where
  | deactivated | init | initialized | activated
deriving DecidableEq, Repr

/-- The data path state that Table 21-2 gives port `k`. -/
def State.pathState (s : State) (k : PortId) : PathState :=
  let st := s.pstate k
  if st = 0 then .deactivated else if st = 7 then .initialized else if st = 5 ∨ st = 6 then .activated else .init

/-! ## The CMIS map (R423, Table 21-1) -/

/-- The pages of Table 21-1 other than B0h. -/
def cmisPage (p : Nat) : Bool := p ≤ 2 || p == 0x10 || p == 0x11 || p == 0x13 || p == 0x14

/-- The page that byte `a` of the window belongs to: the lower page counts as page 0 (bytes 0x00 to 0x7F). -/
def MgtSt.pageOf (m : MgtSt) (a : Nat) : Nat := if a < 0x80 then 0 else m.page

/-- A byte of the image: 0x00 where none is kept. -/
def MgtSt.byte (m : MgtSt) (page a : Nat) : Nat := (assocFind m.image (256 * page + a)).getD 0

/-- The image with a byte written, zero bytes unlisted. -/
def MgtSt.putByte (m : MgtSt) (page a v : Nat) : MgtSt :=
  { m with image := if v % 256 = 0 then assocDel m.image (256 * page + a) else assocPut m.image (256 * page + a) (v % 256) }

/-- A byte of a multi-byte field of page B0h, big-endian: byte `i` of four. -/
def beByte (v i : Nat) : Nat := v / 256 ^ (3 - i) % 256

/-- A multi-byte field of page B0h with byte `i` of four written. -/
def bePut (v i b : Nat) : Nat := v - beByte v i * 256 ^ (3 - i) + b % 256 * 256 ^ (3 - i)

/-- A write of a byte of page B0h (Table 21-3). CMD starts a command, or is bad; one that comes while a command runs is
discarded. -/
def MgtSt.b0Write (m : MgtSt) (a v : Nat) : MgtSt :=
  if 0x80 ≤ a ∧ a < 0x84 then { m with b0Addr := bePut m.b0Addr (a - 0x80) v }
  else if 0x84 ≤ a ∧ a < 0x88 then { m with b0Data := bePut m.b0Data (a - 0x84) v }
  else if 0x88 ≤ a ∧ a < 0x8C then { m with b0Data2 := bePut m.b0Data2 (a - 0x88) v }
  else if a = 0x8C ∧ m.b0Status ≠ 1 then
    if 1 ≤ v ∧ v ≤ 3 then { m with b0Cmd := v, b0Status := 1 } else { m with b0Status := 4 }
  else m

/-- UNACKED alarm entries, saturating at 0xFF (R425). -/
def State.unacked (s : State) : Nat :=
  min 0xFF ((List.range 64).filter (fun e => s.get (STR.ALM0_ID e) != 0 && s.flag (STR.ALM0_UNACKED e))).length

/-- What a byte of page B0h reads as. -/
def State.b0Read (s : State) (a : Nat) : Nat :=
  let m := s.mgt
  if 0x80 ≤ a ∧ a < 0x84 then beByte m.b0Addr (a - 0x80)
  else if 0x84 ≤ a ∧ a < 0x88 then beByte m.b0Data (a - 0x84)
  else if 0x88 ≤ a ∧ a < 0x8C then beByte m.b0Data2 (a - 0x88)
  else if a = 0x8C then m.b0Cmd
  else if a = 0x8D then m.b0Status
  else if a = 0x8E then m.b0Kind
  else if a = 0x90 then s.unacked
  else 0

/-- What a read of byte `a` of the window answers (R423, R426): 0x00 where a page or bank is not supported, and in ROM recovery the
fixed lower page and page B0h alone (R427). -/
def State.cmisRead (s : State) (a : Nat) : Nat :=
  let p := s.mgt.pageOf a
  if a = 0x7E then s.mgt.bank
  else if a = 0x7F then s.mgt.page
  else if a = 0 then 0x19
  else if a = 3 then 2 * s.modState.code + (!s.intN).toNat
  else if 0x80 ≤ a ∧ s.mgt.bank ≠ 0 then 0
  else if 0x80 ≤ a ∧ s.mgt.page = 0xB0 then s.b0Read a
  else if cmisPage p && (!s.flag CFG.BOOT_FW_NONE || decide (a < 0x80)) then s.mgt.byte p a
  else 0

/-- An alarm of the key is active. -/
def State.almActive (s : State) (id inst : Nat) : Bool :=
  (List.range 64).any (fun e => s.almIs (s.get TTH.STATUS_ID) id inst e && s.flag (STR.ALM0_ACTIVE e))

/-- An alarm entry of the key is held. -/
def State.almHeld (s : State) (id inst : Nat) : Bool := (List.range 64).any (fun e => s.almIs (s.get TTH.STATUS_ID) id inst e)

/-- The CMIS flags of R425: Rx LOS of a media lane, Tx Fault and Tx CDR LOL of a host lane, temperature high warning and
alarm. -/
def State.rxLos (s : State) (n : Lane) : Bool := s.almActive 0x01 n
def State.txFault (s : State) (j : Host) : Bool :=
  match s.lineOf j with | some n => s.almHeld 0x0E n || s.almActive 0x0F n | none => false
def State.txLol (s : State) (j : Host) : Bool := match s.lineOf j with | some n => s.almActive 0x03 n | none => false
def State.tempWarn (s : State) : Bool := s.almActive 0x0A 0
def State.tempAlarm (s : State) : Bool := s.almActive 0x0B 0

/-- The page is selected; in ROM recovery B0h alone is served (R427). -/
def State.pageSelect (s : State) (bank page : Nat) : State := s.setMgt (fun m => { m with bank := bank, page := page })

/-- One byte of a write transaction at address `a` of the window (R423, R426, R427). -/
def State.cmisByte (s : State) (a v : Nat) : State :=
  if a = 0x7E then s.setMgt (fun m => { m with bank := v })
  else if a = 0x7F then s.setMgt (fun m => { m with page := v })
  else if 0x80 ≤ a ∧ s.mgt.bank ≠ 0 then s
  else if 0x80 ≤ a ∧ s.mgt.page = 0xB0 then s.setMgt (fun m => m.b0Write a v)
  else
    let p := s.mgt.pageOf a
    if !s.flag CFG.BOOT_FW_NONE && cmisPage p && Config.cmisWritable p a then s.setMgt (fun m => m.putByte p a v) else s

/-- A write transaction: bytes from address `a` on. -/
def State.cmisWrite (s : State) (a : Nat) (bs : List Nat) : State :=
  match bs with
  | [] => s
  | b :: t => (s.cmisByte (a % 256) b).cmisWrite (a + 1) t

/-- Resident firmware refreshes the monitors in the image. -/
def State.monitors (s : State) (l : List (Nat × Nat × Nat)) : State :=
  let t := s.setMgt (fun m => { m with refreshed := s.now })
  t.each (l.filter (fun x => cmisPage x.1 && decide (x.2.1 < 256))) (fun x u => u.setMgt (fun m => m.putByte x.1 x.2.1 x.2.2))

/-! ## Controls of the module state machine (R424) -/

/-- The host lanes of a port, as CMIS numbers them. -/
def State.hostLanes (s : State) (k : PortId) : List Host := (s.lanesOf k).flatMap s.hostsOf

/-- DataPathDeinit is written: a port of which a host lane's bit rises is taken DOWN, one whose last bit clears goes up. -/
def State.dataPath (s : State) (v : Nat) : State :=
  let old := s.mgt.deinit
  let t := s.setMgt (fun m => { m with deinit := v })
  t.each ((List.finRange 8).filter (fun k => (s.pt k).defined)) (fun k u =>
    let js := s.hostLanes k
    if js.any (fun j => bit v j && !bit old j) then u.portStop k
    else if js.any (fun j => bit old j) && js.all (fun j => !bit v j) then u.upSet k
    else u)

/-- AppSel of host lane `j` names an Application: one that the rig lacks is rejected. -/
def State.appSel (s : State) (j : Host) (code : Nat) : State :=
  let known := match s.boot.rigNow with | some r => r.apps.contains code | none => false
  s.setMgt (fun m =>
    if known then { m with app := m.app.set j code, appRejected := putBit m.appRejected j false }
    else { m with appRejected := putBit m.appRejected j true })

/-- Tx disable of media lane `n`: it clears MOD_EN. -/
def State.cmisTxDisable (s : State) (n : Lane) (v : Bool) : State :=
  let t := s.setMgt (fun m => { m with txDisable := putBit m.txDisable n v })
  if v then (t.off (LN.TX_CTRL_MOD_EN n)).demandEval n else t

/-- Every port is taken DOWN (ModulePwrDn). -/
def State.portsDown (s : State) : State := s.each ((List.finRange 8).filter (fun k => (s.pt k).defined)) (fun k u => u.portStop k)

/-- LowPwrRequestSW: in low power every port is taken DOWN, which leads to Doze (Table 21-2). -/
def State.lowPower (s : State) (v : Bool) : State :=
  let t := s.setMgt (fun m => { m with lowPwrSW := v })
  if v then t.portsDown else t

/-- LowPwrAllowRequestHW is mirrored into LPMODE_EN; where LPMODE is high already, low power is requested now. -/
def State.allowHw (s : State) (v : Bool) : State :=
  let t := (s.setMgt (fun m => { m with allowHW := v })).setB PWR.CTRL_LPMODE_EN v
  if t.lowPwrAsked then t.portsDown else t

/-! ## Page B0h (R426, R427) -/

/-- A command of page B0h ends with its STATUS and KIND. -/
def State.b0End (s : State) (status kind : Nat) : State := s.setMgt (fun m => { m with b0Cmd := 0, b0Status := status, b0Kind := kind })

/-- A mailbox register of Table 21-8: CMD, STATUS, ARGi, RSPi. -/
def mailboxReg (a : Nat) : Bool := a == 0x200 || a == 0x204 || (decide (0x210 ≤ a) && decide (a < 0x250))

/-- In ROM recovery the GLB mailbox registers alone are reached (R427). -/
def State.b0Shut (s : State) (a : Nat) : Bool := s.flag CFG.BOOT_FW_NONE && !mailboxReg a

/-- Command `c` runs: its accesses, and what they answer. -/
def State.b0Run (s : State) (c : Nat) (f : State → State) : State := if !s.mgtRuns || s.mgt.b0Cmd != c then s else f s

/-- CMD 0x01: the word read, or STATUS 0x02 with the KIND of the error. -/
def State.b0Get (s : State) (wrong : BitVec 2) (e : SprEcc) : State :=
  if s.b0Shut s.mgt.b0Addr then s.b0End 2 7
  else
    let t := s.busRead .mgmt s.mgt.b0Addr 2 wrong e
    match t.brd.resp with
    | .data v => (t.setMgt (fun m => { m with b0Data := v % 2 ^ 32 })).b0End 0 t.mgt.b0Kind
    | .error k => t.b0End 2 k
    | _ => t

/-- The error of an answer. -/
def Resp.kind : Resp → Option Nat
  | .error k => some k
  | _ => Option.none

/-- Writes of page B0h, with the guard failure they meet, if any: an answer of its own (STATUS 0x03), after an error
response. -/
def State.b0Puts (s : State) (l : List (Nat × Nat)) : State :=
  let old := s.get GLB.GUARD_INFO_REASON
  let r := l.foldl (fun (p : State × Option Nat) w =>
    if p.1.b0Shut w.1 then (p.1, some (p.2.getD 7))
    else
      let t := p.1.busWrite .mgmt w.1 2 w.2
      (t, match p.2 with | some k => some k | none => t.brd.resp.kind)) (s.set GLB.GUARD_INFO_REASON 0, none)
  let g := r.1.get GLB.GUARD_INFO_REASON
  let t := if g = 0 then r.1.set GLB.GUARD_INFO_REASON old else r.1
  match r.2 with
  | some k => t.b0End 2 k
  | none => if g = 0 then t.b0End 0 t.mgt.b0Kind else t.b0End 3 g

end Sys2Proof.Machine
end

