-- ==== Sys2Proof/Machine/Mgmt.lean ====
section
/-!
DEFINITION. Commands of the two-wire port and of the CMIS map (R421 to R427).
-/

namespace Sys2Proof.Machine

open Sys2Proof

/-- SETDASA (R422) on static address `st`: the port whose address it is takes dynamic address `a`, with ENEC or not. -/
def execSetdasa (st a : BitVec 7) (enec : Bool) (s : State) : Out :=
  .next (if s.mgtRuns && st.toNat == s.get GLB.MGMT_ADDR then s.dynSet a.toNat enec else s)

/-- ENTDAA (R422) assigns dynamic address `a`, with ENEC or not. -/
def execEntdaa (a : BitVec 7) (enec : Bool) (s : State) : Out := .next (if s.mgtRuns then s.dynSet a.toNat enec else s)

/-- RSTDAA (R422). -/
def execRstdaa (s : State) : Out := .next (if s.mgtRuns then s.dynDrop else s)

/-- PAGE_SELECT (R423): BankSel and PageSel. -/
def execPageSelect (bank page : BitVec 8) (s : State) : Out :=
  .next (if s.mgtRuns then s.pageSelect bank.toNat page.toNat else s)

/-- CMIS_WRITE (R423): at most 8 bytes from address `a` on. -/
def execCmisWrite (a : BitVec 8) (bs : List (BitVec 8)) (s : State) : Out :=
  .next (if s.mgtRuns then s.cmisWrite a.toNat ((bs.take 8).map (·.toNat)) else s)

/-- CMIS_MONITOR_REFRESH (R423): the monitors' bytes, as (page, byte, value), 100 ms after the latest refresh. -/
def execCmisMonitorRefresh (l : List (Nat × Nat × Nat)) (s : State) : Out :=
  .next (if s.mgtRuns && !s.flag CFG.BOOT_FW_NONE && decide (s.mgt.refreshed + 100 ≤ s.now) then s.monitors l else s)

/-- DATAPATHDEINIT (R424): the new value, a bit per host lane. -/
def execDatapathdeinit (v : BitVec 16) (s : State) : Out :=
  .next (if s.mgtRuns && !s.flag CFG.BOOT_FW_NONE then s.dataPath v.toNat else s)

/-- APPSEL (R424). -/
def execAppsel (j : Host) (code : BitVec 4) (s : State) : Out :=
  .next (if s.mgtRuns && !s.flag CFG.BOOT_FW_NONE then s.appSel j code.toNat else s)

/-- CMIS_TX_DISABLE (R424). -/
def execCmisTxDisable (n : Lane) (v : Bool) (s : State) : Out :=
  .next (if s.mgtRuns && !s.flag CFG.BOOT_FW_NONE then s.cmisTxDisable n v else s)

/-- LOWPWRREQUESTSW (R424). -/
def execLowpwrrequestsw (v : Bool) (s : State) : Out :=
  .next (if s.mgtRuns && !s.flag CFG.BOOT_FW_NONE then s.lowPower v else s)

/-- LOWPWRALLOWREQUESTHW (R424). -/
def execLowpwrallowrequesthw (v : Bool) (s : State) : Out :=
  .next (if s.mgtRuns && !s.flag CFG.BOOT_FW_NONE then s.allowHw v else s)

/-- B0H_READ (R426): CMD 0x01. -/
def execB0hRead (wrong : BitVec 2) (e : SprEcc) (s : State) : Out := .next (s.b0Run 1 (·.b0Get wrong e))

/-- B0H_WRITE (R426): CMD 0x02. -/
def execB0hWrite (s : State) : Out := .next (s.b0Run 2 (fun s => s.b0Puts [(s.mgt.b0Addr, s.mgt.b0Data)]))

/-- B0H_GUARDED_WRITE (R426): CMD 0x03, two consecutive writes. -/
def execB0hGuardedWrite (s : State) : Out :=
  .next (s.b0Run 3 (fun s => s.b0Puts [(s.mgt.b0Addr, s.mgt.b0Data), ((s.mgt.b0Addr + 4) % 2 ^ 32, s.mgt.b0Data2)]))

end Sys2Proof.Machine
end

