-- ==== Sys2Proof/Machine/PairAcc.lean ====
section
/-!
DEFINITION. Commands that access the data registers of the indirect pairs (R365, R366).
-/

namespace Sys2Proof.Machine

open Sys2Proof

/-- SLC_DATA_ACCESS (R56). -/
def execSlcDataAccess (i : Initiator) (n : Lane) (acc : DataAcc) (s : State) : Out :=
  .next (s.dataAccess i (LN.SLC_DATA_DATA n).addr acc)

/-- EQC_DATA_ACCESS (R86). -/
def execEqcDataAccess (i : Initiator) (n : Lane) (acc : DataAcc) (s : State) : Out :=
  .next (s.dataAccess i (LN.EQC_DATA_DATA n).addr acc)

/-- TXT_DATA_ACCESS (R119, R133). -/
def execTxtDataAccess (i : Initiator) (n : Lane) (acc : DataAcc) (s : State) : Out :=
  .next (s.dataAccess i (LN.TXT_DATA_DATA n).addr acc)

/-- RXC_DATA_ACCESS (R190). -/
def execRxcDataAccess (i : Initiator) (j : Host) (acc : DataAcc) (s : State) : Out :=
  .next (s.dataAccess i (HL.RXC_DATA_DATA j).addr acc)

/-- SPR_MEM_DATA_ACCESS (R282). -/
def execSprMemDataAccess (i : Initiator) (acc : DataAcc) (s : State) : Out :=
  .next (s.dataAccess i SPR.MEM_DATA_DATA.addr acc)

end Sys2Proof.Machine
end

