-- ==== Sys2Proof/Machine/PmuStr.lean ====
section
/-!
DEFINITION. Commands of the performance counters and the Streamer (chapter 20).
-/

namespace Sys2Proof.Machine

open Sys2Proof

/-- CHECKPOINT (R404), of resident firmware: not in ROM recovery (R345) or in DEAD (Table 22-3). -/
def execCheckpoint (s : State) : Out :=
  .next (s.whenAwake (fun s => if s.flag CFG.BOOT_FW_NONE || s.lc == 5 then s else s.checkpoint))

/-- PMC_WRAP (R405, R407). -/
def execPmcWrap (i : Fin 8) (pos : BitVec 32) (s : State) : Out := .next (s.whenAwake (fun s => s.pmcWrap i pos.toNat))

/-- ALARM_OCCURRENCE of resident firmware or a unit (R411 to R413, Table 20-3). -/
def execAlarmOccurrence (id inst : BitVec 8) (code : BitVec 16) (s : State) : Out :=
  .next (s.whenAwake (fun s => if 1 ≤ id.toNat ∧ id.toNat ≤ 0x1A then s.alarm id.toNat inst.toNat code.toNat else s))

/-- ALARM_ACK: initiator `i` writes UNACKED of entry `e` (R411). -/
def execAlarmAck (i : Initiator) (e : Fin 64) (s : State) : Out :=
  .next (s.busWrite i (STR.ALM0_ID e).addr 2 (2 ^ 19))

/-- ALARM_ENTRY_READ: initiator `i` reads word 0 of entry `e` (R414). -/
def execAlarmEntryRead (i : Initiator) (e : Fin 64) (s : State) : Out :=
  .next (s.busRead i (STR.ALM0_ID e).addr 2 0 .clean)

/-- LOG_RECORD of resident firmware or a unit (R416); the reserved sources and EVENT 0 are not used (Table 20-5, R481). -/
def execLogRecord (src : Fin 16) (inst : BitVec 8) (ev : BitVec 16) (d0 d1 d2 d3 : Word) (s : State) : Out :=
  .next (s.whenAwake (fun s =>
    if (src.val < 12 ∨ src.val = 15) ∧ ev.toNat ≠ 0 then
      s.logRecord src inst.toNat ev.toNat d0.toNat d1.toNat d2.toNat d3.toNat
    else s))

/-- TOKEN_REFILL of log source `q` (R416). -/
def execTokenRefill (q : Fin 15) (s : State) : Out := .next (s.whenAwake (fun s => s.refill q))

/-- TRACE_RECORD (R417). -/
def execTraceRecord (src : Fin 16) (inst : BitVec 8) (ev : BitVec 16) (d : Word) (s : State) : Out :=
  .next (s.whenAwake (fun s => if src.val < 12 ∧ ev.toNat ≠ 0 then s.traceRecord src inst.toNat ev.toNat d.toNat else s))

/-- RING_PORT_READ: initiator `i` reads STR_LOG_PORT (0) or STR_TRACE_PORT (1) (R418); `e` is what the word's code finds. -/
def execRingPortRead (i : Initiator) (g : Fin 2) (e : SprEcc) (s : State) : Out :=
  .next (s.busRead i (STR.RING_PORT_PORT g).addr 2 0 e)

/-- STR_CNT_CLR (Table 20-7). -/
def execStrCntClr (s : State) : Out := .next (s.whenAwake (fun s => s.strCntClr))

end Sys2Proof.Machine
end

