-- ==== Sys2Proof/Machine/Power.lean ====
section
/-!
DEFINITION. Commands of the power controller (chapter 15), and the Nap commands of the ports (chapter 8) with the
quiescence they need.
-/

namespace Sys2Proof.Machine

open Sys2Proof

/-! ## Nap of a port (R200 to R202) -/

/-- NAP_REQUEST: NAP = 1 is written (R200); a port the rig does not define discards it (R192). -/
def execNapRequest (k : PortId) (s : State) : Out :=
  .next (s.whenAwake (fun s => if (s.pt k).defined then (s.on (PORT.CTRL_NAP k)).napAsk k .bit else s))

/-- NAP_COMMIT: demand is 0 on every lane, and the entry commits (R200). -/
def execNapCommit (k : PortId) (s : State) : Out := .next (s.napDone k)

/-- WAKE_REQUEST: NAP = 0 is written (R201, R202). -/
def execWakeRequest (k : PortId) (s : State) : Out :=
  .next (s.whenAwake (fun s => if (s.pt k).defined then s.wakeAsk k else s))

/-! ## Wake steps (R318, Table 15-3) -/

/-- POWER_UP: both supplies become present (R316, Table 16-1). -/
def execPowerUp (s : State) : Out := .next s.powerOn

/-- PG_CORE. -/
def execPgCore (s : State) : Out := .next (s.wakeStep 1)

/-- PG_A12. -/
def execPgA12 (s : State) : Out := .next (s.wakeStep 2)

/-- PG_QDR. -/
def execPgQdr (s : State) : Out := .next (s.wakeStep 3)

/-- OSC_RDY. -/
def execOscRdy (s : State) : Out := .next (s.wakeStep 4)

/-- MEM_RDY: the SRAM is filled (R342, R378). -/
def execMemRdy (s : State) : Out := .next (if s.pwr.dev = .waking 5 then s.sramFill.wakeStep 5 else s)

/-- LGC_RDY: Gondola starts and boots (R343); `post` is the result of a power-on self-test. -/
def execLgcRdy (post : Bool) (s : State) : Out := .next (s.lgcReady post)

/-- PG_LANE: Doze to Run (R316). -/
def execPgLane (s : State) : Out := .next s.runEnter

/-- WAKE_STEP_TIMEOUT (R318). -/
def execWakeStepTimeout (us : Nat) (s : State) : Out := .next (s.wakeStall us)

/-- WAKE_RETRY (R318). -/
def execWakeRetry (s : State) : Out := .next s.wakeRetry

/-! ## Doze and Shelf (R316, R319) -/

/-- DOZE_ENTRY, `us` after every port is DOWN (R316). -/
def execDozeEntry (us : Nat) (s : State) : Out := .next (s.dozeAsk us)

/-- LPMODE_RISE (R319). -/
def execLpmodeRise (s : State) : Out := .next s.lpRise

/-- The commit cycle of a Shelf entry: granted after Packdown, and no brace in force (R319, R328). The merge buffer is
flushed before the SRAM loses its power. -/
def State.shelfCommit (s : State) : State :=
  if s.awake && (s.sleepReq .shelf).any (fun q => q.granted) && s.pwr.packed && !s.braced then
    (s.flushAll.classesCleared false).setPwr (fun p => { p with dev := .shelf, retry := false, second := false })
  else s

/-- SHELF_COMMIT (R319). -/
def execShelfCommit (s : State) : Out := .next s.shelfCommit

/-! ## Wake sources (R320, Table 15-4) -/

/-- HOST_SD_WAKE: the input of host lane `j` has stayed at `mv` mVppd or above for 1 µs; the detector fires from the SD_LEVEL
threshold on (R172). -/
def execHostSdWake (j : Host) (mv : BitVec 16) (s : State) : Out :=
  .next (if s.sdLevel j ≤ mv.toNat then (s.wakeFire 1 j).packUndo else s)

/-- LPMODE_FALL. -/
def execLpmodeFall (s : State) : Out := .next s.lpFall.packUndo

/-- MGMT_WAKE. -/
def execMgmtWake (s : State) : Out := .next (s.wakeFire 3 0).packUndo

/-- The PCIe link of an anchor that is out of reset stands as it has trained: the generation, 0 where there is no link, and
twice as many lanes per step of `w` (R428). -/
def State.pcieLink (s : State) (g : Fin 5) (w : Fin 3) : State :=
  if s.awake && s.pwr.perst && s.flag TTH.STATUS_ROLE then
    (s.set PCI.STATUS_SPEED g).set PCI.STATUS_WIDTH (if g = 0 then 0 else 2 ^ w.val)
  else s

/-- PERST_N_RISE: PLG3208-B (R428). `request`: a PCIe wake request, which fires the same wake source (Table 15-4), with
PERST_N high before. The link then trains to generation `g` and width `2 ^ w`. -/
def execPerstNRise (request : Bool) (g : Fin 5) (w : Fin 3) (s : State) : Out :=
  .next (if !s.variant then s
    else if request then ((s.pcieLink g w).wakeFire 4 0).packUndo
    else if s.pwr.perst then s
    else ((s.setPwr (fun p => { p with perst := true })).pcieLink g w).wakeFire 4 0 |>.packUndo)

/-- TETHER_WAKE: PLG3208-B (R440). -/
def execTetherWake (p : Fin 2) (s : State) : Out := .next (if s.variant then (s.wakeFire 5 p).packUndo else s)

/-- WAKE_TIMER. -/
def execWakeTimer (s : State) : Out := .next s.wakeTimer.packUndo

/-- GPIO_WAKE: GPIO `g` reaches level `high`; the one that GPIO_SEL names wakes at the level of GPIO_POL. -/
def execGpioWake (g : Fin 32) (high : Bool) (s : State) : Out :=
  .next (if g.val = s.get PWR.WAKE_EN_GPIO_SEL ∧ high = s.flag PWR.WAKE_EN_GPIO_POL then (s.wakeFire 8 g).packUndo else s)

/-- WAKE_AT_HI_WRITE (R320). -/
def execWakeAtHiWrite (v : BitVec 16) (s : State) : Out := .next (s.whenAwake (fun s => s.wakeAtHi v.toNat))

/-! ## Sleep entries (R322 to R324) -/

/-- QUIESCE_REQUEST: the users of a requested entry are asked (R323). -/
def execQuiesceRequest (k : SleepKind) (s : State) : Out := .next (s.quiesceAsk k).packUndo

/-- QUIESCE_TIMEOUT, `us` after the request (R323). -/
def execQuiesceTimeout (k : SleepKind) (us : Nat) (s : State) : Out :=
  .next (if max 1 (s.get PWR.QUIESCE_PWR_QUIESCE_TMO) ≤ us then (s.quiesceEnd k).packUndo else s)

/-- SLEEP_RETRY: an entry asked for by a bit or a pin is tried again (R324). -/
def execSleepRetry (k : SleepKind) (s : State) : Out :=
  .next (if (s.sleepReq k).any (fun q => !q.asked && (q.src == .bit || q.src == .pin)) then (s.quiesceAsk k).packUndo else s)

/-! ## Brownout and Ballast (R325 to R333) -/

/-- BRACE_START (R326); `commit` is a sleep entry whose commit cycle falls in the same cycle (R328). -/
def execBraceStart (commit : Option SleepKind) (s : State) : Out := .next (s.braceStart commit).packUndo

/-- BRACE_END: `us` is the duration of the brace (R326). -/
def execBraceEnd (us : Nat) (s : State) : Out := .next (s.braceEnd us).packUndo

/-- BOR: VDD_CORE, which Shelf does not power, is at the reset level (R329). -/
def execBor (s : State) : Out := .next (if s.pwr.dev = .shelf then s else s.resetBy 3)

/-- PLBOR (R325). -/
def execPlbor (s : State) : Out := .next (s.resetBy 2)

/-- BALLAST_PRESS: 0 THERMAL, 1 BRACE, 2 HOST (R331), `us` after the cause's press before, or after the brace began. -/
def execBallastPress (cause : Fin 3) (us : Nat) (s : State) : Out := .next (s.ballastPress cause us)

/-- BALLAST_RESTORE, `us` after every cause has cleared or the restoration before (R333). -/
def execBallastRestore (us : Nat) (s : State) : Out :=
  .next (if msUs 1 (s.get PWR.BALLAST_RESTORE_INT) ≤ us then s.ballastRestore else s)

/-- PWR_CNT_CLR (R335). -/
def execPwrCntClr (s : State) : Out := .next (s.whenAwake (fun s => s.pwrCntClr))

end Sys2Proof.Machine
end

