-- ==== Sys2Proof/Machine/ReelMove.lean ====
section
/-!
DEFINITION. Reel's data moves (chapter 19): descriptor fetches, the reads of a burst into the shared buffer, and the
writes that drain it.
-/

namespace Sys2Proof.Machine

open Sys2Proof

/-! ## Accesses of Reel (R388, R393) -/

/-- The bytes from `a` on, `n` of them, cut at the aligned 64-bit words: (address, length) of each piece; device addresses
wrap modulo 2^32 (R391). -/
def pieces (fuel a n : Nat) : List (Nat × Nat) :=
  match fuel with
  | 0 => []
  | fuel + 1 =>
    if n = 0 then []
    else
      let k := min n (8 - a % 8)
      (a % 2 ^ 32, k) :: pieces fuel (a + k) (n - k)

/-- The largest access that starts at `a` and stays inside `n` bytes, as a power of two. -/
def accessSize (a n : Nat) : Nat :=
  if 8 ≤ n ∧ a % 8 = 0 then 3 else if 4 ≤ n ∧ a % 4 = 0 then 2 else if 2 ≤ n ∧ a % 2 = 0 then 1 else 0

/-- What the latest access answered, as `k` bytes with their poison marks; nothing for an error response. -/
def State.answer (s : State) (k : Nat) : Option (List (Nat × Bool)) :=
  match s.brd.resp with
  | .data v => some ((leBytes k v).map (fun b => (b, false)))
  | .poisoned v => some ((leBytes k v).map (fun b => (b, true)))
  | _ => none

/-- The latest access met an error response. -/
def State.erred (s : State) : Bool := match s.brd.resp with | .error _ => true | _ => false

/-- What the code of the word at `w` finds. -/
def eccAt (ecc : List (Nat × SprEcc)) (w : Nat) : SprEcc := ((ecc.find? (fun p => p.1 == w)).map (·.2)).getD .clean

/-- A read of `n` bytes of the register space, in naturally aligned accesses. -/
def State.regsRead (s : State) (fuel a n : Nat) : State × Option (List (Nat × Bool)) :=
  match fuel with
  | 0 => (s, some [])
  | fuel + 1 =>
    if n = 0 then (s, some [])
    else
      let z := accessSize a n
      let t := s.busRead .reel a z 0 .clean
      match t.answer (2 ^ z) with
      | none => (t, none)
      | some bs =>
        match t.regsRead fuel (a + 2 ^ z) (n - 2 ^ z) with
        | (u, some r) => (u, some (bs ++ r))
        | (u, none) => (u, none)

/-- A write of bytes to the register space, in naturally aligned accesses; whether none met an error response. -/
def State.regsWrite (s : State) (fuel a : Nat) (bs : List Nat) : State × Bool :=
  match fuel with
  | 0 => (s, true)
  | fuel + 1 =>
    if bs.isEmpty then (s, true)
    else
      let z := accessSize a bs.length
      let t := s.busWrite .reel a z (leVal (bs.take (2 ^ z)))
      if t.erred then (t, false) else t.regsWrite fuel (a + 2 ^ z) (bs.drop (2 ^ z))

/-- A piece of a memory side is read. -/
def State.pieceRead (s : State) (a n : Nat) (e : SprEcc) : State × Option (List (Nat × Bool)) :=
  if inMemory a then
    let t := s.memRead Initiator.reel.code a n e
    (t, t.answer n)
  else s.regsRead 8 a n

/-- The word at `w` carries the mark of poison (R398): what waits of it in the merge buffer is written first. -/
def State.markPoison (s : State) (w : Nat) : State :=
  let t := s.readHit w
  if t.mem.poison.contains w then t else { t with mem := { t.mem with poison := w :: t.mem.poison } }

/-- A piece of a memory side is written, with its poison mark into a memory (R398). -/
def State.pieceWrite (s : State) (a : Nat) (bs : List (Nat × Bool)) : State × Bool :=
  if inMemory a then
    let t := s.memWrite Initiator.reel.code a bs.length (leVal (bs.map (·.1)))
    if t.erred then (t, false) else (t.when (bs.any (·.2) && !t.memAbsent a) (·.markPoison (wordOf a)), true)
  else s.regsWrite 8 a (bs.map (·.1))

/-- A memory side is read piece by piece, as far as the first error response: the bytes, and whether all came. -/
def State.piecesRead (s : State) (ecc : List (Nat × SprEcc)) (ps : List (Nat × Nat)) : State × List (Nat × Bool) × Bool :=
  match ps with
  | [] => (s, [], true)
  | p :: r =>
    match s.pieceRead p.1 p.2 (eccAt ecc (wordOf p.1)) with
    | (t, none) => (t, [], false)
    | (t, some bs) =>
      match t.piecesRead ecc r with
      | (u, l, ok) => (u, bs ++ l, ok)

/-- A memory side is written piece by piece; the bytes written before the first error response. -/
def State.piecesWrite (s : State) (ps : List (Nat × Nat)) (bs : List (Nat × Bool)) : State × Nat :=
  match ps with
  | [] => (s, 0)
  | p :: r =>
    match s.pieceWrite p.1 (bs.take p.2) with
    | (t, false) => (t, 0)
    | (t, true) =>
      match t.piecesWrite r (bs.drop p.2) with
      | (u, k) => (u, p.2 + k)

/-! ## Peripheral ports (R393, R395) -/

/-- The words that a register used as a FIX source shows it holds; other registers always hold one. -/
def State.fixHolds (s : State) (a : Nat) : Bool :=
  if a = SND.FIFO_WORD.addr then !s.snd.fifo.isEmpty
  else if a = (STR.RING_PORT_PORT 0).addr then s.ringOn 0 && s.ringUnread 0 != 0
  else if a = (STR.RING_PORT_PORT 1).addr then s.ringOn 1 && s.ringUnread 1 != 0
  else if 0x100000 ≤ a ∧ a < 0x180000 ∧ a % 0x10000 = 0xF100 then
    !(s.cap.get (Fin.ofNat 8 ((a - 0x100000) / 0x10000))).words.isEmpty
  else true

/-- A request line is asserted (Table 19-2, R248, R418, R432). -/
def State.reqLine (s : State) (req : Nat) : Bool :=
  if req = 0 then true
  else if req = 1 then decide (16 ≤ s.snd.fifo.length)
  else if req = 2 then s.ringOn 0 && decide (1024 ≤ s.ringUnread 0)
  else if req = 3 then s.ringOn 1 && decide (1024 ≤ s.ringUnread 1)
  else if req ≤ 0x0B then decide (1024 ≤ 4 * (s.cap.get (Fin.ofNat 8 (req - 4))).words.length)
  else false

/-- A burst has been read: its bytes are there, or it met an error response. -/
def ReelBurst.full (b : ReelBurst) : Bool := b.err.isSome || decide (b.len ≤ b.data.length)

/-- Up to `k` words of a FIX source are popped into the burst. -/
def State.fixRead (s : State) (k a : Nat) (b : ReelBurst) : State × ReelBurst :=
  match k with
  | 0 => (s, b)
  | k + 1 =>
    if b.full || !s.fixHolds a then (s, b)
    else
      let t := s.read32 .reel a false .clean
      match t.answer 4 with
      | some w => t.fixRead k a { b with data := b.data ++ w }
      | none => (t, { b with err := some (b.data.length / 16) })

/-- A FIX destination takes the bytes word by word; the bytes written before the first error response. -/
def State.fixWrite (s : State) (k a : Nat) (bs : List (Nat × Bool)) : State × Nat :=
  match k with
  | 0 => (s, 0)
  | k + 1 =>
    let t := s.write32 .reel a (leVal ((bs.take 4).map (·.1)))
    if t.erred then (t, 0)
    else
      match t.fixWrite k a (bs.drop 4) with
      | (u, n) => (u, 4 + n)

/-! ## Descriptors (R390 to R392, R399) -/

/-- A signed step of the descriptor, from an address, within the side's address range (R391). -/
def stepAddr (host : Bool) (a stride : Nat) (r : Nat) : Nat :=
  (((a : Int) + (r : Int) * sext 32 stride) % ((if host then 2 ^ 64 else 2 ^ 32 : Nat) : Int)).toNat

/-- An address within the side's address range. -/
def sideAddr (host : Bool) (a : Nat) : Nat := a % (if host then 2 ^ 64 else 2 ^ 32)

/-- The element that byte `p` of an INDEX descriptor lies in. -/
def ReelCh.element (h : ReelCh) (p : Nat) : Nat := p / h.elem

/-- Where byte `p` of the descriptor comes from and goes to, and the bytes left of its row, element or block (R391); `off`
is its element's offset. A FIX side stays where it is. -/
def ReelCh.place (h : ReelCh) (off p : Nat) : Nat × Nat × Nat :=
  let fix (f : Bool) (a b : Nat) : Nat := if f then a else b
  match h.mode with
  | 0 => (fix h.srcFix h.src (sideAddr h.srcHost (h.src + p)), fix h.dstFix h.dst (sideAddr h.dstHost (h.dst + p)), h.total - p)
  | 1 =>
    let r := p / h.length
    let x := p % h.length
    (fix h.srcFix h.src (stepAddr h.srcHost (h.src + x) h.srcStride r),
     fix h.dstFix h.dst (stepAddr h.dstHost (h.dst + x) h.dstStride r), h.length - x)
  | _ =>
    let i := h.element p
    let x := p % h.elem
    if h.scatter then (sideAddr h.srcHost (h.src + i * h.elem + x), sideAddr h.dstHost (h.dst + off + x), h.elem - x)
    else (sideAddr h.srcHost (h.src + off + x), sideAddr h.dstHost (h.dst + i * h.elem + x), h.elem - x)

/-- The bytes of the burst that starts at `a` and `d` with `rem` bytes left of its row (R394). -/
def ReelCh.burstLen (h : ReelCh) (a d rem : Nat) : Nat :=
  let n := min (16 * h.burst) rem
  let n := if h.srcHost then min n (4096 - a % 4096) else n
  if h.dstHost then min n (4096 - d % 4096) else n

/-- The 64 bytes at `a` are read as eight 64-bit words, as far as the first fault; poison is one (R392). -/
def State.descRead (s : State) (a : Nat) (ecc : List SprEcc) (k : Nat) : State × Option (List Nat) :=
  match k with
  | 0 => (s, some [])
  | k + 1 =>
    let t := s.memRead Initiator.reel.code a 8 (ecc.headD .clean)
    match t.brd.resp with
    | .data v =>
      match t.descRead (a + 8) (ecc.drop 1) k with
      | (u, some l) => (u, some (v % 2 ^ 32 :: v / 2 ^ 32 % 2 ^ 32 :: l))
      | (u, none) => (u, none)
    | _ => (t, none)

/-- The channel's descriptor is fetched and checked (R390, R392, R399, R400). -/
def State.descFetch (s : State) (c : ReelId) (ecc : List SprEcc) : State :=
  let h := s.rl c
  let a := s.get (REEL.CH_DESC_ADDR c)
  if s.get (REEL.CH_STATUS_STATE c) != 1 || !h.desc.isEmpty || h.paused then s
  else if !inMemory a then s.reelFail c 6
  else
    match s.descRead a ecc 8 with
    | (t, none) => t.reelFail c 6
    | (t, some ws) =>
      let done := if h.resume then ws.getD 11 0 else 0
      let g : ReelCh := { h with desc := ws, bytes := done, read := done, poison := h.resume && bit (ws.getD 10 0) 4 }
      let u := t.setRl c (fun _ => g)
      if !descOk s.variant h.resume g then u.reelEnd c 6 false
      else
        let v := u.set (REEL.CH_BYTES_BYTES c) done
        (v.when (v.reelAsked c) (·.setRl c (fun g => { g with paused := true }))).reelBoundary c

/-! ## Bursts (R389, R393 to R396, R398) -/

/-- The read engine may start a burst of the channel but for the choice among the channels (R389, R401). -/
def State.reelReady (s : State) (c : ReelId) : Bool :=
  let h := s.rl c
  s.get (REEL.CH_STATUS_STATE c) == 1 && !h.desc.isEmpty && !h.paused && !h.stop && !h.abort && decide (h.read < h.total) &&
    decide (h.bursts.length < 5) && h.bursts.all (·.full) && h.bursts.all (fun b => b.err.isNone) && s.reqLine h.req &&
    (!h.bursts.isEmpty || decide (s.inflight < 6))

/-- The channel the read engine serves (R389): the ready one of the highest PRIO, and among equals the first after the
channel served last at that PRIO. -/
def State.reelPick (s : State) : Option ReelId :=
  let top := ((List.finRange 8).filter s.reelReady).foldl (fun (p : Nat) (c : ReelId) => max p (s.get (REEL.CH_CFG_PRIO c))) 0
  ((List.range 8).map (fun k => s.reelLast.get (Fin.ofNat 4 top) + 1 + Fin.ofNat 8 k)).find? (fun c =>
    s.reelReady c && s.get (REEL.CH_CFG_PRIO c) == top)

/-- The offset of the element in hand is read from the table (R391); none where the read is answered with an error
response or with poison. Other modes have no offset. -/
def State.reelOffset (s : State) (c : ReelId) (ecc : List (Nat × SprEcc)) : State × Option Nat :=
  let h := s.rl c
  if h.mode ≠ 2 then (s, some 0)
  else
    match s.piecesRead ecc (pieces 4 (h.srcStride + 4 * h.element h.read) 4) with
    | (t, bs, ok) => (t, if ok && !bs.any (·.2) then some (leVal (bs.map (·.1))) else none)

/-- The burst's source is read: a peripheral port as far as it supplies words, host memory by what it answers, a memory
side whole. -/
def State.burstRead (s : State) (h : ReelCh) (a : Nat) (b : ReelBurst) (x : ReelIn) : State × ReelBurst :=
  if h.srcFix then s.fixRead x.words a { b with data := h.carry }
  else if h.srcHost then
    let n := match x.hostErr with | some j => min b.len (16 * j) | none => b.len
    (s, { b with data := (List.range n).map (fun i => ((x.host.getD i 0).toNat, false))
                 err := if n < b.len then x.hostErr else none })
  else
    match s.piecesRead x.ecc (pieces b.len a b.len) with
    | (t, bs, ok) =>
      if ok then (t, { b with data := bs }) else (t, { b with data := bs.take (bs.length / 16 * 16), err := some (bs.length / 16) })

/-- Poisoned data is moved: POISON, counted once per descriptor (R398). -/
def State.reelPoison (s : State) (c : ReelId) (b : ReelBurst) : State :=
  if b.data.any (·.2) && !(s.rl c).poison then (s.setRl c (fun h => { h with poison := true })).inc REEL.CNT1_POISON_CNT else s

/-- The bytes of the burst alone, without those of a word that goes on past its end. -/
def ReelBurst.trim (b : ReelBurst) : ReelBurst := { b with data := b.data.take b.len }

/-- The rest of the last word that a peripheral port has supplied goes to the next burst (R393, R394). -/
def State.reelCarry (s : State) (c : ReelId) (b : ReelBurst) : State :=
  if (s.rl c).srcFix then s.setRl c (fun g => { g with carry := b.data.drop b.len }) else s

/-- The bytes that the drain of a burst is to write: to a peripheral port whole words, with what was short of one before. -/
def ReelCh.due (h : ReelCh) (b : ReelBurst) : List (Nat × Bool) :=
  if h.dstFix then (h.carry ++ b.data).take ((h.carry ++ b.data).length / 4 * 4) else b.data

/-- A burst starts (R389): where only the request line is missing, WAIT_REQ. -/
def State.burstStart (s : State) (c : ReelId) (x : ReelIn) : State :=
  let h := s.rl c
  if s.get (REEL.CH_STATUS_STATE c) == 1 && !h.desc.isEmpty && !s.reqLine h.req then s.on (REEL.CH_STATUS_WAIT_REQ c)
  else if s.reelPick ≠ some c then s
  else
    match s.reelOffset c x.ecc with
    | (t, off) =>
      match h.place (off.getD 0) h.read with
      | (a, d, rem) =>
        let n := h.burstLen a d rem
        match (if off.isNone then (t, { len := n, dst := d, err := some 0 }) else t.burstRead h a { len := n, dst := d } x) with
        | (u, b) =>
          let v := (((u.reelPoison c b).reelCarry c b).setRl c (fun g =>
            { g with bursts := g.bursts ++ [b.trim], read := g.read + n })).off (REEL.CH_STATUS_WAIT_REQ c)
          ({ v with reelLast := vset v.reelLast (Fin.ofNat 4 (s.get (REEL.CH_CFG_PRIO c))) c }).reelFlight

/-- The write engine drains a burst into its destination; the bytes written before the first error response. Posted
writes to host memory carry the poison as the EP bit. -/
def State.burstDrain (s : State) (h : ReelCh) (b : ReelBurst) : State × Nat :=
  let w := h.due b
  let n := w.length
  if h.dstHost then (if n = 0 then s else { s with hostOut := [(b.dst, w)] }, n)
  else if h.dstFix then s.fixWrite (n / 4) b.dst w
  else s.piecesWrite (pieces n b.dst n) w

/-- The oldest burst, read to its end, is drained: the bytes count as moved, or the first beat that fails ends the
descriptor with ERR_XFER or ERR_LAST (Table 19-3). -/
def State.burstFinish (s : State) (c : ReelId) (b : ReelBurst) (rest : List ReelBurst) : State :=
  let h := s.rl c
  match s.burstDrain h b with
  | (t, k) =>
    let n := (h.due b).length
    let short := if h.dstFix then (h.carry ++ b.data).drop n else h.carry
    let bad := if k < n then some (k / 16) else b.err
    match bad with
    | none =>
      let u := t.setRl c (fun g => { g with bursts := rest, bytes := g.bytes + n, carry := short })
      (((((u.set (REEL.CH_BYTES_BYTES c) (h.bytes + n)).inc (REEL.CH_CNT_BURST_CNT c)).countEvent 0x100 0 ((b.len + 15) / 16)).reelFlight)).reelBoundary c
    | some j =>
      let last := decide (h.total ≤ h.bytes + (if h.dstFix then h.carry.length else 0) + b.len) && j == (b.len - 1) / 16
      let moved := if last then h.total else h.bytes + 16 * j
      ((t.countEvent 0x100 0 j).setRl c (fun g => { g with bursts := [], bytes := moved })).reelEnd c (if last then 3 else 2) last

/-- The last destination write of the channel's oldest burst is issued (R388, R394, R396); what a peripheral port still
owes of it arrives first, and without it the burst has not ended. -/
def State.burstEnd (s : State) (c : ReelId) : State :=
  let h := s.rl c
  match h.bursts with
  | [] => s
  | b :: rest =>
    if b.full then s.burstFinish c b rest
    else
      match s.fixRead ((b.len + 3) / 4) h.src b with
      | (t, b') => if b'.full then (t.reelCarry c b').burstFinish c b'.trim rest else s

/-- 1,024 Reel cycles have passed since the withdrawal of the request line in a burst: `k` more words came, and the
descriptor ends with PERIPH_ABORT (R396). An abort by a power-down at the same burst is counted as well (R401). -/
def State.periphAbort (s : State) (c : ReelId) (k : Nat) : State :=
  let h := s.rl c
  match h.bursts with
  | [] => s
  | b :: rest =>
    if b.full || s.reqLine h.req then s
    else
      match s.fixRead k h.src b with
      | (t, b') =>
        if b'.full then (t.reelCarry c b').burstFinish c b'.trim rest
        else
          match t.burstDrain h b' with
          | (u, n) =>
            let v := ((u.countEvent 0x100 0 ((n + 15) / 16)).setRl c (fun g => { g with bursts := [], bytes := g.bytes + n })).inc
              REEL.CNT0_PERIPH_ABORT_CNT
            (v.when h.abort (fun v => (v.inc REEL.CNT0_DOMAIN_ABORT_CNT).on PWR.STATUS_DOMAIN_ABORT)).reelEnd c 4 false

end Sys2Proof.Machine
end

