-- ==== Sys2Proof/Machine/Reel.lean ====
section
/-!
DEFINITION. Commands of the Reel DMA engine (chapter 19).
-/

namespace Sys2Proof.Machine

open Sys2Proof

/-- REEL_START (R397, R401): START of channel `c`. -/
def execReelStart (c : ReelId) (s : State) : Out := .next (s.whenAwake (fun s => s.reelStart c false))

/-- RESUME (R399): RESUME of channel `c`. -/
def execResume (c : ReelId) (s : State) : Out := .next (s.whenAwake (fun s => s.reelStart c true))

/-- REEL_STOP (R399). -/
def execReelStop (c : ReelId) (s : State) : Out := .next (s.whenAwake (fun s => s.reelStop c))

/-- DESCRIPTOR_FETCH (R392): `ecc` is what the code of each of the eight words finds. -/
def execDescriptorFetch (c : ReelId) (ecc : List SprEcc) (s : State) : Out :=
  .next (s.whenAwake (fun s => s.descFetch c ecc))

/-- BURST_START (R389, R393): `x` is what the source supplies. -/
def execBurstStart (c : ReelId) (x : ReelIn) (s : State) : Out := .next (s.whenAwake (fun s => s.burstStart c x))

/-- BURST_END (R394, R398). -/
def execBurstEnd (c : ReelId) (s : State) : Out := .next (s.whenAwake (fun s => s.burstEnd c))

/-- PERIPH_ABORT (R396): `k` words came after the latest ones. -/
def execPeriphAbort (c : ReelId) (k : Nat) (s : State) : Out := .next (s.whenAwake (fun s => s.periphAbort c k))

/-- BARRIER_CONFIRM (R397). -/
def execBarrierConfirm (c : ReelId) (s : State) : Out := .next (s.whenAwake (fun s => s.reelBarrier c))

/-- DESCRIPTOR_COMPLETE (R397). -/
def execDescriptorComplete (c : ReelId) (s : State) : Out := .next (s.whenAwake (fun s => s.reelComplete c))

/-- REEL_CNT_CLR (R402). -/
def execReelCntClr (s : State) : Out := .next (s.whenAwake (fun s => s.reelCntClr))

end Sys2Proof.Machine
end

