-- ==== Sys2Proof/Machine/Resets.lean ====
section
/-!
DEFINITION. Commands of resets, retention and the rig (chapter 16), and a staged rig part (chapter 8).
-/

namespace Sys2Proof.Machine

open Sys2Proof

/-- STAGED_APPLY (R204). -/
def execStagedApply (s : State) : Out := .next (s.whenAwake (fun s => s.stagedApply))

/-- RESET_N_FALL: RESET_N is low for `ns` (R337): under 200 ns ignored, under 1 µs taken or not by a free value. -/
def execResetNFall (ns : Nat) (s : State) : Out :=
  .next (if ns < 200 then s
    else if ns < 1000 then (if s.drawn 22 1 = 1 then s.drew.pinReset else s.drew)
    else s.pinReset)

/-- RESET_N_RISE (R337). -/
def execResetNRise (s : State) : Out := .next s.pinRelease

/-- SWR: the guarded pair of CFG_SWR is written with SWR = 1 (Table 16-1). -/
def execSwr (s : State) : Out := .next (s.whenAwake (fun s => s.swrWrite 1))

/-- WDR (R339). -/
def execWdr (s : State) : Out := .next s.watchdog

/-- WDT_KICK: KICK is written by initiator `i`; a write of any other than Gondola is discarded and counted (R339, R355,
R358). -/
def execWdtKick (i : Initiator) (s : State) : Out := .next (s.busWrite i CFG.WDT_KICK_KICK.addr 2 1)

/-- PTR (R340). -/
def execPtr (k : PortId) (s : State) : Out := .next (s.whenAwake (fun s => s.portReset k))

/-- LNR_LINE (R340). -/
def execLnrLine (n : Lane) (s : State) : Out := .next (s.whenAwake (fun s => s.laneReset n))

/-- LNR_HOST (R340). -/
def execLnrHost (j : Host) (s : State) : Out := .next (s.whenAwake (fun s => s.hostReset j))

/-- CFG_CNT_CLR (R354, Table 16-8). -/
def execCfgCntClr (s : State) : Out := .next (s.whenAwake (fun s => s.cfgCntClr))

end Sys2Proof.Machine
end

