-- ==== Sys2Proof/Machine/Safety.lean ====
section
/-!
DEFINITION. The commands of laser safety (chapter 14).
-/

namespace Sys2Proof.Machine

open Sys2Proof

/-- COMPARATOR_TRIP (R298, R300): the voltage of MPD_IN[n] in mV, as the inputs of channels A and B see it. -/
def execComparatorTrip (n : Lane) (a b : BitVec 12) (s : State) : Out := .next (s.mpdIn n a.toNat b.toNat)

/-- LO_ARM (R299): the output of BDAn has stayed above 50 mV for `us`; the blanking time is 1.0 ms less 20 % at least. -/
def execLoArm (n : Lane) (us : Nat) (s : State) : Out := .next (if 800 ≤ us then s.armLo n else s)

/-- LO_DISARM (R299): the output of BDAn is below 50 mV. -/
def execLoDisarm (n : Lane) (s : State) : Out := .next (s.loFollow n)

/-- TX_DISABLE_EDGE (R302): the level after the edge. -/
def execTxDisableEdge (n : Lane) (high : Bool) (s : State) : Out := .next (s.txDisable n high)

/-- LASER_CLR_N_FALL (R302). -/
def execLaserClrNFall (s : State) : Out := .next (s.laserClr true)

/-- LASER_CLR_N_RISE (R302, R234). -/
def execLaserClrNRise (s : State) : Out := .next (s.laserClr false)

/-- SAF_RELEASE (R303): the guarded pair with LANES and LASTING_ACK. -/
def execSafRelease (lanes ack : BitVec 8) (s : State) : Out := .next (s.whenAwake (fun s => s.relWrite lanes.toNat ack.toNat))

/-- PROOF_TEST_START (R304). -/
def execProofTestStart (n : Lane) (s : State) : Out := .next (s.proofStart n)

/-- PROOF_CHANNEL_DONE (R304): HI tripped under the test current, LO tripped at 0 V, and no trip was shown for 20 µs after the
reconnection. -/
def execProofChannelDone (n : Lane) (hi lo quiet : Bool) (s : State) : Out := .next (s.proofChannel n (hi && lo && quiet))

/-- PROOF_TEST_END (R303, R304). -/
def execProofTestEnd (n : Lane) (s : State) : Out := .next (s.proofEnd n)

/-- PERIODIC_PROOF_DUE (R305). -/
def execPeriodicProofDue (n : Lane) (s : State) : Out := .next (s.proofPeriodic n)

/-- SAF_PROOF (R305). -/
def execSafProof (n : Lane) (s : State) : Out := .next (s.whenAwake (fun s => s.proofAsk n))

/-- SUPERVISION_PASS (R306, R479, R480), with whether the pilot-light tick count has advanced since the pass before. -/
def execSupervisionPass (tick : Bool) (s : State) : Out := .next (s.supPass tick)

/-- SUP_GATE_OPEN (R480). -/
def execSupGateOpen (n : Lane) (s : State) : Out := .next (s.whenAwake (fun s => s.gateOpen n))

/-- SAF_KICK (R307). -/
def execSafKick (s : State) : Out := .next (s.whenAwake (fun s => s.kick))

/-- DEADMAN_EXPIRY (R307). -/
def execDeadmanExpiry (us : Nat) (s : State) : Out := .next (s.deadman us)

/-- CLOCK_LOSS (R308). -/
def execClockLoss (s : State) : Out := .next s.clockLoss

/-- CLK_LOSS_CLEAR: all three clocks have run for `us` (R308). -/
def execClkLossClear (us : Nat) (s : State) : Out := .next (if 1000 ≤ us then s.clockBack else s)

/-- SUPPLY_FAULT: VDDA_12 in mV (R309). -/
def execSupplyFault (mv : BitVec 16) (s : State) : Out := .next (s.supplyLost mv.toNat)

/-- SUPPLY_NOW_CLEAR: VDDA_12 has been inside its window for `us` (R309). -/
def execSupplyNowClear (us : Nat) (s : State) : Out := .next (if 1000 ≤ us then s.supplyBack else s)

/-- VDDIO_UVLO: VDDIO_18 in mV (R309). -/
def execVddioUvlo (mv : BitVec 16) (s : State) : Out := .next (if mv.toNat < 1550 then s.vddioLow else s)

/-- SAF_LIM_WRITE (R311): the guarded pair with HI and LO of lane `n`. -/
def execSafLimWrite (n : Lane) (hi lo : BitVec 10) (s : State) : Out := .next (s.whenAwake (fun s => s.limWrite n hi.toNat lo.toNat))

/-- SAF_CNT_CLR (R314). -/
def execSafCntClr (s : State) : Out := .next (s.whenAwake (fun s => s.safCntClr))

end Sys2Proof.Machine
end

