-- ==== Sys2Proof/Machine/Security.lean ====
section
/-!
DEFINITION. Commands of security and self-test (chapter 22), and of JTAG (R450).
-/

namespace Sys2Proof.Machine

open Sys2Proof

/-- LC_ADVANCE runs (R447, R449): the new state is shown in PENDING, which the thermometer bits let only
advance (log 213). `sig`: the token's signature verifies; `brace`: a brace
falls into the OTP write; `otp`: the read-back matches. -/
def execLcAdvance (sig brace otp : Bool) (s : State) : Out :=
  .next (s.whenAwake (fun s => s.opRun 1 sig brace otp (fun target t => t.set GLB.LC_PENDING (max target (t.get GLB.LC_PENDING)))))

/-- KEY_PROGRAM runs (R447, R448). -/
def execKeyProgram (sig brace otp : Bool) (s : State) : Out :=
  .next (s.whenAwake (fun s => s.opRun 2 sig brace otp (fun k t => t.keyProgram k)))

/-- KEY_REVOKE runs (R447, R448). -/
def execKeyRevoke (sig brace otp : Bool) (s : State) : Out :=
  .next (s.whenAwake (fun s => s.opRun 3 sig brace otp (fun k t => t.set (SEC.KEYS_SLOT k) 2)))

/-- PACKDOWN (R319, R453). -/
def execPackdown (s : State) : Out := .next s.packBegin

/-- PACKDOWN_SLICE_END (R453 to R455). -/
def execPackdownSliceEnd (pass : Bool) (s : State) : Out := .next (s.whenAwake (fun s => s.sliceEnd pass))

/-- HOLD_RELEASE: the guarded pair TST_HOLD_REL is written with RELEASE = 1 (R456). -/
def execHoldRelease (s : State) : Out := .next (s.whenAwake (fun s => s.holdRelease 1))

/-- ENGINE_START (R459). -/
def execEngineStart (s : State) : Out := .next (s.whenAwake (fun s => s.engStart))

/-- ENGINE_DONE (R459). -/
def execEngineDone (s : State) : Out := .next (s.whenAwake (fun s => s.engDone))

/-- SEC_CNT_CLR (Table 22-7). -/
def execSecCntClr (s : State) : Out := .next (s.whenAwake (fun s => s.secCntClr))

/-- TST_CNT_CLR (Table 22-8). -/
def execTstCntClr (s : State) : Out := .next (s.whenAwake (fun s => s.tstCntClr))

/-- What the data register of a loaded IDCODE captures: stepping B1 (R450). -/
def State.jtagCapture (s : State) : Option Nat := if s.sec.jtag = .idcode then some 0x232087E3 else none

/-- What a JTAG instruction loads as (R450). -/
def State.jtagLoads (s : State) (x : JtagInsn) : JtagInsn :=
  match x with
  | .extest => if s.get SAF.STATUS_LATCH = 0xFF then x else .bypass
  | .extestPulse => if s.get SAF.STATUS_LATCH = 0xFF then x else .bypass
  | .extestTrain => if s.get SAF.STATUS_LATCH = 0xFF then x else .bypass
  | .bridle => if s.lcOpen then x else .bypass
  | .testData => if s.lcOpen then x else .bypass
  | .bypass => x
  | .idcode => x
  | .sample => x

/-- JTAG_INSTRUCTION_LOAD (R450). -/
def execJtagInstructionLoad (x : JtagInsn) (s : State) : Out := .next (s.setSec (fun c => { c with jtag := s.jtagLoads x }))

end Sys2Proof.Machine
end

