-- ==== Sys2Proof/Machine/Sonde.lean ====
section
/-!
DEFINITION. Commands of the monitoring converter (chapter 11).
-/

namespace Sys2Proof.Machine

open Sys2Proof

/-- SND_START (R246, R255). -/
def execSndStart (s : State) : Out := .next (s.whenAwake (fun s => s.sndStart))

/-- SND_STOP (R246, R247). A trigger in the same cycle is discarded, and counted nowhere (R257). -/
def execSndStop (_trig : Bool) (s : State) : Out := .next (s.whenAwake (fun s => s.sndStop))

/-- SND_TRIG (R246, R247). -/
def execSndTrig (s : State) : Out := .next (s.whenAwake (fun s => s.sndTrigger 0))

/-- SND_FIFO_CLR (Table 11-5). -/
def execSndFifoClr (s : State) : Out := .next (s.whenAwake (fun s => s.setSnd (fun d => { d with fifo := [] })))

/-- SND_CNT_CLR (R258). -/
def execSndCntClr (s : State) : Out := .next (s.whenAwake (fun s => s.sndCntClr))

/-- SND_TIMER_TRIGGER, `us` after the timer's trigger before (R246, Table 11-5). -/
def execSndTimerTrigger (us : Nat) (s : State) : Out :=
  .next (if max 10 (s.get SND.TIMER_PERIOD) ≤ us then s.sndTrigger 1 else s)

/-- CONVERSION_START (R245, R254): the multiplexer moves to the input of the next conversion, a system slot having waited `us` for
the user entry before it; or, with `prefill`, the conversion's prefill begins, `us` after that move. -/
def execConversionStart (us : Nat) (prefill : Bool) (s : State) : Out := .next (if prefill then s.convFill us else s.convStart us)

/-- SND_RESULT (R240 to R243, R248 to R252): `vin` are the voltages at the selected input, one per modulator sample, in units of
1.25 V / 2^39; the last of them holds where they are fewer than the result takes. -/
def execSndResult (vin : List Int) (s : State) : Out := .next (s.sndResult vin)

/-- CONVERSION_END (R245). -/
def execConversionEnd (s : State) : Out := .next s.convEnd

/-- SYSTEM_SLOT_REQUEST (R254, R286): a slot of these settings, at an excitation current of `exc` µA. -/
def execSystemSlotRequest (input : BitVec 7) (gain : Fin 6) (osr : Fin 7) (settle : BitVec 10) (count exc : BitVec 8) (s : State) : Out :=
  .next (s.slotAsk ⟨input.toNat, gain.val, osr.val, settle.toNat, count.toNat, exc.toNat⟩)

/-- MODULATOR_OVERLOAD (R251): `before` modulator samples ahead of the next result. -/
def execModulatorOverload (before : Nat) (s : State) : Out := .next (s.overload before)

/-- REF_RDY (R253): the reference buffer has been on, and powered, for `us`. -/
def execRefRdy (us : Nat) (s : State) : Out := .next (if 5000 ≤ us then s.refReady else s)

/-- SUP_ACTIVE_RISE (R255). -/
def execSupActiveRise (s : State) : Out := .next s.supRise

/-- SND_FIFO_READ (Table 11-6) (R258). -/
def execSndFifoRead (i : Initiator) (s : State) : Out :=
  .next (if s.mayAccess i then s.fifoPop else s)

/-- SND_ENT_WRITE (R241, R242, R250, R258). -/
def execSndEntWrite (j : Fin 16) (w : Fin 2) (v : Word) (s : State) : Out :=
  .next (s.whenAwake (fun s => s.entWrite j.val w.val v.toNat))

end Sys2Proof.Machine
end

