-- ==== Sys2Proof/Machine/SparAlu.lean ====
section
/-!
DEFINITION. Spar's arithmetic and logic instructions, REG and IMM formats (R260, R267, Table 12-3).
-/

namespace Sys2Proof.Machine

open Sys2Proof

/-- NOP (Table 12-3). -/
def execSprNop (e : SprEcc) (s : State) : Out := .next (s.sprIssue 0 e false noCheck {} (·.sprNext))

/-- ADD: V on signed overflow. -/
def execSprAdd (gd ga gb : Fin 16) (e : SprEcc) (s : State) : Out :=
  .next (s.sprAlu (encReg 0x01 gd ga gb) e [ga, gb] gd (fun r => r.reg ga + r.reg gb)
    (fun r => ovf32 ((r.reg ga).toInt + (r.reg gb).toInt)))

/-- SUB: V on signed overflow. -/
def execSprSub (gd ga gb : Fin 16) (e : SprEcc) (s : State) : Out :=
  .next (s.sprAlu (encReg 0x02 gd ga gb) e [ga, gb] gd (fun r => r.reg ga - r.reg gb)
    (fun r => ovf32 ((r.reg ga).toInt - (r.reg gb).toInt)))

/-- AND. -/
def execSprAnd (gd ga gb : Fin 16) (e : SprEcc) (s : State) : Out :=
  .next (s.sprAlu (encReg 0x03 gd ga gb) e [ga, gb] gd (fun r => r.reg ga &&& r.reg gb) noV)

/-- OR. -/
def execSprOr (gd ga gb : Fin 16) (e : SprEcc) (s : State) : Out :=
  .next (s.sprAlu (encReg 0x04 gd ga gb) e [ga, gb] gd (fun r => r.reg ga ||| r.reg gb) noV)

/-- XOR. -/
def execSprXor (gd ga gb : Fin 16) (e : SprEcc) (s : State) : Out :=
  .next (s.sprAlu (encReg 0x05 gd ga gb) e [ga, gb] gd (fun r => r.reg ga ^^^ r.reg gb) noV)

/-- SHL by gb[4:0]. -/
def execSprShl (gd ga gb : Fin 16) (e : SprEcc) (s : State) : Out :=
  .next (s.sprAlu (encReg 0x06 gd ga gb) e [ga, gb] gd (fun r => r.reg ga <<< amount (r.reg gb)) noV)

/-- SHR, logical, by gb[4:0]. -/
def execSprShr (gd ga gb : Fin 16) (e : SprEcc) (s : State) : Out :=
  .next (s.sprAlu (encReg 0x07 gd ga gb) e [ga, gb] gd (fun r => r.reg ga >>> amount (r.reg gb)) noV)

/-- SAR, arithmetic, by gb[4:0]. -/
def execSprSar (gd ga gb : Fin 16) (e : SprEcc) (s : State) : Out :=
  .next (s.sprAlu (encReg 0x08 gd ga gb) e [ga, gb] gd (fun r => (r.reg ga).sshiftRight (amount (r.reg gb))) noV)

/-- MUL: the low 32 bits of the signed product. -/
def execSprMul (gd ga gb : Fin 16) (e : SprEcc) (s : State) : Out :=
  .next (s.sprAlu (encReg 0x09 gd ga gb) e [ga, gb] gd (fun r => r.reg ga * r.reg gb) noV)

/-- ADDS, saturating: V when it saturates. -/
def execSprAdds (gd ga gb : Fin 16) (e : SprEcc) (s : State) : Out :=
  .next (s.sprAlu (encReg 0x0A gd ga gb) e [ga, gb] gd (fun r => sat32 ((r.reg ga).toInt + (r.reg gb).toInt))
    (fun r => ovf32 ((r.reg ga).toInt + (r.reg gb).toInt)))

/-- SUBS, saturating: V when it saturates. -/
def execSprSubs (gd ga gb : Fin 16) (e : SprEcc) (s : State) : Out :=
  .next (s.sprAlu (encReg 0x0B gd ga gb) e [ga, gb] gd (fun r => sat32 ((r.reg ga).toInt - (r.reg gb).toInt))
    (fun r => ovf32 ((r.reg ga).toInt - (r.reg gb).toInt)))

/-- MIN, signed. -/
def execSprMin (gd ga gb : Fin 16) (e : SprEcc) (s : State) : Out :=
  .next (s.sprAlu (encReg 0x0C gd ga gb) e [ga, gb] gd
    (fun r => if (r.reg ga).toInt ≤ (r.reg gb).toInt then r.reg ga else r.reg gb) noV)

/-- MAX, signed. -/
def execSprMax (gd ga gb : Fin 16) (e : SprEcc) (s : State) : Out :=
  .next (s.sprAlu (encReg 0x0D gd ga gb) e [ga, gb] gd
    (fun r => if (r.reg ga).toInt ≤ (r.reg gb).toInt then r.reg gb else r.reg ga) noV)

/-- ABS, saturating: V when it saturates. -/
def execSprAbs (gd ga : Fin 16) (e : SprEcc) (s : State) : Out :=
  .next (s.sprAlu (encReg 0x0E gd ga 0) e [ga] gd (fun r => sat32 ((r.reg ga).toInt.natAbs : Int))
    (fun r => ovf32 ((r.reg ga).toInt.natAbs : Int)))

/-- CMP: the flags of ga − gb. -/
def execSprCmp (ga gb : Fin 16) (e : SprEcc) (s : State) : Out :=
  .next (s.sprAlu (encReg 0x0F 0 ga gb) e [ga, gb] 0 (fun r => r.reg ga - r.reg gb)
    (fun r => ovf32 ((r.reg ga).toInt - (r.reg gb).toInt)))

/-- ADDI: imm18 sign-extended; V on signed overflow. -/
def execSprAddi (gd ga : Fin 16) (imm : BitVec 18) (e : SprEcc) (s : State) : Out :=
  .next (s.sprAlu (encImm 0x10 gd ga imm) e [ga] gd (fun r => r.reg ga + immS imm)
    (fun r => ovf32 ((r.reg ga).toInt + (immS imm).toInt)))

/-- LUI: imm18 × 2^14. -/
def execSprLui (gd : Fin 16) (imm : BitVec 18) (e : SprEcc) (s : State) : Out :=
  .next (s.sprAlu (encImm 0x11 gd 0 imm) e [] gd (fun _ => immZ imm <<< 14) noV)

/-- ORI: imm18 zero-extended. -/
def execSprOri (gd ga : Fin 16) (imm : BitVec 18) (e : SprEcc) (s : State) : Out :=
  .next (s.sprAlu (encImm 0x12 gd ga imm) e [ga] gd (fun r => r.reg ga ||| immZ imm) noV)

/-- ANDI: imm18 zero-extended. -/
def execSprAndi (gd ga : Fin 16) (imm : BitVec 18) (e : SprEcc) (s : State) : Out :=
  .next (s.sprAlu (encImm 0x13 gd ga imm) e [ga] gd (fun r => r.reg ga &&& immZ imm) noV)

/-- CMPI: the flags of ga − imm18. -/
def execSprCmpi (ga : Fin 16) (imm : BitVec 18) (e : SprEcc) (s : State) : Out :=
  .next (s.sprAlu (encImm 0x14 0 ga imm) e [ga] 0 (fun r => r.reg ga - immS imm)
    (fun r => ovf32 ((r.reg ga).toInt - (immS imm).toInt)))

/-- SHLI by imm18[4:0]. -/
def execSprShli (gd ga : Fin 16) (sh : Fin 32) (e : SprEcc) (s : State) : Out :=
  .next (s.sprAlu (encImm 0x15 gd ga (BitVec.ofNat 18 sh.val)) e [ga] gd (fun r => r.reg ga <<< sh.val) noV)

/-- SARI by imm18[4:0]. -/
def execSprSari (gd ga : Fin 16) (sh : Fin 32) (e : SprEcc) (s : State) : Out :=
  .next (s.sprAlu (encImm 0x16 gd ga (BitVec.ofNat 18 sh.val)) e [ga] gd (fun r => (r.reg ga).sshiftRight sh.val) noV)

/-- SHRI by imm18[4:0]. -/
def execSprShri (gd ga : Fin 16) (sh : Fin 32) (e : SprEcc) (s : State) : Out :=
  .next (s.sprAlu (encImm 0x17 gd ga (BitVec.ofNat 18 sh.val)) e [ga] gd (fun r => r.reg ga >>> sh.val) noV)

end Sys2Proof.Machine
end

