-- ==== Sys2Proof/Machine/SparCtl.lean ====
section
/-!
DEFINITION. Spar's control flow, modes, events and services (R267, R268, R270 to R274, R281).
-/

namespace Sys2Proof.Machine

open Sys2Proof

/-- JMP. -/
def execSprJmp (target : BitVec 14) (e : SprEcc) (s : State) : Out :=
  .next (s.sprIssue (encCtl 0x28 0 target.toNat) e false noCheck { extra := 1 } (·.sprBranch target.toNat))

/-- BR (Table 12-4). -/
def execSprBr (cond : BitVec 4) (target : BitVec 14) (e : SprEcc) (s : State) : Out :=
  let taken := s.spr.cond cond
  .next (s.sprIssue (encCtl 0x29 cond.toNat target.toNat) e false noCheck { extra := taken.toNat }
    (fun t => if taken then t.sprBranch target.toNat else t.sprNext))

/-- CALL: STACK with 8 entries (R268). It returns to where the next instruction is, which at the end of a loop's body is the loop's
(R267). -/
def execSprCall (target : BitVec 14) (e : SprEcc) (s : State) : Out :=
  .next (s.sprIssue (encCtl 0x2A 0 target.toNat) e false (fun r => if 8 ≤ r.rets.length then some 5 else none) { extra := 1 }
    (fun t =>
      let x := loopNext t.spr.pc t.spr.loops
      (t.setSpr (fun r => (r.setLoops x.2).setRets (x.1 :: r.rets))).sprGo target.toNat))

/-- RET: STACK with none (R268). -/
def execSprRet (e : SprEcc) (s : State) : Out :=
  .next (s.sprIssue (encCtl 0x2B 0 0) e false (fun r => if r.rets = [] then some 5 else none) { extra := 1 }
    (fun t => (t.setSpr (fun r => r.setRets (r.rets.drop 1))).sprGo (t.spr.rets.headD 0)))

/-- LOOP: STACK with 2 entries; a count of 0 skips the body, whose end may be that of the
loop around it (R267, R268). -/
def execSprLoop (ga : Fin 16) (last : BitVec 14) (e : SprEcc) (s : State) : Out :=
  .next (s.sprIssue (encCtl 0x2C ga.val last.toNat) e false (fun r => if 2 ≤ r.loops.length then some 5 else none)
    { srcs := [ga] }
    (fun t => if (t.spr.reg ga) = 0 then
                (let x := loopNext last.toNat t.spr.loops
                 (t.setSpr (·.setLoops x.2)).sprGo x.1)
              else (t.setSpr (fun r => r.setLoops (⟨r.pc + 1, last.toNat, (r.reg ga).toNat⟩ :: r.loops))).sprGo (t.spr.pc + 1)))

/-- WAIT: completes at once where an event of its mask is pending, else Spar stalls (R270, R280). -/
def execSprWait (mask : BitVec 8) (e : SprEcc) (s : State) : Out :=
  .next (s.sprIssue (encCtl 0x2D 0 mask.toNat) e false noCheck {}
    (fun t => if (t.get SPR.EVT_PEND &&& mask.toNat) != 0 then t.waitDone mask.toNat
              else t.setSpr (fun r => { r with run := .waiting mask.toNat })))

/-- WAIT_COMPLETE: a masked event is pending after `cycles` stall cycles (R270). -/
def execWaitComplete (cycles : Nat) (s : State) : Out :=
  .next (match s.spr.run with
    | .waiting mask =>
      if s.awake && (s.get SPR.EVT_PEND &&& mask) != 0 then
        ((s.countSome 0xC1 cycles (some ⟨s.spr.pc, (s.spr.insn s.spr.pc).toNat, 1 + cycles⟩)).sprWaited cycles).waitDone mask
      else s
    | _ => s)

/-- EVT: line 0 triggers Sonde, line 1 sets HOST_EVT (Table 12-3). -/
def execSprEvt (line : Fin 4) (e : SprEcc) (s : State) : Out :=
  .next (s.sprIssue (encCtl 0x2E 0 line.val) e false noCheck {}
    (fun t => (if line = 0 then t.sndTrigger 2 else t.on SPR.EVT_HOST_EVT).sprNext))

/-- The executive treats a TRAP whose service it does not have as a PRIV fault: it records it, and the user program ends (R273). -/
def State.trapRefused (s : State) : State := ((s.sprRecord 2).setSpr (fun r => { r with phase := .ended })).alarm 0x17 0 2

/-- TRAP n: from user mode the executive is entered at word 0x0040 + n with the next instruction saved (R272), which at the end of a
loop's body is the loop's. -/
def execSprTrap (n : BitVec 8) (e : SprEcc) (s : State) : Out :=
  .next (s.sprIssue (encCtl 0x2F 0 n.toNat) e false noCheck {}
    (fun t =>
      if t.spr.user then
        let x := loopNext t.spr.pc t.spr.loops
        let u := if 3 ≤ n.toNat then t.trapRefused else t
        u.setSpr (fun r => { ((r.setLoops x.2).enterPriv x.1 (0x40 + n.toNat)) with service := if 3 ≤ n.toNat then none else some n.toNat })
      else t.sprGo (0x40 + n.toNat)))

/-- The executive serves TRAP `n`. -/
def State.serving (s : State) (n : Nat) : Bool := s.awake && s.spr.run == .running && !s.spr.user && s.spr.service == some n

/-- TRAP_EXIT: the user program ends, and USER_DONE is set (R273). -/
def execTrapExit (s : State) : Out := .next (if s.serving 0 then ((s.on SPR.STATUS_USER_DONE).serviceDone).setSpr (fun r => { r with phase := .ended }) else s)

/-- TRAP_LOG: G1 and G2 become a log record of source SPAR_USER (R273, Table 20-9). -/
def execTrapLog (s : State) : Out :=
  .next (if s.serving 1 then (s.logRecord 0xA 0 1 (s.spr.reg 1).toNat (s.spr.reg 2).toNat 0 0).serviceDone else s)

/-- TRAP_ALARM: SPAR_USER with code G1[15:0] (R273). -/
def execTrapAlarm (s : State) : Out :=
  .next (if s.serving 2 then (s.alarm 0x18 0 ((s.spr.reg 1).toNat % 65536)).serviceDone else s)

/-- RETU: user mode at the target, or at the saved user PC (Table 12-3). Privileged. One that the executive does not make is no
event (log 78). -/
def execSprRetu (u : Bool) (target : BitVec 14) (e : SprEcc) (s : State) : Out :=
  .next (if s.spr.user || s.retuOpen u target.toNat then
      s.sprIssue (0x30 * 2 ^ 26 + u.toNat * 2 ^ 25 + target.toNat) e true noCheck { extra := 1 }
        (fun t => ((t.off SPR.CMD_USER_RESTART).setSpr (fun r => { r with user := true, phase := .entered })).sprGo
          (if u then t.spr.savedPc else target.toNat))
    else s)

/-- HALT. Privileged. -/
def execSprHalt (e : SprEcc) (s : State) : Out :=
  .next (s.sprIssue (encCtl 0x31 0 0) e true noCheck {} (fun t => (t.sprNext).setSpr (fun r => { r with run := .halted })))

/-- ILLEGAL_INSTRUCTION: the word at the PC is no legal instruction (R267). -/
def execIllegalInstruction (e : SprEcc) (s : State) : Out :=
  let w := (s.spr.insn s.spr.pc).toNat
  .next (if sprLegal w then s else s.sprIssue w e false noCheck {} id)

/-- SPAR_TIMER_EVENT, `cycles` after the one before (R270, Table 12-8): the timer runs with a PERIOD other than 0. -/
def execSparTimerEvent (cycles : Nat) (s : State) : Out :=
  .next (if s.get SPR.TIMER_PERIOD = 0 ∨ cycles < max 1200 (s.get SPR.TIMER_PERIOD) then s else s.sprEvent 0)

/-- SPAR_PREEMPT (R272). -/
def execSparPreempt (s : State) : Out := .next s.preempt

/-- SPAR_RUN (R271, R280): a write of RUN; `issue`: it falls with the issue of an instruction. From initiators other than Gondola
it is discarded (R281), and counted where it would have changed RUN (R358). -/
def execSparRun (i : Initiator) (v issue : Bool) (s : State) : Out :=
  .next (s.whenAwake (fun s =>
    if i = .gondola then s.sprRunWrite v issue
    else if v = s.flag SPR.CTRL_RUN then s
    else s.accessFault i.code SPR.CTRL_RUN.addr 7 true 4))

/-- USER_RESTART (R273). -/
def execUserRestart (s : State) : Out := .next (s.whenAwake (fun s => s.userRestart))

/-- DOORBELL (R270). -/
def execDoorbell (s : State) : Out := .next (s.whenAwake (fun s => s.sprEvent 3))

/-- SPR_CNT_CLR (Table 12-9). -/
def execSprCntClr (s : State) : Out := .next (s.whenAwake (fun s => s.sprCntClr))

end Sys2Proof.Machine
end

