-- ==== Sys2Proof/Machine/SparIo.lean ====
section
/-!
DEFINITION. The Bridle responses of Spar's LDIO and STIO (R275, R276, R280).
-/

namespace Sys2Proof.Machine

open Sys2Proof

/-- The word an STIO writes: of BDA_PAUSE, user mode changes the bits of its permitted channels only (Table 12-6). -/
def State.stioWord (s : State) (a : Nat) (v : Word) : Nat :=
  if s.spr.user && a == BDA.PAUSE_PAUSE.addr then
    word32 (fun k => if s.bitOf SPR.USER_BDA_USER_BDA k then bit v.toNat k else s.bitOf BDA.PAUSE_PAUSE k)
  else v.toNat

/-- The response has arrived: LDIO loads its register, and the PC advances. A write that has reset the device (Table 16-9) leaves
nothing to go on with. -/
def State.ioDone (s : State) (write : Bool) (g v : Nat) : State :=
  match s.spr.run with
  | .io _ _ _ _ =>
    ((s.setSpr (fun r => { (if write then r else r.put (Fin.ofNat 16 g) (BitVec.ofNat 32 v)) with run := .running })).sprNext).ioAfter
  | _ => s

/-- IO_RESPONSE: the access of the stalled instruction is performed, `cycles` after its issue; an error response raises
IO_ERR. `wrong` and `e` are what a read meets (R370, R380). -/
def execIoResponse (cycles : Nat) (wrong : BitVec 2) (e : SprEcc) (s : State) : Out :=
  .next (match s.spr.run with
    | .io write g a v =>
      if !s.awake then s
      else
        let t := s.ioStalled write cycles
        let u := if write then t.busWrite .spar a 2 (t.stioWord a v) else t.busRead .spar a 2 wrong e
        match u.brd.resp with
        | .error _ => u.ioError
        | .data w => u.ioDone write g w
        | .poisoned w => u.ioDone write g w
        | _ => u.ioDone write g 0
    | _ => s)

/-- IO_TMO: no response in 4,096 cycles (Table 12-5), which are counted. -/
def execIoTmo (s : State) : Out :=
  .next (match s.spr.run with
    | .io write _ _ _ => if s.awake then ((s.ioStalled write 4096).sprFault 7).ioAfter else s
    | _ => s)

end Sys2Proof.Machine
end

