-- ==== Sys2Proof/Machine/SparMem.lean ====
section
/-!
DEFINITION. Spar's memory, address-generator, multiply-accumulate and accumulator instructions (R263 to R267).
-/

namespace Sys2Proof.Machine

open Sys2Proof

/-- The fault of an access through a generator: AG4 to AG7 in user mode, then the address. -/
def SprSt.agCheck (a : Fin 8) (r : SprSt) : Option Nat :=
  match r.badAg a with
  | some c => some c
  | none => r.badAddr (r.ag.get a).p

/-- LD: g takes the word at the generator, which advances with PM (R266). -/
def execSprLd (g : Fin 16) (ag : Fin 8) (pm : Bool) (e d : SprEcc) (s : State) : Out :=
  .next (s.sprIssue (encMem 0x18 g ag pm) e false (·.agCheck ag) { ld := some g } (fun t =>
    (t.setSpr (fun r => (r.put g (r.load (r.ag.get ag).p)).agAdvance ag pm.toNat)).sprNext) [d])

/-- ST: the word at the generator takes g (R266). -/
def execSprSt (g : Fin 16) (ag : Fin 8) (pm : Bool) (e : SprEcc) (s : State) : Out :=
  .next (s.sprIssue (encMem 0x19 g ag pm) e false (·.agCheck ag) { srcs := [g] } (fun t =>
    (t.setSpr (fun r => (r.setDatum (r.ag.get ag).p.toNat (r.reg g)).agAdvance ag pm.toNat)).sprNext))

/-- LDIO: a Bridle read is issued; Spar stalls until the response (R275, R276). -/
def execSprLdio (g ga : Fin 16) (imm : BitVec 18) (e : SprEcc) (s : State) : Out :=
  .next (s.sprIssue (encImm 0x1A g ga imm) e false (s.ioCheck ga imm false) { later := true } (fun t =>
    t.setSpr (fun r => { r with run := .io false g.val (r.reg ga + immS imm).toNat 0 })))

/-- STIO: a Bridle write of g is issued; Spar stalls until the response (R275, R276). -/
def execSprStio (g ga : Fin 16) (imm : BitVec 18) (e : SprEcc) (s : State) : Out :=
  .next (s.sprIssue (encImm 0x1B g ga imm) e false (s.ioCheck ga imm true) { later := true } (fun t =>
    t.setSpr (fun r => { r with run := .io true g.val (r.reg ga + immS imm).toNat (r.reg g) })))

/-- AGSET: a field of a generator takes g (R266). -/
def execSprAgset (g : Fin 16) (ag : Fin 8) (f : Fin 4) (e : SprEcc) (s : State) : Out :=
  .next (s.sprIssue (encAgf 0x1C g ag f) e false (·.badAg ag) { srcs := [g] } (fun t =>
    (t.setSpr (fun r => { r with ag := vset r.ag ag ((r.ag.get ag).setField f (r.reg g)) })).sprNext))

/-- AGGET: g takes a field of a generator (R266). -/
def execSprAgget (g : Fin 16) (ag : Fin 8) (f : Fin 4) (e : SprEcc) (s : State) : Out :=
  .next (s.sprIssue (encAgf 0x1D g ag f) e false (·.badAg ag) {} (fun t =>
    (t.setSpr (fun r => r.put g ((r.ag.get ag).field f))).sprNext))

/-- The addresses MAC4 reads through agy: where it stands and where its advances bring it. -/
def macY (g : SprAg) : List Word := (List.range 4).map (fun k => (g.nextN k).p)

/-- The words MAC4 reads. -/
def SprSt.mac4Reads (r : SprSt) (agx agy : Fin 8) (xreg : Bool) : List Word :=
  (if xreg then [] else [(r.ag.get agx).p]) ++ macY (r.ag.get agy)

/-- The fault of MAC4's generators and addresses. -/
def SprSt.mac4Check (agx agy : Fin 8) (xreg : Bool) (r : SprSt) : Option Nat :=
  match (if xreg then none else r.badAg agx), r.badAg agy with
  | some c, _ => some c
  | none, some c => some c
  | none, none => r.badAddrs (r.mac4Reads agx agy xreg)

/-- MAC4 (R264). -/
def execSprMac4 (agx agy : Fin 8) (clr neg xreg : Bool) (gx : Fin 16) (e : SprEcc) (ds : List SprEcc) (s : State) : Out :=
  let r := s.spr
  let x := macOp (if xreg then r.reg gx else r.load (r.ag.get agx).p)
  let ys := (macY (r.ag.get agy)).map (fun a => macOp (r.load a))
  .next (s.sprIssue (encMac4 agx agy clr neg xreg gx) e false (·.mac4Check agx agy xreg)
    { srcs := if xreg then [gx] else [], macs := [0, 1, 2, 3], conflict := conflicts (r.mac4Reads agx agy xreg) }
    (fun t => ((t.each (List.finRange 4) (fun k u => u.macAcc clr neg k (x * ys.getD k.val 0))).setSpr (fun q =>
      (if xreg then q else q.agAdvance agx 1).agAdvance agy 4)).sprNext) (ds.take (r.mac4Reads agx agy xreg).length))

/-- The words MAC2 reads. -/
def SprSt.mac2Reads (r : SprSt) (agx agy : Fin 8) : List Word :=
  [(r.ag.get agx).p, (r.ag.get agx).p + 4, (r.ag.get agy).p, (r.ag.get agy).p + 4]

/-- The fault of MAC2's generators and addresses. -/
def SprSt.mac2Check (agx agy : Fin 8) (r : SprSt) : Option Nat :=
  match r.badAg agx, r.badAg agy with
  | some c, _ => some c
  | none, some c => some c
  | none, none => r.badAddrs (r.mac2Reads agx agy)

/-- MAC2, a complex product into an accumulator pair (R264). -/
def execSprMac2 (agx agy : Fin 8) (clr neg : Bool) (p : Fin 2) (e : SprEcc) (ds : List SprEcc) (s : State) : Out :=
  let r := s.spr
  let w := (r.mac2Reads agx agy).map (fun a => macOp (r.load a))
  let xr := w.getD 0 0
  let xi := w.getD 1 0
  let yr := w.getD 2 0
  let yi := w.getD 3 0
  let a : Fin 4 := ⟨2 * p.val, by omega⟩
  let b : Fin 4 := ⟨2 * p.val + 1, by omega⟩
  .next (s.sprIssue (encMac2 agx agy clr neg p) e false (·.mac2Check agx agy)
    { macs := [a, b], conflict := conflicts (r.mac2Reads agx agy) } (fun t =>
      (((t.macAcc clr neg a (xr * yr - xi * yi)).macAcc clr neg b (xr * yi + xi * yr)).setSpr (fun q =>
        (q.agAdvance agx 1).agAdvance agy 1)).sprNext) (ds.take 4))

/-- MACR, from registers (R264). -/
def execSprMacr (ga gb : Fin 16) (k : Fin 4) (clr neg : Bool) (e : SprEcc) (s : State) : Out :=
  let p := macOp (s.spr.reg ga) * macOp (s.spr.reg gb)
  .next (s.sprIssue (encMacr ga gb k clr neg) e false noCheck { srcs := [ga, gb], accs := [k], macs := [k] }
    (fun t => (t.macAcc clr neg k p).sprNext))

/-- MOVA (R265). -/
def execSprMova (gd : Fin 16) (k : Fin 4) (clr : Bool) (e : SprEcc) (s : State) : Out :=
  .next (s.sprIssue (encAcc 0x23 gd k clr) e false noCheck { accs := [k] } (fun t => (t.mova gd k clr).sprNext))

/-- LDA (R265). -/
def execSprLda (g : Fin 16) (k : Fin 4) (e : SprEcc) (s : State) : Out :=
  .next (s.sprIssue (encAcc 0x24 g k false) e false noCheck { srcs := [g], accs := [k] } (fun t => (t.lda g k).sprNext))

/-- CLRA: the accumulators of the mask are cleared (Table 12-2). -/
def execSprClra (mask : BitVec 4) (e : SprEcc) (s : State) : Out :=
  let ks := (List.finRange 4).filter (fun k => bit mask.toNat k.val)
  .next (s.sprIssue (encCtl 0x25 mask.toNat 0) e false noCheck { accs := ks } (fun t =>
    (t.each ks (fun k u => u.setSpr (fun r => { r with acc := vset r.acc k 0 }))).sprNext))

end Sys2Proof.Machine
end

