-- ==== Sys2Proof/Machine/Tether.lean ====
section
/-!
DEFINITION. Commands of the tether and of PCIe (chapter 21). The messages a command sends stand in `TthSt.sent`.
-/

namespace Sys2Proof.Machine

open Sys2Proof

/-- BLOCK_LOCK (R434). -/
def execBlockLock (p : Fin 2) (hdrs : List (BitVec 2)) (s : State) : Out := .next (s.sendNone.blockLock p hdrs)

/-- BLOCK_LOCK_LOSS: `errs` invalid headers within 64 blocks, or discarded blocks (R434). -/
def execBlockLockLoss (p : Fin 2) (hdrs : List (BitVec 2)) (discarded : Nat) (s : State) : Out :=
  .next (s.sendNone.blockLoss p hdrs discarded)

/-- TETHER_RETRY (R436), `us` after the latest restart or the loss. -/
def execTetherRetry (p : Fin 2) (us : Nat) (s : State) : Out := .next (s.sendNone.tthRetry p us)

/-- TTH_LINK: the partner's ID and what it reaches (R435, R436). -/
def execTthLink (p : Fin 2) (id : Fin 4) (beyond : BitVec 4) (s : State) : Out :=
  .next (s.sendNone.linkIn p id beyond.toNat)

/-- TTH_ALARM: a change received from the chain, or (none) the oldest change of this device's queue sent (R412, R437). -/
def execTthAlarm (m : Option AlmMsg) (s : State) : Out :=
  .next (match m with | some x => s.sendNone.almIn x | none => s.sendNone.almOut)

/-- TTH_WAKE received on port `p` (R440). -/
def execTthWake (p : Fin 2) (s : State) : Out := .next (s.sendNone.tthWake p)

/-- TTH_TOKEN received on port `p` (R160). -/
def execTthToken (p : Fin 2) (kind : TokKind) (member : Fin 4) (pair : Fin 64) (s : State) : Out :=
  .next (s.sendNone.tokenIn p kind member pair)

/-- TTH_TIME (R439). -/
def execTthTime (t : BitVec 48) (s : State) : Out := .next (s.sendNone.timeIn t.toNat)

/-- The words of a REG_RSP: tag, data and error KIND, 0 without an error. -/
def regRsp (tag : Nat) (r : Resp) : List Nat :=
  match r with
  | .data v => [tag, v % 2 ^ 32, v / 2 ^ 32, 0]
  | .error k => [tag, 0, 0, k]
  | .poisoned _ => [tag, 0, 0, 0xF]
  | _ => [tag, 0, 0, 0]

/-- A REG_REQ for this device is performed with initiator TETHER and answered; one for another goes on (R437, R438). -/
def State.regReq (s : State) (p target : Nat) (tag a size : Nat) (w : Option Nat) (wrong : BitVec 2) : State :=
  let p : TthId := Fin.ofNat 2 p
  if !s.linkUp p then s
  else if target ≠ s.stackId then s.send (otherPort p) 7 ([target, a, size, tag] ++ (match w with | some v => [v % 2 ^ 32, v / 2 ^ 32] | none => []))
  else
    let t := match w with | some v => s.busWrite .tether a size v | none => s.busRead .tether a size wrong .clean
    t.send p 6 (regRsp tag t.brd.resp)

/-- TTH_REG_REQ: tag, target, address within the register space, and the words of a write (R438). -/
def execTthRegReq (p : Fin 2) (target : Fin 4) (tag : BitVec 8) (a : BitVec 22) (size : Fin 4) (w : Option (BitVec 64)) (wrong : BitVec 2)
    (s : State) : Out :=
  .next (s.sendNone.regReq p target tag.toNat a.toNat size (w.map (·.toNat)) wrong)

/-- A REG_RSP on DOWN: the anchor answers its host's access, where one waits under that tag; a member passes it on (R430,
R438). -/
def State.regRspIn (s : State) (tag v : Nat) (err : Option Nat) : State :=
  if !s.linkUp 1 then s
  else if s.isAnchor then
    if !s.tth.asked.contains tag then s
    else ((s.setTth (fun t => { t with asked := t.asked.erase tag })).respond
      (match err with | some k => .error k | none => .data v)).pcieNote .pcie
  else s.send 0 6 [tag, v % 2 ^ 32, v / 2 ^ 32, err.getD 0]

/-- TTH_REG_RSP (R438). -/
def execTthRegRsp (tag : BitVec 8) (v : BitVec 64) (err : Option (Fin 16)) (s : State) : Out :=
  .next (s.sendNone.regRspIn tag.toNat v.toNat (err.map (·.val)))

/-- TTH_INT: a member's INT_N condition received on DOWN, or (none) this member's own sent toward the anchor (R431). -/
def execTthInt (m : Option (Fin 4 × Bool)) (s : State) : Out :=
  .next (match m with
    | some x => s.sendNone.intIn x.1 x.2
    | none => if s.isAnchor then s else s.sendNone.send 0 8 [s.stackId, s.intN.toNat])

/-- TIME_SEND (R439), `us` after the latest TIME: every 1,000 ms. -/
def execTimeSend (us : Nat) (s : State) : Out := .next (if 1000000 ≤ us then s.sendNone.timeOut else s.sendNone)

/-- TTH_CNT_CLR (Table 21-10). -/
def execTthCntClr (s : State) : Out := .next (s.whenAwake (fun s => if s.variant then s.tthCntClr else s))

/-- PCI_CNT_CLR (Table 21-10); a member's PCI block ignores writes (R428). -/
def execPciCntClr (s : State) : Out :=
  .next (s.whenAwake (fun s => if s.variant && s.isAnchor then s.pciCntClr else s))

/-- PERST_N_FALL: the PCIe core is held in reset, and nothing else is affected (R428). -/
def execPerstNFall (s : State) : Out :=
  .next (if s.variant then
    ((s.setPwr (fun p => { p with perst := false })).off PCI.STATUS_SPEED).off PCI.STATUS_WIDTH
    else s)

end Sys2Proof.Machine
end

