-- ==== Sys2Proof/Machine/Thermal.lean ====
section
/-!
DEFINITION. The commands of the thermal unit (chapter 13).
-/

namespace Sys2Proof.Machine

open Sys2Proof

/-- THM_READING (R288): sensor `d` reads `t` in units of 0.125 °C. -/
def execThmReading (d : Fin 12) (t : Int) (s : State) : Out := .next (s.thmReading d.val t)

/-- EXT_CHANNEL_READING (R286, R287): channel `c` is read, `us` after the reading before; `num / den` is the ratio that a
thermistor's slot has measured. -/
def execExtChannelReading (c : Fin 8) (us : Nat) (num : Int) (den : Nat) (s : State) : Out :=
  .next (s.extReading c.val us num den)

/-- CROSS_CHECK (R285), `us` after the one before: the slot on the diode of the next sensor reads the temperature `t`. -/
def execCrossCheck (us : Nat) (t : Int) (s : State) : Out := .next (if 100000 ≤ us then s.crossCheck t else s)

/-- TRIP_REL (R289): ports that were held by the trip are judged. -/
def execTripRel (s : State) : Out := .next (if s.awake then s.tripRelease.portsEval else s)

/-- PEAK_CLR (Table 13-3). -/
def execPeakClr (s : State) : Out := .next (s.whenAwake (fun s => s.peakClr))

/-- THM_CNT_CLR (Table 13-3). -/
def execThmCntClr (s : State) : Out := .next (s.whenAwake (fun s => s.thmCntClr))

/-- SHELF_THERMAL_SAMPLE (R290): DS11 reads `t`, in units of 0.125 °C. -/
def execShelfThermalSample (t : Int) (s : State) : Out :=
  .next (if s.pwr.dev = .shelf ∧ (8 * s.get THM.CTRL_SHELF_LIM : Nat) < t then s.wakeFire 6 0 else s)

end Sys2Proof.Machine
end

