-- ==== Sys2Proof/Machine/Dispatch.lean ====
section
/-!
DEFINITION. The dispatch: one arm per command, each one direct call of that command's meaning. The meanings change
everything but the queue of waiting commands; `Machine/Step.lean` takes a command off that queue.
-/

namespace Sys2Proof.Machine

open Sys2Proof

def exec (i : Instr) (s : State) : Host.Outcome State Fault Refusal :=
  match i with
  | .referenceLoss p => Sys2Proof.Machine.execReferenceLoss p s
  | .holdoverExpiry p => Sys2Proof.Machine.execHoldoverExpiry p s
  | .gbxSlip n => Sys2Proof.Machine.execGbxSlip n s
  | .amReceived j d skew => Sys2Proof.Machine.execAmReceived j d skew s
  | .kp4Codeword j d xs => Sys2Proof.Machine.execKp4Codeword j d xs s
  | .agcBlock n us => Sys2Proof.Machine.execAgcBlock n us s
  | .compReleaseEnd n => Sys2Proof.Machine.execCompReleaseEnd n s
  | .ovrWindow n => Sys2Proof.Machine.execOvrWindow n s
  | .ovrBackoff n => Sys2Proof.Machine.execOvrBackoff n s
  | .holdoffEnd n us => Sys2Proof.Machine.execHoldoffEnd n us s
  | .sampleSaturation n slice raw => Sys2Proof.Machine.execSampleSaturation n slice raw s
  | .grossOverload n => Sys2Proof.Machine.execGrossOverload n s
  | .dcrRecoveryEnd n => Sys2Proof.Machine.execDcrRecoveryEnd n s
  | .lnRxCntClr n => Sys2Proof.Machine.execLnRxCntClr n s
  | .agcRestart n => Sys2Proof.Machine.execAgcRestart n s
  | .ktapMean n codes => Sys2Proof.Machine.execKtapMean n codes s
  | .slcDataAccess x0 n acc => Sys2Proof.Machine.execSlcDataAccess x0 n acc s
  | .slotStart n us => Sys2Proof.Machine.execSlotStart n us s
  | .spareHandover n => Sys2Proof.Machine.execSpareHandover n s
  | .referenceMeasureDone n gain off skew bw => Sys2Proof.Machine.execReferenceMeasureDone n gain off skew bw s
  | .sliceReturn n => Sys2Proof.Machine.execSliceReturn n s
  | .inserviceSlotEnd n => Sys2Proof.Machine.execInserviceSlotEnd n s
  | .calWindowEnd n => Sys2Proof.Machine.execCalWindowEnd n s
  | .refineResult n slice => Sys2Proof.Machine.execRefineResult n slice s
  | .dacEstimateDone n j gain off => Sys2Proof.Machine.execDacEstimateDone n j gain off s
  | .foregroundCalDone n slices trims skews => Sys2Proof.Machine.execForegroundCalDone n slices trims skews s
  | .seededStartDone n meas => Sys2Proof.Machine.execSeededStartDone n meas s
  | .refreshStart n => Sys2Proof.Machine.execRefreshStart n s
  | .refreshComplete n => Sys2Proof.Machine.execRefreshComplete n s
  | .calRefresh n => Sys2Proof.Machine.execCalRefresh n s
  | .calCntClr n => Sys2Proof.Machine.execCalCntClr n s
  | .tokenRequest k => Sys2Proof.Machine.execTokenRequest k s
  | .tokenGrant k => Sys2Proof.Machine.execTokenGrant k s
  | .tokenReturn k => Sys2Proof.Machine.execTokenReturn k s
  | .tokenExpiry k member => Sys2Proof.Machine.execTokenExpiry k member s
  | .guardWindow n => Sys2Proof.Machine.execGuardWindow n s
  | .boostOpen n => Sys2Proof.Machine.execBoostOpen n s
  | .boostClose n => Sys2Proof.Machine.execBoostClose n s
  | .locFreezeEnd n us => Sys2Proof.Machine.execLocFreezeEnd n us s
  | .eqcDataAccess x0 n acc => Sys2Proof.Machine.execEqcDataAccess x0 n acc s
  | .modeChange n => Sys2Proof.Machine.execModeChange n s
  | .preshedRampEnd n => Sys2Proof.Machine.execPreshedRampEnd n s
  | .shedCheck n => Sys2Proof.Machine.execShedCheck n s
  | .innerCodeword n x0 raw => Sys2Proof.Machine.execInnerCodeword n x0 raw s
  | .decWindowEnd n => Sys2Proof.Machine.execDecWindowEnd n s
  | .frameReceived n => Sys2Proof.Machine.execFrameReceived n s
  | .superframeReceived n => Sys2Proof.Machine.execSuperframeReceived n s
  | .locHello n tag lanes idx caps => Sys2Proof.Machine.execLocHello n tag lanes idx caps s
  | .locHelloAck n tag lanes idx caps => Sys2Proof.Machine.execLocHelloAck n tag lanes idx caps s
  | .locTxcReq n tag items => Sys2Proof.Machine.execLocTxcReq n tag items s
  | .locTxcDone n tag reqTag result applied => Sys2Proof.Machine.execLocTxcDone n tag reqTag result applied s
  | .locDaccalAnn n tag countdown stepId => Sys2Proof.Machine.execLocDaccalAnn n tag countdown stepId s
  | .locFreezeReq n tag duration => Sys2Proof.Machine.execLocFreezeReq n tag duration s
  | .locStats n tag body => Sys2Proof.Machine.execLocStats n tag body s
  | .locUser n tag body => Sys2Proof.Machine.execLocUser n tag body s
  | .locReservedType n type tag => Sys2Proof.Machine.execLocReservedType n type tag s
  | .locRetx n tag => Sys2Proof.Machine.execLocRetx n tag s
  | .superframeSend n => Sys2Proof.Machine.execSuperframeSend n s
  | .userSend n => Sys2Proof.Machine.execUserSend n s
  | .snap => Sys2Proof.Machine.execSnap s
  | .snapDone => Sys2Proof.Machine.execSnapDone s
  | .swap n => Sys2Proof.Machine.execSwap n s
  | .swapApply n => Sys2Proof.Machine.execSwapApply n s
  | .swapSlewStep n => Sys2Proof.Machine.execSwapSlewStep n s
  | .shadowLoad n => Sys2Proof.Machine.execShadowLoad n s
  | .lnTxCntClr n => Sys2Proof.Machine.execLnTxCntClr n s
  | .txtDataAccess x0 n acc => Sys2Proof.Machine.execTxtDataAccess x0 n acc s
  | .swingStep n => Sys2Proof.Machine.execSwingStep n s
  | .ampRampComplete n beats => Sys2Proof.Machine.execAmpRampComplete n beats s
  | .txcReqSend n items => Sys2Proof.Machine.execTxcReqSend n items s
  | .txcApply n => Sys2Proof.Machine.execTxcApply n s
  | .daccalRequest n step => Sys2Proof.Machine.execDaccalRequest n step s
  | .daccalExecute n => Sys2Proof.Machine.execDaccalExecute n s
  | .sdAssert j mv => Sys2Proof.Machine.execSdAssert j mv s
  | .sdDeassert j mv => Sys2Proof.Machine.execSdDeassert j mv s
  | .cdrLock j => Sys2Proof.Machine.execCdrLock j s
  | .cdrLoss j => Sys2Proof.Machine.execCdrLoss j s
  | .rxcDataAccess x0 j acc => Sys2Proof.Machine.execRxcDataAccess x0 j acc s
  | .presetWrite j k w => Sys2Proof.Machine.execPresetWrite j k w s
  | .txManWrite j w => Sys2Proof.Machine.execTxManWrite j w s
  | .txCoefSlewStep j amp => Sys2Proof.Machine.execTxCoefSlewStep j amp s
  | .txSourceChange j => Sys2Proof.Machine.execTxSourceChange j s
  | .trainingFrameReceived j ready confirm xs => Sys2Proof.Machine.execTrainingFrameReceived j ready confirm xs s
  | .trainingRequest j req => Sys2Proof.Machine.execTrainingRequest j req s
  | .noPartnerTmo j us => Sys2Proof.Machine.execNoPartnerTmo j us s
  | .readyHoldEnd j ctle => Sys2Proof.Machine.execReadyHoldEnd j ctle s
  | .trainMaxExpiry j us => Sys2Proof.Machine.execTrainMaxExpiry j us s
  | .restartHoldoffEnd j => Sys2Proof.Machine.execRestartHoldoffEnd j s
  | .offerStart j us => Sys2Proof.Machine.execOfferStart j us s
  | .offerEnd j us => Sys2Proof.Machine.execOfferEnd j us s
  | .retrain j => Sys2Proof.Machine.execRetrain j s
  | .hlCntClr j => Sys2Proof.Machine.execHlCntClr j s
  | .genEn l => Sys2Proof.Machine.execGenEn l s
  | .chkLock l bs => Sys2Proof.Machine.execChkLock l bs s
  | .chkLockLoss l bs => Sys2Proof.Machine.execChkLockLoss l bs s
  | .prbsLatch l bs => Sys2Proof.Machine.execPrbsLatch l bs s
  | .prbsClr l => Sys2Proof.Machine.execPrbsClr l s
  | .prbsInject l => Sys2Proof.Machine.execPrbsInject l s
  | .upSet k => Sys2Proof.Machine.execUpSet k s
  | .upClear k => Sys2Proof.Machine.execUpClear k s
  | .autoRestart k => Sys2Proof.Machine.execAutoRestart k s
  | .acqTmo k us => Sys2Proof.Machine.execAcqTmo k us s
  | .trainTmo k us => Sys2Proof.Machine.execTrainTmo k us s
  | .trafficEntry k => Sys2Proof.Machine.execTrafficEntry k s
  | .partnerTmo k us => Sys2Proof.Machine.execPartnerTmo k us s
  | .losHoldExpiry k us => Sys2Proof.Machine.execLosHoldExpiry k us s
  | .napRequest k => Sys2Proof.Machine.execNapRequest k s
  | .napCommit k => Sys2Proof.Machine.execNapCommit k s
  | .wakeRequest k => Sys2Proof.Machine.execWakeRequest k s
  | .wakeQualified k us => Sys2Proof.Machine.execWakeQualified k us s
  | .wakeTmo k us run => Sys2Proof.Machine.execWakeTmo k us run s
  | .stagedApply => Sys2Proof.Machine.execStagedApply s
  | .portCntClr k => Sys2Proof.Machine.execPortCntClr k s
  | .kiteTxStart n => Sys2Proof.Machine.execKiteTxStart n s
  | .kiteTxEnd n => Sys2Proof.Machine.execKiteTxEnd n s
  | .kitePreambleDetect n syms => Sys2Proof.Machine.execKitePreambleDetect n syms s
  | .kiteCapture n syms => Sys2Proof.Machine.execKiteCapture n syms s
  | .kiteSfd n syms => Sys2Proof.Machine.execKiteSfd n syms s
  | .kiteHeader n hdr window => Sys2Proof.Machine.execKiteHeader n hdr window s
  | .kiteFalsePreamble n det syms => Sys2Proof.Machine.execKiteFalsePreamble n det syms s
  | .kiteCrcFail n => Sys2Proof.Machine.execKiteCrcFail n s
  | .kiteProbe n payload => Sys2Proof.Machine.execKiteProbe n payload s
  | .kiteSerialReq n => Sys2Proof.Machine.execKiteSerialReq n s
  | .kiteSerial n payload => Sys2Proof.Machine.execKiteSerial n payload s
  | .kiteStatsReq n => Sys2Proof.Machine.execKiteStatsReq n s
  | .kiteStats n payload => Sys2Proof.Machine.execKiteStats n payload s
  | .kiteNapReq n payload => Sys2Proof.Machine.execKiteNapReq n payload s
  | .kiteWakeReq n payload => Sys2Proof.Machine.execKiteWakeReq n payload s
  | .kiteReqAck n payload => Sys2Proof.Machine.execKiteReqAck n payload s
  | .kiteUser n payload => Sys2Proof.Machine.execKiteUser n payload s
  | .kiteReservedType n => Sys2Proof.Machine.execKiteReservedType n s
  | .wakeSeen n syms => Sys2Proof.Machine.execWakeSeen n syms s
  | .kiteWakeDetect n reps => Sys2Proof.Machine.execKiteWakeDetect n reps s
  | .probeSend n us => Sys2Proof.Machine.execProbeSend n us s
  | .partnerSeenExpiry n us => Sys2Proof.Machine.execPartnerSeenExpiry n us s
  | .kiteReqRepeat n type us => Sys2Proof.Machine.execKiteReqRepeat n type us s
  | .klSend n => Sys2Proof.Machine.execKlSend n s
  | .wakeSend n => Sys2Proof.Machine.execWakeSend n s
  | .rxRelease n => Sys2Proof.Machine.execRxRelease n s
  | .klCntClr n => Sys2Proof.Machine.execKlCntClr n s
  | .qdataWrite c code => Sys2Proof.Machine.execQdataWrite c code s
  | .bdaSampleTick => Sys2Proof.Machine.execBdaSampleTick s
  | .deglitchEnd c => Sys2Proof.Machine.execDeglitchEnd c s
  | .rangeChange c v => Sys2Proof.Machine.execRangeChange c v s
  | .bdaFlush c write => Sys2Proof.Machine.execBdaFlush c write s
  | .bdaCntClr c => Sys2Proof.Machine.execBdaCntClr c s
  | .sndStart => Sys2Proof.Machine.execSndStart s
  | .sndStop trig => Sys2Proof.Machine.execSndStop trig s
  | .sndTrig => Sys2Proof.Machine.execSndTrig s
  | .sndFifoClr => Sys2Proof.Machine.execSndFifoClr s
  | .sndCntClr => Sys2Proof.Machine.execSndCntClr s
  | .sndTimerTrigger us => Sys2Proof.Machine.execSndTimerTrigger us s
  | .conversionStart us prefill => Sys2Proof.Machine.execConversionStart us prefill s
  | .sndResult vin => Sys2Proof.Machine.execSndResult vin s
  | .conversionEnd => Sys2Proof.Machine.execConversionEnd s
  | .systemSlotRequest input gain osr settle count exc => Sys2Proof.Machine.execSystemSlotRequest input gain osr settle count exc s
  | .modulatorOverload before => Sys2Proof.Machine.execModulatorOverload before s
  | .refRdy us => Sys2Proof.Machine.execRefRdy us s
  | .supActiveRise => Sys2Proof.Machine.execSupActiveRise s
  | .sndFifoRead x0 => Sys2Proof.Machine.execSndFifoRead x0 s
  | .sndEntWrite j w v => Sys2Proof.Machine.execSndEntWrite j w v s
  | .sprNop e => Sys2Proof.Machine.execSprNop e s
  | .sprAdd gd ga gb e => Sys2Proof.Machine.execSprAdd gd ga gb e s
  | .sprSub gd ga gb e => Sys2Proof.Machine.execSprSub gd ga gb e s
  | .sprAnd gd ga gb e => Sys2Proof.Machine.execSprAnd gd ga gb e s
  | .sprOr gd ga gb e => Sys2Proof.Machine.execSprOr gd ga gb e s
  | .sprXor gd ga gb e => Sys2Proof.Machine.execSprXor gd ga gb e s
  | .sprShl gd ga gb e => Sys2Proof.Machine.execSprShl gd ga gb e s
  | .sprShr gd ga gb e => Sys2Proof.Machine.execSprShr gd ga gb e s
  | .sprSar gd ga gb e => Sys2Proof.Machine.execSprSar gd ga gb e s
  | .sprMul gd ga gb e => Sys2Proof.Machine.execSprMul gd ga gb e s
  | .sprAdds gd ga gb e => Sys2Proof.Machine.execSprAdds gd ga gb e s
  | .sprSubs gd ga gb e => Sys2Proof.Machine.execSprSubs gd ga gb e s
  | .sprMin gd ga gb e => Sys2Proof.Machine.execSprMin gd ga gb e s
  | .sprMax gd ga gb e => Sys2Proof.Machine.execSprMax gd ga gb e s
  | .sprAbs gd ga e => Sys2Proof.Machine.execSprAbs gd ga e s
  | .sprCmp ga gb e => Sys2Proof.Machine.execSprCmp ga gb e s
  | .sprAddi gd ga imm e => Sys2Proof.Machine.execSprAddi gd ga imm e s
  | .sprLui gd imm e => Sys2Proof.Machine.execSprLui gd imm e s
  | .sprOri gd ga imm e => Sys2Proof.Machine.execSprOri gd ga imm e s
  | .sprAndi gd ga imm e => Sys2Proof.Machine.execSprAndi gd ga imm e s
  | .sprCmpi ga imm e => Sys2Proof.Machine.execSprCmpi ga imm e s
  | .sprShli gd ga sh e => Sys2Proof.Machine.execSprShli gd ga sh e s
  | .sprSari gd ga sh e => Sys2Proof.Machine.execSprSari gd ga sh e s
  | .sprShri gd ga sh e => Sys2Proof.Machine.execSprShri gd ga sh e s
  | .sprLd g ag pm e d => Sys2Proof.Machine.execSprLd g ag pm e d s
  | .sprSt g ag pm e => Sys2Proof.Machine.execSprSt g ag pm e s
  | .sprLdio g ga imm e => Sys2Proof.Machine.execSprLdio g ga imm e s
  | .sprStio g ga imm e => Sys2Proof.Machine.execSprStio g ga imm e s
  | .ioResponse cycles wrong e => Sys2Proof.Machine.execIoResponse cycles wrong e s
  | .ioTmo => Sys2Proof.Machine.execIoTmo s
  | .sprAgset g ag f e => Sys2Proof.Machine.execSprAgset g ag f e s
  | .sprAgget g ag f e => Sys2Proof.Machine.execSprAgget g ag f e s
  | .sprMac4 agx agy clr neg xreg gx e ds => Sys2Proof.Machine.execSprMac4 agx agy clr neg xreg gx e ds s
  | .sprMac2 agx agy clr neg p e ds => Sys2Proof.Machine.execSprMac2 agx agy clr neg p e ds s
  | .sprMacr ga gb k clr neg e => Sys2Proof.Machine.execSprMacr ga gb k clr neg e s
  | .sprMova gd k clr e => Sys2Proof.Machine.execSprMova gd k clr e s
  | .sprLda g k e => Sys2Proof.Machine.execSprLda g k e s
  | .sprClra mask e => Sys2Proof.Machine.execSprClra mask e s
  | .sprJmp target e => Sys2Proof.Machine.execSprJmp target e s
  | .sprBr cond target e => Sys2Proof.Machine.execSprBr cond target e s
  | .sprCall target e => Sys2Proof.Machine.execSprCall target e s
  | .sprRet e => Sys2Proof.Machine.execSprRet e s
  | .sprLoop ga last e => Sys2Proof.Machine.execSprLoop ga last e s
  | .sprWait mask e => Sys2Proof.Machine.execSprWait mask e s
  | .waitComplete cycles => Sys2Proof.Machine.execWaitComplete cycles s
  | .sprEvt line e => Sys2Proof.Machine.execSprEvt line e s
  | .sprTrap n e => Sys2Proof.Machine.execSprTrap n e s
  | .trapExit => Sys2Proof.Machine.execTrapExit s
  | .trapLog => Sys2Proof.Machine.execTrapLog s
  | .trapAlarm => Sys2Proof.Machine.execTrapAlarm s
  | .sprRetu u target e => Sys2Proof.Machine.execSprRetu u target e s
  | .sprHalt e => Sys2Proof.Machine.execSprHalt e s
  | .illegalInstruction e => Sys2Proof.Machine.execIllegalInstruction e s
  | .sparTimerEvent cycles => Sys2Proof.Machine.execSparTimerEvent cycles s
  | .sparPreempt => Sys2Proof.Machine.execSparPreempt s
  | .sparRun x0 v issue => Sys2Proof.Machine.execSparRun x0 v issue s
  | .userRestart => Sys2Proof.Machine.execUserRestart s
  | .doorbell => Sys2Proof.Machine.execDoorbell s
  | .sprCntClr => Sys2Proof.Machine.execSprCntClr s
  | .sprMemDataAccess x0 acc => Sys2Proof.Machine.execSprMemDataAccess x0 acc s
  | .thmReading d t => Sys2Proof.Machine.execThmReading d t s
  | .extChannelReading c us num den => Sys2Proof.Machine.execExtChannelReading c us num den s
  | .crossCheck us t => Sys2Proof.Machine.execCrossCheck us t s
  | .tripRel => Sys2Proof.Machine.execTripRel s
  | .peakClr => Sys2Proof.Machine.execPeakClr s
  | .thmCntClr => Sys2Proof.Machine.execThmCntClr s
  | .shelfThermalSample t => Sys2Proof.Machine.execShelfThermalSample t s
  | .comparatorTrip n a b => Sys2Proof.Machine.execComparatorTrip n a b s
  | .loArm n us => Sys2Proof.Machine.execLoArm n us s
  | .loDisarm n => Sys2Proof.Machine.execLoDisarm n s
  | .txDisableEdge n high => Sys2Proof.Machine.execTxDisableEdge n high s
  | .laserClrNFall => Sys2Proof.Machine.execLaserClrNFall s
  | .laserClrNRise => Sys2Proof.Machine.execLaserClrNRise s
  | .safRelease lanes ack => Sys2Proof.Machine.execSafRelease lanes ack s
  | .proofTestStart n => Sys2Proof.Machine.execProofTestStart n s
  | .proofChannelDone n hi lo quiet => Sys2Proof.Machine.execProofChannelDone n hi lo quiet s
  | .proofTestEnd n => Sys2Proof.Machine.execProofTestEnd n s
  | .periodicProofDue n => Sys2Proof.Machine.execPeriodicProofDue n s
  | .safProof n => Sys2Proof.Machine.execSafProof n s
  | .supervisionPass tick => Sys2Proof.Machine.execSupervisionPass tick s
  | .supGateOpen n => Sys2Proof.Machine.execSupGateOpen n s
  | .safKick => Sys2Proof.Machine.execSafKick s
  | .deadmanExpiry us => Sys2Proof.Machine.execDeadmanExpiry us s
  | .clockLoss => Sys2Proof.Machine.execClockLoss s
  | .clkLossClear us => Sys2Proof.Machine.execClkLossClear us s
  | .supplyFault mv => Sys2Proof.Machine.execSupplyFault mv s
  | .supplyNowClear us => Sys2Proof.Machine.execSupplyNowClear us s
  | .vddioUvlo mv => Sys2Proof.Machine.execVddioUvlo mv s
  | .safLimWrite n hi lo => Sys2Proof.Machine.execSafLimWrite n hi lo s
  | .safCntClr => Sys2Proof.Machine.execSafCntClr s
  | .paritySweep a wrong => Sys2Proof.Machine.execParitySweep a wrong s
  | .parityRewrite a => Sys2Proof.Machine.execParityRewrite a s
  | .powerUp => Sys2Proof.Machine.execPowerUp s
  | .pgCore => Sys2Proof.Machine.execPgCore s
  | .pgA12 => Sys2Proof.Machine.execPgA12 s
  | .pgQdr => Sys2Proof.Machine.execPgQdr s
  | .oscRdy => Sys2Proof.Machine.execOscRdy s
  | .memRdy => Sys2Proof.Machine.execMemRdy s
  | .lgcRdy post => Sys2Proof.Machine.execLgcRdy post s
  | .pgLane => Sys2Proof.Machine.execPgLane s
  | .wakeStepTimeout us => Sys2Proof.Machine.execWakeStepTimeout us s
  | .wakeRetry => Sys2Proof.Machine.execWakeRetry s
  | .dozeEntry us => Sys2Proof.Machine.execDozeEntry us s
  | .lpmodeRise => Sys2Proof.Machine.execLpmodeRise s
  | .shelfCommit => Sys2Proof.Machine.execShelfCommit s
  | .hostSdWake j mv => Sys2Proof.Machine.execHostSdWake j mv s
  | .lpmodeFall => Sys2Proof.Machine.execLpmodeFall s
  | .mgmtWake => Sys2Proof.Machine.execMgmtWake s
  | .perstNRise request g w => Sys2Proof.Machine.execPerstNRise request g w s
  | .tetherWake p => Sys2Proof.Machine.execTetherWake p s
  | .wakeTimer => Sys2Proof.Machine.execWakeTimer s
  | .gpioWake g high => Sys2Proof.Machine.execGpioWake g high s
  | .wakeAtHiWrite v => Sys2Proof.Machine.execWakeAtHiWrite v s
  | .quiesceRequest k => Sys2Proof.Machine.execQuiesceRequest k s
  | .quiesceTimeout k us => Sys2Proof.Machine.execQuiesceTimeout k us s
  | .sleepRetry k => Sys2Proof.Machine.execSleepRetry k s
  | .braceStart commit => Sys2Proof.Machine.execBraceStart commit s
  | .braceEnd us => Sys2Proof.Machine.execBraceEnd us s
  | .bor => Sys2Proof.Machine.execBor s
  | .plbor => Sys2Proof.Machine.execPlbor s
  | .ballastPress cause us => Sys2Proof.Machine.execBallastPress cause us s
  | .ballastRestore us => Sys2Proof.Machine.execBallastRestore us s
  | .pwrCntClr => Sys2Proof.Machine.execPwrCntClr s
  | .resetNFall ns => Sys2Proof.Machine.execResetNFall ns s
  | .resetNRise => Sys2Proof.Machine.execResetNRise s
  | .swr => Sys2Proof.Machine.execSwr s
  | .wdr => Sys2Proof.Machine.execWdr s
  | .wdtKick x0 => Sys2Proof.Machine.execWdtKick x0 s
  | .ptr k => Sys2Proof.Machine.execPtr k s
  | .lnrLine n => Sys2Proof.Machine.execLnrLine n s
  | .lnrHost j => Sys2Proof.Machine.execLnrHost j s
  | .cfgCntClr => Sys2Proof.Machine.execCfgCntClr s
  | .registerWrite x0 a size v => Sys2Proof.Machine.execRegisterWrite x0 a size v s
  | .guardedPairWrite x0 a v c => Sys2Proof.Machine.execGuardedPairWrite x0 a v c s
  | .guardLate x0 => Sys2Proof.Machine.execGuardLate x0 s
  | .bridleTimeout x0 a size write => Sys2Proof.Machine.execBridleTimeout x0 a size write s
  | .glbCntClr => Sys2Proof.Machine.execGlbCntClr s
  | .memoryRead x0 a size e => Sys2Proof.Machine.execMemoryRead x0 a size e s
  | .memoryWrite x0 a size v => Sys2Proof.Machine.execMemoryWrite x0 a size v s
  | .mergeIdleFlush a e => Sys2Proof.Machine.execMergeIdleFlush a e s
  | .bucketLeak => Sys2Proof.Machine.execBucketLeak s
  | .scrubRead a spare e => Sys2Proof.Machine.execScrubRead a spare e s
  | .qdrTrainDone ok => Sys2Proof.Machine.execQdrTrainDone ok s
  | .memFlush => Sys2Proof.Machine.execMemFlush s
  | .memCntClr => Sys2Proof.Machine.execMemCntClr s
  | .reelStart c => Sys2Proof.Machine.execReelStart c s
  | .resume c => Sys2Proof.Machine.execResume c s
  | .reelStop c => Sys2Proof.Machine.execReelStop c s
  | .descriptorFetch c ecc => Sys2Proof.Machine.execDescriptorFetch c ecc s
  | .burstStart c x => Sys2Proof.Machine.execBurstStart c x s
  | .burstEnd c => Sys2Proof.Machine.execBurstEnd c s
  | .periphAbort c k => Sys2Proof.Machine.execPeriphAbort c k s
  | .barrierConfirm c => Sys2Proof.Machine.execBarrierConfirm c s
  | .descriptorComplete c => Sys2Proof.Machine.execDescriptorComplete c s
  | .reelCntClr => Sys2Proof.Machine.execReelCntClr s
  | .checkpoint => Sys2Proof.Machine.execCheckpoint s
  | .pmcWrap x0 pos => Sys2Proof.Machine.execPmcWrap x0 pos s
  | .alarmOccurrence id inst code => Sys2Proof.Machine.execAlarmOccurrence id inst code s
  | .alarmAck x0 e => Sys2Proof.Machine.execAlarmAck x0 e s
  | .alarmEntryRead x0 e => Sys2Proof.Machine.execAlarmEntryRead x0 e s
  | .logRecord src inst ev d0 d1 d2 d3 => Sys2Proof.Machine.execLogRecord src inst ev d0 d1 d2 d3 s
  | .tokenRefill q => Sys2Proof.Machine.execTokenRefill q s
  | .traceRecord src inst ev d => Sys2Proof.Machine.execTraceRecord src inst ev d s
  | .ringPortRead x0 g e => Sys2Proof.Machine.execRingPortRead x0 g e s
  | .strCntClr => Sys2Proof.Machine.execStrCntClr s
  | .setdasa st a enec => Sys2Proof.Machine.execSetdasa st a enec s
  | .entdaa a enec => Sys2Proof.Machine.execEntdaa a enec s
  | .rstdaa => Sys2Proof.Machine.execRstdaa s
  | .pageSelect bank page => Sys2Proof.Machine.execPageSelect bank page s
  | .cmisWrite a bs => Sys2Proof.Machine.execCmisWrite a bs s
  | .cmisMonitorRefresh l => Sys2Proof.Machine.execCmisMonitorRefresh l s
  | .datapathdeinit v => Sys2Proof.Machine.execDatapathdeinit v s
  | .appsel j code => Sys2Proof.Machine.execAppsel j code s
  | .cmisTxDisable n v => Sys2Proof.Machine.execCmisTxDisable n v s
  | .lowpwrrequestsw v => Sys2Proof.Machine.execLowpwrrequestsw v s
  | .lowpwrallowrequesthw v => Sys2Proof.Machine.execLowpwrallowrequesthw v s
  | .b0hRead wrong e => Sys2Proof.Machine.execB0hRead wrong e s
  | .b0hWrite => Sys2Proof.Machine.execB0hWrite s
  | .b0hGuardedWrite => Sys2Proof.Machine.execB0hGuardedWrite s
  | .rigApply => Sys2Proof.Machine.execRigApply s
  | .portUp => Sys2Proof.Machine.execPortUp s
  | .portDown => Sys2Proof.Machine.execPortDown s
  | .laneNap => Sys2Proof.Machine.execLaneNap s
  | .laneWake => Sys2Proof.Machine.execLaneWake s
  | .calNow => Sys2Proof.Machine.execCalNow s
  | .capture => Sys2Proof.Machine.execCapture s
  | .captureTrigger beat words => Sys2Proof.Machine.execCaptureTrigger beat words s
  | .attest brace => Sys2Proof.Machine.execAttest brace s
  | .selftestResult => Sys2Proof.Machine.execSelftestResult s
  | .fwStage => Sys2Proof.Machine.execFwStage s
  | .fwCommit => Sys2Proof.Machine.execFwCommit s
  | .logDrain => Sys2Proof.Machine.execLogDrain s
  | .snapshotExport => Sys2Proof.Machine.execSnapshotExport s
  | .shelf => Sys2Proof.Machine.execShelf s
  | .timeRead => Sys2Proof.Machine.execTimeRead s
  | .kiteSend => Sys2Proof.Machine.execKiteSend s
  | .mbxReservedOpcode => Sys2Proof.Machine.execMbxReservedOpcode s
  | .mailboxTimeout us => Sys2Proof.Machine.execMailboxTimeout us s
  | .blockLock p hdrs => Sys2Proof.Machine.execBlockLock p hdrs s
  | .blockLockLoss p hdrs discarded => Sys2Proof.Machine.execBlockLockLoss p hdrs discarded s
  | .tetherRetry p us => Sys2Proof.Machine.execTetherRetry p us s
  | .tthLink p id beyond => Sys2Proof.Machine.execTthLink p id beyond s
  | .tthAlarm m => Sys2Proof.Machine.execTthAlarm m s
  | .tthWake p => Sys2Proof.Machine.execTthWake p s
  | .tthToken p kind member pair => Sys2Proof.Machine.execTthToken p kind member pair s
  | .tthTime t => Sys2Proof.Machine.execTthTime t s
  | .tthRegReq p target tag a size w wrong => Sys2Proof.Machine.execTthRegReq p target tag a size w wrong s
  | .tthRegRsp tag v err => Sys2Proof.Machine.execTthRegRsp tag v err s
  | .tthInt m => Sys2Proof.Machine.execTthInt m s
  | .timeSend us => Sys2Proof.Machine.execTimeSend us s
  | .tthCntClr => Sys2Proof.Machine.execTthCntClr s
  | .pciCntClr => Sys2Proof.Machine.execPciCntClr s
  | .lcAdvance sig brace otp => Sys2Proof.Machine.execLcAdvance sig brace otp s
  | .keyProgram sig brace otp => Sys2Proof.Machine.execKeyProgram sig brace otp s
  | .keyRevoke sig brace otp => Sys2Proof.Machine.execKeyRevoke sig brace otp s
  | .packdown => Sys2Proof.Machine.execPackdown s
  | .packdownSliceEnd pass => Sys2Proof.Machine.execPackdownSliceEnd pass s
  | .holdRelease => Sys2Proof.Machine.execHoldRelease s
  | .engineStart => Sys2Proof.Machine.execEngineStart s
  | .engineDone => Sys2Proof.Machine.execEngineDone s
  | .secCntClr => Sys2Proof.Machine.execSecCntClr s
  | .tstCntClr => Sys2Proof.Machine.execTstCntClr s
  | .registerRead x0 a size wrong e => Sys2Proof.Machine.execRegisterRead x0 a size wrong e s
  | .perstNFall => Sys2Proof.Machine.execPerstNFall s
  | .txcSettleElapsed n us => Sys2Proof.Machine.execTxcSettleElapsed n us s
  | .fallbackCtleHold j peak => Sys2Proof.Machine.execFallbackCtleHold j peak s
  | .fastClocksRestart k us => Sys2Proof.Machine.execFastClocksRestart k us s
  | .jtagInstructionLoad x => Sys2Proof.Machine.execJtagInstructionLoad x s

end Sys2Proof.Machine
end

