-- ==== Sys2Proof/Machine/Tick.lean ====
section
/-! DEFINITION. The tick of powered time (R403): what one millisecond without a command changes. -/

namespace Sys2Proof.Machine

open Sys2Proof

/-- The powered-time counter advances, or stands still until the anchor's time has reached it (R403, R439). -/
def State.tickTime (s : State) : State :=
  if s.tth.ahead = 0 then { s with now := (s.now + 1) % timeMod }
  else { s with tth := { s.tth with ahead := s.tth.ahead - 1 } }

/-- A running watchdog counts the millisecond (R339). -/
def State.tickWdt (s : State) : State :=
  match s.boot.wdt with
  | some t => { s with boot := { s.boot with wdt := some (t + 1) } }
  | none => s

/-- WDR_RUN counts the WDRs of the latest 60,000 ms of powered time (R339). -/
def State.tickWdrs (s : State) : State :=
  let ts := s.pwr.wdrs.filter (fun t => decide (s.since t ≤ 60000))
  if ts = s.pwr.wdrs then s else (s.setPwr (fun p => { p with wdrs := ts })).set CFG.RST_CNT_WDR_RUN ts.length

/-- Bridle cycles pass (R482, R405): their number is a free value. PMU_CYCLE holds them back during a freeze (R408). -/
def State.tickCycles (s : State) : State :=
  let n := Config.clockEvents 0 0 s.fresh
  let t := s.set STR.CYCLE_STR_CYCLE (s.get STR.CYCLE_STR_CYCLE + n)
  if t.flag PMU.CTRL_FREEZE then { t with str := { t.str with heldCycle := t.str.heldCycle + n } }
  else
    let c := t.get (PMU.CYCLE_CYCLE 0) + 2 ^ 32 * t.get (PMU.CYCLE_CYCLE 1) + n
    (t.set (PMU.CYCLE_CYCLE 0) c).set (PMU.CYCLE_CYCLE 1) (c / 2 ^ 32)

/-- PMCi gains what its clock or occupancy event has occurred in the meantime, short of a wrap: the wrap itself is the
command PMC_WRAP (R405). -/
def State.tickPmc (s : State) (i : Nat) : State :=
  let ev := s.get (PMU.PMC_EVENT i)
  if s.pmcCounts i ev (s.get (PMU.PMC_INST i)) && s.pmcTimed i then
    let thr := if (occMax ev).isSome then s.get (PMU.PMC_THRESH i) else 0
    let n := Config.clockEvents (ev / 64) (ev % 64 + 64 * s.get (PMU.PMC_INST i) + 4096 * thr) s.fresh
    if s.flag PMU.CTRL_FREEZE then { s with str := { s.str with held := s.str.held.set i (s.str.held.getD i 0 + n) } }
    else s.setPmc i (s.pmcCount i + n % (2 ^ 48 - s.pmcCount i))
  else s

/-- One millisecond of powered time passes; the domains' own clocks run in Doze and Run. -/
def State.tick (s : State) : State :=
  if s.pwr.dev = .off then s
  else
    let t := s.tickTime.tickWdt.tickWdrs
    if t.awake then (t.tickCycles.each (List.range 8) (fun i u => u.tickPmc i)).upsets.drew else t

end Sys2Proof.Machine
end

