-- ==== Sys2Proof/Safety.lean ====
section
/-! DEFINITION. What holds of the machine in every state a step can reach, and what a command never touches, in the terms the
statements use. -/

namespace Sys2Proof.Machine

open Sys2Proof

/-- The register store is in canonical form: each key once, keys rising. -/
def regsRising (l : List (Nat × Nat)) : Bool := (l.zip (l.drop 1)).all (fun p => decide (p.1.1 < p.2.1))

/-- What every step keeps: memory and flash in their canonical form, at most 8 entries in the merge buffer (R379), at most 64 words in
the Sonde FIFO (R248), a powered-time counter of 48 bits (R403), and the register store in its canonical form. -/
structure State.Inv (s : State) : Prop where
  memory : Memory.wf s.mem.cells = true
  merge : s.mem.merge.length ≤ 8
  fifo : s.snd.fifo.length ≤ 64
  time : s.now < 2 ^ 48
  regs : regsRising s.regs = true
  flash : Memory.wf s.flash = true

/-- `t` is a state that a command may lead to from `s`: the same device variant, the same queue, no free value drawn twice,
and what every step keeps is kept. -/
structure Keeps (s t : State) : Prop where
  variant : t.variant = s.variant
  pending : t.pending = s.pending
  fresh : s.fresh ≤ t.fresh
  inv : s.Inv → t.Inv

/-! ## What a command leaves -/

/-- `t` is `u` but for its registers; of the registers, those listed in `l` hold the values `l` gives, cut to their width as
every register write is (R12), and every other register holds what it holds in `s`. -/
structure Becomes (s : State) (l : List (Field × Nat)) (u t : State) : Prop where
  written : ∀ p ∈ l, t.get p.1 = p.2 % 2 ^ p.1.w
  others : ∀ f : Field, f.key ∉ l.map (fun p => p.1.key) → t.get f = s.get f
  rest : { t with regs := u.regs } = u

/-- Command `c` completes in `s`: `exec` answers a next state, which is `u` but for its registers, has in the registers of `l`
the values `l` gives, and every other register as in `s`. -/
def Runs (c : Instr) (s : State) (l : List (Field × Nat)) (u : State := s) : Prop :=
  ∃ t, exec c s = .next t ∧ Becomes s l u t

/-- As `Runs`, and the state so reached goes on through the shared operation `g` (an alarm, an event count, the judgement of a
port) to the next state that `exec` answers. -/
def RunsThen (c : Instr) (s : State) (l : List (Field × Nat)) (u : State) (g : State → State) : Prop :=
  ∃ t, exec c s = .next (g t) ∧ Becomes s l u t

/-- Command `c` completes in `s`, and the next state has `P`. -/
def Ends (c : Instr) (s : State) (P : State → Prop) : Prop := ∃ t, exec c s = .next t ∧ P t

/-- No register changed whose word lies outside the address range `p`. -/
def RegsKept (p : Nat → Bool) (s t : State) : Prop := ∀ f : Field, p f.addr = false → t.get f = s.get f

/-- No register changed but those of `l`. -/
def OnlyIn (l : List Field) (s t : State) : Prop := ∀ f : Field, f.key ∉ l.map Field.key → t.get f = s.get f

/-- The words of Streamer and PMU, where alarms, log records and counted events are written, and the event register. -/
def reportArea (a : Nat) : Bool := decide (0x40000 ≤ a ∧ a < 0x70000)

/-- The words of the line, host and kite lanes, of the ports, the bias DACs, the link statistics and CAL, of the pairs behind
them, and of the report area: what the commands of ports and lanes may write (Table 17-1). -/
def laneArea (a : Nat) : Bool :=
  reportArea a || decide (0x100000 ≤ a ∧ a < 0x1D0000) || decide (0x31000 ≤ a ∧ a < 0x31100) || decide (0x70000 ≤ a ∧ a < 0x80000) ||
    decide (0xB0000 ≤ a ∧ a < 0xC0000) || decide (0xD0000 ≤ a ∧ a < 0xE0000) || decide (2 ^ 32 ≤ a)

/-- One more in a counter that saturates. -/
def State.once (s : State) (f : Field) : Nat := min (s.get f + 1) (2 ^ f.w - 1)

/-- What the delivery of a good kite packet writes (R215, R221): its header word is `h`, the preamble's strength `strength`. -/
def State.delivered (s : State) (n : Lane) (h strength : Nat) : List (Field × Nat) :=
  [(KL.CNT1_RX_OK_CNT n, s.once (KL.CNT1_RX_OK_CNT n)), (KL.STATUS_RX_LOCK n, 0), (KL.STATUS_PARTNER_SEEN n, 1),
    (KL.RX_INFO_STRENGTH n, strengthShown strength), (KL.RX_INFO_TYPE n, hdrType h), (KL.PARTNER_INFO_LANE n, hdrLane h),
    (KL.PARTNER_INFO_STACK n, hdrStack h)]

/-- Spar is about to execute the word `w` (R267, R270, R272): it is powered and issuing, no event preempts it, `w` stands at its PC, and
user mode is not in the privileged region. -/
def State.sprAt (s : State) (w : Nat) : Bool := s.sprReady w && (!s.spr.user || decide (0x1000 ≤ s.spr.pc))

/-- Spar's PC past an instruction that is no taken branch, the loops in progress taken into account (R267). -/
def SprSt.goNext (r : SprSt) : SprSt :=
  { r.setLoops (loopNext r.pc r.loops).2 with pc := (loopNext r.pc r.loops).1 }

/-- The PC past such an instruction stays in the program memory. -/
def SprSt.inside (r : SprSt) : Bool := decide ((loopNext r.pc r.loops).1 < 0x4000)

/-- The words of the PMU, which counts what Spar issues, and the word of SPR_CNT. -/
def sparArea (a : Nat) : Bool := decide (0x60000 ≤ a ∧ a < 0x70000) || a == SPR.CNT_ECC_CNT.addr

/-- Command `c` is executed by Spar and takes its state to what `f` makes of it, but for the record of what the next instruction's
latency depends on (R269); a corrected fetch is counted (R262), and nothing else changes but what the PMU counts. -/
def SparDoes (c : Instr) (e : SprEcc) (s : State) (f : SprSt → SprSt) : Prop :=
  Ends c s (fun t => { t.spr with loaded := s.spr.loaded, macAge := s.spr.macAge } = f s.spr ∧
    t.get SPR.CNT_ECC_CNT = (if e = .corrected then s.once SPR.CNT_ECC_CNT else s.get SPR.CNT_ECC_CNT) ∧
    t.get SPR.CNT_FAULT_CNT = s.get SPR.CNT_FAULT_CNT ∧ RegsKept sparArea s t ∧
    { t with regs := s.regs, spr := s.spr, str := s.str, fresh := s.fresh } = s)

/-- The words in which an access leaves its record (Table 17-4), those of the PMU, and the word of PCI_CNT. -/
def busArea (a : Nat) : Bool :=
  decide (0x100 ≤ a ∧ a < 0x114) || decide (0x60000 ≤ a ∧ a < 0x70000) || a == PCI.CNT_CA_CNT.addr

/-- Access command `c` of initiator `i` to address `a`, of `n` bytes, completes with an error response of KIND `k` (R361, R362): the
fault is counted and recorded, a failed read of PCIe is a Completer Abort (R430), and nothing else changes but what the PMU
counts. -/
def AccessFails (c : Instr) (i : Initiator) (a k : Nat) (write : Bool) (n : Nat) (s : State) : Prop :=
  Ends c s (fun t => t.brd = { s.brd with resp := .error k } ∧ t.get GLB.BRD_CNT0_ACCESS_FAULT = s.once GLB.BRD_CNT0_ACCESS_FAULT ∧
    t.get GLB.BRD_CNT0_GUARD_FAULT = s.get GLB.BRD_CNT0_GUARD_FAULT ∧ t.get GLB.BRD_CNT1_PARITY_CNT = s.get GLB.BRD_CNT1_PARITY_CNT ∧
    t.get GLB.BRD_CNT1_TMO_CNT = (if k = 6 then s.once GLB.BRD_CNT1_TMO_CNT else s.get GLB.BRD_CNT1_TMO_CNT) ∧
    t.flag GLB.BRD_STATUS_ACCESS = true ∧ t.get GLB.BRD_STATUS_GUARD = s.get GLB.BRD_STATUS_GUARD ∧
    t.get GLB.BRD_STATUS_PARITY = s.get GLB.BRD_STATUS_PARITY ∧ t.get GLB.ACCESS_ADDR_ADDR = a % 2 ^ 32 ∧
    t.get GLB.ACCESS_INFO_INITIATOR = i.code ∧ t.get GLB.ACCESS_INFO_KIND = k ∧ t.flag GLB.ACCESS_INFO_WRITE = write ∧
    2 ^ t.get GLB.ACCESS_INFO_SIZE = n ∧ t.get PCI.CNT_EP_CNT = s.get PCI.CNT_EP_CNT ∧
    t.get PCI.CNT_CA_CNT = (if i = .pcie ∧ write = false then s.once PCI.CNT_CA_CNT else s.get PCI.CNT_CA_CNT) ∧
    RegsKept busArea s t ∧ { t with regs := s.regs, brd := s.brd, str := s.str, fresh := s.fresh } = s)

/-- Nothing but registers in the area `p`, Bridle's own state, and what the PMU counts differs. -/
def BusOnly (p : Nat → Bool) (s t : State) : Prop :=
  RegsKept (fun a => p a || decide (0x60000 ≤ a ∧ a < 0x70000)) s t ∧
    { t with regs := s.regs, brd := s.brd, str := s.str, fresh := s.fresh } = s

/-- The mailbox has closed the command in hand with completion code `comp` (R432), the response words `rsp` are given, and the
command waits no more. -/
def MbxClosed (comp : Nat) (rsp : List Nat) (s t : State) : Prop :=
  t.flag GLB.MBX_STATUS_BUSY = false ∧ t.flag GLB.MBX_STATUS_DONE = true ∧ t.get GLB.MBX_STATUS_COMP = comp ∧
    t.get GLB.MBX_STATUS_TAG = s.get GLB.MBX_CMD_TAG % 2 ^ 8 ∧ t.get GLB.MBX_STATUS_OWNER = s.get GLB.MBX_STATUS_OWNER ∧
    t.mbx.begun = false ∧ (∀ k : Fin 8, k.val < rsp.length → t.get (GLB.MBX_RSP_RSP k) = rsp.getD k 0 % 2 ^ 32)

/-- Nothing differs but the mailbox's own registers, those in the area `p`, and the mailbox's state. -/
def MbxOnly (p : Nat → Bool) (s t : State) : Prop :=
  RegsKept (fun a => p a || decide (0x204 ≤ a ∧ a < 0x210) || decide (0x230 ≤ a ∧ a < 0x250)) s t ∧
    { t with regs := s.regs, mbx := s.mbx, fresh := s.fresh } = s

/-- Registers cleared. -/
def zeroed (fs : List Field) : List (Field × Nat) := fs.map (fun f => (f, 0))

end Sys2Proof.Machine
end

