-- ==== Sys2Proof/Certificates/Slice0/Obligations.lean ====
section
/-!
DEFINITION. The statements for the provers. Most are conjunctions, one clause to a command or to a case of it: under hypotheses on state
and operands alone, `exec` answers a next state, and the clause says what it is (`Runs`, `Ends` and the like of `Safety.lean`).
-/

open Sys2Proof Sys2Proof.Machine

/-- A step runs the command at the front of the queue on the state with the queue's rest. -/
def Obligations.StepRunsFront : Prop :=
  ∀ (c : Instr) (r : List Instr) (s : State), step { s with pending := c :: r } = exec c { s with pending := r }

/-- THE IDLE STEP. With no command waiting, one millisecond of powered time passes. That an empty queue is a tick is the model's
choice (log entry 2), since the table has no row for one; what a tick does to the powered-time counter is R403's, and to the watchdog resets that count R339's.
That errors arise in memory at a tick is the model's choice (log entry 208). -/
def Obligations.IdleStepTicks : Prop :=
  (∀ (s : State), s.pending = [] → step s = .next s.tick) ∧
  (∀ (s : State), s.pwr.dev = .off → s.tick = s) ∧
  (∀ (s : State), s.pwr.dev ≠ .off → s.tth.ahead = 0 → s.tick.now = (s.now + 1) % 2 ^ 48) ∧
  (∀ (s : State), s.pwr.dev ≠ .off → s.tth.ahead ≠ 0 → s.tick.now = s.now ∧ s.tick.tth.ahead + 1 = s.tth.ahead) ∧
  (∀ (s : State), s.pwr.dev ≠ .off → s.tick.pwr.wdrs = s.pwr.wdrs.filter (fun t => decide (s.tick.since t ≤ 60000))) ∧
  (∀ (s : State), RegsKept (fun a => reportArea a || a == CFG.RST_CNT_WDR_RUN.addr) s s.tick ∧
    { s.tick with now := s.now, tth := s.tth, boot := s.boot, regs := s.regs, str := s.str, fresh := s.fresh, pwr := s.pwr, mem := s.mem } = s ∧
    { s.tick.pwr with wdrs := s.pwr.wdrs } = s.pwr ∧ { s.tick.mem with upset := s.mem.upset } = s.mem)

/-- Every command completes: in every state `exec` answers a next state. -/
def Obligations.EveryCommandCompletes : Prop := ∀ (c : Instr) (s : State), ∃ t, exec c s = .next t

/-- TIMING. R23: the loss of a transmit PLL's traffic reference puts it into holdover, shown in HOLDOVER and raised as
TIMING_HOLDOVER; the end of holdover moves it to REFCLK. R24: a slip is flagged and counted. R88: the place of a marker
group: the second of two groups found gives AM_LOCK, the third miss in succession takes it away, and in direction 0 the judgement of
the skew (R25) and of the port follows a group found. -/
def Obligations.TimingAndGearbox : Prop :=
  (∀ (n : Lane) (s : State), s.pllRef (.tx n) = .traffic →
    RunsThen (.referenceLoss (.tx n)) s
      [(LN.GBX_STATUS_HOLDOVER n, putBit (putBit (s.get (LN.GBX_STATUS_HOLDOVER n)) 0 true % 16) 1 false)]
      { s with txpll := vset s.txpll n .holdover } (fun t => t.alarm 0x03 n 0)) ∧
  (∀ (j : Host) (n : Lane) (s : State), s.pllRef (.ht j) = .traffic → s.lineOf j = some n →
    RunsThen (.referenceLoss (.ht j)) s
      [(LN.GBX_STATUS_HOLDOVER n, putBit (s.get (LN.GBX_STATUS_HOLDOVER n)) (if s.hostA n = j then 2 else 3) false)]
      { s with htpll := vset s.htpll j .holdover } (fun t => t.alarm 0x03 n 0)) ∧
  (∀ (n : Lane) (s : State), s.pllRef (.tx n) = .holdover →
    RunsThen (.holdoverExpiry (.tx n)) s
      [(LN.GBX_STATUS_HOLDOVER n, putBit (putBit (s.get (LN.GBX_STATUS_HOLDOVER n)) 0 false % 16) 1 true)]
      { s with txpll := vset s.txpll n .refclk }
      (fun t => if (t.lanePlls n).any (fun p => t.pllRef p == .holdover) then t else t.alarmEnd 0x03 n)) ∧
  (∀ (j : Host) (n : Lane) (s : State), s.pllRef (.ht j) = .holdover → s.lineOf j = some n →
    RunsThen (.holdoverExpiry (.ht j)) s
      [(LN.GBX_STATUS_HOLDOVER n, putBit (s.get (LN.GBX_STATUS_HOLDOVER n)) (if s.hostA n = j then 2 else 3) true)]
      { s with htpll := vset s.htpll j .refclk }
      (fun t => if (t.lanePlls n).any (fun p => t.pllRef p == .holdover) then t else t.alarmEnd 0x03 n)) ∧
  (∀ (n : Lane) (s : State),
    RunsThen (.gbxSlip n) s [(LN.GBX_STATUS_SLIP n, 1), (LN.GBX_STATUS_SLIP_CNT n, s.once (LN.GBX_STATUS_SLIP_CNT n))] s
      (fun t => t.each (s.hostsOf n) (fun j u => u.gearCentre j))) ∧
  (∀ (j : Host) (s : State), 204 ≤ (s.hl j).up.length →
    s.gearCentre j = s.setHl j (fun h => { h with up := h.up.drop (h.up.length - 204) })) ∧
  (∀ (j : Host) (d : Dir) (skew : Nat) (s : State), s.monRuns j d = true →
    exec (.amReceived j d skew) s = .next
      (let m := (s.hl j).kp4.get d
       if s.amFound j d = true then
         let t := (s.setKp4 j d (fun m => { m with found := m.found + 1, missed := 0 })).amLocate j d
         let u := if m.found = 0 then t else t.on (LST.KP4_STATUS_AM_LOCK j d)
         if d = 0 then (u.skewMeasure j skew).evalHost j else u
       else if m.missed = 2 ∧ s.flag (LST.KP4_STATUS_AM_LOCK j d) = true then
         ((s.off (LST.KP4_STATUS_AM_LOCK j d)).on (LST.KP4_STATUS_AM_LOSS j d)).setKp4 j d
           (fun m => { m with found := 0, missed := 0, since := none, words := [], loss := satInc 16 m.loss })
       else s.setKp4 j d (fun m => { m with found := 0, missed := m.missed + 1 })))

/-- LINE RECEIVE FRONT END (R36 to R40, R46, R48, R51, Table 02-5, Table 02-7): what each of its commands leaves, register for
register. `gainTo` is the gain step with its compensation release, `agcNext` the code of R36, `evalLane` the port's judgement. -/
def Obligations.ReceiveFrontEnd : Prop :=
  (∀ (n : Lane) (s : State), (s.ln n).power = .active →
    Runs (.grossOverload n) s [(LN.RX_STATUS_OVR_GROSS n, 1), (LN.RX_GROSS_CNT_GROSS_CNT n, s.once (LN.RX_GROSS_CNT_GROSS_CNT n)),
      (LN.RX_STATUS_DCR_BUSY n, 1)] (s.setCal n (fun c => { c with winDirty := true }))) ∧
  (∀ (n : Lane) (s : State),
    RunsThen (.dcrRecoveryEnd n) s [(LN.RX_STATUS_DCR_BUSY n, 0)] (s.setRx n (fun r => { r with handPend := false, abandPend := false }))
      (fun t => if (s.ln n).rx.abandPend = true then t.slotDrop n else t)) ∧
  (∀ (n : Lane) (s : State), Runs (.compReleaseEnd n) s (if (s.ln n).rx.comp = 0 then [(LN.AGC_STATUS_COMP_ACTIVE n, 0)] else [])) ∧
  (∀ (n : Lane) (us : Nat) (s : State), 1000 * s.get (LN.AGC_CFG_HOLDOFF n) ≤ us →
    Runs (.holdoffEnd n us) s [] (s.setRx n (fun r => { r with holdoff := false }))) ∧
  (∀ (n : Lane) (us : Nat) (s : State), us < 1000 * s.get (LN.AGC_CFG_HOLDOFF n) → Runs (.holdoffEnd n us) s []) ∧
  (∀ (n : Lane) (s : State),
    Runs (.ovrWindow n) s (if (s.ln n).rx.winCnt < 227 then [(LN.AGC_STATUS_AT_FLOOR n, 0)] else [])
      (s.setRx n (fun r => { r with winCnt := 0 }))) ∧
  (∀ (n : Lane) (s : State), (s.ln n).rx.backoffPend = true → s.flag (LN.AGC_STATUS_COMP_ACTIVE n) = false →
    (s.ln n).rx.gainWait = none → (s.ln n).rx.handNow = false →
    Runs (.ovrBackoff n) s
      ((if s.get (LN.AGC_STATUS_GAIN n) = 0 then [] else
          [(LN.AGC_STATUS_GAIN n, s.get (LN.AGC_STATUS_GAIN n) - 2), (LN.AGC_STATUS_COMP_ACTIVE n, 1)]) ++
        (if s.get (LN.AGC_STATUS_GAIN n) < 2 then [(LN.AGC_STATUS_AT_FLOOR n, 1)] else []) ++
        [(LN.AGC_STATUS_BACKOFF_CNT n, s.once (LN.AGC_STATUS_BACKOFF_CNT n))])
      ((s.setRx n (fun r => { r with backoffPend := false, winCnt := 0, stepAge := 0, holdoff := 0 < s.get (LN.AGC_CFG_HOLDOFF n) || r.holdoff,
                                     stepFrom := if s.get (LN.AGC_STATUS_GAIN n) = 0 then r.stepFrom else some (s.get (LN.AGC_STATUS_GAIN n))
                                     comp := match s.get (LN.AGC_STATUS_GAIN n) with | 0 => r.comp | 1 => 238 | _ => 482 })).setCal n
        (fun c => { c with winDirty := c.winDirty || decide (0 < s.get (LN.AGC_STATUS_GAIN n)) }))) ∧
  (∀ (n : Lane) (s : State), (s.ln n).rx.backoffPend = true → s.flag (LN.AGC_STATUS_COMP_ACTIVE n) = false →
    (s.ln n).rx.gainWait = none → (s.ln n).rx.handNow = true →
    Runs (.ovrBackoff n) s ((if s.get (LN.AGC_STATUS_GAIN n) < 2 then [(LN.AGC_STATUS_AT_FLOOR n, 1)] else []) ++
        [(LN.AGC_STATUS_BACKOFF_CNT n, s.once (LN.AGC_STATUS_BACKOFF_CNT n))])
      (s.setRx n (fun r => { r with backoffPend := false, winCnt := 0, stepAge := 0, holdoff := 0 < s.get (LN.AGC_CFG_HOLDOFF n) || r.holdoff,
                                     gainWait := if s.get (LN.AGC_STATUS_GAIN n) = 0 then none else some (s.get (LN.AGC_STATUS_GAIN n) - 2) }))) ∧
  (∀ (n : Lane) (i : Fin 65) (raw : BitVec 8) (s : State), s.slice n i = 1 → s.saturates n i raw.toInt = true →
    Runs (.sampleSaturation n i raw) s [(SLC.W5_SLC_OVR_CNT n i, s.once (SLC.W5_SLC_OVR_CNT n i))] s.drew) ∧
  (∀ (n : Lane) (i : Fin 65) (raw : BitVec 8) (s : State), s.slice n i = 0 → s.servingAt n (s.ln n).rx.pos = i → (raw = 127 ∨ raw = 128) →
    RunsThen (.sampleSaturation n i raw) s [(SLC.W5_SLC_OVR_CNT n i, s.once (SLC.W5_SLC_OVR_CNT n i)),
      (LN.RX_OVR_CNT_OVR_CNT n, s.once (LN.RX_OVR_CNT_OVR_CNT n)), (LN.RX_STATUS_OVR n, 1)] s
      (fun t =>
        let u := (t.countEvent 0x043 n 1).setRx n (fun r => { r with winCnt := r.winCnt + 1 })
        let v := if (u.ln n).rx.winCnt = 227 then u.rateExceeded n else u
        let x : Sample := ⟨if raw = 127 then 127 else -127, true, i⟩
        v.drew.setRx n (fun r => { r.blockTake x with hist := (x :: r.hist).take 1024, pos := (r.pos + 1) % 64 }))) ∧
  (∀ (n : Lane) (i : Fin 65) (raw : BitVec 8) (s : State), s.slice n i = 0 → s.servingAt n (s.ln n).rx.pos = i → s.saturates n i raw.toInt = false →
    Runs (.sampleSaturation n i raw) s [] (s.drew.setRx n (fun r =>
      { r.blockTake ⟨s.codeOf n i raw.toInt, false, i⟩ with
        hist := (⟨s.codeOf n i raw.toInt, false, i⟩ :: r.hist).take 1024, pos := (r.pos + 1) % 64 }))) ∧
  (∀ (n : Lane) (i : Fin 65) (raw : BitVec 8) (s : State), s.slice n i = 0 → s.servingAt n (s.ln n).rx.pos ≠ i →
    Runs (.sampleSaturation n i raw) s []) ∧
  (∀ (n : Lane) (sum cnt us : Nat) (s : State), (s.ln n).power = .active → (s.ln n).rx.block = some (sum, cnt) →
    exec (.agcBlock n us) s = .next
      (let t := (s.setRx n (fun r => { r with block := none })).losJudge n sum cnt
       let g := t.agcNext n sum cnt
       let pace := if 3 ≤ t.lstate n ∧ t.lstate n ≤ 6 then max 1 (t.get (LN.AGC_CFG_INTERVAL n)) ≤ us else 64 * 4096 ≤ (t.ln n).rx.stepAge
       (if pace ∧ t.agcFree n = true ∧ g ≠ t.get (LN.AGC_STATUS_GAIN n) then
          (t.gainTo n g).setRx n (fun r => { r with stepAge := r.blkCnt }) else t).evalLane n)) ∧
  (∀ (n : Lane) (us : Nat) (s : State), (s.ln n).rx.block = none → Runs (.agcBlock n us) s []) ∧
  (∀ (n : Lane) (s : State), s.awake = true → (s.lstate n = 1 ∨ s.lstate n = 2) →
    Runs (.agcRestart n) s [] (s.setRx n (fun r => { r with holdoff := false }))) ∧
  (∀ (n : Lane) (x : BitVec 12) (s : State), s.tapRuns n = true → (s.ln n).rx.tapCnt < 4095 →
    Runs (.ktapMean n [x]) s (if x = 2047 ∨ x = 2048 then [(LN.RX_STATUS_KTAP_OVR n, 1)] else [])
      (s.setRx n (fun r => { r with tapSum := r.tapSum + x.toInt, tapCnt := r.tapCnt + 1 }))) ∧
  (∀ (n : Lane) (x : BitVec 12) (s : State), s.tapRuns n = true → (s.ln n).rx.tapCnt = 4095 →
    Runs (.ktapMean n [x]) s ([(LN.KTAP_AVG_AVG n, (roundDiv ((s.ln n).rx.tapSum + x.toInt) 4096 % 4096).toNat), (LN.KTAP_AVG_VALID n, 1)] ++
      (if x = 2047 ∨ x = 2048 then [(LN.RX_STATUS_KTAP_OVR n, 1)] else [])) (s.setRx n (fun r => { r with tapSum := 0, tapCnt := 0 }))) ∧
  (∀ (n : Lane) (s : State), s.awake = true →
    Runs (.lnRxCntClr n) s (zeroed ([LN.RX_OVR_CNT_OVR_CNT n, LN.RX_GROSS_CNT_GROSS_CNT n, LN.AGC_STATUS_BACKOFF_CNT n,
      LN.EQ_CNT_GUARD_CNT n, LN.EQ_CNT_BOOST_CNT n] ++ (List.range 65).map (fun i => SLC.W5_SLC_OVR_CNT n i))))

/-- HOST RECEIVER (R88, R172, R181, Table 07-2, Table 07-6): signal detect against SD_LEVEL, CDR lock,
monitored codewords (RS(544,514) decoded for counting) and the counter clear. -/
def Obligations.HostReceiver : Prop :=
  (∀ (j : Host) (mv : BitVec 16) (s : State), s.sdLevel j ≤ mv.toNat → (s.hl j).power = .active → s.flag (HL.RX_STATUS_SD_NOW j) = false →
    s.get (HL.TRN_STATUS_STATE j) = 1 → (s.hl j).restart = false →
    RunsThen (.sdAssert j mv) s [(HL.RX_STATUS_SD_NOW j, 1)] s (fun t => t.enterTraining j)) ∧
  (∀ (j : Host) (mv : BitVec 16) (s : State), s.sdLevel j ≤ mv.toNat → (s.hl j).power = .active → s.flag (HL.RX_STATUS_SD_NOW j) = false →
    (s.get (HL.TRN_STATUS_STATE j) = 0 ∨ s.get (HL.TRN_STATUS_STATE j) = 2 ∨ s.get (HL.TRN_STATUS_STATE j) = 3) →
    Runs (.sdAssert j mv) s [(HL.RX_STATUS_SD_NOW j, 1)]) ∧
  (∀ (j : Host) (a : Nat) (mv : BitVec 16) (s : State), s.sdLevel j ≤ mv.toNat → (s.hl j).power = .active → s.flag (HL.RX_STATUS_SD_NOW j) = false →
    s.get (HL.TRN_STATUS_STATE j) = 4 → (s.hl j).sdLost = some a →
    RunsThen (.sdAssert j mv) s [(HL.RX_STATUS_SD_NOW j, 1)] (s.setHl j (fun h => { h with sdLost := none }))
      (fun t => if (s.hl j).trnEn = true ∧ s.get (HL.RX_CFG_RETRAIN_HOLD j) ≠ 0xFF ∧
            (s.get (HL.RX_CFG_RETRAIN_HOLD j) = 0 ∨ s.get (HL.RX_CFG_RETRAIN_HOLD j) < s.since a)
        then t.enterTraining j else t)) ∧
  (∀ (j : Host) (mv : BitVec 16) (s : State), 4 * mv.toNat < 3 * s.sdLevel j → s.flag (HL.RX_STATUS_SD_NOW j) = true → s.get (HL.TRN_STATUS_STATE j) = 4 →
    RunsThen (.sdDeassert j mv) s [(HL.RX_STATUS_SD_NOW j, 0), (HL.RX_STATUS_CDR_LOCK j, 0)] s
      (fun t =>
        let u := ((t.setHl j (fun h => { h with trnLock := false, part := [] })).amLose j 0).pllHostLost j
        ((u.on (HL.RX_STATUS_HOST_LOS j)).inc (HL.RX_CNT_LOS_CNT j)).setHl j (fun h => { h with sdLost := some s.now }))) ∧
  (∀ (j : Host) (mv : BitVec 16) (s : State), 4 * mv.toNat < 3 * s.sdLevel j → s.flag (HL.RX_STATUS_SD_NOW j) = true → s.get (HL.TRN_STATUS_STATE j) = 2 →
    RunsThen (.sdDeassert j mv) s [(HL.RX_STATUS_SD_NOW j, 0), (HL.RX_STATUS_CDR_LOCK j, 0)] s
      (fun t =>
        let u := ((t.setHl j (fun h => { h with trnLock := false, part := [] })).amLose j 0).pllHostLost j
        ((u.on (HL.TRN_STATUS_TRAIN_ABORT_SD j)).inc (HL.TRN_CNT_ABORT_SD_CNT j)).enterWaitSd j)) ∧
  (∀ (j : Host) (s : State), s.flag (HL.RX_STATUS_SD_NOW j) = true →
    RunsThen (.cdrLock j) s [(HL.RX_STATUS_CDR_LOCK j, 1)] s (fun t => t.pllHostClock j)) ∧
  (∀ (j : Host) (s : State), s.flag (HL.RX_STATUS_SD_NOW j) = true → s.flag (HL.RX_STATUS_CDR_LOCK j) = true →
    RunsThen (.cdrLoss j) s [(HL.RX_STATUS_CDR_LOCK j, 0), (HL.RX_STATUS_CDR_LOSS j, 1),
      (HL.RX_CNT_CDR_LOSS_CNT j, s.once (HL.RX_CNT_CDR_LOSS_CNT j))] s
      (fun t => ((t.setHl j (fun h => { h with trnLock := false, part := [] })).amLose j 0).pllHostLost j)) ∧
  (∀ (j : Host) (d : Dir) (w : List Nat) (s : State), s.monRuns j d = true → s.flag (LST.KP4_STATUS_AM_LOCK j d) = true →
    ((s.hl j).kp4.get d).words = [w] →
    s.kp4Count j d =
      (let t := s.setKp4 j d (fun m =>
         if 15 < rsErrors w then { m with words := [], total := satInc 48 m.total, uncorr := satInc 48 m.uncorr }
         else { m with words := [], total := satInc 48 m.total, sym := satAdd 48 m.sym (rsErrors w),
                       tail := m.tail.set (rsErrors w) (satInc 48 (m.tail.getD (rsErrors w) 0)) })
       if d = 1 ∨ rsErrors w = 0 then t else t.countEvent (if 15 < rsErrors w then 0x082 else 0x081) j 1)) ∧
  (∀ (j : Host) (xs : List (BitVec 6)) (s : State), (s.hl j).power = .active → s.hostCarries j = true →
    exec (.kp4Codeword j 0 xs) s = .next
      (let r := s.hostReceive j (xs.map BitVec.toInt)
       let ls := if s.flag (HL.TRN_STATUS_PRECODE_RX j) then unprecode (levelIndex ((s.hl j).dec.getD 0 (-3))) r.2 else r.2
       (r.1.gearTake j (grayUnmap ls)).kp4Count j 0)) ∧
  (∀ (j : Host) (xs : List (BitVec 6)) (s : State), (s.hl j).power = .off →
    exec (.kp4Codeword j 1 xs) s = .next ((s.kp4Count j 1).hostSend j)) ∧
  (∀ (j : Host) (s : State), s.awake = true →
    Runs (.hlCntClr j) s (zeroed [HL.RX_CNT_LOS_CNT j, HL.RX_CNT_CDR_LOSS_CNT j, HL.TRN_CNT_NO_PARTNER_CNT j,
      HL.TRN_CNT_ABORT_SD_CNT j, HL.TRN_CNT_FAIL_CNT j, HL.TRN_CNT_DONE_CNT j]))

/-- HOST TRANSMITTER (R174 to R177, Table 07-9): a two-word coefficient set takes effect whole or is discarded whole, a slew
step moves each coefficient and the amplitude by at most one code, and the source follows R177. -/
def Obligations.HostTransmitter : Prop :=
  (∀ (j : Host) (k : Fin 5) (w : Word) (w0 : Nat) (s : State), s.awake = true → assocFind (s.hl j).firstWord (k.val + 1) = some w0 →
    coefSetOk (coefsOfWords w0 w.toNat) = true → (k.val ≠ 0 ∨ s.get (HL.TRN_STATUS_STATE j) ≠ 3) →
    Runs (.presetWrite j k w) s ((List.range 6).map (fun i => (HL.TX_PRESET_C j k i, ucode 10 ((coefsOfWords w0 w.toNat).getD i 0))))
      (s.setHl j (fun h => { h with firstWord := assocDel h.firstWord (k.val + 1) }))) ∧
  (∀ (j : Host) (k : Fin 5) (w : Word) (w0 : Nat) (s : State), s.awake = true → assocFind (s.hl j).firstWord (k.val + 1) = some w0 →
    coefSetOk (coefsOfWords w0 w.toNat) = false →
    Runs (.presetWrite j k w) s [(HL.TX_STATUS_PRESET_REJ j, 1)]
      (s.setHl j (fun h => { h with firstWord := assocDel h.firstWord (k.val + 1) }))) ∧
  (∀ (j : Host) (w : Word) (w0 : Nat) (s : State), s.awake = true → assocFind (s.hl j).firstWord 0 = some w0 →
    coefSetOk (coefsOfWords w0 w.toNat) = true →
    RunsThen (.txManWrite j w) s ((List.range 6).map (fun i => (HL.TX_MAN_C j i, ucode 10 ((coefsOfWords w0 w.toNat).getD i 0))))
      (s.setHl j (fun h => { h with firstWord := assocDel h.firstWord 0 }))
      (fun t => if (s.hl j).trnEn = false then t.actTarget j (coefsOfWords w0 w.toNat) else t)) ∧
  (∀ (j : Host) (s : State), (s.hl j).power = .active → s.hostCarries j = true → (s.hl j).target.length = 6 →
    Runs (.txCoefSlewStep j false) s
      ((List.range 6).map (fun i => (HL.TX_ACT_C j i, ucode 10 (stepToward 1 (s.geti (HL.TX_ACT_C j i)) ((s.hl j).target.getD i 0)))) ++
        [(HL.TX_STATUS_SLEWING j, (((s.actCoefs j).zip (s.hl j).target).map (fun p => stepToward 1 p.1 p.2) != (s.hl j).target).toNat)])) ∧
  (∀ (j : Host) (amp : Bool) (s : State), (s.hl j).power ≠ .active ∨ s.hostCarries j = false → Runs (.txCoefSlewStep j amp) s []) ∧
  (∀ (j : Host) (s : State), (s.hl j).power = .active → s.hostCarries j = true →
    Runs (.txCoefSlewStep j true) s []
      (s.setHl j (fun h => { h with amp := (stepToward 1 h.amp (s.get (HL.TX_CTRL_AMP j))).toNat }))) ∧
  (∀ (j : Host) (s : State), (s.hl j).power = .active →
    Runs (.txSourceChange j) s [(HL.TX_STATUS_SOURCE j,
      let st := s.get (HL.TRN_STATUS_STATE j)
      if st = 1 ∨ st = 2 ∨ (s.hl j).offer = true then 0
      else if s.flag (PRBS.CTRL_GEN_EN (PrbsLane.host j).base) then 3
      else if s.deframed j then 1 else 2)]) ∧
  (∀ (j : Host) (us : Nat) (s : State), s.mayOffer j = true → 1000 * max 10 (s.get (HL.TRN_CFG_OFFER_INT j)) ≤ us →
    Runs (.offerStart j us) s [(HL.TX_STATUS_SOURCE j, 0)] (s.setHl j (fun h => { h with offer := true }))) ∧
  (∀ (j : Host) (us : Nat) (s : State), us < 1000 * max 10 (s.get (HL.TRN_CFG_OFFER_INT j)) → Runs (.offerStart j us) s []) ∧
  (∀ (j : Host) (us : Nat) (s : State), us < 1000 * max 1 (s.get (HL.TRN_CFG2_OFFER_WIN j)) → Runs (.offerEnd j us) s []) ∧
  (∀ (j : Host) (us : Nat) (s : State), (s.hl j).offer = true → (s.hl j).power = .active → s.get (HL.TRN_STATUS_STATE j) = 3 →
    1000 * max 1 (s.get (HL.TRN_CFG2_OFFER_WIN j)) ≤ us →
    Runs (.offerEnd j us) s [(HL.TX_STATUS_SOURCE j,
      if s.flag (PRBS.CTRL_GEN_EN (PrbsLane.host j).base) then 3 else if s.deframed j then 1 else 2)]
      (s.setHl j (fun h => { h with offer := false })))

/-- LINK TRAINING (R178 to R181, R169, Table 07-2): what each command leaves of the training state, its timers and counts; and
where the two restarts lead: WAIT_SD, or TRAINING from the initial preset. -/
def Obligations.LinkTraining : Prop :=
  (∀ (j : Host) (us : Nat) (s : State), us < 1000 * max 10 (s.get (HL.TRN_CFG_NO_PARTNER_TMO j)) → Runs (.noPartnerTmo j us) s []) ∧
  (∀ (j : Host) (us : Nat) (s : State), us < 10000 * max 1 (s.get (HL.TRN_CFG_TRAIN_MAX j)) → Runs (.trainMaxExpiry j us) s []) ∧
  (∀ (j : Host) (us : Nat) (s : State), (s.hl j).power = .active → s.get (HL.TRN_STATUS_STATE j) = 2 → (s.hl j).noTmo = true →
    1000 * max 10 (s.get (HL.TRN_CFG_NO_PARTNER_TMO j)) ≤ us →
    Runs (.noPartnerTmo j us) s
      ([(HL.TRN_STATUS_STATE j, 3), (HL.TRN_STATUS_LOCAL_READY j, 0), (HL.TRN_STATUS_PARTNER_READY j, 0),
        (HL.TRN_STATUS_TRAIN_NO_PARTNER j, 1), (HL.TRN_CNT_NO_PARTNER_CNT j, s.once (HL.TRN_CNT_NO_PARTNER_CNT j)),
        (HL.TX_STATUS_SLEWING j, 0),
        (HL.TX_STATUS_SOURCE j, if s.flag (PRBS.CTRL_GEN_EN (PrbsLane.host j).base) then 3 else if s.deframed j then 1 else 2)] ++
        (List.range 6).map (fun i => (HL.TX_ACT_C j i, s.get (HL.TX_PRESET_C j 0 i))))
      (s.setHl j (fun h => { h with noTmo := false, readyHold := false, firstAns := none, reqs := 0, offer := false,
                                    restart := false, ctleHeld := false, search := {}, ask := none,
                                    target := s.setCoefs j 1 }))) ∧
  (∀ (j : Host) (ctle : Fin 16) (a : Nat) (s : State), (s.hl j).power = .active → s.get (HL.TRN_STATUS_STATE j) = 2 → (s.hl j).readyHold = true →
    (s.hl j).firstAns = some a →
    Runs (.readyHoldEnd j ctle) s
      ([(HL.TRN_STATUS_STATE j, 4), (HL.TRN_STATUS_LOCAL_READY j, 0), (HL.TRN_STATUS_PARTNER_READY j, 0),
        (HL.TRN_STATUS_TRAIN_DONE j, 1), (HL.TRN_CNT_DONE_CNT j, s.once (HL.TRN_CNT_DONE_CNT j)),
        (HL.TRN_TIME_LAST_DUR j, min 0xFFFF (s.since a)),
        (HL.TX_STATUS_SOURCE j, if s.flag (PRBS.CTRL_GEN_EN (PrbsLane.host j).base) then 3 else if s.deframed j then 1 else 2)] ++
        (if s.flag (HL.RX_CTRL_CTLE_AUTO j) then [(HL.RX_STATUS_CTLE_EFF j, ctle.val)] else []))
      (s.setHl j (fun h => { h with noTmo := false, readyHold := false, firstAns := none, reqs := 0, offer := false,
                                    restart := false, ctleHeld := false, search := {}, ask := none, sdLost := none }))) ∧
  (∀ (j : Host) (us : Nat) (s : State), (s.hl j).power = .active → s.get (HL.TRN_STATUS_STATE j) = 2 → (s.hl j).firstAns.isSome = true →
    10000 * max 1 (s.get (HL.TRN_CFG_TRAIN_MAX j)) ≤ us →
    RunsThen (.trainMaxExpiry j us) s
      [(HL.TRN_STATUS_TRAIN_FAIL j, 1), (HL.TRN_CNT_FAIL_CNT j, s.once (HL.TRN_CNT_FAIL_CNT j))] s
      (fun t => (t.waitSd j).setHl j (fun h => { h with restart := true }))) ∧
  (∀ (j : Host) (s : State), (s.hl j).power = .active → s.get (HL.TRN_STATUS_STATE j) = 1 → (s.hl j).restart = true →
    RunsThen (.restartHoldoffEnd j) s [] (s.setHl j (fun h => { h with restart := false }))
      (fun t => if s.flag (HL.RX_STATUS_SD_NOW j) then t.enterTraining j else t)) ∧
  (∀ (j : Host) (s : State), s.awake = true → (s.hl j).power = .active → 2 ≤ s.get (HL.TRN_STATUS_STATE j) →
    s.flag (HL.TRN_CTRL_TRN_EN j) = true →
    RunsThen (.retrain j) s []
      (s.setHl j (fun h => { h with trnEn := true }))
      (fun t => if s.flag (HL.RX_STATUS_SD_NOW j) then (t.waitSd j).enterTraining j else t.waitSd j)) ∧
  (∀ (j : Host) (s : State), s.awake = true → (s.hl j).power = .active → 2 ≤ s.get (HL.TRN_STATUS_STATE j) →
    s.flag (HL.TRN_CTRL_TRN_EN j) = false →
    RunsThen (.retrain j) s [] (s.setHl j (fun h => { h with trnEn := false })) (fun t => t.enterStatic j)) ∧
  (∀ (j : Host) (s : State), s.flag (LST.KP4_STATUS_AM_LOCK j 0) = false → (s.hl j).offer = false → s.get (HL.TRN_CTRL_TX_INIT_PRESET j) = 1 →
    Becomes s
      ([(HL.TRN_STATUS_STATE j, 2), (HL.TRN_STATUS_LOCAL_READY j, 0), (HL.TRN_STATUS_PARTNER_READY j, 0),
        (HL.TRN_STATUS_PRECODE_RX j, 0), (HL.TRN_STATUS_PRECODE_TX j, 0), (HL.TX_STATUS_SLEWING j, 0), (HL.TX_STATUS_SOURCE j, 0)] ++
        (List.range 6).map (fun i => (HL.TX_ACT_C j i, s.get (HL.TX_PRESET_C j 0 i))) ++
        [(HL.RX_STATUS_CTLE_EFF j, if s.flag (HL.RX_CTRL_CTLE_AUTO j) then s.drawn 16 4 else s.get (HL.RX_CTRL_CTLE j))])
      (({ s with fresh := s.fresh + (s.flag (HL.RX_CTRL_CTLE_AUTO j)).toNat }.setKp4 j 0 (fun m => { m with found := 0, missed := 0, since := none, words := [] })).setHl j (fun h =>
        { h with noTmo := true, readyHold := false, firstAns := none, reqs := 0, offer := false, restart := false,
                 ctleHeld := false, target := s.setCoefs j 1, search := {}, ask := none, amp := s.get (HL.TX_CTRL_AMP j),
                 rxInv := s.flag (HL.RX_CTRL_RX_INV j), rxPre := s.flag (HL.RX_CTRL_RX_PRECODE j),
                 txInv := s.flag (HL.TX_CTRL_TX_INV j), txPre := s.flag (HL.TX_CTRL_TX_PRECODE j) }))
      (s.enterTraining j)) ∧
  (∀ (j : Host) (ready confirm : Bool) (xs : List (BitVec 6)) (s : State), (s.hl j).power = .active →
    s.get (HL.TRN_STATUS_STATE j) = 2 → s.flag (HL.RX_STATUS_CDR_LOCK j) = true →
    exec (.trainingFrameReceived j ready confirm xs) s = .next ((s.hostReceive j (xs.map BitVec.toInt)).1.trnFrame j ready confirm)) ∧
  (∀ (j : Host) (ready confirm : Bool) (s : State), s.get (HL.TRN_STATUS_STATE j) = 2 → s.flag (HL.RX_STATUS_CDR_LOCK j) = true →
    (s.hl j).trnLock = false →
    Becomes s [] (s.setHl j (fun h => { h with trnLock := true })) (s.trnFrame j ready confirm)) ∧
  (∀ (j : Host) (ready confirm : Bool) (s : State), s.get (HL.TRN_STATUS_STATE j) = 2 → s.flag (HL.RX_STATUS_CDR_LOCK j) = true →
    (s.hl j).trnLock = true →
    let spent := decide (max 1 (s.get (HL.TRN_CFG2_MAX_REQ j)) ≤ (s.hl j).reqs)
    let old := s.flag (HL.TRN_STATUS_LOCAL_READY j)
    let r := (s.hl j).search.next (s.get (HL.RX_STATUS_MSE_EST j)) (s.get (HL.TRN_CTRL_REQ_INIT_PRESET j))
    let done := old || spent || r.2.isNone
    Becomes s
      ((if old then [] else [(HL.TRN_STATUS_LOCAL_READY j, done.toNat)]) ++ [(HL.TRN_STATUS_PARTNER_READY j, ready.toNat),
        (HL.TRN_STATUS_PRECODE_RX j, (confirm && s.flag (HL.TRN_CTRL_REQ_PRECODE j)).toNat)] ++
        (if s.flag (HL.RX_CTRL_CTLE_AUTO j) then [(HL.RX_STATUS_CTLE_EFF j, s.drawn 16 4)] else []))
      ({ s with fresh := s.fresh + (s.flag (HL.RX_CTRL_CTLE_AUTO j)).toNat }.setHl j (fun h =>
        { h with noTmo := false, readyHold := done && ready, firstAns := some (h.firstAns.getD s.now),
                 search := if old || spent then h.search else r.1,
                 ask := if old then h.ask else if spent then none else r.2,
                 reqs := if old || spent then h.reqs else h.reqs + r.2.toList.length }))
      (s.trnFrame j ready confirm)) ∧
  (∀ (preset mse : Nat) (q : TrnSearch), q.phase = .idle →
    q.next mse preset = ({ q with phase := .preset }, some (.preset (Fin.ofNat 8 preset)))) ∧
  (∀ (preset mse : Nat) (q : TrnSearch), q.phase = .up → mse < q.best →
    q.next mse preset = ({ q with best := mse, improved := true }, some (.inc (searchTap q.tap)))) ∧
  (∀ (preset mse : Nat) (q : TrnSearch), q.phase = .downUndo → q.tap = 4 → q.improved = false →
    (q.next mse preset).2 = none) ∧
  (∀ (j : Host) (i : Fin 6) (s : State), (s.hl j).power = .active → s.get (HL.TRN_STATUS_STATE j) = 2 → (s.hl j).trnLock = true →
    tapHi i < s.geti (HL.TX_ACT_C j i) + (max 1 (s.get (HL.TRN_CFG2_TRN_STEP j)) : Nat) →
    Runs (.trainingRequest j (.inc i)) s [] (s.setHl j (fun h => { h with answer := .limit }))) ∧
  (∀ (j : Host) (i : Fin 6) (s : State), (s.hl j).power = .active → s.get (HL.TRN_STATUS_STATE j) = 2 → (s.hl j).trnLock = true →
    s.geti (HL.TX_ACT_C j i) - (max 1 (s.get (HL.TRN_CFG2_TRN_STEP j)) : Nat) < tapLo i →
    Runs (.trainingRequest j (.dec i)) s [] (s.setHl j (fun h => { h with answer := .limit }))) ∧
  (∀ (j : Host) (k : Fin 8) (s : State), (s.hl j).power = .active → s.get (HL.TRN_STATUS_STATE j) = 2 → (s.hl j).trnLock = true → 1 ≤ k.val → k.val ≤ 5 →
    Runs (.trainingRequest j (.preset k)) s
      ((List.range 6).map (fun i => (HL.TX_ACT_C j i, s.get (HL.TX_PRESET_C j (k.val - 1) i))) ++ [(HL.TX_STATUS_SLEWING j, 0)])
      (s.setHl j (fun h => { h with target := s.setCoefs j k, answer := .updated }))) ∧
  (∀ (j : Host) (s : State), (s.hl j).power = .active → s.get (HL.TRN_STATUS_STATE j) = 2 → (s.hl j).trnLock = true →
    Runs (.trainingRequest j .precode) s [(HL.TRN_STATUS_PRECODE_TX j, 1)]
      (s.setHl j (fun h => { h with answer := .precoding }))) ∧
  (∀ (j : Host) (i : Fin 6) (s : State), (s.hl j).power = .active → s.get (HL.TRN_STATUS_STATE j) = 2 → (s.hl j).trnLock = true →
    Runs (.trainingRequest j (.hold i)) s [] (s.setHl j (fun h => { h with answer := .held }))) ∧
  (∀ (j : Host) (us : Nat) (s : State), (s.hl j).power ≠ .active → Runs (.noPartnerTmo j us) s []) ∧
  (∀ (j : Host) (ctle : Fin 16) (s : State), (s.hl j).power ≠ .active → Runs (.readyHoldEnd j ctle) s []) ∧
  (∀ (j : Host) (us : Nat) (s : State), (s.hl j).power ≠ .active → Runs (.trainMaxExpiry j us) s []) ∧
  (∀ (j : Host) (s : State), (s.hl j).power ≠ .active → Runs (.restartHoldoffEnd j) s []) ∧
  (∀ (j : Host) (r : TrnReq) (s : State), (s.hl j).power ≠ .active → Runs (.trainingRequest j r) s []) ∧
  (∀ (j : Host) (ready confirm : Bool) (xs : List (BitVec 6)) (s : State), (s.hl j).power ≠ .active → Runs (.trainingFrameReceived j ready confirm xs) s []) ∧
  (∀ (j : Host) (peak : Fin 16) (s : State), (s.hl j).power ≠ .active → Runs (.fallbackCtleHold j peak) s []) ∧
  (∀ (j : Host) (peak : Fin 16) (s : State), (s.hl j).power = .active → s.get (HL.TRN_STATUS_STATE j) = 3 → s.flag (HL.RX_CTRL_CTLE_AUTO j) = true →
    (s.hl j).ctleHeld = false →
    Runs (.fallbackCtleHold j peak) s [(HL.RX_STATUS_CTLE_EFF j, peak.val)] (s.setHl j (fun h => { h with ctleHeld := true })))

/-- PRBS (R184 to R188, Table 07-4): enabling a generator, or its refusal, and the checker's seeding, lock, counters and latch, and the
levels that a generator sends. -/
def Obligations.PrbsBlocks : Prop :=
  (∀ (l : PrbsLane) (s : State), s.awake = true → s.genRefused l = true →
    Runs (.genEn l) s [(PRBS.STATUS_GEN_REFUSED l.base, 1)]) ∧
  (∀ (n : Lane) (s : State), s.awake = true → carries (s.lstate n) = false →
    Runs (.genEn (.line n)) s [(PRBS.CTRL_GEN_EN (PrbsLane.line n).base, 1)]) ∧
  (∀ (j : Host) (s : State), s.awake = true → s.hstate j ≠ 5 → s.hstate j ≠ 6 →
    Runs (.genEn (.host j)) s [(PRBS.CTRL_GEN_EN (PrbsLane.host j).base, 1),
      (HL.TX_STATUS_SOURCE j, if s.get (HL.TRN_STATUS_STATE j) = 1 ∨ s.get (HL.TRN_STATUS_STATE j) = 2 ∨ (s.hl j).offer = true
        then 0 else 3)]) ∧
  (∀ (l : PrbsLane) (bs : List Bool) (s : State), s.flag (PRBS.CTRL_CHK_EN l.base) = true →
    let r := (bs.map (fun b => b != s.flag (PRBS.CTRL_CHK_INV l.base))).foldl (ChkRun.bit (s.get (PRBS.CTRL_CHK_PAT l.base))) ⟨s.prbs l, s.flag (PRBS.STATUS_CHK_LOCK l.base), 0, false⟩
    Runs (.chkLock l bs) s ([(PRBS.STATUS_CHK_LOCK l.base, r.lock.toNat)] ++ (if r.lost = 0 then [] else [(PRBS.STATUS_LOCK_LOSS l.base, 1),
      (PRBS.HOLD4_LOCK_LOSS_CNT l.base, min (s.get (PRBS.HOLD4_LOCK_LOSS_CNT l.base) + r.lost) 0xFFFF)]) ++ (if r.sat = true then [(PRBS.STATUS_SAT l.base, 1)] else [])) (s.setPrbs l (fun _ => r.p))) ∧
  (∀ (l : PrbsLane) (bs : List Bool) (s : State), s.flag (PRBS.CTRL_CHK_EN l.base) = true →
    let r := (bs.map (fun b => b != s.flag (PRBS.CTRL_CHK_INV l.base))).foldl (ChkRun.bit (s.get (PRBS.CTRL_CHK_PAT l.base))) ⟨s.prbs l, s.flag (PRBS.STATUS_CHK_LOCK l.base), 0, false⟩
    Runs (.chkLockLoss l bs) s ([(PRBS.STATUS_CHK_LOCK l.base, r.lock.toNat)] ++ (if r.lost = 0 then [] else [(PRBS.STATUS_LOCK_LOSS l.base, 1),
      (PRBS.HOLD4_LOCK_LOSS_CNT l.base, min (s.get (PRBS.HOLD4_LOCK_LOSS_CNT l.base) + r.lost) 0xFFFF)]) ++ (if r.sat = true then [(PRBS.STATUS_SAT l.base, 1)] else [])) (s.setPrbs l (fun _ => r.p))) ∧
  (∀ (l : PrbsLane) (bs : List Bool) (s : State), s.flag (PRBS.CTRL_CHK_EN l.base) = false →
    Runs (.chkLock l bs) s []) ∧
  (∀ (l : PrbsLane) (bs : List Bool) (s : State), s.flag (PRBS.CTRL_CHK_EN l.base) = false → Runs (.chkLockLoss l bs) s []) ∧
  (∀ (pat : Nat) (r : ChkRun), r.lock = false → prbsLength pat ≤ r.p.chk.length → r.p.run = 1023 →
    (r.bit pat (prbsNext pat r.p.chk)).lock = true ∧ (r.bit pat (!prbsNext pat r.p.chk)).lock = false) ∧
  (∀ (pat : Nat) (r : ChkRun) (b : Bool), r.lock = false → r.p.run < 1023 →
    (r.bit pat b).lock = false ∧ (r.bit pat b).p.chk = (b :: r.p.chk).take 31 ∧
      (r.bit pat b).p.bits = r.p.bits ∧ (r.bit pat b).p.errs = r.p.errs) ∧
  (∀ (pat : Nat) (r : ChkRun) (b : Bool), r.lock = true → r.p.blkBits < 1023 → r.p.bits + 1 < 2 ^ 48 - 1 → r.p.errs + 1 < 2 ^ 48 - 1 →
    let miss := if b = prbsNext pat r.p.chk then 0 else 1
    r.bit pat b = { r with p := { r.p with chk := (prbsNext pat r.p.chk :: r.p.chk).take 31, bits := r.p.bits + 1, errs := r.p.errs + miss, blkBits := r.p.blkBits + 1, blkErrs := r.p.blkErrs + miss } }) ∧
  (∀ (pat : Nat) (r : ChkRun) (b : Bool), r.lock = true → r.p.blkBits = 1023 →
    let miss := if b = prbsNext pat r.p.chk then 0 else 1
    (64 ≤ r.p.blkErrs + miss → (r.bit pat b).lock = false ∧ (r.bit pat b).p.chk = [] ∧ (r.bit pat b).lost = r.lost + 1) ∧
      (r.p.blkErrs + miss < 64 → (r.bit pat b).lock = true ∧ (r.bit pat b).p.blkBits = 0 ∧ (r.bit pat b).p.blkErrs = 0 ∧ (r.bit pat b).lost = r.lost)) ∧
  (∀ (l : PrbsLane) (bs : List Bool) (s : State), s.awake = true → (s.prbsFeed l bs).prbs l = s.prbs l →
    RunsThen (.prbsLatch l bs) s [] (s.prbsFeed l bs) (fun t => t.prbsLatch l)) ∧
  (∀ (l : PrbsLane) (s : State), Becomes s [(PRBS.STATUS_HOLD_VALID l.base, 1),
      (PRBS.HOLD0_BITS_LO l.base, (s.prbs l).bits), (PRBS.HOLD1_BITS_HI l.base, (s.prbs l).bits / 2 ^ 32),
      (PRBS.HOLD2_ERRS_LO l.base, (s.prbs l).errs), (PRBS.HOLD3_ERRS_HI l.base, (s.prbs l).errs / 2 ^ 32)] s (s.prbsLatch l)) ∧
  (∀ (l : PrbsLane) (s : State), s.awake = true →
    Runs (.prbsClr l) s (zeroed [PRBS.STATUS_SAT l.base, PRBS.STATUS_HOLD_VALID l.base, PRBS.HOLD4_LOCK_LOSS_CNT l.base])
      (s.setPrbs l (fun p => { p with bits := 0, errs := 0 }))) ∧
  (∀ (l : PrbsLane) (s : State), s.awake = true → s.flag (PRBS.CTRL_GEN_EN l.base) = true →
    Runs (.prbsInject l) s [(PRBS.CMD_INJECT l.base, 1)] (s.setPrbs l (fun p => { p with inject := true }))) ∧
  (∀ (l : PrbsLane) (k : Nat) (s : State), s.get (PRBS.CTRL_GEN_PAT l.base) < 6 → (s.prbs l).inject = false →
    (s.genLevels l k).length = k ∧ s.genLevels l k = (prbsRun (s.get (PRBS.CTRL_GEN_PAT l.base)) k (s.prbs l).gen).1.map
      (fun b => if b = s.flag (PRBS.CTRL_GEN_INV l.base) then 0 else 3)) ∧
  (∀ (l : PrbsLane) (k : Nat) (s : State), (s.prbs l).inject = true →
    (s.genLevels l (k + 1)).tail = ((s.setPrbs l (fun p => { p with inject := false })).genLevels l (k + 1)).tail ∧
      (s.genLevels l (k + 1)).head? ≠ ((s.setPrbs l (fun p => { p with inject := false })).genLevels l (k + 1)).head? ∧
      ((s.genSent l (k + 1)).prbs l).inject = false ∧ (s.genSent l (k + 1)).get (PRBS.CMD_INJECT l.base) = 0)

/-- PORT BRING-UP (R193 to R199, Table 08-2, Table 08-4): UP set and cleared, the timeouts, and the entry to TRAFFIC. `portEval`
takes the level-triggered transitions of Table 08-2; `portAcquire` and `portLight` are the entries of R194. -/
def Obligations.PortBringUp : Prop :=
  (∀ (k : PortId) (s : State), s.awake = true → (s.pt k).defined = false →
    Runs (.upSet k) s []) ∧
  (∀ (k : PortId) (s : State), s.awake = true → (s.pt k).defined = true →
    RunsThen (.upSet k) s [(PORT.CTRL_UP k, 1)] { s with pwr := { s.pwr with laneStall := false } } (fun t => t.portEval k)) ∧
  (∀ (k : PortId) (s : State), s.awake = true → s.pstate k ≠ 0 →
    Ends (.upClear k) s (fun t => t.get (PORT.STATUS_STATE k) = 0 ∧ t.get (PORT.STATUS_DOWN_CAUSE k) = 1 ∧ t.get (PORT.CTRL_UP k) = 0 ∧
      t.get (PORT.CTRL_NAP k) = 0 ∧ t.get (PORT.STATUS_LOSHOLD_RUN k) = 0 ∧ RegsKept laneArea s t)) ∧
  (∀ (k : PortId) (s : State), exec (.autoRestart k) s = .next (s.portEval k)) ∧
  (∀ (k : PortId) (s : State), (s.pt k).defined = true → s.forceCause k = none → s.pstate k = 0 → s.mayLeave k = true → s.calDone k = true →
    RunsThen (.autoRestart k) s [] ((s.onLanes k (fun n t => t.setCal n (fun c => { c with ready := false }))).setPt k
        (fun p => { p with upAt := s.now, reached := false }))
      (fun t => ((t.portLight k).portStep k).portStep k)) ∧
  (∀ (k : PortId) (us : Nat) (s : State), us < 1000 * max 1 (s.get (PORT.CFG_ACQ_TMO k)) → Runs (.acqTmo k us) s []) ∧
  (∀ (k : PortId) (us : Nat) (s : State), us < 1000 * max 1 (s.get (PORT.CFG2_TRAIN_TMO k)) → Runs (.trainTmo k us) s []) ∧
  (∀ (k : PortId) (us : Nat) (s : State), us < 1000 * max 1 (s.get (PORT.CFG_PARTNER_TMO k)) → Runs (.partnerTmo k us) s []) ∧
  (∀ (k : PortId) (us : Nat) (s : State), us < 1000 * s.get (PORT.CFG_LOS_HOLD k) → Runs (.losHoldExpiry k us) s []) ∧
  (∀ (k : PortId) (us : Nat) (s : State), s.acqLate k = true → 1000 * max 1 (s.get (PORT.CFG_ACQ_TMO k)) ≤ us →
    RunsThen (.acqTmo k us) s [(PORT.STATUS_ACQ_FAIL k, 1), (PORT.CNT_ACQ_FAIL_CNT k, s.once (PORT.CNT_ACQ_FAIL_CNT k))] s
      (fun t => t.onLanes k (fun n u => u.seedRx n))) ∧
  (∀ (k : PortId) (us : Nat) (s : State), s.pstate k = 3 → s.flag (PORT.STATUS_LOSHOLD_RUN k) = false →
    1000 * max 1 (s.get (PORT.CFG2_TRAIN_TMO k)) ≤ us →
    RunsThen (.trainTmo k us) s [(PORT.STATUS_OTRAIN_TMO k, 1)] s (fun t => t.portAcquire k)) ∧
  (∀ (k : PortId) (us : Nat) (s : State), s.flag (PORT.STATUS_LOSHOLD_RUN k) = true →
    Runs (.trainTmo k us) s []) ∧
  (∀ (k : PortId) (s : State), (s.pstate k = 4 ∨ s.pstate k = 6) → s.handshake k = true → s.hostGen k = false →
    s.flag (PORT.STATUS_LOSHOLD_RUN k) = false →
    RunsThen (.trafficEntry k) s [(PORT.STATUS_STATE k, 5),
      (EVT.PORT_CHG_PORT_CHG, putBit (s.get EVT.PORT_CHG_PORT_CHG) k true), (PORT.CNT_UP_CNT k, s.once (PORT.CNT_UP_CNT k))] s
      (fun t => ((t.portReached k).offersCut k).alarmEnd 0x04 k)) ∧
  (∀ (k : PortId) (us : Nat) (s : State), s.handshake k = false → 1000 * max 1 (s.get (PORT.CFG_PARTNER_TMO k)) ≤ us → s.pstate k = 4 → (s.pt k).retries < s.get (PORT.CFG_PARTNER_RETRY k) →
    RunsThen (.partnerTmo k us) s [(PORT.CNT_RETRY_CNT k, s.once (PORT.CNT_RETRY_CNT k))]
      (s.setPt k (fun p => { p with retries := p.retries + 1 })) (fun t => t.onLanes k (fun n u => if u.shakes n then u.helloSend n else u))) ∧
  (∀ (k : PortId) (us : Nat) (s : State), s.handshake k = false → 1000 * max 1 (s.get (PORT.CFG_PARTNER_TMO k)) ≤ us → s.pstate k = 4 → s.get (PORT.CFG_PARTNER_RETRY k) ≤ (s.pt k).retries →
    s.flag (PORT.STATUS_LOSHOLD_RUN k) = false →
    RunsThen (.partnerTmo k us) s [(PORT.STATUS_STATE k, 6), (PORT.STATUS_PARTNER_SILENT k, 1),
      (EVT.PORT_CHG_PORT_CHG, putBit (s.get EVT.PORT_CHG_PORT_CHG) k true)] s
      (fun t => ((t.alarm 0x04 k 0).portReached k).offersCut k)) ∧
  (∀ (k : PortId) (us : Nat) (s : State), s.handshake k = false → 1000 * max 1 (s.get (PORT.CFG_PARTNER_TMO k)) ≤ us → s.pstate k = 6 →
    exec (.partnerTmo k us) s = .next (s.onLanes k (fun n u => if u.shakes n then u.helloSend n else u))) ∧
  (∀ (k : PortId) (us : Nat) (s : State), s.flag (PORT.STATUS_LOSHOLD_RUN k) = true → s.anyLane k s.laneDark = true →
    1000 * s.get (PORT.CFG_LOS_HOLD k) ≤ us →
    exec (.losHoldExpiry k us) s = .next ((s.holdTrace k 2 0x10001).losDrop k)) ∧
  (∀ (k : PortId) (s : State), s.awake = true →
    Runs (.portCntClr k) s (zeroed [PORT.CNT_UP_CNT k, PORT.CNT_RETRY_CNT k, PORT.CNT_ACQ_FAIL_CNT k, PORT.CNT_LOS_DROP_CNT k]))

/-- NAP AND WAKE OF A PORT (R200 to R202, Table 08-3): the request, its commit, the wake and its end. -/
def Obligations.NapAndWake : Prop :=
  (∀ (k : PortId) (s : State), s.awake = true → (s.pt k).defined = true →
    RunsThen (.napRequest k) s [(PORT.CTRL_NAP k, 1)] s (fun t => t.napAsk k .bit)) ∧
  (∀ (k : PortId) (s : State), s.awake = true → (s.pt k).defined = false →
    Runs (.napRequest k) s []) ∧
  (∀ (k : PortId) (s : State), (s.pt k).napReq = true → s.braced = false →
    s.allLanes k (fun n => s.get (LN.TX_STATUS_AMP_STATE n) == 0) = true → s.pstate k ≠ 7 → s.pstate k < 8 →
    Ends (.napCommit k) s (fun t => t.get (PORT.STATUS_STATE k) = 7 ∧ t.get (PORT.STATUS_PRE_NAP k) = s.pstate k ∧
      t.get (PORT.STATUS_LOSHOLD_RUN k) = 0 ∧ (t.pt k).napReq = false ∧
      (∀ n ∈ s.lanesOf k, (t.ln n).power = .nap) ∧ (∀ n : Lane, n ∉ s.lanesOf k → (t.ln n).power = (s.ln n).power) ∧
      (∀ n ∈ s.lanesOf k, ∀ j ∈ s.hostsOf n, (s.hl j).power = .active → (t.hl j).power = .nap))) ∧
  (∀ (k : PortId) (s : State), (s.pt k).napReq = false → Runs (.napCommit k) s []) ∧
  (∀ (k : PortId) (s : State), s.awake = true → (s.pt k).defined = true → s.pstate k = 7 → (s.sleepReq (.nap k)).isSome = false →
    Ends (.wakeRequest k) s (fun t => t.get (PORT.CTRL_NAP k) = 0 ∧ t.get (PORT.STATUS_STATE k) = 2 ∧
      ((t.pt k).wake.any (fun w => !w.clocks &&
        w.fast == (decide (s.get (PORT.STATUS_PRE_NAP k) = 4 ∨ s.get (PORT.STATUS_PRE_NAP k) = 5 ∨ s.get (PORT.STATUS_PRE_NAP k) = 6) &&
          s.allLanes k s.napTempOk)) = true))) ∧
  (∀ (k : PortId) (us : Nat) (w : WakeSt) (s : State), (s.pt k).wake = some w → w.clocks = true → s.wakeFree k = true →
    s.get (PORT.STATUS_PRE_NAP k) ≠ s.pstate k →
    RunsThen (.wakeQualified k us) s [(PORT.STATUS_STATE k, s.get (PORT.STATUS_PRE_NAP k)), (PORT.TIME_LAST_WAKE_DUR k, min 0xFFFF us),
      (EVT.PORT_CHG_PORT_CHG, putBit (s.get EVT.PORT_CHG_PORT_CHG) k true)] (s.setPt k (fun p => { p with wake := none }))
      (fun t => (t.offersCut k).slewPending k)) ∧
  (∀ (k : PortId) (us run : Nat) (s : State), run < 1000 * max 1 (s.get (PORT.CFG2_WAKE_TMO k)) → Runs (.wakeTmo k us run) s []) ∧
  (∀ (k : PortId) (us run : Nat) (w : WakeSt) (s : State), (s.pt k).wake = some w → (w.fast = true ∨ (w.clocks = true ∧ s.locked k = true)) →
    1000 * max 1 (s.get (PORT.CFG2_WAKE_TMO k)) ≤ run →
    RunsThen (.wakeTmo k us run) s [(PORT.STATUS_WAKE_SLOW k, 1), (PORT.TIME_LAST_WAKE_DUR k, min 0xFFFF us)] s (fun t => t.portLight k)) ∧
  (∀ (k : PortId) (us : Nat) (s : State), (s.pt k).wake = some ⟨true, false⟩ → s.pstate k = 2 → s.forceCause k = none →
    Ends (.fastClocksRestart k us) s (fun t => t = (s.clocksRun k us).portEval k ∧
      ((s.clocksRun k us).pt k).wake = some ⟨true, true⟩ ∧ (∀ n ∈ s.lanesOf k, ((s.clocksRun k us).ln n).power = .active ∧
        ((s.clocksRun k us).ln n).tx.seqDemand = true ∧ ∀ j ∈ s.hostsOf n, (s.hl j).power = .nap → ((s.clocksRun k us).hl j).power = .active))) ∧
  (∀ (n : Lane) (us : Nat) (s : State), us < s.settleUs n → Runs (.txcSettleElapsed n us) s []) ∧
  (∀ (n : Lane) (k : PortId) (us : Nat) (s : State), (s.ln n).loc.hsDone = true → s.portOf n = some k →
    1000 * max 1 (s.get (PORT.CFG2_TXC_SETTLE k)) ≤ us →
    RunsThen (.txcSettleElapsed n us) s [] (s.setLoc n (fun l => { l with settled := true })) (fun t => t.evalLane n))

/-- FRAMING AND DECODING (R95, R96, R99, Table 04-5): codewords counted, frames and superframes gaining and losing lock, and the
1 ms window. `beat` is the adaptation that one codeword time brings whether or not it decodes (R74, R80, R81, R137). -/
def Obligations.FramingAndWindows : Prop :=
  (∀ (n : Lane) (i : Fin 85) (raw : List (BitVec 8)) (s : State), (s.ln n).power = .active →
    Ends (.innerCodeword n i raw) s (fun t => t =
      ((((((((s.takeRaw n raw).receive n i (raw.length - 64)).slewBeat n).rampBeat n).correctBeat n).compBeat n).gainBeat n).txBeat n).rampSettle n)) ∧
  (∀ (n : Lane) (i : Fin 85) (raw : List (BitVec 8)) (s : State), (s.ln n).power ≠ .active →
    Runs (.innerCodeword n i raw) s []) ∧
  (∀ (n : Lane) (i : Fin 85) (d : Decoded) (first : List Bool) (s : State),
    let flips := if d.ok then distance d.out first else 0
    s.codeword n i d first =
      (let t := ((s.setLoc n (fun l => { l with live := { l.live with total := satInc 64 l.live.total, corr := if d.corrected then satInc 64 l.live.corr else l.live.corr, fail := if d.ok then l.live.fail else satInc 64 l.live.fail, bits := satAdd 64 l.live.bits flips }, winBits := l.winBits + flips, winFail := l.winFail + (!d.ok).toNat, ref := reform l.scr i d.out, refOk := d.ok })).setEq n (fun e => { e with guardFails := e.guardFails + (!d.ok).toNat, guardBits := e.guardBits + flips, guardCw := e.guardCw + 1 })).setCal n (fun c => { c with winDirty := c.winDirty || !d.ok })
       let u := if d.ok then t else t.countEvent 0x042 n 1
       if d.corrected then u.countEvent 0x041 n 1 else u)) ∧
  (∀ (first : List Int) (second : Option (List Int)), deliver first second =
    if (chase first).ok = true ∧ second.any (fun l => !(chase l).ok) = true then chase first else chase (second.getD first)) ∧
  (∀ (n : Lane) (s : State), s.hunts n = true → s.flag (LN.FRM_STATUS_FRAME_LOCK n) = false →
    s.flag (PRBS.STATUS_CHK_LOCK (PrbsLane.line n).base) = false → 80 ≤ (s.ln n).loc.frmOk → (s.ln n).loc.good = 1 →
    RunsThen (.frameReceived n) s [(LN.FRM_STATUS_FRAME_LOCK n, 1)]
      ((s.setLoc n (fun l => { l with frmOk := 0, frmBad := 0, good := 0, bad := 0, mkGood := 0, mkBad := 0, winBits := 0, winFail := 0, winSinceLock := false, pads := [], sfAge := 0 })).setCal n (fun c => { c with winFrames := min 32 (c.winFrames + 1) }))
      (fun t => (t.each (s.hostsOf n) (fun j u => u.pllMove (.ht j) .traffic)).evalLane n)) ∧
  (∀ (n : Lane) (s : State), s.hunts n = true → s.flag (LN.FRM_STATUS_FRAME_LOCK n) = false →
    s.flag (PRBS.STATUS_CHK_LOCK (PrbsLane.line n).base) = true →
    RunsThen (.frameReceived n) s []
      ((s.setLoc n (fun l => { l with frmOk := 0, frmBad := 0, good := 0, sfAge := min 65 (l.sfAge + 1) })).setCal n (fun c => { c with winFrames := min 32 (c.winFrames + 1) }))
      (fun t => t.evalLane n)) ∧
  (∀ (n : Lane) (s : State), s.hunts n = true → s.flag (LN.FRM_STATUS_FRAME_LOCK n) = true → 42 < (s.ln n).loc.frmBad →
    (s.ln n).loc.bad = 3 →
    Ends (.frameReceived n) s (fun t =>
      let u := ((s.setLoc n (fun l => { l with frmOk := 0, frmBad := 0, sfAge := min 65 (l.sfAge + 1) })).setCal n (fun c => { c with winFrames := min 32 (c.winFrames + 1) })).frameLoss n
      t = u.evalLane n ∧ u.get (LN.FRM_STATUS_FRAME_LOCK n) = 0 ∧ u.get (LN.FRM_STATUS_SF_LOCK n) = 0 ∧ u.get (LN.FRM_STATUS_DEC_CLEAN n) = 0 ∧
      u.get (LN.FRM_STATUS_FRAME_LOSS n) = 1 ∧ (u.ln n).loc.live.frameLoss = satInc 16 (s.ln n).loc.live.frameLoss ∧
      (∀ j ∈ s.hostsOf n, u.get (LST.KP4_STATUS_AM_LOCK j 1) = 0))) ∧
  (∀ (n : Lane) (s : State), s.hunts n = true → s.flag (LN.FRM_STATUS_FRAME_LOCK n) = true → (s.ln n).loc.frmBad ≤ 42 →
    RunsThen (.frameReceived n) s []
      ((s.setLoc n (fun l => { l with frmOk := 0, frmBad := 0, bad := 0, sfAge := min 65 (l.sfAge + 1) })).setCal n (fun c => { c with winFrames := min 32 (c.winFrames + 1) }))
      (fun t => t.evalLane n)) ∧
  (∀ (n : Lane) (s : State), s.hunts n = true → s.flag (LN.FRM_STATUS_FRAME_LOCK n) = true → (s.ln n).loc.pads.length = 640 →
    s.flag (LN.FRM_STATUS_SF_LOCK n) = false → markerDistance (s.sfMark n) ≤ 4 → (s.ln n).loc.mkGood = 1 → (s.ln n).loc.sfAge = 64 →
    RunsThen (.superframeReceived n) s [(LN.FRM_STATUS_SF_LOCK n, 1)]
      ((s.setLoc n (fun l => { l with mkGood := 0, mkBad := 0, sfAge := 0 })).boostCount n) (fun t => (t.helloStart n).evalLane n)) ∧
  (∀ (n : Lane) (s : State), s.hunts n = true → s.flag (LN.FRM_STATUS_FRAME_LOCK n) = true → (s.ln n).loc.pads.length = 640 →
    s.flag (LN.FRM_STATUS_SF_LOCK n) = false → markerDistance (s.sfMark n) ≤ 4 → (s.ln n).loc.sfAge ≠ 64 →
    RunsThen (.superframeReceived n) s [] ((s.setLoc n (fun l => { l with mkGood := 1, sfAge := 0 })).boostCount n) (fun t => t.evalLane n)) ∧
  (∀ (n : Lane) (s : State), s.hunts n = true → s.flag (LN.FRM_STATUS_FRAME_LOCK n) = true → (s.ln n).loc.pads.length = 640 →
    s.flag (LN.FRM_STATUS_SF_LOCK n) = true → markerDistance (s.sfMark n) ≤ 4 → crc32 (s.sfPayload n) ≠ s.sfCrc n →
    RunsThen (.superframeReceived n) s [(LN.LOC_STATUS_CRC_ERR n, 1)]
      ((s.setLoc n (fun l => { l with mkBad := 0, sfAge := 0, live := { l.live with crcErr := satInc 32 l.live.crcErr } })).boostCount n) (fun t => t.evalLane n)) ∧
  (∀ (n : Lane) (s : State), s.flag (LN.FRM_STATUS_FRAME_LOCK n) = true → s.flag (LN.LOC_CTRL_STATS_EN n) = false →
    RunsThen (.decWindowEnd n) s [(LN.DEC_WIN0_BITERR_LAST n, min (s.ln n).loc.winBits (2 ^ 32 - 1)),
      (LN.DEC_WIN1_FAIL_LAST n, min (s.ln n).loc.winFail (2 ^ 32 - 1)), (LN.DEC_WIN2_WIN_CNT n, s.get (LN.DEC_WIN2_WIN_CNT n) + 1),
      (LN.FRM_STATUS_DEC_CLEAN n, ((s.ln n).loc.winFail == 0).toNat)]
      (s.setLoc n (fun l => { l with winBits := 0, winFail := 0, winSinceLock := true }))
      (fun t => (if (s.ln n).loc.winSinceLock = true then t else t.shedFirst n).portWindow n (s.ln n).loc.winFail)) ∧
  (∀ (n : Lane) (s : State), s.boostCount n = s.setEq n (fun e => { e with boostPend := e.boostPend.map (· - 1), boostLeft := e.boostLeft - 1 })) ∧
  (∀ (n : Lane) (s : State), s.shedFirst n = (s.ln n).eq.shedAsk.foldl (fun t _ => t.shedCheck n) s)

/-- THE LINE OVERHEAD CHANNEL, RECEIVED (R101, R102, R104, R105, R124 to R127, R195, Tables 04-2, 04-3): what an accepted message does; a tag
already acted on is only acknowledged again. `locAccept` adds the tag to the acknowledgements and the 16 remembered tags. -/
def Obligations.OverheadReceived : Prop :=
  (∀ (n : Lane) (tag lanes idx caps : Byte) (k : PortId) (s : State), s.flag (LN.FRM_STATUS_SF_LOCK n) = true →
    (s.ln n).loc.seen.contains tag.toNat = false → s.portOf n = some k → (s.pstate k = 3 ∨ s.pstate k = 4 ∨ s.pstate k = 6) →
    lanes.toNat = (s.pt k).lanes → idx.toNat = n.val - k.val →
    Ends (.locHello n tag lanes idx caps) s (fun t => t = (s.locAccept n tag.toNat).helloIn n false [lanes.toNat, idx.toNat, caps.toNat] ∧
      (t.ln n).loc.helloMatch = true ∧ (t.ln n).loc.caps = caps.toNat ∧ ((s.ln n).loc.helloAcked = true → (s.pstate k ≠ 4 ∧ s.pstate k ≠ 6) → (t.ln n).loc.hsDone = true) ∧
      t.get (PORT.STATUS_MISMATCH k) = s.get (PORT.STATUS_MISMATCH k))) ∧
  (∀ (n : Lane) (tag lanes idx caps : Byte) (k : PortId) (s : State), s.flag (LN.FRM_STATUS_SF_LOCK n) = true →
    (s.ln n).loc.seen.contains tag.toNat = false → s.portOf n = some k → 3 ≤ s.pstate k → s.pstate k ≤ 6 →
    lanes.toNat ≠ (s.pt k).lanes →
    RunsThen (.locHelloAck n tag lanes idx caps) s [(PORT.STATUS_MISMATCH k, 1)] (s.locAccept n tag.toNat) (fun t => t.alarm 0x05 k 0)) ∧
  (∀ (n : Lane) (tag lanes idx caps : Byte) (k : PortId) (s : State), s.flag (LN.FRM_STATUS_SF_LOCK n) = true →
    (s.ln n).loc.seen.contains tag.toNat = false → s.portOf n = some k → (s.pstate k = 3 ∨ s.pstate k = 4 ∨ s.pstate k = 6) →
    lanes.toNat = (s.pt k).lanes → idx.toNat = n.val - k.val →
    RunsThen (.locHelloAck n tag lanes idx caps) s [] (s.locAccept n tag.toNat)
      (fun t => ((t.alarmEnd 0x05 k).setLoc n (fun l => { l with helloMatch := true, caps := caps.toNat })).helloJudge n)) ∧
  (∀ (n : Lane) (tag lanes idx caps : Byte) (k : PortId) (s : State), s.flag (LN.FRM_STATUS_SF_LOCK n) = true →
    (s.ln n).loc.seen.contains tag.toNat = false → s.portOf n = some k → s.pstate k = 2 →
    Runs (.locHelloAck n tag lanes idx caps) s [] (s.locAccept n tag.toNat)) ∧
  (∀ (n : Lane) (tag : Byte) (items : List TxcItem) (s : State), s.flag (LN.FRM_STATUS_SF_LOCK n) = true →
    (s.ln n).loc.seen.contains tag.toNat = false → 1 ≤ items.length → items.length ≤ 6 →
    exec (.locTxcReq n tag items) s = .next ((s.locAccept n tag.toNat).txcRequest n tag.toNat items)) ∧
  (∀ (n : Lane) (tag : Nat) (items : List TxcItem) (s : State), (s.flag (LN.TX_CTRL_TXC_EN n) = false ∨ correctable (s.lstate n) = false) →
    Becomes s [(LN.TX_TXC_LAST_TAG n, tag), (LN.TX_TXC_LAST_RESULT n, 3), (LN.TX_TXC_LAST_ITEMS n, 0),
        (LN.TX_TXC_CNT1_REFUSED_CNT n, s.once (LN.TX_TXC_CNT1_REFUSED_CNT n))]
      ((s.setLoc n (fun l => { l with dones := assocPut (l.dones.filter (fun d => l.seen.contains d.1)) tag [tag, 3, 0] })).locPlain n 0x11 [tag, 3, 0])
      (s.txcRequest n tag items)) ∧
  (∀ (n : Lane) (tag : Nat) (items : List TxcItem) (s : State), s.flag (LN.TX_CTRL_TXC_EN n) = true → correctable (s.lstate n) = true →
    s.txcDeferred n = true →
    Becomes s [(LN.TX_TXC_LAST_TAG n, tag), (LN.TX_TXC_LAST_RESULT n, 2), (LN.TX_TXC_LAST_ITEMS n, 0),
        (LN.TX_TXC_CNT1_DEFERRED_CNT n, s.once (LN.TX_TXC_CNT1_DEFERRED_CNT n))]
      ((s.setLoc n (fun l => { l with dones := assocPut (l.dones.filter (fun d => l.seen.contains d.1)) tag [tag, 2, 0] })).locPlain n 0x11 [tag, 2, 0])
      (s.txcRequest n tag items)) ∧
  (∀ (n : Lane) (tag reqTag result applied : Byte) (s : State), s.flag (LN.FRM_STATUS_SF_LOCK n) = true →
    (s.ln n).loc.seen.contains tag.toNat = false → (s.ln n).tx.txcOut = some reqTag.toNat →
    Runs (.locTxcDone n tag reqTag result applied) s [] ((s.locAccept n tag.toNat).setTx n (fun x => { x with txcOut := none }))) ∧
  (∀ (n : Lane) (tag countdown stepId : Byte) (s : State), s.flag (LN.FRM_STATUS_SF_LOCK n) = true →
    (s.ln n).loc.seen.contains tag.toNat = false → 2 ≤ countdown.toNat → countdown.toNat ≤ 8 → (s.ln n).eq.lastStep ≠ some stepId.toNat →
    Runs (.locDaccalAnn n tag countdown stepId) s []
      ((s.locAccept n tag.toNat).setEq n (fun e => if s.flag (LN.EQ_STATUS_BOOST_ACTIVE n) = true then
        { e with lastStep := some stepId.toNat, boostLeft := if s.get (LN.EQ_STEP_BOOST_WIN n) = 0 then e.boostLeft
            else max e.boostLeft (countdown.toNat - 2 + s.get (LN.EQ_STEP_BOOST_WIN n)) }
        else { e with lastStep := some stepId.toNat, boostPend := some (countdown.toNat - 2) }))) ∧
  (∀ (n : Lane) (tag countdown stepId : Byte) (s : State), s.flag (LN.FRM_STATUS_SF_LOCK n) = true →
    (countdown.toNat = 0 ∨ 8 < countdown.toNat) →
    Runs (.locDaccalAnn n tag countdown stepId) s [(LN.LOC_STATUS_BAD_TYPE n, 1)]
      (s.setLoc n (fun l => { l with live := { l.live with badType := satInc 16 l.live.badType } }))) ∧
  (∀ (n : Lane) (tag : Byte) (duration : BitVec 16) (s : State), s.flag (LN.FRM_STATUS_SF_LOCK n) = true →
    (s.ln n).loc.seen.contains tag.toNat = false →
    Runs (.locFreezeReq n tag duration) s [] ((s.locAccept n tag.toNat).setEq n (fun e => { e with locFreeze := duration.toNat }))) ∧
  (∀ (n : Lane) (tag : Byte) (duration : BitVec 16) (s : State), s.flag (LN.FRM_STATUS_SF_LOCK n) = true →
    tag ≠ 0 → (s.ln n).loc.seen.contains tag.toNat = true →
    Runs (.locFreezeReq n tag duration) s [] (s.setLoc n (fun l => { l with acks := l.acks ++ [tag.toNat] }))) ∧
  (∀ (n : Lane) (tag : Byte) (body : List Nat) (s : State), s.flag (LN.FRM_STATUS_SF_LOCK n) = true →
    (s.ln n).loc.seen.contains tag.toNat = false →
    Runs (.locStats n tag body) s [] ((s.locAccept n tag.toNat).setLoc n (fun l => { l with peerStats := padTo 14 body }))) ∧
  (∀ (n : Lane) (tag : Byte) (body : List Nat) (s : State), s.flag (LN.FRM_STATUS_SF_LOCK n) = true →
    (s.ln n).loc.seen.contains tag.toNat = false →
    Runs (.locUser n tag body) s
      ((List.range 4).map (fun i => (LN.LOC_USER_RX_USER_RX n i, beVal (((padTo 14 body).drop (4 * i)).take 4))) ++
        [(LN.LOC_STATUS_USER_RX n, 1)] ++ (if s.flag (LN.LOC_STATUS_USER_RX n) then [(LN.LOC_STATUS_USER_OVW n, 1)] else []))
      (s.locAccept n tag.toNat)) ∧
  (∀ (n : Lane) (type tag : Byte) (s : State), s.flag (LN.FRM_STATUS_SF_LOCK n) = true → locKnown type.toNat = false → type ≠ 0 →
    Runs (.locReservedType n type tag) s [(LN.LOC_STATUS_BAD_TYPE n, 1)]
      (s.setLoc n (fun l => { l with live := { l.live with badType := satInc 16 l.live.badType } })))

/-- THE LINE OVERHEAD CHANNEL, SENT, AND THE SNAPSHOT (R102, R103, R107, R108, R127): retransmission and its end, the user message,
the superframe that is sent, and the copy of the live counters into the held ones. -/
def Obligations.OverheadSentAndSnapshot : Prop :=
  (∀ (n : Lane) (tag : Byte) (m : LocMsg) (s : State),
    (s.ln n).loc.txq.find? (fun x => x.tag == tag.toNat && !x.due && s.retxInt n ≤ x.age) = some m →
    m.tries < s.get (LN.LOC_CTRL_RETX_MAX n) →
    Runs (.locRetx n tag) s [] (s.setLoc n (fun l => { l with txq := l.txq.map (fun x =>
      if x.tag = tag.toNat then { x with due := true, age := 0, tries := x.tries + 1 } else x) }))) ∧
  (∀ (n : Lane) (tag : Byte) (m : LocMsg) (s : State),
    (s.ln n).loc.txq.find? (fun x => x.tag == tag.toNat && !x.due && s.retxInt n ≤ x.age) = some m →
    s.get (LN.LOC_CTRL_RETX_MAX n) ≤ m.tries → m.type ≠ 0x80 → m.type ≠ 0x10 → (s.ln n).loc.helloTag ≠ some m.tag →
    Runs (.locRetx n tag) s [(LN.LOC_STATUS_NOACK n, 1)]
      (s.setLoc n (fun l => { l with txq := l.txq.filter (fun x => x.tag != m.tag),
                                     live := { l.live with noack := satInc 16 l.live.noack } }))) ∧
  (∀ (n : Lane) (s : State), s.awake = true → s.flag (LN.LOC_CTRL_USER_ACK n) = false →
    let body := (List.range 3).flatMap (fun i => beBytes 4 (s.get (LN.LOC_USER_TX_USER_TX n i))) ++ beBytes 2 (s.get (LN.LOC_USER_TX_USER_TX n 3))
    Runs (.userSend n) s [(LN.LOC_USER_CMD_USER_SEND n, 1)] ((s.userDrop n).locPlain n 0x80 body)) ∧
  (∀ (n : Lane) (s : State), s.awake = true → s.flag (LN.LOC_CTRL_USER_ACK n) = true → (s.userDrop n).txqFull n = false →
    let body := (List.range 3).flatMap (fun i => beBytes 4 (s.get (LN.LOC_USER_TX_USER_TX n i))) ++ beBytes 2 (s.get (LN.LOC_USER_TX_USER_TX n 3))
    Runs (.userSend n) s [(LN.LOC_USER_CMD_USER_SEND n, 1)] ((s.userDrop n).setLoc n (fun l => { l with tagCnt := nextTag l.tagCnt, txq := l.txq ++ [{ tag := nextTag l.tagCnt, type := 0x80, body := body, due := true, age := 0, tries := 0 }] }))) ∧
  (∀ (n : Lane) (s : State), s.flag (PRBS.CTRL_GEN_EN (PrbsLane.line n).base) = true ∨ s.lstate n = 0 ∨ s.lstate n = 7 →
    RunsThen (.superframeSend n) s (if s.lstate n = 0 ∨ s.lstate n = 7 then [] else [(LN.TX_SINCE_TXC_SINCE_TXC n, min 0x10000 (s.get (LN.TX_SINCE_TXC_SINCE_TXC n) + 1))])
      (s.setCal n (fun c => { c with trimAge := min 65536 (c.trimAge + 1) })) (fun t => t.pdTry n)) ∧
  (∀ (n : Lane) (s : State), s.lstate n ≠ 0 → s.lstate n ≠ 7 → s.flag (PRBS.CTRL_GEN_EN (PrbsLane.line n).base) = false → (s.ln n).tx.dac = none → (s.ln n).tx.dacQueue = [] →
    let ms := s.sfChoice n
    let payload := s.sfHeader n ((s.ln n).loc.acks.getD 0 0) ((s.ln n).loc.acks.getD 1 0) ++ ms.flatMap slotBytes ++ List.replicate (16 * (4 - ms.length)) 0
    RunsThen (.superframeSend n) s
      ((if ms.any (fun m => m.type == 0x80 && m.tag == 0) then [(LN.LOC_USER_CMD_USER_SEND n, 0)] else []) ++ (if ms.any (fun m => m.type == 0x20) then [(LN.TX_DACCAL_COUNTDOWN n, (s.ln n).tx.dacNext)] else []) ++ [(LN.TX_SINCE_TXC_SINCE_TXC n, min 0x10000 (s.get (LN.TX_SINCE_TXC_SINCE_TXC n) + 1))])
      ((((s.sfSent n ms).setLoc n (fun l => { l with sent := payload ++ beBytes 4 (crc32 payload) })).setTx n (fun x => { x with cw := 0, frm := 0, dacNext := if ms.any (fun m => m.type == 0x20) then x.dacNext - 1 else x.dacNext })).setCal n (fun c => { c with trimAge := min 65536 (c.trimAge + 1) }))
      (fun t => t.pdTry n)) ∧
  (∀ (s : State), s.awake = true → s.flag LST.STATUS_SNAP_BUSY = false →
    Ends .snap s (fun t => t.get LST.STATUS_SNAP_BUSY = 1 ∧ t.get LST.CTRL_SNAP = 1 ∧ t.get LST.STATUS_SNAP_SEQ = (s.get LST.STATUS_SNAP_SEQ + 1) % 2 ^ LST.STATUS_SNAP_SEQ.w ∧
      t.get LST.SNAP_TIME0_TIME_LO = s.now % 2 ^ 32 ∧
      (∀ n : Lane, t.get (LST.CW_TOTAL_W n 0) = (s.ln n).loc.live.total % 2 ^ 32 ∧ t.get (LST.CW_TOTAL_W n 1) = (s.ln n).loc.live.total / 2 ^ 32 % 2 ^ 32 ∧
        t.get (LST.CW_FAIL_W n 0) = (s.ln n).loc.live.fail % 2 ^ 32 ∧ t.get (LST.SF_CRC_LOC_CRC_ERR n) = (s.ln n).loc.live.crcErr % 2 ^ 32 ∧
        (t.ln n).loc.live = if s.flag LST.CTRL_CLR_ON_SNAP then {} else (s.ln n).loc.live) ∧
      (∀ (j : Host) (d : Dir), t.get (LST.KP4_CW_TOTAL_W j d 0) = ((s.hl j).kp4.get d).total % 2 ^ 32 ∧
        t.get (LST.KP4_CW_UNCORR_W j d 0) = ((s.hl j).kp4.get d).uncorr % 2 ^ 32) ∧
      RegsKept (fun a => decide (0x70000 ≤ a ∧ a < 0x80000)) s t)) ∧
  (∀ (s : State), s.awake = true → s.flag LST.STATUS_SNAP_BUSY = true → Runs .snap s []) ∧
  (∀ (s : State), Runs .snapDone s [(LST.STATUS_SNAP_BUSY, 0), (LST.CTRL_SNAP, 0)])

/-- THE LINE TRANSMITTER (R116 to R121, Table 05-6): the SWAP and its refusal, the replacement of banks, the shadow load, swing and the
modulation ramp. -/
def Obligations.LineTransmitter : Prop :=
  (∀ (n : Lane) (s : State), s.awake = true → s.flag (LN.TX_STATUS_SWAP_PEND n) = false → magnitude (s.firOf n true) ≤ 256 →
    Runs (.swap n) s [(LN.TX_STATUS_SHADOW_DIRTY n, 0), (LN.TX_STATUS_SWAP_PEND n, 1), (LN.TX_CMD_SWAP n, 1),
      (LN.TX_STATUS_SLEWING n, (s.slews n).toNat)]) ∧
  (∀ (n : Lane) (s : State), s.awake = true → s.flag (LN.TX_STATUS_SWAP_PEND n) = false → 256 < magnitude (s.firOf n true) →
    Runs (.swap n) s [(LN.TX_STATUS_SWAP_REJ n, 1)]) ∧
  (∀ (n : Lane) (s : State), s.slews n = false → s.flag (LN.TX_STATUS_SWAP_PEND n) = true →
    Runs (.swapApply n) s
      ((List.range 9).map (fun i => (TXT.FIRA_C_ACT n i, s.get (TXT.FIRS_C_SHD n i))) ++
        (List.range 64).map (fun i => (TXT.PDA_E_ACT n i, s.get (TXT.PDS_E_SHD n i))) ++
        (List.range 4).map (fun i => (TXT.SKA_SK_ACT n i, s.get (TXT.SKS_SK_SHD n i))) ++
        zeroed [LN.TX_STATUS_SWAP_PEND n, LN.TX_STATUS_SLEWING n, LN.TX_CMD_SWAP n])) ∧
  (∀ (n : Lane) (s : State), s.slews n = true → s.flag (LN.TX_STATUS_SWAP_PEND n) = true →
    Ends (.swapSlewStep n) s (fun t =>
      (∀ i : Fin 9, t.geti (TXT.FIRA_C_ACT n i) = (firStep (s.maxFir n) (s.firOf n false) (s.firOf n true)).getD i 0) ∧
      (∀ i : Fin 64, t.geti (TXT.PDA_E_ACT n i) = stepToward (s.maxPd n) (s.geti (TXT.PDA_E_ACT n i)) (s.geti (TXT.PDS_E_SHD n i))) ∧
      (∀ i : Fin 4, t.geti (TXT.SKA_SK_ACT n i) = stepToward (s.maxSkew n) (s.geti (TXT.SKA_SK_ACT n i)) (s.geti (TXT.SKS_SK_SHD n i))) ∧
      t.get (LN.TX_STATUS_SWAP_PEND n) = (if t.bankArrived n then 0 else s.get (LN.TX_STATUS_SWAP_PEND n)) ∧
      { t with regs := s.regs } = s)) ∧
  (∀ (n : Lane) (s : State), s.awake = true → s.flag (LN.TX_STATUS_SWAP_PEND n) = false →
    Runs (.shadowLoad n) s
      ((List.range 9).map (fun i => (TXT.FIRS_C_SHD n i, s.get (TXT.FIRA_C_ACT n i))) ++
        (List.range 64).map (fun i => (TXT.PDS_E_SHD n i, s.get (TXT.PDA_E_ACT n i))) ++
        (List.range 4).map (fun i => (TXT.SKS_SK_SHD n i, s.get (TXT.SKA_SK_ACT n i))) ++ [(LN.TX_STATUS_SHADOW_DIRTY n, 0)])) ∧
  (∀ (n : Lane) (s : State), s.awake = true →
    Runs (.lnTxCntClr n) s (zeroed [LN.TX_TXC_CNT0_APPLIED_CNT n, LN.TX_TXC_CNT0_CLIPPED_CNT n, LN.TX_TXC_CNT1_DEFERRED_CNT n,
      LN.TX_TXC_CNT1_REFUSED_CNT n, LN.TX_CLIP_CNT_CLIP_CNT n, LN.TX_DACCAL_DACCAL_CNT n])) ∧
  (∀ (n : Lane) (s : State), s.slews n = true →
    Runs (.swingStep n) s [(LN.TX_STATUS_SWING_EFF n,
      if s.get (LN.TX_STATUS_SWING_EFF n) < s.get (LN.TX_CTRL_SWING n) then s.get (LN.TX_STATUS_SWING_EFF n) + 1
      else if s.get (LN.TX_CTRL_SWING n) < s.get (LN.TX_STATUS_SWING_EFF n) then s.get (LN.TX_STATUS_SWING_EFF n) - 1
      else s.get (LN.TX_CTRL_SWING n))]) ∧
  (∀ (n : Lane) (s : State), s.slews n = false → Runs (.swingStep n) s [(LN.TX_STATUS_SWING_EFF n, s.get (LN.TX_CTRL_SWING n))]) ∧
  (∀ (n : Lane) (beats : Nat) (s : State), (s.ln n).power = .active → s.get (LN.TX_STATUS_AMP_STATE n) = 1 → (s.ln n).tx.demand = true →
    4096 ≤ (s.ln n).tx.amp + beats → s.lstate n ≠ 0 →
    RunsThen (.ampRampComplete n beats) s [(LN.TX_STATUS_AMP_STATE n, 2)] (s.setTx n (fun x => { x with amp := 4096 }))
      (fun t => (t.resetGo n).evalLane n)) ∧
  (∀ (n : Lane) (beats : Nat) (s : State), (s.ln n).power = .active → s.get (LN.TX_STATUS_AMP_STATE n) = 3 → (s.ln n).tx.demand = false →
    (s.ln n).tx.amp ≤ beats → s.lstate n ≠ 0 →
    RunsThen (.ampRampComplete n beats) s [(LN.TX_STATUS_AMP_STATE n, 0)] (s.setTx n (fun x => { x with amp := 0 }))
      (fun t => (t.resetGo n).evalLane n)) ∧
  (∀ (n : Lane) (beats : Nat) (s : State), (s.ln n).power = .active → s.get (LN.TX_STATUS_AMP_STATE n) = 1 → (s.ln n).tx.demand = true →
    (s.ln n).tx.amp + beats < 4096 →
    Runs (.ampRampComplete n beats) s [] (s.setTx n (fun x => { x with amp := x.amp + beats }))) ∧
  (∀ (n : Lane) (beats : Nat) (s : State), (s.ln n).power = .active → s.get (LN.TX_STATUS_AMP_STATE n) = 3 → (s.ln n).tx.demand = false →
    beats < (s.ln n).tx.amp →
    Runs (.ampRampComplete n beats) s [] (s.setTx n (fun x => { x with amp := x.amp - beats })))

/-- TRANSMIT CORRECTIONS AND DAC STEPS (R124, R125, R127, R130): the request sent, the staged correction applied to both banks, a DAC step
requested and executed. -/
def Obligations.TransmitCorrections : Prop :=
  (∀ (n : Lane) (items : List TxcItem) (s : State), s.txcSends n = true → bit (s.ln n).loc.caps 0 = true → (s.ln n).tx.txcOut = none →
    s.txqFull n = false →
    Runs (.txcReqSend n items) s []
      ((s.setLoc n (fun l => { l with tagCnt := nextTag l.tagCnt, txq := l.txq ++ [{ tag := nextTag l.tagCnt, type := 0x10, body := txcBody items, due := true, age := 0, tries := 0 }] })).setTx n
        (fun x => { x with txcOut := some (nextTag (s.ln n).loc.tagCnt) }))) ∧
  (∀ (n : Lane) (tag result count : Nat) (t : Fin 9) (v : Int) (s : State), (s.ln n).tx.staged = some ⟨tag, result, count, [(0, t.val, v)]⟩ → result ≤ 1 →
    Runs (.txcApply n) s
      [(TXT.FIRA_C_ACT n t, ucode 10 v), (TXT.FIRS_C_SHD n t, ucode 10 v), (LN.TX_SINCE_TXC_SINCE_TXC n, 0), (LN.TX_TXC_LAST_TAG n, tag),
        (LN.TX_TXC_LAST_RESULT n, result), (LN.TX_TXC_LAST_ITEMS n, count),
        if result = 0 then (LN.TX_TXC_CNT0_APPLIED_CNT n, s.once (LN.TX_TXC_CNT0_APPLIED_CNT n))
        else (LN.TX_TXC_CNT0_CLIPPED_CNT n, s.once (LN.TX_TXC_CNT0_CLIPPED_CNT n))]
      (((s.setTx n (fun x => { x with staged := none })).setLoc n (fun l => { l with txcAge := 0, dones := assocPut (l.dones.filter (fun d => l.seen.contains d.1)) tag [tag, result, count] })).locPlain n 0x11 [tag, result, count])) ∧
  (∀ (n : Lane) (j : Fin 4) (g : BitVec 12) (o : BitVec 8) (s : State), s.get (LN.TX_STATUS_AMP_STATE n) = 0 →
    Runs (.daccalRequest n (.trim j g o)) s [(CAL.DTRIM_DGAIN n j, g.toNat), (CAL.DTRIM_DOFF n j, o.toNat)]) ∧
  (∀ (n : Lane) (d : DacStep) (s : State), s.get (LN.TX_STATUS_AMP_STATE n) ≠ 0 → (s.ln n).tx.dac = none → (s.ln n).tx.dacQueue = [] → s.dacHeld n = false →
    Runs (.daccalRequest n d) s [(LN.TX_DACCAL_STEP_ID n, s.get (LN.TX_DACCAL_STEP_ID n) + 1), (LN.TX_STATUS_DACCAL_BUSY n, 1)]
      (s.setTx n (fun x => { x with dac := some d, dacNext := 8, dacQueue := [] }))) ∧
  (∀ (n : Lane) (j : Fin 4) (g : BitVec 12) (o : BitVec 8) (s : State), (s.ln n).tx.dac = some (.trim j g o) → (s.ln n).tx.dacNext = 0 → (s.ln n).tx.dacQueue = [] →
    Runs (.daccalExecute n) s [(CAL.DTRIM_DGAIN n j, g.toNat), (CAL.DTRIM_DOFF n j, o.toNat),
      (LN.TX_DACCAL_DACCAL_CNT n, s.once (LN.TX_DACCAL_DACCAL_CNT n)), (LN.TX_STATUS_DACCAL_BUSY n, 0), (LN.TX_DACCAL_COUNTDOWN n, 0)]
      (s.setTx n (fun x => { x with dac := none, dacNext := 0 })))

/-- THE LINE EQUALISER (R73, R78, R79, R81 to R84, R105): the guard's window, the boost window, changes of the effective mode and the
check of a Ballast step. -/
def Obligations.LineEqualiser : Prop :=
  (∀ (n : Lane) (s : State), (s.ln n).eq.ramp = none → s.get (LN.EQ_GUARD_GUARD_FAIL n) ≠ 0 →
    s.get (LN.EQ_GUARD_GUARD_FAIL n) ≤ (s.ln n).eq.guardFails →
    Runs (.guardWindow n) s [(LN.EQ_EVENTS_GUARD_FREEZE n, 1), (LN.EQ_CNT_GUARD_CNT n, s.once (LN.EQ_CNT_GUARD_CNT n))]
      (s.setEq n (fun e => { e with guardFreeze := true, guardFails := 0, guardBits := 0, guardCw := 0 }))) ∧
  (∀ (n : Lane) (s : State), (s.ln n).eq.ramp = none →
    (s.get (LN.EQ_GUARD_GUARD_FAIL n) = 0 ∨ (s.ln n).eq.guardFails < s.get (LN.EQ_GUARD_GUARD_FAIL n)) →
    Runs (.guardWindow n) s []
      (s.setEq n (fun e => { e with guardFreeze := false, guardFails := 0, guardBits := 0, guardCw := 0 }))) ∧
  (∀ (n : Lane) (s : State), (s.ln n).eq.boostPend = some 0 → s.get (LN.EQ_STEP_BOOST_WIN n) ≠ 0 →
    Runs (.boostOpen n) s [(LN.EQ_STATUS_BOOST_ACTIVE n, 1), (LN.EQ_CNT_BOOST_CNT n, s.once (LN.EQ_CNT_BOOST_CNT n))]
      ((s.setEq n (fun e => { e with boostPend := none, boostLeft := s.get (LN.EQ_STEP_BOOST_WIN n) })).setCal n (fun c => { c with winDirty := true }))) ∧
  (∀ (n : Lane) (s : State), (s.ln n).eq.boostPend = some 0 → s.get (LN.EQ_STEP_BOOST_WIN n) = 0 →
    Runs (.boostOpen n) s [] (s.setEq n (fun e => { e with boostPend := none }))) ∧
  (∀ (n : Lane) (s : State), (s.ln n).eq.boostPend ≠ some 0 → Runs (.boostOpen n) s []) ∧
  (∀ (n : Lane) (s : State), (s.ln n).eq.boostLeft = 0 →
    Runs (.boostClose n) s [(LN.EQ_STATUS_BOOST_ACTIVE n, 0)]) ∧
  (∀ (n : Lane) (s : State), (s.ln n).eq.boostLeft ≠ 0 → Runs (.boostClose n) s []) ∧
  (∀ (n : Lane) (us : Nat) (s : State), 1536 * (s.ln n).eq.locFreeze ≤ 1000 * us →
    Runs (.locFreezeEnd n us) s [] (s.setEq n (fun e => { e with locFreeze := 0 }))) ∧
  (∀ (n : Lane) (us : Nat) (s : State), 1000 * us < 1536 * (s.ln n).eq.locFreeze →
    Runs (.locFreezeEnd n us) s []) ∧
  (∀ (n : Lane) (s : State), s.modeBusy n = false → s.modeNext n = some .pass → s.wantPasses n = true →
    Runs (.modeChange n) s [] (s.setEq n (fun e => { e with passStart := true }))) ∧
  (∀ (n : Lane) (s : State), s.modeBusy n = false → s.modeNext n = some .pass → s.wantPasses n = false →
    Runs (.modeChange n) s [(LN.EQ_STATUS_EFF_PASSES n, 0)]) ∧
  (∀ (n : Lane) (s : State), s.modeBusy n = false → s.modeNext n = some .states → s.want16 n = true →
    RunsThen (.modeChange n) s [(LN.EQ_STATUS_EFF_16 n, 1)] s (fun t => t.coefSet n coefH2 0)) ∧
  (∀ (n : Lane) (s : State), s.modeBusy n = false → s.modeNext n = some .volt → s.wantVolt n = false →
    Runs (.modeChange n) s [] (s.setEq n (fun e => { e with ramp := some { volt := true, ballast := s.bitOf (LN.EQ_STATUS_SHED_HELD n) 2, reverse := false, saved := voltCoefs.map (fun c => (c, s.geti (coefField n c))), beats := 0 } }))) ∧
  (∀ (n : Lane) (s : State), (s.ln n).eq.passStart = true →
    Runs (.preshedRampEnd n) s [(LN.EQ_STATUS_EFF_PASSES n, 1)] (s.setEq n (fun e => { e with passStart := false }))) ∧
  (∀ (n : Lane) (r : Ramp) (s : State), (s.ln n).eq.passStart = false → (s.ln n).eq.ramp = some r → s.rampDone n r = true → r.reverse = false →
    Runs (.preshedRampEnd n) s [if r.volt then (LN.EQ_STATUS_EFF_VOLT n, 0) else (LN.EQ_STATUS_EFF_16 n, 0)]
      (s.setEq n (fun e => { e with ramp := none }))) ∧
  (∀ (n : Lane) (rest : List ShedStep) (s : State), (s.ln n).eq.shedAsk = .volt :: rest →
    Runs (.shedCheck n) s [(LN.EQ_STATUS_SHED_HELD n, putBit (s.get (LN.EQ_STATUS_SHED_HELD n)) 2 true)]
      (s.setEq n (fun e => { e with shedAsk := rest, refused := e.refused.filter (· != .volt) }))) ∧
  (∀ (n : Lane) (step : ShedStep) (rest : List ShedStep) (s : State), (s.ln n).eq.shedAsk = step :: rest → step ≠ .volt → s.shedMatters n step = true →
    s.get (LN.EQ_GUARD_SHED_MARGIN n) ≠ 0 → (s.ln n).loc.winSinceLock = true →
    s.shedOver n step (s.get (LN.DEC_WIN0_BITERR_LAST n) + 4 * s.get (LN.DEC_WIN1_FAIL_LAST n)) 453336960 = true →
    Runs (.shedCheck n) s [(LN.EQ_EVENTS_SHED_UNSAFE n, 1), (PWR.BAL_CNT_SHED_REF_CNT, s.once PWR.BAL_CNT_SHED_REF_CNT)]
      (s.setEq n (fun e => { e with shedAsk := rest, refused := if e.refused.contains step then e.refused else e.refused ++ [step] })))

/-- CALIBRATION SLOTS (R44, R46, R143 to R147, R153, Table 02-1): the steps of a slot: the spare shadows, takes the position over, the slice is
measured at the reference, shadows again and serves. -/
def Obligations.CalibrationSlots : Prop :=
  (∀ (n : Lane) (k us : Nat) (rest : List Nat) (s : State), s.calRuns n = true → s.calToken n = true → 1000 * s.get CAL.TEMP_ROT_GAP ≤ us → (s.ln n).cal.phase = none → s.flag CAL.CTRL_BG_EN = true →
    s.flag (CAL.LANE_STATUS_REFRESH_PEND n) = false → s.get (CAL.LANE_STATUS_MODE n) ≠ 4 → s.runLeft n = k :: rest → s.flag (CAL.LANE_STATUS_SPARE_USED n) = false → k < 64 →
    RunsThen (.slotStart n us) s [(CAL.LANE_STATUS_MODE n, 3), (CAL.LANE_STATUS_SLOT n, k), (CAL.LANE_STATUS_SLOT_ACTIVE n, 1),
      (SLC.W0_STATE n 64, 1), (SLC.W0_POSITION n 64, k), (SLC.W0_POS_VALID n 64, 1)]
      ((s.accRestart n 64).setCal n (fun c => { c with applied := assocDel c.applied 64, phase := some .shadowIn, granted := false, slot := k }))
      (fun t => t.showLadder n)) ∧
  (∀ (n : Lane) (us : Nat) (s : State), (s.calRuns n = false ∨ s.calToken n = false ∨
    (s.get (CAL.LANE_STATUS_MODE n) ≠ 4 ∧ us < 1000 * s.get CAL.TEMP_ROT_GAP)) → Runs (.slotStart n us) s []) ∧
  (∀ (n : Lane) (s : State), (s.ln n).cal.phase = some .shadowIn → s.flag (LN.RX_STATUS_DCR_BUSY n) = false →
    (s.ln n).cal.slot ≠ 64 →
    let k := (s.ln n).cal.slot
    RunsThen (.spareHandover n) s [(SLC.W0_STATE n 64, 0), (SLC.W0_POSITION n 64, k), (SLC.W0_POS_VALID n 64, 1),
      (SLC.W0_STATE n k, 2), (SLC.W0_POSITION n k, 0), (SLC.W0_POS_VALID n k, 0)]
      (((s.accRestart n 64).accRestart n k).setCal n (fun c => { c with applied := assocDel c.applied k, phase := some .reference }))
      (fun t => (t.showLadder n).handMark n)) ∧
  (∀ (n : Lane) (s : State), (s.ln n).cal.phase = some .shadowIn → s.flag (LN.RX_STATUS_DCR_BUSY n) = true →
    Runs (.spareHandover n) s [] (s.setRx n (fun r => { r with handPend := true }))) ∧
  (∀ (n : Lane) (gain off skew bw : Int) (s : State), (s.ln n).cal.phase = some .reference → s.braced = false →
    (s.ln n).cal.slot ≠ 64 → s.slice n ((s.ln n).cal.slot) = 2 → s.sliceFrozen n ((s.ln n).cal.slot) = false →
    s.plausible 0 gain = true → s.plausible 1 off = true → s.plausible 2 skew = true → s.plausible 3 bw = true →
    let k := (s.ln n).cal.slot
    RunsThen (.referenceMeasureDone n gain off skew bw) s [(SLC.W1_GAIN n k, ucode 16 gain), (SLC.W2_OFFSET n k, ucode 16 off), (SLC.W3_SKEW n k, ucode 16 skew), (SLC.W4_BW n k, ucode 16 bw),
      (SLC.W0_STATE n k, 1), (SLC.W0_POSITION n k, k), (SLC.W0_POS_VALID n k, 1)]
      ((s.setCal n (fun c => { c with rej := assocDel (assocDel (assocDel (assocDel c.rej (8 * k)) (8 * k + 1)) (8 * k + 2)) (8 * k + 3), applied := assocDel c.applied k, phase := some .shadowOut })).accRestart n k)
      (fun t => t.showLadder n)) ∧
  (∀ (n : Lane) (s : State), (s.ln n).cal.phase = some .shadowOut → s.flag (LN.RX_STATUS_DCR_BUSY n) = false → (s.ln n).cal.slot ≠ 64 →
    let k := (s.ln n).cal.slot
    RunsThen (.sliceReturn n) s [(SLC.W0_STATE n k, 0), (SLC.W0_POSITION n k, k), (SLC.W0_POS_VALID n k, 1),
      (SLC.W0_STATE n 64, 3), (SLC.W0_POSITION n 64, 0), (SLC.W0_POS_VALID n 64, 0)]
      (((s.accRestart n k).accRestart n 64).setCal n (fun c => { c with applied := assocDel c.applied 64 }))
      (fun t => ((t.showLadder n).handMark n).slotEnd n)) ∧
  (∀ (n : Lane) (s : State), (s.runLeft n).filter (· != (s.ln n).cal.slot) = [] → s.get (CAL.LANE_STATUS_MODE n) ≠ 3 → (s.ln n).cal.todo = [(s.ln n).cal.slot] →
    Becomes s [(CAL.LANE_STATUS_SLOT_ACTIVE n, 0), (CAL.LANE_CNT0_ROT_CNT n, s.once (CAL.LANE_CNT0_ROT_CNT n))]
      (s.setCal n (fun c => { c with phase := none, todo := [], next := ((s.ln n).cal.slot + 1) % 65 })) (s.slotEnd n)) ∧
  (∀ (n : Lane) (s : State), (s.ln n).cal.phase = some .inService → s.braced = false → (s.ln n).cal.slotAcc.n = 0 →
    exec (.inserviceSlotEnd n) s = .next (s.slotEnd n)) ∧
  (∀ (n : Lane) (s : State), (s.ln n).cal.phase = some .inService → s.braced = false → (s.ln n).cal.slotAcc.n ≠ 0 →
    let i := s.server n ((s.ln n).cal.slot)
    let a := (s.ln n).cal.slotAcc
    let vs := ((s.refineRel n i (s.refineRaw n i a)).zip (List.range 4)).map (fun p => s.sliceGet n i p.2 + p.1)
    let t := (s.changeKeep n i (s.refineRaw n i a)).ladderStep n i (sgn a.sk)
    exec (.inserviceSlotEnd n) s = .next (((t.refResult n i vs).condemn n i).slotEnd n).drew) ∧
  (∀ (n : Lane) (i : Fin 65) (v : Int) (s : State), s.plausible 0 v = false →
    Becomes s [(CAL.LANE_CNT0_REJECT_CNT n, s.once (CAL.LANE_CNT0_REJECT_CNT n)), (CAL.LANE_EVENTS_REJECT n, 1), (CAL.LANE_LAST_REJ_SLICE n, i),
        (CAL.LANE_LAST_REJ_QTY n, 0), (CAL.LANE_LAST_REJ_RUN n, min 3 (s.rejRun n i 0 + 1))]
      (s.setCal n (fun c => { c with rej := assocPut c.rej (8 * i) (min 3 (s.rejRun n i 0 + 1)) })) (s.refResult n i [v])) ∧
  (∀ (n : Lane) (s : State), (s.ln n).rx.stepFrom = none →
    s.handMark n = s.setRx n (fun r => { r with handNow := true })) ∧
  (∀ (n : Lane) (h : Nat) (s : State), (s.ln n).rx.stepFrom = some h →
    Becomes s [(LN.AGC_STATUS_GAIN n, h), (LN.AGC_STATUS_COMP_ACTIVE n, 0)]
      (s.setRx n (fun r => { r with handNow := true, stepFrom := none, gainWait := some (s.get (LN.AGC_STATUS_GAIN n)), comp := 0 })) (s.handMark n))

/-- WINDOWS, REFINEMENT, STARTS AND REFRESHES (R135, R136, R139, R141, R142, R148 to R150, R153, R154, R157). -/
def Obligations.CalibrationRuns : Prop :=
  (∀ (n : Lane) (s : State), (s.ln n).power ≠ .active ∨ (s.ln n).cal.winFrames < s.winLength →
    Runs (.calWindowEnd n) s []) ∧
  (∀ (n : Lane) (s : State), (s.ln n).power = .active → s.winLength ≤ (s.ln n).cal.winFrames → s.windowOk n = false →
    RunsThen (.calWindowEnd n) s [(CAL.LANE_CNT1_DISQ_CNT n, s.once (CAL.LANE_CNT1_DISQ_CNT n))]
      (s.setCal n (fun c => { c with win := [], winFrames := 0, winDirty := !s.windowCond n })) (fun t => t.countEvent 0x044 n 1)) ∧
  (∀ (n : Lane) (s : State), (s.ln n).power = .active → s.winLength ≤ (s.ln n).cal.winFrames → s.windowOk n = true →
    let r := winRun ⟨(s.ln n).cal.hc, [], []⟩ (s.ln n).cal.win.reverse
    RunsThen (.calWindowEnd n) s [] (s.setCal n (fun c => { c with win := [], winFrames := 0, winDirty := false, hc := r.hc }))
      (fun t => r.taken.reverse.foldl (fun u x => u.sampleTake n x) t)) ∧
  (∀ (n : Lane) (x : Nat × SliceAcc) (s : State), s.flag CAL.CTRL_REFINE_EN = false → (s.ln n).cal.phase ≠ some .inService →
    s.sampleTake n x = s) ∧
  (∀ (n : Lane) (i : Fin 65) (a : SliceAcc) (s : State), s.flag CAL.CTRL_REFINE_EN = true → (s.ln n).cal.phase ≠ some .inService → s.slice n i = 0 →
    ((assocFind (s.ln n).cal.acc i).getD {}).n + a.n < s.refineN →
    s.sampleTake n (i, a) = s.setCal n (fun c => { c with acc := assocPut c.acc i (((assocFind c.acc i).getD {}).add a) })) ∧
  (∀ (n : Lane) (i : Fin 65) (raw : List Int) (s : State),
    s.changeKeep n i raw = s.setCal n (fun c => { c with changes := assocPut c.changes i ((raw.zip (List.range 4)).map (fun p =>
      if p.2 = 2 ∧ p.1 = 0 then ((assocFind (s.ln n).cal.changes i).getD []).getD 2 0 else p.1)) })) ∧
  (∀ (w : WinRun) (cur : WinSym) (after : List WinSym), cur.x.sat = true →
    w.sample cur after = { w with past := (cur.a :: w.past).take 12 }) ∧
  (∀ (w : WinRun) (cur : WinSym) (after : List WinSym), w.hc.length = 16 →
    ∀ k : Fin 16, ((w.sample cur after).hc.getD k 0 - w.hc.getD k 0).natAbs ≤ 4) ∧
  (∀ (n : Lane) (i : Fin 65) (a : SliceAcc) (s : State), assocFind (s.ln n).cal.acc i = some a → s.flag CAL.CTRL_REFINE_EN = true → s.slice n i = 0 → s.refineN ≤ a.n → s.braced = false →
    (s.ln n).cal.quiesced = false →
    Ends (.refineResult n i) s (fun t => t.fresh = s.fresh + 1 ∧ assocFind (t.ln n).cal.acc i = none ∧
      (t.ln n).cal.changes = ((s.changeKeep n i (s.refineRaw n i a)).ln n).cal.changes ∧
      (∀ q : Fin 4, t.sliceGet n i q =
        let d := (s.refineRel n i (s.refineRaw n i a)).getD q 0
        if s.sliceFrozen n i = false ∧ s.plausible q (s.sliceGet n i q + d) = true then s.sliceGet n i q + d else s.sliceGet n i q))) ∧
  (∀ (n : Lane) (j : Fin 4) (gain off : Int) (s : State), s.flag CAL.CTRL_DACBG_EN = true → s.calRuns n = true → (s.ln n).cal.dacStop = false → s.calToken n = true →
    (s.get (CAL.DTRIM_DGAIN n j) : Int) ≠ gain → (gain - s.get (CAL.DTRIM_DGAIN n j)).natAbs ≤ 4 → (off - s.geti (CAL.DTRIM_DOFF n j)).natAbs ≤ 4 →
    (gain - 0x800).natAbs ≤ min 0xCD (s.get CAL.LIMIT3_DGAIN_DEV) → off.natAbs ≤ min 0x7F (s.get CAL.LIMIT3_DOFF_LIM) →
    s.rejRun n (0x50 + j) 4 < 3 → s.rejRun n (0x50 + j) 5 < 3 → ((s.ln n).cal.dacCancelled = true ∨ max 0x40 (s.get CAL.REFINE_DAC_INT) ≤ (s.ln n).cal.trimAge) →
    RunsThen (.dacEstimateDone n j gain off) s []
      (s.setCal n (fun c => { c with rej := assocDel (assocDel c.rej (8 * (0x50 + j) + 4)) (8 * (0x50 + j) + 5), trimAge := 0, dacCancelled := false, granted := false }))
      (fun t => t.dacRequest n (.trim j (BitVec.ofInt 12 gain) (BitVec.ofInt 8 off)))) ∧
  (∀ (n : Lane) (slices : List (Fin 65 × List Int)) (trims : List (Fin 4 × Int × Int)) (skews : List (Fin 4 × Int)) (s : State), s.get (CAL.LANE_STATUS_MODE n) = 1 → s.braced = false →
    foregroundWhole (slices.map (fun p => (p.1.val, p.2))) (trims.map (fun p => (p.1.val, p.2))) (skews.map (fun p => (p.1.val, p.2))) = true →
    Ends (.foregroundCalDone n slices trims skews) s (fun t =>
      let u := s.foreground n (slices.map (fun p => (p.1.val, p.2))) (trims.map (fun p => (p.1.val, p.2))) (skews.map (fun p => (p.1.val, p.2)))
      t = u.startedEval n ∧ u.get (CAL.LANE_STATUS_MODE n) = 0 ∧ (u.ln n).cal.ready = true ∧ (u.ln n).cal.hc = List.replicate 16 0 ∧
      u.geti (CAL.LANE_LAST_T_LAST n) = sext 16 (ucode 16 (s.ln n).cal.runTemp) ∧ (∀ i : Fin 64, u.slice n i = 0 ∨ u.slice n i = 4))) ∧
  (∀ (n : Lane) (slices : List (Fin 65 × List Int)) (trims : List (Fin 4 × Int × Int)) (skews : List (Fin 4 × Int)) (s : State),
    foregroundWhole (slices.map (fun p => (p.1.val, p.2))) (trims.map (fun p => (p.1.val, p.2))) (skews.map (fun p => (p.1.val, p.2))) = false →
    exec (.foregroundCalDone n slices trims skews) s = .next (s.startedEval n)) ∧
  (∀ (n : Lane) (meas : List (Fin 65 × Int × Int)) (s : State), s.get (CAL.LANE_STATUS_MODE n) = 2 → s.braced = false →
    (List.range 65).all (fun i => meas.any (fun m => m.1.val == i && (m.2.2 - s.sliceGet n i 1).natAbs ≤ 64 && decide (200 * (m.2.1 - s.sliceGet n i 0).natAbs ≤ (s.sliceGet n i 0).natAbs))) = false →
    RunsThen (.seededStartDone n meas) s [(CAL.LANE_EVENTS_VERIFY_FAIL n, 1), (CAL.LANE_STATUS_MODE n, 1), (CAL.LANE_STATUS_SKEW_STEP n, 0)]
      (s.setCal n (fun c => { c with ladder := [], lastSign := [], runTemp := s.laneTemp n })) (fun t => t.startedEval n)) ∧
  (∀ (n : Lane) (meas : List (Fin 65 × Int × Int)) (s : State), s.get (CAL.LANE_STATUS_MODE n) = 2 → s.braced = false →
    (List.range 65).all (fun i => meas.any (fun m => m.1.val == i && (m.2.2 - s.sliceGet n i 1).natAbs ≤ 64 && decide (200 * (m.2.1 - s.sliceGet n i 0).natAbs ≤ (s.sliceGet n i 0).natAbs))) = true →
    Ends (.seededStartDone n meas) s (fun t =>
      let u := (s.calReady n).seti (CAL.LANE_LAST_T_LAST n) (s.ln n).cal.runTemp
      t = u.startedEval n ∧ u.get (CAL.LANE_STATUS_MODE n) = 0 ∧ (u.ln n).cal.ready = true ∧ (∀ i : Fin 64, u.slice n i = 0 ∨ u.slice n i = 4))) ∧
  (∀ (n : Lane) (s : State), s.flag (CAL.LANE_STATUS_REFRESH_PEND n) = true → s.get (CAL.LANE_STATUS_MODE n) ≠ 4 → (s.ln n).cal.phase = none → s.calRuns n = true → s.calToken n = true →
    RunsThen (.refreshStart n) s [(CAL.LANE_STATUS_MODE n, 4), (CAL.LANE_STATUS_SKEW_STEP n, 0)]
      (s.setCal n (fun c => { c with todo := runFrom c.next, runTemp := s.laneTemp n, ladder := [], lastSign := [] })) (fun t => t.interpolate n)) ∧
  (∀ (n : Lane) (s : State), s.get (CAL.LANE_STATUS_MODE n) = 4 → (s.ln n).cal.phase = none → s.runLeft n = [] →
    RunsThen (.refreshComplete n) s [(CAL.LANE_STATUS_REFRESH_PEND n, 0), (CAL.LANE_CNT1_REFRESH_CNT n, s.once (CAL.LANE_CNT1_REFRESH_CNT n)),
      (CAL.LANE_STATUS_MODE n, if s.flag CAL.CTRL_BG_EN then 3 else 0)] s
      (fun t => let u := t.runComplete n true; if s.flag CAL.CTRL_TEMP_EN && s.laneFast n then u.refreshAsk n else u)) ∧
  (∀ (n : Lane) (s : State), s.awake = true → Runs (.calRefresh n) s [(CAL.LANE_STATUS_REFRESH_PEND n, 1)]) ∧
  (∀ (n : Lane) (s : State), s.awake = true →
    Runs (.calCntClr n) s (zeroed [CAL.LANE_CNT0_REJECT_CNT n, CAL.LANE_CNT0_ROT_CNT n, CAL.LANE_CNT1_DISQ_CNT n, CAL.LANE_CNT1_REFRESH_CNT n]))

/-- THE TOKEN OF A PROTECTION PAIR (R160, R161): asked for, granted, returned and reclaimed; and how it travels along the tether. -/
def Obligations.ProtectionTokens : Prop :=
  (∀ (k m : PortId) (s : State), s.flag (CAL.PAIR_PAIRED k) = true → s.bitOf CAL.TOKEN_STATUS_HELD k = false → s.bitOf CAL.TOKEN_STATUS_WAITING k = false → s.pairMate k = some m →
    Runs (.tokenRequest k) s
      ([(CAL.TOKEN_STATUS_WAITING, putBit (s.get CAL.TOKEN_STATUS_WAITING) k true)] ++ (s.lanesOf k).map (fun (n : Lane) => (CAL.LANE_STATUS_TOKEN_WAIT n, 1)) ++
        (if s.bitOf CAL.TOKEN_STATUS_HELD m then [(CAL.TOKEN_CNT_WAIT_CNT, s.once CAL.TOKEN_CNT_WAIT_CNT)] else [])) s.sendNone) ∧
  (∀ (k : PortId) (s : State), s.grantable k = true → (s.lanesOf k).any (fun n => (s.ln n).cal.quiesced) = false →
    Runs (.tokenGrant k) s
      ([(CAL.TOKEN_STATUS_WAITING, putBit (s.get CAL.TOKEN_STATUS_WAITING) k false), (CAL.TOKEN_STATUS_HELD, putBit (s.get CAL.TOKEN_STATUS_HELD) k true)] ++
        (s.lanesOf k).map (fun (n : Lane) => (CAL.LANE_STATUS_TOKEN_WAIT n, 0)))
      ({ s.sendNone with tokens := assocPut s.tokens (s.get (CAL.PAIR_PAIR_ID k)) k.val }.each (s.lanesOf k)
        (fun n t => t.setCal n (fun c => { c with granted := true })))) ∧
  (∀ (k : PortId) (s : State), s.grantable k = true → (s.lanesOf k).any (fun n => (s.ln n).cal.quiesced) = true → s.bitOf CAL.TOKEN_STATUS_HELD k = false →
    RunsThen (.tokenGrant k) s
      ([(CAL.TOKEN_STATUS_WAITING, putBit (s.get CAL.TOKEN_STATUS_WAITING) k false)] ++
        (s.lanesOf k).map (fun (n : Lane) => (CAL.LANE_STATUS_TOKEN_WAIT n, 0)))
      { s.sendNone with tokens := assocPut s.tokens (s.get (CAL.PAIR_PAIR_ID k)) k.val } (fun t => t.tokenTell k 2)) ∧
  (∀ (k : PortId) (s : State), s.grantable k = false → Runs (.tokenGrant k) s []) ∧
  (∀ (k : PortId) (s : State), s.bitOf CAL.TOKEN_STATUS_HELD k = true →
    RunsThen (.tokenReturn k) s [(CAL.TOKEN_STATUS_HELD, putBit (s.get CAL.TOKEN_STATUS_HELD) k false)]
      (s.sendNone.each (s.lanesOf k) (fun n t => t.setCal n (fun c => { c with granted := false }))) (fun t => t.tokenTell k 2)) ∧
  (∀ (k : PortId) (s : State), s.bitOf CAL.TOKEN_STATUS_HELD k = true →
    RunsThen (.tokenExpiry k none) s ([(CAL.TOKEN_STATUS_HELD, putBit (s.get CAL.TOKEN_STATUS_HELD) k false)] ++
        (if (s.pairMate k).isSome = true ∨ s.variant = false ∨ s.flag TTH.STATUS_ROLE = true then [(CAL.TOKEN_CNT_EXPIRE_CNT, s.once CAL.TOKEN_CNT_EXPIRE_CNT)] else []))
      (s.each (s.lanesOf k) (fun n t => t.setCal n (fun c => { c with granted := false })))
      (fun t => t.each (s.lanesOf k) (fun n u => u.slotAbandon n))) ∧
  (∀ (k : PortId) (pair : Fin 64) (s : State), s.tth.remote.any (fun r => r.1 == pair.val && r.2.2) = true →
    RunsThen (.tokenExpiry k (some pair)) s [(CAL.TOKEN_CNT_EXPIRE_CNT, s.once CAL.TOKEN_CNT_EXPIRE_CNT)]
      (s.sendNone.setTth (fun t => { t with remote := t.remote.filter (fun r => !(r.1 == pair.val && r.2.2)) })) (fun t => t.remoteTry pair)) ∧
  (∀ (p : Fin 2) (member : Fin 4) (pair : Fin 64) (s : State), s.linkUp p = true → s.isAnchor = true → s.tth.remote.any (fun r => r.1 == pair.val && r.2.1 == member.val) = false →
    RunsThen (.tthToken p .request member pair) s []
      (s.sendNone.setTth (fun t => { t with remote := t.remote ++ [(pair.val, member.val, false)] })) (fun t => t.remoteTry pair)) ∧
  (∀ (p : Fin 2) (member : Fin 4) (pair : Fin 64) (s : State), s.linkUp p = true → s.isAnchor = true →
    RunsThen (.tthToken p .giveBack member pair) s []
      (s.sendNone.setTth (fun t => { t with remote := t.remote.filter (fun r => !(r.1 == pair.val && r.2.1 == member.val)) })) (fun t => t.remoteTry pair)) ∧
  (∀ (p : Fin 2) (member : Fin 4) (pair : Fin 64) (s : State), s.linkUp p = true → s.linkUp 0 = true → s.isAnchor = false →
    Runs (.tthToken p .request member pair) s [] (s.setTth (fun t => { t with sent := [(0, 4, [0, member.val, pair.val])] }))) ∧
  (∀ (p : Fin 2) (member : Fin 4) (pair : Fin 64) (k : PortId) (s : State), s.linkUp p = true → s.isAnchor = false → member.val = s.stackId →
    (List.finRange 8).find? (fun (k : PortId) => s.bitOf CAL.TOKEN_STATUS_WAITING k.val && s.get (CAL.PAIR_PAIR_ID k.val) == pair.val) = some k →
    exec (.tthToken p .grant member pair) s = .next ((s.sendNone.tokenGive k).tokenUnused k))

/-- THE TETHER (R434 to R440, Table 21-7): block lock, the LINK exchange and its loss, alarms, wakes, time and register accesses along the
chain, and the interrupt condition of a member. What a command sends stands in `TthSt.sent` as (port, TYPE, content). -/
def Obligations.TetherLinks : Prop :=
  (∀ (p : Fin 2) (hs : List (BitVec 2)) (s : State), s.tthRuns p = true → hdrsLock hs = false →
    Runs (.blockLock p hs) s [let f := if p = 0 then TTH.CNT1_UP_SYNC_ERR else TTH.CNT1_DOWN_SYNC_ERR; (f, min (s.get f + (hs.count 0 + hs.count 3)) (2 ^ f.w - 1))] s.sendNone) ∧
  (∀ (p : Fin 2) (hs : List (BitVec 2)) (s : State), s.tthRuns p = false → Runs (.blockLock p hs) s [] s.sendNone) ∧
  (∀ (p : Fin 2) (before after : List (BitVec 2)) (good : List Bool) (s : State), s.tthRuns p = true → good.length = 64 →
    Runs (.blockLock p (before ++ good.map (fun b => if b then 1 else 2) ++ after)) s
      [let f := if p = 0 then TTH.CNT1_UP_SYNC_ERR else TTH.CNT1_DOWN_SYNC_ERR; (f, min (s.get f + ((before ++ after).count 0 + (before ++ after).count 3)) (2 ^ f.w - 1))] ((s.setTp p (fun q => { q with lock := true })).setTth (fun t => { t with sent :=
      if (s.tp p).lock then [] else [(p.val, 1, [s.stackId, if s.linkUp (otherPort p) then (s.tp (otherPort p)).beyond else 0])] }))) ∧
  (∀ (p : Fin 2) (hs : List (BitVec 2)) (d : Nat) (s : State), s.tthRuns p = true → (s.tp p).lock = true → hs.length = 64 →
    hs.count 0 + hs.count 3 < 16 →
    Runs (.blockLockLoss p hs d) s [let f := if p = 0 then TTH.CNT1_UP_SYNC_ERR else TTH.CNT1_DOWN_SYNC_ERR; (f, min (s.get f + (hs.count 0 + hs.count 3) + d) (2 ^ f.w - 1))] s.sendNone) ∧
  (∀ (p : Fin 2) (hs : List (BitVec 2)) (d : Nat) (s : State), s.tthRuns p = true → (s.tp p).lock = true → hs.length = 64 →
    16 ≤ hs.count 0 + hs.count 3 →
    RunsThen (.blockLockLoss p hs d) s [let f := if p = 0 then TTH.CNT1_UP_SYNC_ERR else TTH.CNT1_DOWN_SYNC_ERR; (f, min (s.get f + (hs.count 0 + hs.count 3) + d) (2 ^ f.w - 1))] s.sendNone
      (fun t => t.linkDown p)) ∧
  (∀ (p : Fin 2) (us : Nat) (s : State), us < 10000 → Runs (.tetherRetry p us) s [] s.sendNone) ∧
  (∀ (p : Fin 2) (us : Nat) (s : State), s.tthRuns p = true → s.linkUp p = false → 10000 ≤ us →
    Runs (.tetherRetry p us) s [let f := if p = 0 then TTH.CNT0_UP_RETRY else TTH.CNT0_DOWN_RETRY; (f, s.once f)]
      (s.sendNone.setTp p (fun q => { q with lock := false, linked := false }))) ∧
  (∀ (id : Fin 4) (beyond : BitVec 4) (s : State), s.tthRuns 1 = true → (s.tp 1).lock = true → id.val ≠ s.stackId + 1 →
    exec (.tthLink 1 id beyond) s = .next ((s.sendNone.linkDown 1).on TTH.STATUS_ID_ERR)) ∧
  (∀ (id : Fin 4) (beyond : BitVec 4) (s : State), s.tthRuns 1 = true → (s.tp 1).lock = true → id.val = s.stackId + 1 → s.isAnchor = true → s.linkUp 1 = true →
    Ends (.tthLink 1 id beyond) s (fun t => t.get TTH.STATUS_DOWN_LINK = 1 ∧ t.get TTH.STATUS_REACH / 2 ^ id.val % 2 = 1 ∧ t.get TTH.STATUS_ID_ERR = s.get TTH.STATUS_ID_ERR ∧
      (t.tp 1).linked = true ∧ (t.tp 1).beyond = beyond.toNat ||| 2 ^ id.val)) ∧
  (∀ (m : AlmMsg) (s : State), s.linkUp 1 = true → s.isAnchor = true →
    exec (.tthAlarm (some m)) s = .next (s.sendNone.almTake m)) ∧
  (∀ (m : AlmMsg) (q : List AlmMsg) (s : State), s.linkUp 0 = true → s.tth.almQ = m :: q →
    Runs (.tthAlarm none) s [] (s.setTth (fun t => { t with almQ := q, sent := [(0, 2, [m.stack, m.id, m.inst, m.active.toNat, m.unacked.toNat, m.count, m.code])] }))) ∧
  (∀ (p : Fin 2) (s : State), s.linkUp p = true → s.linkUp (otherPort p) = true →
    Runs (.tthWake p) s [] (s.setTth (fun t => { t with sent := [((otherPort p).val, 3, [])] }))) ∧
  (∀ (v : BitVec 48) (s : State), s.isAnchor = false → s.linkUp 0 = true → s.linkUp 1 = false → s.now < v.toNat →
    Runs (.tthTime v) s [(TTH.TIME_ADJ_ADJ, ucode TTH.TIME_ADJ_ADJ.w ((v.toNat : Int) - s.now))]
      ({ s with now := v.toNat }.setTth (fun t => { t with ahead := 0, sent := [] }))) ∧
  (∀ (v : BitVec 48) (s : State), s.isAnchor = false → s.linkUp 0 = true → s.linkUp 1 = true → v.toNat ≤ s.now →
    Runs (.tthTime v) s [(TTH.TIME_ADJ_ADJ, ucode TTH.TIME_ADJ_ADJ.w ((v.toNat : Int) - s.now))]
      (s.setTth (fun t => { t with ahead := s.now - v.toNat, sent := [(1, 5, [v.toNat])] }))) ∧
  (∀ (us : Nat) (s : State), us < 1000000 → Runs (.timeSend us) s [] s.sendNone) ∧
  (∀ (us : Nat) (s : State), 1000000 ≤ us → s.isAnchor = true → s.linkUp 1 = true →
    Runs (.timeSend us) s [] (s.setTth (fun t => { t with sent := [(1, 5, [s.now])] }))) ∧
  (∀ (p : Fin 2) (target : Fin 4) (tag : BitVec 8) (a : BitVec 22) (size : Fin 4) (wrong : BitVec 2) (s : State), s.linkUp p = true → target.val = s.stackId →
    exec (.tthRegReq p target tag a size none wrong) s =
      .next (let t := s.sendNone.busRead .tether a.toNat size wrong .clean; t.send p 6 (regRsp tag.toNat t.brd.resp))) ∧
  (∀ (tag : BitVec 8) (v : BitVec 64) (s : State), s.linkUp 1 = true → s.linkUp 0 = true → s.isAnchor = false →
    Runs (.tthRegRsp tag v none) s [] (s.setTth (fun t => { t with sent := [(0, 6, [tag.toNat, v.toNat % 2 ^ 32, v.toNat / 2 ^ 32, 0])] }))) ∧
  (∀ (d : Fin 4) (b : Bool) (s : State), s.linkUp 1 = true → s.isAnchor = true → d ≠ 0 →
    Runs (.tthInt (some (d, b))) s [] (s.setTth (fun t => { t with int := putBit t.int (d.val - 1) b, sent := [] }))) ∧
  (∀ (s : State), s.linkUp 0 = true → s.isAnchor = false →
    Runs (.tthInt none) s [] (s.setTth (fun t => { t with sent := [(0, 8, [s.stackId, s.intN.toNat])] }))) ∧
  (∀ (s : State), s.awake = true → s.variant = true →
    Runs .tthCntClr s (zeroed [TTH.CNT0_UP_RETRY, TTH.CNT0_DOWN_RETRY, TTH.CNT1_UP_SYNC_ERR, TTH.CNT1_DOWN_SYNC_ERR])) ∧
  (∀ (s : State), s.awake = true → s.variant = true → s.isAnchor = true →
    Runs .pciCntClr s (zeroed [PCI.CNT_CA_CNT, PCI.CNT_EP_CNT])) ∧
  (∀ (s : State), s.variant = true →
    Runs .perstNFall s (zeroed [PCI.STATUS_SPEED, PCI.STATUS_WIDTH]) { s with pwr := { s.pwr with perst := false } })

/-- KITE TRANSMISSION (R207, R210, R211, R213, R217 to R219, R221 to R223, R225, R226): the path, the mask and the SEQ that a transmission
starts with, its end, the packets that resident firmware queues, and the wake pattern. -/
def Obligations.KiteTransmission : Prop :=
  (∀ (n : Lane) (s : State), (s.kl n).tx = none → s.flag (KL.CTRL_TX_EN n) = true → s.braced = false → s.quiesceAsked n = false → (s.kl n).wakeAsk = true →
    (s.ln n).power = .active → s.get (LN.TX_STATUS_AMP_STATE n) = 2 →
    Runs (.kiteTxStart n) s [(KL.STATUS_TX_BUSY n, 1), (KL.STATUS_TX_PATH n, 0)]
      (s.setKl n (fun k => { k with tx := some .wake, done := 0, phase := 0, fade := [], mask := (List.range 16).map (fun j => s.geti (KL.MASK_H n j)) }))) ∧
  (∀ (n : Lane) (s : State), (s.kl n).tx = none → s.flag (KL.CTRL_TX_EN n) = true → s.braced = false → s.quiesceAsked n = false → (s.kl n).wakeAsk = true →
    (s.ln n).power = .nap → s.get (BDA.OUT_OUT n.val) ≠ s.get (BDA.CLR_CLR_CODE n.val) →
    Runs (.kiteTxStart n) s [(KL.STATUS_TX_BUSY n, 1), (KL.STATUS_TX_PATH n, 1)]
      (s.setKl n (fun k => { k with tx := some .wake, done := 0, phase := 0, fade := [], mask := (List.range 16).map (fun j => s.geti (KL.MASK_H n j)) }))) ∧
  (∀ (n : Lane) (p : Nat) (m : KiteMsg) (s : State), (s.kl n).tx = none → s.flag (KL.CTRL_TX_EN n) = true → s.braced = false → s.quiesceAsked n = false →
    (s.kl n).wakeAsk = false → s.kitePath n = some p → kiteFirst (s.kl n).queue = some m →
    let seq := m.seq.getD (s.kl n).txSeq
    Runs (.kiteTxStart n) s [(KL.STATUS_TX_BUSY n, 1), (KL.STATUS_TX_PATH n, p)]
      (s.setKl n (fun k => { k with
        tx := some (.packet m.type seq m.payload), done := 0, phase := 0, fade := [], mask := (List.range 16).map (fun j => s.geti (KL.MASK_H n j)),
        txSeq := (if m.seq.isSome then k.txSeq else (k.txSeq + 1) % 16), queue := k.queue.erase m,
        asks := k.asks.map (fun a => if a.type = m.type ∧ a.seq = none then { a with seq := some seq } else a) }))) ∧
  (∀ (n : Lane) (p : Nat) (s : State), (s.kl n).tx = none → s.flag (KL.CTRL_TX_EN n) = true → s.braced = false → s.quiesceAsked n = false →
    (s.kl n).wakeAsk = false → s.kitePath n = some p → (s.kl n).queue = [] → (s.kl n).asks = [] → (s.kl n).userAsk = true →
    Runs (.kiteTxStart n) s [(KL.STATUS_TX_BUSY n, 1), (KL.STATUS_TX_PATH n, p)]
      (s.setKl n (fun k => { k with
        tx := some (.packet 8 k.txSeq (s.userPayload n)), done := 0, phase := 0, fade := [], mask := (List.range 16).map (fun j => s.geti (KL.MASK_H n j)),
        txSeq := (k.txSeq + 1) % 16 }))) ∧
  (∀ (n : Lane) (s : State), ((s.kl n).tx.isSome = true ∨ s.flag (KL.CTRL_TX_EN n) = false ∨ s.braced = true ∨ s.quiesceAsked n = true ∨ s.kitePath n = none) →
    Runs (.kiteTxStart n) s []) ∧
  (∀ (n : Lane) (x : KiteTx) (s : State), (s.kl n).tx = some x →
    let t := s.kiteEnd n
    (t.kl n).tx = none ∧ t.get (KL.STATUS_TX_BUSY n) = 0 ∧ t.get (KL.CNT2_TX_CNT n) = s.once (KL.CNT2_TX_CNT n) ∧
      (x = .wake → t.get (KL.CMD_WAKE_SEND n) = 0) ∧
      OnlyIn [KL.STATUS_TX_BUSY n, KL.CNT2_TX_CNT n, KL.CMD_WAKE_SEND n, KL.CMD_SEND n, KL.STATUS_MASK_CLIP n, BDA.CHSTATUS_INJ_CLIP n.val] s t ∧
      { t with regs := s.regs } = s.setKl n (fun k => { k with tx := none, done := 0, phase := 0, fade := (s.kiteInputs n x).reverse.take 30, wakeAsk := (match x with | .wake => false | .packet _ _ _ => k.wakeAsk), userAsk := (match x with | .wake => k.userAsk | .packet type _ _ => if type = 8 then false else k.userAsk) })) ∧
  (∀ (n : Lane) (s : State), (s.kiteMbx n 0xF = false ∨ (s.kl n).tx ≠ some .wake) → exec (.kiteTxEnd n) s = .next (s.kiteEnd n)) ∧
  (∀ (n : Lane) (s : State), s.kiteMbx n 0xF = true → (s.kl n).tx = some .wake →
    exec (.kiteTxEnd n) s = .next ((s.kiteEnd n).mbxDone 0)) ∧
  (∀ (n : Lane) (us : Nat) (s : State), us < 10000 * max 1 (s.get (KL.CFG2_PROBE_INT n)) → Runs (.probeSend n us) s []) ∧
  (∀ (n : Lane) (type : Fin 16) (us : Nat) (s : State), us < 10000 * max 1 (s.get (KL.CFG2_PROBE_INT n)) → Runs (.kiteReqRepeat n type us) s []) ∧
  (∀ (n : Lane) (us : Nat) (s : State), us < 30000 * max 1 (s.get (KL.CFG2_PROBE_INT n)) → Runs (.partnerSeenExpiry n us) s []) ∧
  (∀ (n : Lane) (k : PortId) (us : Nat) (s : State), 10000 * max 1 (s.get (KL.CFG2_PROBE_INT n)) ≤ us → s.portOf n = some k → (s.pstate k = 1 ∨ s.pstate k = 6 ∨ s.pstate k = 7 ∨ s.flag (PORT.STATUS_LOSHOLD_RUN k) = true) →
    s.flag (KL.CTRL_PROBE_EN n) = true → s.flag (KL.CTRL_TX_EN n) = true →
    Runs (.probeSend n us) s [] (s.setKl n (fun x => { x with queue := x.queue.filter (fun m => m.type != 0) ++ [⟨0,
      [s.pstate k] ++ (s.helloBody n).take 2 ++ [s.get (LN.RX_STATUS_LOS_NOW n) + 2 * s.get (LN.FRM_STATUS_FRAME_LOCK n)] ++
        beBytes 2 (s.get (LN.KTAP_AVG_AVG n)) ++ [0, 0], none⟩] }))) ∧
  (∀ (n : Lane) (k : PortId) (us : Nat) (s : State), s.portOf n = some k → 2 ≤ s.pstate k → s.pstate k ≤ 5 → s.flag (PORT.STATUS_LOSHOLD_RUN k) = false →
    Runs (.probeSend n us) s []) ∧
  (∀ (n : Lane) (type : Fin 16) (us : Nat) (a : KiteAsk) (s : State), 10000 * max 1 (s.get (KL.CFG2_PROBE_INT n)) ≤ us → s.kiteAsk n type = some a → a.tries < 3 → (s.kl n).queue.any (·.type == type.val) = false →
    Runs (.kiteReqRepeat n type us) s [] (s.setKl n (fun k => { k with
        queue := k.queue ++ [⟨type, a.payload, a.seq⟩],
        asks := k.asks.map (fun x => if x.type = type.val then { x with tries := x.tries + 1 } else x) }))) ∧
  (∀ (n : Lane) (type : Fin 16) (us : Nat) (a : KiteAsk) (s : State), 10000 * max 1 (s.get (KL.CFG2_PROBE_INT n)) ≤ us → s.kiteAsk n type = some a → 3 ≤ a.tries → s.kiteMbx n type = false →
    Runs (.kiteReqRepeat n type us) s [] (s.setKl n (fun k => { k with queue := k.queue.filter (·.type != type.val), asks := k.asks.filter (·.type != type.val) }))) ∧
  (∀ (n : Lane) (s : State), s.awake = true → Runs (.klSend n) s [(KL.CMD_SEND n, 1)] (s.setKl n (fun k => { k with userAsk := true }))) ∧
  (∀ (n : Lane) (s : State), s.awake = true → Runs (.wakeSend n) s [(KL.CMD_WAKE_SEND n, 1)] (s.setKl n (fun k => { k with wakeAsk := true }))) ∧
  (∀ (n : Lane) (syms : List (List Int)) (s : State),
    Runs (.wakeSeen n syms) s (if s.kiteListens n = true ∧ patternFound (s.kiteThresh n) 0xA56C3D0E (s.kiteWindow n 0xA56C3D0E syms).2 = true
      then [(KL.STATUS_WAKE_SEEN n, 1)] else [])) ∧
  (∀ (n : Lane) (reps : Nat) (s : State), (s.pwr.dev = .shelf ∨ s.pwr.dev = .doze) → (s.ln n).power = .off → s.flag (KL.CTRL_LISTEN_EN n) = true →
    max 1 (s.get (KL.CFG_WAKE_REPS n)) ≤ reps →
    RunsThen (.kiteWakeDetect n reps) s [(KL.STATUS_WAKE_DET n, 1)] s (fun t => (t.wakeFire 0 n.val).packUndo)) ∧
  (∀ (n : Lane) (reps : Nat) (s : State), reps < max 1 (s.get (KL.CFG_WAKE_REPS n)) →
    Runs (.kiteWakeDetect n reps) s []) ∧
  (∀ (n : Lane) (us : Nat) (s : State), 30000 * max 1 (s.get (KL.CFG2_PROBE_INT n)) ≤ us →
    Runs (.partnerSeenExpiry n us) s [(KL.STATUS_PARTNER_SEEN n, 0)]) ∧
  (∀ (n : Lane) (s : State), s.awake = true → Runs (.rxRelease n) s [(KL.STATUS_RX_FULL n, 0)]) ∧
  (∀ (n : Lane) (s : State), s.awake = true → Runs (.klCntClr n) s (zeroed [KL.CNT0_FALSE_PRE_CNT n, KL.CNT0_CAPTURE_LOST_CNT n,
    KL.CNT1_RX_OK_CNT n, KL.CNT1_RX_CRC_CNT n, KL.CNT2_TX_CNT n, KL.CNT2_TX_ABORT_CNT n])) ∧
  (∀ (q : List KiteMsg) (m : KiteMsg), kiteFirst q = some m → m ∈ q ∧ ∀ x ∈ q, kitePriority m.type ≤ kitePriority x.type)

/-- KITE RECEPTION (R213, R215, R216, R221, R222, R225): preamble, capture, SFD and header; and what a good packet of each type does, the
partner being seen already but where a clause says otherwise. -/
def Obligations.KiteReception : Prop :=
  (∀ (n : Lane) (syms : List (List Int)) (s : State),
    let w := s.kiteWindow n 0x5A93C2F1 syms
    exec (.kitePreambleDetect n syms) s = .next (if s.kiteListens n = true ∧ (s.kl n).rx = none ∧ patternFound (s.kiteThresh n) 0x5A93C2F1 w.2 = true
      then w.1.kiteLock n (strengthOf w.2) else s)) ∧
  (∀ (n : Lane) (st : Nat) (s : State), Becomes s [(KL.STATUS_RX_LOCK n, 1)] (s.setKl n (fun k => { k with rx := some ⟨st, false, none⟩, dets := k.dets + 1 })) (s.kiteLock n st)) ∧
  (∀ (thr pattern : Nat) (ys : List Int), ys.length = 32 → 24 ≤ ((List.range 32).filter (fun (k : Nat) => thr ≤ (ys.getD k 0).natAbs && decide (ys.getD k 0 < 0) == (msbBits 32 pattern).getD k false)).length →
    patternFound thr pattern ys = true) ∧
  (∀ (k : KiteSt) (d err : Int) (b : Bool), k.dfe.length = 11 → err.natAbs ≤ 1 →
    ∀ i : Fin 11, ((equaliserStep k d err b).dfe.getD i 0 - k.dfe.getD i 0).natAbs ≤ 1) ∧
  (∀ (n : Lane) (m : Nat) (s : State) (i : Fin 11), ((((s.kiteDrift n m).kl n).dfe.getD i 0 - (s.kl n).dfe.getD i 0).natAbs ≤ m)) ∧
  (∀ (n : Lane) (syms : List (List Int)) (r : KiteRx) (s : State), (s.kl n).rx = some r →
    let w := s.kiteWindow n 0x5A93C2F1 syms
    exec (.kiteCapture n syms) s = .next (if patternFound (s.kiteThresh n) 0x5A93C2F1 w.2 = true ∧ 2 * r.strength ≤ strengthOf w.2
      then (w.1.inc (KL.CNT0_CAPTURE_LOST_CNT n)).kiteLock n (strengthOf w.2) else s)) ∧
  (∀ (n : Lane) (syms : List (List Int)) (r : KiteRx) (s : State), (s.kl n).rx = some r →
    let w := s.kiteHear n (syms.zip (((msbBits 32 0x5A93C2F1 ++ msbBits 16 0x1F35).drop (48 - syms.length)).map some))
    exec (.kiteSfd n syms) s = .next (if r.sfd = false ∧ syms.length ≤ 40 ∧ isSfd ((w.2.drop (w.2.length - 16)).map (fun y => decide (y < 0))) = true
      then w.1.setKl n (fun k => { k with rx := some { r with sfd := true } }) else s)) ∧
  (∀ (bs : List Bool), bs.length = 16 → distance bs (msbBits 16 0x1F35) ≤ 2 → isSfd bs = true) ∧
  (∀ (n : Lane) (h : Word) (window : List (List Int)) (r : KiteRx) (s : State), (s.kl n).rx = some r → r.sfd = true → r.hdr = none → hdrOk h.toNat = true →
    Runs (.kiteHeader n h window) s [] ((s.kiteDrift n 32).setKl n (fun k => { k with rx := some { r with hdr := some h.toNat } }))) ∧
  (∀ (n : Lane) (h : Word) (window : List (List Int)) (r : KiteRx) (s : State), (s.kl n).rx = some r → r.sfd = true → r.hdr = none → hdrOk h.toNat = false → s.captures n window = false →
    Runs (.kiteHeader n h window) s [(KL.CNT0_FALSE_PRE_CNT n, s.once (KL.CNT0_FALSE_PRE_CNT n)), (KL.STATUS_RX_LOCK n, 0)] ((s.kiteDrift n 32).setKl n (fun k => { k with rx := none }))) ∧
  (∀ (n : Lane) (h : Word) (window : List (List Int)) (r : KiteRx) (s : State), (s.kl n).rx = some r → r.sfd = true → r.hdr = none → hdrOk h.toNat = false →
    exec (.kiteHeader n h window) s = .next (if s.captures n window = true then s.kiteCapture n window else (s.kiteDrift n 32).kiteFalse n)) ∧
  (∀ (n : Lane) (det : Nat) (syms : List (List Int)) (r : KiteRx) (s : State), (s.kl n).rx = some r →
    let w := s.kiteHear n ((syms.take 40).map (fun c => (c, none)))
    exec (.kiteFalsePreamble n det syms) s = .next (
      if det = (s.kl n).dets ∧ r.sfd = false ∧ 40 ≤ syms.length ∧ hasSfd (w.2.map (fun y => decide (y < 0))) = false
      then (if s.captures n ((syms.take 40).drop 1) = true then s.kiteCapture n ((syms.take 40).drop 1) else w.1.kiteFalse n) else s)) ∧
  (∀ (n : Lane) (s : State), Becomes s [(KL.CNT0_FALSE_PRE_CNT n, s.once (KL.CNT0_FALSE_PRE_CNT n)), (KL.STATUS_RX_LOCK n, 0)] (s.setKl n (fun k => { k with rx := none })) (s.kiteFalse n)) ∧
  (∀ (n : Lane) (r : KiteRx) (h : Nat) (s : State), (s.kl n).rx = some r → r.hdr = some h →
    Runs (.kiteCrcFail n) s [(KL.CNT1_RX_CRC_CNT n, s.once (KL.CNT1_RX_CRC_CNT n)), (KL.STATUS_RX_LOCK n, 0)] ((s.kiteDrift n (8 * hdrLen h + 32)).setKl n (fun k => { k with rx := none }))) ∧
  (∀ (n : Lane) (p : List Nat) (h st : Nat) (s : State), s.kitePkt n 0 p = some (h, st) → s.flag (KL.STATUS_PARTNER_SEEN n) = true →
    Runs (.kiteProbe n p) s (s.delivered n h st ++ [(KL.PARTNER_INFO_PORT_STATE n, p.headD 0)]) ((s.kiteDrift n (8 * hdrLen h + 32)).setKl n (fun k => { k with rx := none }))) ∧
  (∀ (n : Lane) (p : List Nat) (h st : Nat) (s : State), s.kitePkt n 0 p = some (h, st) → s.flag (KL.STATUS_PARTNER_SEEN n) = false → s.flag (KL.PARTNER_INFO_SN_VALID n) = false →
    Runs (.kiteProbe n p) s (s.delivered n h st ++ [(KL.PARTNER_INFO_PORT_STATE n, p.headD 0)]) ((s.kiteDrift n (8 * hdrLen h + 32)).setKl n (fun k => { k with
        rx := none,
        asks := k.asks.filter (·.type != 1) ++ [⟨1, [], none, 0⟩], queue := k.queue.filter (·.type != 1) ++ [⟨1, [], none⟩] }))) ∧
  (∀ (n : Lane) (h st : Nat) (s : State), s.kitePkt n 1 [] = some (h, st) → s.flag (KL.STATUS_PARTNER_SEEN n) = true → s.flag (KL.CTRL_AUTO_ANS n) = true →
    Runs (.kiteSerialReq n) s (s.delivered n h st) ((s.kiteDrift n (8 * hdrLen h + 32)).setKl n (fun k => { k with rx := none, queue := k.queue ++ [⟨2,
      beBytes 4 (s.get (GLB.SERIAL_SERIAL 1)) ++ beBytes 4 (s.get (GLB.SERIAL_SERIAL 0)) ++ beBytes 8 ((s.boot.rigNow.map (·.moduleSerial)).getD 0), none⟩] }))) ∧
  (∀ (n : Lane) (h st : Nat) (s : State), s.kitePkt n 1 [] = some (h, st) → s.flag (KL.STATUS_PARTNER_SEEN n) = true → s.flag (KL.CTRL_AUTO_ANS n) = false →
    Runs (.kiteSerialReq n) s (s.delivered n h st) ((s.kiteDrift n (8 * hdrLen h + 32)).setKl n (fun k => { k with rx := none }))) ∧
  (∀ (n : Lane) (p : List Nat) (h st : Nat) (s : State), s.kitePkt n 2 p = some (h, st) → s.kiteMbx n 1 = false →
    let a := beVal (p.take 4)
    let b := beVal ((p.drop 4).take 4)
    Runs (.kiteSerial n p) s (s.delivered n h st ++ [(KL.PARTNER_SN_SN n 0, a), (KL.PARTNER_SN_SN n 1, b), (KL.PARTNER_INFO_SN_VALID n, 1),
        (KL.STATUS_PARTNER_NEW n, if a = s.get (KL.PARTNER_SN_SN n 0) ∧ b = s.get (KL.PARTNER_SN_SN n 1) then s.get (KL.STATUS_PARTNER_NEW n) else 1)])
      ((s.kiteDrift n (8 * hdrLen h + 32)).setKl n (fun k => if (s.kiteAsk n 1).isNone then { k with rx := none } else
        { k with rx := none, asks := k.asks.filter (·.type != 1), queue := k.queue.filter (·.type != 1) }))) ∧
  (∀ (n : Lane) (h st : Nat) (s : State), s.kitePkt n 3 [] = some (h, st) → s.flag (KL.STATUS_PARTNER_SEEN n) = true → s.flag (KL.CTRL_AUTO_ANS n) = true →
    Runs (.kiteStatsReq n) s (s.delivered n h st) ((s.kiteDrift n (8 * hdrLen h + 32)).setKl n (fun k => { k with rx := none, queue := k.queue ++ [⟨4, s.statsBody n ++ [0, 0], none⟩] }))) ∧
  (∀ (n : Lane) (p : List Nat) (h st : Nat) (s : State), s.kitePkt n 4 p = some (h, st) → s.flag (KL.STATUS_PARTNER_SEEN n) = true → (s.kiteAsk n 3).isSome = true → s.kiteMbx n 3 = false →
    Runs (.kiteStats n p) s (s.delivered n h st) ((s.kiteDrift n (8 * hdrLen h + 32)).setKl n (fun k => { k with rx := none, asks := k.asks.filter (·.type != 3), queue := k.queue.filter (·.type != 3) }))) ∧
  (∀ (n : Lane) (p : List Nat) (h st : Nat) (s : State), s.kitePkt n 5 p = some (h, st) → s.flag (KL.STATUS_PARTNER_SEEN n) = true → (s.kl n).acted ≠ some (hdrSeq h, hdrLane h) → s.flag (KL.CTRL_REMOTE_NAP_EN n) = false →
    Runs (.kiteNapReq n p) s (s.delivered n h st) ((s.kiteDrift n (8 * hdrLen h + 32)).setKl n (fun k => { k with rx := none, queue := k.queue ++ [⟨7, [hdrSeq h, 1, 0, 0], none⟩] }))) ∧
  (∀ (n : Lane) (p : List Nat) (h st : Nat) (s : State), s.kitePkt n 5 p = some (h, st) → s.flag (KL.STATUS_PARTNER_SEEN n) = true → (s.kl n).acted = some (hdrSeq h, hdrLane h) →
    Runs (.kiteNapReq n p) s (s.delivered n h st) ((s.kiteDrift n (8 * hdrLen h + 32)).setKl n (fun k => { k with rx := none, queue := k.queue ++ [⟨7, [hdrSeq h, 0, 0, 0], none⟩] }))) ∧
  (∀ (n : Lane) (k : PortId) (p : List Nat) (h st : Nat) (s : State), s.kitePkt n 5 p = some (h, st) → s.flag (KL.STATUS_PARTNER_SEEN n) = true → (s.kl n).acted ≠ some (hdrSeq h, hdrLane h) →
    s.flag (KL.CTRL_REMOTE_NAP_EN n) = true → s.portOf n = some k → p.take 2 = (s.helloBody n).take 2 →
    RunsThen (.kiteNapReq n p) s (s.delivered n h st ++ [(PORT.CTRL_NAP k, 1)])
      ((s.kiteDrift n (8 * hdrLen h + 32)).setKl n (fun x => { x with rx := none, queue := x.queue ++ [⟨7, [hdrSeq h, 0, 0, 0], none⟩], acted := some (hdrSeq h, hdrLane h) })) (fun t => t.napAsk k .bit)) ∧
  (∀ (n : Lane) (k : PortId) (p : List Nat) (h st : Nat) (s : State), s.kitePkt n 6 p = some (h, st) → s.flag (KL.STATUS_PARTNER_SEEN n) = true → (s.kl n).acted ≠ some (hdrSeq h, hdrLane h) →
    s.flag (KL.CTRL_REMOTE_NAP_EN n) = true → s.portOf n = some k → p.take 2 = (s.helloBody n).take 2 →
    RunsThen (.kiteWakeReq n p) s (s.delivered n h st)
      ((s.kiteDrift n (8 * hdrLen h + 32)).setKl n (fun x => { x with rx := none, queue := x.queue ++ [⟨7, [hdrSeq h, 0, 0, 0], none⟩], acted := some (hdrSeq h, hdrLane h) })) (fun t => t.wakeAsk k)) ∧
  (∀ (n : Lane) (p : List Nat) (h st : Nat) (s : State), s.kitePkt n 6 p = some (h, st) → s.flag (KL.STATUS_PARTNER_SEEN n) = true → (s.kl n).acted ≠ some (hdrSeq h, hdrLane h) →
    s.flag (KL.CTRL_REMOTE_NAP_EN n) = true → p.take 2 ≠ (s.helloBody n).take 2 →
    Runs (.kiteWakeReq n p) s (s.delivered n h st) ((s.kiteDrift n (8 * hdrLen h + 32)).setKl n (fun x => { x with rx := none, queue := x.queue ++ [⟨7, [hdrSeq h, 2, 0, 0], none⟩] }))) ∧
  (∀ (n : Lane) (p : List Nat) (h st q : Nat) (a : KiteAsk) (s : State), s.kitePkt n 7 p = some (h, st) → s.flag (KL.STATUS_PARTNER_SEEN n) = true → s.kiteAsk n 5 = some a → a.seq = some q → p.headD 0 = q →
    s.kiteAsk n 6 = none → s.kiteMbx n 5 = false →
    Runs (.kiteReqAck n p) s (s.delivered n h st) ((s.kiteDrift n (8 * hdrLen h + 32)).setKl n (fun k => { k with rx := none, asks := k.asks.filter (·.type != 5), queue := k.queue.filter (·.type != 5) }))) ∧
  (∀ (n : Lane) (p : List Nat) (h st : Nat) (s : State), s.kitePkt n 8 p = some (h, st) → s.flag (KL.STATUS_PARTNER_SEEN n) = true → s.flag (KL.STATUS_RX_FULL n) = true →
    Runs (.kiteUser n p) s (s.delivered n h st ++ [(KL.STATUS_RX_OVF n, 1)]) ((s.kiteDrift n (8 * hdrLen h + 32)).setKl n (fun k => { k with rx := none }))) ∧
  (∀ (n : Lane) (p : List Nat) (h st : Nat) (s : State), s.kitePkt n 8 p = some (h, st) → s.flag (KL.STATUS_PARTNER_SEEN n) = true → s.flag (KL.STATUS_RX_FULL n) = false → p.length ≤ 256 →
    Runs (.kiteUser n p) s (s.delivered n h st ++ (List.range ((p.length + 3) / 4)).map (fun i => (KL.RX_BUF_W n i, beVal (padTo 4 (p.drop (4 * i))))) ++
        [(KL.RX_HDR_LEN n, p.length), (KL.RX_HDR_SEQ n, hdrSeq h), (KL.RX_HDR_SRC_LANE n, hdrLane h), (KL.RX_HDR_SRC_STACK n, hdrStack h), (KL.STATUS_RX_FULL n, 1)])
      ((s.kiteDrift n (8 * hdrLen h + 32)).setKl n (fun k => { k with rx := none }))) ∧
  (∀ (n : Lane) (r : KiteRx) (h : Nat) (s : State), (s.kl n).rx = some r → r.hdr = some h → (9 ≤ hdrType h ∨ (kiteLen (hdrType h)).any (· != hdrLen h) = true) →
    Runs (.kiteReservedType n) s [(KL.STATUS_BAD_TYPE n, 1), (KL.STATUS_RX_LOCK n, 0)] ((s.kiteDrift n (8 * hdrLen h + 32)).setKl n (fun k => { k with rx := none })))

/-- BIAS AND HEATER DACS (R229 to R239, Table 10-4): queueing a code, its drop and its overflow, the sample tick on a channel, the
deglitcher, a change of range with its underruns, a channel of no port, a flush and the counters. -/
def Obligations.BiasDacs : Prop :=
  (∀ (c : Chan) (v : BitVec 16) (s : State), s.awake = true → s.clearForced c = false → (s.ch c).queue.length < 32 →
    Runs (.qdataWrite c v) s [(BDA.QDATA_CODE c, v.toNat), (BDA.CHSTATUS_LEVEL c, (s.ch c).queue.length + 1)]
      (s.setCh c (fun h => { h with queue := h.queue ++ [v.toNat] }))) ∧
  (∀ (c : Chan) (v : BitVec 16) (s : State), s.awake = true → s.clearForced c = false → 32 ≤ (s.ch c).queue.length →
    Runs (.qdataWrite c v) s [(BDA.CHSTATUS_QOVF c, 1), (BDA.CNT_QOVF_CNT c, s.once (BDA.CNT_QOVF_CNT c))]) ∧
  (∀ (c : Chan) (v : BitVec 16) (s : State), s.awake = true → s.clearForced c = true →
    Runs (.qdataWrite c v) s [(BDA.CHSTATUS_CLR_DROP c, 1)]) ∧
  (∀ (s : State), exec .bdaSampleTick s = .next s.bdaTick.portsEval) ∧
  (∀ (c : Chan) (v : Nat) (q : List Nat) (s : State), s.awake = true → (s.ch c).rangePend = false → s.braced = false → s.forced c = false →
    s.bitOf BDA.PAUSE_PAUSE c = false → s.unusedLaser c = false → (s.ch c).queue = v :: q → s.get (BDA.LIM_LO c) ≤ s.get (BDA.LIM_HI c) →
    let t := s.bdaTick
    let x := max (s.get (BDA.LIM_LO c)) (min v (s.get (BDA.LIM_HI c)))
    (      (t.ch c).queue = q ∧ (t.ch c).wait = false ∧ (t.ch c).held = s.biasOut c ∧ t.get (BDA.CHSTATUS_LEVEL c) = q.length % 64 ∧ t.get (BDA.OUT_OUT c) = x % 2 ^ 16 ∧
      t.get (BDA.CHSTATUS_LIM_CLIP c) = (if x = v then s.get (BDA.CHSTATUS_LIM_CLIP c) else 1) ∧
      t.get (BDA.CHSTATUS_DEGLITCH c) = (if x / 4096 = s.get (BDA.OUT_OUT c) / 4096 then 0 else 1))) ∧
  (∀ (c : Chan) (s : State), s.awake = true → (s.ch c).rangePend = false → s.braced = false → s.forced c = false →
    s.bitOf BDA.PAUSE_PAUSE c = false → (s.ch c).queue = [] → s.flag (BDA.CFG_UNDER_EN c) = true → (s.ch c).wait = false →
    let t := s.bdaTick
    (t.get (BDA.OUT_OUT c) = s.get (BDA.OUT_OUT c) ∧ t.get (BDA.CHSTATUS_UNDERRUN c) = 1 ∧
      t.get (BDA.CNT_UNDERRUN_CNT c) = s.once (BDA.CNT_UNDERRUN_CNT c))) ∧
  (∀ (c : Chan) (s : State), s.awake = true → (s.ch c).rangePend = false → (s.braced = true ∨ s.bitOf BDA.PAUSE_PAUSE c = true) →
    let t := s.bdaTick
    ((t.ch c).queue = (s.ch c).queue ∧ t.get (BDA.OUT_OUT c) = s.get (BDA.OUT_OUT c) ∧
      t.get (BDA.CHSTATUS_UNDERRUN c) = s.get (BDA.CHSTATUS_UNDERRUN c))) ∧
  (∀ (c : Chan) (v : Nat) (q : List Nat) (s : State), s.awake = true → (s.ch c).rangePend = false → s.braced = false → s.forced c = false →
    s.bitOf BDA.PAUSE_PAUSE c = false → s.unusedLaser c = true → (s.ch c).queue = v :: q →
    let t := s.bdaTick
    ((t.ch c).queue = q ∧ t.get (BDA.OUT_OUT c) = s.get (BDA.CLR_CLR_CODE c) % 65536 ∧ t.get (BDA.CHSTATUS_DEGLITCH c) = 0)) ∧
  (∀ (s : State), s.awake = true →
    let t := s.bdaTick
    (t.get SPR.EVT_PEND = putBit (s.get SPR.EVT_PEND) 2 true % 2 ^ SPR.EVT_PEND.w ∧
      RegsKept (fun a => decide (0xB0000 ≤ a ∧ a < 0xC0000) || decide (0x1C0000 ≤ a ∧ a < 0x1D0000) || decide (a = SPR.EVT_PEND.addr) || decide (a = SAF.STATUS_CMP_NOW.addr) || (List.range 8).any (fun n => decide (a = (SAF.INFO_ARMED_LO n).addr))) s t ∧
      { t with regs := s.regs, bda := s.bda, kite := s.kite, fresh := s.fresh } = s)) ∧
  (∀ (c : Chan) (s : State), (s.ch c).rangePend = false → (s.ch c).rangeLeft ≠ 0 → s.braced = false → s.bitOf BDA.PAUSE_PAUSE c = false →
    (s.ch c).queue = [] → s.flag (BDA.CFG_UNDER_EN c) = true → (s.ch c).wait = false →
    ((s.tickRange c).tickQueue c).get (BDA.CHSTATUS_UNDERRUN c) = 1 ∧ ((s.tickRange c).tickQueue c).get (BDA.CNT_UNDERRUN_CNT c) = s.once (BDA.CNT_UNDERRUN_CNT c)) ∧
  (∀ (c : Chan) (s : State), (s.ch c).rangePend = true → c.val ≥ 8 →
    Becomes s [(BDA.OUT_RANGE_EFF c, s.get (BDA.CFG_RANGE c)), (BDA.CHSTATUS_FORCED c, putBit (s.get (BDA.CHSTATUS_FORCED c)) 2 true),
        (BDA.OUT_OUT c, s.get (BDA.CLR_CLR_CODE c)), (BDA.CHSTATUS_DEGLITCH c, 0), (BDA.CHSTATUS_LEVEL c, (s.ch c).queue.length)]
      (s.setCh c (fun h => { h with rangePend := false, rangeLeft := 8 })) (s.tickRange c)) ∧
  (∀ (c : Chan) (s : State), RunsThen (.deglitchEnd c) s [(BDA.CHSTATUS_DEGLITCH c, 0)] s (fun t => t.outFollow c)) ∧
  (∀ (c : Chan) (s : State), 8 ≤ c.val → s.outFollow c = s) ∧
  (∀ (n : Lane) (s : State), (s.flag (SAF.INFO_ARMED_LO n) = false ∨ s.biasBelow n = false) → s.loFollow n = s) ∧
  (∀ (n : Lane) (s : State), s.flag (SAF.INFO_ARMED_LO n) = true → s.biasBelow n = true →
    s.loFollow n = (s.off (SAF.INFO_ARMED_LO n)).cmpShow n) ∧
  (∀ (c : Chan) (v : Fin 2) (s : State), s.awake = true → v.val ≠ s.get (BDA.CFG_RANGE c) →
    Runs (.rangeChange c v) s [(BDA.CFG_RANGE c, v), (BDA.CHSTATUS_LEVEL c, (s.ch c).queue.length)]
      (s.setCh c (fun h => { h with rangePend := true }))) ∧
  (∀ (c : Chan) (v : Fin 2) (s : State), s.awake = true → v.val = s.get (BDA.CFG_RANGE c) → (s.ch c).rangeLeft = 0 → (s.ch c).rangePend = false →
    Runs (.rangeChange c v) s []) ∧
  (∀ (c : Chan) (write : Option (BitVec 16)) (s : State), s.awake = true →
    Runs (.bdaFlush c write) s [(BDA.CHSTATUS_LEVEL c, 0)] (s.setCh c (fun h => { h with queue := [] }))) ∧
  (∀ (c : Chan) (s : State), s.awake = true → Runs (.bdaCntClr c) s (zeroed [BDA.CNT_UNDERRUN_CNT c, BDA.CNT_QOVF_CNT c]))

/-- SONDE RUNS (R246, R247, R253 to R255, R258): arming, runs, triggers and their drop, the stop, the reference, system slots, the rise of
SUP_ACTIVE and the counters. -/
def Obligations.SondeRuns : Prop :=
  (∀ (s : State), s.awake = true → s.seqLong = false → s.flag SND.CTRL_MODE = false →
    Runs .sndStart s [] (s.setSnd (fun d => { d with armed := true }))) ∧
  (∀ (s : State), s.awake = true → s.seqLong = false → s.flag SND.CTRL_MODE = true → s.flag SND.STATUS_RUNNING = false →
    Runs .sndStart s [(SND.RUN_TIME0_TIME_LO, s.now), (SND.RUN_TIME1_TIME_HI, s.now / 2 ^ 32), (SND.STATUS_RUNNING, 1)]
      (s.setSnd (fun d => { d with pos := 0, stop := false }))) ∧
  (∀ (s : State), s.awake = true → s.seqLong = true →
    Runs .sndStart s [(SND.STATUS_ENTRY_LONG, 1)]) ∧
  (∀ (trig : Bool) (s : State), s.awake = true → s.flag SND.STATUS_RUNNING = false →
    Runs (.sndStop trig) s [(SND.STATUS_TRIG_PEND, 0)]) ∧
  (∀ (trig : Bool) (s : State), s.awake = true → s.flag SND.STATUS_RUNNING = true → s.snd.conv.isSome = true →
    Runs (.sndStop trig) s [(SND.STATUS_TRIG_PEND, 0)] (s.setSnd (fun d => { d with stop := true }))) ∧
  (∀ (trig : Bool) (s : State), s.awake = true → s.flag SND.STATUS_RUNNING = true → s.snd.conv = none →
    Runs (.sndStop trig) s [(SND.STATUS_TRIG_PEND, 0), (SND.STATUS_RUNNING, 0), (SPR.EVT_PEND, putBit (s.get SPR.EVT_PEND) 1 true)]
      (s.setSnd (fun d => { d with stop := false, pos := 0 }))) ∧
  (∀ (s : State), s.awake = true → s.flag SND.CTRL_MODE = false → s.snd.armed = true → s.get SND.CTRL_TRIG_SRC = 0 → s.flag SND.STATUS_RUNNING = false → s.seqLong = false →
    Runs .sndTrig s [(SND.RUN_TIME0_TIME_LO, s.now), (SND.RUN_TIME1_TIME_HI, s.now / 2 ^ 32), (SND.STATUS_RUNNING, 1)]
      (s.setSnd (fun d => { d with pos := 0, stop := false }))) ∧
  (∀ (s : State), s.awake = true → s.flag SND.CTRL_MODE = false → s.snd.armed = true → s.get SND.CTRL_TRIG_SRC = 0 → s.flag SND.STATUS_RUNNING = true → s.flag SND.STATUS_TRIG_PEND = false →
    Runs .sndTrig s [(SND.STATUS_TRIG_OVR, 1), (SND.STATUS_TRIG_PEND, 1)]) ∧
  (∀ (s : State), s.awake = true → s.flag SND.CTRL_MODE = false → s.snd.armed = true → s.get SND.CTRL_TRIG_SRC = 0 → s.flag SND.STATUS_RUNNING = true → s.flag SND.STATUS_TRIG_PEND = true →
    Runs .sndTrig s [(SND.STATUS_TRIG_OVR, 1), (SND.CNT_TRIG_DROP_CNT, s.once SND.CNT_TRIG_DROP_CNT)]) ∧
  (∀ (s : State), (s.flag SND.CTRL_MODE = true ∨ s.snd.armed = false ∨ s.get SND.CTRL_TRIG_SRC ≠ 0) → Runs .sndTrig s []) ∧
  (∀ (us : Nat) (s : State), us < max 10 (s.get SND.TIMER_PERIOD) → Runs (.sndTimerTrigger us) s []) ∧
  (∀ (us : Nat) (s : State), s.awake = true → max 10 (s.get SND.TIMER_PERIOD) ≤ us → s.flag SND.CTRL_MODE = false → s.snd.armed = true → s.get SND.CTRL_TRIG_SRC = 1 → s.flag SND.STATUS_RUNNING = false → s.seqLong = false →
    Runs (.sndTimerTrigger us) s [(SND.RUN_TIME0_TIME_LO, s.now), (SND.RUN_TIME1_TIME_HI, s.now / 2 ^ 32), (SND.STATUS_RUNNING, 1)]
      (s.setSnd (fun d => { d with pos := 0, stop := false }))) ∧
  (∀ (us : Nat) (s : State), (s.flag SND.CTRL_MODE = true ∨ s.snd.armed = false ∨ s.get SND.CTRL_TRIG_SRC ≠ 1) → Runs (.sndTimerTrigger us) s []) ∧
  (∀ (s : State), s.awake = true → Runs .sndFifoClr s [] (s.setSnd (fun d => { d with fifo := [] }))) ∧
  (∀ (s : State), s.awake = true → Runs .sndCntClr s (zeroed [SND.CNT_TRIG_DROP_CNT, SND.CNT_FIFO_DROP_CNT])) ∧
  (∀ (a : BitVec 7) (g : Fin 6) (o : Fin 7) (t : BitVec 10) (c exc : BitVec 8) (s : State), s.awake = true →
    Runs (.systemSlotRequest a g o t c exc) s [(SND.CTRL_SONDE_REF_EN, 1)]
      (s.setSnd (fun d => { d with slots := d.slots ++ [⟨a.toNat, g.val, o.val, t.toNat, c.toNat, exc.toNat⟩], sysOn := true }))) ∧
  (∀ (us : Nat) (s : State), us < 5000 → Runs (.refRdy us) s []) ∧
  (∀ (us : Nat) (s : State), 5000 ≤ us → s.awake = true → s.flag SND.CTRL_SONDE_REF_EN = true →
    Runs (.refRdy us) s [(SND.STATUS_REF_RDY, 1)]) ∧
  (∀ (n : Lane) (s : State), s.awake = true → s.lit n = true → s.flag SND.STATUS_SUP_ACTIVE = false →
    (∀ c ∈ s.snd.conv, c.sys = true ∨ convLong c.osr c.settle c.count = false) →
    Runs .supActiveRise s [(SND.STATUS_SUP_ACTIVE, 1)]) ∧
  (∀ (n : Lane) (c : SndConv) (s : State), s.awake = true → s.lit n = true → s.flag SND.STATUS_SUP_ACTIVE = false → s.snd.conv = some c →
    c.sys = false → convLong c.osr c.settle c.count = true → s.flag SND.STATUS_TRIG_PEND = false →
    Runs .supActiveRise s [(SND.STATUS_SUP_ACTIVE, 1), (SND.STATUS_SEQ_ABORT, 1), (SND.STATUS_ENTRY_LONG, 1), (SND.STATUS_RUNNING, 0),
      (SPR.EVT_PEND, putBit (s.get SPR.EVT_PEND) 1 true)] (s.setSnd (fun d => { d with conv := none, stop := false, pos := 0, lastOvr := c.anyOvr }))) ∧
  (∀ (s : State), s.anyLit = false → Runs .supActiveRise s []) ∧
  (∀ (i : Initiator) (s : State), s.mayAccess i = true →
    Runs (.sndFifoRead i) s [] ((s.respond (.data (s.snd.fifo.headD 0))).setSnd (fun d => { d with fifo := d.fifo.tail })))

/-- SONDE CONVERSIONS (R245, R252, R254, R257): the start of a system slot or a user entry with the settings it latches, the start that
SUP_ACTIVE makes an abort (R255), and the conversion's end. Each of CONVERSION_START and CONVERSION_END completes in every state. -/
def Obligations.SondeConversions : Prop :=
  (∀ (w : Nat) (c : SndSlot) (q : List SndSlot) (s : State), s.awake = true → s.snd.conv = none → s.snd.slots = c :: q →
    Runs (.conversionStart w false) s ([(SND.STATUS_SYS_ACTIVE, 1)] ++ (if s.get SND.SYS_SYS_WAIT_MAX < w then [(SND.SYS_SYS_WAIT_MAX, min w 0xFFFF)] else []))
      (s.setSnd (fun d => { d with
        slots := q, conv := some ⟨some c, 0, c.input, c.gain, c.osr, if s.snd.lastOvr then max 20 c.settle else c.settle, c.count, false, false, 0, false, false, false, none, [], false, {}⟩ }))) ∧
  (∀ (w : Nat) (s : State), s.awake = true → s.snd.conv = none → s.snd.slots = [] → s.flag SND.STATUS_RUNNING = true → s.flag SND.STATUS_SUP_ACTIVE = false →
    let j := s.snd.pos
    Runs (.conversionStart w false) s [(SND.STATUS_ENTRY, j)]
      (s.setSnd (fun d => { d with
        conv := some ⟨none, j, s.get (SND.ENT0_INPUT j), s.get (SND.ENT0_GAIN j), s.get (SND.ENT0_OSR j), s.get (SND.ENT1_SETTLE j), s.get (SND.ENT1_COUNT j), s.flag (SND.ENT0_AVG j),
          s.flag (SND.ENT0_DCB_EN j), s.get (SND.ENT0_DCB_FC j), d.lastOvr && decide (s.get (SND.ENT1_SETTLE j) < 20), false,
          false, none, [], false, {}⟩ }))) ∧
  (∀ (w : Nat) (s : State), s.awake = true → s.snd.conv = none → s.snd.slots = [] → s.flag SND.STATUS_RUNNING = true → s.flag SND.STATUS_SUP_ACTIVE = true →
    s.entLong s.snd.pos = true → s.flag SND.STATUS_TRIG_PEND = false →
    Runs (.conversionStart w false) s [(SND.STATUS_SEQ_ABORT, 1), (SND.STATUS_ENTRY_LONG, 1), (SND.STATUS_RUNNING, 0), (SPR.EVT_PEND, putBit (s.get SPR.EVT_PEND) 1 true)]
      (s.setSnd (fun d => { d with conv := none, stop := false, pos := 0 }))) ∧
  (∀ (us : Nat) (c : SndConv) (s : State), s.snd.conv = some c → c.filled = false → 1 + c.settle ≤ us →
    Runs (.conversionStart us true) s [] (s.setSnd (fun d => { d with conv := some { c with filled := true, cold := !s.flag SND.STATUS_REF_RDY } }))) ∧
  (∀ (us : Nat) (c : SndConv) (s : State), s.snd.conv = some c → (c.filled = true ∨ us < 1 + c.settle) →
    Runs (.conversionStart us true) s []) ∧
  (∀ (us : Nat) (s : State), s.snd.conv = none → Runs (.conversionStart us true) s []) ∧
  (∀ (w : Nat) (s : State), (s.awake = false ∨ s.snd.conv.isSome = true ∨ (s.snd.slots = [] ∧ s.flag SND.STATUS_RUNNING = false)) → Runs (.conversionStart w false) s []) ∧
  (∀ (c : SndConv) (q : SndSlot) (s : State), s.snd.conv = some c → c.count < c.results.length → c.slot = some q → (s.flag SND.STATUS_RUNNING = false ∨ s.snd.stop = false) →
    Runs .conversionEnd s [(SND.SYS_SYS_CNT, s.once SND.SYS_SYS_CNT), (SND.STATUS_SYS_ACTIVE, 0)] (s.setSnd (fun d => { d with conv := none, lastOvr := c.anyOvr, out := d.out.filter (fun p => p.1 != q) ++ [(q, c.results.getLastD 0)] }))) ∧
  (∀ (c : SndConv) (s : State), s.snd.conv = some c → c.count < c.results.length → c.slot = none → s.snd.stop = false → c.entry < s.get SND.CTRL_LEN →
    Runs .conversionEnd s [] (s.setSnd (fun d => { d with conv := none, lastOvr := c.anyOvr, pos := c.entry + 1 }))) ∧
  (∀ (c : SndConv) (s : State), s.snd.conv = some c → c.count < c.results.length → c.slot = none → s.snd.stop = false → s.get SND.CTRL_LEN ≤ c.entry → s.flag SND.CTRL_MODE = false →
    s.flag SND.STATUS_TRIG_PEND = false → s.awake = true →
    Runs .conversionEnd s [(SND.STATUS_RUNNING, 0), (SPR.EVT_PEND, putBit (s.get SPR.EVT_PEND) 1 true)]
      (s.setSnd (fun d => { d with conv := none, lastOvr := c.anyOvr, stop := false, pos := 0 }))) ∧
  (∀ (c : SndConv) (s : State), s.snd.conv = some c → c.results.length ≤ c.count → Runs .conversionEnd s []) ∧
  (∀ (c : SndConv) (q : SndSlot) (s : State), s.snd.conv = some c → c.count < c.results.length → c.slot = some q → s.flag SND.STATUS_RUNNING = true → s.snd.stop = true →
    RunsThen .conversionEnd s [(SND.SYS_SYS_CNT, s.once SND.SYS_SYS_CNT), (SND.STATUS_SYS_ACTIVE, 0)] (s.setSnd (fun d => { d with conv := none, lastOvr := c.anyOvr, out := d.out.filter (fun p => p.1 != q) ++ [(q, c.results.getLastD 0)] })) State.runEnd) ∧
  (∀ (c : SndConv) (s : State), s.snd.conv = some c → c.count < c.results.length → c.slot = none → (s.snd.stop = true ∨ s.get SND.CTRL_LEN ≤ c.entry) →
    RunsThen .conversionEnd s [] (s.setSnd (fun d => { d with conv := none, lastOvr := c.anyOvr })) State.runEnd) ∧
  (∀ (s : State), s.awake = true → s.snd.stop = true → (s.flag SND.CTRL_MODE = true ∨ s.flag SND.STATUS_TRIG_PEND = false) →
    Becomes s [(SND.STATUS_RUNNING, 0), (SPR.EVT_PEND, putBit (s.get SPR.EVT_PEND) 1 true)] (s.setSnd (fun d => { d with stop := false, pos := 0 })) (s.runEnd)) ∧
  (∀ (s : State), s.awake = true → s.snd.stop = false → s.flag SND.CTRL_MODE = true → s.seqLong = false →
    Becomes s [(SPR.EVT_PEND, putBit (s.get SPR.EVT_PEND) 1 true), (SND.RUN_TIME0_TIME_LO, s.now), (SND.RUN_TIME1_TIME_HI, s.now / 2 ^ 32), (SND.STATUS_RUNNING, 1)]
      (s.setSnd (fun d => { d with pos := 0 })) (s.runEnd)) ∧
  (∀ (s : State), s.awake = true → s.flag SND.CTRL_MODE = false → s.flag SND.STATUS_TRIG_PEND = true → s.seqLong = false →
    Becomes s [(SPR.EVT_PEND, putBit (s.get SPR.EVT_PEND) 1 true), (SND.STATUS_TRIG_PEND, 0), (SND.RUN_TIME0_TIME_LO, s.now), (SND.RUN_TIME1_TIME_HI, s.now / 2 ^ 32), (SND.STATUS_RUNNING, 1)]
      (s.setSnd (fun d => { d with pos := 0, stop := false })) (s.runEnd))

/-- SONDE RESULTS AND ENTRIES (R240 to R242, R248 to R251, R258): a result scaled by the gain and the divider of the latched input, clamped, flagged, delivered, held
and queued, the DC block, an overload, and the write of an entry. SND_RESULT, MODULATOR_OVERLOAD and SND_ENT_WRITE complete in every state. -/
def Obligations.SondeResultsAndEntries : Prop :=
  (∀ (vin : List Int) (c : SndConv) (s : State), s.snd.conv = some c → c.filled = true → c.slot ≠ none → c.results.length ≤ c.count →
    let k := c.convert vin
    let y := max (-8388608) (min k.2 8388607)
    let ovr := y != k.2 || k.1.ovlAge.any (fun a => decide (a < spanOf c.osr))
    Runs (.sndResult vin) s (if ovr then [(SND.STATUS_OVR, 1)] else [])
      (s.setSnd (fun d => { d with
        conv := some { k.1 with results := c.results ++ [y], anyOvr := c.anyOvr || ovr, ovlAge := k.1.ovlAge.map (· + osrOf c.osr) } }))) ∧
  (∀ (vin : List Int) (c : SndConv) (s : State), s.snd.conv = some c → c.filled = true → c.slot = none → c.avg = false → c.dcbEn = false → c.results.length ≤ c.count →
    s.flag SND.CTRL_FIFO_EN = true → s.snd.fifo.length < 64 →
    let k := c.convert vin
    let y := max (-8388608) (min k.2 8388607)
    let ovr := y != k.2 || k.1.ovlAge.any (fun a => decide (a < spanOf c.osr))
    let last := c.results.length == c.count && (decide (s.get SND.CTRL_LEN ≤ c.entry) || s.snd.stop)
    Runs (.sndResult vin) s ((if ovr then [(SND.STATUS_OVR, 1)] else []) ++ [(SND.RESULT_VALUE c.entry, ucode 24 y), (SND.RESULT_ENTRY c.entry, c.entry),
        (SND.RESULT_OVR c.entry, ovr.toNat), (SND.RESULT_REC c.entry, c.isRec.toNat), (SND.RESULT_REF_COLD c.entry, c.cold.toNat)])
      (s.setSnd (fun d => { d with
        conv := some { k.1 with results := c.results ++ [y], anyOvr := c.anyOvr || ovr, ovlAge := k.1.ovlAge.map (· + osrOf c.osr) },
        fifo := d.fifo ++ [ucode 24 y + c.entry * 2 ^ 24 + ovr.toNat * 2 ^ 28 + c.isRec.toNat * 2 ^ 29 + c.cold.toNat * 2 ^ 30 + last.toNat * 2 ^ 31] }))) ∧
  (∀ (vin : List Int) (c : SndConv) (s : State), s.snd.conv = some c → c.filled = true → c.slot = none → c.avg = false → c.dcbEn = true → c.isRec = false → s.bitOf SND.DCB_FREEZE c.entry = false →
    c.results.length ≤ c.count → s.flag SND.CTRL_FIFO_EN = false →
    let k := c.convert vin
    let y := max (-8388608) (min k.2 8388607)
    let ovr := y != k.2 || k.1.ovlAge.any (fun a => decide (a < spanOf c.osr))
    let e := s.snd.est.getD c.entry 0
    let e' := e + roundDiv (dcbK c.dcbFc c.osr * (y * 65536 - e)) (2 ^ 24)
    Runs (.sndResult vin) s ((if ovr then [(SND.STATUS_OVR, 1)] else [(SND.DCB_EST_EST c.entry, ucode 24 (e' / 65536))]) ++
        [(SND.RESULT_VALUE c.entry, ucode 24 (sat24 (roundDiv (y * 65536 - e) 65536))), (SND.RESULT_ENTRY c.entry, c.entry), (SND.RESULT_OVR c.entry, ovr.toNat),
        (SND.RESULT_REC c.entry, 0), (SND.RESULT_REF_COLD c.entry, c.cold.toNat)])
      (s.setSnd (fun d => { d with
        conv := some { k.1 with results := c.results ++ [y], anyOvr := c.anyOvr || ovr, ovlAge := k.1.ovlAge.map (· + osrOf c.osr) },
        est := if ovr then d.est else d.est.set c.entry e' }))) ∧
  (∀ (vin : List Int) (c : SndConv) (s : State), s.snd.conv = some c → c.filled = true → c.slot = none → c.avg = true → c.results.length < c.count →
    let k := c.convert vin
    let y := max (-8388608) (min k.2 8388607)
    let ovr := y != k.2 || k.1.ovlAge.any (fun a => decide (a < spanOf c.osr))
    Runs (.sndResult vin) s (if ovr then [(SND.STATUS_OVR, 1)] else [])
      (s.setSnd (fun d => { d with
        conv := some { k.1 with results := c.results ++ [y], anyOvr := c.anyOvr || ovr, ovlAge := k.1.ovlAge.map (· + osrOf c.osr) } }))) ∧
  (∀ (w : Nat) (s : State), s.flag SND.CTRL_FIFO_EN = true → 64 ≤ s.snd.fifo.length →
    Becomes s [(SND.STATUS_FIFO_OVF, 1), (SND.CNT_FIFO_DROP_CNT, s.once SND.CNT_FIFO_DROP_CNT)] s (s.fifoPush w)) ∧
  (∀ (b : Nat) (c : SndConv) (s : State), s.snd.conv = some c → c.filled = true → c.results ≠ [] →
    Runs (.modulatorOverload b) s [] (s.setSnd (fun d => { d with conv := some { c with ovlAge := some (match c.ovlAge with | some a => min a b | none => b) } }))) ∧
  (∀ (b : Nat) (c : SndConv) (s : State), s.snd.conv = some c → (c.filled = false ∨ c.results = []) → 13 * (osrOf c.osr / 8) ≤ b →
    Runs (.modulatorOverload b) s []) ∧
  (∀ (j : Fin 16) (v : Word) (s : State), s.awake = true →
    Runs (.sndEntWrite j 1 v) s [(SND.ENT1_SETTLE j, bits v.toNat 0 10), (SND.ENT1_COUNT j, bits v.toNat 16 8)]) ∧
  (∀ (j : Fin 16) (v : Word) (s : State), s.awake = true → bits v.toNat 0 7 < 0x30 → bits v.toNat 8 3 < 6 → bits v.toNat 12 3 < 7 → bits v.toNat 17 3 < 7 →
    Runs (.sndEntWrite j 0 v) s [(SND.ENT0_INPUT j, bits v.toNat 0 7), (SND.ENT0_GAIN j, bits v.toNat 8 3), (SND.ENT0_OSR j, bits v.toNat 12 3), (SND.ENT0_AVG j, bits v.toNat 15 1),
        (SND.ENT0_DCB_EN j, bits v.toNat 16 1), (SND.ENT0_DCB_FC j, bits v.toNat 17 3), (SND.DCB_EST_EST j, 0)]
      (s.setSnd (fun d => { d with est := d.est.set j 0 }))) ∧
  (∀ (j : Fin 16) (v : Word) (s : State), s.awake = true → 0x30 ≤ bits v.toNat 0 7 → bits v.toNat 0 7 ≤ 0x3F → 6 ≤ bits v.toNat 8 3 → bits v.toNat 12 3 = 7 → bits v.toNat 17 3 = 7 →
    (bits v.toNat 16 1 = 0 ∨ s.flag (SND.ENT0_DCB_EN j) = true) →
    Runs (.sndEntWrite j 0 v) s [(SND.ENT0_AVG j, bits v.toNat 15 1), (SND.ENT0_DCB_EN j, bits v.toNat 16 1)]) ∧
  (∀ (c : SndConv) (vin : List Int), c.results ≠ [] →
    let n := osrOf c.osr / 8
    let r := c.chain.result n ((holdTo (8 * n) vin).map (modulated c.input c.gain))
    c.convert vin = ({ c with chain := r.1, ovlAge := latest c.ovlAge r.2.2 }, roundDiv r.2.1 (2 ^ 40))) ∧
  (∀ (c : SndConv) (vin : List Int), c.results = [] →
    let n := osrOf c.osr / 8
    let xs := (holdTo (13 * n) vin).map (modulated c.input c.gain)
    let p := prefilled n (xs.take (5 * n))
    let r := p.1.result n (xs.drop (5 * n))
    c.convert vin = ({ c with chain := r.1, ovlAge := latest c.ovlAge (latest r.2.2 (if p.2 then some (8 * n) else none)) }, roundDiv r.2.1 (2 ^ 40))) ∧
  (∀ (n : Nat) (v : Int), 0 < n → sincSum n (List.replicate (5 * n - 4) v) = (n : Int) ^ 5 * v) ∧
  (∀ (k : Nat), (halfBandTaps k).length = 23 ∧ (halfBandTaps k).reverse = halfBandTaps k ∧ (halfBandTaps k).sum = 2 ^ 24) ∧
  (compTaps.length = 63 ∧ compTaps.reverse = compTaps ∧ compTaps.sum = 2 ^ 24) ∧
  (∀ (input gain : Nat) (v : Int), 0x50 ≤ input → input ≤ 0x56 →
    modulated input gain v = roundDiv (v * 2 ^ gain) 2) ∧
  (∀ (input gain : Nat) (v : Int), input < 0x20 → modulated input gain v = roundDiv (max 0 v * 2 ^ gain) 1) ∧
  (∀ (input gain : Nat) (v : Int), 0x20 ≤ input → (input < 0x50 ∨ 0x59 < input) → modulated input gain v = roundDiv (v * 2 ^ gain) 1) ∧
  (∀ (vin : List Int) (s : State), (∀ c ∈ s.snd.conv, c.filled = false ∨ c.count < c.results.length) →
    Runs (.sndResult vin) s []) ∧
  (∀ (b : Nat) (s : State), s.snd.conv = none → Runs (.modulatorOverload b) s []) ∧
  (∀ (j : Fin 16) (w : Fin 2) (v : Word) (s : State), s.awake = false → Runs (.sndEntWrite j w v) s [])

/-- SPAR ARITHMETIC AND LOGIC (R259, R260, R267, Tables 12-2 and 12-3): the word that stands for the instruction, its result, the flags Z
and N of the result and V, and the PC; G0 reads zero and discards what is written to it. -/
def Obligations.SparArithmetic : Prop :=
  (∀ (e : SprEcc) (s : State), s.sprAt 0 = true → s.spr.inside = true → e ≠ .uncorrectable →
    SparDoes (.sprNop e) e s (fun r => r.goNext)) ∧
  (∀ (gd : Fin 16) (ga : Fin 16) (gb : Fin 16) (e : SprEcc) (s : State), s.sprAt (encReg 0x01 gd ga gb) = true → s.spr.inside = true → e ≠ .uncorrectable →
    SparDoes (.sprAdd gd ga gb e) e s (fun r => let x := r.reg ga; let y := r.reg gb; ((r.put gd (x + y)).flags (x + y) (decide ((x + y).toInt ≠ x.toInt + y.toInt))).goNext)) ∧
  (∀ (gd : Fin 16) (ga : Fin 16) (gb : Fin 16) (e : SprEcc) (s : State), s.sprAt (encReg 0x02 gd ga gb) = true → s.spr.inside = true → e ≠ .uncorrectable →
    SparDoes (.sprSub gd ga gb e) e s (fun r => let x := r.reg ga; let y := r.reg gb; ((r.put gd (x - y)).flags (x - y) (decide ((x - y).toInt ≠ x.toInt - y.toInt))).goNext)) ∧
  (∀ (gd : Fin 16) (ga : Fin 16) (gb : Fin 16) (e : SprEcc) (s : State), s.sprAt (encReg 0x03 gd ga gb) = true → s.spr.inside = true → e ≠ .uncorrectable →
    SparDoes (.sprAnd gd ga gb e) e s (fun r => let x := r.reg ga; let y := r.reg gb; ((r.put gd (x &&& y)).flags (x &&& y) false).goNext)) ∧
  (∀ (gd : Fin 16) (ga : Fin 16) (gb : Fin 16) (e : SprEcc) (s : State), s.sprAt (encReg 0x04 gd ga gb) = true → s.spr.inside = true → e ≠ .uncorrectable →
    SparDoes (.sprOr gd ga gb e) e s (fun r => let x := r.reg ga; let y := r.reg gb; ((r.put gd (x ||| y)).flags (x ||| y) false).goNext)) ∧
  (∀ (gd : Fin 16) (ga : Fin 16) (gb : Fin 16) (e : SprEcc) (s : State), s.sprAt (encReg 0x05 gd ga gb) = true → s.spr.inside = true → e ≠ .uncorrectable →
    SparDoes (.sprXor gd ga gb e) e s (fun r => let x := r.reg ga; let y := r.reg gb; ((r.put gd (x ^^^ y)).flags (x ^^^ y) false).goNext)) ∧
  (∀ (gd : Fin 16) (ga : Fin 16) (gb : Fin 16) (e : SprEcc) (s : State), s.sprAt (encReg 0x06 gd ga gb) = true → s.spr.inside = true → e ≠ .uncorrectable →
    SparDoes (.sprShl gd ga gb e) e s (fun r => let x := r.reg ga; let y := r.reg gb; ((r.put gd (x <<< (y.toNat % 32))).flags (x <<< (y.toNat % 32)) false).goNext)) ∧
  (∀ (gd : Fin 16) (ga : Fin 16) (gb : Fin 16) (e : SprEcc) (s : State), s.sprAt (encReg 0x07 gd ga gb) = true → s.spr.inside = true → e ≠ .uncorrectable →
    SparDoes (.sprShr gd ga gb e) e s (fun r => let x := r.reg ga; let y := r.reg gb; ((r.put gd (x >>> (y.toNat % 32))).flags (x >>> (y.toNat % 32)) false).goNext)) ∧
  (∀ (gd : Fin 16) (ga : Fin 16) (gb : Fin 16) (e : SprEcc) (s : State), s.sprAt (encReg 0x08 gd ga gb) = true → s.spr.inside = true → e ≠ .uncorrectable →
    SparDoes (.sprSar gd ga gb e) e s (fun r => let x := r.reg ga; let y := r.reg gb; ((r.put gd (x.sshiftRight (y.toNat % 32))).flags (x.sshiftRight (y.toNat % 32)) false).goNext)) ∧
  (∀ (gd : Fin 16) (ga : Fin 16) (gb : Fin 16) (e : SprEcc) (s : State), s.sprAt (encReg 0x09 gd ga gb) = true → s.spr.inside = true → e ≠ .uncorrectable →
    SparDoes (.sprMul gd ga gb e) e s (fun r => let x := r.reg ga; let y := r.reg gb; ((r.put gd (BitVec.ofInt 32 (x.toInt * y.toInt))).flags (BitVec.ofInt 32 (x.toInt * y.toInt)) false).goNext)) ∧
  (∀ (gd : Fin 16) (ga : Fin 16) (gb : Fin 16) (e : SprEcc) (s : State), s.sprAt (encReg 0x0A gd ga gb) = true → s.spr.inside = true → e ≠ .uncorrectable →
    SparDoes (.sprAdds gd ga gb e) e s (fun r => let x := r.reg ga; let y := r.reg gb; ((r.put gd (BitVec.ofInt 32 (max (-2147483648) (min (x.toInt + y.toInt) 2147483647)))).flags (BitVec.ofInt 32 (max (-2147483648) (min (x.toInt + y.toInt) 2147483647))) (decide ((x + y).toInt ≠ x.toInt + y.toInt))).goNext)) ∧
  (∀ (gd : Fin 16) (ga : Fin 16) (gb : Fin 16) (e : SprEcc) (s : State), s.sprAt (encReg 0x0B gd ga gb) = true → s.spr.inside = true → e ≠ .uncorrectable →
    SparDoes (.sprSubs gd ga gb e) e s (fun r => let x := r.reg ga; let y := r.reg gb; ((r.put gd (BitVec.ofInt 32 (max (-2147483648) (min (x.toInt - y.toInt) 2147483647)))).flags (BitVec.ofInt 32 (max (-2147483648) (min (x.toInt - y.toInt) 2147483647))) (decide ((x - y).toInt ≠ x.toInt - y.toInt))).goNext)) ∧
  (∀ (gd : Fin 16) (ga : Fin 16) (gb : Fin 16) (e : SprEcc) (s : State), s.sprAt (encReg 0x0C gd ga gb) = true → s.spr.inside = true → e ≠ .uncorrectable →
    SparDoes (.sprMin gd ga gb e) e s (fun r => let x := r.reg ga; let y := r.reg gb; ((r.put gd (if x.slt y then x else y)).flags (if x.slt y then x else y) false).goNext)) ∧
  (∀ (gd : Fin 16) (ga : Fin 16) (gb : Fin 16) (e : SprEcc) (s : State), s.sprAt (encReg 0x0D gd ga gb) = true → s.spr.inside = true → e ≠ .uncorrectable →
    SparDoes (.sprMax gd ga gb e) e s (fun r => let x := r.reg ga; let y := r.reg gb; ((r.put gd (if x.slt y then y else x)).flags (if x.slt y then y else x) false).goNext)) ∧
  (∀ (gd : Fin 16) (ga : Fin 16) (e : SprEcc) (s : State), s.sprAt (encReg 0x0E gd ga 0) = true → s.spr.inside = true → e ≠ .uncorrectable →
    SparDoes (.sprAbs gd ga e) e s (fun r => let x := r.reg ga; ((r.put gd (if x = 0x80000000 then 0x7FFFFFFF else if x.msb then -x else x)).flags (if x = 0x80000000 then 0x7FFFFFFF else if x.msb then -x else x) (x == 0x80000000)).goNext)) ∧
  (∀ (ga : Fin 16) (gb : Fin 16) (e : SprEcc) (s : State), s.sprAt (encReg 0x0F 0 ga gb) = true → s.spr.inside = true → e ≠ .uncorrectable →
    SparDoes (.sprCmp ga gb e) e s (fun r => let x := r.reg ga; let y := r.reg gb; (r.flags (x - y) (decide ((x - y).toInt ≠ x.toInt - y.toInt))).goNext)) ∧
  (∀ (gd : Fin 16) (ga : Fin 16) (imm : BitVec 18) (e : SprEcc) (s : State), s.sprAt (encImm 0x10 gd ga imm) = true → s.spr.inside = true → e ≠ .uncorrectable →
    SparDoes (.sprAddi gd ga imm e) e s (fun r => let x := r.reg ga; let y : Word := imm.signExtend 32; ((r.put gd (x + y)).flags (x + y) (decide ((x + y).toInt ≠ x.toInt + y.toInt))).goNext)) ∧
  (∀ (gd : Fin 16) (imm : BitVec 18) (e : SprEcc) (s : State), s.sprAt (encImm 0x11 gd 0 imm) = true → s.spr.inside = true → e ≠ .uncorrectable →
    SparDoes (.sprLui gd imm e) e s (fun r => let y : Word := imm.zeroExtend 32; ((r.put gd (y <<< 14)).flags (y <<< 14) false).goNext)) ∧
  (∀ (gd : Fin 16) (ga : Fin 16) (imm : BitVec 18) (e : SprEcc) (s : State), s.sprAt (encImm 0x12 gd ga imm) = true → s.spr.inside = true → e ≠ .uncorrectable →
    SparDoes (.sprOri gd ga imm e) e s (fun r => let x := r.reg ga; let y : Word := imm.zeroExtend 32; ((r.put gd (x ||| y)).flags (x ||| y) false).goNext)) ∧
  (∀ (gd : Fin 16) (ga : Fin 16) (imm : BitVec 18) (e : SprEcc) (s : State), s.sprAt (encImm 0x13 gd ga imm) = true → s.spr.inside = true → e ≠ .uncorrectable →
    SparDoes (.sprAndi gd ga imm e) e s (fun r => let x := r.reg ga; let y : Word := imm.zeroExtend 32; ((r.put gd (x &&& y)).flags (x &&& y) false).goNext)) ∧
  (∀ (ga : Fin 16) (imm : BitVec 18) (e : SprEcc) (s : State), s.sprAt (encImm 0x14 0 ga imm) = true → s.spr.inside = true → e ≠ .uncorrectable →
    SparDoes (.sprCmpi ga imm e) e s (fun r => let x := r.reg ga; let y : Word := imm.signExtend 32; (r.flags (x - y) (decide ((x - y).toInt ≠ x.toInt - y.toInt))).goNext)) ∧
  (∀ (gd : Fin 16) (ga : Fin 16) (sh : Fin 32) (e : SprEcc) (s : State), s.sprAt (encImm 0x15 gd ga (BitVec.ofNat 18 sh.val)) = true → s.spr.inside = true → e ≠ .uncorrectable →
    SparDoes (.sprShli gd ga sh e) e s (fun r => let x := r.reg ga; ((r.put gd (x <<< sh.val)).flags (x <<< sh.val) false).goNext)) ∧
  (∀ (gd : Fin 16) (ga : Fin 16) (sh : Fin 32) (e : SprEcc) (s : State), s.sprAt (encImm 0x16 gd ga (BitVec.ofNat 18 sh.val)) = true → s.spr.inside = true → e ≠ .uncorrectable →
    SparDoes (.sprSari gd ga sh e) e s (fun r => let x := r.reg ga; ((r.put gd (x.sshiftRight sh.val)).flags (x.sshiftRight sh.val) false).goNext)) ∧
  (∀ (gd : Fin 16) (ga : Fin 16) (sh : Fin 32) (e : SprEcc) (s : State), s.sprAt (encImm 0x17 gd ga (BitVec.ofNat 18 sh.val)) = true → s.spr.inside = true → e ≠ .uncorrectable →
    SparDoes (.sprShri gd ga sh e) e s (fun r => let x := r.reg ga; ((r.put gd (x >>> sh.val)).flags (x >>> sh.val) false).goNext)) ∧
  (∀ (e : SprEcc) (s : State), s.sprReady 0 = false → Runs (.sprNop e) s []) ∧
  (∀ (r : SprSt) (g h : Fin 16) (v : Word), (r.put g v).reg h = if h = 0 then 0 else if g = h then v else r.reg h)

/-- SPAR MEMORY, ADDRESS GENERATORS, ACCUMULATORS AND BRIDLE (R261, R263 to R266, R269, R275, R276, R280, R282): what an access through a
generator reads, writes and advances, products and their saturation at 48 bits, accumulator moves, and accesses to Bridle and to the
indirect space. -/
def Obligations.SparMemoryAndMac : Prop :=
  (∀ (g : Fin 16) (ag : Fin 8) (pm : Bool) (e d : SprEcc) (s : State), s.sprAt (encMem 0x18 g ag pm) = true → s.spr.inside = true → e ≠ .uncorrectable → d ≠ .uncorrectable → (s.spr.user = true → ag.val < 4) → (s.spr.ag.get ag).p.toNat < 0x20000 → (s.spr.ag.get ag).p.toNat % 4 = 0 →
    (s.spr.user = true → 0x2000 ≤ (s.spr.ag.get ag).p.toNat % 0x10000) →
    Ends (.sprLd g ag pm e d) s (fun t =>
      { t.spr with loaded := s.spr.loaded, macAge := s.spr.macAge } =
        (let q := s.spr.put g (s.spr.datum (s.spr.ag.get ag).p.toNat); { q with ag := if pm then vset s.spr.ag ag (s.spr.ag.get ag).next else s.spr.ag }).goNext ∧
      t.get SPR.CNT_ECC_CNT = (if [e, d].count .corrected = 0 then s.get SPR.CNT_ECC_CNT else min (s.get SPR.CNT_ECC_CNT + [e, d].count .corrected) (2 ^ SPR.CNT_ECC_CNT.w - 1)) ∧
      RegsKept sparArea s t ∧ { t with regs := s.regs, spr := s.spr, str := s.str, fresh := s.fresh } = s)) ∧
  (∀ (g : Fin 16) (ag : Fin 8) (pm : Bool) (e : SprEcc) (s : State), s.sprAt (encMem 0x18 g ag pm) = true → e ≠ .uncorrectable → (s.spr.user = true → ag.val < 4) → (s.spr.ag.get ag).p.toNat < 0x20000 → (s.spr.ag.get ag).p.toNat % 4 = 0 →
    (s.spr.user = true → 0x2000 ≤ (s.spr.ag.get ag).p.toNat % 0x10000) →
    exec (.sprLd g ag pm e .uncorrectable) s = .next ((if e = .corrected then s.inc SPR.CNT_ECC_CNT else s).sprFault 6)) ∧
  (∀ (g : Fin 16) (ag : Fin 8) (pm : Bool) (e : SprEcc) (s : State), s.sprAt (encMem 0x19 g ag pm) = true → s.spr.inside = true → e ≠ .uncorrectable → (s.spr.user = true → ag.val < 4) → (s.spr.ag.get ag).p.toNat < 0x20000 → (s.spr.ag.get ag).p.toNat % 4 = 0 →
    (s.spr.user = true → 0x2000 ≤ (s.spr.ag.get ag).p.toNat % 0x10000) →
    SparDoes (.sprSt g ag pm e) e s (fun r =>
      { r with data := (r.setDatum (r.ag.get ag).p.toNat (r.reg g)).data, ag := if pm then vset r.ag ag (r.ag.get ag).next else r.ag }.goNext)) ∧
  (∀ (r : SprSt) (a b : Nat) (v : Word), (r.setDatum a v).datum b = if a = b then v else r.datum b) ∧
  (∀ (g : SprAg), g.l = 0 → g.next = { g with p := g.p + g.s }) ∧
  (∀ (g : SprAg), g.l ≠ 0 → g.b.toNat + g.l.toNat ≤ 2 ^ 32 →
    g.next = { g with p := g.next.p } ∧ g.b.toNat ≤ g.next.p.toNat ∧ g.next.p.toNat < g.b.toNat + g.l.toNat ∧
      ((g.next.p.toNat : Int) - (g.p.toNat + g.s.toInt)) % g.l.toNat = 0) ∧
  (∀ (g ga : Fin 16) (imm : BitVec 18) (e : SprEcc) (s : State), s.sprAt (encImm 0x1A g ga imm) = true → e ≠ .uncorrectable →
    (s.spr.reg ga + imm.signExtend 32).toNat % 4 = 0 → (s.spr.user = true → s.sprMay (s.spr.reg ga + imm.signExtend 32).toNat false = true) →
    SparDoes (.sprLdio g ga imm e) e s (fun r => { r with run := .io false g (r.reg ga + imm.signExtend 32).toNat 0 })) ∧
  (∀ (g ga : Fin 16) (imm : BitVec 18) (e : SprEcc) (s : State), s.sprAt (encImm 0x1B g ga imm) = true → e ≠ .uncorrectable →
    (s.spr.reg ga + imm.signExtend 32).toNat % 4 = 0 → (s.spr.user = true → s.sprMay (s.spr.reg ga + imm.signExtend 32).toNat true = true) →
    SparDoes (.sprStio g ga imm e) e s (fun r => { r with run := .io true g (r.reg ga + imm.signExtend 32).toNat (r.reg g) })) ∧
  (∀ (cycles g a : Nat) (wrong : BitVec 2) (e : SprEcc) (v w : Word) (s : State), s.spr.run = .io false g a v → s.awake = true → s.spr.haltPend = false → s.spr.leave = false →
    ((s.ioStalled false cycles).busRead .spar a 2 wrong e).brd.resp = .data w.toNat → ((s.ioStalled false cycles).busRead .spar a 2 wrong e).spr.inside = true →
    Ends (.ioResponse cycles wrong e) s (fun t => let u := (s.ioStalled false cycles).busRead .spar a 2 wrong e
      t.spr = { u.spr.put (Fin.ofNat 16 g) w with run := .running }.goNext ∧ { t with spr := u.spr } = u)) ∧
  (∀ (cycles g a : Nat) (wrong : BitVec 2) (e : SprEcc) (v : Word) (s : State), s.spr.run = .io true g a v → s.awake = true → s.spr.user = false →
    ((s.ioStalled true cycles).busWrite .spar a 2 v.toNat).brd.resp = .done → ((s.ioStalled true cycles).busWrite .spar a 2 v.toNat).spr.run = .io true g a v →
    ((s.ioStalled true cycles).busWrite .spar a 2 v.toNat).spr.haltPend = false → ((s.ioStalled true cycles).busWrite .spar a 2 v.toNat).spr.leave = false →
    ((s.ioStalled true cycles).busWrite .spar a 2 v.toNat).spr.inside = true →
    Ends (.ioResponse cycles wrong e) s (fun t => let u := (s.ioStalled true cycles).busWrite .spar a 2 v.toNat
      t.spr = { u.spr with run := .running }.goNext ∧ { t with spr := u.spr } = u)) ∧
  (∀ (cycles g a k : Nat) (wrong : BitVec 2) (e : SprEcc) (v : Word) (s : State), s.spr.run = .io false g a v → s.awake = true →
    ((s.ioStalled false cycles).busRead .spar a 2 wrong e).brd.resp = .error k → ((s.ioStalled false cycles).busRead .spar a 2 wrong e).spr.run = .io false g a v →
    exec (.ioResponse cycles wrong e) s = .next ((((s.ioStalled false cycles).busRead .spar a 2 wrong e).sprFault 8).ioAfter)) ∧
  (∀ (g a : Nat) (b : Bool) (v : Word) (s : State), s.spr.run = .io b g a v → s.awake = true →
    exec .ioTmo s = .next (((s.ioStalled b 4096).sprFault 7).ioAfter)) ∧
  (∀ (write : Bool) (cycles : Nat) (s : State), let t := s.ioStalled write cycles
    { t.spr with loaded := s.spr.loaded, macAge := s.spr.macAge } = s.spr ∧ RegsKept (fun a => decide (0x60000 ≤ a ∧ a < 0x70000)) s t ∧
      { t with regs := s.regs, spr := s.spr, str := s.str, fresh := s.fresh } = s) ∧
  (∀ (s : State), s.spr.haltPend = false → s.spr.leave = false → s.ioAfter = s) ∧
  (∀ (s : State), s.spr.haltPend = true → s.ioAfter = s.setSpr (fun r => { r with run := .halted, haltPend := false, leave := false })) ∧
  (∀ (g : Fin 16) (ag : Fin 8) (f : Fin 4) (e : SprEcc) (s : State), s.sprAt (encAgf 0x1C g ag f) = true → s.spr.inside = true → e ≠ .uncorrectable → (s.spr.user = true → ag.val < 4) →
    SparDoes (.sprAgset g ag f e) e s (fun r => (let x := r.ag.get ag; { r with
      ag := vset r.ag ag (match f with | 0 => { x with p := r.reg g } | 1 => { x with b := r.reg g } | 2 => { x with l := r.reg g } | 3 => { x with s := r.reg g }) }).goNext)) ∧
  (∀ (g : Fin 16) (ag : Fin 8) (f : Fin 4) (e : SprEcc) (s : State), s.sprAt (encAgf 0x1D g ag f) = true → s.spr.inside = true → e ≠ .uncorrectable → (s.spr.user = true → ag.val < 4) →
    SparDoes (.sprAgget g ag f e) e s (fun r => (let x := r.ag.get ag
      r.put g (match f with | 0 => x.p | 1 => x.b | 2 => x.l | 3 => x.s)).goNext)) ∧
  (∀ (agx agy : Fin 8) (clr neg : Bool) (xreg : Bool) (gx : Fin 16) (e : SprEcc) (ds : List SprEcc) (s : State), s.sprAt (encMac4 agx agy clr neg xreg gx) = true → s.spr.inside = true → e ≠ .uncorrectable → .uncorrectable ∉ ds.take (if xreg then 4 else 5) →
    s.spr.mac4Check agx agy xreg = none → (xreg = true → agx = 0) →
    let x := macOp (if xreg then s.spr.reg gx else s.spr.load (s.spr.ag.get agx).p)
    let y (k : Fin 4) := macOp (s.spr.load ((s.spr.ag.get agy).nextN k).p)
    let a (k : Fin 4) : Int := (if clr then 0 else s.spr.acc.get k) + (if neg then -(x * y k) else x * y k)
    Ends (.sprMac4 agx agy clr neg xreg gx e ds) s (fun t =>
      t.get SPR.CNT_ECC_CNT = (if (e :: ds.take (if xreg then 4 else 5)).count .corrected = 0 then s.get SPR.CNT_ECC_CNT else min (s.get SPR.CNT_ECC_CNT + (e :: ds.take (if xreg then 4 else 5)).count .corrected) (2 ^ SPR.CNT_ECC_CNT.w - 1)) ∧ (∀ k, t.spr.acc.get k = max (-2 ^ 47) (min (a k) (2 ^ 47 - 1))) ∧
      (∀ k : Fin 4, t.bitOf SPR.STATUS_ACC_OVF k = (s.bitOf SPR.STATUS_ACC_OVF k || decide (a k < -2 ^ 47 ∨ 2 ^ 47 ≤ a k))) ∧
      { t.spr with acc := s.spr.acc, loaded := s.spr.loaded, macAge := s.spr.macAge } =
        ((if xreg then s.spr else s.spr.agAdvance agx 1).agAdvance agy 4).goNext ∧
      RegsKept (fun a => sparArea a || a == SPR.STATUS_ACC_OVF.addr) s t ∧ { t with regs := s.regs, spr := s.spr, str := s.str, fresh := s.fresh } = s)) ∧
  (∀ (agx agy : Fin 8) (clr neg : Bool) (p : Fin 2) (e : SprEcc) (ds : List SprEcc) (s : State), s.sprAt (encMac2 agx agy clr neg p) = true → s.spr.inside = true → e ≠ .uncorrectable → .uncorrectable ∉ ds.take 4 →
    s.spr.mac2Check agx agy = none →
    let w (g : Fin 8) (d : Word) := macOp (s.spr.load ((s.spr.ag.get g).p + d))
    let re := w agx 0 * w agy 0 - w agx 4 * w agy 4
    let im := w agx 0 * w agy 4 + w agx 4 * w agy 0
    let a (k : Fin 4) : Int := if k.val / 2 = p.val then (if clr then 0 else s.spr.acc.get k) + (if neg then -1 else 1) * (if k.val % 2 = 0 then re else im) else s.spr.acc.get k
    Ends (.sprMac2 agx agy clr neg p e ds) s (fun t =>
      t.get SPR.CNT_ECC_CNT = (if (e :: ds.take 4).count .corrected = 0 then s.get SPR.CNT_ECC_CNT else min (s.get SPR.CNT_ECC_CNT + (e :: ds.take 4).count .corrected) (2 ^ SPR.CNT_ECC_CNT.w - 1)) ∧ (∀ k : Fin 4, k.val / 2 = p.val → t.spr.acc.get k = max (-2 ^ 47) (min (a k) (2 ^ 47 - 1))) ∧
      (∀ k : Fin 4, k.val / 2 ≠ p.val → t.spr.acc.get k = s.spr.acc.get k) ∧
      (∀ k : Fin 4, t.bitOf SPR.STATUS_ACC_OVF k = (s.bitOf SPR.STATUS_ACC_OVF k || (decide (k.val / 2 = p.val) && decide (a k < -2 ^ 47 ∨ 2 ^ 47 ≤ a k)))) ∧
      { t.spr with acc := s.spr.acc, loaded := s.spr.loaded, macAge := s.spr.macAge } = ((s.spr.agAdvance agx 1).agAdvance agy 1).goNext ∧
      RegsKept (fun a => sparArea a || a == SPR.STATUS_ACC_OVF.addr) s t ∧ { t with regs := s.regs, spr := s.spr, str := s.str, fresh := s.fresh } = s)) ∧
  (∀ (ga gb : Fin 16) (k : Fin 4) (clr neg : Bool) (e : SprEcc) (s : State), s.sprAt (encMacr ga gb k clr neg) = true → s.spr.inside = true → e ≠ .uncorrectable →
    let p := sext 18 ((s.spr.reg ga).toNat / 2 ^ 14) * sext 18 ((s.spr.reg gb).toNat / 2 ^ 14)
    let a : Int := (if clr then 0 else s.spr.acc.get k) + (if neg then -p else p)
    Ends (.sprMacr ga gb k clr neg e) s (fun t =>
      { t.spr with loaded := s.spr.loaded, macAge := s.spr.macAge } = { s.spr with acc := vset s.spr.acc k (max (-2 ^ 47) (min a (2 ^ 47 - 1))) }.goNext ∧
      t.bitOf SPR.STATUS_ACC_OVF k = (s.bitOf SPR.STATUS_ACC_OVF k || decide (a < -2 ^ 47 ∨ 2 ^ 47 ≤ a)) ∧
      RegsKept (fun a => sparArea a || a == SPR.STATUS_ACC_OVF.addr) s t ∧ { t with regs := s.regs, spr := s.spr, str := s.str, fresh := s.fresh } = s)) ∧
  (∀ (gd : Fin 16) (k : Fin 4) (clr : Bool) (e : SprEcc) (s : State), s.sprAt (encAcc 0x23 gd k clr) = true → s.spr.inside = true → e ≠ .uncorrectable →
    let x := roundDiv (s.spr.acc.get k) (2 ^ min 40 (s.get (SPR.SCALE_SHIFT k.val)))
    let sat := s.flag (SPR.SCALE_SAT_EN k.val)
    Ends (.sprMova gd k clr e) s (fun t =>
      { t.spr with loaded := s.spr.loaded, macAge := s.spr.macAge } =
        (let q := s.spr.put gd (BitVec.ofInt 32 (if sat then max (-2 ^ 31) (min x (2 ^ 31 - 1)) else x))
         { q with acc := if clr then vset s.spr.acc k 0 else s.spr.acc }).goNext ∧
      t.bitOf SPR.STATUS_SAT k = (s.bitOf SPR.STATUS_SAT k || (sat && decide (x < -2 ^ 31 ∨ 2 ^ 31 ≤ x))) ∧
      RegsKept (fun a => sparArea a || a == SPR.STATUS_SAT.addr) s t ∧ { t with regs := s.regs, spr := s.spr, str := s.str, fresh := s.fresh } = s)) ∧
  (∀ (g : Fin 16) (k : Fin 4) (e : SprEcc) (s : State), s.sprAt (encAcc 0x24 g k false) = true → s.spr.inside = true → e ≠ .uncorrectable →
    let x := (s.spr.reg g).toInt * 2 ^ min 40 (s.get (SPR.SCALE_SHIFT k.val))
    Ends (.sprLda g k e) s (fun t =>
      { t.spr with loaded := s.spr.loaded, macAge := s.spr.macAge } = { s.spr with acc := vset s.spr.acc k (max (-2 ^ 47) (min x (2 ^ 47 - 1))) }.goNext ∧
      t.bitOf SPR.STATUS_ACC_OVF k = (s.bitOf SPR.STATUS_ACC_OVF k || decide (x < -2 ^ 47 ∨ 2 ^ 47 ≤ x)) ∧
      RegsKept (fun a => sparArea a || a == SPR.STATUS_ACC_OVF.addr) s t ∧ { t with regs := s.regs, spr := s.spr, str := s.str, fresh := s.fresh } = s)) ∧
  (∀ (mask : BitVec 4) (e : SprEcc) (s : State), s.sprAt (encCtl 0x25 mask.toNat 0) = true → s.spr.inside = true → e ≠ .uncorrectable →
    SparDoes (.sprClra mask e) e s (fun r => { r with acc := Vector.ofFn (fun k => if mask.getLsbD k.val then 0 else r.acc.get k) }.goNext)) ∧
  (∀ (i : Initiator) (s : State), s.mayAccess i = true → s.get (SPR.MEM_ADDR_ADDR.forInit i.code) < 0x30080 →
    (0x30000 ≤ s.get (SPR.MEM_ADDR_ADDR.forInit i.code) → s.brd.parityBad.contains (0x100310000 + s.get (SPR.MEM_ADDR_ADDR.forInit i.code) / 4 * 4) = false) →
    Ends (.sprMemDataAccess i .read) s (fun t => BusOnly (fun a => a == (SPR.MEM_ADDR_ADDR.forInit i.code).addr) s t ∧
      t.brd = { s.brd with resp := .data (s.spr.memWord (s.get (SPR.MEM_ADDR_ADDR.forInit i.code) / 4 * 4)).toNat } ∧
      t.get (SPR.MEM_ADDR_ADDR.forInit i.code) = (s.get (SPR.MEM_ADDR_ADDR.forInit i.code) + s.get (SPR.MEM_ADDR_STRIDE.forInit i.code)) % 2 ^ SPR.MEM_ADDR_ADDR.w ∧
      t.get (SPR.MEM_ADDR_STRIDE.forInit i.code) = s.get (SPR.MEM_ADDR_STRIDE.forInit i.code))) ∧
  (∀ (i : Initiator) (s : State), s.mayAccess i = true → s.get (SPR.MEM_ADDR_ADDR.forInit i.code) < 0x30000 →
    Ends (.sprMemDataAccess i (.bad .corrected)) s (fun t => BusOnly (fun a => a == (SPR.MEM_ADDR_ADDR.forInit i.code).addr || a == SPR.CNT_ECC_CNT.addr) s t ∧
      t.brd = { s.brd with resp := .data (s.spr.memWord (s.get (SPR.MEM_ADDR_ADDR.forInit i.code) / 4 * 4)).toNat } ∧
      t.get SPR.CNT_ECC_CNT = s.once SPR.CNT_ECC_CNT ∧ t.get SPR.CNT_FAULT_CNT = s.get SPR.CNT_FAULT_CNT ∧
      t.get (SPR.MEM_ADDR_ADDR.forInit i.code) = (s.get (SPR.MEM_ADDR_ADDR.forInit i.code) + s.get (SPR.MEM_ADDR_STRIDE.forInit i.code)) % 2 ^ SPR.MEM_ADDR_ADDR.w)) ∧
  (∀ (i : Initiator) (e : SprEcc) (s : State), s.mayAccess i = true → 0x30000 ≤ s.get (SPR.MEM_ADDR_ADDR.forInit i.code) → s.get (SPR.MEM_ADDR_ADDR.forInit i.code) < 0x30080 → e ≠ .clean →
    Ends (.sprMemDataAccess i (.bad e)) s (fun t => t.brd.resp = .error 9 ∧ t.spr = s.spr ∧ t.get GLB.BRD_CNT0_ACCESS_FAULT = s.once GLB.BRD_CNT0_ACCESS_FAULT ∧
      t.get GLB.BRD_CNT1_PARITY_CNT = s.once GLB.BRD_CNT1_PARITY_CNT ∧ t.get (SPR.MEM_ADDR_ADDR.forInit i.code) = s.get (SPR.MEM_ADDR_ADDR.forInit i.code))) ∧
  (∀ (i : Initiator) (v : Word) (s : State), s.mayAccess i = true → s.pendingOf i.code = none → s.get (SPR.MEM_ADDR_ADDR.forInit i.code) < 0x30080 → s.memLocked (s.get (SPR.MEM_ADDR_ADDR.forInit i.code) / 4 * 4) = false →
    Ends (.sprMemDataAccess i (.write v)) s (fun t => BusOnly (fun a => a == (SPR.MEM_ADDR_ADDR.forInit i.code).addr) { s with spr := t.spr } t ∧
      t.spr = s.spr.setMemWord (s.get (SPR.MEM_ADDR_ADDR.forInit i.code) / 4 * 4) v ∧ t.brd.resp = .done ∧
      t.get (SPR.MEM_ADDR_ADDR.forInit i.code) = (s.get (SPR.MEM_ADDR_ADDR.forInit i.code) + s.get (SPR.MEM_ADDR_STRIDE.forInit i.code)) % 2 ^ SPR.MEM_ADDR_ADDR.w ∧
      t.get (SPR.MEM_ADDR_STRIDE.forInit i.code) = s.get (SPR.MEM_ADDR_STRIDE.forInit i.code))) ∧
  (∀ (r : SprSt) (a : Nat) (v : Word), a % 4 = 0 → a < 0x30080 → (r.setMemWord a v).memWord a = v) ∧
  (∀ (i : Initiator) (v : Word) (s : State), s.mayAccess i = true → s.pendingOf i.code = none → s.get (SPR.MEM_ADDR_ADDR.forInit i.code) < 0x10000 → s.spr.run ≠ .halted →
    exec (.sprMemDataAccess i (.write v)) s = .next (((s.countEvent 1 0 1).accessError i.code SPR.MEM_DATA_DATA.addr 5 true 4).respond (.error 5))) ∧
  (∀ (i : Initiator) (s : State), s.mayAccess i = true → 0x30080 ≤ s.get (SPR.MEM_ADDR_ADDR.forInit i.code) →
    AccessFails (.sprMemDataAccess i .read) i SPR.MEM_DATA_DATA.addr 8 false 4 s)

/-- SPAR CONTROL, MODES AND EVENTS (R267, R268, R270 to R274, R280, R281, Tables 12-3 to 12-9): jumps, calls and loops, WAIT and the
events, traps and the services of the executive, the privileged instructions in either mode, faults, and starting and halting. -/
def Obligations.SparControl : Prop :=
  (∀ (target : BitVec 14) (e : SprEcc) (s : State), s.sprAt (encCtl 0x28 0 target.toNat) = true → e ≠ .uncorrectable →
    SparDoes (.sprJmp target e) e s (fun r => let q := r.setLoops (match r.loops with | l :: t => if l.first ≤ target.toNat ∧ target.toNat ≤ l.last then l :: t else t | [] => []); { q with pc := target.toNat })) ∧
  (∀ (cond : BitVec 4) (target : BitVec 14) (e : SprEcc) (s : State), s.sprAt (encCtl 0x29 cond.toNat target.toNat) = true → s.spr.inside = true → e ≠ .uncorrectable → cond.toNat ≤ 8 →
    SparDoes (.sprBr cond target e) e s (fun r =>
      if (match cond.toNat with | 0 => r.z | 1 => !r.z | 2 => r.n != r.v | 3 => r.n == r.v | 4 => !r.z && r.n == r.v | 5 => r.z || r.n != r.v | 6 => r.v | 7 => !r.v | _ => true)
      then (let q := r.setLoops (match r.loops with | l :: t => if l.first ≤ target.toNat ∧ target.toNat ≤ l.last then l :: t else t | [] => []); { q with pc := target.toNat }) else r.goNext)) ∧
  (∀ (target : BitVec 14) (e : SprEcc) (s : State), s.sprAt (encCtl 0x2A 0 target.toNat) = true → e ≠ .uncorrectable → s.spr.rets.length < 8 →
    SparDoes (.sprCall target e) e s (fun r => { (r.setLoops (loopNext r.pc r.loops).2).setRets ((loopNext r.pc r.loops).1 :: r.rets) with pc := target.toNat })) ∧
  (∀ (a : Nat) (l : List Nat) (e : SprEcc) (s : State), s.sprAt (encCtl 0x2B 0 0) = true → e ≠ .uncorrectable → s.spr.rets = a :: l → a < 0x4000 →
    SparDoes (.sprRet e) e s (fun r => { r.setRets l with pc := a })) ∧
  (∀ (ga : Fin 16) (last : BitVec 14) (e : SprEcc) (s : State), s.sprAt (encCtl 0x2C ga.val last.toNat) = true → e ≠ .uncorrectable → s.spr.loops.length < 2 → s.spr.reg ga ≠ 0 → s.spr.pc < 0x3FFF →
    SparDoes (.sprLoop ga last e) e s (fun r => { r.setLoops (⟨r.pc + 1, last.toNat, (r.reg ga).toNat⟩ :: r.loops) with pc := r.pc + 1 })) ∧
  (∀ (ga : Fin 16) (last : BitVec 14) (e : SprEcc) (s : State), s.sprAt (encCtl 0x2C ga.val last.toNat) = true → e ≠ .uncorrectable → s.spr.loops.length < 2 → s.spr.reg ga = 0 → (loopNext last.toNat s.spr.loops).1 < 0x4000 →
    SparDoes (.sprLoop ga last e) e s (fun r => { r.setLoops (loopNext last.toNat r.loops).2 with pc := (loopNext last.toNat r.loops).1 })) ∧
  (∀ (f m n : Nat) (ls : List SprLoop), loopNext m (⟨f, m, n⟩ :: ls) = (if 1 < n then (f, ⟨f, m, n - 1⟩ :: ls) else loopNext m ls)) ∧
  (∀ (mask : BitVec 8) (e : SprEcc) (s : State), s.sprAt (encCtl 0x2D 0 mask.toNat) = true → e ≠ .uncorrectable → mask ≠ 0 → s.get SPR.EVT_PEND &&& mask.toNat = 0 →
    SparDoes (.sprWait mask e) e s (fun r => { r with run := .waiting mask.toNat })) ∧
  (∀ (mask : BitVec 8) (e : SprEcc) (s : State), s.sprAt (encCtl 0x2D 0 mask.toNat) = true → s.spr.inside = true → e ≠ .uncorrectable → s.get SPR.EVT_PEND &&& mask.toNat ≠ 0 → s.spr.haltPend = false → s.spr.leave = false →
    Ends (.sprWait mask e) s (fun t => { t.spr with loaded := s.spr.loaded, macAge := s.spr.macAge } = s.spr.goNext ∧
      (∀ k : Fin 5, t.bitOf SPR.EVT_PEND k = (s.bitOf SPR.EVT_PEND k && !mask.getLsbD k.val)))) ∧
  (∀ (c mask : Nat) (s : State), s.spr.run = .waiting mask → s.awake = true → s.get SPR.EVT_PEND &&& mask ≠ 0 → s.spr.inside = true → s.spr.haltPend = false → s.spr.leave = false →
    Ends (.waitComplete c) s (fun t => { t.spr with macAge := s.spr.macAge } = { s.spr with run := .running }.goNext ∧
      t.get SPR.EVT_PEND = (s.get SPR.EVT_PEND - (s.get SPR.EVT_PEND &&& mask)) % 2 ^ SPR.EVT_PEND.w ∧
      RegsKept (fun a => sparArea a || a == SPR.EVT_PEND.addr) s t ∧ { t with regs := s.regs, spr := s.spr, str := s.str, fresh := s.fresh } = s)) ∧
  (∀ (c mask : Nat) (s : State), s.spr.run = .waiting mask → s.get SPR.EVT_PEND &&& mask = 0 → Runs (.waitComplete c) s []) ∧
  (∀ (e : SprEcc) (s : State), s.sprAt (encCtl 0x2E 0 1) = true → s.spr.inside = true → e ≠ .uncorrectable →
    Ends (.sprEvt 1 e) s (fun t => t.get SPR.EVT_HOST_EVT = 1 ∧ { t.spr with loaded := s.spr.loaded, macAge := s.spr.macAge } = s.spr.goNext ∧
      RegsKept (fun a => sparArea a || a == SPR.EVT_HOST_EVT.addr) s t ∧ { t with regs := s.regs, spr := s.spr, str := s.str, fresh := s.fresh } = s)) ∧
  (∀ (e : SprEcc) (s : State), s.sprAt (encCtl 0x2E 0 0) = true → s.spr.inside = true → e ≠ .uncorrectable → s.get SND.CTRL_TRIG_SRC = 2 → s.snd.armed = true → s.flag SND.CTRL_MODE = false → s.flag SND.STATUS_RUNNING = false → s.seqLong = false →
    Ends (.sprEvt 0 e) s (fun t => t.get SND.STATUS_RUNNING = 1 ∧ t.snd.pos = 0 ∧ t.get SND.RUN_TIME0_TIME_LO = s.now % 2 ^ 32 ∧
      { t.spr with loaded := s.spr.loaded, macAge := s.spr.macAge } = s.spr.goNext)) ∧
  (∀ (n : BitVec 8) (e : SprEcc) (s : State), s.sprAt (encCtl 0x2F 0 n.toNat) = true → e ≠ .uncorrectable → s.spr.user = true → n.toNat < 3 →
    SparDoes (.sprTrap n e) e s (fun r => { r.setLoops (loopNext r.pc r.loops).2 with savedPc := (loopNext r.pc r.loops).1, user := false, pc := 0x40 + n.toNat, run := .running, service := some n.toNat })) ∧
  (∀ (n : BitVec 8) (e : SprEcc) (s : State), s.sprAt (encCtl 0x2F 0 n.toNat) = true → e ≠ .uncorrectable → s.spr.user = false →
    SparDoes (.sprTrap n e) e s (fun r => { r with pc := 0x40 + n.toNat })) ∧
  (∀ (n : BitVec 8) (s : State), s.sprAt (encCtl 0x2F 0 n.toNat) = true → s.spr.user = true → 3 ≤ n.toNat →
    Ends (.sprTrap n .clean) s (fun t => { t.spr with loaded := s.spr.loaded, macAge := s.spr.macAge } =
        { s.spr.setLoops (loopNext s.spr.pc s.spr.loops).2 with savedPc := (loopNext s.spr.pc s.spr.loops).1, user := false, pc := 0x40 + n.toNat, run := .running, service := none, phase := .ended } ∧
      t.get SPR.FAULT_CODE = 2 ∧ t.get SPR.FAULT_MODE = 1 ∧ t.get SPR.FAULT_FPC = s.spr.pc % 2 ^ SPR.FAULT_FPC.w ∧ t.get SPR.STATUS_FAULT = 1 ∧
      t.get SPR.CNT_FAULT_CNT = s.once SPR.CNT_FAULT_CNT)) ∧
  (∀ (s : State), s.awake = true → s.spr.run = .running → s.spr.user = false → s.spr.service = some 0 →
    Ends .trapExit s (fun t => t.get SPR.STATUS_USER_DONE = 1 ∧ t.spr = { s.spr.put 1 (t.spr.reg 1) with service := none, phase := .ended } ∧ OnlyIn [SPR.STATUS_USER_DONE] s t ∧
      { t with regs := s.regs, spr := s.spr, fresh := s.fresh } = s)) ∧
  (∀ (s : State), s.awake = true → s.spr.run = .running → s.spr.user = false → s.spr.service = some 1 →
    exec .trapLog s = .next ((s.logRecord 0xA 0 1 (s.spr.reg 1).toNat (s.spr.reg 2).toNat 0 0).serviceDone)) ∧
  (∀ (s : State), s.awake = true → s.spr.run = .running → s.spr.user = false → s.spr.service = some 2 →
    exec .trapAlarm s = .next ((s.alarm 0x18 0 ((s.spr.reg 1).toNat % 65536)).serviceDone)) ∧
  (∀ (u : Bool) (target : BitVec 14) (e : SprEcc) (s : State), s.sprAt (0x30 * 2 ^ 26 + u.toNat * 2 ^ 25 + target.toNat) = true → e ≠ .uncorrectable → s.spr.user = false → (u = true → s.spr.savedPc < 0x4000) → s.retuOpen u target.toNat = true → s.flag SPR.CMD_USER_RESTART = false →
    SparDoes (.sprRetu u target e) e s (fun r => { r with user := true, phase := .entered, pc := if u then r.savedPc else target.toNat })) ∧
  (∀ (u : Bool) (target : BitVec 14) (e : SprEcc) (s : State), s.spr.user = false → s.retuOpen u target.toNat = false →
    Runs (.sprRetu u target e) s []) ∧
  (∀ (u : Bool) (target : Nat) (s : State), s.retuOpen u target = (s.spr.exec.isNone || (s.flag SPR.STATUS_USER_LOADED && s.flag SPR.CTRL_USER_EN &&
    (s.spr.phase == .entered || (s.spr.phase == .ready && !u && target == s.spr.entry))))) ∧
  (∀ (u : Bool) (target : BitVec 14) (s : State), s.sprAt (0x30 * 2 ^ 26 + u.toNat * 2 ^ 25 + target.toNat) = true → s.spr.user = true →
    exec (.sprRetu u target .clean) s = .next (s.sprFault 2)) ∧
  (∀ (e : SprEcc) (s : State), s.sprAt (encCtl 0x31 0 0) = true → s.spr.inside = true → e ≠ .uncorrectable → s.spr.user = false →
    SparDoes (.sprHalt e) e s (fun r => { r.goNext with run := .halted })) ∧
  (∀ (s : State), s.sprAt (encCtl 0x31 0 0) = true → s.spr.user = true →
    exec (.sprHalt .clean) s = .next (s.sprFault 2)) ∧
  (∀ (w : Word) (s : State), s.sprAt w.toNat = true → sprLegal w.toNat = false →
    exec (.illegalInstruction .clean) s = .next (s.sprFault 1)) ∧
  (∀ (code : Fin 9) (s : State), s.spr.user = false → s.spr.privFault = none →
    Becomes s [(SPR.FAULT_CODE, code), (SPR.FAULT_MODE, 0), (SPR.FAULT_FPC, s.spr.pc), (SPR.STATUS_FAULT, 1), (SPR.CNT_FAULT_CNT, s.once SPR.CNT_FAULT_CNT)]
      (s.setSpr (fun r => let h := { r with run := .halted, privFault := some s.now }
        match r.exec with
        | some q => if r.lasting = true ∨ r.haltPend = true then h else (h.execLoad q).start
        | none => h)) (s.sprFault code)) ∧
  (∀ (code : Fin 9) (x : Nat) (s : State), s.spr.user = false → s.spr.privFault = some x → s.since x ≤ 1000 →
    (s.sprFault code).spr = { s.spr with run := .halted, privFault := some s.now, lasting := true }) ∧
  (∀ (q : Nat) (r : SprSt), r.execLoad q = { r with exec := some q, prog := r.prog.filter (fun p => decide (0x1000 ≤ p.1)), data := r.data.filter (fun p => decide (0x2000 ≤ p.1 % 0x10000)) }) ∧
  (∀ (r : SprSt), r.start = { r with run := .running, user := false, pc := 0, haltPend := false, leave := false, retP := [], loopP := [] }) ∧
  (∀ (code : Fin 9) (s : State), s.spr.user = true →
    let t := s.sprFault code
    t.spr = { s.spr with savedPc := s.spr.pc, user := false, pc := 0x20, run := .running, phase := .ended } ∧ t.get SPR.FAULT_CODE = code ∧ t.get SPR.FAULT_MODE = 1 ∧
      t.get SPR.FAULT_FPC = s.spr.pc % 2 ^ SPR.FAULT_FPC.w ∧ t.get SPR.STATUS_FAULT = 1 ∧ t.get SPR.CNT_FAULT_CNT = s.once SPR.CNT_FAULT_CNT) ∧
  (∀ (c : Nat) (s : State), (s.get SPR.TIMER_PERIOD = 0 ∨ c < max 1200 (s.get SPR.TIMER_PERIOD)) → Runs (.sparTimerEvent c) s []) ∧
  (∀ (c : Nat) (s : State), s.get SPR.TIMER_PERIOD ≠ 0 → max 1200 (s.get SPR.TIMER_PERIOD) ≤ c → s.awake = true →
    Runs (.sparTimerEvent c) s ([(SPR.EVT_PEND, putBit (s.get SPR.EVT_PEND) 0 true)] ++ (if s.bitOf SPR.EVT_PEND 0 then [(SPR.EVT_TIMER_OVR, 1)] else []))) ∧
  (∀ (k : Nat) (m : Nat) (s : State), s.awake = true → s.spr.user = true → (s.spr.run = .running ∨ s.spr.run = .waiting m) → s.preemptBit = some k →
    Runs .sparPreempt s [] (s.setSpr (fun r => { r with savedPc := r.pc, user := false, pc := 0x10 + k, run := .running }))) ∧
  (∀ (s : State), s.spr.user = false → Runs .sparPreempt s []) ∧
  (∀ (issue : Bool) (s : State), s.awake = true → s.spr.run = .halted → s.spr.lasting = false →
    Runs (.sparRun .gondola true issue) s [(SPR.CTRL_RUN, 1)] (s.setSpr (fun r => r.start))) ∧
  (∀ (issue : Bool) (s : State), s.awake = true → (s.spr.run ≠ .halted ∨ s.spr.lasting = true) →
    Runs (.sparRun .gondola true issue) s [(SPR.CTRL_RUN, 1)] (s.setSpr (fun r => { r with haltPend := false }))) ∧
  (∀ (m : Nat) (issue : Bool) (s : State), s.awake = true → (s.spr.run = .running ∨ (s.spr.run = .waiting m ∧ issue = false)) →
    Runs (.sparRun .gondola false issue) s [(SPR.CTRL_RUN, 0)] (s.setSpr (fun r => { r with run := .halted, haltPend := false }))) ∧
  (∀ (w : Bool) (g a m : Nat) (v : Word) (issue : Bool) (s : State), s.awake = true → (s.spr.run = .io w g a v ∨ (s.spr.run = .waiting m ∧ issue = true)) →
    Runs (.sparRun .gondola false issue) s [(SPR.CTRL_RUN, 0)] (s.setSpr (fun r => { r with haltPend := true }))) ∧
  (∀ (i : Initiator) (v issue : Bool) (s : State), i ≠ .gondola → v = s.flag SPR.CTRL_RUN → Runs (.sparRun i v issue) s []) ∧
  (∀ (i : Initiator) (v issue : Bool) (s : State), s.awake = true → i ≠ .gondola → v ≠ s.flag SPR.CTRL_RUN →
    exec (.sparRun i v issue) s = .next (s.accessFault i.code SPR.CTRL_RUN.addr 7 true 4)) ∧
  (∀ (s : State), s.awake = true → s.flag SPR.STATUS_USER_LOADED = true → s.flag SPR.CTRL_USER_EN = true →
    Runs .userRestart s [(SPR.CMD_USER_RESTART, 1)] (s.setSpr (fun r => { r with phase := .ready }))) ∧
  (∀ (s : State), (s.flag SPR.STATUS_USER_LOADED = false ∨ s.flag SPR.CTRL_USER_EN = false) → Runs .userRestart s []) ∧
  (∀ (s : State), s.awake = true → Runs .doorbell s [(SPR.EVT_PEND, putBit (s.get SPR.EVT_PEND) 3 true)]) ∧
  (∀ (s : State), s.awake = true → Runs .sprCntClr s (zeroed [SPR.CNT_FAULT_CNT, SPR.CNT_ECC_CNT]))

/-- THE THERMAL UNIT (R283 to R285, R287 to R292, Table 13-1): a reading, Tj and its peak, the warning, the shedding request, MTP_OK and the
hard trip; cross-checks, external channels, the release of a trip, and the Shelf comparator. -/
def Obligations.ThermalUnit : Prop :=
  (∀ (d : Fin 12) (x : Int) (s : State), s.awake = true →
    exec (.thmReading d x) s = .next (((s.dsRecord d x).tjEval.each ((List.finRange 8).filter (fun n => (s.dsRecord d x).tjEval.laneSensor n == d.val))
      (fun n v => v.calTemp n)).sprEvent 4)) ∧
  (∀ (d : Fin 12) (x : Int) (s : State), s.awake = false → Runs (.thmReading d x) s []) ∧
  (∀ (d : Fin 12) (x : Int) (s : State), s.thm.hist.length = 12 → (s.thm.hist.getD d []).length < 599 →
    Becomes s [(THM.OD_TEMP d, ucode (THM.OD_TEMP d).w (max (-512) (min x 1200))), (THM.OD_RATE d, 0)]
      { s with thm := { s.thm with hist := s.thm.hist.set d (max (-512) (min x 1200) :: s.thm.hist.getD d []) } } (s.dsRecord d x)) ∧
  (∀ (s : State), (s.tj < 880 ∨ (s.flag THM.STATUS_TRIPPED = true ∧ ∀ n : Lane, (s.sf n).gate.contains 9 = true)) →
    let t := s.tjEval
    t.geti THM.TJ_TJ = s.tj ∧ t.geti THM.TJ_TJ_PEAK = max (s.geti THM.TJ_TJ_PEAK) s.tj ∧
      t.flag THM.STATUS_WARN_NOW = (if s.warnLim ≤ s.tj then true else if s.tj ≤ s.warnLim - 16 then false else s.flag THM.STATUS_WARN_NOW) ∧
      t.flag THM.STATUS_SHED_REQ = (if s.shedLim ≤ s.tj then true else if s.tj ≤ s.shedLim - 24 then false else s.flag THM.STATUS_SHED_REQ) ∧
      t.flag THM.STATUS_MTP_OK = ((List.range 12).any (fun d => !s.dsFault d) &&
        (List.range 12).all (fun d => s.dsFault d || (decide (0 ≤ s.geti (THM.OD_TEMP d)) && decide (s.geti (THM.OD_TEMP d) ≤ 760)))) ∧
      RegsKept (fun a => reportArea a || decide (0xC0000 ≤ a ∧ a < 0xD0000)) s t) ∧
  (∀ (s : State), 880 ≤ s.tj → s.flag THM.STATUS_TRIPPED = false →
    s.tripEval = (((((s.setPwr (fun p => { p with laneAsk := false })).gateAll 9).on THM.STATUS_TRIPPED).on THM.STATUS_TRIP).inc THM.CNT_TRIP_CNT).alarm 0x0B 0 0) ∧
  (∀ (n : Lane) (s : State), 880 ≤ s.tj → s.flag THM.STATUS_TRIPPED = true → (s.sf n).gate.contains 9 = false →
    s.tripEval = s.gateAll 9) ∧
  (∀ (us : Nat) (x : Int) (s : State), (us < 100000 ∨ s.awake = false ∨ s.diodeSlots s.thm.next = []) → Runs (.crossCheck us x) s []) ∧
  (∀ (us : Nat) (x : Int) (s : State), 100000 ≤ us → s.awake = true → s.diodeSlots s.thm.next ≠ [] → (s.geti (THM.OD_TEMP s.thm.next) - x).natAbs ≤ 24 →
    Runs (.crossCheck us x) s [] ({ s with thm := { s.thm with diff := s.thm.diff.set s.thm.next false, next := (s.thm.next + 1) % 12 } }.slotsTaken (s.diodeSlots s.thm.next))) ∧
  (∀ (us : Nat) (x : Int) (s : State), 100000 ≤ us → s.awake = true → s.diodeSlots s.thm.next ≠ [] → 24 < (s.geti (THM.OD_TEMP s.thm.next) - x).natAbs →
    (s.thm.diff.getD s.thm.next false = false ∨ s.dsFault s.thm.next = true) →
    Runs (.crossCheck us x) s [(THM.CNT_XCHK_CNT, s.once THM.CNT_XCHK_CNT)]
      ({ s with thm := { s.thm with diff := s.thm.diff.set s.thm.next true, next := (s.thm.next + 1) % 12 } }.slotsTaken (s.diodeSlots s.thm.next))) ∧
  (∀ (us : Nat) (x : Int) (s : State), 100000 ≤ us → s.awake = true → s.diodeSlots s.thm.next ≠ [] → 24 < (s.geti (THM.OD_TEMP s.thm.next) - x).natAbs →
    s.thm.diff.getD s.thm.next false = true → s.dsFault s.thm.next = false →
    RunsThen (.crossCheck us x) s [(THM.CNT_XCHK_CNT, s.once THM.CNT_XCHK_CNT), (THM.STATUS_OD_FAULT, putBit (s.get THM.STATUS_OD_FAULT) s.thm.next true),
        (THM.OD_FAULT s.thm.next, 1), (THM.STATUS_SENSOR_FAULT, 1)]
      ({ s with thm := { s.thm with diff := s.thm.diff.set s.thm.next true, next := (s.thm.next + 1) % 12 } }.slotsTaken (s.diodeSlots s.thm.next))
      (fun t => (t.alarm 0x0D s.thm.next 0).tjEval)) ∧
  (∀ (d : Nat) (q : SndSlot) (s : State), (q ∈ s.diodeSlots d ↔ (s.snd.out.any (fun o => o.1 == q) = true ∧ q.input = 0x40 + d))) ∧
  (∀ (c : Fin 8) (us : Nat) (a : Int) (b : Nat) (s : State), (s.awake = false ∨ s.flag (THM.EXT_CFG_EN c) = false ∨ us < s.extPeriod c ∨ s.extMeasured c a b = none) → Runs (.extChannelReading c us a b) s []) ∧
  (∀ (c : Fin 8) (us : Nat) (a : Int) (b : Nat) (m : Int × Nat) (s : State), s.awake = true → s.flag (THM.EXT_CFG_EN c) = true → s.extPeriod c ≤ us → s.extMeasured c a b = some m →
    exec (.extChannelReading c us a b) s = .next ((s.slotsTaken (extSlots c)).extJudge c m.1 m.2)) ∧
  (∀ (c : Fin 8) (s : State), s.extPeriod c = (if s.flag (THM.EXT_STATUS_FAST c) = true then 5000 else 100000)) ∧
  (∀ (c : Fin 8) (x y num : Int) (den : Nat) (s : State), c.val < 4 → s.slotRead ⟨0x60 + c, 3, 2, 50, 0, 10⟩ = some x → s.slotRead ⟨0x60 + c, 3, 2, 50, 0, 100⟩ = some y →
    s.extMeasured c num den = some (5 * (y - x), 4 * 2 ^ 26)) ∧
  (∀ (c : Fin 8) (a : Int) (b : Nat) (s : State), (if c.val < 4 then rdTemp (s.get (THM.EXT_CONV_CONV c)) a b else thTemp (s.get (THM.EXT_CONV_CONV c)) a b) = none → s.flag (THM.EXT_STATUS_FAULT c) = true →
    let x := sext 16 (s.drawn 9 16)
    let fault := decide (x < -480) || decide (1200 < x)
    s.extJudge c a b = (((s.seti (THM.EXT_STATUS_TEMP c) x).setB (THM.EXT_STATUS_FAULT c) fault).extChange c
      (fun w => (w.extFast c x fault).extWindow c x fault)).drew) ∧
  (∀ (c : Fin 8) (a : Int) (b : Nat) (p : Int × Nat) (s : State),
    (if c.val < 4 then rdTemp (s.get (THM.EXT_CONV_CONV c)) a b else thTemp (s.get (THM.EXT_CONV_CONV c)) a b) = some p →
    -480 ≤ s.quot 9 p.1 p.2 → s.quot 9 p.1 p.2 ≤ 1200 →
    let x := s.quot 9 p.1 p.2
    s.extJudge c a b = (((s.seti (THM.EXT_STATUS_TEMP c) x).setB (THM.EXT_STATUS_FAULT c) false).extChange c
      (fun w => (w.extFast c x false).extWindow c x false)).drew) ∧
  (∀ (c : Fin 8) (x : Int) (s : State), x < s.geti (THM.EXT_WIN_LO c) ∨ s.geti (THM.EXT_WIN_HI c) < x → Becomes s [(THM.EXT_STATUS_OUT_WIN c, 1)] s (s.extWindow c x false)) ∧
  (∀ (c : Fin 8) (x : Int) (s : State), s.geti (THM.EXT_WIN_LO c) + 8 ≤ x → x ≤ s.geti (THM.EXT_WIN_HI c) - 8 → Becomes s [(THM.EXT_STATUS_OUT_WIN c, 0)] s (s.extWindow c x false)) ∧
  (∀ (s : State), s.awake = true → s.flag THM.STATUS_TRIPPED = true → s.tj ≤ s.warnLim - 16 →
    RunsThen .tripRel s [(THM.STATUS_TRIPPED, 0)] { s with saf := { s.saf with lane := s.saf.lane.map (fun l => { l with gate := l.gate.filter (· != 9) }) } }
      (fun t => (t.alarmEnd 0x0B 0).portsEval)) ∧
  (∀ (s : State), s.awake = true → (s.flag THM.STATUS_TRIPPED = false ∨ s.warnLim - 16 < s.tj) → RunsThen .tripRel s [] s (fun t => t.portsEval)) ∧
  (∀ (s : State), s.awake = true → Runs .peakClr s [(THM.TJ_TJ_PEAK, s.get THM.TJ_TJ)]) ∧
  (∀ (s : State), s.awake = true → Runs .thmCntClr s (zeroed [THM.CNT_WARN_CNT, THM.CNT_XCHK_CNT])) ∧
  (∀ (x : Int) (s : State), s.pwr.dev = .shelf → (8 * s.get THM.CTRL_SHELF_LIM : Nat) < x → exec (.shelfThermalSample x) s = .next (s.wakeFire 6 0)) ∧
  (∀ (x : Int) (s : State), (s.pwr.dev ≠ .shelf ∨ x ≤ (8 * s.get THM.CTRL_SHELF_LIM : Nat)) → Runs (.shelfThermalSample x) s [])

/-- LASER SAFETY, TRIPS AND PINS (R298 to R302, R306 to R309, R311, R313, R314, R479, R480, Table 14-1): comparators, latching and its
record, TX_DISABLE and LASER_CLR_N, the supervision loop and its gates, the dead-man, and the device-wide protections. -/
def Obligations.LaserSafety : Prop :=
  (∀ (n : Lane) (s : State), s.hiMv n = min 0x3E8 (s.get (SAF.LIM_HI n)) ∧ s.loMv n = max 0x010 (s.get (SAF.LIM_LO n))) ∧
  (∀ (n : Lane) (a b : BitVec 12) (s : State), (s.sf n).test = none → (s.hiMv n < a.toNat ∨ s.hiMv n < b.toNat) →
    (s.flag (SAF.INFO_ARMED_LO n) = false ∨ (s.loMv n ≤ a.toNat ∧ s.loMv n ≤ b.toNat)) →
    RunsThen (.comparatorTrip n a b) s [(SAF.STATUS_CMP_NOW, putBit (s.get SAF.STATUS_CMP_NOW) n true)]
      (s.setSf n (fun l => { l with mpdA := a.toNat, mpdB := b.toNat, clamp := l.clamp || s.get (BDA.CLR_CLR_CODE (biasChan n)) == 0 }))
      (fun t => (t.proofAbandon n).latch n 2 ((decide (s.hiMv n < a.toNat)).toNat + 2 * (decide (s.hiMv n < b.toNat)).toNat))) ∧
  (∀ (n : Lane) (a b : BitVec 12) (s : State), (s.sf n).test = none → s.flag (SAF.INFO_ARMED_LO n) = true → a.toNat ≤ s.hiMv n → b.toNat ≤ s.hiMv n →
    (a.toNat < s.loMv n ∨ b.toNat < s.loMv n) →
    RunsThen (.comparatorTrip n a b) s [(SAF.STATUS_CMP_NOW, putBit (s.get SAF.STATUS_CMP_NOW) n true)]
      (s.setSf n (fun l => { l with mpdA := a.toNat, mpdB := b.toNat, clamp := l.clamp || s.get (BDA.CLR_CLR_CODE (biasChan n)) == 0 }))
      (fun t => (t.proofAbandon n).latch n 3 ((decide (a.toNat < s.loMv n)).toNat + 2 * (decide (b.toNat < s.loMv n)).toNat))) ∧
  (∀ (n : Lane) (a b : BitVec 12) (s : State), a.toNat ≤ s.hiMv n → b.toNat ≤ s.hiMv n →
    (s.flag (SAF.INFO_ARMED_LO n) = false ∨ (s.loMv n ≤ a.toNat ∧ s.loMv n ≤ b.toNat)) →
    Runs (.comparatorTrip n a b) s [(SAF.STATUS_CMP_NOW, putBit (s.get SAF.STATUS_CMP_NOW) n false)] (s.setSf n (fun l => { l with mpdA := a.toNat, mpdB := b.toNat }))) ∧
  (∀ (n : Lane) (t : SafTest) (a b : BitVec 12) (s : State), (s.sf n).test = some t → t.stage = 0 → s.loMv n ≤ b.toNat → b.toNat ≤ s.hiMv n →
    Runs (.comparatorTrip n a b) s [(SAF.STATUS_CMP_NOW, putBit (s.get SAF.STATUS_CMP_NOW) n false)]
      (s.setSf n (fun l => { l with mpdA := a.toNat, mpdB := b.toNat }))) ∧
  (∀ (n : Lane) (cause chan : Nat) (s : State), s.bitOf SAF.STATUS_LATCH n = true →
    s.latch n cause chan = s.logRecord 5 n 1 (cause + 16 * chan + 256) (s.get (SAF.CNT_TRIP_CNT n)) 0 0) ∧
  (∀ (n : Lane) (cause chan : Nat) (s : State), s.bitOf SAF.STATUS_LATCH n = false → cause < 16 → chan < 4 →
    let u := s.safForce n (fun u => u.setBit SAF.STATUS_LATCH n true)
    let t := s.latch n cause chan
    t.get (SAF.INFO_CAUSE n) = cause ∧ t.get (SAF.INFO_CHAN n) = chan ∧ t.get (SAF.TRIP_TIME_TRIP_TIME n) = u.now % 2 ^ 32 ∧
      t.get (SAF.CNT_TRIP_CNT n) = u.once (SAF.CNT_TRIP_CNT n) ∧ t.get SAF.EVT_TRIP = 1 ∧ t.get SAF.STATUS_LATCH = u.get SAF.STATUS_LATCH ∧
      (t.sf n).trips = (u.now :: (u.sf n).trips).take 3) ∧
  (∀ (n : Lane) (c : Chan) (s : State), c.val % 8 = n.val → c.val < 16 → s.clearForced c = false →
    let t := s.forcing (fun u => u.setBit SAF.STATUS_LATCH n true)
    t.get (BDA.OUT_OUT c) = s.get (BDA.CLR_CLR_CODE c) % 2 ^ 16 ∧ (t.ch c).queue = [] ∧ (t.ch c).wait = true ∧ t.bitOf SAF.STATUS_LATCH n = true) ∧
  (∀ (n : Lane) (us : Nat) (s : State), (s.biasAbove n = false ∨ us < 800) → Runs (.loArm n us) s []) ∧
  (∀ (n : Lane) (us : Nat) (s : State), s.biasAbove n = true → 800 ≤ us → (s.sf n).test = none → s.cmpHi n = 0 → s.cmpLo n ≠ 0 →
    RunsThen (.loArm n us) s [(SAF.INFO_ARMED_LO n, 1), (SAF.STATUS_CMP_NOW, putBit (s.get SAF.STATUS_CMP_NOW) n true)]
      (s.setSf n (fun l => { l with clamp := l.clamp || s.get (BDA.CLR_CLR_CODE (biasChan n)) == 0 }))
      (fun t => (t.proofAbandon n).latch n 3 (s.cmpLo n))) ∧
  (∀ (n : Lane) (us : Nat) (s : State), s.biasAbove n = true → 800 ≤ us → s.cmpHi n = 0 → s.cmpLo n = 0 →
    Runs (.loArm n us) s [(SAF.INFO_ARMED_LO n, 1), (SAF.STATUS_CMP_NOW, putBit (s.get SAF.STATUS_CMP_NOW) n false)]) ∧
  (∀ (n : Lane) (s : State), s.flag (SAF.INFO_ARMED_LO n) = true → s.biasBelow n = true → (s.sf n).test = none →
    Runs (.loDisarm n) s [(SAF.INFO_ARMED_LO n, 0), (SAF.STATUS_CMP_NOW, putBit (s.get SAF.STATUS_CMP_NOW) n (s.cmpHi n != 0))]) ∧
  (∀ (n : Lane) (s : State), (s.flag (SAF.INFO_ARMED_LO n) = false ∨ s.biasBelow n = false) → Runs (.loDisarm n) s []) ∧
  (∀ (n : Lane) (u : Nat) (s : State), s.biasDrive (biasChan n) = .driven u →
    s.biasAbove n = decide (50 * 65536 < 1250 * u) ∧ s.biasBelow n = decide (1250 * u < 50 * 65536)) ∧
  (∀ (n : Lane) (s : State), (s.biasDrive (biasChan n) = .highZ ∨ s.biasDrive (biasChan n) = .grounded) → s.biasAbove n = false ∧ s.biasBelow n = true) ∧
  (∀ (n : Lane) (v : Bool) (s : State), exec (.txDisableEdge n v) s =
    .next (((({ s with saf := { s.saf with txd := putBit s.saf.txd n v } } : State).forcing (fun u => u.setBit SAF.STATUS_TXD_NOW n v)).demandEval n).evalLane n)) ∧
  (∀ (s : State), exec .laserClrNFall s =
    .next (((({ s with saf := { s.saf with clrPin := true } } : State).forcing (fun u => u.on SAF.STATUS_CLR_PIN_NOW)).demandAll).portsEval)) ∧
  (∀ (s : State), exec .laserClrNRise s =
    .next (((({ s with saf := { s.saf with clrPin := false } } : State).forcing (fun u => u.off SAF.STATUS_CLR_PIN_NOW)).demandAll).portsEval)) ∧
  (∀ (n : Lane) (s : State), s.shunt n = (if s.saf.uvlo then none else some (s.bitOf SAF.STATUS_LATCH n || s.bitOf SAF.STATUS_TXD_NOW n || s.flag SAF.STATUS_CLR_PIN_NOW))) ∧
  (∀ (tick : Bool) (s : State), s.awake = true → s.supReady = true →
    exec (.supervisionPass tick) s = .next (
      let t := (List.finRange 8).foldl (fun t n => t.supLane n ((s.slotRead (s.supSlot n)).getD 0) tick) s
      let u := (t.slotsTaken ((List.finRange 8).map s.supSlot)).off SAF.STATUS_SUP_DEAD
      if u.anyLit then u else u.off SND.STATUS_SUP_ACTIVE)) ∧
  (∀ (tick : Bool) (s : State), (s.awake = false ∨ s.supReady = false) → Runs (.supervisionPass tick) s []) ∧
  (∀ (s : State), (s.supReady = true ↔ ∀ n : Lane, (s.lit n = true ∨ s.bitOf SAF.CTRL_SUP_GATE n = true) → (s.slotRead ⟨s.get (SAF.INFO_SUP_IN n), 0, 0, 20, 0, 0⟩).isSome = true)) ∧
  (∀ (n : Lane) (x : Int) (s : State), s.lit n = true → s.bitOf SAF.CTRL_SUP_GATE n = false → s.supViolates n x = false →
    Becomes s [] (s.setSf n (fun l => { l with lit := true, code := s.get (BDA.OUT_OUT (biasChan n)) })) (s.supLane n x true)) ∧
  (∀ (n : Lane) (x : Int) (tick : Bool) (s : State), (tick = false ∨ (s.lit n = true ∧ s.supViolates n x = true)) →
    s.supLane n x tick = (s.setSf n (fun l => { l with lit := s.lit n, code := s.get (BDA.OUT_OUT (biasChan n)) })).gateClose n 4) ∧
  (∀ (n : Lane) (x : Int) (s : State), (s.get (SAF.SUP_SUP_HI n) : Int) * 8388608 < 1250 * x → s.supViolates n x = true) ∧
  (∀ (n : Lane) (x : Int) (s : State), 1250 * x ≤ s.get (SAF.SUP_SUP_HI n) * 8388608 → (s.sf n).lit = false → s.supViolates n x = false) ∧
  (∀ (n : Lane) (x : Int) (s : State), 1250 * x ≤ s.get (SAF.SUP_SUP_HI n) * 8388608 → s.lit n = true → (s.sf n).lit = true → (s.sf n).supTol = 0 →
    s.supViolates n x = decide (1250 * x < s.get (SAF.SUP_SUP_LO n) * 8388608)) ∧
  (∀ (n : Lane) (s : State), s.awake = true → (s.sf n).gate = [] →
    exec (.supGateOpen n) s = .next (((s.forcing (fun u => u.setBit SAF.CTRL_SUP_GATE n false)).demandEval n).evalLane n)) ∧
  (∀ (n : Lane) (s : State), (s.sf n).gate ≠ [] → Runs (.supGateOpen n) s []) ∧
  (∀ (s : State), s.awake = true → Runs .safKick s [(SAF.STATUS_SUP_DEAD, 0)]) ∧
  (∀ (us : Nat) (s : State), s.awake = true → s.flag SND.STATUS_SUP_ACTIVE = true → 1000 * max 1 (min 0x32 (s.get SAF.SUPCFG_SUP_TMO)) ≤ us →
    RunsThen (.deadmanExpiry us) s [(SAF.STATUS_SUP_DEAD, 1), (SAF.EVT_DEADMAN, 1)] s (fun t => t.gateAll 5)) ∧
  (∀ (us : Nat) (s : State), (s.flag SND.STATUS_SUP_ACTIVE = false ∨ us < 1000 * max 1 (min 0x32 (s.get SAF.SUPCFG_SUP_TMO))) → Runs (.deadmanExpiry us) s []) ∧
  (∀ (s : State), s.awake = true → RunsThen .clockLoss s [(SAF.STATUS_CLK_LOSS_NOW, 1), (SAF.EVT_CLK_LOSS, 1)] s (fun t => t.gateAll 6)) ∧
  (∀ (us : Nat) (s : State), us < 1000 → Runs (.clkLossClear us) s []) ∧
  (∀ (us : Nat) (s : State), us < 1000 → Runs (.supplyNowClear us) s []) ∧
  (∀ (us : Nat) (s : State), 1000 ≤ us → Runs (.clkLossClear us) s [(SAF.STATUS_CLK_LOSS_NOW, 0)] { s with saf := { s.saf with lane := s.saf.lane.map (fun l => { l with gate := l.gate.filter (· != 6) }) } }) ∧
  (∀ (mv : BitVec 16) (s : State), 1100 ≤ mv.toNat → mv.toNat ≤ 1320 → Runs (.supplyFault mv) s []) ∧
  (∀ (mv : BitVec 16) (s : State), 1550 ≤ mv.toNat → Runs (.vddioUvlo mv) s []) ∧
  (∀ (mv : BitVec 16) (s : State), (s.pwr.dev = .off ∨ s.saf.uvlo = true) → Runs (.supplyFault mv) s []) ∧
  (∀ (mv : BitVec 16) (s : State), s.pwr.dev ≠ .off → s.saf.uvlo = false → (mv.toNat < 1100 ∨ 1320 < mv.toNat) →
    RunsThen (.supplyFault mv) s [(SAF.STATUS_SUPPLY_NOW, 1), (SAF.EVT_SUPPLY, 1)] { s with saf := { s.saf with supplyOut := true } }
      (fun t => let u := (List.finRange 8).foldl (fun v n => v.loFollow n) t; if s.awake then u.latchAll 7 else u)) ∧
  (∀ (us : Nat) (s : State), 1000 ≤ us → Runs (.supplyNowClear us) s [(SAF.STATUS_SUPPLY_NOW, 0)] { s with saf := { s.saf with supplyOut := false } }) ∧
  (∀ (mv : BitVec 16) (s : State), mv.toNat < 1550 → Runs (.vddioUvlo mv) s [] { s with saf := { s.saf with uvlo := true } }) ∧
  (∀ (n : Lane) (s : State), s.saf.uvlo = true → s.shunt n = none) ∧
  (∀ (n : Lane) (hi lo : BitVec 10) (s : State), s.awake = true → s.bitOf SAF.STATUS_LATCH n = true →
    Runs (.safLimWrite n hi lo) s [(SAF.LIM_HI n, hi.toNat), (SAF.LIM_LO n, lo.toNat), (SAF.STATUS_CMP_NOW, putBit (s.get SAF.STATUS_CMP_NOW) n
      (((s.set (SAF.LIM_HI n) hi.toNat).set (SAF.LIM_LO n) lo.toNat).cmpNow n))]) ∧
  (∀ (n : Lane) (hi lo : BitVec 10) (s : State), s.awake = true → s.bitOf SAF.STATUS_LATCH n = false → Runs (.safLimWrite n hi lo) s [(SAF.EVT_LIM_REFUSED, 1)]) ∧
  (∀ (s : State), s.awake = true → Runs .safCntClr s (zeroed ((List.range 8).flatMap (fun n => [SAF.CNT_TRIP_CNT n, SAF.CNT_PROOF_FAIL_CNT n]))))

/-- RELEASES AND PROOF TESTS (R303 to R305, R351, R456): the release of a latch, its refusals, the test of a lane channel by channel and its
end, and the periodic test. -/
def Obligations.ReleasesAndProofTests : Prop :=
  (∀ (lanes ack : BitVec 8) (s : State), s.awake = true → (∀ n : Lane, lanes.getLsbD n.val = true → s.bitOf SAF.STATUS_LATCH n = false) →
    Runs (.safRelease lanes ack) s [(SAF.REL_LANES, lanes.toNat), (SAF.REL_LASTING_ACK, ack.toNat)]) ∧
  (∀ (n : Lane) (ack : BitVec 8) (s : State), s.awake = true → s.bitOf SAF.STATUS_LATCH n = true → s.flag CFG.BOOT_SAFE_BOOT = false → s.flag TST.STATUS_SAFE_HOLD = false →
    (s.portOf n).isSome = true → s.cmpNow n = false → s.bitOf SAF.STATUS_TXD_NOW n = false → s.flag SAF.STATUS_CLR_PIN_NOW = false → s.bitOf SAF.CTRL_SUP_GATE n = false →
    s.flag SAF.STATUS_SUP_DEAD = false → s.flag SAF.STATUS_CLK_LOSS_NOW = false → s.flag SAF.STATUS_SUPPLY_NOW = false →
    (s.flag (SAF.INFO_LASTING n) = false ∨ ack.getLsbD n.val = true) →
    Runs (.safRelease (BitVec.ofNat 8 (2 ^ n.val)) ack) s [(SAF.REL_LANES, 2 ^ n.val), (SAF.REL_LASTING_ACK, ack.toNat)]
      (s.setSf n (fun l => { l with due := true, release := some (ack.getLsbD n.val) }))) ∧
  (∀ (n : Lane) (ack : BitVec 8) (s : State), s.awake = true → s.bitOf SAF.STATUS_LATCH n = true →
    ((s.portOf n).isNone = true ∨ s.cmpNow n = true ∨ s.bitOf SAF.STATUS_TXD_NOW n = true ∨ s.flag SAF.STATUS_CLR_PIN_NOW = true ∨ s.bitOf SAF.CTRL_SUP_GATE n = true ∨
      s.flag SAF.STATUS_SUP_DEAD = true ∨ s.flag SAF.STATUS_CLK_LOSS_NOW = true ∨ s.flag SAF.STATUS_SUPPLY_NOW = true ∨
      (s.flag (SAF.INFO_LASTING n) = true ∧ ack.getLsbD n.val = false) ∨ s.flag CFG.BOOT_SAFE_BOOT = true ∨ s.flag TST.STATUS_SAFE_HOLD = true) →
    Runs (.safRelease (BitVec.ofNat 8 (2 ^ n.val)) ack) s [(SAF.REL_LANES, 2 ^ n.val), (SAF.REL_LASTING_ACK, ack.toNat), (SAF.EVT_REL_REFUSED, 1)]) ∧
  (∀ (n : Lane) (s : State), (s.sf n).due = true → (s.sf n).test = none → s.braced = false →
    Runs (.proofTestStart n) s [(SAF.STATUS_PROOF_BUSY, 1), (SAF.STATUS_CMP_NOW, putBit (s.get SAF.STATUS_CMP_NOW) n
        (bit (s.cmpHi n) 1 || (s.flag (SAF.INFO_ARMED_LO n) && bit (s.cmpLo n) 1)))]
      (s.setSf n (fun l => { l with due := false, release := none, test := some ⟨0, l.release, l.asked⟩, asked := false }))) ∧
  (∀ (n : Lane) (s : State), ((s.sf n).due = false ∨ (s.sf n).test.isSome = true ∨ s.braced = true) → Runs (.proofTestStart n) s []) ∧
  (∀ (n : Lane) (t : SafTest) (s : State), (s.sf n).test = some t → t.stage = 0 → s.proofTripped n 0 = false →
    Runs (.proofChannelDone n true true true) s [(SAF.INFO_PROOF_A_OK n, 1), (SAF.STATUS_CMP_NOW, putBit (s.get SAF.STATUS_CMP_NOW) n false)]
      (s.setSf n (fun l => { l with test := some { t with stage := 1 } }))) ∧
  (∀ (n : Lane) (t : SafTest) (s : State), (s.sf n).test = some t → t.stage = 1 → s.proofTripped n 0 = false → s.proofTripped n 1 = false →
    Runs (.proofChannelDone n true true true) s [(SAF.INFO_PROOF_B_OK n, 1), (SAF.STATUS_CMP_NOW, putBit (s.get SAF.STATUS_CMP_NOW) n false)]
      (s.setSf n (fun l => { l with test := some { t with stage := 2 } }))) ∧
  (∀ (n : Lane) (stage : Fin 2) (s : State), s.proofTripped n stage = (bit (s.cmpHi n) stage || (s.flag (SAF.INFO_ARMED_LO n) && bit (s.cmpLo n) stage))) ∧
  (∀ (n : Lane) (t : SafTest) (hi lo quiet : Bool) (s : State), (s.sf n).test = some t → t.stage < 2 → (hi = false ∨ lo = false ∨ quiet = false ∨ s.proofTripped n t.stage = true) →
    RunsThen (.proofChannelDone n hi lo quiet) s [(if t.stage = 0 then SAF.INFO_PROOF_A_OK n else SAF.INFO_PROOF_B_OK n, 0),
        (SAF.CNT_PROOF_FAIL_CNT n, s.once (SAF.CNT_PROOF_FAIL_CNT n)), (SAF.EVT_PROOF_FAIL, 1)]
      (s.setSf n (fun l => { l with test := some { t with stage := t.stage + 1 } })) (fun u => (u.latch n 10 0).cmpAct n)) ∧
  (∀ (n : Lane) (t : SafTest) (s : State), (s.sf n).test = some t → t.stage = 2 → t.release = none → (∀ m : Lane, m ≠ n → (s.sf m).test = none) →
    Runs (.proofTestEnd n) s ([(SAF.STATUS_PROOF_BUSY, 0), (SAF.STATUS_CMP_NOW, putBit (s.get SAF.STATUS_CMP_NOW) n (s.cmpHi n != 0 || (s.flag (SAF.INFO_ARMED_LO n) && s.cmpLo n != 0)))] ++ (if t.asked = true ∧ (s.sf n).asked = false then [(SAF.CMD_PROOF, putBit (s.get SAF.CMD_PROOF) n false)] else []))
      (s.setSf n (fun l => { l with test := none, proofAt := s.now }))) ∧
  (∀ (n : Lane) (ack asked : Bool) (s : State), (s.sf n).test = some ⟨2, some ack, asked⟩ → s.flag (SAF.INFO_PROOF_A_OK n) = true → s.flag (SAF.INFO_PROOF_B_OK n) = true →
    (s.proofOver n).relRefuses n ack = false →
    exec (.proofTestEnd n) s = .next ((((((s.proofOver n).setSf n (fun l => { l with clamp := false })).forcing (fun u => u.setBit SAF.STATUS_LATCH n false)).demandEval n).evalLane n).off (SAF.INFO_LASTING n) |>.alarmEnd 0x0F n)) ∧
  (∀ (n : Lane) (ack asked : Bool) (s : State), (s.sf n).test = some ⟨2, some ack, asked⟩ → (s.flag (SAF.INFO_PROOF_A_OK n) = false ∨ s.flag (SAF.INFO_PROOF_B_OK n) = false ∨ (s.proofOver n).relRefuses n ack = true) →
    exec (.proofTestEnd n) s = .next ((s.proofOver n).on SAF.EVT_REL_REFUSED)) ∧
  (∀ (n : Lane) (s : State), s.flag SAF.CTRL_PERIODIC_EN = true → 60000 * max 1 (s.get SAF.SUPCFG_PROOF_INT) ≤ s.since (s.sf n).proofAt → s.lstate n ≠ 0 →
    Runs (.periodicProofDue n) s [] (s.setSf n (fun l => { l with due := true }))) ∧
  (∀ (n : Lane) (s : State), (s.flag SAF.CTRL_PERIODIC_EN = false ∨ s.lstate n = 0) → Runs (.periodicProofDue n) s []) ∧
  (∀ (n : Lane) (s : State), s.awake = true → Runs (.safProof n) s [(SAF.CMD_PROOF, putBit (s.get SAF.CMD_PROOF) n true)] (s.setSf n (fun l => { l with due := true, asked := true })))

/-- THE WAKE SEQUENCE (R316 to R318, R320, R321, R342, R378, Tables 15-3 and 15-4): its steps in order, a stall and the one retry, the
entry to Run, and the wake sources. -/
def Obligations.WakeSequence : Prop :=
  (∀ (s : State), s.pwr.dev = .waking 1 → Runs .pgCore s [] (s.setPwr (fun p => { p with dev := .waking 2 }))) ∧
  (∀ (s : State), s.pwr.dev = .waking 2 → s.variant = true → s.flag PWR.CTRL_QDR_EN = true →
    Runs .pgA12 s [] (s.setPwr (fun p => { p with dev := .waking 3 }))) ∧
  (∀ (s : State), s.pwr.dev = .waking 2 → (s.variant = false ∨ s.flag PWR.CTRL_QDR_EN = false) →
    Runs .pgA12 s [] (s.setPwr (fun p => { p with dev := .waking 4 }))) ∧
  (∀ (s : State), s.pwr.dev = .waking 3 → Runs .pgQdr s [] (s.setPwr (fun p => { p with dev := .waking 4 }))) ∧
  (∀ (s : State), s.pwr.dev = .waking 4 → Runs .oscRdy s [] (s.setPwr (fun p => { p with dev := .waking 5 }))) ∧
  (∀ (s : State), s.pwr.dev = .waking 5 →
    Runs .memRdy s ([(MEM.STATUS_SRAM_RDY, 1)] ++ (List.range 18).map (fun b => (MEM.BANK_BUCKET b, 0)) ++ (List.range 16).map (fun b => (MEM.BANK_SPARES_USED b, 0)))
      { (s.setPwr (fun p => { p with dev := .waking 6 })) with
        mem := { cells := s.mem.cells.filter (fun c => decide (0x20000000 ≤ c.1)), poison := s.mem.poison.filter (fun w => decide (0x20000000 ≤ w)),
                 merge := s.mem.merge.filter (fun e => decide (0x20000000 ≤ e.addr)) } }) ∧
  (∀ (post : Bool) (s : State), s.pwr.dev = .waking 6 → s.lc = 5 →
    exec (.lgcRdy post) s = .next (((s.straps.off CFG.QS_VALID).setBoot (fun b => { b with wdt := some 0 })).setPwr (fun p => { p with dev := .doze, second := false, otherFw := false }))) ∧
  (∀ (post : Bool) (s : State), s.pwr.dev = .waking 6 → s.lc ≠ 5 → s.flash = [] →
    Ends (.lgcRdy post) s (fun t => t.pwr.dev = .doze ∧ t.get CFG.BOOT_FW_NONE = 1 ∧ t.get CFG.BOOT_SAFE_BOOT = 1 ∧ t.get CFG.RIG_CHK_FWCHK0 = 1 ∧
      t.get CFG.RIG_CHK_FWCHK1 = 1 ∧ t.mgt.image = [(0, 0x19), (3, 0x0A), (0x7D, 0x5E)] ∧ t.boot.wdt = some 0 ∧ t.get CFG.QS_VALID = 0)) ∧
  (∀ (s : State), s.pwr.dev = .doze → s.pwr.laneAsk = true → s.flag THM.STATUS_TRIPPED = false → s.boot.rigNow = none →
    RunsThen .pgLane s [] (s.setPwr (fun p => { p with dev := .run, laneAsk := false })) (fun t => (t.reelRelease.stallAlarm).portsEval)) ∧
  (∀ (s : State), (s.pwr.dev ≠ .doze ∨ s.pwr.laneAsk = false ∨ s.flag THM.STATUS_TRIPPED = true) → Runs .pgLane s []) ∧
  (∀ (us : Nat) (s : State), us < (match s.pwr.dev with | .waking 4 => 2000 | .waking 5 => 1000 | .waking 6 => 1000 | _ => 1000 * max 1 (s.get PWR.SEQ_SEQ_TMO)) → Runs (.wakeStepTimeout us) s []) ∧
  (∀ (st : Fin 7) (us : Nat) (s : State), s.pwr.dev = .waking st → (if st = 4 then 2000 else if st = 5 ∨ st = 6 then 1000 else 1000 * max 1 (s.get PWR.SEQ_SEQ_TMO)) ≤ us →
    Runs (.wakeStepTimeout us) s [(PWR.STALL_STEP, st), (PWR.STALL_STALL_CNT, s.once PWR.STALL_STALL_CNT), (PWR.STATUS_WAKE_STALL, 1)]
      (s.setPwr (fun p => { p with dev := .shelf, retry := !p.second, stalled := some st }))) ∧
  (∀ (us : Nat) (s : State), s.pwr.dev = .doze → s.pwr.laneAsk = true → 1000 * max 1 (s.get PWR.SEQ_SEQ_TMO) ≤ us →
    Runs (.wakeStepTimeout us) s [(PWR.STALL_STEP, 7), (PWR.STALL_STALL_CNT, s.once PWR.STALL_STALL_CNT), (PWR.STATUS_WAKE_STALL, 1)]
      (s.setPwr (fun p => { p with laneAsk := false, laneStall := true, stalled := some 7 }))) ∧
  (∀ (s : State), s.pwr.dev = .shelf → s.pwr.retry = true → s.pwr.resetLow = false →
    Runs .wakeRetry s [] (s.setPwr (fun p => { p with dev := .waking 1, retry := false, second := true }))) ∧
  (∀ (s : State), (s.pwr.dev ≠ .shelf ∨ s.pwr.retry = false) → Runs .wakeRetry s []) ∧
  (∀ (b : Fin 9) (det : Fin 16) (s : State), s.bitOf PWR.WAKE_EN_EN b = false → Becomes s [] s (s.wakeFire b det)) ∧
  (∀ (b : Fin 9) (det : Fin 16) (s : State), s.bitOf PWR.WAKE_EN_EN b = true → s.pwr.dev = .shelf → s.pwr.resetLow = false →
    Becomes s [(PWR.LAST_WAKE_SOURCE, b.val + 2), (PWR.LAST_WAKE_DETAIL, det), (PWR.LAST_WAKE_RACE, 0), (PWR.LAST_WAKE_ASLEEP, 1),
        (PWR.LAST_WAKE1_TIME_LO, s.now), (PWR.LAST_WAKE2_TIME_HI, s.now / 2 ^ 32)]
      (s.setPwr (fun p => { p with dev := .waking 1, second := false, retry := false, source := b.val + 2, detail := det })) (s.wakeFire b det)) ∧
  (∀ (b : Fin 9) (det : Fin 16) (s : State), s.bitOf PWR.WAKE_EN_EN b = true → s.awake = true → s.pwr.sleeps = [] →
    Becomes s [(PWR.LAST_WAKE_SOURCE, b.val + 2), (PWR.LAST_WAKE_DETAIL, det), (PWR.LAST_WAKE_RACE, 0), (PWR.LAST_WAKE_ASLEEP, 0),
        (PWR.LAST_WAKE1_TIME_LO, s.now), (PWR.LAST_WAKE2_TIME_HI, s.now / 2 ^ 32)] s (s.wakeFire b det)) ∧
  (∀ (b : Fin 9) (det : Fin 16) (s : State), s.bitOf PWR.WAKE_EN_EN b = true → s.awake = true → s.pwr.sleeps ≠ [] →
    let t := s.wakeFire b det
    t = s.wakeRace.lastWake (b.val + 2) det true false ∧ t.get PWR.LAST_WAKE_RACE = 1) ∧
  (∀ (j : Host) (mv : BitVec 16) (s : State), s.sdLevel j ≤ mv.toNat → exec (.hostSdWake j mv) s = .next (s.wakeFire 1 j).packUndo) ∧
  (∀ (j : Host) (mv : BitVec 16) (s : State), mv.toNat < s.sdLevel j → Runs (.hostSdWake j mv) s []) ∧
  (∀ (s : State), exec .mgmtWake s = .next (s.wakeFire 3 0).packUndo) ∧
  (∀ (p : PortId) (s : State), s.pwr.sleeps = [⟨.nap p, .bit, [], false, false, none, false⟩] →
    s.wakeRace = s.sleepRefuse (.nap p) 5) ∧
  (∀ (g : Fin 5) (w : Fin 3) (s : State), s.variant = true → s.pwr.perst = false →
    exec (.perstNRise false g w) s = .next ((((s.setPwr (fun p => { p with perst := true })).pcieLink g w).wakeFire 4 0).packUndo)) ∧
  (∀ (g : Fin 5) (w : Fin 3) (s : State), s.variant = true →
    exec (.perstNRise true g w) s = .next (((s.pcieLink g w).wakeFire 4 0).packUndo)) ∧
  (∀ (g : Fin 5) (w : Fin 3) (s : State), s.awake = true → s.pwr.perst = true → s.flag TTH.STATUS_ROLE = true →
    Becomes s [(PCI.STATUS_SPEED, g.val), (PCI.STATUS_WIDTH, if g = 0 then 0 else 2 ^ w.val)] s (s.pcieLink g w)) ∧
  (∀ (g : Fin 5) (w : Fin 3) (s : State), (s.awake = false ∨ s.pwr.perst = false ∨ s.flag TTH.STATUS_ROLE = false) → Becomes s [] s (s.pcieLink g w)) ∧
  (∀ (req : Bool) (g : Fin 5) (w : Fin 3) (s : State), (s.variant = false ∨ (req = false ∧ s.pwr.perst = true)) → Runs (.perstNRise req g w) s []) ∧
  (∀ (p : Fin 2) (s : State), s.variant = true → exec (.tetherWake p) s = .next (s.wakeFire 5 p).packUndo) ∧
  (∀ (p : Fin 2) (s : State), s.variant = false → Runs (.tetherWake p) s []) ∧
  (∀ (s : State), s.flag PWR.TIMER1_ARMED = true → s.bitOf PWR.WAKE_EN_EN 7 = true → s.get PWR.TIMER_WAKE_AT + 2 ^ 32 * s.get PWR.TIMER1_WAKE_AT_HI ≤ s.now →
    RunsThen .wakeTimer s [(PWR.TIMER1_ARMED, 0)] s (fun t => (t.wakeFire 7 0).packUndo)) ∧
  (∀ (s : State), s.flag PWR.TIMER1_ARMED = false → exec .wakeTimer s = .next s.packUndo) ∧
  (∀ (g : Fin 32) (high : Bool) (s : State), g.val = s.get PWR.WAKE_EN_GPIO_SEL → high = s.flag PWR.WAKE_EN_GPIO_POL →
    exec (.gpioWake g high) s = .next (s.wakeFire 8 g).packUndo) ∧
  (∀ (g : Fin 32) (high : Bool) (s : State), (g.val ≠ s.get PWR.WAKE_EN_GPIO_SEL ∨ high ≠ s.flag PWR.WAKE_EN_GPIO_POL) → Runs (.gpioWake g high) s []) ∧
  (∀ (v : BitVec 16) (s : State), s.awake = true → Runs (.wakeAtHiWrite v) s [(PWR.TIMER1_WAKE_AT_HI, v.toNat), (PWR.TIMER1_ARMED, 1)])

/-- SLEEP ENTRIES (R200, R316, R319, R322 to R324, R328, Table 15-5): the request of Shelf, the fall to Doze, asking the users, a refusal and
its record, the quiesce time, the retry, and the commit. -/
def Obligations.SleepEntries : Prop :=
  (∀ (s : State), s.flag PWR.CTRL_LPMODE_EN = true →
    exec .lpmodeRise s = .next ((s.setPwr (fun p => { p with lpmode := true })).shelfAsk .pin)) ∧
  (∀ (s : State), s.flag PWR.CTRL_LPMODE_EN = false → Runs .lpmodeRise s [] (s.setPwr (fun p => { p with lpmode := true }))) ∧
  (∀ (s : State), (s.sleepReq .shelf).any (fun q => q.src == .pin) = false → s.bitOf PWR.WAKE_EN_EN 2 = false → s.sec.abandon = false →
    Runs .lpmodeFall s [] (s.setPwr (fun p => { p with lpmode := false }))) ∧
  (∀ (s : State), s.sleepReq .shelf = some ⟨.shelf, .pin, [], false, false, none, false⟩ → s.bitOf PWR.WAKE_EN_EN 2 = false →
    exec .lpmodeFall s = .next ((((s.setPwr (fun p => { p with lpmode := false })).sleepUndo .shelf).dropSleep .shelf).portsEval).packUndo) ∧
  (∀ (k : SleepKind) (s : State), s.sleepReq k = none → exec (.quiesceRequest k) s = .next s.packUndo) ∧
  (∀ (p : PortId) (c : Nat) (q : SleepReq) (s : State), s.sleepReq (.nap p) = some q → q.granted = false → q.rung = none → (q.hold = false ∨ s.braced = false) → s.pstate p ≠ 0 → s.pstate p ≠ 7 → s.refuser (.nap p) = some c →
    exec (.quiesceRequest (.nap p)) s = .next (s.sleepRefuse (.nap p) c).packUndo) ∧
  (∀ (p : PortId) (c : Nat) (b : Bool) (q : SleepReq) (s : State), s.sleepReq (.nap p) = some q → q.granted = false → q.rung = some b → q.src = .ballast → (q.hold = false ∨ s.braced = false) → s.pstate p ≠ 0 → s.pstate p ≠ 7 →
    s.pwr.rungs = [] → s.refuser (.nap p) = some c →
    let u := s.sleepRefuse (.nap p) c
    exec (.quiesceRequest (.nap p)) s = .next (u.napRung b (u.napOrder.filter (· != p))).packUndo) ∧
  (∀ (p : PortId) (q : SleepReq) (s : State), s.sleepReq (.nap p) = some q → q.granted = false → q.rung = none → (q.hold = false ∨ s.braced = false) → s.pstate p ≠ 0 → s.pstate p ≠ 7 → s.refuser (.nap p) = none →
    (∀ c : ReelId, (s.reel.get c).bursts = [] ∧ s.get (REEL.CH_STATUS_STATE c) = 0) → (∀ n ∈ s.lanesOf p, s.locQuiet n = true ∧ (s.ln n).rx.abandPend = false ∧ (s.ln n).cal.phase = none) → s.sec.abandon = false →

    Ends (.quiesceRequest (.nap p)) s (fun t => t.sleepReq (.nap p) = some { q with asked := false, granted := true } ∧ (t.pt p).napReq = true ∧
      (∀ n ∈ s.lanesOf p, (t.ln n).cal.quiesced = true) ∧ t.pstate p = s.pstate p)) ∧
  (∀ (p : PortId) (q : SleepReq) (s : State), s.sleepReq (.nap p) = some q → q.rung = none → (s.pstate p = 0 ∨ s.pstate p = 7) → s.sleepMbx (.nap p) = false → s.sec.abandon = false →
    Runs (.quiesceRequest (.nap p)) s [] (s.setPwr (fun x => { x with sleeps := x.sleeps.filter (fun r => r.kind != .nap p) }))) ∧
  (∀ (p : PortId) (c : Nat) (q : SleepReq) (s : State), 1 ≤ c → c ≤ 7 → q.counted = [] → q.kind = .nap p →
    Becomes s ([(refuseCnt c, s.once (refuseCnt c))] ++ (s.lanesOf p).map (fun (n : Lane) => (PWR.LANE_REFUSE_COUNT n, s.once (PWR.LANE_REFUSE_COUNT n))) ++
        (s.lanesOf p).map (fun (n : Lane) => (PWR.LANE_REFUSE_LAST_REFUSER n, c)))
      (s.setSleep (.nap p) (fun r => { r with counted := c :: r.counted })) (s.refuseNote q c)) ∧
  (∀ (k : SleepKind) (us : Nat) (s : State), us < max 1 (s.get PWR.QUIESCE_PWR_QUIESCE_TMO) → Runs (.quiesceTimeout k us) s []) ∧
  (∀ (k : SleepKind) (us : Nat) (q : SleepReq) (s : State), max 1 (s.get PWR.QUIESCE_PWR_QUIESCE_TMO) ≤ us → s.sleepReq k = some q → q.asked = false → q.src ≠ .ballast →
    exec (.quiesceTimeout k us) s = .next s.packUndo) ∧
  (∀ (k : SleepKind) (us : Nat) (q : SleepReq) (s : State), max 1 (s.get PWR.QUIESCE_PWR_QUIESCE_TMO) ≤ us → s.sleepReq k = some q → q.asked = true → q.src ≠ .ballast → q.rung = none → s.reelQuiet (s.sleepDomain k) = false →
    s.flag PWR.CTRL_QUIESCE_POLICY = false → s.flag THM.STATUS_TRIPPED = false →
    exec (.quiesceTimeout k us) s = .next (s.sleepRefuse k 2).packUndo) ∧
  (∀ (k : SleepKind) (q : SleepReq) (s : State), s.sleepReq k = some q → q.asked = false → (q.src = .bit ∨ q.src = .pin) → q.rung = none →
    exec (.sleepRetry k) s = .next (s.sleepTry k).packUndo) ∧
  (∀ (k : SleepKind) (q : SleepReq) (s : State), s.sleepReq k = some q → (q.src = .mailbox ∨ q.src = .ballast) → Runs (.sleepRetry k) s []) ∧
  (∀ (us : Nat) (s : State), (s.pwr.dev ≠ .run ∨ (s.allDown = true ∧ s.flag THM.STATUS_TRIPPED = false ∧ us < 1000 * s.get PWR.SEQ_DOZE_HOLD)) → Runs (.dozeEntry us) s []) ∧
  (∀ (us : Nat) (s : State), (s.flag THM.STATUS_TRIPPED = true ∨ 1000 * s.get PWR.SEQ_DOZE_HOLD ≤ us) → s.pwr.dev = .run → s.allDown = true → s.sleepReq .doze = none → s.refuser .doze = none → (∀ c : ReelId, (s.reel.get c).bursts = []) → s.reelQuiet (.lanes (List.finRange 8)) = true → s.braced = false →
    s.pwr.sleeps = [] →
    Ends (.dozeEntry us) s (fun t => t.pwr.dev = .doze ∧ t.pwr.laneAsk = false ∧ t.pwr.sleeps = [] ∧ (∀ n : Lane, (t.ln n).power = .off) ∧ (∀ j : Host, (t.hl j).power = .off))) ∧
  (∀ (q : SleepReq) (s : State), s.awake = true → s.sleepReq .shelf = some q → q.granted = true → s.pwr.packed = true → s.braced = false →
    Ends .shelfCommit s (fun t => t = (s.flushAll.classesCleared false).setPwr (fun p => { p with dev := .shelf, retry := false, second := false }) ∧
      t.pwr.dev = .shelf ∧ t.pwr.sleeps = [] ∧ t.now = s.now ∧ t.mem.cells = [] ∧ t.mem.merge = [])) ∧
  (∀ (s : State), (s.awake = false ∨ s.pwr.packed = false ∨ s.braced = true ∨ (s.sleepReq .shelf).any (fun q => q.granted) = false) → Runs .shelfCommit s []) ∧
  (∀ (f : Field) (s : State), keyRet f.key ≠ .pl → f.key ≠ SAF.STATUS_TXD_NOW.key → f.key ≠ SAF.STATUS_CLR_PIN_NOW.key → (s.classesCleared false).get f = f.reset) ∧
  (∀ (f : Field) (s : State), keyRet f.key = .pl → f.key ≠ SAF.STATUS_TXD_NOW.key → f.key ≠ SAF.STATUS_CLR_PIN_NOW.key → (s.classesCleared false).get f = s.get f)

/-- BROWNOUT AND BALLAST (R325, R326, R329 to R333, R335, Tables 15-6 to 15-9): the brace and its end, a press of the ladder for each cause,
mode rungs and Nap rungs, the end of the ladder, a restore in reverse order, and the counters. -/
def Obligations.BrownoutAndBallast : Prop :=
  (∀ (s : State), s.awake = true → s.braced = false → s.sec.slice = none → s.sec.abandon = false →
    RunsThen (.braceStart none) s [(PWR.BROWN_DIP_COUNT, s.once PWR.BROWN_DIP_COUNT)] s
      (fun t => ((t.each (List.finRange 8) (fun n u => u.injPass (biasChan n))).on PWR.STATUS_BRACE_NOW).each (List.finRange 8)
        (fun n u => ((u.dacCancel n).kiteAbort n).setCal n (fun c => { c with winDirty := true })))) ∧
  (∀ (s : State), (∀ n : Lane, (s.kl n).tx = none ∧ (s.ln n).tx.dac = none) → s.awake = true → s.braced = false → s.sec.slice = none → s.sec.abandon = false →
    Ends (.braceStart none) s (fun t => t.braced = true ∧ ∀ n : Lane, (t.ln n).cal.winDirty = true)) ∧
  (∀ (k : Option SleepKind) (s : State), (s.awake = false ∨ s.braced = true) → exec (.braceStart k) s = .next s.packUndo) ∧
  (∀ (k : SleepKind) (q : SleepReq) (s : State), s.awake = true → s.braced = false → s.sleepReq k = some q → q.granted = true →
    exec (.braceStart (some k)) s = .next (((s.sleepUndo k).setSleep k (fun r => { r with hold := true })).braceStart none).packUndo) ∧
  (∀ (k : SleepKind) (q : SleepReq) (s : State), s.awake = true → s.braced = false → s.sleepReq k = some q → q.granted = false →
    exec (.braceStart (some k)) s = .next (s.braceStart none).packUndo) ∧
  (∀ (us : Nat) (s : State), s.braced = true → s.pwr.sleeps.filter (·.hold) = [] → s.sec.abandon = false → (∀ n : Lane, (s.ln n).cal.loadPend = false) →
    RunsThen (.braceEnd us) s [(PWR.STATUS_BRACE_NOW, 0)] s (fun t => t.logRecord 4 0 1 (min us 0xFFFFFFFF) (s.get PWR.BROWN_DIP_COUNT) 0 0)) ∧
  (∀ (us : Nat) (s : State), s.braced = true → exec (.braceEnd us) s = .next (
    let t := ((s.off PWR.STATUS_BRACE_NOW).logRecord 4 0 1 (min us 0xFFFFFFFF) (s.get PWR.BROWN_DIP_COUNT) 0 0).each (List.finRange 8) (fun n u => u.startResume n)
    (s.pwr.sleeps.filter (·.hold)).foldl (fun u q => (u.setSleep q.kind (fun r => { r with hold := false })).quiesceAsk q.kind) t).packUndo) ∧
  (∀ (us : Nat) (s : State), s.braced = false → exec (.braceEnd us) s = .next s.packUndo) ∧
  (∀ (c : Fin 3) (us : Nat) (s : State), (s.awake = false ∨ s.flag PWR.CTRL_BALLAST_EN = false ∨ s.presses c = false ∨ (c = 1 ∧ us < 5000) ∨
    (c ≠ 1 ∧ s.pwr.shedFirst = false ∧ us < 1000 * max 1 (s.get PWR.BALLAST_SHED_INT))) → Runs (.ballastPress c us) s []) ∧
  (∀ (c : Fin 3) (us : Nat) (step : ShedStep) (s : State), s.awake = true → s.flag PWR.CTRL_BALLAST_EN = true → s.presses c = true → c ≠ 1 →
    ((c = 0 ∧ s.pwr.shedFirst = true) ∨ 1000 * max 1 (s.get PWR.BALLAST_SHED_INT) ≤ us) → s.modeRungs < 3 →
    orderStep (bits (s.get PWR.BALLAST_ORDER) (2 * s.modeRungs) 2) = some step →
    Runs (.ballastPress c us) s [(PWR.BAL_CNT_SHED_CNT, s.once PWR.BAL_CNT_SHED_CNT), (PWR.STATUS_LEVEL, s.pwr.rungs.length + 1)]
      { (s.setPwr (fun p => { p with rungs := .mode step :: p.rungs, shedFirst := p.shedFirst && c != 0 })) with
        line := s.line.map (fun l => if l.power = .off then l else { l with eq := { l.eq with shedAsk := l.eq.shedAsk ++ l.eq.refused ++ [step], refused := [] } }) }) ∧
  (∀ (us : Nat) (step : ShedStep) (s : State), s.awake = true → s.flag PWR.CTRL_BALLAST_EN = true → s.braced = true → 5000 ≤ us → s.modeRungs < 3 →
    orderStep (bits (s.get PWR.BALLAST_ORDER) (2 * s.modeRungs) 2) = some step →
    Runs (.ballastPress 1 us) s [(PWR.BAL_CNT_SHED_CNT, s.once PWR.BAL_CNT_SHED_CNT), (PWR.STATUS_LEVEL, s.pwr.rungs.length + 1), (PWR.BROWN_LONG_CNT, s.once PWR.BROWN_LONG_CNT)]
      { (s.setPwr (fun p => { p with rungs := .mode step :: p.rungs })) with
        line := s.line.map (fun l => if l.power = .off then l else { l with eq := { l.eq with shedAsk := l.eq.shedAsk ++ l.eq.refused ++ [step], refused := [] } }) }) ∧
  (∀ (brace : Bool) (s : State), s.napRung brace [] = s.on PWR.STATUS_LADDER_END) ∧
  (∀ (brace : Bool) (k : PortId) (ps : List PortId) (s : State), (s.pstate k = 0 ∨ s.pstate k = 7) →
    Becomes s ([(PWR.BAL_CNT_SHED_CNT, s.once PWR.BAL_CNT_SHED_CNT), (PWR.STATUS_LEVEL, s.pwr.rungs.length + 1)] ++
        (if brace then [(PWR.BROWN_LONG_CNT, s.once PWR.BROWN_LONG_CNT)] else []))
      (s.setPwr (fun p => { p with rungs := .nap k false :: p.rungs })) (s.napRung brace (k :: ps))) ∧
  (∀ (brace : Bool) (k : PortId) (ps : List PortId) (q : SleepReq) (s : State), s.pstate k ≠ 0 → s.pstate k ≠ 7 → s.sleepReq (.nap k) = some q → q.granted = true →

    Becomes s ([(PWR.BAL_CNT_SHED_CNT, s.once PWR.BAL_CNT_SHED_CNT), (PWR.STATUS_LEVEL, s.pwr.rungs.length + 1)] ++
        (if brace then [(PWR.BROWN_LONG_CNT, s.once PWR.BROWN_LONG_CNT)] else []))
      (s.setPwr (fun p => { p with rungs := .nap k false :: p.rungs })) (s.napRung brace (k :: ps))) ∧
  (∀ (brace : Bool) (k : PortId) (ps : List PortId) (s : State), s.pstate k ≠ 0 → s.pstate k ≠ 7 → s.sleepReq (.nap k) = none →
    let t := s.napAsk k .ballast (some brace)
    s.napRung brace (k :: ps) = (if t.napRungOf k then t else t.napRung brace ps)) ∧
  (∀ (s : State), s.pwr.passed = none → (s.napOrder.Pairwise (fun (a b : PortId) => s.get (PWR.NAP_PRIO_P a) < s.get (PWR.NAP_PRIO_P b) ∨ (s.get (PWR.NAP_PRIO_P a) = s.get (PWR.NAP_PRIO_P b) ∧ a < b)))) ∧
  (∀ (us : Nat) (step : ShedStep) (rest : List Rung) (s : State), 1000 * max 1 (s.get PWR.BALLAST_RESTORE_INT) ≤ us → s.awake = true → s.flag PWR.CTRL_BALLAST_EN = true → s.flag THM.STATUS_SHED_REQ = false → s.braced = false →
    s.get PWR.BALLAST_HOST_MIN < s.get PWR.STATUS_LEVEL → s.pwr.rungs = .mode step :: rest → s.boot.ballast = none →
    Runs (.ballastRestore us) s ([(PWR.STATUS_LEVEL, rest.length)] ++ (List.finRange 8).map (fun (n : Lane) => (LN.EQ_STATUS_SHED_HELD n, putBit (s.get (LN.EQ_STATUS_SHED_HELD n)) step.index false)))
      { (s.setPwr (fun p => { p with rungs := rest })) with
        line := s.line.map (fun l => { l with eq := { l.eq with shedAsk := l.eq.shedAsk.filter (· != step), refused := l.eq.refused.filter (· != step) } }) }) ∧
  (∀ (us : Nat) (k : PortId) (rest : List Rung) (s : State), 1000 * max 1 (s.get PWR.BALLAST_RESTORE_INT) ≤ us → s.awake = true → s.flag PWR.CTRL_BALLAST_EN = true → s.flag THM.STATUS_SHED_REQ = false → s.braced = false →
    s.get PWR.BALLAST_HOST_MIN < s.get PWR.STATUS_LEVEL → s.pwr.rungs = .nap k true :: rest → s.boot.ballast = none →
    exec (.ballastRestore us) s = .next ((((s.setPwr (fun p => { p with rungs := rest })).set PWR.STATUS_LEVEL rest.length).wakeAsk k).ballastLand)) ∧
  (∀ (us : Nat) (s : State), (s.flag THM.STATUS_SHED_REQ = true ∨ s.braced = true ∨ s.get PWR.STATUS_LEVEL ≤ s.get PWR.BALLAST_HOST_MIN ∨
    us < 1000 * max 1 (s.get PWR.BALLAST_RESTORE_INT)) → Runs (.ballastRestore us) s []) ∧
  (∀ (s : State), s.awake = true → Runs .pwrCntClr s (zeroed ([PWR.STALL_STALL_CNT, PWR.BROWN_DIP_COUNT, PWR.BROWN_LONG_CNT, PWR.BAL_CNT_SHED_CNT, PWR.BAL_CNT_SHED_REF_CNT] ++
    (List.range 4).map PWR.REFUSE_CNT0_C ++ (List.range 3).map PWR.REFUSE_CNT1_C ++ (List.range 8).map PWR.LANE_REFUSE_COUNT)))

/-- RESETS AND STAGED RIGS (R204, R316, R325, R329, R336 to R341, R355, Tables 16-1, 16-2 and 16-8): the record of a device-level reset and the
wake that follows it, the watchdog, resets of a port and of a lane, and a staged part of a rig. -/
def Obligations.ResetsAndStagedRigs : Prop :=
  (∀ (c : Nat) (s : State), 1 ≤ c → c ≤ 6 → s.pwr.resetLow = false →
    let t := s.devReset c
    t.pwr.dev = .waking 1 ∧ t.pwr.source = 1 ∧ t.pwr.detail = c ∧ t.get CFG.RST_STATUS_CAUSE = c ∧ t.bitOf CFG.RST_STATUS_SEEN (c - 1) = true ∧
      t.get PWR.LAST_WAKE_SOURCE = 1 ∧ t.get PWR.LAST_WAKE_DETAIL = c ∧ t.now = (if c ≤ 2 then 0 else s.now) ∧ t.get CFG.RST_TIME0_TIME_LO = t.now % 2 ^ 32) ∧
  (∀ (c : Nat) (s : State), 1 ≤ c → c ≤ 6 → s.pwr.resetLow = true →
    let t := s.devReset c
    t.pwr.dev = .shelf ∧ t.get CFG.RST_STATUS_CAUSE = c ∧ t.bitOf CFG.RST_STATUS_SEEN (c - 1) = true) ∧
  (∀ (c : Nat) (f : Field) (s : State), 3 ≤ c → c ≤ 6 → keyRet f.key ≠ .pl → f.key ≠ SAF.STATUS_TXD_NOW.key → f.key ≠ SAF.STATUS_CLR_PIN_NOW.key →
    f.key ∉ [CFG.RST_STATUS_CAUSE, CFG.RST_STATUS_SEEN, CFG.RST_TIME0_TIME_LO, CFG.RST_TIME1_TIME_HI, CFG.RST_CNT_BOR_CNT, CFG.RST_CNT_PIN_CNT, CFG.RST_CNT_WDR_CNT, GLB.LC_STATE,
      SEC.KEYS_SLOT 0, SEC.KEYS_SLOT 1, PWR.LAST_WAKE_SOURCE, PWR.LAST_WAKE_DETAIL, PWR.LAST_WAKE_RACE, PWR.LAST_WAKE_ASLEEP, PWR.LAST_WAKE1_TIME_LO, PWR.LAST_WAKE2_TIME_HI].map Field.key →
    (s.devReset c).get f = f.reset) ∧
  (∀ (s : State), exec .powerUp s = .next (({ s with saf := { s.saf with uvlo := false } } : State).devReset 1)) ∧
  (∀ (s : State), s.pwr.dev ≠ .off → exec .plbor s = .next (s.devReset 2)) ∧
  (∀ (s : State), s.pwr.dev ≠ .off → s.pwr.dev ≠ .shelf → exec .bor s = .next (s.devReset 3)) ∧
  (∀ (s : State), s.pwr.dev = .shelf → Runs .bor s []) ∧
  (∀ (ns : Nat) (s : State), ns < 200 → Runs (.resetNFall ns) s []) ∧
  (∀ (ns : Nat) (s : State), 200 ≤ ns → ns < 1000 → s.pwr.dev ≠ .off →
    exec (.resetNFall ns) s = .next (if s.drawn 22 1 = 1 then (s.drew.setPwr (fun p => { p with resetLow := true })).devReset 4 else s.drew)) ∧
  (∀ (ns : Nat) (s : State), 1000 ≤ ns → s.pwr.dev ≠ .off → exec (.resetNFall ns) s = .next ((s.setPwr (fun p => { p with resetLow := true })).devReset 4)) ∧
  (∀ (s : State), s.pwr.dev = .shelf → s.pwr.resetLow = true →
    Runs .resetNRise s [(PWR.LAST_WAKE_SOURCE, 1), (PWR.LAST_WAKE_DETAIL, s.get CFG.RST_STATUS_CAUSE), (PWR.LAST_WAKE_RACE, 0), (PWR.LAST_WAKE_ASLEEP, 1),
        (PWR.LAST_WAKE1_TIME_LO, s.now), (PWR.LAST_WAKE2_TIME_HI, s.now / 2 ^ 32)]
      (s.setPwr (fun p => { p with dev := .waking 1, resetLow := false, second := false, retry := false, source := 1, detail := s.get CFG.RST_STATUS_CAUSE }))) ∧
  (∀ (s : State), s.awake = true → exec .swr s = .next (s.devReset 5)) ∧
  (∀ (s : State), s.awake = false → Runs .swr s []) ∧
  (∀ (x : Nat) (s : State), s.awake = true → s.boot.wdt = some x → max 1 (s.get CFG.WDT_TMO) ≤ x →
    Ends .wdr s (fun t => t.get CFG.RST_STATUS_CAUSE = 6 ∧ t.pwr.wdrs = ((s.now :: s.pwr.wdrs).filter (fun t => decide (s.since t ≤ 60000))).take 3 ∧
      t.get CFG.RST_CNT_WDR_CNT = s.once CFG.RST_CNT_WDR_CNT ∧ t.get CFG.RST_CNT_WDR_RUN = t.pwr.wdrs.length)) ∧
  (∀ (x : Nat) (s : State), s.boot.wdt = some x → x < s.get CFG.WDT_TMO → Runs .wdr s []) ∧
  (∀ (s : State), s.boot.wdt = none → Runs .wdr s []) ∧
  (∀ (s : State), s.awake = true → Ends (.wdtKick .gondola) s (fun t => t.boot.wdt = s.boot.wdt.map (fun _ => 0) ∧ t.brd.resp = .done)) ∧
  (∀ (i : Initiator) (s : State), i ≠ .gondola → i ≠ .spar → s.mayAccess i = true → Ends (.wdtKick i) s (fun t => t.boot.wdt = s.boot.wdt)) ∧
  (∀ (k : PortId) (s : State), s.awake = true → (s.pt k).defined = false → Runs (.ptr k) s []) ∧
  (∀ (k : PortId) (s : State), s.awake = true → (s.pt k).defined = true → (s.resetDown k).portDark k = true →
    exec (.ptr k) s = .next ((((s.resetDown k).setBit CFG.RST_PORT_PORTS k false).portCleared k).portEval k)) ∧
  (∀ (k : PortId) (s : State), s.awake = true → (s.pt k).defined = true → (s.resetDown k).portDark k = false →
    exec (.ptr k) s = .next ((s.resetDown k).setBit CFG.RST_PORT_PORTS k true)) ∧
  (∀ (k : PortId) (n : Lane) (s : State), n ∈ s.lanesOf k →
    let t := s.portCleared k
    t.ln n = { cal := { changed := (s.ln n).cal.changed, next := (s.ln n).cal.next }, rx := { peak := (s.ln n).rx.peak }, loc := { scr := t.flag (LN.FRM_CTRL_SCR_EN n), beta := t.get (LN.FRM_CTRL_BETA n) }, tx := { pd := t.flag (LN.TX_CTRL_PD_EN n) } } ∧ t.kite.get n = {} ∧ t.txpll.get n = .refclk ∧
      t.get (PORT.STATUS_STATE k) = 0 ∧ t.get (LN.TX_STATUS_AMP_STATE n) = 0 ∧ (t.pt k).defined = (s.pt k).defined ∧ (t.pt k).lanes = (s.pt k).lanes) ∧
  (∀ (n : Lane) (s : State), s.awake = true → s.portOf n = none → s.get (LN.TX_STATUS_AMP_STATE n) = 0 → exec (.lnrLine n) s = .next (((s.setBit CFG.RST_LANE_LN n false).laneCleared n).evalLane n)) ∧
  (∀ (n : Lane) (s : State), s.awake = true → s.portOf n = none → s.get (LN.TX_STATUS_AMP_STATE n) ≠ 0 → exec (.lnrLine n) s = .next (s.setBit CFG.RST_LANE_LN n true)) ∧
  (∀ (n : Lane) (k : PortId) (s : State), s.awake = true → s.portOf n = some k →
    let t := s.resetDown k
    exec (.lnrLine n) s = .next (if t.get (LN.TX_STATUS_AMP_STATE n) = 0 then ((t.setBit CFG.RST_LANE_LN n false).laneCleared n).evalLane n
      else t.setBit CFG.RST_LANE_LN n true)) ∧
  (∀ (j : Host) (n : Lane) (k : PortId) (s : State), s.awake = true → s.lineOf j = some n → s.portOf n = some k →
    exec (.lnrHost j) s = .next (((s.resetDown k).hostCleared j).evalHost j)) ∧
  (∀ (j : Host) (s : State), s.awake = true → s.lineOf j = none → exec (.lnrHost j) s = .next ((s.hostCleared j).evalHost j)) ∧
  (∀ (k : PortId) (s : State), (s.pt k).defined = true → s.pstate k ≠ 0 → s.sleepReq (.nap k) = none → s.resetDown k = s.portDown k 1) ∧
  (∀ (s : State), s.awake = true → Runs .cfgCntClr s (zeroed [CFG.RST_CNT_BOR_CNT, CFG.RST_CNT_PIN_CNT, CFG.RST_CNT_WDR_CNT])) ∧
  (∀ (s : State), s.awake = true → s.boot.staged.filter (fun g => s.partDown g.touched) = [] → Runs .stagedApply s []) ∧
  (∀ (g : Staged) (s : State), s.awake = true → s.boot.staged = [g] → s.partDown g.touched = true →
    Ends .stagedApply s (fun t => t = ((((((s.partApply g.touched g.ports).each g.touched (fun k u => u.setPt k (fun p => { p with staged := false }))).setBoot
        (fun b => { b with nodes := g.nodes })).setBoot (fun b => { b with staged := [] })).layoutsApply.off CFG.BOOT_STAGED).portsEval)))

/-- BRIDLE (R356, R358, R360 to R364, R367 to R370, Tables 17-1 to 17-4): accesses that get an error response and the record they leave, plain
writes and reads, restricted fields, bit aliases, guarded pairs and their failures, parity, and the timeout. -/
def Obligations.Bridle : Prop :=
  (∀ (i : Initiator) (a : BitVec 32) (z : Fin 4) (v : BitVec 64) (s : State), s.mayAccess i = true → inMemberBar i a.toNat = false → inMemory a.toNat = false → unmapped i a.toNat = true → (z.val < 3 ∨ a.toNat % 8 ≠ 0) →
    AccessFails (.registerWrite i a z v) i a.toNat 4 true (2 ^ z.val) s) ∧
  (∀ (i : Initiator) (a : BitVec 32) (z : Fin 4) (v : BitVec 64) (s : State), s.mayAccess i = true → inMemberBar i a.toNat = false → inMemory a.toNat = false → unmapped i a.toNat = false →
    a.toNat % 2 ^ z.val ≠ 0 → AccessFails (.registerWrite i a z v) i a.toNat 2 true (2 ^ z.val) s) ∧
  (∀ (i : Initiator) (a : BitVec 32) (z : Fin 4) (v : BitVec 64) (s : State), s.mayAccess i = true → inMemberBar i a.toNat = false → inMemory a.toNat = false → unmapped i a.toNat = false →
    a.toNat % 2 ^ z.val = 0 → z.val < 2 → AccessFails (.registerWrite i a z v) i a.toNat 1 true (2 ^ z.val) s) ∧
  (∀ (i : Initiator) (a : BitVec 32) (v : BitVec 64) (s : State), s.mayAccess i = true → inMemberBar i a.toNat = false → inMemory a.toNat = false → unmapped i a.toNat = true → unmapped i (a.toNat + 4) = true → a.toNat % 8 = 0 →
    Ends (.registerWrite i a 3 v) s (fun t => t.get GLB.BRD_CNT0_ACCESS_FAULT = (s.inc GLB.BRD_CNT0_ACCESS_FAULT).once GLB.BRD_CNT0_ACCESS_FAULT ∧ t.get GLB.ACCESS_ADDR_ADDR = a.toNat + 4 ∧
      t.get GLB.ACCESS_INFO_SIZE = 2 ∧ t.get GLB.ACCESS_INFO_KIND = 4 ∧ t.brd.resp = .error 4)) ∧
  (∀ (i : Initiator) (a : BitVec 32) (wrong : BitVec 2) (e : SprEcc) (s : State), s.mayAccess i = true → inMemberBar i a.toNat = false → inMemory a.toNat = false → unmapped i a.toNat = true → unmapped i (a.toNat + 4) = true → a.toNat % 8 = 0 →
    Ends (.registerRead i a 3 wrong e) s (fun t => t.get GLB.BRD_CNT0_ACCESS_FAULT = (s.inc GLB.BRD_CNT0_ACCESS_FAULT).once GLB.BRD_CNT0_ACCESS_FAULT ∧ t.get GLB.ACCESS_ADDR_ADDR = a.toNat + 4 ∧
      t.get GLB.ACCESS_INFO_SIZE = 2 ∧ t.get GLB.ACCESS_INFO_KIND = 4 ∧ t.brd.resp = .error 4)) ∧
  (∀ (i : Initiator) (a : BitVec 32) (v : BitVec 64) (s : State), s.mayAccess i = true → a.toNat % 4 = 0 → inAlias a.toNat = true → aliasDefined a.toNat = true → isBa (aliasTarget a.toNat).1 (aliasTarget a.toNat).2 = false →
    AccessFails (.registerWrite i a 2 v) i a.toNat 1 true 4 s) ∧
  (∀ (i : Initiator) (a : BitVec 32) (z : Fin 4) (wrong : BitVec 2) (e : SprEcc) (s : State), s.mayAccess i = true → inMemberBar i a.toNat = false → inMemory a.toNat = false → unmapped i a.toNat = true → (z.val < 3 ∨ a.toNat % 8 ≠ 0) →
    AccessFails (.registerRead i a z wrong e) i a.toNat 4 false (2 ^ z.val) s) ∧
  (∀ (i : Initiator) (a : BitVec 32) (z : Fin 4) (wrong : BitVec 2) (e : SprEcc) (s : State), s.mayAccess i = true → inMemberBar i a.toNat = false → inMemory a.toNat = false → unmapped i a.toNat = false →
    a.toNat % 2 ^ z.val ≠ 0 → AccessFails (.registerRead i a z wrong e) i a.toNat 2 false (2 ^ z.val) s) ∧
  (∀ (i : Initiator) (a : BitVec 32) (z : Fin 4) (wrong : BitVec 2) (e : SprEcc) (s : State), s.mayAccess i = true → inMemberBar i a.toNat = false → inMemory a.toNat = false → unmapped i a.toNat = false →
    a.toNat % 2 ^ z.val = 0 → z.val < 2 → sideEffect (a.toNat / 4 * 4) = true → AccessFails (.registerRead i a z wrong e) i a.toNat 3 false (2 ^ z.val) s) ∧
  (∀ (i : Initiator) (a : BitVec 32) (z : Fin 4) (v : BitVec 64) (s : State), s.mayAccess i = false → Runs (.registerWrite i a z v) s []) ∧
  (∀ (i : Initiator) (a : BitVec 32) (z : Fin 4) (wrong : BitVec 2) (e : SprEcc) (s : State), s.mayAccess i = false → Runs (.registerRead i a z wrong e) s []) ∧
  (∀ (i : Initiator) (a : BitVec 32) (v : BitVec 64) (s : State), s.mayAccess i = true → a.toNat % 4 = 0 → unmapped i a.toNat = false → a.toNat < 0x200000 → isGuarded a.toNat = false → isComplement a.toNat = false →
    s.pendingOf i.code = none → s.forbids i a.toNat (v.toNat % 2 ^ 32) = false →
    let t := (s.countEvent 1 0 1).respond .done
    let u := t.plainWrite i a.toNat (v.toNat % 2 ^ 32)
    exec (.registerWrite i a 2 v) s = .next (if t.stored u i a.toNat (v.toNat % 2 ^ 32) = true then u.parityRight a.toNat else u)) ∧
  (∀ (i : Initiator) (a : BitVec 32) (v : BitVec 64) (s : State), s.mayAccess i = true → a.toNat % 4 = 0 → a.toNat < 0x200000 → unmapped i a.toNat = false → fieldsAt a.toNat = [] → isComplement a.toNat = false → s.pendingOf i.code = none →
    (0x80100 ≤ a.toNat → 0xB0700 ≤ a.toNat) → a.toNat < 0xE0100 → (0x51000 ≤ a.toNat → 0x51800 ≤ a.toNat) → (a.toNat < 0x20100 ∨ 0x20200 ≤ a.toNat) →
    Ends (.registerWrite i a 2 v) s (fun t => BusOnly (fun _ => false) s t ∧ t.brd.resp = .done)) ∧
  (∀ (i : Initiator) (a : BitVec 32) (e : SprEcc) (s : State), s.mayAccess i = true → a.toNat % 4 = 0 → a.toNat < 0x200000 → unmapped i a.toNat = false → sideEffect a.toNat = false → (0x51000 ≤ a.toNat → 0x51800 ≤ a.toNat) → s.absent a.toNat = false →
    s.brd.parityBad.contains a.toNat = false →
    Ends (.registerRead i a 2 0 e) s (fun t => BusOnly (fun _ => false) s t ∧ t.brd.resp = .data ((s.countEvent 1 0 1).viewWord i.code a.toNat))) ∧
  (∀ (i : Initiator) (a : BitVec 32) (e : SprEcc) (s : State), s.mayAccess i = true → i ≠ .pcie → a.toNat % 4 = 0 → a.toNat < 0x200000 → unmapped i a.toNat = false → s.absent a.toNat = false → hasParity a.toNat = true →
    exec (.registerRead i a 2 1 e) s = .next (((s.countEvent 1 0 1).parityFound a.toNat).accessError i.code a.toNat 9 false 4)) ∧
  (∀ (i : Initiator) (a : BitVec 32) (e : SprEcc) (s : State), s.mayAccess i = true → i ≠ .pcie → a.toNat % 4 = 0 → inAlias a.toNat = true → aliasDefined a.toNat = true → s.brd.parityBad.contains (aliasTarget a.toNat).1 = false →
    Ends (.registerRead i a 2 0 e) s (fun t => BusOnly (fun _ => false) s t ∧ t.brd.resp = .data ((s.countEvent 1 0 1).viewWord i.code (aliasTarget a.toNat).1 / 2 ^ (aliasTarget a.toNat).2 % 2))) ∧
  (∀ (a : BitVec 32) (e : SprEcc) (s : State), s.awake = true → a.toNat % 4 = 0 → inRom a.toNat = true →
    Ends (.registerRead .gondola a 2 0 e) s (fun t => BusOnly (fun _ => false) s t ∧ t.brd.resp = .data (Config.rom a.toNat % 2 ^ 32))) ∧
  (∀ (f : Field) (i v : Nat) (s : State), isPairAddr f.addr = false → f.acc = .wm → bits v (16 + f.lo) f.w = 2 ^ f.w - 1 → s.rejects f (bits v f.lo f.w) = false → Becomes s [(f, bits v f.lo f.w)] s (s.fieldWrite i v f)) ∧
  (∀ (f : Field) (i v : Nat) (s : State), f.acc = .wm → bits v (16 + f.lo) f.w ≠ 2 ^ f.w - 1 → s.fieldWrite i v f = s) ∧
  (∀ (f : Field) (i v : Nat) (s : State), isPairAddr f.addr = false → f.acc = .w1c → Becomes s [(f, s.get f - (s.get f &&& bits v f.lo f.w))] s (s.fieldWrite i v f)) ∧
  (∀ (f : Field) (i v : Nat) (s : State), (f.acc = .ro ∨ f.acc = .ixro) → s.fieldWrite i v f = s) ∧
  (∀ (i : Initiator) (a : BitVec 32) (v : BitVec 64) (s : State), s.mayAccess i = true → isGuarded a.toNat = true → s.pendingOf i.code = none →
    Ends (.registerWrite i a 2 v) s (fun t => BusOnly (fun _ => false) s t ∧ t.pendingOf i.code = some (a.toNat, v.toNat % 2 ^ 32) ∧ t.brd.resp = .done)) ∧
  (∀ (i : Initiator) (a : BitVec 32) (v c : Word) (s : State), s.mayAccess i = true → isGuarded a.toNat = true → s.brd.guard = [] → c = ~~~v →
    exec (.guardedPairWrite i a v c) s = .next (((((s.countEvent 1 0 1).respond .done).countEvent 1 0 1).guardWrite a.toNat v.toNat).parityRight a.toNat)) ∧
  (∀ (i : Initiator) (a : BitVec 32) (v c : Word) (s : State), s.mayAccess i = true → isGuarded a.toNat = true → s.pendingOf i.code = none → c ≠ ~~~v →
    Ends (.guardedPairWrite i a v c) s (fun t => BusOnly (fun x => decide (0x100 ≤ x ∧ x < 0x11C)) s t ∧ t.get GLB.BRD_CNT0_GUARD_FAULT = s.once GLB.BRD_CNT0_GUARD_FAULT ∧ t.get GLB.BRD_CNT0_ACCESS_FAULT = s.get GLB.BRD_CNT0_ACCESS_FAULT ∧
      t.flag GLB.BRD_STATUS_GUARD = true ∧ t.get GLB.GUARD_ADDR_ADDR = a.toNat ∧ t.get GLB.GUARD_INFO_INITIATOR = i.code ∧ t.get GLB.GUARD_INFO_REASON = 3 ∧ t.pendingOf i.code = none)) ∧
  (∀ (i : Initiator) (a : BitVec 32) (v : BitVec 64) (s : State), s.mayAccess i = true → 4 ≤ a.toNat → isGuarded (a.toNat - 4) = true → s.pendingOf i.code = none →
    Ends (.registerWrite i a 2 v) s (fun t => BusOnly (fun x => decide (0x100 ≤ x ∧ x < 0x11C)) s t ∧ t.get GLB.BRD_CNT0_GUARD_FAULT = s.once GLB.BRD_CNT0_GUARD_FAULT ∧ t.flag GLB.BRD_STATUS_GUARD = true ∧
      t.get GLB.GUARD_ADDR_ADDR = a.toNat - 4 ∧ t.get GLB.GUARD_INFO_INITIATOR = i.code ∧ t.get GLB.GUARD_INFO_REASON = 4)) ∧
  (∀ (i : Initiator) (a : BitVec 32) (v : BitVec 64) (b w : Nat) (s : State), s.mayAccess i = true → isGuarded a.toNat = true → s.pendingOf i.code = some (b, w) →
    Ends (.registerWrite i a 2 v) s (fun t => BusOnly (fun x => decide (0x100 ≤ x ∧ x < 0x11C)) s t ∧ t.get GLB.BRD_CNT0_GUARD_FAULT = s.once GLB.BRD_CNT0_GUARD_FAULT ∧ t.get GLB.GUARD_ADDR_ADDR = b % 2 ^ 32 ∧
      t.get GLB.GUARD_INFO_INITIATOR = i.code ∧ t.get GLB.GUARD_INFO_REASON = 1 ∧ t.pendingOf i.code = some (a.toNat, v.toNat % 2 ^ 32))) ∧
  (∀ (i : Initiator) (b w : Nat) (s : State), s.awake = true → s.pendingOf i.code = some (b, w) →
    Runs (.guardLate i) s [(GLB.BRD_CNT0_GUARD_FAULT, s.once GLB.BRD_CNT0_GUARD_FAULT), (GLB.BRD_STATUS_GUARD, 1), (GLB.GUARD_ADDR_ADDR, b), (GLB.GUARD_INFO_INITIATOR, i.code), (GLB.GUARD_INFO_REASON, 2)]
      { s with brd := { s.brd with guard := assocDel s.brd.guard i.code } }) ∧
  (∀ (i : Initiator) (s : State), s.pendingOf i.code = none → Runs (.guardLate i) s []) ∧
  (∀ (i : Initiator) (a : BitVec 32) (z : Fin 4) (w : Bool) (s : State), s.mayAccess i = true → inMemberBar i a.toNat = false → (i ≠ .spar ∨ s.spr.run = .running ∨ s.spr.run = .halted) → AccessFails (.bridleTimeout i a z w) i a.toNat 6 w (2 ^ z.val) s) ∧
  (∀ (a : BitVec 32) (z : Fin 4) (w x : Bool) (g b : Nat) (d : Word) (s : State), s.mayAccess .spar = true → s.spr.run = .io x g b d →
    exec (.bridleTimeout .spar a z w) s = .next (((s.inc GLB.BRD_CNT1_TMO_CNT).accessError 1 a.toNat 6 w (2 ^ z.val)).ioStalled x 3072).ioError) ∧
  (∀ (i : Initiator) (a : BitVec 32) (z : Fin 4) (w : Bool) (s : State), s.mayAccess i = false → Runs (.bridleTimeout i a z w) s []) ∧
  (∀ (s : State), s.awake = true → Runs .glbCntClr s (zeroed [GLB.BRD_CNT0_ACCESS_FAULT, GLB.BRD_CNT0_GUARD_FAULT, GLB.BRD_CNT1_PARITY_CNT, GLB.BRD_CNT1_TMO_CNT])) ∧
  (∀ (a : BitVec 32) (s : State), s.brd.parityBad.contains (a.toNat / 4 * 4) = false → Runs (.paritySweep a false) s []) ∧
  (∀ (a : BitVec 32) (s : State), (0x200000 ≤ a.toNat ∨ hasParity (a.toNat / 4 * 4) = false) → Runs (.paritySweep a true) s []) ∧
  (∀ (a : BitVec 32) (s : State), s.awake = true → a.toNat % 4 = 0 → a.toNat < 0x200000 → hasParity a.toNat = true → (a.toNat < 0x10000 ∨ 0x30000 ≤ a.toNat) → s.brd.parityBad = [] → s.brd.parityDue = [] →
    RunsThen (.paritySweep a true) s [(GLB.BRD_CNT1_PARITY_CNT, s.once GLB.BRD_CNT1_PARITY_CNT), (GLB.BRD_STATUS_PARITY, 1), (GLB.PARITY_ADDR_ADDR, a.toNat)]
      { s with brd := { s.brd with parityBad := [a.toNat], parityDue := [a.toNat] } } (fun t => t.alarm 0x12 0 0)) ∧
  (∀ (a : BitVec 33) (s : State), s.brd.parityDue.contains (a.toNat / 4 * 4) = false → Runs (.parityRewrite a) s []) ∧
  (∀ (a : BitVec 33) (s : State), s.awake = true → a.toNat % 4 = 0 → s.brd.parityDue.contains a.toNat = true →
    Ends (.parityRewrite a) s (fun t => t.brd.parityDue.contains a.toNat = false ∧ t.brd.resp = s.brd.resp)) ∧
  (∀ (a : BitVec 33) (s : State), s.awake = true → a.toNat % 4 = 0 → a.toNat < 0x200000 → isGuarded a.toNat = false → isComplement a.toNat = false → s.brd.parityDue.contains a.toNat = true →
    let t := (s.write32 .gondola a.toNat (s.rewriteValue a.toNat % 2 ^ 32)).respond s.brd.resp
    exec (.parityRewrite a) s = .next (t.parityDone a.toNat).parityOver) ∧
  (∀ (a : Nat) (s : State), s.boot.rigNow = none → s.boot.safety = none → s.rewriteValue a = resetWord a) ∧
  (∀ (n : Lane) (s : State), s.brd.parityDue = [] → (s.sf n).gate.contains 8 = true → (s.parityOver.sf n).gate = (s.sf n).gate.filter (· != 8)) ∧
  (∀ (i : Initiator) (a : BitVec 32) (v : BitVec 64) (s : State), s.mayAccess i = true → a.toNat % 4 = 0 → inAlias a.toNat = true → aliasDefined a.toNat = true → isBa (aliasTarget a.toNat).1 (aliasTarget a.toNat).2 = true → s.pendingOf i.code = none →
    s.forbids i (aliasTarget a.toNat).1 (putBit ((s.countEvent 1 0 1).wordAt (aliasTarget a.toNat).1) (aliasTarget a.toNat).2 (bit v.toNat 0)) = false →
    exec (.registerWrite i a 2 v) s = .next (((s.countEvent 1 0 1).respond .done).aliasWrite i a.toNat (v.toNat % 2 ^ 32))) ∧
  (∀ (i : Initiator) (v : BitVec 64) (s : State), s.mayAccess i = true → i ≠ .gondola → s.pendingOf i.code = none → bits v.toNat 8 8 ≠ s.get SAF.CTRL_SUP_GATE →
    Ends (.registerWrite i (BitVec.ofNat 32 SAF.CTRL_SUP_GATE.addr) 2 v) s (fun t => t.get SAF.CTRL_SUP_GATE = s.get SAF.CTRL_SUP_GATE ∧ t.saf = s.saf ∧ t.get GLB.ACCESS_INFO_KIND = 7 ∧
      t.get GLB.BRD_CNT0_ACCESS_FAULT = s.once GLB.BRD_CNT0_ACCESS_FAULT ∧ t.get GLB.ACCESS_ADDR_ADDR = SAF.CTRL_SUP_GATE.addr ∧ t.brd.resp = .done))

/-- THE MEMORIES (R357, R375 to R387, Tables 18-1, 18-2): writes whole and narrow, the merge buffer, reads clean, corrected and poisoned, access
faults of the windows, the bank buckets, lasting faults, scrubbing, QDR-IV training, the barrier and the counters. The byte an unlisted address
reads as is the model's 0 (the zero fill of R378). -/
def Obligations.Memories : Prop :=
  (∀ (i : Initiator) (a : BitVec 32) (v : BitVec 64) (b : Nat) (s : State), s.mayAccess i = true → inSramWin a.toNat = true → a.toNat % 8 = 0 →
    Ends (.memoryWrite i a 3 v) s (fun t => BusOnly (fun _ => false) { s with mem := t.mem } t ∧ t.brd.resp = .done ∧
      byteAt t.mem.cells b = (if a.toNat ≤ b ∧ b < a.toNat + 8 then BitVec.ofNat 8 (v.toNat / 256 ^ (b - a.toNat)) else byteAt s.mem.cells b) ∧
      t.mem.merge = s.mem.merge.filter (fun e => e.addr != a.toNat) ∧ t.mem.poison = s.mem.poison.filter (· != a.toNat) ∧ t.mem.history = s.mem.history.filter (fun h => h.2.1 != a.toNat) ∧
      t.mem.burst = s.mem.burst ∧ t.mem.remap = s.mem.remap)) ∧
  (∀ (i : Initiator) (a : BitVec 32) (z : Fin 4) (v : BitVec 64) (s : State), s.mayAccess i = true → inSramWin a.toNat = true → z.val ≠ 3 → a.toNat % 8 + 2 ^ z.val ≤ 8 → s.mem.merge.find? (fun e => e.addr == wordOf a.toNat) = none → s.mem.merge.length < 8 →
    Ends (.memoryWrite i a z v) s (fun t => BusOnly (fun _ => false) { s with mem := t.mem } t ∧ t.brd.resp = .done ∧
      t.mem = { s.mem with
        merge := s.mem.merge ++ [(⟨wordOf a.toNat, 0, 0⟩ : MergeEntry).merge a.toNat (2 ^ z.val) v.toNat],
        history := s.mem.history.filter (fun h => h.2.1 != wordOf a.toNat) })) ∧
  (∀ (i : Initiator) (a : BitVec 32) (z : Fin 4) (v : BitVec 64) (x : MergeEntry) (s : State), s.mayAccess i = true → inSramWin a.toNat = true → z.val ≠ 3 → a.toNat % 8 + 2 ^ z.val ≤ 8 → s.mem.merge.find? (fun e => e.addr == wordOf a.toNat) = some x →
    (x.merge a.toNat (2 ^ z.val) v.toNat).mask ≠ 0xFF →
    Ends (.memoryWrite i a z v) s (fun t => BusOnly (fun _ => false) { s with mem := t.mem } t ∧ t.brd.resp = .done ∧
      t.mem = { s.mem with
        merge := s.mem.merge.filter (fun e => e.addr != wordOf a.toNat) ++ [x.merge a.toNat (2 ^ z.val) v.toNat],
        history := s.mem.history.filter (fun h => h.2.1 != wordOf a.toNat) })) ∧
  (∀ (i : Initiator) (a : BitVec 32) (z : Fin 4) (v : BitVec 64) (x : MergeEntry) (s : State), s.mayAccess i = true → inSramWin a.toNat = true → z.val ≠ 3 → a.toNat % 8 + 2 ^ z.val ≤ 8 → s.mem.merge.find? (fun e => e.addr == wordOf a.toNat) = some x →
    (x.merge a.toNat (2 ^ z.val) v.toNat).mask = 0xFF →
    Ends (.memoryWrite i a z v) s (fun t => BusOnly (fun _ => false) { s with mem := t.mem } t ∧ t.brd.resp = .done ∧ t.mem.cells = mergeBytes s.mem.cells (x.merge a.toNat (2 ^ z.val) v.toNat) 8 ∧
      t.mem.merge = s.mem.merge.filter (fun e => e.addr != wordOf a.toNat) ∧ t.mem.poison.contains (wordOf a.toNat) = false)) ∧
  (∀ (i : Initiator) (a : BitVec 32) (z : Fin 4) (v : BitVec 64) (o : MergeEntry) (s : State), s.mayAccess i = true → inSramWin a.toNat = true → z.val ≠ 3 → a.toNat % 8 + 2 ^ z.val ≤ 8 → s.mem.merge.find? (fun e => e.addr == wordOf a.toNat) = none → 8 ≤ s.mem.merge.length →
    s.mem.merge.head? = some o → s.sound o.addr .clean = true → s.mem.merge.filter (fun e => e.addr == o.addr) = [o] →
    Ends (.memoryWrite i a z v) s (fun t => BusOnly (fun _ => false) { s with mem := t.mem } t ∧ t.mem.cells = mergeBytes s.mem.cells o 8 ∧
      t.mem.merge = s.mem.merge.filter (fun e => e.addr != o.addr) ++ [(⟨wordOf a.toNat, 0, 0⟩ : MergeEntry).merge a.toNat (2 ^ z.val) v.toNat])) ∧
  (∀ (e : MergeEntry) (a n v j : Nat), j < 8 →
    bits (e.merge a n v).data (8 * j) 8 = (if a % 8 ≤ j ∧ j < a % 8 + n then v / 256 ^ (j - a % 8) % 256 else bits e.data (8 * j) 8) ∧
      bit (e.merge a n v).mask j = ((decide (a % 8 ≤ j) && decide (j < a % 8 + n)) || bit e.mask j) ∧ (e.merge a n v).addr = e.addr) ∧
  (∀ (m : List Host.Cell) (e : MergeEntry) (b : Nat),
    byteAt (mergeBytes m e 8) b = (if e.addr ≤ b ∧ b < e.addr + 8 ∧ bit e.mask (b - e.addr) = true then BitVec.ofNat 8 (bits e.data (8 * (b - e.addr)) 8) else byteAt m b)) ∧
  (∀ (i : Initiator) (a : BitVec 32) (z : Fin 4) (s : State), s.mayAccess i = true → inSramWin a.toNat = true → a.toNat % 8 + 2 ^ z.val ≤ 8 → s.mem.merge.filter (fun e => e.addr == wordOf a.toNat) = [] → s.sound (wordOf a.toNat) .clean = true →
    Ends (.memoryRead i a z .clean) s (fun t => BusOnly (fun _ => false) s t ∧ t.brd.resp = .data (readLE s.mem.cells a.toNat (2 ^ z.val)))) ∧
  (∀ (i : Initiator) (a : BitVec 32) (z : Fin 4) (x : MergeEntry) (s : State), s.mayAccess i = true → inSramWin a.toNat = true → a.toNat % 8 + 2 ^ z.val ≤ 8 → s.mem.merge.filter (fun e => e.addr == wordOf a.toNat) = [x] → s.sound (wordOf a.toNat) .clean = true →
    Ends (.memoryRead i a z .clean) s (fun t => BusOnly (fun _ => false) { s with mem := t.mem } t ∧ t.mem.cells = mergeBytes s.mem.cells x 8 ∧ t.mem.merge = s.mem.merge.filter (fun e => e.addr != wordOf a.toNat) ∧
      t.brd.resp = .data (readLE t.mem.cells a.toNat (2 ^ z.val)))) ∧
  (∀ (i : Initiator) (a : BitVec 32) (z : Fin 4) (s : State), s.mayAccess i = true → inSramWin a.toNat = true → a.toNat % 8 + 2 ^ z.val ≤ 8 → s.mem.merge.filter (fun e => e.addr == wordOf a.toNat) = [] → s.mem.poison.contains (wordOf a.toNat) = false → s.mem.upset = [] →
    s.get (MEM.BANK_BUCKET (memBank (wordOf a.toNat))) + 1 ≤ s.get MEM.CTRL_CE_THRESH → s.mem.history = [] →
    Ends (.memoryRead i a z .corrected) s (fun t => BusOnly (fun x => decide (0x90000 ≤ x ∧ x < 0xA0000)) { s with mem := t.mem } t ∧ t.brd.resp = .data (readLE s.mem.cells a.toNat (2 ^ z.val)) ∧
      t.get MEM.CNT0_CE_CNT = s.once MEM.CNT0_CE_CNT ∧ t.get MEM.CNT0_UE_CNT = s.get MEM.CNT0_UE_CNT ∧ t.get MEM.CE_ADDR_ADDR = wordOf a.toNat ∧ t.flag MEM.STATUS_CE = true ∧
      t.get (MEM.BANK_CE_BANK_CNT (memBank a.toNat)) = s.once (MEM.BANK_CE_BANK_CNT (memBank a.toNat)) ∧ t.get (MEM.BANK_BUCKET (memBank a.toNat)) = min 0xFF (s.get (MEM.BANK_BUCKET (memBank a.toNat)) + 1) ∧
      t.mem = { s.mem with
        history := [(memBank a.toNat, wordOf a.toNat, s.now)] })) ∧
  (∀ (i : Initiator) (a : BitVec 32) (z : Fin 4) (s : State), s.mayAccess i = true → i ≠ .pcie → inSramWin a.toNat = true → a.toNat % 8 + 2 ^ z.val ≤ 8 → s.mem.merge.filter (fun e => e.addr == wordOf a.toNat) = [] →
    (s.get (STR.RING_BASE_BASE 0) + s.get (STR.RING_WR_WR 0) + 32 ≤ wordOf a.toNat ∨ wordOf a.toNat + 8 ≤ s.get (STR.RING_BASE_BASE 0) + s.get (STR.RING_WR_WR 0)) →
    Ends (.memoryRead i a z .uncorrectable) s (fun t => t.brd.resp = (if i = .mgmt ∨ i = .tether then .error (s.drawn 40 8) else .poisoned (readLE s.mem.cells a.toNat (2 ^ z.val))) ∧ t.mem.poison.contains (wordOf a.toNat) = true ∧ t.get MEM.CNT0_UE_CNT = s.once MEM.CNT0_UE_CNT ∧
      t.get MEM.CNT0_CE_CNT = s.get MEM.CNT0_CE_CNT ∧ t.get MEM.UE_ADDR_ADDR = wordOf a.toNat ∧ t.get MEM.UE_INFO_INITIATOR = i.code ∧ t.flag MEM.STATUS_UE = true)) ∧
  (∀ (i k : Nat) (s : State), s.memAbsent i = false →
    s.memFault i k true = (if inQdrWin i ∧ s.qdrUnfitted i then some 4 else if 8 < i % 8 + k then some 2 else if inCheckView i then some 1 else if inQdrWin i ∧ s.flag MEM.STATUS_QDR_RDY = false then some 5 else none)) ∧
  (∀ (i : Initiator) (a : BitVec 32) (z : Fin 4) (v : BitVec 64) (k : Nat) (s : State), s.mayAccess i = true → inMemory a.toNat = true → s.memAbsent a.toNat = false → s.memFault a.toNat (2 ^ z.val) true = some k →
    AccessFails (.memoryWrite i a z v) i a.toNat k true (2 ^ z.val) s) ∧
  (∀ (i : Initiator) (a : BitVec 32) (z : Fin 4) (e : SprEcc) (k : Nat) (s : State), s.mayAccess i = true → inMemory a.toNat = true → s.memAbsent a.toNat = false → s.memFault a.toNat (2 ^ z.val) false = some k →
    AccessFails (.memoryRead i a z e) i a.toNat k false (2 ^ z.val) s) ∧
  (∀ (i : Initiator) (a : BitVec 32) (z : Fin 4) (v : BitVec 64) (s : State), s.mayAccess i = true → inQdrWin a.toNat = true → s.variant = false →
    Runs (.memoryWrite i a z v) s [] { s with brd := { s.brd with resp := .done } }) ∧
  (∀ (i : Initiator) (a : BitVec 32) (z : Fin 4) (e : SprEcc) (s : State), s.mayAccess i = true → inQdrWin a.toNat = true → s.variant = false →
    Runs (.memoryRead i a z e) s [] { s with brd := { s.brd with resp := .data 0 } }) ∧
  (∀ (i : Initiator) (a : BitVec 32) (z : Fin 4) (v : BitVec 64) (s : State), (inMemory a.toNat = false ∨ s.mayAccess i = false) → Runs (.memoryWrite i a z v) s []) ∧
  (∀ (i : Initiator) (a : BitVec 32) (z : Fin 4) (e : SprEcc) (s : State), (inMemory a.toNat = false ∨ s.mayAccess i = false) → Runs (.memoryRead i a z e) s []) ∧
  (∀ (a : BitVec 32) (e : SprEcc) (x : MergeEntry) (s : State), s.awake = true → s.mem.merge.filter (fun e => e.addr == wordOf a.toNat) = [x] →
    (x.mask = 0xFF ∨ s.sound (wordOf a.toNat) e = true) →
    Ends (.mergeIdleFlush a e) s (fun t => BusOnly (fun _ => false) { s with mem := t.mem } t ∧ t.mem.cells = mergeBytes s.mem.cells x 8 ∧ t.mem.merge = s.mem.merge.filter (fun e => e.addr != wordOf a.toNat) ∧
      t.mem.poison = (if x.mask = 0xFF then s.mem.poison.filter (· != wordOf x.addr) else s.mem.poison) ∧ t.brd = s.brd)) ∧
  (∀ (a : BitVec 32) (x : MergeEntry) (s : State), s.awake = true → s.mem.merge.filter (fun e => e.addr == wordOf a.toNat) = [x] → x.mask ≠ 0xFF →
    s.mem.poison.contains (wordOf a.toNat) = false → s.mem.upset = [] → s.get (MEM.BANK_BUCKET (memBank (wordOf a.toNat))) + 1 ≤ s.get MEM.CTRL_CE_THRESH → s.mem.history = [] →
    Ends (.mergeIdleFlush a .corrected) s (fun t => BusOnly (fun x => decide (0x90000 ≤ x ∧ x < 0xA0000)) { s with mem := t.mem } t ∧ t.brd = s.brd ∧
      t.mem = { s.mem with
        cells := mergeBytes s.mem.cells x 8
        merge := s.mem.merge.filter (fun e => e.addr != wordOf a.toNat) } ∧
      t.get MEM.CNT0_CE_CNT = s.once MEM.CNT0_CE_CNT ∧ t.get MEM.CNT0_UE_CNT = s.get MEM.CNT0_UE_CNT ∧ t.get MEM.CE_ADDR_ADDR = wordOf a.toNat ∧ t.flag MEM.STATUS_CE = true)) ∧
  (∀ (a : BitVec 32) (x : MergeEntry) (s : State), s.awake = true → s.mem.merge.filter (fun e => e.addr == wordOf a.toNat) = [x] → x.mask ≠ 0xFF →
    (s.get (STR.RING_BASE_BASE 0) + s.get (STR.RING_WR_WR 0) + 32 ≤ wordOf a.toNat ∨ wordOf a.toNat + 8 ≤ s.get (STR.RING_BASE_BASE 0) + s.get (STR.RING_WR_WR 0)) →
    Ends (.mergeIdleFlush a .uncorrectable) s (fun t => t.mem.poison.contains (wordOf a.toNat) = true ∧ t.brd = s.brd ∧
      readLE t.mem.cells (wordOf a.toNat) 8 = readLE (mergeBytes s.mem.cells x 8) (wordOf a.toNat) 8 ∧ t.mem.merge.all (fun e => e.addr != wordOf a.toNat) = true ∧
      t.get MEM.CNT0_UE_CNT = s.once MEM.CNT0_UE_CNT ∧ t.get MEM.CNT0_CE_CNT = s.get MEM.CNT0_CE_CNT ∧ t.get MEM.UE_ADDR_ADDR = wordOf a.toNat ∧ t.flag MEM.STATUS_UE = true)) ∧
  (∀ (a : BitVec 32) (e : SprEcc) (s : State), s.awake = true → s.mem.merge.filter (fun e => e.addr == wordOf a.toNat) = [] → Runs (.mergeIdleFlush a e) s []) ∧
  (∀ (s : State), s.awake = true → Runs .bucketLeak s ((List.range 18).map (fun b => (MEM.BANK_BUCKET b, s.get (MEM.BANK_BUCKET b) - 1)))
    { s with mem := { s.mem with burst := s.mem.burst.filter (fun b => decide (18 ≤ b) || decide (1 < s.get (MEM.BANK_BUCKET b))) } }) ∧
  (∀ (a : BitVec 32) (p : Option (Fin 16 × Fin 32)) (e : SprEcc) (s : State), s.flag MEM.CTRL_SCRUB_EN = false → Runs (.scrubRead a p e) s []) ∧
  (∀ (a : BitVec 32) (e : SprEcc) (s : State), s.awake = true → s.patrolDue (wordOf a.toNat) = true → inSramWin a.toNat = true →
    exec (.scrubRead a none e) s = .next ((s.patrolled (wordOf a.toNat)).memTouch 0xF (wordOf a.toNat) e)) ∧
  (∀ (a : BitVec 32) (t : Nat) (e : SprEcc) (s : State), s.mem.patrol = [(wordOf a.toNat, t)] → (s.flag MEM.CTRL_SCRUB_EN = false ∨ s.since t < 3600000 * max 1 (s.get MEM.CTRL_SCRUB_INT)) → Runs (.scrubRead a none e) s []) ∧
  (∀ (w t : Nat) (s : State), s.mem.patrol = [(w, t)] →
    s.patrolDue w = (s.flag MEM.CTRL_SCRUB_EN && decide (3600000 * max 1 (s.get MEM.CTRL_SCRUB_INT) ≤ s.since t))) ∧
  (∀ (a : BitVec 32) (b : Fin 16) (k : Fin 32) (e : SprEcc) (s : State), s.patrolDue (spareKey b k) = false → Runs (.scrubRead a (some (b, k)) e) s []) ∧
  (∀ (a : BitVec 32) (s : State), s.awake = true → s.patrolDue (wordOf a.toNat) = true → inSramWin a.toNat = true → s.mem.merge = [] → s.mem.poison = [] → s.mem.upset = [] →
    Ends (.scrubRead a none .clean) s (fun t => BusOnly (fun _ => false) (s.patrolled (wordOf a.toNat)) t ∧ t.brd = s.brd)) ∧
  (∀ (a : BitVec 32) (b : Fin 16) (k : Fin 32) (w : Nat) (e : SprEcc) (s : State), s.awake = true → s.patrolDue (spareKey b k) = true → s.mem.remap = [(w, k.val)] → memBank w = b.val →
    exec (.scrubRead a (some (b, k)) e) s = .next ((s.patrolled (spareKey b k)).memTouch 0xF w e)) ∧
  (∀ (a : BitVec 32) (b : Fin 16) (k : Fin 32) (s : State), s.awake = true → s.patrolDue (spareKey b k) = true → s.mem.remap = [] → s.get (MEM.BANK_BUCKET b) + 1 ≤ s.get MEM.CTRL_CE_THRESH →
    Ends (.scrubRead a (some (b, k)) .corrected) s (fun t => BusOnly (fun x => decide (0x90000 ≤ x ∧ x < 0xA0000)) { s with mem := t.mem, fresh := t.fresh } t ∧ t.mem = (s.patrolled (spareKey b k)).mem ∧ t.get MEM.CNT0_CE_CNT = s.once MEM.CNT0_CE_CNT ∧
      t.get (MEM.BANK_CE_BANK_CNT b) = s.once (MEM.BANK_CE_BANK_CNT b) ∧ t.flag MEM.STATUS_CE = true ∧ t.get MEM.CNT0_UE_CNT = s.get MEM.CNT0_UE_CNT)) ∧
  (∀ (a : BitVec 32) (b : Fin 16) (k : Fin 32) (s : State), s.awake = true → s.patrolDue (spareKey b k) = true → s.mem.remap = [] → Runs (.scrubRead a (some (b, k)) .clean) s [] (s.patrolled (spareKey b k))) ∧
  (∀ (s : State), s.awake = true → s.variant = true → s.flag PWR.CTRL_QDR_EN = true → s.qdrDevices ≠ 0 → s.flag MEM.STATUS_QDR_RDY = false →
    Runs (.qdrTrainDone true) s [(MEM.STATUS_QDR_RDY, 1)] { s with
      mem := { s.mem with
        cells := s.mem.cells.filter (fun c => decide (c.1 < 0x20000000)), poison := s.mem.poison.filter (fun w => decide (w < 0x20000000)), upset := s.mem.upset.filter (fun u => decide (u.1 < 0x20000000)),
        merge := s.mem.merge.filter (fun e => decide (e.addr < 0x20000000)) } }) ∧
  (∀ (s : State), s.awake = true → s.variant = true → s.flag PWR.CTRL_QDR_EN = true → s.qdrDevices ≠ 0 → s.flag MEM.STATUS_QDR_RDY = false →
    RunsThen (.qdrTrainDone false) s [(MEM.STATUS_QDR_FAIL, 1)] s (fun t => t.alarm 0x16 0 0)) ∧
  (∀ (ok : Bool) (s : State), (s.variant = false ∨ s.flag PWR.CTRL_QDR_EN = false ∨ s.qdrDevices = 0 ∨ s.flag MEM.STATUS_QDR_RDY = true) → Runs (.qdrTrainDone ok) s []) ∧
  (∀ (s : State), s.awake = true → Ends .memFlush s (fun t => t = s.flushAll ∧ t.mem.merge = [])) ∧
  (∀ (s : State), s.awake = true → s.mem.merge.all (fun x => x.mask == 0xFF || s.sound x.addr .clean) = true →
    Ends .memFlush s (fun t => t.mem.merge = [] ∧ BusOnly (fun _ => false) { s with mem := t.mem } t)) ∧
  (∀ (s : State), s.awake = true → Runs .memCntClr s (zeroed ([MEM.CNT0_CE_CNT, MEM.CNT0_UE_CNT, MEM.CNT1_LASTING_CNT, MEM.CNT1_UNMAP_CNT] ++ (List.range 18).map MEM.BANK_CE_BANK_CNT))) ∧
  (∀ (w : Nat) (s : State), memBank w < 16 → s.get (MEM.BANK_SPARES_USED (memBank w)) < 32 →
    let t := s.lastingFault w
    t.get (MEM.BANK_SPARES_USED (memBank w)) = s.get (MEM.BANK_SPARES_USED (memBank w)) + 1 ∧ t.get MEM.CNT1_LASTING_CNT = s.once MEM.CNT1_LASTING_CNT ∧ t.flag MEM.STATUS_LASTING = true ∧
      assocFind t.mem.remap w = some (s.get (MEM.BANK_SPARES_USED (memBank w))) ∧ t.get MEM.CNT1_UNMAP_CNT = s.get MEM.CNT1_UNMAP_CNT) ∧
  (∀ (w : Nat) (s : State), (16 ≤ memBank w ∨ 32 ≤ s.get (MEM.BANK_SPARES_USED (memBank w))) →
    let t := s.lastingFault w
    t.get MEM.CNT1_UNMAP_CNT = s.once MEM.CNT1_UNMAP_CNT ∧ t.flag MEM.STATUS_SPARES_OUT = true ∧ t.get MEM.CNT1_LASTING_CNT = s.get MEM.CNT1_LASTING_CNT ∧ t.mem.remap = s.mem.remap) ∧
  (∀ (w b : Nat) (s : State), memBank w = b → s.get MEM.CTRL_CE_THRESH < min 0xFF (s.get (MEM.BANK_BUCKET b) + 1) → s.mem.burst.contains b = false →
    s.bucketUp b = (({ s.set (MEM.BANK_BUCKET b) (min 0xFF (s.get (MEM.BANK_BUCKET b) + 1)) with mem := { s.mem with burst := b :: s.mem.burst } } : State).on MEM.STATUS_CE_BURST).alarm 0x13 b 0)

/-- REEL (R388 to R402, Tables 19-1 to 19-6): START, RESUME and STOP, the fetch and check of a descriptor, the choice of the channel, bursts read
and drained, a peripheral that withdraws its request, the barrier, completion and chaining, quiescence and the counters. -/
def Obligations.Reel : Prop :=
  (∀ (c : ReelId) (s : State), s.awake = true → s.reelBusy c = false →
    Runs (.reelStart c) s [(REEL.CH_STATUS_STATE c, 1), (REEL.STATUS_RUNNING, putBit (s.get REEL.STATUS_RUNNING) c true), (REEL.STATUS_QUIESCED, putBit (s.get REEL.STATUS_QUIESCED) c false), (REEL.CH_BYTES_BYTES c, 0)] (s.setRl c (fun _ => {}))) ∧
  (∀ (c : ReelId) (s : State), s.awake = true → s.reelBusy c = false →
    Runs (.resume c) s [(REEL.CH_STATUS_STATE c, 1), (REEL.STATUS_RUNNING, putBit (s.get REEL.STATUS_RUNNING) c true), (REEL.STATUS_QUIESCED, putBit (s.get REEL.STATUS_QUIESCED) c false), (REEL.CH_BYTES_BYTES c, 0)] (s.setRl c (fun _ => { resume := true }))) ∧
  (∀ (c : ReelId) (s : State), s.awake = true → s.reelBusy c = true → Runs (.reelStart c) s [(REEL.CH_STATUS_START_REJ c, 1)]) ∧
  (∀ (c : ReelId) (s : State), s.awake = true → s.reelBusy c = true → Runs (.resume c) s [(REEL.CH_STATUS_START_REJ c, 1)]) ∧
  (∀ (c : ReelId) (s : State), s.awake = true → s.reelBusy c = false → Runs (.reelStop c) s []) ∧
  (∀ (c : ReelId) (s : State), s.awake = true → s.reelBusy c = true → ((s.rl c).bursts ≠ [] ∨ ((s.rl c).desc = [] ∧ (s.rl c).paused = false)) →
    Runs (.reelStop c) s [(REEL.CH_CMD_STOP c, 1)] (s.setRl c (fun h => { h with stop := true }))) ∧
  (∀ (c : ReelId) (s : State), s.awake = true → s.reelBusy c = true → (s.rl c).bursts = [] → (s.rl c).desc ≠ [] → (s.rl c).abort = false → (s.rl c).bytes < (s.rl c).total →
    Ends (.reelStop c) s (fun t => t.get (REEL.CH_STATUS_STATE c) = 3 ∧ t.get (REEL.CH_STATUS_CODE c) = 7 ∧ t.flag (REEL.CH_STATUS_ERR c) = true ∧ t.get REEL.CNT1_ERR_CNT = s.once REEL.CNT1_ERR_CNT ∧
      t.get (REEL.CH_BYTES_BYTES c) = (s.rl c).bytes % 2 ^ 32 ∧ t.flag (REEL.CH_CMD_STOP c) = false ∧ t.rl c = {})) ∧
  (∀ (c : ReelId) (l : List SprEcc) (s : State), (s.get (REEL.CH_STATUS_STATE c) ≠ 1 ∨ (s.rl c).desc ≠ [] ∨ (s.rl c).paused = true) → Runs (.descriptorFetch c l) s []) ∧
  (∀ (c : ReelId) (l : List SprEcc) (s : State), s.awake = true → s.get (REEL.CH_STATUS_STATE c) = 1 → (s.rl c).desc = [] → (s.rl c).paused = false → inMemory (s.get (REEL.CH_DESC_ADDR c)) = false →
    Runs (.descriptorFetch c l) s [(REEL.CH_STATUS_CODE c, 6), (REEL.CH_STATUS_ERR c, 1), (REEL.CNT1_ERR_CNT, s.once REEL.CNT1_ERR_CNT), (REEL.CH_STATUS_STATE c, 3), (REEL.STATUS_RUNNING, putBit (s.get REEL.STATUS_RUNNING) c false),
        (REEL.STATUS_QUIESCED, putBit (s.get REEL.STATUS_QUIESCED) c false), (REEL.CH_CMD_STOP c, 0), (REEL.CH_STATUS_WAIT_REQ c, 0), (REEL.STATUS_INFLIGHT, (s.setRl c (fun _ => {})).inflight)] (s.setRl c (fun _ => {}))) ∧
  (∀ (c : ReelId) (s : State), s.awake = true → s.get (REEL.CH_STATUS_STATE c) = 1 → (s.rl c).desc = [] → (s.rl c).paused = false → s.pwr.sleeps = [] → (s.rl c).stop = false → (s.rl c).abort = false → (s.rl c).resume = false → inSramWin (s.get (REEL.CH_DESC_ADDR c)) = true →
    s.get (REEL.CH_DESC_ADDR c) % 64 = 0 → s.mem.merge = [] → s.mem.poison = [] → s.mem.upset = [] →
    descOk s.variant false { desc := (List.range 16).map (fun k => readLE s.mem.cells (s.get (REEL.CH_DESC_ADDR c) + 4 * k) 4) } = true →
    Ends (.descriptorFetch c []) s (fun t => (t.rl c).desc = (List.range 16).map (fun k => readLE s.mem.cells (s.get (REEL.CH_DESC_ADDR c) + 4 * k) 4) ∧ (t.rl c).bytes = 0 ∧ (t.rl c).read = 0 ∧ (t.rl c).bursts = (s.rl c).bursts ∧
      t.get (REEL.CH_STATUS_STATE c) = 1 ∧ t.get (REEL.CH_BYTES_BYTES c) = 0 ∧ t.mem = s.mem)) ∧
  (∀ (c : ReelId) (s : State), s.awake = true → s.get (REEL.CH_STATUS_STATE c) = 1 → (s.rl c).desc = [] → (s.rl c).paused = false → (s.rl c).resume = false → inSramWin (s.get (REEL.CH_DESC_ADDR c)) = true →
    s.get (REEL.CH_DESC_ADDR c) % 64 = 0 → s.mem.merge = [] → s.mem.poison = [] → s.mem.upset = [] → (s.rl c).poison = false →
    descOk s.variant false { desc := (List.range 16).map (fun k => readLE s.mem.cells (s.get (REEL.CH_DESC_ADDR c) + 4 * k) 4) } = false →
    Ends (.descriptorFetch c []) s (fun t => t.get (REEL.CH_STATUS_CODE c) = 6 ∧ t.get (REEL.CH_STATUS_STATE c) = 3 ∧ t.flag (REEL.CH_STATUS_ERR c) = true ∧ t.get REEL.CNT1_ERR_CNT = s.once REEL.CNT1_ERR_CNT ∧ t.rl c = {} ∧
      readLE t.mem.cells (s.get (REEL.CH_DESC_ADDR c) + 0x28) 8 = 6)) ∧
  (∀ (c : ReelId) (x : ReelIn) (s : State), s.awake = true → s.get (REEL.CH_STATUS_STATE c) = 1 → (s.rl c).desc ≠ [] → s.reqLine (s.rl c).req = false →
    Runs (.burstStart c x) s [(REEL.CH_STATUS_WAIT_REQ c, 1)]) ∧
  (∀ (c : ReelId) (x : ReelIn) (s : State), s.awake = true → s.reqLine (s.rl c).req = true → s.reelPick ≠ some c → Runs (.burstStart c x) s []) ∧
  (∀ (c d : ReelId) (s : State), s.reelPick = some c → s.reelReady d = true →
    s.reelReady c = true ∧ s.get (REEL.CH_CFG_PRIO d) ≤ s.get (REEL.CH_CFG_PRIO c) ∧
      (s.get (REEL.CH_CFG_PRIO d) = s.get (REEL.CH_CFG_PRIO c) →
        (c - (s.reelLast.get (Fin.ofNat 4 (s.get (REEL.CH_CFG_PRIO c))) + 1)).val ≤ (d - (s.reelLast.get (Fin.ofNat 4 (s.get (REEL.CH_CFG_PRIO c))) + 1)).val)) ∧
  (∀ (c : ReelId) (x : ReelIn) (h : ReelCh) (s : State), s.awake = true → s.reelPick = some c → s.rl c = h → h.mode = 0 → h.srcHost = false → h.dstHost = false → h.srcFix = false → h.dstFix = false → inSramWin (h.src + h.read) = true →
    inSramWin (h.src + h.read + min (16 * h.burst) (h.total - h.read)) = true → s.mem.merge = [] → s.mem.poison = [] → s.mem.upset = [] → x.ecc = [] → h.bursts = [] →
    Ends (.burstStart c x) s (fun t => t.rl c = { h with
        bursts := [{ len := min (16 * h.burst) (h.total - h.read), dst := (h.dst + h.read) % 2 ^ 32, data := (List.range (min (16 * h.burst) (h.total - h.read))).map (fun i => ((byteAt s.mem.cells (h.src + h.read + i)).toNat, false)) }],
        read := h.read + min (16 * h.burst) (h.total - h.read) } ∧ t.reelLast = vset s.reelLast (Fin.ofNat 4 (s.get (REEL.CH_CFG_PRIO c))) c ∧ t.flag (REEL.CH_STATUS_WAIT_REQ c) = false ∧ t.get REEL.STATUS_INFLIGHT = t.inflight % 8 ∧ t.mem = s.mem)) ∧
  (∀ (c : ReelId) (s : State), (s.rl c).bursts = [] → Runs (.burstEnd c) s []) ∧
  (∀ (c : ReelId) (b : ReelBurst) (h : ReelCh) (s : State), s.awake = true → s.rl c = h → h.bursts = [b] → b.full = true → b.err = none → h.dstHost = true → h.stop = false → h.abort = false → h.paused = false →
    Ends (.burstEnd c) s (fun t => t.rl c = { h with
        bursts := [], bytes := h.bytes + b.len } ∧ t.get (REEL.CH_BYTES_BYTES c) = (h.bytes + b.len) % 2 ^ 32 ∧ t.get (REEL.CH_CNT_BURST_CNT c) = s.once (REEL.CH_CNT_BURST_CNT c) ∧
      t.hostOut = (if b.data = [] then s.hostOut else [(b.dst, b.data)]) ∧ t.mem = s.mem)) ∧
  (∀ (c : ReelId) (b : ReelBurst) (h : ReelCh) (a : Nat) (s : State), s.awake = true → s.rl c = h → h.bursts = [b] → b.err = none → b.len = b.data.length → b.data.length % 8 = 0 → b.dst % 8 = 0 → h.dstHost = false → h.dstFix = false → h.stop = false → h.abort = false → h.paused = false →
    inSramWin b.dst = true → inSramWin (b.dst + b.data.length) = true → b.data.all (fun p => !p.2) = true →
    Ends (.burstEnd c) s (fun t => (t.rl c).bytes = h.bytes + b.len ∧ (t.rl c).bursts = [] ∧
      byteAt t.mem.cells a = (if b.dst ≤ a ∧ a < b.dst + b.data.length then BitVec.ofNat 8 ((b.data.getD (a - b.dst) (0, false)).1) else byteAt s.mem.cells a))) ∧
  (∀ (c : ReelId) (k : Nat) (s : State), ((s.rl c).bursts = [] ∨ s.reqLine (s.rl c).req = true) → Runs (.periphAbort c k) s []) ∧
  (∀ (c : ReelId) (b : ReelBurst) (h : ReelCh) (s : State), s.awake = true → s.rl c = h → h.bursts = [b] → b.full = false → s.reqLine h.req = false → h.dstHost = true → h.abort = false →
    Ends (.periphAbort c 0) s (fun t => t.get (REEL.CH_STATUS_CODE c) = 4 ∧ t.get (REEL.CH_STATUS_STATE c) = 3 ∧ t.get REEL.CNT0_PERIPH_ABORT_CNT = s.once REEL.CNT0_PERIPH_ABORT_CNT ∧ t.get (REEL.CH_BYTES_BYTES c) = (h.bytes + b.data.length) % 2 ^ 32 ∧
      t.get REEL.CNT1_ERR_CNT = s.once REEL.CNT1_ERR_CNT ∧ t.rl c = {})) ∧
  (∀ (c : ReelId) (s : State), s.awake = true → s.reelBusy c = true → (s.rl c).barrier = true → (s.rl c).desc ≠ [] → (s.rl c).bursts = [] → (s.rl c).total ≤ (s.rl c).bytes →
    Ends (.barrierConfirm c) s (fun t => t = s.flushAll.setRl c (fun h => { h with confirmed := true }) ∧ t.mem.merge = [])) ∧
  (∀ (c : ReelId) (s : State), (s.reelBusy c = false ∨ (s.rl c).barrier = false ∨ (s.rl c).desc = [] ∨ (s.rl c).bursts ≠ [] ∨ (s.rl c).bytes < (s.rl c).total) → Runs (.barrierConfirm c) s []) ∧
  (∀ (c : ReelId) (h : ReelCh) (s : State), s.awake = true → s.reelBusy c = true → s.rl c = h → h.desc ≠ [] → h.bursts = [] → h.total ≤ h.bytes → (h.barrier = false ∨ h.confirmed = true) → h.isLast = true → s.get (REEL.CH_DESC_ADDR c) % 8 = 0 →
    Ends (.descriptorComplete c) s (fun t => t.get (REEL.CH_STATUS_CODE c) = 1 ∧ t.get (REEL.CH_STATUS_STATE c) = 0 ∧ t.flag (REEL.CH_STATUS_DONE c) = (h.irq || s.flag (REEL.CH_STATUS_DONE c)) ∧ t.get (REEL.CH_CNT_DESC_CNT c) = s.once (REEL.CH_CNT_DESC_CNT c) ∧
      t.get (REEL.CH_BYTES_BYTES c) = h.bytes % 2 ^ 32 ∧ t.flag (REEL.CH_CMD_STOP c) = false ∧ readLE t.mem.cells (s.get (REEL.CH_DESC_ADDR c) + 0x28) 8 = 1 + 16 * h.poison.toNat + 2 ^ 32 * (h.bytes % 2 ^ 32) ∧ t.rl c = {} ∧
      t.get REEL.CNT1_ERR_CNT = s.get REEL.CNT1_ERR_CNT)) ∧
  (∀ (c : ReelId) (h : ReelCh) (s : State), s.awake = true → s.reelBusy c = true → s.rl c = h → h.desc ≠ [] → h.bursts = [] → h.total ≤ h.bytes → (h.barrier = false ∨ h.confirmed = true) → h.isLast = false →
    Ends (.descriptorComplete c) s (fun t => t.get (REEL.CH_STATUS_CODE c) = 1 ∧ t.get (REEL.CH_STATUS_STATE c) = s.get (REEL.CH_STATUS_STATE c) ∧ t.get (REEL.CH_DESC_ADDR c) = h.next % 2 ^ 32 ∧ t.rl c = { stop := h.stop, paused := h.paused } ∧
      t.get (REEL.CH_CNT_DESC_CNT c) = s.once (REEL.CH_CNT_DESC_CNT c))) ∧
  (∀ (c : ReelId) (s : State), (s.reelBusy c = false ∨ (s.rl c).desc = [] ∨ (s.rl c).bursts ≠ [] ∨ (s.rl c).bytes < (s.rl c).total ∨ ((s.rl c).barrier = true ∧ (s.rl c).confirmed = false)) → Runs (.descriptorComplete c) s []) ∧
  (∀ (s : State), s.awake = true → Runs .reelCntClr s (zeroed ([REEL.CNT0_PERIPH_ABORT_CNT, REEL.CNT0_DOMAIN_ABORT_CNT, REEL.CNT1_POISON_CNT, REEL.CNT1_ERR_CNT] ++ (List.range 8).map REEL.CH_CNT_DESC_CNT ++ (List.range 8).map REEL.CH_CNT_BURST_CNT))) ∧
  (∀ (c : ReelId) (h : ReelCh) (s : State), s.rl c = h → h.bursts = [] → h.desc ≠ [] → h.abort = true →
    let t := s.reelBoundary c
    t.get (REEL.CH_STATUS_CODE c) = 5 ∧ t.get (REEL.CH_STATUS_STATE c) = 3 ∧ t.get REEL.CNT0_DOMAIN_ABORT_CNT = s.once REEL.CNT0_DOMAIN_ABORT_CNT ∧ t.flag PWR.STATUS_DOMAIN_ABORT = true ∧ t.rl c = {}) ∧
  (∀ (c : ReelId) (h : ReelCh) (s : State), s.rl c = h → h.bursts = [] → h.desc ≠ [] → h.abort = false → h.stop = false → h.paused = true →
    s.reelBoundary c = s.reelState c 2)

/-- INDIRECT PAIRS AND RING PORTS (R56, R86, R119, R133, R190, R361, R365, R366, R418): a data access of the slice files, the coefficient files, the
transmit banks and the host receive coefficients reads or writes the word at ADDR and advances the initiator's own ADDR by STRIDE; what it
is answered when the lane sleeps, the word is busy or the address lies outside; and the reads of the log and trace ports. -/
def Obligations.IndirectPairs : Prop :=
  (∀ (i : Initiator) (n : Lane) (s : State), s.mayAccess i = true → (s.ln n).power = .active → (Pair.slc n).valid (s.get ((LN.SLC_ADDR_ADDR n).forInit i.code) / 4 * 4) = true → s.pairBusy (s.get ((LN.SLC_ADDR_ADDR n).forInit i.code) / 4 * 4) (Pair.slc n) = false → s.brd.parityBad = [] →
    Ends (.slcDataAccess i n .read) s (fun t => BusOnly (fun a => a == ((LN.SLC_ADDR_ADDR n).forInit i.code).addr) s t ∧ t.brd = { s.brd with resp := .data (s.wordAt ((Pair.slc n).base + s.get ((LN.SLC_ADDR_ADDR n).forInit i.code) / 4 * 4)) } ∧
      t.get ((LN.SLC_ADDR_ADDR n).forInit i.code) = (s.get ((LN.SLC_ADDR_ADDR n).forInit i.code) + s.get ((LN.SLC_ADDR_STRIDE n).forInit i.code)) % 2 ^ (LN.SLC_ADDR_ADDR n).w ∧ t.get ((LN.SLC_ADDR_STRIDE n).forInit i.code) = s.get ((LN.SLC_ADDR_STRIDE n).forInit i.code))) ∧
  (∀ (i : Initiator) (n : Lane) (acc : DataAcc) (s : State), s.mayAccess i = true → s.pendingOf i.code = none → ((s.ln n).power ≠ .active ∨ s.pairBusy (s.get ((LN.SLC_ADDR_ADDR n).forInit i.code) / 4 * 4) (Pair.slc n) = true) →
    AccessFails (.slcDataAccess i n acc) i (LN.SLC_DATA_DATA n).addr 5 acc.isWrite 4 s) ∧
  (∀ (i : Initiator) (n : Lane) (acc : DataAcc) (s : State), s.mayAccess i = true → s.pendingOf i.code = none → (s.ln n).power = .active → s.pairBusy (s.get ((LN.SLC_ADDR_ADDR n).forInit i.code) / 4 * 4) (Pair.slc n) = false → (Pair.slc n).valid (s.get ((LN.SLC_ADDR_ADDR n).forInit i.code) / 4 * 4) = false →
    AccessFails (.slcDataAccess i n acc) i (LN.SLC_DATA_DATA n).addr 8 acc.isWrite 4 s) ∧
  (∀ (i : Initiator) (n : Lane) (acc : DataAcc) (s : State), s.mayAccess i = false → Runs (.slcDataAccess i n acc) s []) ∧
  (∀ (i : Initiator) (n : Lane) (w : Word) (a : Nat) (s : State), s.mayAccess i = true → s.pendingOf i.code = none → s.brd.parityBad = [] → (s.ln n).power = .active → s.get ((LN.SLC_ADDR_ADDR n).forInit i.code) = a → a = 0x1100 →
    exec (.slcDataAccess i n (.write w)) s = .next ((((fun (t : State) => (t.set (AFE.AFE_PEAK_PEAK n) w.toNat).peakWritten n) ((s.countEvent 1 0 1).respond .done)).advance i.code (LN.SLC_ADDR_ADDR n) (LN.SLC_ADDR_STRIDE n)).respond .done)) ∧
  (∀ (i : Initiator) (n : Lane) (w : Word) (a : Nat) (s : State), s.mayAccess i = true → s.pendingOf i.code = none → s.brd.parityBad = [] → (s.ln n).power = .active → s.get ((LN.SLC_ADDR_ADDR n).forInit i.code) = a → a / 4 * 4 ≠ 0x1100 → (Pair.slc n).valid (a / 4 * 4) = true →
    exec (.slcDataAccess i n (.write w)) s = .next ((((fun (t : State) => t) ((s.countEvent 1 0 1).respond .done)).advance i.code (LN.SLC_ADDR_ADDR n) (LN.SLC_ADDR_STRIDE n)).respond .done)) ∧
  (∀ (i : Initiator) (n : Lane) (s : State), s.mayAccess i = true → (s.ln n).power = .active → (Pair.eqc n).valid (s.get ((LN.EQC_ADDR_ADDR n).forInit i.code) / 4 * 4) = true → s.pairBusy (s.get ((LN.EQC_ADDR_ADDR n).forInit i.code) / 4 * 4) (Pair.eqc n) = false → s.brd.parityBad = [] →
    Ends (.eqcDataAccess i n .read) s (fun t => BusOnly (fun a => a == ((LN.EQC_ADDR_ADDR n).forInit i.code).addr) s t ∧ t.brd = { s.brd with resp := .data (s.wordAt ((Pair.eqc n).base + s.get ((LN.EQC_ADDR_ADDR n).forInit i.code) / 4 * 4)) } ∧
      t.get ((LN.EQC_ADDR_ADDR n).forInit i.code) = (s.get ((LN.EQC_ADDR_ADDR n).forInit i.code) + s.get ((LN.EQC_ADDR_STRIDE n).forInit i.code)) % 2 ^ (LN.EQC_ADDR_ADDR n).w ∧ t.get ((LN.EQC_ADDR_STRIDE n).forInit i.code) = s.get ((LN.EQC_ADDR_STRIDE n).forInit i.code))) ∧
  (∀ (i : Initiator) (n : Lane) (acc : DataAcc) (s : State), s.mayAccess i = true → s.pendingOf i.code = none → ((s.ln n).power ≠ .active ∨ s.pairBusy (s.get ((LN.EQC_ADDR_ADDR n).forInit i.code) / 4 * 4) (Pair.eqc n) = true) →
    AccessFails (.eqcDataAccess i n acc) i (LN.EQC_DATA_DATA n).addr 5 acc.isWrite 4 s) ∧
  (∀ (i : Initiator) (n : Lane) (acc : DataAcc) (s : State), s.mayAccess i = true → s.pendingOf i.code = none → (s.ln n).power = .active → s.pairBusy (s.get ((LN.EQC_ADDR_ADDR n).forInit i.code) / 4 * 4) (Pair.eqc n) = false → (Pair.eqc n).valid (s.get ((LN.EQC_ADDR_ADDR n).forInit i.code) / 4 * 4) = false →
    AccessFails (.eqcDataAccess i n acc) i (LN.EQC_DATA_DATA n).addr 8 acc.isWrite 4 s) ∧
  (∀ (i : Initiator) (n : Lane) (acc : DataAcc) (s : State), s.mayAccess i = false → Runs (.eqcDataAccess i n acc) s []) ∧
  (∀ (i : Initiator) (n : Lane) (w : Word) (a : Nat) (s : State), s.mayAccess i = true → s.pendingOf i.code = none → s.brd.parityBad = [] → (s.ln n).power = .active → s.get ((LN.EQC_ADDR_ADDR n).forInit i.code) = a → a < 0x1C0 → a % 4 = 0 →
    exec (.eqcDataAccess i n (.write w)) s = .next ((((fun (t : State) => t.coefWrite n (a / 4) (sext 12 w.toNat)) ((s.countEvent 1 0 1).respond .done)).advance i.code (LN.EQC_ADDR_ADDR n) (LN.EQC_ADDR_STRIDE n)).respond .done)) ∧
  (∀ (i : Initiator) (n : Lane) (w : Word) (a : Nat) (s : State), s.mayAccess i = true → s.pendingOf i.code = none → s.brd.parityBad = [] → (s.ln n).power = .active → s.get ((LN.EQC_ADDR_ADDR n).forInit i.code) = a → 0x200 ≤ a → a < 0x250 → a % 4 = 0 →
    exec (.eqcDataAccess i n (.write w)) s = .next ((((fun (t : State) => t.coefWrite n (128 + (a - 0x200) / 4) (sext 10 w.toNat)) ((s.countEvent 1 0 1).respond .done)).advance i.code (LN.EQC_ADDR_ADDR n) (LN.EQC_ADDR_STRIDE n)).respond .done)) ∧
  (∀ (i : Initiator) (n : Lane) (w : Word) (a : Nat) (s : State), s.mayAccess i = true → s.pendingOf i.code = none → s.brd.parityBad = [] → (s.ln n).power = .active → s.get ((LN.EQC_ADDR_ADDR n).forInit i.code) = a → a = 0x300 →
    exec (.eqcDataAccess i n (.write w)) s = .next ((((fun (t : State) => t.coefWrite n 192 (sext 10 w.toNat)) ((s.countEvent 1 0 1).respond .done)).advance i.code (LN.EQC_ADDR_ADDR n) (LN.EQC_ADDR_STRIDE n)).respond .done)) ∧
  (∀ (i : Initiator) (n : Lane) (w : Word) (a : Nat) (s : State), s.mayAccess i = true → s.pendingOf i.code = none → s.brd.parityBad = [] → (s.ln n).power = .active → s.get ((LN.EQC_ADDR_ADDR n).forInit i.code) = a → 0x800 ≤ a → a ≤ 0x813 →
    exec (.eqcDataAccess i n (.write w)) s = .next ((((fun (t : State) => t) ((s.countEvent 1 0 1).respond .done)).advance i.code (LN.EQC_ADDR_ADDR n) (LN.EQC_ADDR_STRIDE n)).respond .done)) ∧
  (∀ (i : Initiator) (n : Lane) (s : State), s.mayAccess i = true → (s.ln n).power = .active → (Pair.txt n).valid (s.get ((LN.TXT_ADDR_ADDR n).forInit i.code) / 4 * 4) = true → s.pairBusy (s.get ((LN.TXT_ADDR_ADDR n).forInit i.code) / 4 * 4) (Pair.txt n) = false → s.brd.parityBad = [] →
    Ends (.txtDataAccess i n .read) s (fun t => BusOnly (fun a => a == ((LN.TXT_ADDR_ADDR n).forInit i.code).addr) s t ∧ t.brd = { s.brd with resp := .data (s.wordAt ((Pair.txt n).base + s.get ((LN.TXT_ADDR_ADDR n).forInit i.code) / 4 * 4)) } ∧
      t.get ((LN.TXT_ADDR_ADDR n).forInit i.code) = (s.get ((LN.TXT_ADDR_ADDR n).forInit i.code) + s.get ((LN.TXT_ADDR_STRIDE n).forInit i.code)) % 2 ^ (LN.TXT_ADDR_ADDR n).w ∧ t.get ((LN.TXT_ADDR_STRIDE n).forInit i.code) = s.get ((LN.TXT_ADDR_STRIDE n).forInit i.code))) ∧
  (∀ (i : Initiator) (n : Lane) (acc : DataAcc) (s : State), s.mayAccess i = true → s.pendingOf i.code = none → ((s.ln n).power ≠ .active ∨ s.pairBusy (s.get ((LN.TXT_ADDR_ADDR n).forInit i.code) / 4 * 4) (Pair.txt n) = true) →
    AccessFails (.txtDataAccess i n acc) i (LN.TXT_DATA_DATA n).addr 5 acc.isWrite 4 s) ∧
  (∀ (i : Initiator) (n : Lane) (acc : DataAcc) (s : State), s.mayAccess i = true → s.pendingOf i.code = none → (s.ln n).power = .active → s.pairBusy (s.get ((LN.TXT_ADDR_ADDR n).forInit i.code) / 4 * 4) (Pair.txt n) = false → (Pair.txt n).valid (s.get ((LN.TXT_ADDR_ADDR n).forInit i.code) / 4 * 4) = false →
    AccessFails (.txtDataAccess i n acc) i (LN.TXT_DATA_DATA n).addr 8 acc.isWrite 4 s) ∧
  (∀ (i : Initiator) (n : Lane) (acc : DataAcc) (s : State), s.mayAccess i = false → Runs (.txtDataAccess i n acc) s []) ∧
  (∀ (i : Initiator) (n : Lane) (w : Word) (a : Nat) (s : State), s.mayAccess i = true → s.pendingOf i.code = none → s.brd.parityBad = [] → (s.ln n).power = .active → s.get ((LN.TXT_ADDR_ADDR n).forInit i.code) = a → isShadow a = true → a % 4 = 0 → s.flag (LN.TX_STATUS_SWAP_PEND n) = false →
    exec (.txtDataAccess i n (.write w)) s = .next ((((fun (t : State) => (t.wordSet (fieldsAt ((Pair.txt n).base + a)) w.toNat).on (LN.TX_STATUS_SHADOW_DIRTY n)) ((s.countEvent 1 0 1).respond .done)).advance i.code (LN.TXT_ADDR_ADDR n) (LN.TXT_ADDR_STRIDE n)).respond .done)) ∧
  (∀ (i : Initiator) (n : Lane) (w : Word) (a : Nat) (s : State), s.mayAccess i = true → s.pendingOf i.code = none → s.brd.parityBad = [] → (s.ln n).power = .active → s.get ((LN.TXT_ADDR_ADDR n).forInit i.code) = a → isShadow (a / 4 * 4) = false → (Pair.txt n).valid (a / 4 * 4) = true →
    exec (.txtDataAccess i n (.write w)) s = .next ((((fun (t : State) => t) ((s.countEvent 1 0 1).respond .done)).advance i.code (LN.TXT_ADDR_ADDR n) (LN.TXT_ADDR_STRIDE n)).respond .done)) ∧
  (∀ (i : Initiator) (j : Host) (s : State), s.mayAccess i = true → (s.hl j).power = .active → (Pair.rxc j).valid (s.get ((HL.RXC_ADDR_ADDR j).forInit i.code) / 4 * 4) = true → s.pairBusy (s.get ((HL.RXC_ADDR_ADDR j).forInit i.code) / 4 * 4) (Pair.rxc j) = false → s.brd.parityBad = [] →
    Ends (.rxcDataAccess i j .read) s (fun t => BusOnly (fun a => a == ((HL.RXC_ADDR_ADDR j).forInit i.code).addr) s t ∧ t.brd = { s.brd with resp := .data (s.wordAt ((Pair.rxc j).base + s.get ((HL.RXC_ADDR_ADDR j).forInit i.code) / 4 * 4)) } ∧
      t.get ((HL.RXC_ADDR_ADDR j).forInit i.code) = (s.get ((HL.RXC_ADDR_ADDR j).forInit i.code) + s.get ((HL.RXC_ADDR_STRIDE j).forInit i.code)) % 2 ^ (HL.RXC_ADDR_ADDR j).w ∧ t.get ((HL.RXC_ADDR_STRIDE j).forInit i.code) = s.get ((HL.RXC_ADDR_STRIDE j).forInit i.code))) ∧
  (∀ (i : Initiator) (j : Host) (acc : DataAcc) (s : State), s.mayAccess i = true → s.pendingOf i.code = none → ((s.hl j).power ≠ .active ∨ s.pairBusy (s.get ((HL.RXC_ADDR_ADDR j).forInit i.code) / 4 * 4) (Pair.rxc j) = true) →
    AccessFails (.rxcDataAccess i j acc) i (HL.RXC_DATA_DATA j).addr 5 acc.isWrite 4 s) ∧
  (∀ (i : Initiator) (j : Host) (acc : DataAcc) (s : State), s.mayAccess i = true → s.pendingOf i.code = none → (s.hl j).power = .active → s.pairBusy (s.get ((HL.RXC_ADDR_ADDR j).forInit i.code) / 4 * 4) (Pair.rxc j) = false → (Pair.rxc j).valid (s.get ((HL.RXC_ADDR_ADDR j).forInit i.code) / 4 * 4) = false →
    AccessFails (.rxcDataAccess i j acc) i (HL.RXC_DATA_DATA j).addr 8 acc.isWrite 4 s) ∧
  (∀ (i : Initiator) (j : Host) (acc : DataAcc) (s : State), s.mayAccess i = false → Runs (.rxcDataAccess i j acc) s []) ∧
  (∀ (i : Initiator) (j : Host) (w : Word) (a : Nat) (s : State), s.mayAccess i = true → s.pendingOf i.code = none → s.brd.parityBad = [] → (s.hl j).power = .active → s.get ((HL.RXC_ADDR_ADDR j).forInit i.code) = a → a < 0x60 → a % 4 = 0 →
    exec (.rxcDataAccess i j (.write w)) s = .next ((((fun (t : State) => t.rxWrite j (a / 4) (sext 10 w.toNat)) ((s.countEvent 1 0 1).respond .done)).advance i.code (HL.RXC_ADDR_ADDR j) (HL.RXC_ADDR_STRIDE j)).respond .done)) ∧
  (∀ (i : Initiator) (j : Host) (w : Word) (a : Nat) (s : State), s.mayAccess i = true → s.pendingOf i.code = none → s.brd.parityBad = [] → (s.hl j).power = .active → s.get ((HL.RXC_ADDR_ADDR j).forInit i.code) = a → 0x100 ≤ a → a ≤ 0x10B → a % 4 = 0 →
    exec (.rxcDataAccess i j (.write w)) s = .next ((((fun (t : State) => t.rxWrite j (64 + (a - 0x100) / 4) (sext 8 w.toNat)) ((s.countEvent 1 0 1).respond .done)).advance i.code (HL.RXC_ADDR_ADDR j) (HL.RXC_ADDR_STRIDE j)).respond .done)) ∧
  (∀ (i : Initiator) (n : Lane) (e : SprEcc) (s : State), s.mayAccess i = true → (s.ln n).power = .active → s.pairBusy (s.get ((LN.SLC_ADDR_ADDR n).forInit i.code) / 4 * 4) (Pair.slc n) = false → (Pair.slc n).valid (s.get ((LN.SLC_ADDR_ADDR n).forInit i.code) / 4 * 4) = true → e ≠ .clean →
    Ends (.slcDataAccess i n (.bad e)) s (fun t => t.brd.resp = .error 9 ∧ t.get GLB.BRD_CNT1_PARITY_CNT = s.once GLB.BRD_CNT1_PARITY_CNT ∧ t.flag GLB.BRD_STATUS_PARITY = true ∧ t.get ((LN.SLC_ADDR_ADDR n).forInit i.code) = s.get ((LN.SLC_ADDR_ADDR n).forInit i.code) ∧
      t.get GLB.BRD_CNT0_ACCESS_FAULT = s.once GLB.BRD_CNT0_ACCESS_FAULT ∧ t.brd.parityDue.contains ((Pair.slc n).base + s.get ((LN.SLC_ADDR_ADDR n).forInit i.code) / 4 * 4) = true)) ∧
  (∀ (i : Initiator) (n : Lane) (e : SprEcc) (s : State), s.mayAccess i = true → (s.ln n).power = .active → s.pairBusy (s.get ((LN.EQC_ADDR_ADDR n).forInit i.code) / 4 * 4) (Pair.eqc n) = false → (Pair.eqc n).valid (s.get ((LN.EQC_ADDR_ADDR n).forInit i.code) / 4 * 4) = true → e ≠ .clean →
    Ends (.eqcDataAccess i n (.bad e)) s (fun t => t.brd.resp = .error 9 ∧ t.get GLB.BRD_CNT1_PARITY_CNT = s.once GLB.BRD_CNT1_PARITY_CNT ∧ t.flag GLB.BRD_STATUS_PARITY = true ∧ t.get ((LN.EQC_ADDR_ADDR n).forInit i.code) = s.get ((LN.EQC_ADDR_ADDR n).forInit i.code) ∧
      t.get GLB.BRD_CNT0_ACCESS_FAULT = s.once GLB.BRD_CNT0_ACCESS_FAULT ∧ t.brd.parityDue.contains ((Pair.eqc n).base + s.get ((LN.EQC_ADDR_ADDR n).forInit i.code) / 4 * 4) = true)) ∧
  (∀ (i : Initiator) (n : Lane) (e : SprEcc) (s : State), s.mayAccess i = true → (s.ln n).power = .active → s.pairBusy (s.get ((LN.TXT_ADDR_ADDR n).forInit i.code) / 4 * 4) (Pair.txt n) = false → (Pair.txt n).valid (s.get ((LN.TXT_ADDR_ADDR n).forInit i.code) / 4 * 4) = true → e ≠ .clean →
    Ends (.txtDataAccess i n (.bad e)) s (fun t => t.brd.resp = .error 9 ∧ t.get GLB.BRD_CNT1_PARITY_CNT = s.once GLB.BRD_CNT1_PARITY_CNT ∧ t.flag GLB.BRD_STATUS_PARITY = true ∧ t.get ((LN.TXT_ADDR_ADDR n).forInit i.code) = s.get ((LN.TXT_ADDR_ADDR n).forInit i.code) ∧
      t.get GLB.BRD_CNT0_ACCESS_FAULT = s.once GLB.BRD_CNT0_ACCESS_FAULT ∧ t.brd.parityDue.contains ((Pair.txt n).base + s.get ((LN.TXT_ADDR_ADDR n).forInit i.code) / 4 * 4) = true)) ∧
  (∀ (i : Initiator) (j : Host) (e : SprEcc) (s : State), s.mayAccess i = true → (s.hl j).power = .active → s.pairBusy (s.get ((HL.RXC_ADDR_ADDR j).forInit i.code) / 4 * 4) (Pair.rxc j) = false → (Pair.rxc j).valid (s.get ((HL.RXC_ADDR_ADDR j).forInit i.code) / 4 * 4) = true → e ≠ .clean →
    Ends (.rxcDataAccess i j (.bad e)) s (fun t => t.brd.resp = .error 9 ∧ t.get GLB.BRD_CNT1_PARITY_CNT = s.once GLB.BRD_CNT1_PARITY_CNT ∧ t.flag GLB.BRD_STATUS_PARITY = true ∧ t.get ((HL.RXC_ADDR_ADDR j).forInit i.code) = s.get ((HL.RXC_ADDR_ADDR j).forInit i.code) ∧
      t.get GLB.BRD_CNT0_ACCESS_FAULT = s.once GLB.BRD_CNT0_ACCESS_FAULT ∧ t.brd.parityDue.contains ((Pair.rxc j).base + s.get ((HL.RXC_ADDR_ADDR j).forInit i.code) / 4 * 4) = true)) ∧
  (∀ (i : Initiator) (g : Fin 2) (s : State), s.mayAccess i = true → s.ringOn g = true → s.ringUnread g ≠ 0 → s.mem.merge = [] → s.mem.poison = [] → s.mem.upset = [] →
    Ends (.ringPortRead i g .clean) s (fun t => BusOnly (fun a => a == (STR.RING_RD_RD g).addr) s t ∧ t.brd = { s.brd with resp := .data (readLE s.mem.cells (s.get (STR.RING_BASE_BASE g) + s.get (STR.RING_RD_RD g) % s.ringSize g) 4) } ∧
      t.get (STR.RING_RD_RD g) = (s.get (STR.RING_RD_RD g) % s.ringSize g + 4) % s.ringSize g)) ∧
  (∀ (i : Initiator) (g : Fin 2) (s : State), s.mayAccess i = true → i ≠ .pcie → s.ringOn g = true → s.ringUnread g ≠ 0 → s.mem.merge = [] →
    (s.get (STR.RING_BASE_BASE 0) + s.get (STR.RING_WR_WR 0) + 32 ≤ s.get (STR.RING_BASE_BASE g) + s.get (STR.RING_RD_RD g) / 8 * 8 ∨ s.get (STR.RING_BASE_BASE g) + s.get (STR.RING_RD_RD g) + 8 ≤ s.get (STR.RING_BASE_BASE 0) + s.get (STR.RING_WR_WR 0)) →
    s.get (STR.RING_RD_RD g) < s.ringSize g → s.get (STR.RING_BASE_BASE g) % 8 = 0 →
    Ends (.ringPortRead i g .uncorrectable) s (fun t => t.brd.resp = (if i = .mgmt ∨ i = .tether then .error (s.drawn 40 8)
          else .poisoned (readLE s.mem.cells (s.get (STR.RING_BASE_BASE g) + s.get (STR.RING_RD_RD g)) 4)) ∧
      t.get MEM.CNT0_UE_CNT = s.once MEM.CNT0_UE_CNT ∧ t.get MEM.UE_ADDR_ADDR = wordOf (s.get (STR.RING_BASE_BASE g) + s.get (STR.RING_RD_RD g)) ∧
      t.get (STR.RING_RD_RD g) = (s.get (STR.RING_RD_RD g) + 4) % s.ringSize g)) ∧
  (∀ (i : Initiator) (g : Fin 2) (e : SprEcc) (s : State), s.mayAccess i = true → (s.ringOn g = false ∨ s.ringUnread g = 0) →
    Ends (.ringPortRead i g e) s (fun t => BusOnly (fun _ => false) s t ∧ t.brd = { s.brd with resp := .data 0 })) ∧
  (∀ (i : Initiator) (g : Fin 2) (e : SprEcc) (s : State), s.mayAccess i = false → Runs (.ringPortRead i g e) s [])

/-- COUNTERS AND STREAMER (R403 to R418, R481, Tables 20-1 to 20-9): counted events and wraps of the PMU, checkpoints of powered time, the alarm table
(a new key, a known key, the end of a condition, acknowledgement, the copy a reader takes), the log's buckets and its ring, the trace, and the
counters cleared. -/
def Obligations.CountersAndStreamer : Prop :=
  (∀ (i : Fin 8) (ev inst k : Nat) (s : State), s.pmcCounts i ev inst = true → s.flag PMU.CTRL_FREEZE = false → s.pmcCount i + k < 2 ^ 48 → (∀ j : Fin 8, j ≠ i → s.pmcCounts j ev inst = false) →
    let t := s.countEvent ev inst k
    t.pmcCount i = s.pmcCount i + k ∧ OnlyIn [PMU.PMC_COUNT_COUNT i 0, PMU.PMC_COUNT_COUNT i 1] s t ∧ { t with regs := s.regs, fresh := s.fresh } = s) ∧
  (∀ (i : Fin 8) (ev inst k : Nat) (s : State), s.pmcCounts i ev inst = true → s.flag PMU.CTRL_FREEZE = true → (∀ j : Fin 8, j ≠ i → s.pmcCounts j ev inst = false) →
    s.countEvent ev inst k = { s with str := { s.str with held := s.str.held.set i.val (s.str.held.getD i.val 0 + k) } }) ∧
  (∀ (ev inst k : Nat) (s : State), (∀ j : Fin 8, s.pmcCounts j ev inst = false) → s.countEvent ev inst k = s) ∧
  (∀ (i : Fin 8) (pos : BitVec 32) (s : State), s.awake = true → s.flag PMU.CTRL_FREEZE = false → s.pmcCounts i (s.get (PMU.PMC_EVENT i)) (s.get (PMU.PMC_INST i)) = true → s.pmcTimed i = true → s.flag (PMU.PMC_SAMPLE i) = false →
    (i.val % 2 = 1 ∨ s.flag (PMU.PMC_CHAIN (i.val + 1)) = false ∨ s.flag (PMU.PMC_EN (i.val + 1)) = false) → s.pmcCount i < 2 ^ 48 →
    Runs (.pmcWrap i pos) s [(PMU.PMC_COUNT_COUNT i 0, 0), (PMU.PMC_COUNT_COUNT i 1, 0), (PMU.STATUS_OVF, putBit (s.get PMU.STATUS_OVF) i true)]) ∧
  (∀ (i : Fin 8) (pos : BitVec 32) (s : State), s.awake = true → s.flag PMU.CTRL_FREEZE = false → s.pmcCounts i (s.get (PMU.PMC_EVENT i)) (s.get (PMU.PMC_INST i)) = true → s.pmcTimed i = true → s.flag (PMU.PMC_SAMPLE i) = true → i.val % 2 = 1 → s.pmcCount i < 2 ^ 48 →
    Runs (.pmcWrap i pos) s [(PMU.PMC_COUNT_COUNT i 0, 0), (PMU.PMC_COUNT_COUNT i 1, 0), (PMU.STATUS_OVF, putBit (s.get PMU.STATUS_OVF) i true), (PMU.PMC_SKID_SKID i,
      if s.get (PMU.PMC_EVENT i) / 64 = 1 ∨ s.get (PMU.PMC_EVENT i) / 64 = 2 then pos.toNat else s.get (PMU.CYCLE_CYCLE 0))]) ∧
  (∀ (i : Fin 8) (pos : BitVec 32) (s : State), (s.flag PMU.CTRL_FREEZE = true ∨ s.flag (PMU.PMC_EN i) = false ∨ s.pmcTimed i = false) → Runs (.pmcWrap i pos) s []) ∧
  (∀ (s : State), s.awake = true → s.flag CFG.BOOT_FW_NONE = false → s.lc ≠ 5 → (s.now % 600000 = 0 ∨ s.str.mtpPending = true) → s.flag THM.STATUS_MTP_OK = true → s.braced = false →
    Runs .checkpoint s [(STR.CKPT0_CKPT_LO, s.now), (STR.CKPT1_CKPT_HI, s.now / 2 ^ 32), (STR.CKPT1_ORDERLY, 0), (STR.STATUS_CKPT_DEFER, 0)]
      { s with str := { s.str with mtpCkpt := s.now, mtpOrderly := false, mtpPending := false } }) ∧
  (∀ (s : State), (s.flag CFG.BOOT_FW_NONE = true ∨ s.lc = 5) → Runs .checkpoint s []) ∧
  (∀ (s : State), s.awake = true → s.flag CFG.BOOT_FW_NONE = false → s.lc ≠ 5 → s.now % 600000 = 0 → s.str.mtpPending = false → (s.flag THM.STATUS_MTP_OK = false ∨ s.braced = true) →
    Runs .checkpoint s [(STR.STATUS_CKPT_DEFER, 1), (STR.CKPT1_DEFER_CNT, s.once STR.CKPT1_DEFER_CNT)] { s with str := { s.str with mtpPending := true } }) ∧
  (∀ (s : State), s.now % 600000 ≠ 0 → s.str.mtpPending = false → Runs .checkpoint s []) ∧
  (∀ (s : State), s.str.mtpPending = true → (s.flag THM.STATUS_MTP_OK = false ∨ s.braced = true) → Runs .checkpoint s []) ∧
  (∀ (id inst : BitVec 8) (code : BitVec 16) (s : State), s.awake = true → 1 ≤ id.toNat → id.toNat ≤ 0x1A → exec (.alarmOccurrence id inst code) s = .next (s.alarm id.toNat inst.toNat code.toNat)) ∧
  (∀ (id inst : BitVec 8) (code : BitVec 16) (s : State), (id.toNat = 0 ∨ 0x1A < id.toNat) → Runs (.alarmOccurrence id inst code) s []) ∧
  (∀ (stack id inst code e : Nat) (active : Bool) (s : State), stack < 4 → 1 ≤ id → id < 256 → inst < 256 → code < 65536 → s.now < 2 ^ 48 → s.almEntry stack id inst = e → e ≠ 63 → s.almIs stack id inst e = false →
    Becomes s [(STR.ALM0_ID e, id), (STR.ALM0_INSTANCE e, inst), (STR.ALM0_STACK e, stack), (STR.ALM0_SEV e, alarmSev id), (STR.ALM0_ACTIVE e, active.toNat), (STR.ALM0_UNACKED e, 1), (STR.ALM1_COUNT e, 1), (STR.ALM1_CODE e, code),
        (STR.ALM2_FIRST_TIME e 0, s.now), (STR.ALM2_FIRST_TIME e 1, s.now / 2 ^ 32), (STR.ALM4_LAST_TIME e 0, s.now), (STR.ALM4_LAST_TIME e 1, s.now / 2 ^ 32), (STR.STATUS_ALM_NEW, 1)] s
      (s.almEnter stack id inst code active)) ∧
  (∀ (stack id inst code e : Nat) (active : Bool) (s : State), stack < 4 → 1 ≤ id → id < 256 → inst < 256 → s.almEntry stack id inst = e → e ≠ 63 → s.almIs stack id inst e = true →
    Becomes s [(STR.ALM0_SEV e, alarmSev id), (STR.ALM0_ACTIVE e, active.toNat), (STR.ALM0_UNACKED e, 1), (STR.ALM1_COUNT e, s.once (STR.ALM1_COUNT e)), (STR.ALM1_CODE e, code), (STR.ALM4_LAST_TIME e 0, s.now),
        (STR.ALM4_LAST_TIME e 1, s.now / 2 ^ 32)] s (s.almEnter stack id inst code active)) ∧
  (∀ (stack id inst code : Nat) (active : Bool) (s : State), stack < 4 → 1 ≤ id → id < 256 → inst < 256 → s.almEntry stack id inst = 63 →
    let t := s.almEnter stack id inst code active
    t.get (STR.ALM0_ID 63) = id ∧ t.get (STR.ALM0_INSTANCE 63) = inst ∧ t.flag STR.STATUS_ALM_OVF = true ∧ t.flag STR.STATUS_ALM_NEW = true ∧
      t.get (STR.ALM1_COUNT 63) = (if s.get (STR.ALM0_ID 63) = 0 then 1 else s.once (STR.ALM1_COUNT 63)) ∧ t.flag (STR.ALM0_UNACKED 63) = true) ∧
  (∀ (stack id inst : Nat) (e d : Fin 63) (s : State), s.almEntry stack id inst = e.val → d.val < e.val → s.almIs stack id inst e = true →
    s.almIs stack id inst d = false) ∧
  (∀ (id inst code : Nat) (s : State),
    RegsKept reportArea s (s.alarm id inst code) ∧ (s.flag TTH.STATUS_ROLE = true ∨ s.variant = false → { s.alarm id inst code with regs := s.regs, str := s.str, mem := s.mem, fresh := s.fresh } = s)) ∧
  (∀ (i : Initiator) (e : Fin 64) (s : State), s.mayAccess i = true → s.pendingOf i.code = none → s.flag (STR.ALM0_UNACKED e) = true → s.flag TTH.STATUS_ROLE = true →
    Ends (.alarmAck i e) s (fun t => t.flag (STR.ALM0_UNACKED e) = false ∧ t.get (STR.ALM0_ID e) = (if s.flag (STR.ALM0_ACTIVE e) then s.get (STR.ALM0_ID e) else 0) ∧
      BusOnly (fun a => a == (STR.ALM0_ID e).addr) s t ∧ t.get (STR.ALM0_ACTIVE e) = s.get (STR.ALM0_ACTIVE e))) ∧
  (∀ (i : Initiator) (e : Fin 64) (s : State), s.mayAccess i = true → s.pendingOf i.code = none → s.flag (STR.ALM0_UNACKED e) = false →
    Ends (.alarmAck i e) s (fun t => BusOnly (fun _ => false) s t)) ∧
  (∀ (i : Initiator) (e : Fin 64) (s : State), s.mayAccess i = false → Runs (.alarmAck i e) s []) ∧
  (∀ (i : Initiator) (e : Fin 64) (s : State), s.mayAccess i = true → s.brd.parityBad = [] →
    Ends (.alarmEntryRead i e) s (fun t => assocFind t.str.almCopy i.code = some (e.val, (List.range 8).map (fun k => s.viewWord i.code ((STR.ALM0_ID e).addr + 4 * k))) ∧ t.brd = { s.brd with resp := .data (s.viewWord i.code (STR.ALM0_ID e).addr) } ∧
      RegsKept (fun a => decide (0x60000 ≤ a ∧ a < 0x70000)) s t)) ∧
  (∀ (i : Initiator) (e : Fin 64) (s : State), s.mayAccess i = false → Runs (.alarmEntryRead i e) s []) ∧
  (∀ (e : Nat) (stack id inst : Nat) (s : State), e < 64 → s.almIs stack id inst e = true → s.flag TTH.STATUS_ROLE = true →
    let t := s.alarmEndFrom stack id inst
    t.flag (STR.ALM0_ACTIVE e) = false ∧ (s.flag (STR.ALM0_ACTIVE e) = true → t.get (STR.ALM0_ID e) = (if s.flag (STR.ALM0_UNACKED e) then id else 0)) ∧ { t with regs := s.regs } = s) ∧
  (∀ (q : Fin 12) (inst : BitVec 8) (ev : BitVec 16) (d0 d1 d2 d3 : Word) (s : State), s.awake = true → ev ≠ 0 → s.ringFull 0 32 = false → s.get (STR.SRC0_RATE q) ≠ 0 → 0 < s.get (STR.SRC1_TOKENS q) → s.mem.merge = [] →
    Ends (.logRecord (q.castLE (by decide)) inst ev d0 d1 d2 d3) s (fun t => t.get (STR.SRC1_TOKENS q) = s.get (STR.SRC1_TOKENS q) - 1 ∧ t.get (STR.RING_WR_WR 0) = (s.get (STR.RING_WR_WR 0) + 32) % s.ringSize 0 % 2 ^ 32 ∧
      t.str.logSeq = (s.str.logSeq + 1) % 2 ^ 32 ∧ t.mem.cells = writeBytes s.mem.cells (s.get (STR.RING_BASE_BASE 0) + s.get (STR.RING_WR_WR 0))
        ((s.logWords q inst.toNat ev.toNat d0.toNat d1.toNat d2.toNat d3.toNat).flatMap (fun w => [w % 256, w / 256 % 256, w / 65536 % 256, w / 16777216 % 256])) ∧
      BusOnly (fun a => a == (STR.SRC1_TOKENS q).addr || a == (STR.RING_WR_WR 0).addr) { s with mem := t.mem } t)) ∧
  (∀ (q : Fin 15) (inst ev d0 d1 d2 d3 : Nat) (s : State), s.ringFull 0 32 = true →
    Becomes s [(STR.SRC1_DROP_CNT q, s.once (STR.SRC1_DROP_CNT q)), (STR.RING_CNT_RING_DROP 0, s.once (STR.RING_CNT_RING_DROP 0))] s (s.logRecord q inst ev d0 d1 d2 d3)) ∧
  (∀ (q : Fin 15) (inst ev d0 d1 d2 d3 : Nat) (s : State), s.ringFull 0 32 = false → (s.get (STR.SRC0_RATE q) = 0 ∨ (s.get (STR.SRC1_TOKENS q) = 0 ∧ s.flag (STR.SRC0_THROTTLED q) = true)) →
    Becomes s [(STR.SRC1_DROP_CNT q, s.once (STR.SRC1_DROP_CNT q))] s (s.logRecord q inst ev d0 d1 d2 d3)) ∧
  (∀ (q : Fin 15) (inst ev d0 d1 d2 d3 : Nat) (s : State), s.ringFull 0 32 = false → s.get (STR.SRC0_RATE q) ≠ 0 → s.get (STR.SRC1_TOKENS q) = 0 → s.flag (STR.SRC0_THROTTLED q) = false →
    s.logRecord q inst ev d0 d1 d2 d3 = ((s.inc (STR.SRC1_DROP_CNT q)).on (STR.SRC0_THROTTLED q)).logPut 15 0 1 q 0 0 0) ∧
  (∀ (q : Fin 16) (inst : BitVec 8) (ev : BitVec 16) (d0 d1 d2 d3 : Word) (s : State), (ev = 0 ∨ (12 ≤ q.val ∧ q.val ≤ 14)) → Runs (.logRecord q inst ev d0 d1 d2 d3) s []) ∧
  (∀ (q : Fin 15) (k : Nat) (s : State), s.awake = true → s.refillDue q = true → k = min (max 1 (s.get (STR.SRC0_BURST q))) (s.get (STR.SRC1_TOKENS q) + 1) → k < max 1 (s.get (STR.SRC0_BURST q)) →
    Runs (.tokenRefill q) s [(STR.SRC1_TOKENS q, k)] { s with str := { s.str with refilled := assocPut s.str.refilled q s.now } }) ∧
  (∀ (q : Fin 15) (s : State), s.awake = true → s.refillDue q = true → max 1 (s.get (STR.SRC0_BURST q)) ≤ s.get (STR.SRC1_TOKENS q) + 1 →
    Runs (.tokenRefill q) s [(STR.SRC1_TOKENS q, max 1 (s.get (STR.SRC0_BURST q))), (STR.SRC0_THROTTLED q, 0)] { s with str := { s.str with refilled := assocPut s.str.refilled q s.now } }) ∧
  (∀ (q : Fin 15) (s : State), s.refillDue q = false → Runs (.tokenRefill q) s []) ∧
  (∀ (q : Fin 16) (inst : BitVec 8) (ev : BitVec 16) (d : Word) (s : State), (12 ≤ q.val ∨ ev = 0 ∨ s.bitOf STR.TRACE_SRC_SRC q = false) → Runs (.traceRecord q inst ev d) s []) ∧
  (∀ (q : Fin 16) (inst : BitVec 8) (ev : BitVec 16) (d : Word) (s : State), s.awake = true → q.val < 12 → ev ≠ 0 → s.bitOf STR.TRACE_SRC_SRC q = true → s.ringFull 1 16 = true →
    Runs (.traceRecord q inst ev d) s [(STR.RING_CNT_RING_DROP 1, s.once (STR.RING_CNT_RING_DROP 1))] { s with str := { s.str with traceLost := s.str.traceLost + 1 } }) ∧
  (∀ (q : Fin 16) (inst : BitVec 8) (ev : BitVec 16) (d : Word) (s : State), s.awake = true → q.val < 12 → ev ≠ 0 → s.bitOf STR.TRACE_SRC_SRC q = true → s.ringFull 1 16 = false → s.str.traceLost = 0 → s.mem.merge = [] →
    Ends (.traceRecord q inst ev d) s (fun t => t.get (STR.RING_WR_WR 1) = (s.get (STR.RING_WR_WR 1) + 16) % s.ringSize 1 % 2 ^ 32 ∧ t.mem.cells = writeBytes s.mem.cells (s.get (STR.RING_BASE_BASE 1) + s.get (STR.RING_WR_WR 1))
        ((s.traceWords q inst.toNat ev.toNat d.toNat).flatMap (fun w => [w % 256, w / 256 % 256, w / 65536 % 256, w / 16777216 % 256])) ∧ BusOnly (fun a => a == (STR.RING_WR_WR 1).addr) { s with mem := t.mem } t)) ∧
  (∀ (q : Fin 16) (inst : BitVec 8) (ev : BitVec 16) (d : Word) (s : State), s.awake = true → q.val < 12 → ev ≠ 0 → s.bitOf STR.TRACE_SRC_SRC q = true → s.ringFull 1 32 = false → s.str.traceLost ≠ 0 →
    Ends (.traceRecord q inst ev d) s (fun t => t.str.traceLost = 0 ∧ t.get (STR.RING_CNT_GAP_CNT 1) = s.once (STR.RING_CNT_GAP_CNT 1) ∧ t.get (STR.RING_CNT_RING_DROP 1) = s.get (STR.RING_CNT_RING_DROP 1))) ∧
  (∀ (s : State), s.awake = true → Runs .strCntClr s (zeroed ((List.range 15).map STR.SRC1_DROP_CNT ++ [STR.RING_CNT_RING_DROP 0, STR.RING_CNT_RING_DROP 1, STR.RING_CNT_GAP_CNT 1, STR.CKPT1_DEFER_CNT])))

/-- THE MANAGEMENT PORT (R421 to R427, Tables 21-1 to 21-3): dynamic addresses, the page window, writes of the CMIS map, the monitors, the controls
of the module state machine, and the register accesses of page B0h with their STATUS and KIND. Which bytes of the map a host may write beyond the
spec's own is a free value. -/
def Obligations.ManagementPort : Prop :=
  (∀ (st a : BitVec 7) (en : Bool) (s : State), s.mgtRuns = true → st.toNat = s.get GLB.MGMT_ADDR → Runs (.setdasa st a en) s [(GLB.MGMT_I3C, 1), (GLB.MGMT_DYN_ADDR, a.toNat)] { s with mgt := { s.mgt with ibiEn := en } }) ∧
  (∀ (st a : BitVec 7) (en : Bool) (s : State), (s.mgtRuns = false ∨ st.toNat ≠ s.get GLB.MGMT_ADDR) → Runs (.setdasa st a en) s []) ∧
  (∀ (a : BitVec 7) (en : Bool) (s : State), s.mgtRuns = true → Runs (.entdaa a en) s [(GLB.MGMT_I3C, 1), (GLB.MGMT_DYN_ADDR, a.toNat)] { s with mgt := { s.mgt with ibiEn := en } }) ∧
  (∀ (a : BitVec 7) (en : Bool) (s : State), s.mgtRuns = false → Runs (.entdaa a en) s []) ∧
  (∀ (s : State), s.mgtRuns = true → Runs .rstdaa s [(GLB.MGMT_I3C, 0), (GLB.MGMT_DYN_ADDR, 0)] { s with mgt := { s.mgt with ibiEn := false } }) ∧
  (∀ (s : State), s.mgtRuns = false → Runs .rstdaa s []) ∧
  (∀ (b p : BitVec 8) (s : State), s.mgtRuns = true → Runs (.pageSelect b p) s [] { s with mgt := { s.mgt with bank := b.toNat, page := p.toNat } }) ∧
  (∀ (b p : BitVec 8) (s : State), s.mgtRuns = false → Runs (.pageSelect b p) s []) ∧
  (∀ (a : BitVec 8) (l : List (BitVec 8)) (s : State), s.mgtRuns = true → exec (.cmisWrite a l) s = .next (s.cmisWrite a.toNat ((l.take 8).map (·.toNat)))) ∧
  (∀ (a : BitVec 8) (l : List (BitVec 8)) (s : State), s.mgtRuns = false → Runs (.cmisWrite a l) s []) ∧
  (∀ (v : BitVec 8) (s : State), s.mgtRuns = true → Runs (.cmisWrite 0x7F [v]) s [] { s with mgt := { s.mgt with page := v.toNat } }) ∧
  (∀ (v : BitVec 8) (s : State), s.mgtRuns = true → Runs (.cmisWrite 0x7E [v]) s [] { s with mgt := { s.mgt with bank := v.toNat } }) ∧
  (∀ (a v : BitVec 8) (s : State), s.mgtRuns = true → 0x80 ≤ a.toNat → s.mgt.bank ≠ 0 → Runs (.cmisWrite a [v]) s []) ∧
  (∀ (a v : BitVec 8) (s : State), s.mgtRuns = true → 0x80 ≤ a.toNat → s.mgt.bank = 0 → s.mgt.page = 0xB0 → Runs (.cmisWrite a [v]) s [] { s with mgt := s.mgt.b0Write a.toNat v.toNat }) ∧
  (∀ (a v : BitVec 8) (s : State), s.mgtRuns = true → s.flag CFG.BOOT_FW_NONE = true → a.toNat < 0x7E → Runs (.cmisWrite a [v]) s []) ∧
  (∀ (a v : BitVec 8) (s : State), s.mgtRuns = true → s.flag CFG.BOOT_FW_NONE = false → a.toNat < 0x7E →
    Runs (.cmisWrite a [v]) s [] { s with mgt := if Config.cmisWritable 0 a.toNat then s.mgt.putByte 0 a.toNat v.toNat else s.mgt }) ∧
  (∀ (m : MgtSt) (p a v : Nat), (m.putByte p a v).byte p a = v % 256) ∧
  (∀ (m : MgtSt) (v : Nat), v < 256 → m.b0Status ≠ 1 →
    m.b0Write 0x8C v = (if 1 ≤ v ∧ v ≤ 3 then { m with b0Cmd := v, b0Status := 1 } else { m with b0Status := 4 })) ∧
  (∀ (m : MgtSt) (v : Nat), m.b0Status = 1 → m.b0Write 0x8C v = m) ∧
  (∀ (l : List (Nat × Nat × Nat)) (s : State), s.mgtRuns = true → s.flag CFG.BOOT_FW_NONE = false → s.mgt.refreshed + 100 ≤ s.now → exec (.cmisMonitorRefresh l) s = .next (s.monitors l)) ∧
  (∀ (p a v : Nat) (s : State), s.mgtRuns = true → s.flag CFG.BOOT_FW_NONE = false → cmisPage p = true → a < 256 → s.mgt.refreshed + 100 ≤ s.now → Runs (.cmisMonitorRefresh [(p, a, v)]) s [] { s with mgt := { s.mgt with refreshed := s.now }.putByte p a v }) ∧
  (∀ (l : List (Nat × Nat × Nat)) (s : State), (s.mgtRuns = false ∨ s.flag CFG.BOOT_FW_NONE = true ∨ s.now < s.mgt.refreshed + 100) → Runs (.cmisMonitorRefresh l) s []) ∧
  (∀ (v : BitVec 16) (s : State), s.mgtRuns = true → s.flag CFG.BOOT_FW_NONE = false → exec (.datapathdeinit v) s = .next (s.dataPath v.toNat)) ∧
  (∀ (v : BitVec 16) (s : State), s.mgtRuns = true → s.flag CFG.BOOT_FW_NONE = false → s.mgt.deinit = v.toNat → (∀ k : PortId, (s.hostLanes k).all (fun j => !bit v.toNat j) = true) → Runs (.datapathdeinit v) s []) ∧
  (∀ (v : BitVec 16) (s : State), (s.mgtRuns = false ∨ s.flag CFG.BOOT_FW_NONE = true) → Runs (.datapathdeinit v) s []) ∧
  (∀ (j : Host) (c : BitVec 4) (r : RigImage) (s : State), s.mgtRuns = true → s.flag CFG.BOOT_FW_NONE = false → s.boot.rigNow = some r → c.toNat ∈ r.apps →
    Runs (.appsel j c) s [] { s with mgt := { s.mgt with app := s.mgt.app.set j.val c.toNat, appRejected := putBit s.mgt.appRejected j.val false } }) ∧
  (∀ (j : Host) (c : BitVec 4) (s : State), s.mgtRuns = true → s.flag CFG.BOOT_FW_NONE = false → s.boot.rigNow.any (fun r => r.apps.contains c.toNat) = false →
    Runs (.appsel j c) s [] { s with mgt := { s.mgt with appRejected := putBit s.mgt.appRejected j.val true } }) ∧
  (∀ (j : Host) (c : BitVec 4) (s : State), (s.mgtRuns = false ∨ s.flag CFG.BOOT_FW_NONE = true) → Runs (.appsel j c) s []) ∧
  (∀ (n : Lane) (s : State), s.mgtRuns = true → s.flag CFG.BOOT_FW_NONE = false → RunsThen (.cmisTxDisable n true) s [(LN.TX_CTRL_MOD_EN n, 0)] { s with mgt := { s.mgt with txDisable := putBit s.mgt.txDisable n.val true } } (fun t => t.demandEval n)) ∧
  (∀ (n : Lane) (s : State), s.mgtRuns = true → s.flag CFG.BOOT_FW_NONE = false → Runs (.cmisTxDisable n false) s [] { s with mgt := { s.mgt with txDisable := putBit s.mgt.txDisable n.val false } }) ∧
  (∀ (n : Lane) (v : Bool) (s : State), (s.mgtRuns = false ∨ s.flag CFG.BOOT_FW_NONE = true) → Runs (.cmisTxDisable n v) s []) ∧
  (∀ (s : State), s.mgtRuns = true → s.flag CFG.BOOT_FW_NONE = false → Runs (.lowpwrrequestsw false) s [] { s with mgt := { s.mgt with lowPwrSW := false } }) ∧
  (∀ (s : State), s.mgtRuns = true → s.flag CFG.BOOT_FW_NONE = false → exec (.lowpwrrequestsw true) s = .next (({ s with mgt := { s.mgt with lowPwrSW := true } } : State).each ((List.finRange 8).filter (fun k => (s.pt k).defined)) (fun k u => u.portStop k))) ∧
  (∀ (v : Bool) (s : State), (s.mgtRuns = false ∨ s.flag CFG.BOOT_FW_NONE = true) → Runs (.lowpwrrequestsw v) s []) ∧
  (∀ (v : Bool) (s : State), s.mgtRuns = true → s.flag CFG.BOOT_FW_NONE = false → s.mgt.lowPwrSW = false → (v = false ∨ s.pwr.lpmode = false) → Runs (.lowpwrallowrequesthw v) s [(PWR.CTRL_LPMODE_EN, v.toNat)] { s with mgt := { s.mgt with allowHW := v } }) ∧
  (∀ (v : Bool) (s : State), s.mgtRuns = true → s.flag CFG.BOOT_FW_NONE = false → (s.mgt.lowPwrSW = true ∨ (v = true ∧ s.pwr.lpmode = true)) →
    RunsThen (.lowpwrallowrequesthw v) s [(PWR.CTRL_LPMODE_EN, v.toNat)] { s with mgt := { s.mgt with allowHW := v } } (fun t => t.portsDown)) ∧
  (∀ (v : Bool) (s : State), (s.mgtRuns = false ∨ s.flag CFG.BOOT_FW_NONE = true) → Runs (.lowpwrallowrequesthw v) s []) ∧
  (∀ (w : BitVec 2) (e : SprEcc) (s : State), s.mgt.b0Cmd ≠ 1 → Runs (.b0hRead w e) s []) ∧
  (∀ (s : State), s.mgt.b0Cmd ≠ 2 → Runs .b0hWrite s []) ∧
  (∀ (s : State), s.mgt.b0Cmd ≠ 3 → Runs .b0hGuardedWrite s []) ∧
  (∀ (w : BitVec 2) (e : SprEcc) (s : State), s.mgtRuns = true → s.mgt.b0Cmd = 1 → s.flag CFG.BOOT_FW_NONE = true → (s.mgt.b0Addr < 0x200 ∨ 0x250 ≤ s.mgt.b0Addr) →
    Runs (.b0hRead w e) s [] { s with mgt := { s.mgt with b0Cmd := 0, b0Status := 2, b0Kind := 7 } }) ∧
  (∀ (s : State), s.mgtRuns = true → s.mgt.b0Cmd = 2 → s.flag CFG.BOOT_FW_NONE = true → (s.mgt.b0Addr < 0x200 ∨ 0x250 ≤ s.mgt.b0Addr) →
    Runs .b0hWrite s [(GLB.GUARD_INFO_REASON, s.get GLB.GUARD_INFO_REASON)] { s with mgt := { s.mgt with b0Cmd := 0, b0Status := 2, b0Kind := 7 } }) ∧
  (∀ (s : State), s.mgtRuns = true → s.mgt.b0Cmd = 3 → s.flag CFG.BOOT_FW_NONE = true → (s.mgt.b0Addr < 0x200 ∨ 0x250 ≤ s.mgt.b0Addr) →
    Runs .b0hGuardedWrite s [(GLB.GUARD_INFO_REASON, s.get GLB.GUARD_INFO_REASON)] { s with mgt := { s.mgt with b0Cmd := 0, b0Status := 2, b0Kind := 7 } }) ∧
  (∀ (w : BitVec 2) (e : SprEcc) (v : Nat) (s : State), s.mgtRuns = true → s.mgt.b0Cmd = 1 → s.flag CFG.BOOT_FW_NONE = false → (s.busRead .mgmt s.mgt.b0Addr 2 w e).brd.resp = .data v →
    exec (.b0hRead w e) s = .next ((s.busRead .mgmt s.mgt.b0Addr 2 w e).setMgt (fun m => { m with b0Data := v % 2 ^ 32, b0Cmd := 0, b0Status := 0 }))) ∧
  (∀ (w : BitVec 2) (e : SprEcc) (k : Nat) (s : State), s.mgtRuns = true → s.mgt.b0Cmd = 1 → s.flag CFG.BOOT_FW_NONE = false → (s.busRead .mgmt s.mgt.b0Addr 2 w e).brd.resp = .error k →
    exec (.b0hRead w e) s = .next ((s.busRead .mgmt s.mgt.b0Addr 2 w e).setMgt (fun m => { m with b0Cmd := 0, b0Status := 2, b0Kind := k }))) ∧
  (∀ (s : State), s.mgtRuns = true → s.mgt.b0Cmd = 2 → s.flag CFG.BOOT_FW_NONE = false → s.mgt.b0Addr % 4 = 0 → s.mgt.b0Addr < 0x200000 → unmapped .mgmt s.mgt.b0Addr = false → fieldsAt s.mgt.b0Addr = [] → isComplement s.mgt.b0Addr = false → s.pendingOf 3 = none →
    (s.mgt.b0Addr < 0x20100 ∨ 0x20200 ≤ s.mgt.b0Addr) → (s.mgt.b0Addr < 0x51000 ∨ 0x51800 ≤ s.mgt.b0Addr) → s.mgt.b0Addr < 0x80000 →
    Ends .b0hWrite s (fun t => t.mgt = { s.mgt with b0Cmd := 0, b0Status := 0 } ∧ BusOnly (fun a => a == GLB.GUARD_INFO_REASON.addr) { s with mgt := t.mgt } t ∧ t.get GLB.GUARD_INFO_REASON = s.get GLB.GUARD_INFO_REASON % 16 ∧ t.get GLB.GUARD_INFO_INITIATOR = s.get GLB.GUARD_INFO_INITIATOR)) ∧
  (∀ (s : State), s.mgtRuns = true → s.mgt.b0Cmd = 2 → s.flag CFG.BOOT_FW_NONE = false → inMemory s.mgt.b0Addr = false → unmapped .mgmt s.mgt.b0Addr = true →
    Ends .b0hWrite s (fun t => t.mgt = { s.mgt with b0Cmd := 0, b0Status := 2, b0Kind := 4 } ∧ t.get GLB.ACCESS_INFO_KIND = 4 ∧ t.get GLB.ACCESS_INFO_INITIATOR = 3 ∧ BusOnly (fun x => decide (0x100 ≤ x ∧ x < 0x11C)) { s with mgt := t.mgt } t)) ∧
  (∀ (s : State), s.mgtRuns = true → s.mgt.b0Cmd = 3 → s.flag CFG.BOOT_FW_NONE = false → isGuarded s.mgt.b0Addr = true → s.mgt.b0Addr < 0x200000 → s.pendingOf 3 = none → s.mgt.b0Data < 2 ^ 32 → s.mgt.b0Data2 < 2 ^ 32 → s.mgt.b0Data2 ≠ 2 ^ 32 - 1 - s.mgt.b0Data →
    Ends .b0hGuardedWrite s (fun t => t.mgt = { s.mgt with b0Cmd := 0, b0Status := 3, b0Kind := 3 } ∧ t.get GLB.GUARD_INFO_REASON = 3 ∧ t.get GLB.BRD_CNT0_GUARD_FAULT = s.once GLB.BRD_CNT0_GUARD_FAULT ∧ BusOnly (fun x => decide (0x100 ≤ x ∧ x < 0x11C)) { s with mgt := t.mgt } t)) ∧
  (∀ (s : State), s.mgtRuns = true → s.mgt.b0Cmd = 2 → s.flag CFG.BOOT_FW_NONE = false →
    (((s.set GLB.GUARD_INFO_REASON 0).busWrite .mgmt s.mgt.b0Addr 2 s.mgt.b0Data).brd.resp.kind = none ∧
      ((s.set GLB.GUARD_INFO_REASON 0).busWrite .mgmt s.mgt.b0Addr 2 s.mgt.b0Data).get GLB.GUARD_INFO_REASON = 0) →
    exec .b0hWrite s = .next ((((s.set GLB.GUARD_INFO_REASON 0).busWrite .mgmt s.mgt.b0Addr 2 s.mgt.b0Data).set GLB.GUARD_INFO_REASON (s.get GLB.GUARD_INFO_REASON)).setMgt
      (fun m => { m with b0Cmd := 0, b0Status := 0 }))) ∧
  (∀ (s : State), s.mgtRuns = true → s.mgt.b0Cmd = 2 → s.flag CFG.BOOT_FW_NONE = false → s.mayAccess .mgmt = true → s.mgt.b0Addr = PWR.TIMER_WAKE_AT.addr → s.mgt.b0Data < 2 ^ 32 → s.pendingOf 3 = none →
    Ends .b0hWrite s (fun t => t.get PWR.TIMER_WAKE_AT = s.mgt.b0Data ∧ t.mgt = { s.mgt with b0Cmd := 0, b0Status := 0 } ∧ t.brd.resp = .done ∧ t.get GLB.BRD_CNT0_ACCESS_FAULT = s.get GLB.BRD_CNT0_ACCESS_FAULT ∧
      BusOnly (fun a => a == GLB.GUARD_INFO_REASON.addr || a == PWR.TIMER_WAKE_AT.addr) { s with mgt := t.mgt } t)) ∧
  (∀ (s : State), s.mgtRuns = true → s.mgt.b0Cmd = 3 → s.flag CFG.BOOT_FW_NONE = false → s.mayAccess .mgmt = true → isGuarded s.mgt.b0Addr = true → s.mgt.b0Addr < 0x200000 → s.mgt.b0Data < 2 ^ 32 → s.mgt.b0Data2 = 2 ^ 32 - 1 - s.mgt.b0Data → s.pendingOf 3 = none →
    (s.set GLB.GUARD_INFO_REASON 0).brd.guard = [] → s.mgt.b0Addr ≠ CFG.SWR_SWR.addr →
    let u := (((((s.set GLB.GUARD_INFO_REASON 0).countEvent 1 0 1).respond .done).countEvent 1 0 1).guardWrite s.mgt.b0Addr s.mgt.b0Data)
    exec .b0hGuardedWrite s = .next (((if u.guardTaken s.mgt.b0Addr s.mgt.b0Data = true then (u.parityRight s.mgt.b0Addr).parityRight (s.mgt.b0Addr + 4) else u).set GLB.GUARD_INFO_REASON (s.get GLB.GUARD_INFO_REASON)).setMgt
      (fun m => { m with b0Cmd := 0, b0Status := 0 }))) ∧
  (∀ (s : State), s.mgtRuns = true → s.mgt.b0Cmd = 3 → s.flag CFG.BOOT_FW_NONE = false → s.mayAccess .mgmt = true → s.mgt.b0Addr = SAF.SUPCFG_SUP_TMO.addr → s.mgt.b0Data < 2 ^ 32 → s.mgt.b0Data2 = 2 ^ 32 - 1 - s.mgt.b0Data → s.brd.guard = [] →
    Ends .b0hGuardedWrite s (fun t => t.get SAF.SUPCFG_SUP_TMO = s.mgt.b0Data % 256 ∧ t.get SAF.SUPCFG_PROOF_INT = s.mgt.b0Data / 256 % 65536 ∧ t.mgt = { s.mgt with b0Cmd := 0, b0Status := 0 } ∧ t.brd.guard = [] ∧
      t.get GLB.BRD_CNT0_GUARD_FAULT = s.get GLB.BRD_CNT0_GUARD_FAULT))

/-- THE MAILBOX, ITS COMMANDS' START AND END (R432, R345, Tables 21-5, 21-6): a command starts with the write of GLB_MBX_CMD and is closed
with its completion code, its response words and its tag; a command that was not started does nothing; in ROM recovery only three run; and
what a reserved opcode and a timeout leave. -/
def Obligations.MailboxProtocol : Prop :=
  (∀ (i op tag : Nat) (s : State), op < 256 → tag < 256 → i < 16 → s.flag GLB.MBX_STATUS_BUSY = false →
    Becomes s [(GLB.MBX_CMD_OPCODE, op), (GLB.MBX_CMD_TAG, tag), (GLB.MBX_STATUS_BUSY, 1), (GLB.MBX_STATUS_OWNER, i)] { s with mbx := { begun := false } } (s.mbxStart i op tag)) ∧
  (∀ (i op tag : Nat) (s : State), s.flag GLB.MBX_STATUS_BUSY = true → Becomes s [(GLB.MBX_STATUS_REJECT, 1)] s (s.mbxStart i op tag)) ∧
  (∀ (k : Fin 8) (v : Nat) (s : State), Becomes s (if s.flag GLB.MBX_STATUS_BUSY then [] else [(GLB.MBX_ARG_ARG k, v)]) s (s.mbxArg k v)) ∧
  (∀ (comp : Nat) (rsp : List Nat) (s : State), comp < 256 → s.flag GLB.MBX_STATUS_BUSY = true → MbxClosed comp rsp s (s.mbxDone comp rsp) ∧ MbxOnly (fun _ => false) s (s.mbxDone comp rsp)) ∧
  (∀ (s : State), s.mbxIs 1 = false → Runs .rigApply s []) ∧
  (∀ (s : State), s.awake = true → s.mbxIs 1 = true → s.flag CFG.BOOT_FW_NONE = true → Ends .rigApply s (fun t => MbxClosed 4 [] s t ∧ MbxOnly (fun _ => false) s t)) ∧
  (∀ (s : State), s.mbxIs 2 = false → Runs .portUp s []) ∧
  (∀ (s : State), s.awake = true → s.mbxIs 2 = true → s.flag CFG.BOOT_FW_NONE = true → Ends .portUp s (fun t => MbxClosed 4 [] s t ∧ MbxOnly (fun _ => false) s t)) ∧
  (∀ (s : State), s.mbxIs 3 = false → Runs .portDown s []) ∧
  (∀ (s : State), s.awake = true → s.mbxIs 3 = true → s.flag CFG.BOOT_FW_NONE = true → Ends .portDown s (fun t => MbxClosed 4 [] s t ∧ MbxOnly (fun _ => false) s t)) ∧
  (∀ (s : State), s.mbxIs 4 = false → Runs .laneNap s []) ∧
  (∀ (s : State), s.awake = true → s.mbxIs 4 = true → s.flag CFG.BOOT_FW_NONE = true → Ends .laneNap s (fun t => MbxClosed 4 [] s t ∧ MbxOnly (fun _ => false) s t)) ∧
  (∀ (s : State), s.mbxIs 5 = false → Runs .laneWake s []) ∧
  (∀ (s : State), s.awake = true → s.mbxIs 5 = true → s.flag CFG.BOOT_FW_NONE = true → Ends .laneWake s (fun t => MbxClosed 4 [] s t ∧ MbxOnly (fun _ => false) s t)) ∧
  (∀ (s : State), s.mbxIs 6 = false → Runs .calNow s []) ∧
  (∀ (s : State), s.awake = true → s.mbxIs 6 = true → s.flag CFG.BOOT_FW_NONE = true → Ends .calNow s (fun t => MbxClosed 4 [] s t ∧ MbxOnly (fun _ => false) s t)) ∧
  (∀ (s : State), s.mbxIs 7 = false → Runs .capture s []) ∧
  (∀ (s : State), s.awake = true → s.mbxIs 7 = true → s.flag CFG.BOOT_FW_NONE = true → Ends .capture s (fun t => MbxClosed 4 [] s t ∧ MbxOnly (fun _ => false) s t)) ∧
  (∀ (b : Bool) (s : State), (s.mbxIs 8 = false ∨ s.flag SEC.OP_STATUS_BUSY = true) → Runs (.attest b) s []) ∧
  (∀ (s : State), s.mbxIs 9 = false → Runs .selftestResult s []) ∧
  (∀ (s : State), s.mbxIs 10 = false → Runs .fwStage s []) ∧
  (∀ (s : State), s.mbxIs 11 = false → Runs .fwCommit s []) ∧
  (∀ (s : State), s.mbxIs 12 = false → Runs .logDrain s []) ∧
  (∀ (s : State), s.awake = true → s.mbxIs 12 = true → s.flag CFG.BOOT_FW_NONE = true → Ends .logDrain s (fun t => MbxClosed 4 [] s t ∧ MbxOnly (fun _ => false) s t)) ∧
  (∀ (s : State), s.mbxIs 13 = false → Runs .snapshotExport s []) ∧
  (∀ (s : State), s.awake = true → s.mbxIs 13 = true → s.flag CFG.BOOT_FW_NONE = true → Ends .snapshotExport s (fun t => MbxClosed 4 [] s t ∧ MbxOnly (fun _ => false) s t)) ∧
  (∀ (s : State), s.mbxIs 14 = false → Runs .shelf s []) ∧
  (∀ (s : State), s.awake = true → s.mbxIs 14 = true → s.flag CFG.BOOT_FW_NONE = true → Ends .shelf s (fun t => MbxClosed 4 [] s t ∧ MbxOnly (fun _ => false) s t)) ∧
  (∀ (s : State), s.mbxIs 15 = false → Runs .timeRead s []) ∧
  (∀ (s : State), s.awake = true → s.mbxIs 15 = true → s.flag CFG.BOOT_FW_NONE = true → Ends .timeRead s (fun t => MbxClosed 4 [] s t ∧ MbxOnly (fun _ => false) s t)) ∧
  (∀ (s : State), s.mbxIs 16 = false → Runs .kiteSend s []) ∧
  (∀ (s : State), s.awake = true → s.mbxIs 16 = true → s.flag CFG.BOOT_FW_NONE = true → Ends .kiteSend s (fun t => MbxClosed 4 [] s t ∧ MbxOnly (fun _ => false) s t)) ∧
  (∀ (op : Nat) (s : State), s.awake = true → s.get GLB.MBX_CMD_OPCODE = op → s.mbxIs op = true → (op = 0 ∨ 0x10 < op) →
    Ends .mbxReservedOpcode s (fun t => MbxClosed (if s.flag CFG.BOOT_FW_NONE then 4 else 2) [] s t ∧ MbxOnly (fun _ => false) s t)) ∧
  (∀ (s : State), (s.mbxIs (s.get GLB.MBX_CMD_OPCODE) = false ∨ (1 ≤ s.get GLB.MBX_CMD_OPCODE ∧ s.get GLB.MBX_CMD_OPCODE ≤ 0x10)) → Runs .mbxReservedOpcode s []) ∧
  (∀ (us : Nat) (s : State), us < s.mbxWorst → Runs (.mailboxTimeout us) s []) ∧
  (∀ (us : Nat) (s : State), s.awake = true → s.flag GLB.MBX_STATUS_BUSY = true → s.mbxRuns 7 = false → s.mbxWorst ≤ us → Runs (.mailboxTimeout us) s [(GLB.MBX_STATUS_BUSY, 0), (GLB.MBX_STATUS_DONE, 1), (GLB.MBX_STATUS_COMP, 5), (GLB.MBX_STATUS_TAG, s.get GLB.MBX_CMD_TAG)] { s with mbx := { begun := false } }) ∧
  (∀ (us : Nat) (s : State), s.awake = true → s.mbxRuns 7 = true → s.mbxWorst ≤ us → Runs (.mailboxTimeout us) s [(GLB.MBX_STATUS_BUSY, 0), (GLB.MBX_STATUS_DONE, 1), (GLB.MBX_STATUS_COMP, 5), (GLB.MBX_STATUS_TAG, s.get GLB.MBX_CMD_TAG)]
      { s with mbx := { begun := false }, cap := vset s.cap s.argLane { (s.cap.get s.argLane) with armed := false } }) ∧
  (∀ (us : Nat) (s : State), s.flag GLB.MBX_STATUS_BUSY = false → Runs (.mailboxTimeout us) s []) ∧
  (∀ (op : Fin 17) (s : State), s.get GLB.MBX_CMD_OPCODE = op.val →
    s.mbxWorst = [1000, 70000, 1000, 10000, max 1 (s.get PWR.QUIESCE_PWR_QUIESCE_TMO) + 5000, 1000, 1000, 1000 * (s.arg 2 % 65536 + 1), 120000, 1000, 3000000, 40000, 30000,
      2000, 2000000, 1000, 40000 * max 1 (s.get (KL.CFG2_PROBE_INT (s.arg 0 % 8))) + 70000].getD op.val 0)

/-- WHAT EACH MAILBOX COMMAND DOES, and what it is refused for (R432, R433, R352, R418, R452, R454, R482, Table 21-6), while firmware runs and the command
has started. The response words the table gives no content are free values. -/
def Obligations.MailboxCommands : Prop :=
  (∀ (k : Fin 2) (s : State), s.awake = true → s.mbxIs 1 = true → s.flag CFG.BOOT_FW_NONE = false → k = Fin.ofNat 2 (s.arg 0) →
    let t := s.mbxBegin.checked (if k = 0 then CFG.RIG_CHK_CHK0 else CFG.RIG_CHK_CHK1) (s.slotCheck false k)
    exec .rigApply s = .next (if s.slotCheck false k = 0 then (t.rigRun k (s.rigIn k)).mbxDone 0 [(t.rigRun k (s.rigIn k)).get CFG.RIG_SEQ_SEQ]
      else t.mbxDone (0x20 + s.slotCheck false k) [s.get CFG.RIG_SEQ_SEQ])) ∧
  (∀ (k : Fin 2) (s : State), s.awake = true → s.mbxIs 1 = true → s.flag CFG.BOOT_FW_NONE = false → k = Fin.ofNat 2 (s.arg 0) → s.slotCheck false k ≠ 0 →
    Ends .rigApply s (fun t => MbxClosed (0x20 + s.slotCheck false k) [s.get CFG.RIG_SEQ_SEQ] s t ∧ t.get (if k = 0 then CFG.RIG_CHK_CHK0 else CFG.RIG_CHK_CHK1) = s.slotCheck false k ∧
      t.get SEC.CNT_VERIFY_FAIL = (if s.slotCheck false k = 6 then s.once SEC.CNT_VERIFY_FAIL else s.get SEC.CNT_VERIFY_FAIL) ∧ MbxOnly (fun a => a == CFG.RIG_CHK_CHK0.addr || a == SEC.CNT_VERIFY_FAIL.addr) s t)) ∧
  (∀ (s : State), s.awake = true → s.mbxIs 2 = true → s.flag CFG.BOOT_FW_NONE = false → s.portsUnknown = true → Ends .portUp s (fun t => MbxClosed 3 [] s t ∧ MbxOnly (fun _ => false) s t)) ∧
  (∀ (s : State), s.awake = true → s.mbxIs 2 = true → s.flag CFG.BOOT_FW_NONE = false → s.portsUnknown = false → exec .portUp s = .next ((s.mbxBegin.each s.argPorts (fun k t => t.upSet k)).mbxDone 0)) ∧
  (∀ (s : State), s.awake = true → s.mbxIs 3 = true → s.flag CFG.BOOT_FW_NONE = false → s.portsUnknown = true → Ends .portDown s (fun t => MbxClosed 3 [] s t ∧ MbxOnly (fun _ => false) s t)) ∧
  (∀ (s : State), s.awake = true → s.mbxIs 3 = true → s.flag CFG.BOOT_FW_NONE = false → s.portsUnknown = false → exec .portDown s = .next ((s.mbxBegin.each s.argPorts (fun k t => t.portStop k)).mbxDone 0)) ∧
  (∀ (s : State), s.awake = true → s.mbxIs 4 = true → s.flag CFG.BOOT_FW_NONE = false → s.portOf s.argLane = none → Ends .laneNap s (fun t => MbxClosed 3 [] s t ∧ MbxOnly (fun _ => false) s t)) ∧
  (∀ (s : State), s.awake = true → s.mbxIs 5 = true → s.flag CFG.BOOT_FW_NONE = false → s.portOf s.argLane = none → Ends .laneWake s (fun t => MbxClosed 3 [] s t ∧ MbxOnly (fun _ => false) s t)) ∧
  (∀ (k : PortId) (s : State), s.awake = true → s.mbxIs 4 = true → s.flag CFG.BOOT_FW_NONE = false → s.portOf s.argLane = some k → s.pstate k = 7 → Ends .laneNap s (fun t => MbxClosed 0 [] s t ∧ MbxOnly (fun _ => false) s t)) ∧
  (∀ (k : PortId) (s : State), s.awake = true → s.mbxIs 4 = true → s.flag CFG.BOOT_FW_NONE = false → s.portOf s.argLane = some k → s.pstate k = 0 → Ends .laneNap s (fun t => MbxClosed 8 [] s t ∧ MbxOnly (fun _ => false) s t)) ∧
  (∀ (k : PortId) (s : State), s.awake = true → s.mbxIs 4 = true → s.flag CFG.BOOT_FW_NONE = false → s.portOf s.argLane = some k → s.pwr.dev = .run → s.pstate k ≠ 0 → s.pstate k ≠ 7 → exec .laneNap s = .next (s.mbxBegin.napAsk k .mailbox)) ∧
  (∀ (k : PortId) (s : State), s.awake = true → s.mbxIs 5 = true → s.flag CFG.BOOT_FW_NONE = false → s.portOf s.argLane = some k → s.pstate k ≠ 7 → Ends .laneWake s (fun t => MbxClosed 8 [] s t ∧ MbxOnly (fun _ => false) s t)) ∧
  (∀ (k : PortId) (s : State), s.awake = true → s.mbxIs 5 = true → s.flag CFG.BOOT_FW_NONE = false → s.portOf s.argLane = some k → s.pstate k = 7 →
    exec .laneWake s = .next (let t := s.mbxBegin.wakeAsk k; t.mbxDone 0 [((t.pt k).wake.any (·.fast)).toNat])) ∧
  (∀ (s : State), s.awake = true → s.mbxIs 6 = true → s.flag CFG.BOOT_FW_NONE = false → s.argLanes.any (fun n => (s.portOf n).isNone) = true → Ends .calNow s (fun t => MbxClosed 3 [] s t ∧ MbxOnly (fun _ => false) s t)) ∧
  (∀ (n : Lane) (s : State), s.awake = true → s.mbxIs 6 = true → s.flag CFG.BOOT_FW_NONE = false → s.argLanes.any (fun n => (s.portOf n).isNone) = false → Ends .calNow s (fun t => MbxClosed 0 [] s t ∧ MbxOnly (fun a => (List.finRange 8).any (fun n => a == (CAL.LANE_STATUS_REFRESH_PEND n).addr)) s t ∧
      t.get (CAL.LANE_STATUS_REFRESH_PEND n) = (if bit (s.arg 0) n then 1 else s.get (CAL.LANE_STATUS_REFRESH_PEND n)))) ∧
  (∀ (s : State), s.awake = true → s.mbxIs 7 = true → s.flag CFG.BOOT_FW_NONE = false → (bits (s.arg 0) 4 2 = 3 ∨ s.portOf s.argLane = none) → Ends .capture s (fun t => MbxClosed 3 [] s t ∧ MbxOnly (fun _ => false) s t)) ∧
  (∀ (s : State), s.awake = true → s.mbxIs 7 = true → s.flag CFG.BOOT_FW_NONE = false → bits (s.arg 0) 4 2 ≠ 3 → s.portOf s.argLane ≠ none →
    Runs .capture s [] { s with
      mbx := { begun := true }, cap := vset s.cap s.argLane { armed := true, point := bits (s.arg 0) 4 2, trigger := bits (s.arg 1) 0 2, words := [] } }) ∧
  (∀ (beat : BitVec 32) (l : List (BitVec 32)) (s : State), s.awake = true → s.mbxRuns 7 = true → (s.cap.get s.argLane).armed = true → ((s.cap.get s.argLane).trigger ≠ 1 ∨ s.flag (LN.RX_STATUS_LOS_NOW s.argLane) = true) →
    Ends (.captureTrigger beat l) s (fun t => MbxClosed 0 [beat.toNat] s t ∧ (t.cap.get s.argLane).words = l.map (·.toNat) ∧ (t.cap.get s.argLane).armed = false ∧ MbxOnly (fun _ => false) { s with cap := t.cap } t)) ∧
  (∀ (beat : BitVec 32) (l : List (BitVec 32)) (s : State), (s.mbxRuns 7 = false ∨ (s.cap.get s.argLane).armed = false ∨ ((s.cap.get s.argLane).trigger = 1 ∧ s.flag (LN.RX_STATUS_LOS_NOW s.argLane) = false)) → Runs (.captureTrigger beat l) s []) ∧
  (∀ (b : Bool) (s : State), s.awake = true → s.mbxIs 8 = true → s.flag SEC.OP_STATUS_BUSY = false →  ((s.lc ≠ 2 ∧ s.lc ≠ 3) ∨ s.flag CFG.BOOT_FW_NONE = true ∨ s.flag SEC.ATT_EXHAUSTED = true) → Ends (.attest b) s (fun t => MbxClosed 4 [] s t ∧ t.get SEC.CNT_ATT_REFUSED = s.once SEC.CNT_ATT_REFUSED ∧ MbxOnly (fun a => a == SEC.CNT_ATT_REFUSED.addr) s t ∧ t.get SEC.CNT_VERIFY_FAIL = s.get SEC.CNT_VERIFY_FAIL)) ∧
  (∀ (b : Bool) (s : State), s.awake = true → s.mbxIs 8 = true → s.flag SEC.OP_STATUS_BUSY = false → (s.lc = 2 ∨ s.lc = 3) → s.flag CFG.BOOT_FW_NONE = false → s.flag SEC.ATT_EXHAUSTED = false → (s.arg 4 % 4096 ≠ 0 ∨ inSramWin (s.arg 4) = false) → Ends (.attest b) s (fun t => MbxClosed 3 [] s t ∧ t.get SEC.CNT_ATT_REFUSED = s.once SEC.CNT_ATT_REFUSED ∧ MbxOnly (fun a => a == SEC.CNT_ATT_REFUSED.addr) s t ∧ t.get SEC.CNT_VERIFY_FAIL = s.get SEC.CNT_VERIFY_FAIL)) ∧
  (∀ (b : Bool) (s : State), s.awake = true → s.mbxIs 8 = true → s.flag SEC.OP_STATUS_BUSY = false → (s.lc = 2 ∨ s.lc = 3) → s.flag CFG.BOOT_FW_NONE = false → s.flag SEC.ATT_EXHAUSTED = false → s.arg 4 % 4096 = 0 → inSramWin (s.arg 4) = true → (s.flag THM.STATUS_MTP_OK = false) → Ends (.attest b) s (fun t => MbxClosed 6 [] s t ∧ t.get SEC.CNT_ATT_REFUSED = s.once SEC.CNT_ATT_REFUSED ∧ MbxOnly (fun a => a == SEC.CNT_ATT_REFUSED.addr) s t ∧ t.get SEC.CNT_VERIFY_FAIL = s.get SEC.CNT_VERIFY_FAIL)) ∧
  (∀ (b : Bool) (s : State), s.awake = true → s.mbxIs 8 = true → s.flag SEC.OP_STATUS_BUSY = false → (s.lc = 2 ∨ s.lc = 3) → s.flag CFG.BOOT_FW_NONE = false → s.flag SEC.ATT_EXHAUSTED = false → s.arg 4 % 4096 = 0 → inSramWin (s.arg 4) = true → s.flag THM.STATUS_MTP_OK = true → (s.braced = true ∨ b = true) → Ends (.attest b) s (fun t => MbxClosed 7 [] s t ∧ t.get SEC.CNT_ATT_REFUSED = s.once SEC.CNT_ATT_REFUSED ∧ MbxOnly (fun a => a == SEC.CNT_ATT_REFUSED.addr) s t ∧ t.get SEC.CNT_VERIFY_FAIL = s.get SEC.CNT_VERIFY_FAIL)) ∧
  (∀ (s : State), s.awake = true → s.mbxIs 8 = true → s.flag SEC.OP_STATUS_BUSY = false → (s.lc = 2 ∨ s.lc = 3) → s.flag CFG.BOOT_FW_NONE = false → s.flag SEC.ATT_EXHAUSTED = false → s.arg 4 % 4096 = 0 → inSramWin (s.arg 4) = true → s.flag THM.STATUS_MTP_OK = true → s.braced = false → s.mem.merge = [] →
    Ends (.attest false) s (fun t => MbxClosed 0 [] s t ∧ t.get SEC.ATT_INDEX = (s.get SEC.ATT_INDEX + 1) % 2 ^ SEC.ATT_INDEX.w ∧ t.flag SEC.ATT_EXHAUSTED = decide (s.get SEC.ATT_INDEX = 1048575) ∧
      t.mem.cells = writeBytes s.mem.cells (s.arg 4) (s.attRecord (s.get SEC.ATT_INDEX)))) ∧
  (∀ (s : State), s.awake = true → s.mbxIs 9 = true → Ends .selftestResult s (fun t => MbxClosed 0 ((List.range 4).map (fun k => s.viewWord 0 (TST.RESULT0_DONE.addr + 4 * k))) s t ∧ MbxOnly (fun _ => false) s t)) ∧
  (∀ (s : State), s.awake = true → s.mbxIs 0xA = true → (s.stageTarget = none ∨ 0x100000 < s.arg 1 ∨ s.stageTarget.any (fun t => decide (slotSize t < s.arg 2 + s.arg 1)) = true ∨ s.rangeOk (s.arg 0) (s.arg 1) = false) →
    Ends .fwStage s (fun t => MbxClosed 3 [] s t ∧ MbxOnly (fun _ => false) s t)) ∧
  (∀ (k : Nat) (s : State), s.awake = true → s.mbxIs 0xA = true → s.stageTarget = some k → s.arg 1 ≤ 0x100000 → s.arg 2 + s.arg 1 ≤ slotSize k → s.rangeOk (s.arg 0) (s.arg 1) = true → s.slotUsed k = true →
    Ends .fwStage s (fun t => MbxClosed 8 [] s t ∧ MbxOnly (fun _ => false) s t)) ∧
  (∀ (k : Fin 2) (s : State), s.awake = true → s.mbxIs 0xA = true → s.stageTarget = some (2 + k.val) → s.arg 1 ≤ 0x100000 → s.arg 2 + s.arg 1 ≤ slotSize 2 → s.rangeOk (s.arg 0) (s.arg 1) = true → s.slotUsed (2 + k.val) = false → s.mem.merge = [] → s.mem.poison = [] → s.mem.upset = [] →
    Ends .fwStage s (fun t => MbxClosed 0 [] s t ∧ MbxOnly (fun _ => false) { s with flash := t.flash } t ∧
      t.flash = ((if bit (s.arg 3) 4 = true then s.flashErase (flashSlot false k) (slotSize 2) else s).flashWrite (flashSlot false k + s.arg 2) (bytesAt s.mem.cells (s.arg 0) (s.arg 1))).flash)) ∧
  (∀ (k : Fin 2) (s : State), s.awake = true → s.mbxIs 0xA = true → s.stageTarget = some k.val → s.arg 1 ≤ 0x100000 → s.arg 2 + s.arg 1 ≤ slotSize 0 → s.rangeOk (s.arg 0) (s.arg 1) = true → s.slotUsed k = false → s.mem.merge = [] → s.mem.poison = [] → s.mem.upset = [] →
    Ends .fwStage s (fun t => MbxClosed 0 [] s t ∧ MbxOnly (fun _ => false) { s with flash := t.flash } t ∧
      t.flash = ((if bit (s.arg 3) 4 = true then s.flashErase (flashSlot true k) (slotSize 0) else s).flashWrite (flashSlot true k + s.arg 2) (bytesAt s.mem.cells (s.arg 0) (s.arg 1))).flash)) ∧
  (∀ (k : Fin 2) (c : Nat) (s : State), s.awake = true → s.mbxIs 0xB = true → bit (s.arg 0) 0 = true → k = Fin.ofNat 2 (s.arg 1) → s.slotCheck false k = c →
    Ends .fwCommit s (fun t => MbxClosed (if c = 0 then 0 else 0x20 + c) [] s t ∧ t.get (if k = 0 then CFG.RIG_CHK_CHK0 else CFG.RIG_CHK_CHK1) = c ∧ t.get SEC.CNT_VERIFY_FAIL = (if c = 6 then s.once SEC.CNT_VERIFY_FAIL else s.get SEC.CNT_VERIFY_FAIL) ∧
      MbxOnly (fun a => a == CFG.RIG_CHK_CHK0.addr || a == SEC.CNT_VERIFY_FAIL.addr) s t)) ∧
  (∀ (k : Fin 2) (c : Nat) (s : State), s.awake = true → s.mbxIs 0xB = true → bit (s.arg 0) 0 = false → k = Fin.ofNat 2 (if s.flag CFG.BOOT_FW_NONE then 0 else 1 - s.get CFG.BOOT_FW_SLOT) → s.slotCheck true k = c →
    Ends .fwCommit s (fun t => MbxClosed (if c = 0 then 0 else 0x20 + c) [] s t ∧ t.get (if k = 0 then CFG.RIG_CHK_FWCHK0 else CFG.RIG_CHK_FWCHK1) = c ∧ t.get SEC.CNT_VERIFY_FAIL = (if c = 6 then s.once SEC.CNT_VERIFY_FAIL else s.get SEC.CNT_VERIFY_FAIL) ∧
      MbxOnly (fun a => a == CFG.RIG_CHK_CHK0.addr || a == SEC.CNT_VERIFY_FAIL.addr) s t)) ∧
  (∀ (g n : Nat) (s : State), s.awake = true → s.mbxIs 12 = true → s.flag CFG.BOOT_FW_NONE = false → g = s.arg 0 % 2 → n = min (s.ringUnread g) (s.arg 4) / (if g = 0 then 32 else 16) * (if g = 0 then 32 else 16) → bit (s.arg 3) 0 = true → s.variant = true → s.mem.merge = [] → s.mem.poison = [] → s.mem.upset = [] →
    Ends .logDrain s (fun t => MbxClosed 0 [n] s t ∧ t.get (STR.RING_RD_RD g) = (s.get (STR.RING_RD_RD g) + n) % s.ringSize g % 2 ^ 32 ∧ MbxOnly (fun a => a == (STR.RING_RD_RD g).addr) { s with hostOut := t.hostOut } t ∧
      t.hostOut = (if n = 0 then s.hostOut else [(s.arg 1 + 2 ^ 32 * s.arg 2, (s.ringBytes g n).map (fun b => (b, false)))]))) ∧
  (∀ (g n a : Nat) (s : State), s.awake = true → s.mbxIs 12 = true → s.flag CFG.BOOT_FW_NONE = false → g = s.arg 0 % 2 → n = min (s.ringUnread g) (s.arg 4) / (if g = 0 then 32 else 16) * (if g = 0 then 32 else 16) → bit (s.arg 3) 0 = false → a = s.arg 1 + 2 ^ 32 * s.arg 2 → s.rangeOk a n = true → s.mem.merge = [] → s.mem.poison = [] → s.mem.upset = [] →
    Ends .logDrain s (fun t => MbxClosed 0 [n] s t ∧ t.get (STR.RING_RD_RD g) = (s.get (STR.RING_RD_RD g) + n) % s.ringSize g % 2 ^ 32 ∧ t.mem.cells = writeBytes s.mem.cells a (s.ringBytes g n))) ∧
  (∀ (s : State), s.awake = true → s.mbxIs 12 = true → s.flag CFG.BOOT_FW_NONE = false → ((bit (s.arg 3) 0 = true ∧ s.variant = false) ∨ (bit (s.arg 3) 0 = false ∧ s.rangeOk (s.arg 1 + 2 ^ 32 * s.arg 2) (min (s.ringUnread (s.arg 0 % 2)) (s.arg 4) / (if s.arg 0 % 2 = 0 then 32 else 16) * (if s.arg 0 % 2 = 0 then 32 else 16)) = false)) →
    Ends .logDrain s (fun t => MbxClosed 3 [] s t ∧ MbxOnly (fun _ => false) s t)) ∧
  (∀ (s : State), s.awake = true → s.mbxIs 13 = true → s.flag CFG.BOOT_FW_NONE = false → (s.arg 0 % 64 ≠ 0 ∨ inSramWin (s.arg 0) = false ∨ inSramWin (s.arg 0 + 0x2FFF) = false) → Ends .snapshotExport s (fun t => MbxClosed 3 [] s t ∧ MbxOnly (fun _ => false) s t)) ∧
  (∀ (u : State) (s : State), s.awake = true → s.mbxIs 13 = true → s.flag CFG.BOOT_FW_NONE = false → s.arg 0 % 64 = 0 → inSramWin (s.arg 0) = true → inSramWin (s.arg 0 + 0x2FFF) = true → u = (s.mbxBegin.snap.off LST.STATUS_SNAP_BUSY).off LST.CTRL_SNAP →
    exec .snapshotExport s = .next ((u.memPutBytes (s.arg 0) u.lstBytes).mbxDone 0 [u.get LST.STATUS_SNAP_SEQ])) ∧
  (∀ (s : State), s.awake = true → s.mbxIs 14 = true → s.flag CFG.BOOT_FW_NONE = false → exec .shelf s = .next (s.mbxBegin.shelfAsk .mailbox)) ∧
  (∀ (s : State), s.awake = true → s.mbxIs 15 = true → s.flag CFG.BOOT_FW_NONE = false → Ends .timeRead s (fun t => MbxClosed 0 [s.now % 2 ^ 32, s.now / 2 ^ 32, s.get STR.CYCLE_STR_CYCLE] s t ∧ MbxOnly (fun _ => false) s t)) ∧
  (∀ (s : State), s.awake = true → s.mbxIs 16 = true → s.flag CFG.BOOT_FW_NONE = false → (s.portOf s.argLane = none ∨ bits (s.arg 1) 0 4 ∉ [1, 3, 5, 6, 0xF]) → Ends .kiteSend s (fun t => MbxClosed 3 [] s t ∧ MbxOnly (fun _ => false) s t)) ∧
  (∀ (s : State), s.awake = true → s.mbxIs 16 = true → s.flag CFG.BOOT_FW_NONE = false → s.portOf s.argLane ≠ none → bits (s.arg 1) 0 4 = 0xF → Runs .kiteSend s [(KL.CMD_WAKE_SEND s.argLane, 1)] (s.mbxBegin.setKl s.argLane (fun x => { x with wakeAsk := true }))) ∧
  (∀ (s : State), s.awake = true → s.mbxIs 16 = true → s.flag CFG.BOOT_FW_NONE = false → s.portOf s.argLane ≠ none → (bits (s.arg 1) 0 4 = 1 ∨ bits (s.arg 1) 0 4 = 3) → exec .kiteSend s = .next (s.mbxBegin.kiteRequest s.argLane (bits (s.arg 1) 0 4) [])) ∧
  (∀ (k : PortId) (s : State), s.awake = true → s.mbxIs 16 = true → s.flag CFG.BOOT_FW_NONE = false → s.portOf s.argLane = some k → (bits (s.arg 1) 0 4 = 5 ∨ bits (s.arg 1) 0 4 = 6) → exec .kiteSend s = .next (s.mbxBegin.kiteRequest s.argLane (bits (s.arg 1) 0 4) [(s.pt k).lanes, s.argLane.val - k.val, 0, 0]))

/-- SECURITY AND SELF-TEST (R444 to R450, R453 to R459, R319, Tables 22-2 to 22-8): the operations on life-cycle and keys and the checks that end them,
Packdown slice by slice, SAFE_HOLD, the self-test engine, JTAG's instructions, and the counters cleared. -/
def Obligations.SecurityAndSelfTest : Prop :=
  (∀ (sig br otp : Bool) (k : Nat) (s : State), s.awake = true → s.sec.op = some (1, k) → s.mem.merge = [] → s.opCode 1 k sig br otp = 0 →
    Runs (.lcAdvance sig br otp) s [(GLB.LC_PENDING, max k (s.get GLB.LC_PENDING)), (SEC.OP_STATUS_BUSY, 0), (SEC.OP_STATUS_RESULT, 0)] { s with sec := { s.sec with op := none } }) ∧
  (∀ (sig br otp : Bool) (k : Nat) (s : State), s.awake = true → s.sec.op = some (2, k) → k < 2 → s.mem.merge = [] → s.opCode 2 k sig br otp = 0 →
    Runs (.keyProgram sig br otp) s [(SEC.KEYS_SLOT k, 1), (SEC.OP_STATUS_BUSY, 0), (SEC.OP_STATUS_RESULT, 0)] { s with
      sec := { s.sec with op := none, keys := vset s.sec.keys (Fin.ofNat 2 k) (leBytes 64 (s.tokLE 0x20 64)) } }) ∧
  (∀ (sig br otp : Bool) (k : Nat) (s : State), s.awake = true → s.sec.op = some (3, k) → s.mem.merge = [] → s.opCode 3 k sig br otp = 0 →
    Runs (.keyRevoke sig br otp) s [(SEC.KEYS_SLOT k, 2), (SEC.OP_STATUS_BUSY, 0), (SEC.OP_STATUS_RESULT, 0)] { s with sec := { s.sec with op := none } }) ∧
  (∀ (sig br otp : Bool) (k c : Nat) (s : State), s.awake = true → s.sec.op = some (1, k) → s.mem.merge = [] → s.opCode 1 k sig br otp = c → c ≠ 0 →
    Runs (.lcAdvance sig br otp) s ([(SEC.OP_STATUS_BUSY, 0), (SEC.OP_STATUS_RESULT, c)] ++ (if c = 5 then [(SEC.CNT_VERIFY_FAIL, s.once SEC.CNT_VERIFY_FAIL)] else [])) { s with sec := { s.sec with op := none } }) ∧
  (∀ (sig br otp : Bool) (k c : Nat) (s : State), s.awake = true → s.sec.op = some (2, k) → s.mem.merge = [] → s.opCode 2 k sig br otp = c → c ≠ 0 →
    Runs (.keyProgram sig br otp) s ([(SEC.OP_STATUS_BUSY, 0), (SEC.OP_STATUS_RESULT, c)] ++ (if c = 5 then [(SEC.CNT_VERIFY_FAIL, s.once SEC.CNT_VERIFY_FAIL)] else [])) { s with sec := { s.sec with op := none } }) ∧
  (∀ (sig br otp : Bool) (k c : Nat) (s : State), s.awake = true → s.sec.op = some (3, k) → s.mem.merge = [] → s.opCode 3 k sig br otp = c → c ≠ 0 →
    Runs (.keyRevoke sig br otp) s ([(SEC.OP_STATUS_BUSY, 0), (SEC.OP_STATUS_RESULT, c)] ++ (if c = 5 then [(SEC.CNT_VERIFY_FAIL, s.once SEC.CNT_VERIFY_FAIL)] else [])) { s with sec := { s.sec with op := none } }) ∧
  (∀ (sig br otp : Bool) (s : State), s.sec.op.any (fun p => p.1 == 1) = false → Runs (.lcAdvance sig br otp) s []) ∧
  (∀ (sig br otp : Bool) (s : State), s.sec.op.any (fun p => p.1 == 2) = false → Runs (.keyProgram sig br otp) s []) ∧
  (∀ (sig br otp : Bool) (s : State), s.sec.op.any (fun p => p.1 == 3) = false → Runs (.keyRevoke sig br otp) s []) ∧
  (∀ (op k : Nat) (sig br otp : Bool) (s : State), s.opCode op k sig br otp = 0 →
    s.tokenOk op k = true ∧ s.signerOk op k = true ∧ (sig = true ∨ s.signer = 0xFF) ∧ s.opOk op k = true ∧ s.flag THM.STATUS_MTP_OK = true ∧ s.braced = false ∧ br = false ∧ otp = true) ∧
  (∀ (k : Nat) (s : State), s.opOk 1 k = true → (s.lc = 1 ∧ k = 2) ∨ (s.lc = 2 ∧ k = 3) ∨ (s.lc = 3 ∧ k = 4) ∨ (s.lc ≠ 5 ∧ k = 5)) ∧
  (∀ (op k : Nat) (s : State), op < 16 → k < 16 → 1 ≤ op → op ≤ 3 → s.flag SEC.OP_STATUS_BUSY = false →
    Becomes s [(SEC.OP_OP, op), (SEC.OP_TARGET, k), (SEC.OP_STATUS_BUSY, 1), (SEC.OP_STATUS_RESULT, 1)] { s with sec := { s.sec with op := some (op, k) } } (s.opStart op k)) ∧
  (∀ (op k : Nat) (s : State), s.flag SEC.OP_STATUS_BUSY = true → s.opStart op k = s) ∧
  (∀ (s : State), s.awake = true → s.shelving = true → s.sec.slice = none → s.pwr.packed = false → s.allDown = true → s.mtpFree = true →
    Ends .packdown s (fun t => t.sec.slice = some 1 ∧ t.sec.fails = [] ∧ t.sec.abandon = false ∧ t.str.mtpCkpt = s.now ∧ t.str.mtpOrderly = true ∧ t.flag STR.CKPT1_ORDERLY = true ∧ t.get STR.CKPT0_CKPT_LO = s.now % 2 ^ 32)) ∧
  (∀ (s : State), s.awake = true → s.shelving = true → s.sec.slice = none → s.pwr.packed = false → s.allDown = true → s.mtpFree = false → s.str.mtpPending = false →
    Runs .packdown s [(STR.STATUS_CKPT_DEFER, 1), (STR.CKPT1_DEFER_CNT, s.once STR.CKPT1_DEFER_CNT)] { s with str := { s.str with mtpPending := true } }) ∧
  (∀ (s : State), (s.awake = false ∨ s.shelving = false ∨ s.sec.slice ≠ none ∨ s.pwr.packed = true ∨ s.allDown = false) → Runs .packdown s []) ∧
  (∀ (pass : Bool) (s : State), (s.sec.slice = none ∨ s.braced = true) → Runs (.packdownSliceEnd pass) s []) ∧
  (∀ (pass : Bool) (c : Nat) (s : State), s.awake = true → s.sec.slice = some c → s.braced = false → s.sec.abandon = false → (s.sec.hit = false ∨ s.sec.again = true) → c < s.lastSlice →
    Ends (.packdownSliceEnd pass) s (fun t => t.sec.slice = some (c + 1) ∧ t.sec.fails = (if pass = true ∧ s.sec.hit = false then s.sec.fails else s.sec.fails ++ [c]) ∧ t.sec.hit = false ∧ t.sec.again = false)) ∧
  (∀ (pass : Bool) (c : Nat) (s : State), s.awake = true → s.sec.slice = some c → s.braced = false → s.sec.abandon = false → s.sec.hit = true → s.sec.again = false →
    Ends (.packdownSliceEnd pass) s (fun t => t.sec.slice = some c ∧ t.sec.fails = s.sec.fails ∧ t.sec.hit = false ∧ t.sec.again = true)) ∧
  (∀ (pass : Bool) (c : Nat) (l : List Nat) (s : State), s.awake = true → s.sec.slice = some c → s.braced = false → s.sec.abandon = false → (s.sec.hit = false ∨ s.sec.again = true) → s.lastSlice ≤ c → c < 32 → s.now < 2 ^ 48 → l = (if pass = true ∧ s.sec.hit = false then s.sec.fails else s.sec.fails ++ [c]) → l.length < 32 → l.headD 0 < 32 →
    Runs (.packdownSliceEnd pass) s ([(TST.RESULT0_DONE, 1), (TST.RESULT0_PASS, if l = [] then 1 else 0), (TST.RESULT0_FAIL_SLICE, l.headD 0), (TST.RESULT0_FAIL_COUNT, l.length), (TST.RESULT1_TIME_LO, s.now), (TST.RESULT2_TIME_HI, s.now / 2 ^ 32),
        (TST.RESULT3_RIG_SEQ, s.get CFG.RIG_SEQ_SEQ)] ++ (if l = [] then [(CFG.QS_VALID, 1), (CFG.QS_PASS, 1), (CFG.QS_SEQ_SEQ, s.get CFG.RIG_SEQ_SEQ)] else [(TST.CNT_FAIL_CNT, s.once TST.CNT_FAIL_CNT)]))
      { s with sec := { s.sec with slice := none, fails := l, again := false, hit := false }, pwr := { s.pwr with packed := true, qsTime := if l = [] then s.now else s.pwr.qsTime } }) ∧
  (∀ (pass : Bool) (c : Nat) (s : State), s.awake = true → s.sec.slice = some c → s.braced = false → s.sec.abandon = true → exec (.packdownSliceEnd pass) s = .next (s.packAbandon c)) ∧
  (∀ (s : State), s.awake = true → s.flag TST.STATUS_POST_PASS = true → RunsThen .holdRelease s [(TST.STATUS_SAFE_HOLD, 0)] s (fun t => t.portsEval)) ∧
  (∀ (s : State), s.awake = true → s.flag TST.STATUS_POST_PASS = false → Runs .holdRelease s [(TST.STATUS_HOLD_REFUSED, 1)]) ∧
  (∀ (s : State), s.awake = true → s.lcOpen = true → s.flag TST.STATUS_ENG_BUSY = false → s.logicSlice (s.get TST.ENG0_SLICE) = true → (∀ k : PortId, s.pstate k = 0) →
    exec .engineStart s = .next (((s.partitionReset (s.get TST.ENG0_SLICE)).on TST.STATUS_ENG_BUSY).on TST.ENG0_START)) ∧
  (∀ (k : PortId) (s : State), (s.lcOpen = false ∨ s.flag TST.STATUS_ENG_BUSY = true ∨ s.logicSlice (s.get TST.ENG0_SLICE) = false ∨ s.pstate k ≠ 0) → Runs .engineStart s []) ∧
  (∀ (s : State), s.awake = true → s.flag TST.STATUS_ENG_BUSY = true → Runs .engineDone s [(TST.STATUS_ENG_BUSY, 0), (TST.ENG0_START, 0),
    (TST.ENG3_MISR, (Config.misr (s.get TST.ENG0_SLICE) (max 1 (s.get TST.ENG1_SEED)) (s.get TST.ENG2_PATTERNS) s.variant).toNat)]) ∧
  (∀ (s : State), s.flag TST.STATUS_ENG_BUSY = false → Runs .engineDone s []) ∧
  (∀ (s : State), s.awake = true → Runs .secCntClr s (zeroed [SEC.CNT_VERIFY_FAIL, SEC.CNT_ATT_REFUSED])) ∧
  (∀ (s : State), s.awake = true → Runs .tstCntClr s (zeroed [TST.CNT_ABORT_CNT, TST.CNT_FAIL_CNT])) ∧
  (∀ (x : JtagInsn) (s : State), (x = .bypass ∨ x = .idcode ∨ x = .sample) → Runs (.jtagInstructionLoad x) s [] { s with sec := { s.sec with jtag := x } }) ∧
  (∀ (x : JtagInsn) (s : State), (x = .bridle ∨ x = .testData) → Runs (.jtagInstructionLoad x) s [] { s with sec := { s.sec with jtag := if s.lc = 1 ∨ s.lc = 2 ∨ s.lc = 4 then x else .bypass } }) ∧
  (∀ (x : JtagInsn) (s : State), (x = .extest ∨ x = .extestPulse ∨ x = .extestTrain) → Runs (.jtagInstructionLoad x) s [] { s with sec := { s.sec with jtag := if s.get SAF.STATUS_LATCH = 0xFF then x else .bypass } })

/-- A BYTE OF MEMORY READS AS IT WAS WRITTEN, and a write leaves every other byte (R360, R377, R379): of the stored bytes, and of a write by an
initiator followed by a read of any, through the merge buffer or around it. The premise is that the memory holds no error to be met. -/
def Obligations.MemoryReadsWhatWasWritten : Prop :=
  (∀ (m : List Host.Cell) (a n v b : Nat),
    byteAt (writeLE m a n v) b = (if a ≤ b ∧ b < a + n then BitVec.ofNat 8 (v / 256 ^ (b - a)) else byteAt m b)) ∧
  (∀ (m : List Host.Cell) (a n v : Nat), readLE (writeLE m a n v) a n = v % 256 ^ n) ∧
  (∀ (m : List Host.Cell) (a b : Nat) (l : List Nat),
    byteAt (writeBytes m a l) b = (if a ≤ b ∧ b < a + l.length then BitVec.ofNat 8 (l.getD (b - a) 0) else byteAt m b)) ∧
  (∀ (i j : Initiator) (a : BitVec 32) (z : Fin 4) (v : BitVec 64) (s t u : State), s.mayAccess i = true → s.mayAccess j = true → inSramWin a.toNat = true → a.toNat % 8 + 2 ^ z.val ≤ 8 → s.mem.poison = [] → s.mem.upset = [] → t = s.busWrite i a.toNat z v.toNat → u = t.busRead j a.toNat z 0 .clean →
    u.brd.resp = .data (v.toNat % 256 ^ 2 ^ z.val)) ∧
  (∀ (i : Initiator) (a : BitVec 32) (z : Fin 4) (v : BitVec 64) (b : Nat) (s t : State), s.mayAccess i = true → inSramWin a.toNat = true → a.toNat % 8 + 2 ^ z.val ≤ 8 → (b < a.toNat ∨ a.toNat + 2 ^ z.val ≤ b) → s.mem.poison = [] → s.mem.upset = [] → s.mem.merge.all (fun e => e.addr % 8 == 0) = true → t = s.busWrite i a.toNat z v.toNat →
    byteAt t.image b = byteAt s.image b)

/-- THE LOADER TAKES THE NEWER VALID SLOT (R350). -/
def Obligations.LoaderTakesNewerSlot : Prop :=
  (∀ (a b : Nat), a < 2 ^ 32 → b < 2 ^ 32 → (seqNewer a b = true ↔ 1 ≤ (a + 2 ^ 32 - b) % 2 ^ 32 ∧ (a + 2 ^ 32 - b) % 2 ^ 32 ≤ 2 ^ 31 - 1)) ∧
  (∀ (a b : Nat), a < 2 ^ 32 → b < 2 ^ 32 → slotTaken 0 0 a b = (if seqNewer b a then some 1 else some 0)) ∧
  (∀ (a b : Nat), a < 2 ^ 32 → b < 2 ^ 32 → (a = b ∨ a = b + 2 ^ 31 ∨ b = a + 2 ^ 31) → slotTaken 0 0 a b = some 0) ∧
  (∀ (a b c : Nat), c ≠ 0 → slotTaken 0 c a b = some 0 ∧ slotTaken c 0 a b = some 1) ∧
  (∀ (a b c d : Nat), c ≠ 0 → d ≠ 0 → slotTaken c d a b = none) ∧
  (∀ (fw : Bool) (k : Fin 2) (s : State), s.flashLE (flashSlot fw k) 4 ≠ 0x4C4E5247 → s.slotCheck fw k = 1) ∧
  (∀ (fw : Bool) (k : Fin 2) (b n : Nat) (s : State), b = flashSlot fw k → n = s.flashLE (b + 0x0C) 4 → (s.digestOk b = false ∨ (∃ x ∈ s.sectionsIn b, n < x.offset + x.length) ∨
    (∃ i j : Fin (s.sectionsIn b).length, i < j ∧ ((s.sectionsIn b).get i).offset < ((s.sectionsIn b).get j).offset + ((s.sectionsIn b).get j).length ∧ ((s.sectionsIn b).get j).offset < ((s.sectionsIn b).get i).offset + ((s.sectionsIn b).get i).length)) →
    s.slotCheck fw k ≠ 0) ∧
  (∀ (t : Fin 8) (k : Fin 2) (s : State), (t = 1 ∨ t = 2 ∨ t = 5 ∨ t = 7) → (∀ x ∈ s.sectionsIn (flashSlot false k), x.type ≠ t.val) → s.slotCheck false k ≠ 0) ∧
  (∀ (fw : Bool) (s : State), s.slotPick fw = slotTaken (s.slotCheck fw 0) (s.slotCheck fw 1) (s.flashLE (flashSlot fw 0 + 8) 4) (s.flashLE (flashSlot fw 1 + 8) 4)) ∧
  (∀ (valid post : Bool) (fw : List Nat) (s : State),
    s.bootFirmware valid post fw = (
      let t := ((s.postRun (s.quickOk valid (s.slotPick false)) post).checked CFG.RIG_CHK_CHK0 (s.slotCheck false 0)).checked CFG.RIG_CHK_CHK1 (s.slotCheck false 1)
      match slotTaken (s.slotCheck false 0) (s.slotCheck false 1) (s.slotSeq false 0) (s.slotSeq false 1) with
      | some k => ((t.rigBoot k (s.rigIn k)).bootMeasure fw (s.rigIn k).digest).enterDoze.sparBoot
      | none => ((t.on CFG.BOOT_SAFE_BOOT).bootMeasure fw (List.replicate 32 0)).enterDoze.sparBoot))

/-- TRACE RECORDS (R417): a record is generated only for a source that is traced; one that finds the ring full is dropped and the lost count
increments; when the ring next has room for two, a gap marker with the lost count goes first, and the lost count restarts at 0. -/
def Obligations.TraceRecordsAndGaps : Prop :=
  (∀ (q inst ev d : Nat) (s : State), s.bitOf STR.TRACE_SRC_SRC q = false → s.traceRecord q inst ev d = s) ∧
  (∀ (q inst ev d : Nat) (s : State), s.bitOf STR.TRACE_SRC_SRC q = true → s.ringFull 1 16 = true →
    Becomes s [(STR.RING_CNT_RING_DROP 1, s.once (STR.RING_CNT_RING_DROP 1))] { s with str := { s.str with traceLost := s.str.traceLost + 1 } } (s.traceRecord q inst ev d)) ∧
  (∀ (q inst ev d : Nat) (s : State), s.bitOf STR.TRACE_SRC_SRC q = true → s.ringFull 1 16 = false → s.str.traceLost = 0 →
    s.traceRecord q inst ev d = s.ringPut 1 [q + 256 * (inst % 256) + 65536 * (ev % 65536), s.now % 2 ^ 32, s.get STR.CYCLE_STR_CYCLE, d % 2 ^ 32]) ∧
  (∀ (q inst ev d : Nat) (s : State), s.bitOf STR.TRACE_SRC_SRC q = true → s.ringFull 1 32 = true → s.str.traceLost ≠ 0 →
    Becomes s [(STR.RING_CNT_RING_DROP 1, s.once (STR.RING_CNT_RING_DROP 1))] { s with str := { s.str with traceLost := s.str.traceLost + 1 } } (s.traceRecord q inst ev d)) ∧
  (∀ (q inst ev d : Nat) (s : State), s.bitOf STR.TRACE_SRC_SRC q = true → s.ringFull 1 32 = false → s.str.traceLost ≠ 0 → s.mem.merge = [] → s.get (STR.RING_WR_WR 1) + 32 ≤ s.ringSize 1 → s.get (STR.RING_WR_WR 1) < 2 ^ 32 - 32 →
    let t := s.traceRecord q inst ev d
    t.str.traceLost = 0 ∧ t.get (STR.RING_WR_WR 1) = (s.get (STR.RING_WR_WR 1) + 32) % s.ringSize 1 ∧
      readLE t.mem.cells (s.get (STR.RING_BASE_BASE 1) + s.get (STR.RING_WR_WR 1)) 4 = 15 + 65536 * 0xFFFF ∧
      readLE t.mem.cells (s.get (STR.RING_BASE_BASE 1) + s.get (STR.RING_WR_WR 1) + 12) 4 = s.str.traceLost % 2 ^ 32 ∧
      readLE t.mem.cells (s.get (STR.RING_BASE_BASE 1) + s.get (STR.RING_WR_WR 1) + 16) 4 = (q + 256 * (inst % 256) + 65536 * (ev % 65536)) % 2 ^ 32 ∧
      readLE t.mem.cells (s.get (STR.RING_BASE_BASE 1) + s.get (STR.RING_WR_WR 1) + 28) 4 = d % 2 ^ 32)

/-- PARITY MISMATCHES (R370): a read that detects one receives an error response and is counted with KIND 0x9; every mismatch, found by a read
or by the sweep, increments PARITY_CNT, sets PARITY and records the word's address. -/
def Obligations.ParityMismatchIsReported : Prop :=
  (∀ (i : Initiator) (a : BitVec 32) (z : Fin 4) (wrong : BitVec 2) (e : SprEcc) (s : State), s.mayAccess i = true → wrong.getLsbD 0 = true → z.val < 3 → a.toNat % 2 ^ z.val = 0 → a.toNat < 0x200000 → unmapped i a.toNat = false → s.absent (a.toNat / 4 * 4) = false → hasParity (a.toNat / 4 * 4) = true → (z.val < 2 → sideEffect (a.toNat / 4 * 4) = false) →
    Ends (.registerRead i a z wrong e) s (fun t => t.brd.resp = .error 9 ∧ t.get GLB.BRD_CNT0_ACCESS_FAULT = s.once GLB.BRD_CNT0_ACCESS_FAULT ∧ t.get GLB.ACCESS_INFO_KIND = 9 ∧ t.get GLB.ACCESS_ADDR_ADDR = a.toNat ∧ t.get GLB.ACCESS_INFO_SIZE = z.val ∧ t.get GLB.ACCESS_INFO_INITIATOR = i.code ∧ t.flag GLB.BRD_STATUS_ACCESS = true ∧
      t.get GLB.BRD_CNT1_PARITY_CNT = s.once GLB.BRD_CNT1_PARITY_CNT ∧ t.flag GLB.BRD_STATUS_PARITY = true ∧ t.get GLB.PARITY_ADDR_ADDR = a.toNat / 4 * 4)) ∧
  (∀ (i : Initiator) (a : BitVec 32) (wrong : BitVec 2) (e : SprEcc) (s : State), s.mayAccess i = true → wrong.getLsbD 0 = false → wrong.getLsbD 1 = true → a.toNat % 8 = 0 → a.toNat < 0x200000 → unmapped i a.toNat = false → unmapped i (a.toNat + 4) = false → sideEffect a.toNat = false →
    s.absent (a.toNat + 4) = false → hasParity (a.toNat + 4) = true → s.brd.parityBad = [] →
    Ends (.registerRead i a 3 wrong e) s (fun t => t.brd.resp = .error 9 ∧ t.get GLB.BRD_CNT1_PARITY_CNT = s.once GLB.BRD_CNT1_PARITY_CNT ∧ t.flag GLB.BRD_STATUS_PARITY = true ∧ t.get GLB.PARITY_ADDR_ADDR = a.toNat + 4 ∧
      t.get GLB.ACCESS_ADDR_ADDR = a.toNat + 4 ∧ t.get GLB.ACCESS_INFO_SIZE = 2)) ∧
  (∀ (i : Initiator) (a : BitVec 32) (e : SprEcc) (s : State), s.mayAccess i = true → a.toNat % 4 = 0 → inAlias a.toNat = true → aliasDefined a.toNat = true → hasParity (aliasTarget a.toNat).1 = true →
    Ends (.registerRead i a 2 1 e) s (fun t => t.brd.resp = .error 9 ∧ t.get GLB.ACCESS_INFO_KIND = 9 ∧ t.get GLB.BRD_CNT1_PARITY_CNT = s.once GLB.BRD_CNT1_PARITY_CNT ∧ t.flag GLB.BRD_STATUS_PARITY = true ∧ t.get GLB.PARITY_ADDR_ADDR = (aliasTarget a.toNat).1)) ∧
  (∀ (a : BitVec 32) (s : State), s.awake = true → a.toNat < 0x200000 → hasParity (a.toNat / 4 * 4) = true →
    Ends (.paritySweep a true) s (fun t => t.get GLB.BRD_CNT1_PARITY_CNT = s.once GLB.BRD_CNT1_PARITY_CNT ∧ t.flag GLB.BRD_STATUS_PARITY = true ∧ t.get GLB.PARITY_ADDR_ADDR = a.toNat / 4 * 4 ∧ t.get GLB.BRD_CNT0_ACCESS_FAULT = s.get GLB.BRD_CNT0_ACCESS_FAULT))

/-- ALARMS AND THE LOG (R413): every alarm occurrence is offered to the log as a record of source ALM under that source's bucket, and whether the
record is dropped never affects the alarm table. -/
def Obligations.AlarmsAreOfferedToTheLog : Prop :=
  (∀ (stack id inst code : Nat) (active : Bool) (s : State),
    let t := s.almEnter stack id inst code active
    s.alarmFrom stack id inst code active = (t.logRecord 1 inst id (code % 65536 + 65536 * stack + 262144 * active.toNat) (t.get (STR.ALM1_COUNT (s.almEntry stack id inst))) 0 0).almForward ((t.logRecord 1 inst id (code % 65536 + 65536 * stack + 262144 * active.toNat) (t.get (STR.ALM1_COUNT (s.almEntry stack id inst))) 0 0).almMsg (s.almEntry stack id inst))) ∧
  (∀ (stack id inst code : Nat) (active : Bool) (f : Field) (s : State), 0x51000 ≤ f.addr → f.addr < 0x51800 →
    (s.alarmFrom stack id inst code active).get f = (s.almEnter stack id inst code active).get f)

/-- Every command leaves the device variant and the queue, draws no free value twice, and keeps the invariant. -/
def Obligations.EveryCommandKeeps : Prop := ∀ (c : Instr) (s t : State), exec c s = .next t → Keeps s t

/-- Every step keeps the invariant: memory in its canonical form, at most 8 entries in the merge buffer (R379), at most 64 words in
the FIFO of the Sonde (R248), a powered-time counter of 48 bits (R403), flash and memory free of entries at their erased or filled value, and the register store in its canonical form. -/
def Obligations.EveryStepKeepsInvariant : Prop := ∀ (s t : State), s.Inv → step s = .next t → t.Inv

/-- The state after reset has the invariant. -/
def Obligations.ResetMeetsInvariant : Prop := State.reset.Inv

/-- THE STATE AFTER RESET: every register field holds the reset value of its table but for LAST_WAKE_DETAIL, which the wake in progress
writes; memory is filled with zeros, no command waits, powered time is 0, and the wake sequence awaits its first ready signal. It
is what applying power leaves of a device that is off. Which variant it is, the pins and the contents of flash are the model's choice (log entries 8 to 12). -/
def Obligations.ResetState : Prop :=
  (∀ f : Field, f.key ≠ PWR.LAST_WAKE_DETAIL.key → State.reset.get f = f.reset) ∧ State.reset.get PWR.LAST_WAKE_DETAIL = 1 ∧
  (∀ a : Nat, byteAt State.reset.mem.cells a = 0) ∧ State.reset.pending = [] ∧ State.reset.now = 0 ∧ State.reset.pwr.dev = .waking 1 ∧
  State.powerOn { ({} : State) with pwr := { dev := .off } } = State.reset

/-- THE EXAMPLES OF THE SPEC (R363, R364, R375): the aliases of BALLAST_EN, of HOST_SD and of SUP_GATE of LN3; the masked writes to LN2_AFE_CTRL; and
the bank of the word at 0x1034_1F48. -/
def Obligations.DocumentedExamples : Prop :=
  aliasTarget 0x20000C = (PWR.CTRL_BALLAST_EN.addr, PWR.CTRL_BALLAST_EN.lo) ∧ aliasTarget 0x200404 = (PWR.WAKE_EN_EN.addr, PWR.WAKE_EN_EN.lo + 1) ∧
  aliasTarget 0x30002C = (SAF.CTRL_SUP_GATE.addr, SAF.CTRL_SUP_GATE.lo + 3) ∧ memBank 0x10341F48 = 13 ∧
  (∀ (i : Nat) (s : State), (s.wordWrite i 0x120000 0x30001).get (LN.AFE_CTRL_AGC_MODE 2) = 1 ∧
    OnlyIn [LN.AFE_CTRL_AGC_MODE 2] s (s.wordWrite i 0x120000 0x30001)) ∧
  (∀ (i : Nat) (s : State), s.wordWrite i 0x120000 0x10001 = s)
end

