-- ==== Sys2Proof/Laws/State.lean ====
section
/-!
SUPPORT. Small lemmas of the state's own operations: registers are read as written, and a register write changes nothing but
the registers.
-/

namespace Sys2Proof.Machine

open Sys2Proof

/-! ## Association lists -/

theorem assocFind_put_same {α : Type} (l : List (Nat × α)) (k : Nat) (v : α) : assocFind (assocPut l k v) k = some v := by
  induction l with
  | nil => simp [assocPut, assocFind]
  | cons p t ih =>
    obtain ⟨a, x⟩ := p
    simp only [assocPut]
    split
    · simp [assocFind]
    · split
      · simp [assocFind]
      · simp [assocFind, *]

theorem assocFind_put_ne {α : Type} (l : List (Nat × α)) (k j : Nat) (v : α) (h : j ≠ k) :
    assocFind (assocPut l k v) j = assocFind l j := by
  induction l with
  | nil => simp [assocPut, assocFind, h]
  | cons p t ih =>
    obtain ⟨a, x⟩ := p
    simp only [assocPut]
    split
    · simp [assocFind, h]
    · split
      · rename_i e; subst e; simp [assocFind, h]
      · simp [assocFind, ih]

theorem assocFind_del_same {α : Type} (l : List (Nat × α)) (k : Nat) : assocFind (assocDel l k) k = none := by
  induction l with
  | nil => rfl
  | cons p t ih =>
    obtain ⟨a, x⟩ := p
    unfold assocDel at ih ⊢
    by_cases e : a = k
    · simp [e, ih]
    · simp [e, assocFind, Ne.symm e, ih]

theorem assocFind_del_ne {α : Type} (l : List (Nat × α)) (k j : Nat) (h : j ≠ k) :
    assocFind (assocDel l k) j = assocFind l j := by
  induction l with
  | nil => rfl
  | cons p t ih =>
    obtain ⟨a, x⟩ := p
    unfold assocDel at ih ⊢
    by_cases e : a = k
    · subst e; simp [assocFind, h, ih]
    · simp [e, assocFind, ih]

/-! ## Registers -/

/-- A field reads as it was written, cut to its width. -/
@[simp] theorem State.get_set_same (s : State) (f : Field) (v : Nat) : (s.set f v).get f = v % 2 ^ f.w := by
  simp only [State.get, State.set]
  split
  · rename_i e; simp [assocFind_del_same, e]
  · simp [assocFind_put_same]

/-- A write of one field leaves every other field. -/
theorem State.get_set_ne (s : State) (f g : Field) (v : Nat) (h : g.key ≠ f.key) : (s.set f v).get g = s.get g := by
  simp only [State.get, State.set]
  split
  · rw [assocFind_del_ne _ _ _ h]
  · rw [assocFind_put_ne _ _ _ _ h]

/-- A counter that saturates reads one more, or its maximum. -/
@[simp] theorem State.get_inc_same (s : State) (f : Field) : (s.inc f).get f = min (s.get f + 1) (2 ^ f.w - 1) := by
  have h : 0 < 2 ^ f.w := Nat.two_pow_pos _
  unfold State.inc
  split
  · rw [State.get_set_same, Nat.mod_eq_of_lt (by omega)]; omega
  · rw [State.get_set_same, Nat.mod_eq_of_lt (by omega)]; omega

/-- A counted event leaves every other field. -/
theorem State.get_inc_ne (s : State) (f g : Field) (h : g.key ≠ f.key) : (s.inc f).get g = s.get g := by
  unfold State.inc; split <;> exact State.get_set_ne _ _ _ _ h

/-- What a counted event leaves: everything but the registers. -/
theorem State.inc_rest (s : State) (f : Field) : { s.inc f with regs := s.regs } = s := by unfold State.inc; split <;> rfl

/-- What a register write leaves: everything but the registers. -/
theorem State.set_rest (s : State) (f : Field) (v : Nat) : { s.set f v with regs := s.regs } = s := rfl

/-- A register is read from the register store alone. -/
@[simp] theorem State.get_mk (s : State) (f : Field) {a0} {a1} {a3} {a4} {a5} {a6} {a7} {a8} {a9} {a10} {a11} {a12} {a13} {a14} {a15} {a16} {a17} {a18} {a19} {a20} {a21} {a22} {a23} {a24} {a25} {a26} {a27} {a28} {a29} {a30} :
    State.get (State.mk a0 a1 s.regs a3 a4 a5 a6 a7 a8 a9 a10 a11 a12 a13 a14 a15 a16 a17 a18 a19 a20 a21 a22 a23 a24 a25 a26 a27 a28 a29 a30) f = s.get f := rfl

/-- An entry of a vector reads as it was replaced. -/
@[simp] theorem vset_get_same {α : Type} {k : Nat} (v : Vector α k) (i : Fin k) (a : α) : (vset v i a).get i = a := by
  show (v.set i.val a i.isLt)[i.val] = a
  simp

/-- Replacing one entry leaves every other. -/
theorem vset_get_ne {α : Type} {k : Nat} (v : Vector α k) (i j : Fin k) (a : α) (h : j ≠ i) : (vset v i a).get j = v.get j := by
  have h' : i.val ≠ j.val := fun e => h (Fin.ext e.symm)
  show (v.set i.val a i.isLt)[j.val] = v[j.val]
  simp [h']

/-! ## One lemma per field per update -/

@[simp] theorem State.set_variant (s : State) (f : Field) (v : Nat) : (s.set f v).variant = s.variant := rfl
@[simp] theorem State.inc_variant (s : State) (f : Field) : (s.inc f).variant = s.variant := by unfold State.inc; split <;> rfl
@[simp] theorem State.incBy_variant (s : State) (f : Field) (k : Nat) : (s.incBy f k).variant = s.variant := rfl
@[simp] theorem State.on_variant (s : State) (f : Field) : (s.on f).variant = s.variant := rfl
@[simp] theorem State.off_variant (s : State) (f : Field) : (s.off f).variant = s.variant := rfl
@[simp] theorem State.setB_variant (s : State) (f : Field) (b : Bool) : (s.setB f b).variant = s.variant := rfl
@[simp] theorem State.setBit_variant (s : State) (f : Field) (k : Nat) (b : Bool) : (s.setBit f k b).variant = s.variant := rfl
@[simp] theorem State.seti_variant (s : State) (f : Field) (x : Int) : (s.seti f x).variant = s.variant := rfl
@[simp] theorem State.incWrap_variant (s : State) (f : Field) : (s.incWrap f).variant = s.variant := rfl
@[simp] theorem State.set_now (s : State) (f : Field) (v : Nat) : (s.set f v).now = s.now := rfl
@[simp] theorem State.inc_now (s : State) (f : Field) : (s.inc f).now = s.now := by unfold State.inc; split <;> rfl
@[simp] theorem State.incBy_now (s : State) (f : Field) (k : Nat) : (s.incBy f k).now = s.now := rfl
@[simp] theorem State.on_now (s : State) (f : Field) : (s.on f).now = s.now := rfl
@[simp] theorem State.off_now (s : State) (f : Field) : (s.off f).now = s.now := rfl
@[simp] theorem State.setB_now (s : State) (f : Field) (b : Bool) : (s.setB f b).now = s.now := rfl
@[simp] theorem State.setBit_now (s : State) (f : Field) (k : Nat) (b : Bool) : (s.setBit f k b).now = s.now := rfl
@[simp] theorem State.seti_now (s : State) (f : Field) (x : Int) : (s.seti f x).now = s.now := rfl
@[simp] theorem State.incWrap_now (s : State) (f : Field) : (s.incWrap f).now = s.now := rfl
@[simp] theorem State.set_fresh (s : State) (f : Field) (v : Nat) : (s.set f v).fresh = s.fresh := rfl
@[simp] theorem State.inc_fresh (s : State) (f : Field) : (s.inc f).fresh = s.fresh := by unfold State.inc; split <;> rfl
@[simp] theorem State.incBy_fresh (s : State) (f : Field) (k : Nat) : (s.incBy f k).fresh = s.fresh := rfl
@[simp] theorem State.on_fresh (s : State) (f : Field) : (s.on f).fresh = s.fresh := rfl
@[simp] theorem State.off_fresh (s : State) (f : Field) : (s.off f).fresh = s.fresh := rfl
@[simp] theorem State.setB_fresh (s : State) (f : Field) (b : Bool) : (s.setB f b).fresh = s.fresh := rfl
@[simp] theorem State.setBit_fresh (s : State) (f : Field) (k : Nat) (b : Bool) : (s.setBit f k b).fresh = s.fresh := rfl
@[simp] theorem State.seti_fresh (s : State) (f : Field) (x : Int) : (s.seti f x).fresh = s.fresh := rfl
@[simp] theorem State.incWrap_fresh (s : State) (f : Field) : (s.incWrap f).fresh = s.fresh := rfl
@[simp] theorem State.set_mem (s : State) (f : Field) (v : Nat) : (s.set f v).mem = s.mem := rfl
@[simp] theorem State.inc_mem (s : State) (f : Field) : (s.inc f).mem = s.mem := by unfold State.inc; split <;> rfl
@[simp] theorem State.incBy_mem (s : State) (f : Field) (k : Nat) : (s.incBy f k).mem = s.mem := rfl
@[simp] theorem State.on_mem (s : State) (f : Field) : (s.on f).mem = s.mem := rfl
@[simp] theorem State.off_mem (s : State) (f : Field) : (s.off f).mem = s.mem := rfl
@[simp] theorem State.setB_mem (s : State) (f : Field) (b : Bool) : (s.setB f b).mem = s.mem := rfl
@[simp] theorem State.setBit_mem (s : State) (f : Field) (k : Nat) (b : Bool) : (s.setBit f k b).mem = s.mem := rfl
@[simp] theorem State.seti_mem (s : State) (f : Field) (x : Int) : (s.seti f x).mem = s.mem := rfl
@[simp] theorem State.incWrap_mem (s : State) (f : Field) : (s.incWrap f).mem = s.mem := rfl
@[simp] theorem State.set_brd (s : State) (f : Field) (v : Nat) : (s.set f v).brd = s.brd := rfl
@[simp] theorem State.inc_brd (s : State) (f : Field) : (s.inc f).brd = s.brd := by unfold State.inc; split <;> rfl
@[simp] theorem State.incBy_brd (s : State) (f : Field) (k : Nat) : (s.incBy f k).brd = s.brd := rfl
@[simp] theorem State.on_brd (s : State) (f : Field) : (s.on f).brd = s.brd := rfl
@[simp] theorem State.off_brd (s : State) (f : Field) : (s.off f).brd = s.brd := rfl
@[simp] theorem State.setB_brd (s : State) (f : Field) (b : Bool) : (s.setB f b).brd = s.brd := rfl
@[simp] theorem State.setBit_brd (s : State) (f : Field) (k : Nat) (b : Bool) : (s.setBit f k b).brd = s.brd := rfl
@[simp] theorem State.seti_brd (s : State) (f : Field) (x : Int) : (s.seti f x).brd = s.brd := rfl
@[simp] theorem State.incWrap_brd (s : State) (f : Field) : (s.incWrap f).brd = s.brd := rfl
@[simp] theorem State.set_str (s : State) (f : Field) (v : Nat) : (s.set f v).str = s.str := rfl
@[simp] theorem State.inc_str (s : State) (f : Field) : (s.inc f).str = s.str := by unfold State.inc; split <;> rfl
@[simp] theorem State.incBy_str (s : State) (f : Field) (k : Nat) : (s.incBy f k).str = s.str := rfl
@[simp] theorem State.on_str (s : State) (f : Field) : (s.on f).str = s.str := rfl
@[simp] theorem State.off_str (s : State) (f : Field) : (s.off f).str = s.str := rfl
@[simp] theorem State.setB_str (s : State) (f : Field) (b : Bool) : (s.setB f b).str = s.str := rfl
@[simp] theorem State.setBit_str (s : State) (f : Field) (k : Nat) (b : Bool) : (s.setBit f k b).str = s.str := rfl
@[simp] theorem State.seti_str (s : State) (f : Field) (x : Int) : (s.seti f x).str = s.str := rfl
@[simp] theorem State.incWrap_str (s : State) (f : Field) : (s.incWrap f).str = s.str := rfl
@[simp] theorem State.set_tth (s : State) (f : Field) (v : Nat) : (s.set f v).tth = s.tth := rfl
@[simp] theorem State.inc_tth (s : State) (f : Field) : (s.inc f).tth = s.tth := by unfold State.inc; split <;> rfl
@[simp] theorem State.incBy_tth (s : State) (f : Field) (k : Nat) : (s.incBy f k).tth = s.tth := rfl
@[simp] theorem State.on_tth (s : State) (f : Field) : (s.on f).tth = s.tth := rfl
@[simp] theorem State.off_tth (s : State) (f : Field) : (s.off f).tth = s.tth := rfl
@[simp] theorem State.setB_tth (s : State) (f : Field) (b : Bool) : (s.setB f b).tth = s.tth := rfl
@[simp] theorem State.setBit_tth (s : State) (f : Field) (k : Nat) (b : Bool) : (s.setBit f k b).tth = s.tth := rfl
@[simp] theorem State.seti_tth (s : State) (f : Field) (x : Int) : (s.seti f x).tth = s.tth := rfl
@[simp] theorem State.incWrap_tth (s : State) (f : Field) : (s.incWrap f).tth = s.tth := rfl
@[simp] theorem State.set_mgt (s : State) (f : Field) (v : Nat) : (s.set f v).mgt = s.mgt := rfl
@[simp] theorem State.inc_mgt (s : State) (f : Field) : (s.inc f).mgt = s.mgt := by unfold State.inc; split <;> rfl
@[simp] theorem State.incBy_mgt (s : State) (f : Field) (k : Nat) : (s.incBy f k).mgt = s.mgt := rfl
@[simp] theorem State.on_mgt (s : State) (f : Field) : (s.on f).mgt = s.mgt := rfl
@[simp] theorem State.off_mgt (s : State) (f : Field) : (s.off f).mgt = s.mgt := rfl
@[simp] theorem State.setB_mgt (s : State) (f : Field) (b : Bool) : (s.setB f b).mgt = s.mgt := rfl
@[simp] theorem State.setBit_mgt (s : State) (f : Field) (k : Nat) (b : Bool) : (s.setBit f k b).mgt = s.mgt := rfl
@[simp] theorem State.seti_mgt (s : State) (f : Field) (x : Int) : (s.seti f x).mgt = s.mgt := rfl
@[simp] theorem State.incWrap_mgt (s : State) (f : Field) : (s.incWrap f).mgt = s.mgt := rfl
@[simp] theorem State.set_mbx (s : State) (f : Field) (v : Nat) : (s.set f v).mbx = s.mbx := rfl
@[simp] theorem State.inc_mbx (s : State) (f : Field) : (s.inc f).mbx = s.mbx := by unfold State.inc; split <;> rfl
@[simp] theorem State.incBy_mbx (s : State) (f : Field) (k : Nat) : (s.incBy f k).mbx = s.mbx := rfl
@[simp] theorem State.on_mbx (s : State) (f : Field) : (s.on f).mbx = s.mbx := rfl
@[simp] theorem State.off_mbx (s : State) (f : Field) : (s.off f).mbx = s.mbx := rfl
@[simp] theorem State.setB_mbx (s : State) (f : Field) (b : Bool) : (s.setB f b).mbx = s.mbx := rfl
@[simp] theorem State.setBit_mbx (s : State) (f : Field) (k : Nat) (b : Bool) : (s.setBit f k b).mbx = s.mbx := rfl
@[simp] theorem State.seti_mbx (s : State) (f : Field) (x : Int) : (s.seti f x).mbx = s.mbx := rfl
@[simp] theorem State.incWrap_mbx (s : State) (f : Field) : (s.incWrap f).mbx = s.mbx := rfl
@[simp] theorem State.set_sec (s : State) (f : Field) (v : Nat) : (s.set f v).sec = s.sec := rfl
@[simp] theorem State.inc_sec (s : State) (f : Field) : (s.inc f).sec = s.sec := by unfold State.inc; split <;> rfl
@[simp] theorem State.incBy_sec (s : State) (f : Field) (k : Nat) : (s.incBy f k).sec = s.sec := rfl
@[simp] theorem State.on_sec (s : State) (f : Field) : (s.on f).sec = s.sec := rfl
@[simp] theorem State.off_sec (s : State) (f : Field) : (s.off f).sec = s.sec := rfl
@[simp] theorem State.setB_sec (s : State) (f : Field) (b : Bool) : (s.setB f b).sec = s.sec := rfl
@[simp] theorem State.setBit_sec (s : State) (f : Field) (k : Nat) (b : Bool) : (s.setBit f k b).sec = s.sec := rfl
@[simp] theorem State.seti_sec (s : State) (f : Field) (x : Int) : (s.seti f x).sec = s.sec := rfl
@[simp] theorem State.incWrap_sec (s : State) (f : Field) : (s.incWrap f).sec = s.sec := rfl
@[simp] theorem State.set_pwr (s : State) (f : Field) (v : Nat) : (s.set f v).pwr = s.pwr := rfl
@[simp] theorem State.inc_pwr (s : State) (f : Field) : (s.inc f).pwr = s.pwr := by unfold State.inc; split <;> rfl
@[simp] theorem State.incBy_pwr (s : State) (f : Field) (k : Nat) : (s.incBy f k).pwr = s.pwr := rfl
@[simp] theorem State.on_pwr (s : State) (f : Field) : (s.on f).pwr = s.pwr := rfl
@[simp] theorem State.off_pwr (s : State) (f : Field) : (s.off f).pwr = s.pwr := rfl
@[simp] theorem State.setB_pwr (s : State) (f : Field) (b : Bool) : (s.setB f b).pwr = s.pwr := rfl
@[simp] theorem State.setBit_pwr (s : State) (f : Field) (k : Nat) (b : Bool) : (s.setBit f k b).pwr = s.pwr := rfl
@[simp] theorem State.seti_pwr (s : State) (f : Field) (x : Int) : (s.seti f x).pwr = s.pwr := rfl
@[simp] theorem State.incWrap_pwr (s : State) (f : Field) : (s.incWrap f).pwr = s.pwr := rfl
@[simp] theorem State.set_boot (s : State) (f : Field) (v : Nat) : (s.set f v).boot = s.boot := rfl
@[simp] theorem State.inc_boot (s : State) (f : Field) : (s.inc f).boot = s.boot := by unfold State.inc; split <;> rfl
@[simp] theorem State.incBy_boot (s : State) (f : Field) (k : Nat) : (s.incBy f k).boot = s.boot := rfl
@[simp] theorem State.on_boot (s : State) (f : Field) : (s.on f).boot = s.boot := rfl
@[simp] theorem State.off_boot (s : State) (f : Field) : (s.off f).boot = s.boot := rfl
@[simp] theorem State.setB_boot (s : State) (f : Field) (b : Bool) : (s.setB f b).boot = s.boot := rfl
@[simp] theorem State.setBit_boot (s : State) (f : Field) (k : Nat) (b : Bool) : (s.setBit f k b).boot = s.boot := rfl
@[simp] theorem State.seti_boot (s : State) (f : Field) (x : Int) : (s.seti f x).boot = s.boot := rfl
@[simp] theorem State.incWrap_boot (s : State) (f : Field) : (s.incWrap f).boot = s.boot := rfl
@[simp] theorem State.set_flash (s : State) (f : Field) (v : Nat) : (s.set f v).flash = s.flash := rfl
@[simp] theorem State.inc_flash (s : State) (f : Field) : (s.inc f).flash = s.flash := by unfold State.inc; split <;> rfl
@[simp] theorem State.incBy_flash (s : State) (f : Field) (k : Nat) : (s.incBy f k).flash = s.flash := rfl
@[simp] theorem State.on_flash (s : State) (f : Field) : (s.on f).flash = s.flash := rfl
@[simp] theorem State.off_flash (s : State) (f : Field) : (s.off f).flash = s.flash := rfl
@[simp] theorem State.setB_flash (s : State) (f : Field) (b : Bool) : (s.setB f b).flash = s.flash := rfl
@[simp] theorem State.setBit_flash (s : State) (f : Field) (k : Nat) (b : Bool) : (s.setBit f k b).flash = s.flash := rfl
@[simp] theorem State.seti_flash (s : State) (f : Field) (x : Int) : (s.seti f x).flash = s.flash := rfl
@[simp] theorem State.incWrap_flash (s : State) (f : Field) : (s.incWrap f).flash = s.flash := rfl
@[simp] theorem State.set_saf (s : State) (f : Field) (v : Nat) : (s.set f v).saf = s.saf := rfl
@[simp] theorem State.inc_saf (s : State) (f : Field) : (s.inc f).saf = s.saf := by unfold State.inc; split <;> rfl
@[simp] theorem State.incBy_saf (s : State) (f : Field) (k : Nat) : (s.incBy f k).saf = s.saf := rfl
@[simp] theorem State.on_saf (s : State) (f : Field) : (s.on f).saf = s.saf := rfl
@[simp] theorem State.off_saf (s : State) (f : Field) : (s.off f).saf = s.saf := rfl
@[simp] theorem State.setB_saf (s : State) (f : Field) (b : Bool) : (s.setB f b).saf = s.saf := rfl
@[simp] theorem State.setBit_saf (s : State) (f : Field) (k : Nat) (b : Bool) : (s.setBit f k b).saf = s.saf := rfl
@[simp] theorem State.seti_saf (s : State) (f : Field) (x : Int) : (s.seti f x).saf = s.saf := rfl
@[simp] theorem State.incWrap_saf (s : State) (f : Field) : (s.incWrap f).saf = s.saf := rfl
@[simp] theorem State.set_thm (s : State) (f : Field) (v : Nat) : (s.set f v).thm = s.thm := rfl
@[simp] theorem State.inc_thm (s : State) (f : Field) : (s.inc f).thm = s.thm := by unfold State.inc; split <;> rfl
@[simp] theorem State.incBy_thm (s : State) (f : Field) (k : Nat) : (s.incBy f k).thm = s.thm := rfl
@[simp] theorem State.on_thm (s : State) (f : Field) : (s.on f).thm = s.thm := rfl
@[simp] theorem State.off_thm (s : State) (f : Field) : (s.off f).thm = s.thm := rfl
@[simp] theorem State.setB_thm (s : State) (f : Field) (b : Bool) : (s.setB f b).thm = s.thm := rfl
@[simp] theorem State.setBit_thm (s : State) (f : Field) (k : Nat) (b : Bool) : (s.setBit f k b).thm = s.thm := rfl
@[simp] theorem State.seti_thm (s : State) (f : Field) (x : Int) : (s.seti f x).thm = s.thm := rfl
@[simp] theorem State.incWrap_thm (s : State) (f : Field) : (s.incWrap f).thm = s.thm := rfl
@[simp] theorem State.set_reel (s : State) (f : Field) (v : Nat) : (s.set f v).reel = s.reel := rfl
@[simp] theorem State.inc_reel (s : State) (f : Field) : (s.inc f).reel = s.reel := by unfold State.inc; split <;> rfl
@[simp] theorem State.incBy_reel (s : State) (f : Field) (k : Nat) : (s.incBy f k).reel = s.reel := rfl
@[simp] theorem State.on_reel (s : State) (f : Field) : (s.on f).reel = s.reel := rfl
@[simp] theorem State.off_reel (s : State) (f : Field) : (s.off f).reel = s.reel := rfl
@[simp] theorem State.setB_reel (s : State) (f : Field) (b : Bool) : (s.setB f b).reel = s.reel := rfl
@[simp] theorem State.setBit_reel (s : State) (f : Field) (k : Nat) (b : Bool) : (s.setBit f k b).reel = s.reel := rfl
@[simp] theorem State.seti_reel (s : State) (f : Field) (x : Int) : (s.seti f x).reel = s.reel := rfl
@[simp] theorem State.incWrap_reel (s : State) (f : Field) : (s.incWrap f).reel = s.reel := rfl
@[simp] theorem State.set_reelLast (s : State) (f : Field) (v : Nat) : (s.set f v).reelLast = s.reelLast := rfl
@[simp] theorem State.inc_reelLast (s : State) (f : Field) : (s.inc f).reelLast = s.reelLast := by unfold State.inc; split <;> rfl
@[simp] theorem State.incBy_reelLast (s : State) (f : Field) (k : Nat) : (s.incBy f k).reelLast = s.reelLast := rfl
@[simp] theorem State.on_reelLast (s : State) (f : Field) : (s.on f).reelLast = s.reelLast := rfl
@[simp] theorem State.off_reelLast (s : State) (f : Field) : (s.off f).reelLast = s.reelLast := rfl
@[simp] theorem State.setB_reelLast (s : State) (f : Field) (b : Bool) : (s.setB f b).reelLast = s.reelLast := rfl
@[simp] theorem State.setBit_reelLast (s : State) (f : Field) (k : Nat) (b : Bool) : (s.setBit f k b).reelLast = s.reelLast := rfl
@[simp] theorem State.seti_reelLast (s : State) (f : Field) (x : Int) : (s.seti f x).reelLast = s.reelLast := rfl
@[simp] theorem State.incWrap_reelLast (s : State) (f : Field) : (s.incWrap f).reelLast = s.reelLast := rfl
@[simp] theorem State.set_hostOut (s : State) (f : Field) (v : Nat) : (s.set f v).hostOut = s.hostOut := rfl
@[simp] theorem State.inc_hostOut (s : State) (f : Field) : (s.inc f).hostOut = s.hostOut := by unfold State.inc; split <;> rfl
@[simp] theorem State.incBy_hostOut (s : State) (f : Field) (k : Nat) : (s.incBy f k).hostOut = s.hostOut := rfl
@[simp] theorem State.on_hostOut (s : State) (f : Field) : (s.on f).hostOut = s.hostOut := rfl
@[simp] theorem State.off_hostOut (s : State) (f : Field) : (s.off f).hostOut = s.hostOut := rfl
@[simp] theorem State.setB_hostOut (s : State) (f : Field) (b : Bool) : (s.setB f b).hostOut = s.hostOut := rfl
@[simp] theorem State.setBit_hostOut (s : State) (f : Field) (k : Nat) (b : Bool) : (s.setBit f k b).hostOut = s.hostOut := rfl
@[simp] theorem State.seti_hostOut (s : State) (f : Field) (x : Int) : (s.seti f x).hostOut = s.hostOut := rfl
@[simp] theorem State.incWrap_hostOut (s : State) (f : Field) : (s.incWrap f).hostOut = s.hostOut := rfl
@[simp] theorem State.set_cap (s : State) (f : Field) (v : Nat) : (s.set f v).cap = s.cap := rfl
@[simp] theorem State.inc_cap (s : State) (f : Field) : (s.inc f).cap = s.cap := by unfold State.inc; split <;> rfl
@[simp] theorem State.incBy_cap (s : State) (f : Field) (k : Nat) : (s.incBy f k).cap = s.cap := rfl
@[simp] theorem State.on_cap (s : State) (f : Field) : (s.on f).cap = s.cap := rfl
@[simp] theorem State.off_cap (s : State) (f : Field) : (s.off f).cap = s.cap := rfl
@[simp] theorem State.setB_cap (s : State) (f : Field) (b : Bool) : (s.setB f b).cap = s.cap := rfl
@[simp] theorem State.setBit_cap (s : State) (f : Field) (k : Nat) (b : Bool) : (s.setBit f k b).cap = s.cap := rfl
@[simp] theorem State.seti_cap (s : State) (f : Field) (x : Int) : (s.seti f x).cap = s.cap := rfl
@[simp] theorem State.incWrap_cap (s : State) (f : Field) : (s.incWrap f).cap = s.cap := rfl
@[simp] theorem State.set_line (s : State) (f : Field) (v : Nat) : (s.set f v).line = s.line := rfl
@[simp] theorem State.inc_line (s : State) (f : Field) : (s.inc f).line = s.line := by unfold State.inc; split <;> rfl
@[simp] theorem State.incBy_line (s : State) (f : Field) (k : Nat) : (s.incBy f k).line = s.line := rfl
@[simp] theorem State.on_line (s : State) (f : Field) : (s.on f).line = s.line := rfl
@[simp] theorem State.off_line (s : State) (f : Field) : (s.off f).line = s.line := rfl
@[simp] theorem State.setB_line (s : State) (f : Field) (b : Bool) : (s.setB f b).line = s.line := rfl
@[simp] theorem State.setBit_line (s : State) (f : Field) (k : Nat) (b : Bool) : (s.setBit f k b).line = s.line := rfl
@[simp] theorem State.seti_line (s : State) (f : Field) (x : Int) : (s.seti f x).line = s.line := rfl
@[simp] theorem State.incWrap_line (s : State) (f : Field) : (s.incWrap f).line = s.line := rfl
@[simp] theorem State.set_host (s : State) (f : Field) (v : Nat) : (s.set f v).host = s.host := rfl
@[simp] theorem State.inc_host (s : State) (f : Field) : (s.inc f).host = s.host := by unfold State.inc; split <;> rfl
@[simp] theorem State.incBy_host (s : State) (f : Field) (k : Nat) : (s.incBy f k).host = s.host := rfl
@[simp] theorem State.on_host (s : State) (f : Field) : (s.on f).host = s.host := rfl
@[simp] theorem State.off_host (s : State) (f : Field) : (s.off f).host = s.host := rfl
@[simp] theorem State.setB_host (s : State) (f : Field) (b : Bool) : (s.setB f b).host = s.host := rfl
@[simp] theorem State.setBit_host (s : State) (f : Field) (k : Nat) (b : Bool) : (s.setBit f k b).host = s.host := rfl
@[simp] theorem State.seti_host (s : State) (f : Field) (x : Int) : (s.seti f x).host = s.host := rfl
@[simp] theorem State.incWrap_host (s : State) (f : Field) : (s.incWrap f).host = s.host := rfl
@[simp] theorem State.set_port (s : State) (f : Field) (v : Nat) : (s.set f v).port = s.port := rfl
@[simp] theorem State.inc_port (s : State) (f : Field) : (s.inc f).port = s.port := by unfold State.inc; split <;> rfl
@[simp] theorem State.incBy_port (s : State) (f : Field) (k : Nat) : (s.incBy f k).port = s.port := rfl
@[simp] theorem State.on_port (s : State) (f : Field) : (s.on f).port = s.port := rfl
@[simp] theorem State.off_port (s : State) (f : Field) : (s.off f).port = s.port := rfl
@[simp] theorem State.setB_port (s : State) (f : Field) (b : Bool) : (s.setB f b).port = s.port := rfl
@[simp] theorem State.setBit_port (s : State) (f : Field) (k : Nat) (b : Bool) : (s.setBit f k b).port = s.port := rfl
@[simp] theorem State.seti_port (s : State) (f : Field) (x : Int) : (s.seti f x).port = s.port := rfl
@[simp] theorem State.incWrap_port (s : State) (f : Field) : (s.incWrap f).port = s.port := rfl
@[simp] theorem State.set_bda (s : State) (f : Field) (v : Nat) : (s.set f v).bda = s.bda := rfl
@[simp] theorem State.inc_bda (s : State) (f : Field) : (s.inc f).bda = s.bda := by unfold State.inc; split <;> rfl
@[simp] theorem State.incBy_bda (s : State) (f : Field) (k : Nat) : (s.incBy f k).bda = s.bda := rfl
@[simp] theorem State.on_bda (s : State) (f : Field) : (s.on f).bda = s.bda := rfl
@[simp] theorem State.off_bda (s : State) (f : Field) : (s.off f).bda = s.bda := rfl
@[simp] theorem State.setB_bda (s : State) (f : Field) (b : Bool) : (s.setB f b).bda = s.bda := rfl
@[simp] theorem State.setBit_bda (s : State) (f : Field) (k : Nat) (b : Bool) : (s.setBit f k b).bda = s.bda := rfl
@[simp] theorem State.seti_bda (s : State) (f : Field) (x : Int) : (s.seti f x).bda = s.bda := rfl
@[simp] theorem State.incWrap_bda (s : State) (f : Field) : (s.incWrap f).bda = s.bda := rfl
@[simp] theorem State.set_kite (s : State) (f : Field) (v : Nat) : (s.set f v).kite = s.kite := rfl
@[simp] theorem State.inc_kite (s : State) (f : Field) : (s.inc f).kite = s.kite := by unfold State.inc; split <;> rfl
@[simp] theorem State.incBy_kite (s : State) (f : Field) (k : Nat) : (s.incBy f k).kite = s.kite := rfl
@[simp] theorem State.on_kite (s : State) (f : Field) : (s.on f).kite = s.kite := rfl
@[simp] theorem State.off_kite (s : State) (f : Field) : (s.off f).kite = s.kite := rfl
@[simp] theorem State.setB_kite (s : State) (f : Field) (b : Bool) : (s.setB f b).kite = s.kite := rfl
@[simp] theorem State.setBit_kite (s : State) (f : Field) (k : Nat) (b : Bool) : (s.setBit f k b).kite = s.kite := rfl
@[simp] theorem State.seti_kite (s : State) (f : Field) (x : Int) : (s.seti f x).kite = s.kite := rfl
@[simp] theorem State.incWrap_kite (s : State) (f : Field) : (s.incWrap f).kite = s.kite := rfl
@[simp] theorem State.set_snd (s : State) (f : Field) (v : Nat) : (s.set f v).snd = s.snd := rfl
@[simp] theorem State.inc_snd (s : State) (f : Field) : (s.inc f).snd = s.snd := by unfold State.inc; split <;> rfl
@[simp] theorem State.incBy_snd (s : State) (f : Field) (k : Nat) : (s.incBy f k).snd = s.snd := rfl
@[simp] theorem State.on_snd (s : State) (f : Field) : (s.on f).snd = s.snd := rfl
@[simp] theorem State.off_snd (s : State) (f : Field) : (s.off f).snd = s.snd := rfl
@[simp] theorem State.setB_snd (s : State) (f : Field) (b : Bool) : (s.setB f b).snd = s.snd := rfl
@[simp] theorem State.setBit_snd (s : State) (f : Field) (k : Nat) (b : Bool) : (s.setBit f k b).snd = s.snd := rfl
@[simp] theorem State.seti_snd (s : State) (f : Field) (x : Int) : (s.seti f x).snd = s.snd := rfl
@[simp] theorem State.incWrap_snd (s : State) (f : Field) : (s.incWrap f).snd = s.snd := rfl
@[simp] theorem State.set_spr (s : State) (f : Field) (v : Nat) : (s.set f v).spr = s.spr := rfl
@[simp] theorem State.inc_spr (s : State) (f : Field) : (s.inc f).spr = s.spr := by unfold State.inc; split <;> rfl
@[simp] theorem State.incBy_spr (s : State) (f : Field) (k : Nat) : (s.incBy f k).spr = s.spr := rfl
@[simp] theorem State.on_spr (s : State) (f : Field) : (s.on f).spr = s.spr := rfl
@[simp] theorem State.off_spr (s : State) (f : Field) : (s.off f).spr = s.spr := rfl
@[simp] theorem State.setB_spr (s : State) (f : Field) (b : Bool) : (s.setB f b).spr = s.spr := rfl
@[simp] theorem State.setBit_spr (s : State) (f : Field) (k : Nat) (b : Bool) : (s.setBit f k b).spr = s.spr := rfl
@[simp] theorem State.seti_spr (s : State) (f : Field) (x : Int) : (s.seti f x).spr = s.spr := rfl
@[simp] theorem State.incWrap_spr (s : State) (f : Field) : (s.incWrap f).spr = s.spr := rfl
@[simp] theorem State.set_txpll (s : State) (f : Field) (v : Nat) : (s.set f v).txpll = s.txpll := rfl
@[simp] theorem State.inc_txpll (s : State) (f : Field) : (s.inc f).txpll = s.txpll := by unfold State.inc; split <;> rfl
@[simp] theorem State.incBy_txpll (s : State) (f : Field) (k : Nat) : (s.incBy f k).txpll = s.txpll := rfl
@[simp] theorem State.on_txpll (s : State) (f : Field) : (s.on f).txpll = s.txpll := rfl
@[simp] theorem State.off_txpll (s : State) (f : Field) : (s.off f).txpll = s.txpll := rfl
@[simp] theorem State.setB_txpll (s : State) (f : Field) (b : Bool) : (s.setB f b).txpll = s.txpll := rfl
@[simp] theorem State.setBit_txpll (s : State) (f : Field) (k : Nat) (b : Bool) : (s.setBit f k b).txpll = s.txpll := rfl
@[simp] theorem State.seti_txpll (s : State) (f : Field) (x : Int) : (s.seti f x).txpll = s.txpll := rfl
@[simp] theorem State.incWrap_txpll (s : State) (f : Field) : (s.incWrap f).txpll = s.txpll := rfl
@[simp] theorem State.set_htpll (s : State) (f : Field) (v : Nat) : (s.set f v).htpll = s.htpll := rfl
@[simp] theorem State.inc_htpll (s : State) (f : Field) : (s.inc f).htpll = s.htpll := by unfold State.inc; split <;> rfl
@[simp] theorem State.incBy_htpll (s : State) (f : Field) (k : Nat) : (s.incBy f k).htpll = s.htpll := rfl
@[simp] theorem State.on_htpll (s : State) (f : Field) : (s.on f).htpll = s.htpll := rfl
@[simp] theorem State.off_htpll (s : State) (f : Field) : (s.off f).htpll = s.htpll := rfl
@[simp] theorem State.setB_htpll (s : State) (f : Field) (b : Bool) : (s.setB f b).htpll = s.htpll := rfl
@[simp] theorem State.setBit_htpll (s : State) (f : Field) (k : Nat) (b : Bool) : (s.setBit f k b).htpll = s.htpll := rfl
@[simp] theorem State.seti_htpll (s : State) (f : Field) (x : Int) : (s.seti f x).htpll = s.htpll := rfl
@[simp] theorem State.incWrap_htpll (s : State) (f : Field) : (s.incWrap f).htpll = s.htpll := rfl
@[simp] theorem State.set_tokens (s : State) (f : Field) (v : Nat) : (s.set f v).tokens = s.tokens := rfl
@[simp] theorem State.inc_tokens (s : State) (f : Field) : (s.inc f).tokens = s.tokens := by unfold State.inc; split <;> rfl
@[simp] theorem State.incBy_tokens (s : State) (f : Field) (k : Nat) : (s.incBy f k).tokens = s.tokens := rfl
@[simp] theorem State.on_tokens (s : State) (f : Field) : (s.on f).tokens = s.tokens := rfl
@[simp] theorem State.off_tokens (s : State) (f : Field) : (s.off f).tokens = s.tokens := rfl
@[simp] theorem State.setB_tokens (s : State) (f : Field) (b : Bool) : (s.setB f b).tokens = s.tokens := rfl
@[simp] theorem State.setBit_tokens (s : State) (f : Field) (k : Nat) (b : Bool) : (s.setBit f k b).tokens = s.tokens := rfl
@[simp] theorem State.seti_tokens (s : State) (f : Field) (x : Int) : (s.seti f x).tokens = s.tokens := rfl
@[simp] theorem State.incWrap_tokens (s : State) (f : Field) : (s.incWrap f).tokens = s.tokens := rfl
@[simp] theorem State.set_pending (s : State) (f : Field) (v : Nat) : (s.set f v).pending = s.pending := rfl
@[simp] theorem State.inc_pending (s : State) (f : Field) : (s.inc f).pending = s.pending := by unfold State.inc; split <;> rfl
@[simp] theorem State.incBy_pending (s : State) (f : Field) (k : Nat) : (s.incBy f k).pending = s.pending := rfl
@[simp] theorem State.on_pending (s : State) (f : Field) : (s.on f).pending = s.pending := rfl
@[simp] theorem State.off_pending (s : State) (f : Field) : (s.off f).pending = s.pending := rfl
@[simp] theorem State.setB_pending (s : State) (f : Field) (b : Bool) : (s.setB f b).pending = s.pending := rfl
@[simp] theorem State.setBit_pending (s : State) (f : Field) (k : Nat) (b : Bool) : (s.setBit f k b).pending = s.pending := rfl
@[simp] theorem State.seti_pending (s : State) (f : Field) (x : Int) : (s.seti f x).pending = s.pending := rfl
@[simp] theorem State.incWrap_pending (s : State) (f : Field) : (s.incWrap f).pending = s.pending := rfl

/-! ## The performance counters leave memory -/

theorem State.each_mem {α : Type} (s : State) (l : List α) (g : α → State → State) (hg : ∀ a t, (g a t).mem = t.mem) :
    (s.each l g).mem = s.mem := by
  unfold State.each
  induction l generalizing s with
  | nil => rfl
  | cons a t ih => exact (ih (g a s)).trans (hg a s)

theorem State.pmcSample_mem (s : State) (i g pos : Nat) (x : Option SprSample) : (s.pmcSample i g pos x).mem = s.mem := by
  unfold State.pmcSample
  split
  · split <;> simp
  · simp

theorem State.pmcWrapOne_mem (s : State) (i g pos : Nat) (x : Option SprSample) : (s.pmcWrapOne i g pos x).mem = s.mem := by
  unfold State.pmcWrapOne
  dsimp only
  split
  · rw [State.pmcSample_mem, State.setBit_mem]
  · simp

theorem State.setPmc_mem (s : State) (i v : Nat) : (s.setPmc i v).mem = s.mem := rfl

theorem State.pmcAdd_mem (s : State) (i k pos : Nat) (x : Option SprSample) : (s.pmcAdd i k pos x).mem = s.mem := by
  unfold State.pmcAdd
  dsimp only
  split
  · rfl
  · split
    · split
      · rw [State.setPmc_mem, State.pmcWrapOne_mem, State.setPmc_mem]
      · rw [State.pmcWrapOne_mem, State.setPmc_mem, State.pmcWrapOne_mem, State.setPmc_mem]
    · rw [State.pmcWrapOne_mem, State.setPmc_mem]

/-- Counting an event leaves memory. -/
theorem State.countEvent_mem (s : State) (ev inst k : Nat) (x : Option SprSample) : (s.countEvent ev inst k x).mem = s.mem := by
  unfold State.countEvent
  refine State.each_mem _ _ _ (fun i t => ?_)
  split
  · split
    · rfl
    · exact State.pmcAdd_mem t _ _ _ _
  · rfl

theorem State.memCount_mem (s : State) (a ev k : Nat) : (s.memCount a ev k).mem = s.mem := by
  unfold State.memCount
  split
  · exact State.countEvent_mem _ _ _ _ _
  · rfl

/-- A flush takes the word's entry out of the merge buffer. -/
theorem State.flushEntry_merge (s : State) (e : MergeEntry) :
    (s.flushEntry e).mem.merge = s.mem.merge.filter (fun x => x.addr != e.addr) := by
  unfold State.flushEntry
  dsimp only
  split
  · rw [State.countEvent_mem, State.memCount_mem]; rfl
  · rw [State.memCount_mem, State.countEvent_mem, State.memCount_mem]

/-- A flush lays the entry's valid bytes over the stored word. -/
theorem State.flushEntry_cells (s : State) (e : MergeEntry) : (s.flushEntry e).mem.cells = mergeBytes s.mem.cells e 8 := by
  unfold State.flushEntry
  dsimp only
  split
  · rw [State.countEvent_mem, State.memCount_mem]; rfl
  · rw [State.memCount_mem, State.countEvent_mem, State.memCount_mem]

end Sys2Proof.Machine
end

