-- ==== Sys2Proof/Laws/Canon.lean ====
section
/-!
SUPPORT. The canonical forms of the register store and of memory are kept by every operation on them, and a byte of memory
reads as it was written.
-/

namespace Sys2Proof.Machine

open Sys2Proof

/-! ## Rising keys -/

/-- Keys rise strictly. -/
def Rising {α : Type} (l : List (Nat × α)) : Prop := l.Pairwise (fun a b => a.1 < b.1)

theorem zip_rising {α : Type} (l : List (Nat × α)) :
    (l.zip (l.drop 1)).all (fun p => decide (p.1.1 < p.2.1)) = true ↔ Rising l := by
  induction l with
  | nil => simp [Rising]
  | cons a t ih =>
    cases t with
    | nil => simp [Rising]
    | cons b u =>
      simp only [Rising, List.drop_succ_cons, List.drop_zero, List.zip_cons_cons, List.all_cons, Bool.and_eq_true,
        decide_eq_true_eq, List.pairwise_cons] at ih ⊢
      rw [ih]
      constructor
      · rintro ⟨h, k⟩
        exact ⟨fun x hx => by
          rcases List.mem_cons.1 hx with rfl | hx
          · exact h
          · exact Nat.lt_trans h (k.1 x hx), k⟩
      · rintro ⟨h, k⟩
        exact ⟨h b (by simp), k⟩

theorem rising_del {α : Type} (l : List (Nat × α)) (k : Nat) (h : Rising l) : Rising (assocDel l k) := h.filter _

theorem mem_put {α : Type} (l : List (Nat × α)) (k : Nat) (v : α) (p : Nat × α) (h : p ∈ assocPut l k v) : p = (k, v) ∨ p ∈ l := by
  induction l with
  | nil => simpa [assocPut] using h
  | cons q t ih =>
    obtain ⟨a, x⟩ := q
    simp only [assocPut] at h
    split at h
    · simpa using h
    · split at h
      · rcases List.mem_cons.1 h with h | h
        · exact .inl h
        · exact .inr (List.mem_cons_of_mem _ h)
      · rcases List.mem_cons.1 h with h | h
        · exact .inr (by simp [h])
        · rcases ih h with h | h
          · exact .inl h
          · exact .inr (List.mem_cons_of_mem _ h)

theorem rising_put {α : Type} (l : List (Nat × α)) (k : Nat) (v : α) (h : Rising l) : Rising (assocPut l k v) := by
  induction l with
  | nil => simp [Rising, assocPut]
  | cons q t ih =>
    obtain ⟨a, x⟩ := q
    simp only [Rising, List.pairwise_cons] at h ih
    simp only [assocPut]
    split
    · rename_i lt
      refine List.pairwise_cons.2 ⟨fun p hp => ?_, List.pairwise_cons.2 h⟩
      rcases List.mem_cons.1 hp with rfl | hp
      · exact lt
      · exact Nat.lt_trans lt (h.1 p hp)
    · split
      · rename_i e; subst e
        exact List.pairwise_cons.2 h
      · refine List.pairwise_cons.2 ⟨fun p hp => ?_, ih h.2⟩
        rcases mem_put _ _ _ _ hp with rfl | hp
        · simp only; omega
        · exact h.1 p hp

/-! ## Memory -/

/-- The canonical form of memory: addresses rise, and no zero byte is listed. -/
theorem wf_iff (m : List Host.Cell) : Memory.wf m = true ↔ (∀ c ∈ m, c.2 ≠ 0) ∧ Rising m := by
  simp only [Memory.wf, Bool.and_eq_true, List.all_eq_true, bne_iff_ne, ne_eq]
  exact and_congr Iff.rfl (by rw [← zip_rising]; simp [List.all_eq_true])

theorem putByte_wf (m : List Host.Cell) (a : Nat) (b : BitVec 8) (h : Memory.wf m = true) : Memory.wf (putByte m a b) = true := by
  rw [wf_iff] at h ⊢
  unfold putByte
  split
  · exact ⟨fun c hc => h.1 c (List.mem_filter.1 hc).1, rising_del _ _ h.2⟩
  · rename_i nz
    refine ⟨fun c hc => ?_, rising_put _ _ _ h.2⟩
    rcases mem_put _ _ _ _ hc with rfl | hc
    · exact nz
    · exact h.1 c hc

theorem filter_wf (m : List Host.Cell) (p : Host.Cell → Bool) (h : Memory.wf m = true) : Memory.wf (m.filter p) = true := by
  rw [wf_iff] at h ⊢
  exact ⟨fun c hc => h.1 c (List.mem_filter.1 hc).1, h.2.filter _⟩

theorem writeLE_wf (m : List Host.Cell) (a n v : Nat) (h : Memory.wf m = true) : Memory.wf (writeLE m a n v) = true := by
  induction n generalizing m a v with
  | zero => exact h
  | succ n ih => exact ih _ _ _ (putByte_wf _ _ _ h)

theorem writeBytes_wf (m : List Host.Cell) (a : Nat) (bs : List Nat) (h : Memory.wf m = true) : Memory.wf (writeBytes m a bs) = true := by
  induction bs generalizing m a with
  | nil => exact h
  | cons b t ih => exact ih _ _ (putByte_wf _ _ _ h)

theorem mergeBytes_wf (m : List Host.Cell) (e : MergeEntry) (i : Nat) (h : Memory.wf m = true) : Memory.wf (mergeBytes m e i) = true := by
  induction i with
  | zero => exact h
  | succ i ih =>
    simp only [mergeBytes]
    split
    · exact putByte_wf _ _ _ ih
    · exact ih

/-- A byte reads as it was written. -/
theorem byteAt_put_same (m : List Host.Cell) (a : Nat) (b : BitVec 8) : byteAt (putByte m a b) a = b := by
  unfold byteAt putByte
  split
  · rename_i e; subst e; rw [assocFind_del_same]; rfl
  · rw [assocFind_put_same]; rfl

/-- A write of one byte leaves every other byte. -/
theorem byteAt_put_ne (m : List Host.Cell) (a c : Nat) (b : BitVec 8) (h : c ≠ a) : byteAt (putByte m a b) c = byteAt m c := by
  unfold byteAt putByte
  split
  · rw [assocFind_del_ne _ _ _ h]
  · rw [assocFind_put_ne _ _ _ _ h]

/-- A write of bytes leaves every byte outside them. -/
theorem byteAt_writeLE_ne (m : List Host.Cell) (a n v c : Nat) (h : c < a ∨ a + n ≤ c) : byteAt (writeLE m a n v) c = byteAt m c := by
  induction n generalizing m a v with
  | zero => rfl
  | succ n ih =>
    rw [writeLE, ih _ _ _ (by omega), byteAt_put_ne _ _ _ _ (by omega)]

theorem byteAt_writeBytes_ne (m : List Host.Cell) (a : Nat) (bs : List Nat) (c : Nat) (h : c < a ∨ a + bs.length ≤ c) :
    byteAt (writeBytes m a bs) c = byteAt m c := by
  induction bs generalizing m a with
  | nil => rfl
  | cons b t ih =>
    simp only [List.length_cons] at h
    rw [writeBytes, ih _ _ (by omega), byteAt_put_ne _ _ _ _ (by omega)]

/-- A write of a word is read back. -/
theorem readLE_writeLE (m : List Host.Cell) (a n v : Nat) : readLE (writeLE m a n v) a n = v % 256 ^ n := by
  induction n generalizing m a v with
  | zero => simp [readLE, Nat.mod_one]
  | succ n ih =>
    rw [readLE, writeLE, ih, byteAt_writeLE_ne _ _ _ _ _ (by omega), byteAt_put_same, Nat.pow_succ']
    simp only [BitVec.toNat_ofNat]
    rw [show (2 : Nat) ^ 8 = 256 from rfl, Nat.mod_mul]

end Sys2Proof.Machine
end

