-- ==== Sys2Proof/Laws/Keeps.lean ====
section
/-!
SUPPORT. What every operation keeps (`Keeps`): the base operations. `Keeps r s` says that `s` may be reached from `r`; each
lemma takes it over one operation.
-/

namespace Sys2Proof.Machine

open Sys2Proof

variable {r s : State}

theorem keeps_refl (s : State) : Keeps s s := ⟨rfl, rfl, Nat.le_refl _, id⟩

/-- An operation that leaves the device variant, the queue, the powered time, the registers, memory and the Sonde FIFO. -/
theorem keeps_upd {t : State} (h : Keeps r s) (h1 : t.variant = s.variant) (h2 : t.pending = s.pending) (h3 : t.now = s.now)
    (h4 : t.regs = s.regs) (h5 : t.mem.cells = s.mem.cells) (h6 : t.mem.merge = s.mem.merge) (h7 : t.snd.fifo = s.snd.fifo)
    (h8 : t.fresh = s.fresh) (h9 : t.flash = s.flash) : Keeps r t :=
  ⟨h1.trans h.variant, h2.trans h.pending, h8 ▸ h.fresh, fun i =>
    let j := h.inv i
    ⟨h5 ▸ j.memory, h6 ▸ j.merge, h7 ▸ j.fifo, h3 ▸ j.time, h4 ▸ j.regs, h9 ▸ j.flash⟩⟩

/-- The same where a free value has been drawn. -/
theorem keeps_drew_upd {t : State} (h : Keeps r s) (h1 : t.variant = s.variant) (h2 : t.pending = s.pending) (h3 : t.now = s.now)
    (h4 : t.regs = s.regs) (h5 : t.mem.cells = s.mem.cells) (h6 : t.mem.merge = s.mem.merge) (h7 : t.snd.fifo = s.snd.fifo)
    (h8 : t.fresh = s.fresh + 1) (h9 : t.flash = s.flash) : Keeps r t :=
  ⟨h1.trans h.variant, h2.trans h.pending, h8 ▸ Nat.le_succ_of_le h.fresh, fun i =>
    let j := h.inv i
    ⟨h5 ▸ j.memory, h6 ▸ j.merge, h7 ▸ j.fifo, h3 ▸ j.time, h4 ▸ j.regs, h9 ▸ j.flash⟩⟩

/-- The same where memory changes, in its canonical form, and the merge buffer holds at most 8 entries. -/
theorem keeps_mem {t : State} (h : Keeps r s) (h1 : t.variant = s.variant) (h2 : t.pending = s.pending) (h3 : t.now = s.now)
    (h4 : t.regs = s.regs) (h5 : Memory.wf s.mem.cells = true → Memory.wf t.mem.cells = true)
    (h6 : s.mem.merge.length ≤ 8 → t.mem.merge.length ≤ 8) (h7 : t.snd.fifo = s.snd.fifo) (h8 : t.fresh = s.fresh) (h9 : t.flash = s.flash) : Keeps r t :=
  ⟨h1.trans h.variant, h2.trans h.pending, h8 ▸ h.fresh, fun i =>
    let j := h.inv i
    ⟨h5 j.memory, h6 j.merge, h7 ▸ j.fifo, h3 ▸ j.time, h4 ▸ j.regs, h9 ▸ j.flash⟩⟩

/-- The same where the Sonde FIFO changes and holds at most 64 words. -/
theorem keeps_fifo {t : State} (h : Keeps r s) (h1 : t.variant = s.variant) (h2 : t.pending = s.pending) (h3 : t.now = s.now)
    (h4 : t.regs = s.regs) (h5 : t.mem = s.mem) (h7 : s.snd.fifo.length ≤ 64 → t.snd.fifo.length ≤ 64) (h8 : t.fresh = s.fresh) (h9 : t.flash = s.flash) : Keeps r t :=
  ⟨h1.trans h.variant, h2.trans h.pending, h8 ▸ h.fresh, fun i =>
    let j := h.inv i
    ⟨h5 ▸ j.memory, h5 ▸ j.merge, h7 j.fifo, h3 ▸ j.time, h4 ▸ j.regs, h9 ▸ j.flash⟩⟩

/-- The same where the powered time changes within 48 bits. -/
theorem keeps_now {t : State} (h : Keeps r s) (h1 : t.variant = s.variant) (h2 : t.pending = s.pending) (h3 : t.now < 2 ^ 48)
    (h4 : t.regs = s.regs) (h5 : t.mem = s.mem) (h7 : t.snd = s.snd) (h8 : t.fresh = s.fresh) (h9 : t.flash = s.flash) : Keeps r t :=
  ⟨h1.trans h.variant, h2.trans h.pending, h8 ▸ h.fresh, fun i =>
    let j := h.inv i
    ⟨h5 ▸ j.memory, h5 ▸ j.merge, h7 ▸ j.fifo, h3, h4 ▸ j.regs, h9 ▸ j.flash⟩⟩

/-- The same where the registers change, their keys rising. -/
theorem keeps_regs {t : State} (h : Keeps r s) (h1 : t.variant = s.variant) (h2 : t.pending = s.pending) (h3 : t.now = s.now)
    (h4 : Rising s.regs → Rising t.regs) (h5 : t.mem = s.mem) (h7 : t.snd = s.snd) (h8 : t.fresh = s.fresh) (h9 : t.flash = s.flash) : Keeps r t :=
  ⟨h1.trans h.variant, h2.trans h.pending, h8 ▸ h.fresh, fun i =>
    let j := h.inv i
    ⟨h5 ▸ j.memory, h5 ▸ j.merge, h7 ▸ j.fifo, h3 ▸ j.time, (zip_rising _).2 (h4 ((zip_rising _).1 j.regs)), h9 ▸ j.flash⟩⟩

/-- A record update of fields that `Keeps` does not name. -/
theorem keeps_mk (h : Keeps r s) (brd' : BrdSt) (str' : StrSt) (tth' : TthSt) (mgt' : MgtSt) (mbx' : MbxSt) (sec' : SecSt) (pwr' : PwrSt) (boot' : BootSt) (saf' : SafSt) (thm' : ThmSt) (reel' : Vector ReelCh 8) (reelLast' : Vector ReelId 4) (hostOut' : List (Nat × List (Nat × Bool))) (cap' : Vector CapSt 8) (line' : Vector LineSt 8) (host' : Vector HostSt 16) (port' : Vector PortSt 8) (bda' : Vector BdaCh 24) (kite' : Vector KiteSt 8) (spr' : SprSt) (txpll' : Vector PllRef 8) (htpll' : Vector PllRef 16) (tokens' : List (Nat × Nat)) :
    Keeps r (State.mk s.variant s.now s.regs s.fresh s.mem brd' str' tth' mgt' mbx' sec' pwr' boot' s.flash saf' thm' reel' reelLast' hostOut' cap' line' host' port' bda' kite' s.snd spr' txpll' htpll' tokens' s.pending) := keeps_upd h rfl rfl rfl rfl rfl rfl rfl rfl rfl

/-- The same with an update of the memory's errors. -/
theorem keeps_mk_mem (h : Keeps r s) (brd' : BrdSt) (str' : StrSt) (tth' : TthSt) (mgt' : MgtSt) (mbx' : MbxSt) (sec' : SecSt) (pwr' : PwrSt) (boot' : BootSt) (saf' : SafSt) (thm' : ThmSt) (reel' : Vector ReelCh 8) (reelLast' : Vector ReelId 4) (hostOut' : List (Nat × List (Nat × Bool))) (cap' : Vector CapSt 8) (line' : Vector LineSt 8) (host' : Vector HostSt 16) (port' : Vector PortSt 8) (bda' : Vector BdaCh 24) (kite' : Vector KiteSt 8) (spr' : SprSt) (txpll' : Vector PllRef 8) (htpll' : Vector PllRef 16) (tokens' : List (Nat × Nat)) (p : List Nat) (up : List (Nat × SprEcc)) (hi : List (Nat × Nat × Nat)) (bu : List Nat) (re : List (Nat × Nat)) (pt : List (Nat × Nat)) :
    Keeps r (State.mk s.variant s.now s.regs s.fresh ⟨s.mem.cells, p, up, s.mem.merge, hi, bu, re, pt⟩ brd' str' tth' mgt' mbx' sec' pwr' boot' s.flash saf' thm' reel' reelLast' hostOut' cap' line' host' port' bda' kite' s.snd spr' txpll' htpll' tokens' s.pending) := keeps_upd h rfl rfl rfl rfl rfl rfl rfl rfl rfl

/-- The same with an update of the Sonde outside its FIFO. -/
theorem keeps_mk_snd (h : Keeps r s) (brd' : BrdSt) (str' : StrSt) (tth' : TthSt) (mgt' : MgtSt) (mbx' : MbxSt) (sec' : SecSt) (pwr' : PwrSt) (boot' : BootSt) (saf' : SafSt) (thm' : ThmSt) (reel' : Vector ReelCh 8) (reelLast' : Vector ReelId 4) (hostOut' : List (Nat × List (Nat × Bool))) (cap' : Vector CapSt 8) (line' : Vector LineSt 8) (host' : Vector HostSt 16) (port' : Vector PortSt 8) (bda' : Vector BdaCh 24) (kite' : Vector KiteSt 8) (spr' : SprSt) (txpll' : Vector PllRef 8) (htpll' : Vector PllRef 16) (tokens' : List (Nat × Nat)) (xarmed : Bool) (xconv : Option SndConv) (xlastOvr : Bool) (xstop : Bool) (xpos : Nat) (xslots : List SndSlot) (xest : List Int) (xsysOn : Bool) (xout : List (SndSlot × Int)) :
    Keeps r (State.mk s.variant s.now s.regs s.fresh s.mem brd' str' tth' mgt' mbx' sec' pwr' boot' s.flash saf' thm' reel' reelLast' hostOut' cap' line' host' port' bda' kite' ⟨xarmed, xconv, xlastOvr, xstop, xpos, xslots, xest, s.snd.fifo, xsysOn, xout⟩ spr' txpll' htpll' tokens' s.pending) := keeps_upd h rfl rfl rfl rfl rfl rfl rfl rfl rfl

/-- The same where a free value has been drawn. -/
theorem keeps_mk_drew (h : Keeps r s) (brd' : BrdSt) (str' : StrSt) (tth' : TthSt) (mgt' : MgtSt) (mbx' : MbxSt) (sec' : SecSt) (pwr' : PwrSt) (boot' : BootSt) (saf' : SafSt) (thm' : ThmSt) (reel' : Vector ReelCh 8) (reelLast' : Vector ReelId 4) (hostOut' : List (Nat × List (Nat × Bool))) (cap' : Vector CapSt 8) (line' : Vector LineSt 8) (host' : Vector HostSt 16) (port' : Vector PortSt 8) (bda' : Vector BdaCh 24) (kite' : Vector KiteSt 8) (spr' : SprSt) (txpll' : Vector PllRef 8) (htpll' : Vector PllRef 16) (tokens' : List (Nat × Nat)) :
    Keeps r (State.mk s.variant s.now s.regs (s.fresh + 1) s.mem brd' str' tth' mgt' mbx' sec' pwr' boot' s.flash saf' thm' reel' reelLast' hostOut' cap' line' host' port' bda' kite' s.snd spr' txpll' htpll' tokens' s.pending) := keeps_drew_upd h rfl rfl rfl rfl rfl rfl rfl rfl rfl

/-- An update of flash that keeps its canonical form. -/
theorem keeps_setFlash (h : Keeps r s) (m : List Host.Cell) (hc : Memory.wf s.flash = true → Memory.wf m = true) :
    Keeps r { s with flash := m } :=
  ⟨h.variant, h.pending, h.fresh, fun i =>
    let j := h.inv i
    ⟨j.memory, j.merge, j.fifo, j.time, j.regs, hc j.flash⟩⟩

/-- An update of memory that keeps its canonical form and at most 8 entries in the merge buffer. -/
theorem keeps_setMem (h : Keeps r s) (m : MemSt) (hc : Memory.wf s.mem.cells = true → Memory.wf m.cells = true)
    (hm : s.mem.merge.length ≤ 8 → m.merge.length ≤ 8) : Keeps r { s with mem := m } := keeps_mem h rfl rfl rfl rfl hc hm rfl rfl rfl

theorem keeps_ite {a b : State} {c : Prop} [Decidable c] (ha : Keeps r a) (hb : Keeps r b) : Keeps r (if c then a else b) := by
  split <;> assumption

theorem keeps_dite {c : Prop} [Decidable c] {a : c → State} {b : ¬c → State} (ha : ∀ x, Keeps r (a x)) (hb : ∀ x, Keeps r (b x)) :
    Keeps r (if x : c then a x else b x) := by
  split
  · exact ha _
  · exact hb _

theorem keeps_set (h : Keeps r s) (f : Field) (v : Nat) : Keeps r (s.set f v) := by
  refine keeps_regs h rfl rfl rfl (fun k => ?_) rfl rfl rfl rfl
  unfold State.set
  simp only
  split
  · exact rising_del _ _ k
  · exact rising_put _ _ _ k

theorem keeps_when (h : Keeps r s) (c : Bool) (g : State → State) (hg : ∀ t, Keeps r t → Keeps r (g t)) : Keeps r (s.when c g) := by
  unfold State.when
  split
  · exact hg _ h
  · exact h

theorem keeps_each {α : Type} (h : Keeps r s) (l : List α) (g : α → State → State) (hg : ∀ a t, Keeps r t → Keeps r (g a t)) :
    Keeps r (s.each l g) := by
  unfold State.each
  induction l generalizing s with
  | nil => exact h
  | cons a t ih => exact ih (hg _ _ h)

theorem keeps_whenAwake (h : Keeps r s) (f : State → State) (hf : ∀ t, Keeps r t → Keeps r (f t)) : Keeps r (s.whenAwake f) := by
  unfold State.whenAwake
  split
  · exact hf _ h
  · exact h

theorem keeps_drew (h : Keeps r s) : Keeps r s.drew := keeps_drew_upd h rfl rfl rfl rfl rfl rfl rfl rfl rfl

end Sys2Proof.Machine
end

