-- ==== Sys2Proof/Laws/KeepsOps.lean ====
section
/-!
SUPPORT. What every operation keeps (`Keeps`), one lemma per operation: its step from a state that may be reached from `r` leads
to such a state.
-/

namespace Sys2Proof.Machine

open Sys2Proof

variable {r s : State}

theorem keeps_inc (h : Keeps r s) (f : Field) : Keeps r (s.inc f) := by
  unfold State.inc
  repeat' first
    | with_reducible assumption
    | (with_reducible apply keeps_set)
    | (with_reducible apply keeps_ite)

theorem keeps_incBy (h : Keeps r s) (f : Field) (k : Nat) : Keeps r (s.incBy f k) := by
  unfold State.incBy
  repeat' first
    | with_reducible assumption
    | (with_reducible apply keeps_set)

theorem keeps_incWrap (h : Keeps r s) (f : Field) : Keeps r (s.incWrap f) := by
  unfold State.incWrap
  repeat' first
    | with_reducible assumption
    | (with_reducible apply keeps_set)

theorem keeps_on (h : Keeps r s) (f : Field) : Keeps r (s.on f) := by
  unfold State.on
  repeat' first
    | with_reducible assumption
    | (with_reducible apply keeps_set)

theorem keeps_off (h : Keeps r s) (f : Field) : Keeps r (s.off f) := by
  unfold State.off
  repeat' first
    | with_reducible assumption
    | (with_reducible apply keeps_set)

theorem keeps_setB (h : Keeps r s) (f : Field) (b : Bool) : Keeps r (s.setB f b) := by
  unfold State.setB
  repeat' first
    | with_reducible assumption
    | (with_reducible apply keeps_set)

theorem keeps_setBit (h : Keeps r s) (f : Field) (k : Nat) (b : Bool) : Keeps r (s.setBit f k b) := by
  unfold State.setBit
  repeat' first
    | with_reducible assumption
    | (with_reducible apply keeps_set)

theorem keeps_seti (h : Keeps r s) (f : Field) (x : Int) : Keeps r (s.seti f x) := by
  unfold State.seti
  repeat' first
    | with_reducible assumption
    | (with_reducible apply keeps_set)

theorem keeps_setIf (h : Keeps r s) (c : Bool) (f : Field) (v : Nat) : Keeps r (s.setIf c f v) := by
  unfold State.setIf
  repeat' first
    | with_reducible assumption
    | (with_reducible apply keeps_set)
    | (with_reducible apply keeps_ite)

theorem keeps_stamp (h : Keeps r s) (lo hi : Field) : Keeps r (s.stamp lo hi) := by
  unfold State.stamp
  repeat' first
    | with_reducible assumption
    | (with_reducible apply keeps_set)

theorem keeps_setPmc (h : Keeps r s) (i v : Nat) : Keeps r (s.setPmc i v) := by
  unfold State.setPmc
  repeat' first
    | with_reducible assumption
    | (with_reducible apply keeps_set)

theorem keeps_pmcSample (h : Keeps r s) (i g pos : Nat) (smp : Option SprSample) : Keeps r (s.pmcSample i g pos smp) := by
  unfold State.pmcSample
  repeat' first
    | with_reducible assumption
    | (with_reducible apply keeps_inc)
    | (with_reducible apply keeps_set)
    | (with_reducible apply keeps_ite)

theorem keeps_pmcWrapOne (h : Keeps r s) (i g pos : Nat) (smp : Option SprSample) : Keeps r (s.pmcWrapOne i g pos smp) := by
  unfold State.pmcWrapOne
  repeat' first
    | with_reducible assumption
    | (with_reducible apply keeps_setBit)
    | (with_reducible apply keeps_pmcSample)
    | (with_reducible apply keeps_ite)

theorem keeps_pmcAdd (h : Keeps r s) (i k pos : Nat) (smp : Option SprSample) : Keeps r (s.pmcAdd i k pos smp) := by
  unfold State.pmcAdd
  repeat' first
    | with_reducible assumption
    | (with_reducible apply keeps_setPmc)
    | (with_reducible apply keeps_pmcWrapOne)
    | (with_reducible apply keeps_ite)

theorem keeps_countEvent (h : Keeps r s) (ev inst k : Nat) (smp : Option SprSample) : Keeps r (s.countEvent ev inst k smp) := by
  unfold State.countEvent
  repeat' first
    | intro _
    | with_reducible assumption
    | (with_reducible apply keeps_each)
    | (with_reducible apply keeps_set)
    | (with_reducible apply keeps_pmcAdd)
    | (with_reducible apply keeps_drew)
    | (with_reducible apply keeps_ite)
    | (with_reducible apply keeps_mk)
    | (with_reducible apply keeps_mk_mem)
    | (with_reducible apply keeps_mk_snd)
    | (with_reducible apply keeps_mk_drew)

theorem keeps_pmuThaw (h : Keeps r s) : Keeps r (s.pmuThaw) := by
  unfold State.pmuThaw
  repeat' first
    | intro _
    | with_reducible assumption
    | (with_reducible apply keeps_each)
    | (with_reducible apply keeps_pmcAdd)
    | (with_reducible apply keeps_drew)
    | (with_reducible apply keeps_set)
    | (with_reducible apply keeps_mk)
    | (with_reducible apply keeps_mk_mem)
    | (with_reducible apply keeps_mk_snd)
    | (with_reducible apply keeps_mk_drew)

theorem keeps_memCount (h : Keeps r s) (a ev k : Nat) : Keeps r (s.memCount a ev k) := by
  unfold State.memCount
  repeat' first
    | with_reducible assumption
    | (with_reducible apply keeps_countEvent)
    | (with_reducible apply keeps_ite)

theorem keeps_memPut64 (h : Keeps r s) (a v : Nat) : Keeps r (s.memPut64 a v) := by
  unfold State.memPut64
  exact keeps_memCount (keeps_setMem h _ (fun k => writeLE_wf _ _ _ _ k) (fun k => Nat.le_trans (List.length_filter_le _ _) k)) _ _ _

theorem keeps_flushEntry (h : Keeps r s) (e : MergeEntry) : Keeps r (s.flushEntry e) := by
  unfold State.flushEntry
  have w : Memory.wf s.mem.cells = true → Memory.wf (mergeBytes s.mem.cells e 8) = true := fun k => mergeBytes_wf _ _ _ k
  have l : s.mem.merge.length ≤ 8 → (s.mem.merge.filter (fun x => x.addr != e.addr)).length ≤ 8 :=
    fun k => Nat.le_trans (List.length_filter_le _ _) k
  dsimp only
  split
  · exact keeps_countEvent (keeps_memCount (keeps_setMem h _ w l) _ _ _) _ _ _ _
  · exact keeps_memCount (keeps_countEvent (keeps_memCount (keeps_setMem h _ w l) _ _ _) _ _ _ _) _ _ _

theorem keeps_settle (h : Keeps r s) (a n : Nat) : Keeps r (s.settle a n) := by
  unfold State.settle
  refine keeps_each ?_ _ _ (fun _ _ k => keeps_flushEntry k _)
  exact keeps_setMem h _ (fun k => k) (fun k => Nat.le_trans (List.length_filter_le _ _) k)

theorem keeps_memPutBytes (h : Keeps r s) (a : Nat) (bs : List Nat) : Keeps r (s.memPutBytes a bs) := by
  unfold State.memPutBytes
  have k := keeps_settle h a bs.length
  dsimp only
  generalize s.settle a bs.length = t at k ⊢
  refine keeps_memCount ?_ _ _ _
  exact keeps_setMem k _ (fun k => writeBytes_wf _ _ _ k) (fun k => k)

theorem keeps_ringPut (h : Keeps r s) (g : Nat) (ws : List Nat) : Keeps r (s.ringPut g ws) := by
  unfold State.ringPut
  repeat' first
    | intro _
    | with_reducible assumption
    | (with_reducible apply keeps_memPutBytes)
    | (with_reducible apply keeps_set)

theorem keeps_logPut (h : Keeps r s) (src inst ev d0 d1 d2 d3 : Nat) : Keeps r (s.logPut src inst ev d0 d1 d2 d3) := by
  unfold State.logPut
  repeat' first
    | with_reducible assumption
    | (with_reducible apply keeps_ringPut)
    | (with_reducible apply keeps_mk)
    | (with_reducible apply keeps_mk_mem)
    | (with_reducible apply keeps_mk_snd)
    | (with_reducible apply keeps_mk_drew)

theorem keeps_logRecord (h : Keeps r s) (src inst ev d0 d1 d2 d3 : Nat) : Keeps r (s.logRecord src inst ev d0 d1 d2 d3) := by
  unfold State.logRecord
  repeat' first
    | with_reducible assumption
    | (with_reducible apply keeps_inc)
    | (with_reducible apply keeps_logPut)
    | (with_reducible apply keeps_set)
    | (with_reducible apply keeps_on)
    | (with_reducible apply keeps_ite)

theorem keeps_traceLose (h : Keeps r s) : Keeps r (s.traceLose) := by
  unfold State.traceLose
  repeat' first
    | with_reducible assumption
    | (with_reducible apply keeps_inc)
    | (with_reducible apply keeps_mk)
    | (with_reducible apply keeps_mk_mem)
    | (with_reducible apply keeps_mk_snd)
    | (with_reducible apply keeps_mk_drew)

theorem keeps_traceRecord (h : Keeps r s) (src inst ev d : Nat) : Keeps r (s.traceRecord src inst ev d) := by
  unfold State.traceRecord
  repeat' first
    | with_reducible assumption
    | (with_reducible apply keeps_traceLose)
    | (with_reducible apply keeps_ringPut)
    | (with_reducible apply keeps_inc)
    | (with_reducible apply keeps_ite)
    | (with_reducible apply keeps_mk)
    | (with_reducible apply keeps_mk_mem)
    | (with_reducible apply keeps_mk_snd)
    | (with_reducible apply keeps_mk_drew)

theorem keeps_almForward (h : Keeps r s) (m : AlmMsg) : Keeps r (s.almForward m) := by
  unfold State.almForward
  repeat' first
    | with_reducible assumption
    | (with_reducible apply keeps_ite)
    | (with_reducible apply keeps_mk)
    | (with_reducible apply keeps_mk_mem)
    | (with_reducible apply keeps_mk_snd)
    | (with_reducible apply keeps_mk_drew)

theorem keeps_almEnter (h : Keeps r s) (stack id inst code : Nat) (active : Bool) : Keeps r (s.almEnter stack id inst code active) := by
  unfold State.almEnter
  repeat' first
    | with_reducible assumption
    | (with_reducible apply keeps_inc)
    | (with_reducible apply keeps_set)
    | (with_reducible apply keeps_stamp)
    | (with_reducible apply keeps_on)
    | (with_reducible apply keeps_setB)
    | (with_reducible apply keeps_ite)

theorem keeps_alarmFrom (h : Keeps r s) (stack id inst code : Nat) (active : Bool) : Keeps r (s.alarmFrom stack id inst code active) := by
  unfold State.alarmFrom
  repeat' first
    | with_reducible assumption
    | (with_reducible apply keeps_almEnter)
    | (with_reducible apply keeps_logRecord)
    | (with_reducible apply keeps_almForward)

theorem keeps_alarm (h : Keeps r s) (id inst code : Nat) : Keeps r (s.alarm id inst code) := by
  unfold State.alarm
  repeat' first
    | with_reducible assumption
    | (with_reducible apply keeps_alarmFrom)

theorem keeps_almFree (h : Keeps r s) (e : Nat) : Keeps r (s.almFree e) := by
  unfold State.almFree
  repeat' first
    | with_reducible assumption
    | (with_reducible apply keeps_set)
    | (with_reducible apply keeps_ite)

theorem keeps_alarmEndFrom (h : Keeps r s) (stack id inst : Nat) : Keeps r (s.alarmEndFrom stack id inst) := by
  unfold State.alarmEndFrom
  repeat' first
    | intro _
    | with_reducible assumption
    | (with_reducible apply keeps_each)
    | (with_reducible apply keeps_off)
    | (with_reducible apply keeps_almForward)
    | (with_reducible apply keeps_almFree)

theorem keeps_alarmEnd (h : Keeps r s) (id inst : Nat) : Keeps r (s.alarmEnd id inst) := by
  unfold State.alarmEnd
  repeat' first
    | with_reducible assumption
    | (with_reducible apply keeps_alarmEndFrom)

theorem keeps_almAck (h : Keeps r s) (e : Nat) : Keeps r (s.almAck e) := by
  unfold State.almAck
  repeat' first
    | with_reducible assumption
    | (with_reducible apply keeps_off)
    | (with_reducible apply keeps_almForward)
    | (with_reducible apply keeps_almFree)

theorem keeps_accessFault (h : Keeps r s) (init addr kind : Nat) (write : Bool) (size : Nat) : Keeps r (s.accessFault init addr kind write size) := by
  unfold State.accessFault
  repeat' first
    | with_reducible assumption
    | (with_reducible apply keeps_inc)
    | (with_reducible apply keeps_on)
    | (with_reducible apply keeps_set)
    | (with_reducible apply keeps_setB)
    | (with_reducible apply keeps_countEvent)
    | (with_reducible apply keeps_ite)

theorem keeps_parityNote (h : Keeps r s) (key a : Nat) : Keeps r (s.parityNote key a) := by
  unfold State.parityNote
  repeat' first
    | with_reducible assumption
    | (with_reducible apply keeps_inc)
    | (with_reducible apply keeps_on)
    | (with_reducible apply keeps_set)
    | (with_reducible apply keeps_ite)
    | (with_reducible apply keeps_mk)
    | (with_reducible apply keeps_mk_mem)
    | (with_reducible apply keeps_mk_snd)
    | (with_reducible apply keeps_mk_drew)

theorem keeps_pairParity (h : Keeps r s) (key a : Nat) : Keeps r (s.pairParity key a) := by
  unfold State.pairParity
  repeat' first
    | with_reducible assumption
    | (with_reducible apply keeps_parityNote)
    | (with_reducible apply keeps_alarm)

theorem keeps_parityRight (h : Keeps r s) (a : Nat) : Keeps r (s.parityRight a) := by
  unfold State.parityRight
  repeat' first
    | intro _
    | with_reducible assumption
    | (with_reducible apply keeps_mk)
    | (with_reducible apply keeps_mk_mem)
    | (with_reducible apply keeps_mk_snd)
    | (with_reducible apply keeps_mk_drew)

theorem keeps_respond {r₀ s : State} (h : Keeps r₀ s) (r : Resp) : Keeps r₀ (s.respond r) := by
  unfold State.respond
  repeat' first
    | with_reducible assumption
    | (with_reducible apply keeps_mk)
    | (with_reducible apply keeps_mk_mem)
    | (with_reducible apply keeps_mk_snd)
    | (with_reducible apply keeps_mk_drew)

theorem keeps_accessError (h : Keeps r s) (init addr kind : Nat) (write : Bool) (size : Nat) : Keeps r (s.accessError init addr kind write size) := by
  unfold State.accessError
  repeat' first
    | with_reducible assumption
    | (with_reducible apply keeps_accessFault)
    | (with_reducible apply keeps_respond)

theorem keeps_guardFail (h : Keeps r s) (init addr reason : Nat) : Keeps r (s.guardFail init addr reason) := by
  unfold State.guardFail
  repeat' first
    | with_reducible assumption
    | (with_reducible apply keeps_inc)
    | (with_reducible apply keeps_on)
    | (with_reducible apply keeps_set)

theorem keeps_setLn (h : Keeps r s) (n : Lane) (l : LineSt) : Keeps r (s.setLn n l) := by
  unfold State.setLn
  repeat' first
    | with_reducible assumption
    | (with_reducible apply keeps_mk)
    | (with_reducible apply keeps_mk_mem)
    | (with_reducible apply keeps_mk_snd)
    | (with_reducible apply keeps_mk_drew)

theorem keeps_setRx (h : Keeps r s) (n : Lane) (f : RxSt → RxSt) : Keeps r (s.setRx n f) := by
  unfold State.setRx
  repeat' first
    | with_reducible assumption
    | (with_reducible apply keeps_setLn)
    | (with_reducible apply keeps_mk)
    | (with_reducible apply keeps_mk_mem)
    | (with_reducible apply keeps_mk_snd)
    | (with_reducible apply keeps_mk_drew)

theorem keeps_setEq (h : Keeps r s) (n : Lane) (f : EqSt → EqSt) : Keeps r (s.setEq n f) := by
  unfold State.setEq
  repeat' first
    | with_reducible assumption
    | (with_reducible apply keeps_setLn)
    | (with_reducible apply keeps_mk)
    | (with_reducible apply keeps_mk_mem)
    | (with_reducible apply keeps_mk_snd)
    | (with_reducible apply keeps_mk_drew)

theorem keeps_setLoc (h : Keeps r s) (n : Lane) (f : LocSt → LocSt) : Keeps r (s.setLoc n f) := by
  unfold State.setLoc
  repeat' first
    | with_reducible assumption
    | (with_reducible apply keeps_setLn)
    | (with_reducible apply keeps_mk)
    | (with_reducible apply keeps_mk_mem)
    | (with_reducible apply keeps_mk_snd)
    | (with_reducible apply keeps_mk_drew)

theorem keeps_setTx (h : Keeps r s) (n : Lane) (f : TxSt → TxSt) : Keeps r (s.setTx n f) := by
  unfold State.setTx
  repeat' first
    | with_reducible assumption
    | (with_reducible apply keeps_setLn)
    | (with_reducible apply keeps_mk)
    | (with_reducible apply keeps_mk_mem)
    | (with_reducible apply keeps_mk_snd)
    | (with_reducible apply keeps_mk_drew)

theorem keeps_setCal (h : Keeps r s) (n : Lane) (f : CalSt → CalSt) : Keeps r (s.setCal n f) := by
  unfold State.setCal
  repeat' first
    | with_reducible assumption
    | (with_reducible apply keeps_setLn)
    | (with_reducible apply keeps_mk)
    | (with_reducible apply keeps_mk_mem)
    | (with_reducible apply keeps_mk_snd)
    | (with_reducible apply keeps_mk_drew)

theorem keeps_setHl (h : Keeps r s) (j : Host) (f : HostSt → HostSt) : Keeps r (s.setHl j f) := by
  unfold State.setHl
  repeat' first
    | with_reducible assumption
    | (with_reducible apply keeps_mk)
    | (with_reducible apply keeps_mk_mem)
    | (with_reducible apply keeps_mk_snd)
    | (with_reducible apply keeps_mk_drew)

theorem keeps_setPt (h : Keeps r s) (k : PortId) (f : PortSt → PortSt) : Keeps r (s.setPt k f) := by
  unfold State.setPt
  repeat' first
    | with_reducible assumption
    | (with_reducible apply keeps_mk)
    | (with_reducible apply keeps_mk_mem)
    | (with_reducible apply keeps_mk_snd)
    | (with_reducible apply keeps_mk_drew)

theorem keeps_advance (h : Keeps r s) (i : Nat) (addr stride : Field) : Keeps r (s.advance i addr stride) := by
  unfold State.advance
  repeat' first
    | with_reducible assumption
    | (with_reducible apply keeps_set)

theorem keeps_setKp4 (h : Keeps r s) (j : Host) (d : Nat) (f : Kp4St → Kp4St) : Keeps r (s.setKp4 j d f) := by
  unfold State.setKp4
  repeat' first
    | intro _
    | with_reducible assumption
    | (with_reducible apply keeps_setHl)
    | (with_reducible apply keeps_mk)
    | (with_reducible apply keeps_mk_mem)
    | (with_reducible apply keeps_mk_snd)
    | (with_reducible apply keeps_mk_drew)

theorem keeps_sprEvent (h : Keeps r s) (k : Nat) : Keeps r (s.sprEvent k) := by
  unfold State.sprEvent
  repeat' first
    | with_reducible assumption
    | (with_reducible apply keeps_on)
    | (with_reducible apply keeps_setBit)
    | (with_reducible apply keeps_ite)

theorem keeps_setPll {r₀ s : State} (h : Keeps r₀ s) (p : Pll) (r : PllRef) : Keeps r₀ (s.setPll p r) := by
  unfold State.setPll
  repeat' first
    | with_reducible assumption
    | dsimp only
    | split
    | (with_reducible apply keeps_mk)
    | (with_reducible apply keeps_mk_mem)
    | (with_reducible apply keeps_mk_snd)
    | (with_reducible apply keeps_mk_drew)

theorem keeps_showPll (h : Keeps r s) (p : Pll) : Keeps r (s.showPll p) := by
  unfold State.showPll
  repeat' first
    | with_reducible assumption
    | (with_reducible apply keeps_setBit)
    | (with_reducible apply keeps_ite)
    | dsimp only
    | split

theorem keeps_holdoverEnd (h : Keeps r s) (n : Lane) : Keeps r (s.holdoverEnd n) := by
  unfold State.holdoverEnd
  repeat' first
    | intro _
    | with_reducible assumption
    | (with_reducible apply keeps_alarmEnd)
    | (with_reducible apply keeps_ite)

theorem keeps_pllLose (h : Keeps r s) (p : Pll) : Keeps r (s.pllLose p) := by
  unfold State.pllLose
  repeat' first
    | with_reducible assumption
    | (with_reducible apply keeps_setPll)
    | (with_reducible apply keeps_showPll)
    | (with_reducible apply keeps_alarm)
    | (with_reducible apply keeps_ite)
    | dsimp only
    | split

theorem keeps_pllMove {r₀ s : State} (h : Keeps r₀ s) (p : Pll) (r : PllRef) : Keeps r₀ (s.pllMove p r) := by
  unfold State.pllMove
  repeat' first
    | with_reducible assumption
    | (with_reducible apply keeps_setPll)
    | (with_reducible apply keeps_showPll)
    | (with_reducible apply keeps_holdoverEnd)
    | (with_reducible apply keeps_ite)
    | dsimp only
    | split

theorem keeps_pllStop (h : Keeps r s) (p : Pll) : Keeps r (s.pllStop p) := by
  unfold State.pllStop
  repeat' first
    | with_reducible assumption
    | (with_reducible apply keeps_pllMove)
    | (with_reducible apply keeps_setBit)
    | (with_reducible apply keeps_ite)
    | dsimp only
    | split

theorem keeps_laneOn (h : Keeps r s) (n : Lane) : Keeps r (s.laneOn n) := by
  unfold State.laneOn
  repeat' first
    | with_reducible assumption
    | (with_reducible apply keeps_setLn)
    | (with_reducible apply keeps_showPll)
    | (with_reducible apply keeps_mk)
    | (with_reducible apply keeps_mk_mem)
    | (with_reducible apply keeps_mk_snd)
    | (with_reducible apply keeps_mk_drew)

theorem keeps_pllHostClock (h : Keeps r s) (j : Host) : Keeps r (s.pllHostClock j) := by
  unfold State.pllHostClock
  repeat' first
    | with_reducible assumption
    | (with_reducible apply keeps_pllMove)
    | (with_reducible apply keeps_ite)
    | dsimp only
    | split

theorem keeps_pllHostLost (h : Keeps r s) (j : Host) : Keeps r (s.pllHostLost j) := by
  unfold State.pllHostLost
  repeat' first
    | with_reducible assumption
    | (with_reducible apply keeps_pllLose)
    | (with_reducible apply keeps_ite)
    | dsimp only
    | split

theorem keeps_gbxSlip (h : Keeps r s) (n : Lane) : Keeps r (s.gbxSlip n) := by
  unfold State.gbxSlip
  repeat' first
    | with_reducible assumption
    | (with_reducible apply keeps_on)
    | (with_reducible apply keeps_inc)

theorem keeps_gbxSkew (h : Keeps r s) (n : Lane) (ui : Nat) : Keeps r (s.gbxSkew n ui) := by
  unfold State.gbxSkew
  repeat' first
    | with_reducible assumption
    | (with_reducible apply keeps_set)
    | (with_reducible apply keeps_on)
    | (with_reducible apply keeps_alarm)
    | (with_reducible apply keeps_alarmEnd)
    | (with_reducible apply keeps_ite)

theorem keeps_gainStep (h : Keeps r s) (n : Lane) (g : Nat) : Keeps r (s.gainStep n g) := by
  unfold State.gainStep
  repeat' first
    | intro _
    | with_reducible assumption
    | (with_reducible apply keeps_set)
    | (with_reducible apply keeps_on)
    | (with_reducible apply keeps_setRx)
    | (with_reducible apply keeps_setCal)
    | (with_reducible apply keeps_ite)
    | (with_reducible apply keeps_mk)
    | (with_reducible apply keeps_mk_mem)
    | (with_reducible apply keeps_mk_snd)
    | (with_reducible apply keeps_mk_drew)

theorem keeps_gainTo (h : Keeps r s) (n : Lane) (g : Nat) : Keeps r (s.gainTo n g) := by
  unfold State.gainTo
  repeat' first
    | intro _
    | with_reducible assumption
    | (with_reducible apply keeps_setRx)
    | (with_reducible apply keeps_gainStep)
    | (with_reducible apply keeps_ite)
    | (with_reducible apply keeps_mk)
    | (with_reducible apply keeps_mk_mem)
    | (with_reducible apply keeps_mk_snd)
    | (with_reducible apply keeps_mk_drew)

theorem keeps_handMark (h : Keeps r s) (n : Lane) : Keeps r (s.handMark n) := by
  unfold State.handMark
  repeat' first
    | intro _
    | with_reducible assumption
    | (with_reducible apply keeps_setRx)
    | (with_reducible apply keeps_set)
    | (with_reducible apply keeps_off)
    | dsimp only
    | split
    | (with_reducible apply keeps_mk)
    | (with_reducible apply keeps_mk_mem)
    | (with_reducible apply keeps_mk_snd)
    | (with_reducible apply keeps_mk_drew)

theorem keeps_gainBeat (h : Keeps r s) (n : Lane) : Keeps r (s.gainBeat n) := by
  unfold State.gainBeat
  repeat' first
    | intro _
    | with_reducible assumption
    | (with_reducible apply keeps_setRx)
    | (with_reducible apply keeps_gainStep)
    | dsimp only
    | split
    | (with_reducible apply keeps_mk)
    | (with_reducible apply keeps_mk_mem)
    | (with_reducible apply keeps_mk_snd)
    | (with_reducible apply keeps_mk_drew)

theorem keeps_compBeat (h : Keeps r s) (n : Lane) : Keeps r (s.compBeat n) := by
  unfold State.compBeat
  repeat' first
    | intro _
    | with_reducible assumption
    | (with_reducible apply keeps_setRx)
    | (with_reducible apply keeps_mk)
    | (with_reducible apply keeps_mk_mem)
    | (with_reducible apply keeps_mk_snd)
    | (with_reducible apply keeps_mk_drew)

theorem keeps_compEnd (h : Keeps r s) (n : Lane) : Keeps r (s.compEnd n) := by
  unfold State.compEnd
  repeat' first
    | with_reducible assumption
    | (with_reducible apply keeps_off)
    | (with_reducible apply keeps_ite)

theorem keeps_losJudge (h : Keeps r s) (n : Lane) (sum cnt : Nat) : Keeps r (s.losJudge n sum cnt) := by
  unfold State.losJudge
  repeat' first
    | with_reducible assumption
    | (with_reducible apply keeps_on)
    | (with_reducible apply keeps_alarm)
    | (with_reducible apply keeps_off)
    | (with_reducible apply keeps_alarmEnd)
    | (with_reducible apply keeps_ite)

theorem keeps_rateExceeded (h : Keeps r s) (n : Lane) : Keeps r (s.rateExceeded n) := by
  unfold State.rateExceeded
  repeat' first
    | intro _
    | with_reducible assumption
    | (with_reducible apply keeps_on)
    | (with_reducible apply keeps_setRx)
    | (with_reducible apply keeps_ite)
    | (with_reducible apply keeps_mk)
    | (with_reducible apply keeps_mk_mem)
    | (with_reducible apply keeps_mk_snd)
    | (with_reducible apply keeps_mk_drew)

theorem keeps_backoffDrop (h : Keeps r s) (n : Lane) : Keeps r (s.backoffDrop n) := by
  unfold State.backoffDrop
  repeat' first
    | intro _
    | with_reducible assumption
    | (with_reducible apply keeps_setRx)
    | (with_reducible apply keeps_ite)
    | (with_reducible apply keeps_mk)
    | (with_reducible apply keeps_mk_mem)
    | (with_reducible apply keeps_mk_snd)
    | (with_reducible apply keeps_mk_drew)

theorem keeps_holdTrace (h : Keeps r s) (k : PortId) (ev d : Nat) : Keeps r (s.holdTrace k ev d) := by
  unfold State.holdTrace
  repeat' first
    | with_reducible assumption
    | (with_reducible apply keeps_traceRecord)

theorem keeps_onLanes (h : Keeps r s) (k : PortId) (f : Lane → State → State) (hf : ∀ a t, Keeps r t → Keeps r (f a t)) : Keeps r (s.onLanes k f) := by
  unfold State.onLanes
  repeat' first
    | intro _
    | with_reducible assumption
    | (with_reducible apply hf)
    | (with_reducible apply keeps_each)

theorem keeps_dacEnd (h : Keeps r s) (n : Lane) : Keeps r (s.dacEnd n) := by
  unfold State.dacEnd
  repeat' first
    | intro _
    | with_reducible assumption
    | (with_reducible apply keeps_off)
    | (with_reducible apply keeps_setTx)
    | (with_reducible apply keeps_mk)
    | (with_reducible apply keeps_mk_mem)
    | (with_reducible apply keeps_mk_snd)
    | (with_reducible apply keeps_mk_drew)

theorem keeps_dacCancel (h : Keeps r s) (n : Lane) : Keeps r (s.dacCancel n) := by
  unfold State.dacCancel
  repeat' first
    | intro _
    | with_reducible assumption
    | (with_reducible apply keeps_dacEnd)
    | (with_reducible apply keeps_on)
    | (with_reducible apply keeps_setCal)
    | dsimp only
    | split
    | (with_reducible apply keeps_mk)
    | (with_reducible apply keeps_mk_mem)
    | (with_reducible apply keeps_mk_snd)
    | (with_reducible apply keeps_mk_drew)

theorem keeps_accRestart (h : Keeps r s) (n : Lane) (i : Nat) : Keeps r (s.accRestart n i) := by
  unfold State.accRestart
  repeat' first
    | intro _
    | with_reducible assumption
    | (with_reducible apply keeps_setCal)
    | (with_reducible apply keeps_ite)
    | (with_reducible apply keeps_mk)
    | (with_reducible apply keeps_mk_mem)
    | (with_reducible apply keeps_mk_snd)
    | (with_reducible apply keeps_mk_drew)

theorem keeps_showLadder (h : Keeps r s) (n : Lane) : Keeps r (s.showLadder n) := by
  unfold State.showLadder
  repeat' first
    | intro _
    | with_reducible assumption
    | (with_reducible apply keeps_set)
    | (with_reducible apply keeps_ite)

theorem keeps_sliceTo (h : Keeps r s) (n : Lane) (i st pos : Nat) : Keeps r (s.sliceTo n i st pos) := by
  unfold State.sliceTo
  repeat' first
    | intro _
    | with_reducible assumption
    | (with_reducible apply keeps_set)
    | (with_reducible apply keeps_setB)
    | (with_reducible apply keeps_accRestart)
    | (with_reducible apply keeps_showLadder)
    | (with_reducible apply keeps_setCal)
    | (with_reducible apply keeps_ite)
    | (with_reducible apply keeps_mk)
    | (with_reducible apply keeps_mk_mem)
    | (with_reducible apply keeps_mk_snd)
    | (with_reducible apply keeps_mk_drew)

theorem keeps_slotDrop (h : Keeps r s) (n : Lane) : Keeps r (s.slotDrop n) := by
  unfold State.slotDrop
  repeat' first
    | intro _
    | with_reducible assumption
    | (with_reducible apply keeps_off)
    | (with_reducible apply keeps_setCal)
    | (with_reducible apply keeps_sliceTo)
    | (with_reducible apply keeps_handMark)
    | (with_reducible apply keeps_ite)
    | dsimp only
    | split
    | (with_reducible apply keeps_mk)
    | (with_reducible apply keeps_mk_mem)
    | (with_reducible apply keeps_mk_snd)
    | (with_reducible apply keeps_mk_drew)

theorem keeps_slotAbandon (h : Keeps r s) (n : Lane) : Keeps r (s.slotAbandon n) := by
  unfold State.slotAbandon
  repeat' first
    | intro _
    | with_reducible assumption
    | (with_reducible apply keeps_setRx)
    | (with_reducible apply keeps_slotDrop)
    | (with_reducible apply keeps_ite)
    | (with_reducible apply keeps_mk)
    | (with_reducible apply keeps_mk_mem)
    | (with_reducible apply keeps_mk_snd)
    | (with_reducible apply keeps_mk_drew)

theorem keeps_calLeave (h : Keeps r s) (n : Lane) : Keeps r (s.calLeave n) := by
  unfold State.calLeave
  repeat' first
    | intro _
    | with_reducible assumption
    | (with_reducible apply keeps_slotAbandon)
    | (with_reducible apply keeps_setCal)
    | (with_reducible apply keeps_off)
    | (with_reducible apply keeps_ite)
    | (with_reducible apply keeps_mk)
    | (with_reducible apply keeps_mk_mem)
    | (with_reducible apply keeps_mk_snd)
    | (with_reducible apply keeps_mk_drew)

theorem keeps_leaveTraffic (h : Keeps r s) (k : PortId) : Keeps r (s.leaveTraffic k) := by
  unfold State.leaveTraffic
  repeat' first
    | intro _
    | with_reducible assumption
    | (with_reducible apply keeps_onLanes)
    | (with_reducible apply keeps_dacCancel)
    | (with_reducible apply keeps_calLeave)
    | (with_reducible apply keeps_off)

theorem keeps_hsClear (h : Keeps r s) (k : PortId) : Keeps r (s.hsClear k) := by
  unfold State.hsClear
  repeat' first
    | intro _
    | with_reducible assumption
    | (with_reducible apply keeps_onLanes)
    | (with_reducible apply keeps_setLoc)
    | (with_reducible apply keeps_mk)
    | (with_reducible apply keeps_mk_mem)
    | (with_reducible apply keeps_mk_snd)
    | (with_reducible apply keeps_mk_drew)

theorem keeps_portQuiet (h : Keeps r s) (k : PortId) : Keeps r (s.portQuiet k) := by
  unfold State.portQuiet
  repeat' first
    | intro _
    | with_reducible assumption
    | (with_reducible apply keeps_off)
    | (with_reducible apply keeps_setPt)
    | (with_reducible apply keeps_mk)
    | (with_reducible apply keeps_mk_mem)
    | (with_reducible apply keeps_mk_snd)
    | (with_reducible apply keeps_mk_drew)

theorem keeps_lineClockLost (h : Keeps r s) (n : Lane) : Keeps r (s.lineClockLost n) := by
  unfold State.lineClockLost
  repeat' first
    | intro _
    | with_reducible assumption
    | (with_reducible apply keeps_each)
    | (with_reducible apply keeps_pllLose)

theorem keeps_amDrop (h : Keeps r s) (j : Host) (d : Nat) : Keeps r (s.amDrop j d) := by
  unfold State.amDrop
  repeat' first
    | intro _
    | with_reducible assumption
    | (with_reducible apply keeps_off)
    | (with_reducible apply keeps_setKp4)
    | (with_reducible apply keeps_mk)
    | (with_reducible apply keeps_mk_mem)
    | (with_reducible apply keeps_mk_snd)
    | (with_reducible apply keeps_mk_drew)

theorem keeps_unlock (h : Keeps r s) (n : Lane) : Keeps r (s.unlock n) := by
  unfold State.unlock
  repeat' first
    | intro _
    | with_reducible assumption
    | (with_reducible apply keeps_off)
    | (with_reducible apply keeps_setLoc)
    | (with_reducible apply keeps_each)
    | (with_reducible apply keeps_amDrop)
    | (with_reducible apply keeps_mk)
    | (with_reducible apply keeps_mk_mem)
    | (with_reducible apply keeps_mk_snd)
    | (with_reducible apply keeps_mk_drew)

theorem keeps_eqStop (h : Keeps r s) (n : Lane) : Keeps r (s.eqStop n) := by
  unfold State.eqStop
  repeat' first
    | intro _
    | with_reducible assumption
    | (with_reducible apply keeps_off)
    | (with_reducible apply keeps_setEq)
    | (with_reducible apply keeps_ite)
    | (with_reducible apply keeps_mk)
    | (with_reducible apply keeps_mk_mem)
    | (with_reducible apply keeps_mk_snd)
    | (with_reducible apply keeps_mk_drew)

theorem keeps_pstateTo (h : Keeps r s) (k : PortId) (st : Nat) : Keeps r (s.pstateTo k st) := by
  unfold State.pstateTo
  repeat' first
    | intro _
    | with_reducible assumption
    | (with_reducible apply keeps_set)
    | (with_reducible apply keeps_setBit)
    | (with_reducible apply keeps_setPt)
    | (with_reducible apply keeps_ite)
    | (with_reducible apply keeps_mk)
    | (with_reducible apply keeps_mk_mem)
    | (with_reducible apply keeps_mk_snd)
    | (with_reducible apply keeps_mk_drew)

theorem keeps_onHosts (h : Keeps r s) (k : PortId) (f : Host → State → State) (hf : ∀ a t, Keeps r t → Keeps r (f a t)) : Keeps r (s.onHosts k f) := by
  unfold State.onHosts
  repeat' first
    | intro _
    | with_reducible assumption
    | (with_reducible apply hf)
    | (with_reducible apply keeps_each)

theorem keeps_hostHeld (h : Keeps r s) (j : Host) : Keeps r (s.hostHeld j) := by
  unfold State.hostHeld
  repeat' first
    | intro _
    | with_reducible assumption
    | (with_reducible apply keeps_setHl)
    | (with_reducible apply keeps_mk)
    | (with_reducible apply keeps_mk_mem)
    | (with_reducible apply keeps_mk_snd)
    | (with_reducible apply keeps_mk_drew)

theorem keeps_ctleManual (h : Keeps r s) (j : Host) : Keeps r (s.ctleManual j) := by
  unfold State.ctleManual
  repeat' first
    | with_reducible assumption
    | (with_reducible apply keeps_set)
    | (with_reducible apply keeps_ite)

theorem keeps_amLose (h : Keeps r s) (j : Host) (d : Nat) : Keeps r (s.amLose j d) := by
  unfold State.amLose
  repeat' first
    | intro _
    | with_reducible assumption
    | (with_reducible apply keeps_off)
    | (with_reducible apply keeps_on)
    | (with_reducible apply keeps_setKp4)
    | (with_reducible apply keeps_ite)
    | (with_reducible apply keeps_mk)
    | (with_reducible apply keeps_mk_mem)
    | (with_reducible apply keeps_mk_snd)
    | (with_reducible apply keeps_mk_drew)

theorem keeps_trnTo (h : Keeps r s) (j : Host) (st : Nat) : Keeps r (s.trnTo j st) := by
  unfold State.trnTo
  repeat' first
    | intro _
    | with_reducible assumption
    | (with_reducible apply keeps_set)
    | (with_reducible apply keeps_off)
    | (with_reducible apply keeps_setHl)
    | (with_reducible apply keeps_ite)
    | (with_reducible apply keeps_mk)
    | (with_reducible apply keeps_mk_mem)
    | (with_reducible apply keeps_mk_snd)
    | (with_reducible apply keeps_mk_drew)

theorem keeps_precodeClear (h : Keeps r s) (j : Host) : Keeps r (s.precodeClear j) := by
  unfold State.precodeClear
  repeat' first
    | with_reducible assumption
    | (with_reducible apply keeps_off)

theorem keeps_actSet (h : Keeps r s) (j : Host) (c : List Int) : Keeps r (s.actSet j c) := by
  unfold State.actSet
  repeat' first
    | intro _
    | with_reducible assumption
    | (with_reducible apply keeps_each)
    | (with_reducible apply keeps_seti)

theorem keeps_actJump (h : Keeps r s) (j : Host) (c : List Int) : Keeps r (s.actJump j c) := by
  unfold State.actJump
  repeat' first
    | intro _
    | with_reducible assumption
    | (with_reducible apply keeps_setHl)
    | (with_reducible apply keeps_actSet)
    | (with_reducible apply keeps_off)
    | (with_reducible apply keeps_mk)
    | (with_reducible apply keeps_mk_mem)
    | (with_reducible apply keeps_mk_snd)
    | (with_reducible apply keeps_mk_drew)

theorem keeps_ctleAdapt (h : Keeps r s) (j : Host) : Keeps r (s.ctleAdapt j) := by
  unfold State.ctleAdapt
  repeat' first
    | with_reducible assumption
    | (with_reducible apply keeps_set)
    | (with_reducible apply keeps_drew)
    | (with_reducible apply keeps_ite)

theorem keeps_sourceNow (h : Keeps r s) (j : Host) : Keeps r (s.sourceNow j) := by
  unfold State.sourceNow
  repeat' first
    | with_reducible assumption
    | (with_reducible apply keeps_set)

theorem keeps_waitSd (h : Keeps r s) (j : Host) : Keeps r (s.waitSd j) := by
  unfold State.waitSd
  repeat' first
    | intro _
    | with_reducible assumption
    | (with_reducible apply keeps_amLose)
    | (with_reducible apply keeps_trnTo)
    | (with_reducible apply keeps_hostHeld)
    | (with_reducible apply keeps_precodeClear)
    | (with_reducible apply keeps_setHl)
    | (with_reducible apply keeps_actJump)
    | (with_reducible apply keeps_ctleAdapt)
    | (with_reducible apply keeps_sourceNow)
    | (with_reducible apply keeps_mk)
    | (with_reducible apply keeps_mk_mem)
    | (with_reducible apply keeps_mk_snd)
    | (with_reducible apply keeps_mk_drew)

theorem keeps_enterTraining (h : Keeps r s) (j : Host) : Keeps r (s.enterTraining j) := by
  unfold State.enterTraining
  repeat' first
    | with_reducible assumption
    | (with_reducible apply keeps_amLose)
    | (with_reducible apply keeps_trnTo)
    | (with_reducible apply keeps_hostHeld)
    | (with_reducible apply keeps_precodeClear)
    | (with_reducible apply keeps_actJump)
    | (with_reducible apply keeps_ctleManual)
    | (with_reducible apply keeps_ctleAdapt)
    | (with_reducible apply keeps_sourceNow)

theorem keeps_enterWaitSd (h : Keeps r s) (j : Host) : Keeps r (s.enterWaitSd j) := by
  unfold State.enterWaitSd
  repeat' first
    | with_reducible assumption
    | (with_reducible apply keeps_waitSd)
    | (with_reducible apply keeps_enterTraining)
    | (with_reducible apply keeps_ite)

theorem keeps_enterData (h : Keeps r s) (j : Host) : Keeps r (s.enterData j) := by
  unfold State.enterData
  repeat' first
    | intro _
    | with_reducible assumption
    | (with_reducible apply keeps_trnTo)
    | (with_reducible apply keeps_setHl)
    | (with_reducible apply keeps_sourceNow)
    | (with_reducible apply keeps_mk)
    | (with_reducible apply keeps_mk_mem)
    | (with_reducible apply keeps_mk_snd)
    | (with_reducible apply keeps_mk_drew)

theorem keeps_precodeShow (h : Keeps r s) (j : Host) : Keeps r (s.precodeShow j) := by
  unfold State.precodeShow
  repeat' first
    | with_reducible assumption
    | (with_reducible apply keeps_setB)

theorem keeps_enterStatic (h : Keeps r s) (j : Host) : Keeps r (s.enterStatic j) := by
  unfold State.enterStatic
  repeat' first
    | with_reducible assumption
    | (with_reducible apply keeps_enterData)
    | (with_reducible apply keeps_actJump)
    | (with_reducible apply keeps_precodeShow)

theorem keeps_trnStart (h : Keeps r s) (j : Host) : Keeps r (s.trnStart j) := by
  unfold State.trnStart
  repeat' first
    | intro _
    | with_reducible assumption
    | (with_reducible apply keeps_setHl)
    | (with_reducible apply keeps_enterWaitSd)
    | (with_reducible apply keeps_enterStatic)
    | (with_reducible apply keeps_ite)
    | (with_reducible apply keeps_mk)
    | (with_reducible apply keeps_mk_mem)
    | (with_reducible apply keeps_mk_snd)
    | (with_reducible apply keeps_mk_drew)

theorem keeps_hostOn (h : Keeps r s) (j : Host) : Keeps r (s.hostOn j) := by
  unfold State.hostOn
  repeat' first
    | intro _
    | with_reducible assumption
    | (with_reducible apply keeps_off)
    | (with_reducible apply keeps_setHl)
    | (with_reducible apply keeps_showPll)
    | (with_reducible apply keeps_hostHeld)
    | (with_reducible apply keeps_ctleManual)
    | (with_reducible apply keeps_trnStart)
    | (with_reducible apply keeps_ite)
    | (with_reducible apply keeps_mk)
    | (with_reducible apply keeps_mk_mem)
    | (with_reducible apply keeps_mk_snd)
    | (with_reducible apply keeps_mk_drew)

theorem keeps_setSf (h : Keeps r s) (n : Lane) (f : SafLane → SafLane) : Keeps r (s.setSf n f) := by
  unfold State.setSf
  repeat' first
    | with_reducible assumption
    | (with_reducible apply keeps_mk)
    | (with_reducible apply keeps_mk_mem)
    | (with_reducible apply keeps_mk_snd)
    | (with_reducible apply keeps_mk_drew)

theorem keeps_proofDue (h : Keeps r s) (n : Lane) : Keeps r (s.proofDue n) := by
  unfold State.proofDue
  repeat' first
    | intro _
    | with_reducible assumption
    | (with_reducible apply keeps_setSf)
    | (with_reducible apply keeps_mk)
    | (with_reducible apply keeps_mk_mem)
    | (with_reducible apply keeps_mk_snd)
    | (with_reducible apply keeps_mk_drew)

theorem keeps_portLight (h : Keeps r s) (k : PortId) : Keeps r (s.portLight k) := by
  unfold State.portLight
  repeat' first
    | intro _
    | with_reducible assumption
    | (with_reducible apply keeps_leaveTraffic)
    | (with_reducible apply keeps_hsClear)
    | (with_reducible apply keeps_portQuiet)
    | (with_reducible apply keeps_onLanes)
    | (with_reducible apply keeps_lineClockLost)
    | (with_reducible apply keeps_unlock)
    | (with_reducible apply keeps_eqStop)
    | (with_reducible apply keeps_pstateTo)
    | (with_reducible apply keeps_onHosts)
    | (with_reducible apply keeps_hostOn)
    | (with_reducible apply keeps_proofDue)
    | (with_reducible apply keeps_ite)

theorem keeps_losDrop (h : Keeps r s) (k : PortId) : Keeps r (s.losDrop k) := by
  unfold State.losDrop
  repeat' first
    | with_reducible assumption
    | (with_reducible apply keeps_inc)
    | (with_reducible apply keeps_portLight)

theorem keeps_holdoff (h : Keeps r s) (k : PortId) : Keeps r (s.holdoff k) := by
  unfold State.holdoff
  repeat' first
    | intro _
    | with_reducible assumption
    | (with_reducible apply keeps_off)
    | (with_reducible apply keeps_holdTrace)
    | (with_reducible apply keeps_onLanes)
    | (with_reducible apply keeps_setLoc)
    | (with_reducible apply keeps_losDrop)
    | (with_reducible apply keeps_on)
    | (with_reducible apply keeps_ite)
    | (with_reducible apply keeps_mk)
    | (with_reducible apply keeps_mk_mem)
    | (with_reducible apply keeps_mk_snd)
    | (with_reducible apply keeps_mk_drew)

theorem keeps_backoff (h : Keeps r s) (n : Lane) : Keeps r (s.backoff n) := by
  unfold State.backoff
  repeat' first
    | intro _
    | with_reducible assumption
    | (with_reducible apply keeps_gainTo)
    | (with_reducible apply keeps_inc)
    | (with_reducible apply keeps_on)
    | (with_reducible apply keeps_setRx)
    | (with_reducible apply keeps_holdoff)
    | (with_reducible apply keeps_ite)
    | (with_reducible apply keeps_mk)
    | (with_reducible apply keeps_mk_mem)
    | (with_reducible apply keeps_mk_snd)
    | (with_reducible apply keeps_mk_drew)

theorem keeps_saturated (h : Keeps r s) (n : Lane) (i : Nat) : Keeps r (s.saturated n i) := by
  unfold State.saturated
  repeat' first
    | intro _
    | with_reducible assumption
    | (with_reducible apply keeps_inc)
    | (with_reducible apply keeps_on)
    | (with_reducible apply keeps_countEvent)
    | (with_reducible apply keeps_setRx)
    | (with_reducible apply keeps_rateExceeded)
    | (with_reducible apply keeps_ite)
    | (with_reducible apply keeps_mk)
    | (with_reducible apply keeps_mk_mem)
    | (with_reducible apply keeps_mk_snd)
    | (with_reducible apply keeps_mk_drew)

theorem keeps_takeSample (h : Keeps r s) (n : Lane) (i : Nat) (raw : Int) : Keeps r (s.takeSample n i raw) := by
  unfold State.takeSample
  repeat' first
    | intro _
    | with_reducible assumption
    | (with_reducible apply keeps_saturated)
    | (with_reducible apply keeps_drew)
    | (with_reducible apply keeps_setRx)
    | (with_reducible apply keeps_ite)

theorem keeps_takeRaw (h : Keeps r s) (n : Lane) (raws : List (BitVec 8)) : Keeps r (s.takeRaw n raws) := by
  unfold State.takeRaw
  repeat' first
    | intro _
    | with_reducible assumption
    | (with_reducible apply keeps_each)
    | (with_reducible apply keeps_takeSample)

theorem keeps_takeAlone (h : Keeps r s) (n : Lane) (i : Nat) (raw : Int) : Keeps r (s.takeAlone n i raw) := by
  unfold State.takeAlone
  repeat' first
    | with_reducible assumption
    | (with_reducible apply keeps_takeSample)
    | (with_reducible apply keeps_ite)

theorem keeps_tapCode (h : Keeps r s) (n : Lane) (x : BitVec 12) : Keeps r (s.tapCode n x) := by
  unfold State.tapCode
  repeat' first
    | intro _
    | with_reducible assumption
    | (with_reducible apply keeps_setIf)
    | (with_reducible apply keeps_setRx)
    | (with_reducible apply keeps_seti)
    | (with_reducible apply keeps_on)
    | (with_reducible apply keeps_ite)
    | (with_reducible apply keeps_mk)
    | (with_reducible apply keeps_mk_mem)
    | (with_reducible apply keeps_mk_snd)
    | (with_reducible apply keeps_mk_drew)

theorem keeps_tapStop (h : Keeps r s) (n : Lane) : Keeps r (s.tapStop n) := by
  unfold State.tapStop
  repeat' first
    | intro _
    | with_reducible assumption
    | (with_reducible apply keeps_off)
    | (with_reducible apply keeps_setRx)
    | (with_reducible apply keeps_mk)
    | (with_reducible apply keeps_mk_mem)
    | (with_reducible apply keeps_mk_snd)
    | (with_reducible apply keeps_mk_drew)

theorem keeps_rxCntClr (h : Keeps r s) (n : Lane) : Keeps r (s.rxCntClr n) := by
  unfold State.rxCntClr
  repeat' first
    | intro _
    | with_reducible assumption
    | (with_reducible apply keeps_off)
    | (with_reducible apply keeps_each)

theorem keeps_peakWritten (h : Keeps r s) (n : Lane) : Keeps r (s.peakWritten n) := by
  unfold State.peakWritten
  repeat' first
    | intro _
    | with_reducible assumption
    | (with_reducible apply keeps_setRx)
    | (with_reducible apply keeps_ite)
    | (with_reducible apply keeps_mk)
    | (with_reducible apply keeps_mk_mem)
    | (with_reducible apply keeps_mk_snd)
    | (with_reducible apply keeps_mk_drew)

theorem keeps_layoutApply (h : Keeps r s) (n : Lane) : Keeps r (s.layoutApply n) := by
  unfold State.layoutApply
  repeat' first
    | intro _
    | with_reducible assumption
    | (with_reducible apply keeps_each)
    | (with_reducible apply keeps_seti)
    | (with_reducible apply keeps_set)
    | (with_reducible apply keeps_on)
    | (with_reducible apply keeps_ite)

theorem keeps_coefAccSet (h : Keeps r s) (n : Lane) (c : Nat) (a : Int) : Keeps r (s.coefAccSet n c a) := by
  unfold State.coefAccSet
  repeat' first
    | intro _
    | with_reducible assumption
    | (with_reducible apply keeps_seti)
    | (with_reducible apply keeps_setEq)
    | (with_reducible apply keeps_on)
    | (with_reducible apply keeps_ite)
    | (with_reducible apply keeps_mk)
    | (with_reducible apply keeps_mk_mem)
    | (with_reducible apply keeps_mk_snd)
    | (with_reducible apply keeps_mk_drew)

theorem keeps_coefSet (h : Keeps r s) (n : Lane) (c : Nat) (x : Int) : Keeps r (s.coefSet n c x) := by
  unfold State.coefSet
  repeat' first
    | with_reducible assumption
    | (with_reducible apply keeps_seti)
    | (with_reducible apply keeps_on)
    | (with_reducible apply keeps_ite)

theorem keeps_lmsBeat (h : Keeps r s) (n : Lane) (votes : List (Nat × Int)) : Keeps r (s.lmsBeat n votes) := by
  unfold State.lmsBeat
  repeat' first
    | intro _
    | with_reducible assumption
    | (with_reducible apply keeps_each)
    | (with_reducible apply keeps_coefAccSet)
    | (with_reducible apply keeps_ite)

theorem keeps_slewBeat (h : Keeps r s) (n : Lane) : Keeps r (s.slewBeat n) := by
  unfold State.slewBeat
  repeat' first
    | intro _
    | with_reducible assumption
    | (with_reducible apply keeps_each)
    | (with_reducible apply keeps_coefSet)
    | (with_reducible apply keeps_setEq)
    | (with_reducible apply keeps_ite)
    | (with_reducible apply keeps_mk)
    | (with_reducible apply keeps_mk_mem)
    | (with_reducible apply keeps_mk_snd)
    | (with_reducible apply keeps_mk_drew)

theorem keeps_coefWrite (h : Keeps r s) (n : Lane) (c : Nat) (x : Int) : Keeps r (s.coefWrite n c x) := by
  unfold State.coefWrite
  repeat' first
    | intro _
    | with_reducible assumption
    | (with_reducible apply keeps_on)
    | (with_reducible apply keeps_setEq)
    | (with_reducible apply keeps_coefSet)
    | (with_reducible apply keeps_ite)
    | (with_reducible apply keeps_mk)
    | (with_reducible apply keeps_mk_mem)
    | (with_reducible apply keeps_mk_snd)
    | (with_reducible apply keeps_mk_drew)

theorem keeps_rampStart (h : Keeps r s) (n : Lane) (volt : Bool) (cs : List Nat) : Keeps r (s.rampStart n volt cs) := by
  unfold State.rampStart
  repeat' first
    | intro _
    | with_reducible assumption
    | (with_reducible apply keeps_setEq)
    | (with_reducible apply keeps_ite)
    | (with_reducible apply keeps_mk)
    | (with_reducible apply keeps_mk_mem)
    | (with_reducible apply keeps_mk_snd)
    | (with_reducible apply keeps_mk_drew)

theorem keeps_modeStart (h : Keeps r s) (n : Lane) : Keeps r (s.modeStart n) := by
  unfold State.modeStart
  repeat' first
    | intro _
    | with_reducible assumption
    | (with_reducible apply keeps_setEq)
    | (with_reducible apply keeps_off)
    | (with_reducible apply keeps_on)
    | (with_reducible apply keeps_coefSet)
    | (with_reducible apply keeps_rampStart)
    | (with_reducible apply keeps_each)
    | (with_reducible apply keeps_ite)
    | dsimp only
    | split
    | (with_reducible apply keeps_mk)
    | (with_reducible apply keeps_mk_mem)
    | (with_reducible apply keeps_mk_snd)
    | (with_reducible apply keeps_mk_drew)

theorem keeps_rampBeat (h : Keeps r s) (n : Lane) : Keeps r (s.rampBeat n) := by
  unfold State.rampBeat
  repeat' first
    | intro _
    | with_reducible assumption
    | (with_reducible apply keeps_setEq)
    | (with_reducible apply keeps_each)
    | (with_reducible apply keeps_coefSet)
    | (with_reducible apply keeps_ite)
    | dsimp only
    | split
    | (with_reducible apply keeps_mk)
    | (with_reducible apply keeps_mk_mem)
    | (with_reducible apply keeps_mk_snd)
    | (with_reducible apply keeps_mk_drew)

theorem keeps_modeFinish (h : Keeps r s) (n : Lane) : Keeps r (s.modeFinish n) := by
  unfold State.modeFinish
  repeat' first
    | intro _
    | with_reducible assumption
    | (with_reducible apply keeps_on)
    | (with_reducible apply keeps_setEq)
    | (with_reducible apply keeps_off)
    | (with_reducible apply keeps_ite)
    | dsimp only
    | split
    | (with_reducible apply keeps_mk)
    | (with_reducible apply keeps_mk_mem)
    | (with_reducible apply keeps_mk_snd)
    | (with_reducible apply keeps_mk_drew)

theorem keeps_modeNow (h : Keeps r s) (n : Lane) : Keeps r (s.modeNow n) := by
  unfold State.modeNow
  repeat' first
    | intro _
    | with_reducible assumption
    | (with_reducible apply keeps_setB)
    | (with_reducible apply keeps_coefSet)
    | (with_reducible apply keeps_setEq)
    | (with_reducible apply keeps_ite)
    | (with_reducible apply keeps_mk)
    | (with_reducible apply keeps_mk_mem)
    | (with_reducible apply keeps_mk_snd)
    | (with_reducible apply keeps_mk_drew)

theorem keeps_shedRefuse (h : Keeps r s) (n : Lane) (step : ShedStep) : Keeps r (s.shedRefuse n step) := by
  unfold State.shedRefuse
  repeat' first
    | intro _
    | with_reducible assumption
    | (with_reducible apply keeps_on)
    | (with_reducible apply keeps_inc)
    | (with_reducible apply keeps_setEq)
    | (with_reducible apply keeps_ite)
    | (with_reducible apply keeps_mk)
    | (with_reducible apply keeps_mk_mem)
    | (with_reducible apply keeps_mk_snd)
    | (with_reducible apply keeps_mk_drew)

theorem keeps_shedHold (h : Keeps r s) (n : Lane) (step : ShedStep) : Keeps r (s.shedHold n step) := by
  unfold State.shedHold
  repeat' first
    | intro _
    | with_reducible assumption
    | (with_reducible apply keeps_setBit)
    | (with_reducible apply keeps_setEq)
    | (with_reducible apply keeps_mk)
    | (with_reducible apply keeps_mk_mem)
    | (with_reducible apply keeps_mk_snd)
    | (with_reducible apply keeps_mk_drew)

theorem keeps_shedCheck (h : Keeps r s) (n : Lane) : Keeps r (s.shedCheck n) := by
  unfold State.shedCheck
  repeat' first
    | intro _
    | with_reducible assumption
    | (with_reducible apply keeps_setEq)
    | (with_reducible apply keeps_shedRefuse)
    | (with_reducible apply keeps_shedHold)
    | (with_reducible apply keeps_ite)
    | dsimp only
    | split
    | (with_reducible apply keeps_mk)
    | (with_reducible apply keeps_mk_mem)
    | (with_reducible apply keeps_mk_snd)
    | (with_reducible apply keeps_mk_drew)

theorem keeps_rampJudge (h : Keeps r s) (n : Lane) : Keeps r (s.rampJudge n) := by
  unfold State.rampJudge
  repeat' first
    | intro _
    | with_reducible assumption
    | (with_reducible apply keeps_setEq)
    | (with_reducible apply keeps_setBit)
    | (with_reducible apply keeps_shedRefuse)
    | (with_reducible apply keeps_ite)
    | dsimp only
    | split
    | (with_reducible apply keeps_mk)
    | (with_reducible apply keeps_mk_mem)
    | (with_reducible apply keeps_mk_snd)
    | (with_reducible apply keeps_mk_drew)

theorem keeps_guardWindow (h : Keeps r s) (n : Lane) : Keeps r (s.guardWindow n) := by
  unfold State.guardWindow
  repeat' first
    | intro _
    | with_reducible assumption
    | (with_reducible apply keeps_rampJudge)
    | (with_reducible apply keeps_setEq)
    | (with_reducible apply keeps_on)
    | (with_reducible apply keeps_inc)
    | (with_reducible apply keeps_ite)
    | (with_reducible apply keeps_mk)
    | (with_reducible apply keeps_mk_mem)
    | (with_reducible apply keeps_mk_snd)
    | (with_reducible apply keeps_mk_drew)

theorem keeps_boostNow (h : Keeps r s) (n : Lane) : Keeps r (s.boostNow n) := by
  unfold State.boostNow
  repeat' first
    | intro _
    | with_reducible assumption
    | (with_reducible apply keeps_setEq)
    | (with_reducible apply keeps_on)
    | (with_reducible apply keeps_inc)
    | (with_reducible apply keeps_setCal)
    | (with_reducible apply keeps_ite)
    | (with_reducible apply keeps_mk)
    | (with_reducible apply keeps_mk_mem)
    | (with_reducible apply keeps_mk_snd)
    | (with_reducible apply keeps_mk_drew)

theorem keeps_boostOpen (h : Keeps r s) (n : Lane) : Keeps r (s.boostOpen n) := by
  unfold State.boostOpen
  repeat' first
    | with_reducible assumption
    | (with_reducible apply keeps_boostNow)
    | (with_reducible apply keeps_ite)

theorem keeps_boostPlan (h : Keeps r s) (n : Lane) (c : Nat) : Keeps r (s.boostPlan n c) := by
  unfold State.boostPlan
  repeat' first
    | intro _
    | with_reducible assumption
    | (with_reducible apply keeps_setEq)
    | (with_reducible apply keeps_boostNow)
    | (with_reducible apply keeps_ite)
    | (with_reducible apply keeps_mk)
    | (with_reducible apply keeps_mk_mem)
    | (with_reducible apply keeps_mk_snd)
    | (with_reducible apply keeps_mk_drew)

theorem keeps_boostCount (h : Keeps r s) (n : Lane) : Keeps r (s.boostCount n) := by
  unfold State.boostCount
  repeat' first
    | intro _
    | with_reducible assumption
    | (with_reducible apply keeps_setEq)
    | (with_reducible apply keeps_mk)
    | (with_reducible apply keeps_mk_mem)
    | (with_reducible apply keeps_mk_snd)
    | (with_reducible apply keeps_mk_drew)

theorem keeps_boostClose (h : Keeps r s) (n : Lane) : Keeps r (s.boostClose n) := by
  unfold State.boostClose
  repeat' first
    | with_reducible assumption
    | (with_reducible apply keeps_off)
    | (with_reducible apply keeps_ite)

theorem keeps_count (h : Keeps r s) (n : Lane) (f : CwCounters → CwCounters) : Keeps r (s.count n f) := by
  unfold State.count
  repeat' first
    | intro _
    | with_reducible assumption
    | (with_reducible apply keeps_setLoc)
    | (with_reducible apply keeps_mk)
    | (with_reducible apply keeps_mk_mem)
    | (with_reducible apply keeps_mk_snd)
    | (with_reducible apply keeps_mk_drew)

theorem keeps_sfLose (h : Keeps r s) (n : Lane) : Keeps r (s.sfLose n) := by
  unfold State.sfLose
  repeat' first
    | intro _
    | with_reducible assumption
    | (with_reducible apply keeps_off)
    | (with_reducible apply keeps_on)
    | (with_reducible apply keeps_count)
    | (with_reducible apply keeps_setLoc)
    | (with_reducible apply keeps_ite)
    | (with_reducible apply keeps_mk)
    | (with_reducible apply keeps_mk_mem)
    | (with_reducible apply keeps_mk_snd)
    | (with_reducible apply keeps_mk_drew)

theorem keeps_frameLose (h : Keeps r s) (n : Lane) : Keeps r (s.frameLose n) := by
  unfold State.frameLose
  repeat' first
    | intro _
    | with_reducible assumption
    | (with_reducible apply keeps_off)
    | (with_reducible apply keeps_setLoc)
    | (with_reducible apply keeps_sfLose)
    | (with_reducible apply keeps_setCal)
    | (with_reducible apply keeps_each)
    | (with_reducible apply keeps_amLose)
    | (with_reducible apply keeps_pllLose)
    | (with_reducible apply keeps_mk)
    | (with_reducible apply keeps_mk_mem)
    | (with_reducible apply keeps_mk_snd)
    | (with_reducible apply keeps_mk_drew)

theorem keeps_frameLoss (h : Keeps r s) (n : Lane) : Keeps r (s.frameLoss n) := by
  unfold State.frameLoss
  repeat' first
    | intro _
    | with_reducible assumption
    | (with_reducible apply keeps_frameLose)
    | (with_reducible apply keeps_on)
    | (with_reducible apply keeps_count)
    | (with_reducible apply keeps_mk)
    | (with_reducible apply keeps_mk_mem)
    | (with_reducible apply keeps_mk_snd)
    | (with_reducible apply keeps_mk_drew)

theorem keeps_frameGain (h : Keeps r s) (n : Lane) : Keeps r (s.frameGain n) := by
  unfold State.frameGain
  repeat' first
    | intro _
    | with_reducible assumption
    | (with_reducible apply keeps_on)
    | (with_reducible apply keeps_setLoc)
    | (with_reducible apply keeps_each)
    | (with_reducible apply keeps_pllMove)
    | (with_reducible apply keeps_mk)
    | (with_reducible apply keeps_mk_mem)
    | (with_reducible apply keeps_mk_snd)
    | (with_reducible apply keeps_mk_drew)

theorem keeps_frameJudge (h : Keeps r s) (n : Lane) (ok failed : Nat) : Keeps r (s.frameJudge n ok failed) := by
  unfold State.frameJudge
  repeat' first
    | intro _
    | with_reducible assumption
    | (with_reducible apply keeps_frameLoss)
    | (with_reducible apply keeps_setLoc)
    | (with_reducible apply keeps_frameGain)
    | (with_reducible apply keeps_ite)
    | (with_reducible apply keeps_mk)
    | (with_reducible apply keeps_mk_mem)
    | (with_reducible apply keeps_mk_snd)
    | (with_reducible apply keeps_mk_drew)

theorem keeps_frame (h : Keeps r s) (n : Lane) : Keeps r (s.frame n) := by
  unfold State.frame
  repeat' first
    | intro _
    | with_reducible assumption
    | (with_reducible apply keeps_setLoc)
    | (with_reducible apply keeps_setCal)
    | (with_reducible apply keeps_frameJudge)
    | (with_reducible apply keeps_ite)
    | (with_reducible apply keeps_mk)
    | (with_reducible apply keeps_mk_mem)
    | (with_reducible apply keeps_mk_snd)
    | (with_reducible apply keeps_mk_drew)

theorem keeps_codeword (h : Keeps r s) (n : Lane) (i : Nat) (d : Decoded) (first : List Bool) : Keeps r (s.codeword n i d first) := by
  unfold State.codeword
  repeat' first
    | intro _
    | with_reducible assumption
    | (with_reducible apply keeps_setLoc)
    | (with_reducible apply keeps_setEq)
    | (with_reducible apply keeps_setCal)
    | (with_reducible apply keeps_countEvent)
    | (with_reducible apply keeps_ite)
    | (with_reducible apply keeps_mk)
    | (with_reducible apply keeps_mk_mem)
    | (with_reducible apply keeps_mk_snd)
    | (with_reducible apply keeps_mk_drew)

theorem keeps_frameCount (h : Keeps r s) (n : Lane) (ok : Bool) : Keeps r (s.frameCount n ok) := by
  unfold State.frameCount
  repeat' first
    | intro _
    | with_reducible assumption
    | (with_reducible apply keeps_setLoc)
    | (with_reducible apply keeps_mk)
    | (with_reducible apply keeps_mk_mem)
    | (with_reducible apply keeps_mk_snd)
    | (with_reducible apply keeps_mk_drew)

theorem keeps_kp4Feed (h : Keeps r s) (j : Host) (d : Nat) (bs : List Bool) : Keeps r (s.kp4Feed j d bs) := by
  unfold State.kp4Feed
  repeat' first
    | intro _
    | with_reducible assumption
    | (with_reducible apply keeps_setKp4)

theorem keeps_deframe (h : Keeps r s) (n : Lane) (u : List Bool) : Keeps r (s.deframe n u) := by
  unfold State.deframe
  repeat' first
    | intro _
    | with_reducible assumption
    | (with_reducible apply keeps_setHl)
    | (with_reducible apply keeps_kp4Feed)
    | (with_reducible apply keeps_ite)
    | (with_reducible apply keeps_mk)
    | (with_reducible apply keeps_mk_mem)
    | (with_reducible apply keeps_mk_snd)
    | (with_reducible apply keeps_mk_drew)

theorem keeps_winTake (h : Keeps r s) (n : Lane) (pads : Nat) (as : List Nat) : Keeps r (s.winTake n pads as) := by
  unfold State.winTake
  repeat' first
    | intro _
    | with_reducible assumption
    | (with_reducible apply keeps_setCal)
    | (with_reducible apply keeps_ite)
    | (with_reducible apply keeps_mk)
    | (with_reducible apply keeps_mk_mem)
    | (with_reducible apply keeps_mk_snd)
    | (with_reducible apply keeps_mk_drew)

theorem keeps_locPlain (h : Keeps r s) (n : Lane) (type : Nat) (body : List Nat) : Keeps r (s.locPlain n type body) := by
  unfold State.locPlain
  repeat' first
    | intro _
    | with_reducible assumption
    | (with_reducible apply keeps_setLoc)
    | (with_reducible apply keeps_ite)
    | (with_reducible apply keeps_mk)
    | (with_reducible apply keeps_mk_mem)
    | (with_reducible apply keeps_mk_snd)
    | (with_reducible apply keeps_mk_drew)

theorem keeps_locTagged (h : Keeps r s) (n : Lane) (type : Nat) (body : List Nat) : Keeps r (s.locTagged n type body) := by
  unfold State.locTagged
  repeat' first
    | intro _
    | with_reducible assumption
    | (with_reducible apply keeps_on)
    | (with_reducible apply keeps_setLoc)
    | (with_reducible apply keeps_ite)
    | (with_reducible apply keeps_mk)
    | (with_reducible apply keeps_mk_mem)
    | (with_reducible apply keeps_mk_snd)
    | (with_reducible apply keeps_mk_drew)

theorem keeps_helloSend (h : Keeps r s) (n : Lane) : Keeps r (s.helloSend n) := by
  unfold State.helloSend
  repeat' first
    | intro _
    | with_reducible assumption
    | (with_reducible apply keeps_on)
    | (with_reducible apply keeps_locTagged)
    | (with_reducible apply keeps_setLoc)
    | (with_reducible apply keeps_ite)
    | (with_reducible apply keeps_mk)
    | (with_reducible apply keeps_mk_mem)
    | (with_reducible apply keeps_mk_snd)
    | (with_reducible apply keeps_mk_drew)

theorem keeps_helloJudge (h : Keeps r s) (n : Lane) : Keeps r (s.helloJudge n) := by
  unfold State.helloJudge
  repeat' first
    | intro _
    | with_reducible assumption
    | (with_reducible apply keeps_setLoc)
    | (with_reducible apply keeps_setPt)
    | (with_reducible apply keeps_ite)
    | dsimp only
    | split
    | (with_reducible apply keeps_mk)
    | (with_reducible apply keeps_mk_mem)
    | (with_reducible apply keeps_mk_snd)
    | (with_reducible apply keeps_mk_drew)

theorem keeps_helloStart (h : Keeps r s) (n : Lane) : Keeps r (s.helloStart n) := by
  unfold State.helloStart
  repeat' first
    | with_reducible assumption
    | (with_reducible apply keeps_helloSend)
    | (with_reducible apply keeps_ite)

theorem keeps_helloIn (h : Keeps r s) (n : Lane) (ack : Bool) (body : List Nat) : Keeps r (s.helloIn n ack body) := by
  unfold State.helloIn
  repeat' first
    | intro _
    | with_reducible assumption
    | (with_reducible apply keeps_alarmEnd)
    | (with_reducible apply keeps_on)
    | (with_reducible apply keeps_alarm)
    | (with_reducible apply keeps_setLoc)
    | (with_reducible apply keeps_helloJudge)
    | (with_reducible apply keeps_locTagged)
    | (with_reducible apply keeps_helloSend)
    | (with_reducible apply keeps_ite)
    | dsimp only
    | split
    | (with_reducible apply keeps_mk)
    | (with_reducible apply keeps_mk_mem)
    | (with_reducible apply keeps_mk_snd)
    | (with_reducible apply keeps_mk_drew)

theorem keeps_locBad (h : Keeps r s) (n : Lane) : Keeps r (s.locBad n) := by
  unfold State.locBad
  repeat' first
    | intro _
    | with_reducible assumption
    | (with_reducible apply keeps_on)
    | (with_reducible apply keeps_count)
    | (with_reducible apply keeps_mk)
    | (with_reducible apply keeps_mk_mem)
    | (with_reducible apply keeps_mk_snd)
    | (with_reducible apply keeps_mk_drew)

theorem keeps_daccalHeard (h : Keeps r s) (n : Lane) (countdown step : Nat) : Keeps r (s.daccalHeard n countdown step) := by
  unfold State.daccalHeard
  repeat' first
    | intro _
    | with_reducible assumption
    | (with_reducible apply keeps_setEq)
    | (with_reducible apply keeps_boostPlan)
    | (with_reducible apply keeps_ite)
    | (with_reducible apply keeps_mk)
    | (with_reducible apply keeps_mk_mem)
    | (with_reducible apply keeps_mk_snd)
    | (with_reducible apply keeps_mk_drew)

theorem keeps_userIn (h : Keeps r s) (n : Lane) (body : List Nat) : Keeps r (s.userIn n body) := by
  unfold State.userIn
  repeat' first
    | intro _
    | with_reducible assumption
    | (with_reducible apply keeps_each)
    | (with_reducible apply keeps_set)
    | (with_reducible apply keeps_on)
    | (with_reducible apply keeps_ite)

theorem keeps_txcDone (h : Keeps r s) (n : Lane) (tag : Nat) : Keeps r (s.txcDone n tag) := by
  unfold State.txcDone
  repeat' first
    | intro _
    | with_reducible assumption
    | (with_reducible apply keeps_setTx)
    | (with_reducible apply keeps_ite)
    | (with_reducible apply keeps_mk)
    | (with_reducible apply keeps_mk_mem)
    | (with_reducible apply keeps_mk_snd)
    | (with_reducible apply keeps_mk_drew)

theorem keeps_locAccept (h : Keeps r s) (n : Lane) (tag : Nat) : Keeps r (s.locAccept n tag) := by
  unfold State.locAccept
  repeat' first
    | intro _
    | with_reducible assumption
    | (with_reducible apply keeps_setLoc)
    | (with_reducible apply keeps_ite)
    | (with_reducible apply keeps_mk)
    | (with_reducible apply keeps_mk_mem)
    | (with_reducible apply keeps_mk_snd)
    | (with_reducible apply keeps_mk_drew)

theorem keeps_locRepeat (h : Keeps r s) (n : Lane) (type tag : Nat) : Keeps r (s.locRepeat n type tag) := by
  unfold State.locRepeat
  repeat' first
    | intro _
    | with_reducible assumption
    | (with_reducible apply keeps_setLoc)
    | (with_reducible apply keeps_locPlain)
    | dsimp only
    | split
    | (with_reducible apply keeps_mk)
    | (with_reducible apply keeps_mk_mem)
    | (with_reducible apply keeps_mk_snd)
    | (with_reducible apply keeps_mk_drew)

theorem keeps_locAcked (h : Keeps r s) (n : Lane) (tag : Nat) : Keeps r (s.locAcked n tag) := by
  unfold State.locAcked
  repeat' first
    | intro _
    | with_reducible assumption
    | (with_reducible apply keeps_setLoc)
    | (with_reducible apply keeps_helloJudge)
    | (with_reducible apply keeps_off)
    | (with_reducible apply keeps_ite)
    | dsimp only
    | split
    | (with_reducible apply keeps_mk)
    | (with_reducible apply keeps_mk_mem)
    | (with_reducible apply keeps_mk_snd)
    | (with_reducible apply keeps_mk_drew)

theorem keeps_locDrop (h : Keeps r s) (n : Lane) (m : LocMsg) : Keeps r (s.locDrop n m) := by
  unfold State.locDrop
  repeat' first
    | intro _
    | with_reducible assumption
    | (with_reducible apply keeps_setLoc)
    | (with_reducible apply keeps_on)
    | (with_reducible apply keeps_count)
    | (with_reducible apply keeps_off)
    | (with_reducible apply keeps_setTx)
    | (with_reducible apply keeps_helloSend)
    | (with_reducible apply keeps_ite)
    | (with_reducible apply keeps_mk)
    | (with_reducible apply keeps_mk_mem)
    | (with_reducible apply keeps_mk_snd)
    | (with_reducible apply keeps_mk_drew)

theorem keeps_locRetx (h : Keeps r s) (n : Lane) (tag : Nat) : Keeps r (s.locRetx n tag) := by
  unfold State.locRetx
  repeat' first
    | intro _
    | with_reducible assumption
    | (with_reducible apply keeps_locDrop)
    | (with_reducible apply keeps_setLoc)
    | (with_reducible apply keeps_ite)
    | dsimp only
    | split
    | (with_reducible apply keeps_mk)
    | (with_reducible apply keeps_mk_mem)
    | (with_reducible apply keeps_mk_snd)
    | (with_reducible apply keeps_mk_drew)

theorem keeps_setKl (h : Keeps r s) (n : Lane) (f : KiteSt → KiteSt) : Keeps r (s.setKl n f) := by
  unfold State.setKl
  repeat' first
    | with_reducible assumption
    | (with_reducible apply keeps_mk)
    | (with_reducible apply keeps_mk_mem)
    | (with_reducible apply keeps_mk_snd)
    | (with_reducible apply keeps_mk_drew)

theorem keeps_kiteSent (h : Keeps r s) (n : Lane) (ws : List Int) : Keeps r (s.kiteSent n ws) := by
  unfold State.kiteSent
  repeat' first
    | intro _
    | with_reducible assumption
    | (with_reducible apply keeps_setIf)

theorem keeps_kitePass (h : Keeps r s) (n : Lane) : Keeps r (s.kitePass n) := by
  unfold State.kitePass
  repeat' first
    | intro _
    | with_reducible assumption
    | (with_reducible apply keeps_kiteSent)
    | (with_reducible apply keeps_setKl)
    | (with_reducible apply keeps_drew)
    | dsimp only
    | split
    | (with_reducible apply keeps_mk)
    | (with_reducible apply keeps_mk_mem)
    | (with_reducible apply keeps_mk_snd)
    | (with_reducible apply keeps_mk_drew)

theorem keeps_kiteStop (h : Keeps r s) (n : Lane) (t : KiteTx) (whole : Bool) : Keeps r (s.kiteStop n t whole) := by
  unfold State.kiteStop
  repeat' first
    | intro _
    | with_reducible assumption
    | (with_reducible apply keeps_kiteSent)
    | (with_reducible apply keeps_setKl)
    | (with_reducible apply keeps_ite)
    | (with_reducible apply keeps_mk)
    | (with_reducible apply keeps_mk_mem)
    | (with_reducible apply keeps_mk_snd)
    | (with_reducible apply keeps_mk_drew)

theorem keeps_userSendAsk (h : Keeps r s) (n : Lane) : Keeps r (s.userSendAsk n) := by
  unfold State.userSendAsk
  repeat' first
    | intro _
    | with_reducible assumption
    | (with_reducible apply keeps_on)
    | (with_reducible apply keeps_setKl)
    | (with_reducible apply keeps_mk)
    | (with_reducible apply keeps_mk_mem)
    | (with_reducible apply keeps_mk_snd)
    | (with_reducible apply keeps_mk_drew)

theorem keeps_setPwr (h : Keeps r s) (f : PwrSt → PwrSt) : Keeps r (s.setPwr f) := by
  unfold State.setPwr
  repeat' first
    | with_reducible assumption
    | (with_reducible apply keeps_mk)
    | (with_reducible apply keeps_mk_mem)
    | (with_reducible apply keeps_mk_snd)
    | (with_reducible apply keeps_mk_drew)

theorem keeps_setSleep (h : Keeps r s) (k : SleepKind) (f : SleepReq → SleepReq) : Keeps r (s.setSleep k f) := by
  unfold State.setSleep
  repeat' first
    | intro _
    | with_reducible assumption
    | (with_reducible apply keeps_setPwr)
    | (with_reducible apply keeps_ite)
    | (with_reducible apply keeps_mk)
    | (with_reducible apply keeps_mk_mem)
    | (with_reducible apply keeps_mk_snd)
    | (with_reducible apply keeps_mk_drew)

theorem keeps_setRl (h : Keeps r s) (c : ReelId) (f : ReelCh → ReelCh) : Keeps r (s.setRl c f) := by
  unfold State.setRl
  repeat' first
    | with_reducible assumption
    | (with_reducible apply keeps_mk)
    | (with_reducible apply keeps_mk_mem)
    | (with_reducible apply keeps_mk_snd)
    | (with_reducible apply keeps_mk_drew)

theorem keeps_reelState (h : Keeps r s) (c : ReelId) (st : Nat) : Keeps r (s.reelState c st) := by
  unfold State.reelState
  repeat' first
    | with_reducible assumption
    | (with_reducible apply keeps_set)
    | (with_reducible apply keeps_setBit)

theorem keeps_reelRelease (h : Keeps r s) : Keeps r (s.reelRelease) := by
  unfold State.reelRelease
  repeat' first
    | intro _
    | with_reducible assumption
    | (with_reducible apply keeps_each)
    | (with_reducible apply keeps_setRl)
    | (with_reducible apply keeps_reelState)
    | (with_reducible apply keeps_ite)
    | (with_reducible apply keeps_mk)
    | (with_reducible apply keeps_mk_mem)
    | (with_reducible apply keeps_mk_snd)
    | (with_reducible apply keeps_mk_drew)

theorem keeps_kiteCmdOff (h : Keeps r s) (n : Lane) (t : KiteTx) : Keeps r (s.kiteCmdOff n t) := by
  unfold State.kiteCmdOff
  repeat' first
    | intro _
    | with_reducible assumption
    | (with_reducible apply keeps_off)
    | (with_reducible apply keeps_setKl)
    | (with_reducible apply keeps_wakeAsk)
    | (with_reducible apply keeps_ite)
    | dsimp only
    | split
    | (with_reducible apply keeps_mk)
    | (with_reducible apply keeps_mk_mem)
    | (with_reducible apply keeps_mk_snd)
    | (with_reducible apply keeps_mk_drew)

theorem keeps_kiteIdle (h : Keeps r s) (n : Lane) (t : KiteTx) : Keeps r (s.kiteIdle n t) := by
  unfold State.kiteIdle
  repeat' first
    | with_reducible assumption
    | (with_reducible apply keeps_off)
    | (with_reducible apply keeps_kiteCmdOff)

theorem keeps_kiteAbort (h : Keeps r s) (n : Lane) : Keeps r (s.kiteAbort n) := by
  unfold State.kiteAbort
  repeat' first
    | with_reducible assumption
    | (with_reducible apply keeps_kitePass)
    | (with_reducible apply keeps_kiteStop)
    | (with_reducible apply keeps_on)
    | (with_reducible apply keeps_inc)
    | (with_reducible apply keeps_kiteIdle)
    | dsimp only
    | split

theorem keeps_kiteDacGone (h : Keeps r s) (n : Lane) : Keeps r (s.kiteDacGone n) := by
  unfold State.kiteDacGone
  repeat' first
    | with_reducible assumption
    | (with_reducible apply keeps_kiteAbort)
    | (with_reducible apply keeps_ite)

theorem keeps_demandEval (h : Keeps r s) (n : Lane) : Keeps r (s.demandEval n) := by
  unfold State.demandEval
  repeat' first
    | intro _
    | with_reducible assumption
    | (with_reducible apply keeps_setTx)
    | (with_reducible apply keeps_set)
    | (with_reducible apply keeps_dacCancel)
    | (with_reducible apply keeps_kiteDacGone)
    | (with_reducible apply keeps_ite)
    | (with_reducible apply keeps_mk)
    | (with_reducible apply keeps_mk_mem)
    | (with_reducible apply keeps_mk_snd)
    | (with_reducible apply keeps_mk_drew)

theorem keeps_sleepUndo (h : Keeps r s) (k : SleepKind) : Keeps r (s.sleepUndo k) := by
  unfold State.sleepUndo
  repeat' first
    | intro _
    | with_reducible assumption
    | (with_reducible apply keeps_setSleep)
    | (with_reducible apply keeps_reelRelease)
    | (with_reducible apply keeps_setPt)
    | (with_reducible apply keeps_onLanes)
    | (with_reducible apply keeps_setCal)
    | (with_reducible apply keeps_demandEval)
    | (with_reducible apply keeps_setPwr)
    | (with_reducible apply keeps_ite)
    | dsimp only
    | split
    | (with_reducible apply keeps_mk)
    | (with_reducible apply keeps_mk_mem)
    | (with_reducible apply keeps_mk_snd)
    | (with_reducible apply keeps_mk_drew)

theorem keeps_dropSleep (h : Keeps r s) (k : SleepKind) : Keeps r (s.dropSleep k) := by
  unfold State.dropSleep
  repeat' first
    | intro _
    | with_reducible assumption
    | (with_reducible apply keeps_setPwr)
    | (with_reducible apply keeps_mk)
    | (with_reducible apply keeps_mk_mem)
    | (with_reducible apply keeps_mk_snd)
    | (with_reducible apply keeps_mk_drew)

theorem keeps_napDrop (h : Keeps r s) (k : PortId) : Keeps r (s.napDrop k) := by
  unfold State.napDrop
  repeat' first
    | with_reducible assumption
    | (with_reducible apply keeps_sleepUndo)
    | (with_reducible apply keeps_dropSleep)
    | (with_reducible apply keeps_ite)

theorem keeps_memPoison (h : Keeps r s) (i w : Nat) : Keeps r (s.memPoison i w) := by
  unfold State.memPoison
  repeat' first
    | with_reducible assumption
    | (with_reducible apply keeps_inc)
    | (with_reducible apply keeps_set)
    | (with_reducible apply keeps_on)
    | (with_reducible apply keeps_alarm)
    | (with_reducible apply keeps_ite)
    | (with_reducible apply keeps_mk)
    | (with_reducible apply keeps_mk_mem)
    | (with_reducible apply keeps_mk_snd)
    | (with_reducible apply keeps_mk_drew)

theorem keeps_bucketUp (h : Keeps r s) (b : Nat) : Keeps r (s.bucketUp b) := by
  unfold State.bucketUp
  repeat' first
    | with_reducible assumption
    | (with_reducible apply keeps_set)
    | (with_reducible apply keeps_on)
    | (with_reducible apply keeps_alarm)
    | (with_reducible apply keeps_ite)
    | (with_reducible apply keeps_mk)
    | (with_reducible apply keeps_mk_mem)
    | (with_reducible apply keeps_mk_snd)
    | (with_reducible apply keeps_mk_drew)

theorem keeps_lastingFault (h : Keeps r s) (w : Nat) : Keeps r (s.lastingFault w) := by
  unfold State.lastingFault
  repeat' first
    | intro _
    | with_reducible assumption
    | (with_reducible apply keeps_set)
    | (with_reducible apply keeps_inc)
    | (with_reducible apply keeps_on)
    | (with_reducible apply keeps_logRecord)
    | (with_reducible apply keeps_alarm)
    | (with_reducible apply keeps_ite)
    | dsimp only
    | split
    | (with_reducible apply keeps_mk)
    | (with_reducible apply keeps_mk_mem)
    | (with_reducible apply keeps_mk_snd)
    | (with_reducible apply keeps_mk_drew)

theorem keeps_classify (h : Keeps r s) (w : Nat) : Keeps r (s.classify w) := by
  unfold State.classify
  repeat' first
    | intro _
    | with_reducible assumption
    | (with_reducible apply keeps_lastingFault)
    | (with_reducible apply keeps_ite)
    | dsimp only
    | split
    | (with_reducible apply keeps_mk)
    | (with_reducible apply keeps_mk_mem)
    | (with_reducible apply keeps_mk_snd)
    | (with_reducible apply keeps_mk_drew)

theorem keeps_memCorrect (h : Keeps r s) (w : Nat) : Keeps r (s.memCorrect w) := by
  unfold State.memCorrect
  repeat' first
    | with_reducible assumption
    | (with_reducible apply keeps_inc)
    | (with_reducible apply keeps_set)
    | (with_reducible apply keeps_on)
    | (with_reducible apply keeps_countEvent)
    | (with_reducible apply keeps_bucketUp)
    | (with_reducible apply keeps_classify)
    | (with_reducible apply keeps_ite)

theorem keeps_memCheck (h : Keeps r s) (i w : Nat) (e : SprEcc) : Keeps r (s.memCheck i w e) := by
  unfold State.memCheck
  repeat' first
    | intro _
    | with_reducible assumption
    | (with_reducible apply keeps_memPoison)
    | (with_reducible apply keeps_memCorrect)
    | (with_reducible apply keeps_ite)
    | (with_reducible apply keeps_mk)
    | (with_reducible apply keeps_mk_mem)
    | (with_reducible apply keeps_mk_snd)
    | (with_reducible apply keeps_mk_drew)

theorem keeps_flushRead (h : Keeps r s) (w : Nat) (e : SprEcc) : Keeps r (s.flushRead w e) := by
  unfold State.flushRead
  repeat' first
    | intro _
    | with_reducible assumption
    | (with_reducible apply keeps_memCheck)
    | (with_reducible apply keeps_drew)
    | (with_reducible apply keeps_ite)

theorem keeps_flushOut (h : Keeps r s) (w : Nat) (e : SprEcc) : Keeps r (s.flushOut w e) := by
  unfold State.flushOut
  repeat' first
    | intro _
    | with_reducible assumption
    | (with_reducible apply keeps_flushRead)
    | (with_reducible apply keeps_each)
    | (with_reducible apply keeps_flushEntry)

theorem keeps_readHit (h : Keeps r s) (w : Nat) : Keeps r (s.readHit w) := by
  unfold State.readHit
  repeat' first
    | with_reducible assumption
    | (with_reducible apply keeps_flushOut)

theorem keeps_sweep (h : Keeps r s) (i : Nat) (p : Nat → Bool) : Keeps r (s.sweep i p) := by
  unfold State.sweep
  repeat' first
    | intro _
    | with_reducible assumption
    | (with_reducible apply keeps_each)
    | (with_reducible apply keeps_readHit)
    | (with_reducible apply keeps_memCheck)

theorem keeps_setRead (h : Keeps r s) (n : Lane) : Keeps r (s.setRead n) := by
  unfold State.setRead
  repeat' first
    | with_reducible assumption
    | (with_reducible apply keeps_sweep)

theorem keeps_ladderReset (h : Keeps r s) (n : Lane) : Keeps r (s.ladderReset n) := by
  unfold State.ladderReset
  repeat' first
    | intro _
    | with_reducible assumption
    | (with_reducible apply keeps_setCal)
    | (with_reducible apply keeps_set)
    | (with_reducible apply keeps_mk)
    | (with_reducible apply keeps_mk_mem)
    | (with_reducible apply keeps_mk_snd)
    | (with_reducible apply keeps_mk_drew)

theorem keeps_slicesAll (h : Keeps r s) (n : Lane) (st : Nat) : Keeps r (s.slicesAll n st) := by
  unfold State.slicesAll
  repeat' first
    | intro _
    | with_reducible assumption
    | (with_reducible apply keeps_each)
    | (with_reducible apply keeps_sliceTo)
    | (with_reducible apply keeps_ite)

theorem keeps_refTake (h : Keeps r s) (n : Lane) : Keeps r (s.refTake n) := by
  unfold State.refTake
  repeat' first
    | intro _
    | with_reducible assumption
    | (with_reducible apply keeps_setTx)
    | (with_reducible apply keeps_mk)
    | (with_reducible apply keeps_mk_mem)
    | (with_reducible apply keeps_mk_snd)
    | (with_reducible apply keeps_mk_drew)

theorem keeps_seedTx (h : Keeps r s) (n : Lane) : Keeps r (s.seedTx n) := by
  unfold State.seedTx
  repeat' first
    | intro _
    | with_reducible assumption
    | (with_reducible apply keeps_off)
    | (with_reducible apply keeps_each)
    | (with_reducible apply keeps_seti)
    | (with_reducible apply keeps_refTake)
    | (with_reducible apply keeps_ite)
    | dsimp only
    | split

theorem keeps_loadSlices (h : Keeps r s) (n : Lane) : Keeps r (s.loadSlices n) := by
  unfold State.loadSlices
  repeat' first
    | intro _
    | with_reducible assumption
    | (with_reducible apply keeps_each)
    | (with_reducible apply keeps_set)
    | (with_reducible apply keeps_seti)
    | (with_reducible apply keeps_ite)
    | dsimp only
    | split

theorem keeps_startLoad (h : Keeps r s) (n : Lane) : Keeps r (s.startLoad n) := by
  unfold State.startLoad
  repeat' first
    | intro _
    | with_reducible assumption
    | (with_reducible apply keeps_setCal)
    | (with_reducible apply keeps_seedTx)
    | (with_reducible apply keeps_loadSlices)
    | (with_reducible apply keeps_ite)
    | (with_reducible apply keeps_mk)
    | (with_reducible apply keeps_mk_mem)
    | (with_reducible apply keeps_mk_snd)
    | (with_reducible apply keeps_mk_drew)

theorem keeps_calStart (h : Keeps r s) (n : Lane) (wake : Bool) : Keeps r (s.calStart n wake) := by
  unfold State.calStart
  repeat' first
    | intro _
    | with_reducible assumption
    | (with_reducible apply keeps_setRead)
    | (with_reducible apply keeps_ladderReset)
    | (with_reducible apply keeps_setCal)
    | (with_reducible apply keeps_slicesAll)
    | (with_reducible apply keeps_set)
    | (with_reducible apply keeps_startLoad)
    | (with_reducible apply keeps_ite)
    | (with_reducible apply keeps_mk)
    | (with_reducible apply keeps_mk_mem)
    | (with_reducible apply keeps_mk_snd)
    | (with_reducible apply keeps_mk_drew)

theorem keeps_wakeStart (h : Keeps r s) (k : PortId) : Keeps r (s.wakeStart k) := by
  unfold State.wakeStart
  repeat' first
    | intro _
    | with_reducible assumption
    | (with_reducible apply keeps_off)
    | (with_reducible apply keeps_pstateTo)
    | (with_reducible apply keeps_setPt)
    | (with_reducible apply keeps_onLanes)
    | (with_reducible apply keeps_setCal)
    | (with_reducible apply keeps_laneOn)
    | (with_reducible apply keeps_calStart)
    | (with_reducible apply keeps_ite)
    | (with_reducible apply keeps_mk)
    | (with_reducible apply keeps_mk_mem)
    | (with_reducible apply keeps_mk_snd)
    | (with_reducible apply keeps_mk_drew)

theorem keeps_wakeAsk (h : Keeps r s) (k : PortId) : Keeps r (s.wakeAsk k) := by
  unfold State.wakeAsk
  repeat' first
    | with_reducible assumption
    | (with_reducible apply keeps_off)
    | (with_reducible apply keeps_napDrop)
    | (with_reducible apply keeps_wakeStart)
    | (with_reducible apply keeps_reelRelease)
    | (with_reducible apply keeps_ite)

theorem keeps_wakeSendAsk (h : Keeps r s) (n : Lane) : Keeps r (s.wakeSendAsk n) := by
  unfold State.wakeSendAsk
  repeat' first
    | intro _
    | with_reducible assumption
    | (with_reducible apply keeps_on)
    | (with_reducible apply keeps_setKl)
    | (with_reducible apply keeps_wakeAsk)
    | (with_reducible apply keeps_mk)
    | (with_reducible apply keeps_mk_mem)
    | (with_reducible apply keeps_mk_snd)
    | (with_reducible apply keeps_mk_drew)

theorem keeps_kiteInjGone (h : Keeps r s) (n : Lane) : Keeps r (s.kiteInjGone n) := by
  unfold State.kiteInjGone
  repeat' first
    | with_reducible assumption
    | (with_reducible apply keeps_kiteAbort)
    | (with_reducible apply keeps_ite)

theorem keeps_kiteRxOff (h : Keeps r s) (n : Lane) : Keeps r (s.kiteRxOff n) := by
  unfold State.kiteRxOff
  repeat' first
    | intro _
    | with_reducible assumption
    | (with_reducible apply keeps_off)
    | (with_reducible apply keeps_setKl)
    | (with_reducible apply keeps_mk)
    | (with_reducible apply keeps_mk_mem)
    | (with_reducible apply keeps_mk_snd)
    | (with_reducible apply keeps_mk_drew)

theorem keeps_kiteOff (h : Keeps r s) (n : Lane) : Keeps r (s.kiteOff n) := by
  unfold State.kiteOff
  repeat' first
    | with_reducible assumption
    | (with_reducible apply keeps_kiteAbort)
    | (with_reducible apply keeps_kiteRxOff)

theorem keeps_kiteBegin (h : Keeps r s) (n : Lane) (path : Nat) (t : KiteTx) : Keeps r (s.kiteBegin n path t) := by
  unfold State.kiteBegin
  repeat' first
    | intro _
    | with_reducible assumption
    | (with_reducible apply keeps_on)
    | (with_reducible apply keeps_set)
    | (with_reducible apply keeps_setKl)
    | (with_reducible apply keeps_mk)
    | (with_reducible apply keeps_mk_mem)
    | (with_reducible apply keeps_mk_snd)
    | (with_reducible apply keeps_mk_drew)

theorem keeps_kitePacket (h : Keeps r s) (n : Lane) (path : Nat) (m : KiteMsg) : Keeps r (s.kitePacket n path m) := by
  unfold State.kitePacket
  repeat' first
    | intro _
    | with_reducible assumption
    | (with_reducible apply keeps_setKl)
    | (with_reducible apply keeps_kiteBegin)
    | (with_reducible apply keeps_ite)
    | (with_reducible apply keeps_mk)
    | (with_reducible apply keeps_mk_mem)
    | (with_reducible apply keeps_mk_snd)
    | (with_reducible apply keeps_mk_drew)

theorem keeps_kiteStart (h : Keeps r s) (n : Lane) : Keeps r (s.kiteStart n) := by
  unfold State.kiteStart
  repeat' first
    | with_reducible assumption
    | (with_reducible apply keeps_wakeAsk)
    | (with_reducible apply keeps_kiteBegin)
    | (with_reducible apply keeps_kitePacket)
    | (with_reducible apply keeps_ite)
    | dsimp only
    | split

theorem keeps_kiteEnd (h : Keeps r s) (n : Lane) : Keeps r (s.kiteEnd n) := by
  unfold State.kiteEnd
  repeat' first
    | with_reducible assumption
    | (with_reducible apply keeps_kiteStop)
    | (with_reducible apply keeps_inc)
    | (with_reducible apply keeps_kiteIdle)
    | dsimp only
    | split

theorem keeps_kiteQueue (h : Keeps r s) (n : Lane) (type : Nat) (payload : List Nat) (seq : Option Nat) : Keeps r (s.kiteQueue n type payload seq) := by
  unfold State.kiteQueue
  repeat' first
    | intro _
    | with_reducible assumption
    | (with_reducible apply keeps_setKl)
    | (with_reducible apply keeps_ite)
    | (with_reducible apply keeps_mk)
    | (with_reducible apply keeps_mk_mem)
    | (with_reducible apply keeps_mk_snd)
    | (with_reducible apply keeps_mk_drew)

theorem keeps_kiteRequest (h : Keeps r s) (n : Lane) (type : Nat) (payload : List Nat) : Keeps r (s.kiteRequest n type payload) := by
  unfold State.kiteRequest
  repeat' first
    | intro _
    | with_reducible assumption
    | (with_reducible apply keeps_setKl)
    | (with_reducible apply keeps_kiteQueue)
    | (with_reducible apply keeps_mk)
    | (with_reducible apply keeps_mk_mem)
    | (with_reducible apply keeps_mk_snd)
    | (with_reducible apply keeps_mk_drew)

theorem keeps_kiteAskOver (h : Keeps r s) (n : Lane) (type : Nat) : Keeps r (s.kiteAskOver n type) := by
  unfold State.kiteAskOver
  repeat' first
    | intro _
    | with_reducible assumption
    | (with_reducible apply keeps_setKl)
    | (with_reducible apply keeps_mk)
    | (with_reducible apply keeps_mk_mem)
    | (with_reducible apply keeps_mk_snd)
    | (with_reducible apply keeps_mk_drew)

theorem keeps_kiteRepeat (h : Keeps r s) (n : Lane) (type : Nat) : Keeps r (s.kiteRepeat n type) := by
  unfold State.kiteRepeat
  repeat' first
    | intro _
    | with_reducible assumption
    | (with_reducible apply keeps_kiteAskOver)
    | (with_reducible apply keeps_setKl)
    | (with_reducible apply keeps_kiteQueue)
    | (with_reducible apply keeps_ite)
    | dsimp only
    | split
    | (with_reducible apply keeps_mk)
    | (with_reducible apply keeps_mk_mem)
    | (with_reducible apply keeps_mk_snd)
    | (with_reducible apply keeps_mk_drew)

theorem keeps_kiteHear (h : Keeps r s) (n : Lane) (syms : List (List Int × Option Bool)) : Keeps r ((s.kiteHear n syms).1) := by
  have k : ∀ (l : List (List Int × Option Bool)) (p : State × List Int), Keeps r p.1 → Keeps r (l.foldl (fun a p =>
      let d := despread p.1
      let y := equalise (a.1.kl n) d
      let err : Int := (a.1.drawn 21 2 % 3 : Nat) - 1
      ((a.1.setKl n (fun k => equaliserStep k d err (p.2.getD (y < 0)))).drew, a.2 ++ [y])) p).1 := by
    intro l
    induction l with
    | nil => exact fun _ k => k
    | cons w t ih => exact fun p k => ih _ (keeps_drew (keeps_setKl k _ _))
  exact k syms (s, []) h

theorem keeps_kiteLead (h : Keeps r s) (n : Lane) (syms : List (List Int)) : Keeps r (s.kiteLead n syms) := by
  unfold State.kiteLead
  repeat' first
    | intro _
    | with_reducible assumption
    | (with_reducible apply keeps_setKl)
    | (with_reducible apply keeps_mk)
    | (with_reducible apply keeps_mk_mem)
    | (with_reducible apply keeps_mk_snd)
    | (with_reducible apply keeps_mk_drew)

theorem keeps_kiteWindow (h : Keeps r s) (n : Lane) (pattern : Nat) (syms : List (List Int)) : Keeps r ((s.kiteWindow n pattern syms).1) := by
  unfold State.kiteWindow
  repeat' first
    | with_reducible assumption
    | (with_reducible apply keeps_kiteLead)
    | (with_reducible apply keeps_kiteHear)

theorem keeps_kiteLock (h : Keeps r s) (n : Lane) (strength : Nat) : Keeps r (s.kiteLock n strength) := by
  unfold State.kiteLock
  repeat' first
    | intro _
    | with_reducible assumption
    | (with_reducible apply keeps_on)
    | (with_reducible apply keeps_setKl)
    | (with_reducible apply keeps_mk)
    | (with_reducible apply keeps_mk_mem)
    | (with_reducible apply keeps_mk_snd)
    | (with_reducible apply keeps_mk_drew)

theorem keeps_kiteDetect (h : Keeps r s) (n : Lane) (syms : List (List Int)) : Keeps r (s.kiteDetect n syms) := by
  unfold State.kiteDetect
  repeat' first
    | with_reducible assumption
    | (with_reducible apply keeps_kiteWindow)
    | (with_reducible apply keeps_kiteLock)
    | (with_reducible apply keeps_ite)

theorem keeps_kiteCapture (h : Keeps r s) (n : Lane) (syms : List (List Int)) : Keeps r (s.kiteCapture n syms) := by
  unfold State.kiteCapture
  repeat' first
    | with_reducible assumption
    | (with_reducible apply keeps_kiteWindow)
    | (with_reducible apply keeps_inc)
    | (with_reducible apply keeps_kiteLock)
    | (with_reducible apply keeps_ite)

theorem keeps_kiteSfd (h : Keeps r s) (n : Lane) (syms : List (List Int)) : Keeps r (s.kiteSfd n syms) := by
  unfold State.kiteSfd
  repeat' first
    | intro _
    | with_reducible assumption
    | (with_reducible apply keeps_kiteHear)
    | (with_reducible apply keeps_setKl)
    | (with_reducible apply keeps_ite)
    | dsimp only
    | split
    | (with_reducible apply keeps_mk)
    | (with_reducible apply keeps_mk_mem)
    | (with_reducible apply keeps_mk_snd)
    | (with_reducible apply keeps_mk_drew)

theorem keeps_kiteFalse (h : Keeps r s) (n : Lane) : Keeps r (s.kiteFalse n) := by
  unfold State.kiteFalse
  repeat' first
    | with_reducible assumption
    | (with_reducible apply keeps_inc)
    | (with_reducible apply keeps_kiteRxOff)

theorem keeps_kiteFalseIn (h : Keeps r s) (n : Lane) (window : List (List Int)) (heard : State) (hheard : Keeps r heard) : Keeps r (s.kiteFalseIn n window heard) := by
  unfold State.kiteFalseIn
  repeat' first
    | intro _
    | with_reducible assumption
    | (with_reducible apply hf)
    | (with_reducible apply keeps_kiteCapture)
    | (with_reducible apply keeps_kiteFalse)
    | (with_reducible apply keeps_ite)

theorem keeps_kiteNoSfd (h : Keeps r s) (n : Lane) (det : Nat) (syms : List (List Int)) : Keeps r (s.kiteNoSfd n det syms) := by
  unfold State.kiteNoSfd
  repeat' first
    | intro _
    | with_reducible assumption
    | (with_reducible apply keeps_kiteHear)
    | (with_reducible apply keeps_kiteFalseIn)
    | (with_reducible apply keeps_ite)
    | dsimp only
    | split

theorem keeps_kiteDrift (h : Keeps r s) (n : Lane) (m : Nat) : Keeps r (s.kiteDrift n m) := by
  unfold State.kiteDrift
  repeat' first
    | intro _
    | with_reducible assumption
    | (with_reducible apply keeps_setKl)
    | (with_reducible apply keeps_drew)
    | (with_reducible apply keeps_mk)
    | (with_reducible apply keeps_mk_mem)
    | (with_reducible apply keeps_mk_snd)
    | (with_reducible apply keeps_mk_drew)

theorem keeps_kiteHdr (h : Keeps r s) (n : Lane) (h : Nat) (window : List (List Int)) : Keeps r (s.kiteHdr n h window) := by
  unfold State.kiteHdr
  repeat' first
    | intro _
    | with_reducible assumption
    | (with_reducible apply keeps_kiteDrift)
    | (with_reducible apply keeps_setKl)
    | (with_reducible apply keeps_kiteFalseIn)
    | (with_reducible apply keeps_ite)
    | dsimp only
    | split
    | (with_reducible apply keeps_mk)
    | (with_reducible apply keeps_mk_mem)
    | (with_reducible apply keeps_mk_snd)
    | (with_reducible apply keeps_mk_drew)

theorem keeps_kiteCrcFail (h : Keeps r s) (n : Lane) : Keeps r (s.kiteCrcFail n) := by
  unfold State.kiteCrcFail
  repeat' first
    | intro _
    | with_reducible assumption
    | (with_reducible apply keeps_kiteDrift)
    | (with_reducible apply keeps_inc)
    | (with_reducible apply keeps_kiteRxOff)
    | (with_reducible apply keeps_ite)
    | dsimp only
    | split

theorem keeps_kiteDeliver (h : Keeps r s) (n : Lane) (h strength : Nat) : Keeps r (s.kiteDeliver n h strength) := by
  unfold State.kiteDeliver
  repeat' first
    | with_reducible assumption
    | (with_reducible apply keeps_kiteDrift)
    | (with_reducible apply keeps_inc)
    | (with_reducible apply keeps_kiteRxOff)
    | (with_reducible apply keeps_on)
    | (with_reducible apply keeps_set)
    | (with_reducible apply keeps_ite)

theorem keeps_kiteGood (h : Keeps r s) (n : Lane) (type : Nat) (payload : List Nat) (f : Nat → State → State) (hf : ∀ a t, Keeps r t → Keeps r (f a t)) : Keeps r (s.kiteGood n type payload f) := by
  unfold State.kiteGood
  repeat' first
    | intro _
    | with_reducible assumption
    | (with_reducible apply hf)
    | (with_reducible apply keeps_kiteDeliver)
    | dsimp only
    | split

theorem keeps_kiteBad (h : Keeps r s) (n : Lane) : Keeps r (s.kiteBad n) := by
  unfold State.kiteBad
  repeat' first
    | intro _
    | with_reducible assumption
    | (with_reducible apply keeps_kiteDrift)
    | (with_reducible apply keeps_on)
    | (with_reducible apply keeps_kiteRxOff)
    | (with_reducible apply keeps_ite)
    | dsimp only
    | split

theorem keeps_kiteSerial (h : Keeps r s) (n : Lane) (payload : List Nat) : Keeps r (s.kiteSerial n payload) := by
  unfold State.kiteSerial
  repeat' first
    | with_reducible assumption
    | (with_reducible apply keeps_set)
    | (with_reducible apply keeps_on)
    | (with_reducible apply keeps_ite)

theorem keeps_kiteUser (h : Keeps r s) (n : Lane) (h : Nat) (payload : List Nat) : Keeps r (s.kiteUser n h payload) := by
  unfold State.kiteUser
  repeat' first
    | intro _
    | with_reducible assumption
    | (with_reducible apply keeps_on)
    | (with_reducible apply keeps_each)
    | (with_reducible apply keeps_set)
    | (with_reducible apply keeps_ite)

theorem keeps_kiteCntClr (h : Keeps r s) (n : Lane) : Keeps r (s.kiteCntClr n) := by
  unfold State.kiteCntClr
  repeat' first
    | with_reducible assumption
    | (with_reducible apply keeps_off)

theorem keeps_bankReplace (h : Keeps r s) (n : Lane) : Keeps r (s.bankReplace n) := by
  unfold State.bankReplace
  repeat' first
    | intro _
    | with_reducible assumption
    | (with_reducible apply keeps_each)
    | (with_reducible apply keeps_set)

theorem keeps_shadowLoad (h : Keeps r s) (n : Lane) : Keeps r (s.shadowLoad n) := by
  unfold State.shadowLoad
  repeat' first
    | intro _
    | with_reducible assumption
    | (with_reducible apply keeps_each)
    | (with_reducible apply keeps_set)
    | (with_reducible apply keeps_off)
    | (with_reducible apply keeps_ite)

theorem keeps_swap (h : Keeps r s) (n : Lane) : Keeps r (s.swap n) := by
  unfold State.swap
  repeat' first
    | with_reducible assumption
    | (with_reducible apply keeps_on)
    | (with_reducible apply keeps_off)
    | (with_reducible apply keeps_setB)
    | (with_reducible apply keeps_ite)

theorem keeps_swapEnd (h : Keeps r s) (n : Lane) : Keeps r (s.swapEnd n) := by
  unfold State.swapEnd
  repeat' first
    | with_reducible assumption
    | (with_reducible apply keeps_off)

theorem keeps_swapReplace (h : Keeps r s) (n : Lane) : Keeps r (s.swapReplace n) := by
  unfold State.swapReplace
  repeat' first
    | with_reducible assumption
    | (with_reducible apply keeps_bankReplace)
    | (with_reducible apply keeps_swapEnd)
    | (with_reducible apply keeps_ite)

theorem keeps_swapStep (h : Keeps r s) (n : Lane) : Keeps r (s.swapStep n) := by
  unfold State.swapStep
  repeat' first
    | intro _
    | with_reducible assumption
    | (with_reducible apply keeps_each)
    | (with_reducible apply keeps_seti)
    | (with_reducible apply keeps_swapEnd)
    | (with_reducible apply keeps_ite)

theorem keeps_swingStep (h : Keeps r s) (n : Lane) : Keeps r (s.swingStep n) := by
  unfold State.swingStep
  repeat' first
    | with_reducible assumption
    | (with_reducible apply keeps_seti)
    | (with_reducible apply keeps_set)
    | (with_reducible apply keeps_ite)

theorem keeps_dacStepApply (h : Keeps r s) (n : Lane) (d : DacStep) : Keeps r (s.dacStepApply n d) := by
  unfold State.dacStepApply
  repeat' first
    | intro _
    | with_reducible assumption
    | (with_reducible apply keeps_set)
    | (with_reducible apply keeps_each)
    | dsimp only
    | split

theorem keeps_dacAnnounce (h : Keeps r s) (n : Lane) (d : DacStep) : Keeps r (s.dacAnnounce n d) := by
  unfold State.dacAnnounce
  repeat' first
    | intro _
    | with_reducible assumption
    | (with_reducible apply keeps_incWrap)
    | (with_reducible apply keeps_on)
    | (with_reducible apply keeps_setTx)
    | (with_reducible apply keeps_mk)
    | (with_reducible apply keeps_mk_mem)
    | (with_reducible apply keeps_mk_snd)
    | (with_reducible apply keeps_mk_drew)

theorem keeps_dacNextUp (h : Keeps r s) (n : Lane) : Keeps r (s.dacNextUp n) := by
  unfold State.dacNextUp
  repeat' first
    | intro _
    | with_reducible assumption
    | (with_reducible apply keeps_setTx)
    | (with_reducible apply keeps_dacAnnounce)
    | (with_reducible apply keeps_ite)
    | dsimp only
    | split
    | (with_reducible apply keeps_mk)
    | (with_reducible apply keeps_mk_mem)
    | (with_reducible apply keeps_mk_snd)
    | (with_reducible apply keeps_mk_drew)

theorem keeps_dacRequest (h : Keeps r s) (n : Lane) (d : DacStep) : Keeps r (s.dacRequest n d) := by
  unfold State.dacRequest
  repeat' first
    | intro _
    | with_reducible assumption
    | (with_reducible apply keeps_dacStepApply)
    | (with_reducible apply keeps_setTx)
    | (with_reducible apply keeps_dacNextUp)
    | (with_reducible apply keeps_ite)
    | (with_reducible apply keeps_mk)
    | (with_reducible apply keeps_mk_mem)
    | (with_reducible apply keeps_mk_snd)
    | (with_reducible apply keeps_mk_drew)

theorem keeps_dacExecute (h : Keeps r s) (n : Lane) : Keeps r (s.dacExecute n) := by
  unfold State.dacExecute
  repeat' first
    | with_reducible assumption
    | (with_reducible apply keeps_dacStepApply)
    | (with_reducible apply keeps_inc)
    | (with_reducible apply keeps_dacEnd)
    | (with_reducible apply keeps_dacNextUp)
    | (with_reducible apply keeps_ite)
    | dsimp only
    | split

theorem keeps_demandAll (h : Keeps r s) : Keeps r (s.demandAll) := by
  unfold State.demandAll
  repeat' first
    | intro _
    | with_reducible assumption
    | (with_reducible apply keeps_each)
    | (with_reducible apply keeps_demandEval)

theorem keeps_ampMove (h : Keeps r s) (n : Lane) (b : Nat) : Keeps r (s.ampMove n b) := by
  unfold State.ampMove
  repeat' first
    | intro _
    | with_reducible assumption
    | (with_reducible apply keeps_setTx)
    | (with_reducible apply keeps_ite)
    | (with_reducible apply keeps_mk)
    | (with_reducible apply keeps_mk_mem)
    | (with_reducible apply keeps_mk_snd)
    | (with_reducible apply keeps_mk_drew)

theorem keeps_rampArrive (h : Keeps r s) (n : Lane) : Keeps r (s.rampArrive n) := by
  unfold State.rampArrive
  repeat' first
    | with_reducible assumption
    | (with_reducible apply keeps_set)

theorem keeps_seqDemand (h : Keeps r s) (n : Lane) (b : Bool) : Keeps r (s.seqDemand n b) := by
  unfold State.seqDemand
  repeat' first
    | intro _
    | with_reducible assumption
    | (with_reducible apply keeps_setTx)
    | (with_reducible apply keeps_demandEval)
    | (with_reducible apply keeps_mk)
    | (with_reducible apply keeps_mk_mem)
    | (with_reducible apply keeps_mk_snd)
    | (with_reducible apply keeps_mk_drew)

theorem keeps_txcAnswer (h : Keeps r s) (n : Lane) (tag result items : Nat) : Keeps r (s.txcAnswer n tag result items) := by
  unfold State.txcAnswer
  repeat' first
    | intro _
    | with_reducible assumption
    | (with_reducible apply keeps_set)
    | (with_reducible apply keeps_inc)
    | (with_reducible apply keeps_setLoc)
    | (with_reducible apply keeps_locPlain)
    | dsimp only
    | split
    | (with_reducible apply keeps_mk)
    | (with_reducible apply keeps_mk_mem)
    | (with_reducible apply keeps_mk_snd)
    | (with_reducible apply keeps_mk_drew)

theorem keeps_txcRequest (h : Keeps r s) (n : Lane) (tag : Nat) (items : List TxcItem) : Keeps r (s.txcRequest n tag items) := by
  unfold State.txcRequest
  repeat' first
    | intro _
    | with_reducible assumption
    | (with_reducible apply keeps_txcAnswer)
    | (with_reducible apply keeps_setTx)
    | (with_reducible apply keeps_ite)
    | (with_reducible apply keeps_mk)
    | (with_reducible apply keeps_mk_mem)
    | (with_reducible apply keeps_mk_snd)
    | (with_reducible apply keeps_mk_drew)

theorem keeps_txcApply (h : Keeps r s) (n : Lane) : Keeps r (s.txcApply n) := by
  unfold State.txcApply
  repeat' first
    | intro _
    | with_reducible assumption
    | (with_reducible apply keeps_each)
    | (with_reducible apply keeps_seti)
    | (with_reducible apply keeps_off)
    | (with_reducible apply keeps_setTx)
    | (with_reducible apply keeps_setLoc)
    | (with_reducible apply keeps_txcAnswer)
    | dsimp only
    | split
    | (with_reducible apply keeps_mk)
    | (with_reducible apply keeps_mk_mem)
    | (with_reducible apply keeps_mk_snd)
    | (with_reducible apply keeps_mk_drew)

theorem keeps_txcSend (h : Keeps r s) (n : Lane) (items : List TxcItem) : Keeps r (s.txcSend n items) := by
  unfold State.txcSend
  repeat' first
    | intro _
    | with_reducible assumption
    | (with_reducible apply keeps_on)
    | (with_reducible apply keeps_locTagged)
    | (with_reducible apply keeps_setTx)
    | (with_reducible apply keeps_ite)
    | (with_reducible apply keeps_mk)
    | (with_reducible apply keeps_mk_mem)
    | (with_reducible apply keeps_mk_snd)
    | (with_reducible apply keeps_mk_drew)

theorem keeps_locAct (h : Keeps r s) (n : Lane) (type tag : Nat) (body : List Nat) : Keeps r (s.locAct n type tag body) := by
  unfold State.locAct
  repeat' first
    | intro _
    | with_reducible assumption
    | (with_reducible apply keeps_helloIn)
    | (with_reducible apply keeps_txcRequest)
    | (with_reducible apply keeps_txcDone)
    | (with_reducible apply keeps_daccalHeard)
    | (with_reducible apply keeps_setEq)
    | (with_reducible apply keeps_setLoc)
    | (with_reducible apply keeps_userIn)
    | dsimp only
    | split
    | (with_reducible apply keeps_mk)
    | (with_reducible apply keeps_mk_mem)
    | (with_reducible apply keeps_mk_snd)
    | (with_reducible apply keeps_mk_drew)

theorem keeps_locMessage (h : Keeps r s) (n : Lane) (prevail : Bool) (type tag : Nat) (body : List Nat) : Keeps r (s.locMessage n prevail type tag body) := by
  unfold State.locMessage
  repeat' first
    | with_reducible assumption
    | (with_reducible apply keeps_locBad)
    | (with_reducible apply keeps_locRepeat)
    | (with_reducible apply keeps_locAccept)
    | (with_reducible apply keeps_locAct)
    | (with_reducible apply keeps_ite)

theorem keeps_sfMessages (h : Keeps r s) (n : Lane) (slots : List (Nat × Nat × List Nat)) : Keeps r (s.sfMessages n slots) := by
  induction slots generalizing s with
  | nil => exact h
  | cons m rest ih => exact ih (keeps_locMessage h _ _ _ _ _)

theorem keeps_sfGood (h : Keeps r s) (n : Lane) (payload : List Nat) : Keeps r (s.sfGood n payload) := by
  unfold State.sfGood
  repeat' first
    | intro _
    | with_reducible assumption
    | (with_reducible apply keeps_count)
    | (with_reducible apply keeps_locBad)
    | (with_reducible apply keeps_set)
    | (with_reducible apply keeps_each)
    | (with_reducible apply keeps_locAcked)
    | (with_reducible apply keeps_sfMessages)
    | (with_reducible apply keeps_ite)
    | (with_reducible apply keeps_mk)
    | (with_reducible apply keeps_mk_mem)
    | (with_reducible apply keeps_mk_snd)
    | (with_reducible apply keeps_mk_drew)

theorem keeps_sfJudge (h : Keeps r s) (n : Lane) (same : Bool) : Keeps r (s.sfJudge n same) := by
  unfold State.sfJudge
  repeat' first
    | intro _
    | with_reducible assumption
    | (with_reducible apply keeps_on)
    | (with_reducible apply keeps_setLoc)
    | (with_reducible apply keeps_helloStart)
    | (with_reducible apply keeps_count)
    | (with_reducible apply keeps_sfLose)
    | (with_reducible apply keeps_sfGood)
    | (with_reducible apply keeps_ite)
    | (with_reducible apply keeps_mk)
    | (with_reducible apply keeps_mk_mem)
    | (with_reducible apply keeps_mk_snd)
    | (with_reducible apply keeps_mk_drew)

theorem keeps_superframe (h : Keeps r s) (n : Lane) : Keeps r (s.superframe n) := by
  unfold State.superframe
  repeat' first
    | intro _
    | with_reducible assumption
    | (with_reducible apply keeps_setLoc)
    | (with_reducible apply keeps_boostCount)
    | (with_reducible apply keeps_sfJudge)
    | (with_reducible apply keeps_ite)
    | (with_reducible apply keeps_mk)
    | (with_reducible apply keeps_mk_mem)
    | (with_reducible apply keeps_mk_snd)
    | (with_reducible apply keeps_mk_drew)

theorem keeps_sfSent (h : Keeps r s) (n : Lane) (ms : List LocMsg) : Keeps r (s.sfSent n ms) := by
  unfold State.sfSent
  repeat' first
    | intro _
    | with_reducible assumption
    | (with_reducible apply keeps_setLoc)
    | (with_reducible apply keeps_ite)
    | (with_reducible apply keeps_mk)
    | (with_reducible apply keeps_mk_mem)
    | (with_reducible apply keeps_mk_snd)
    | (with_reducible apply keeps_mk_drew)

theorem keeps_sinceTxc (h : Keeps r s) (n : Lane) : Keeps r (s.sinceTxc n) := by
  unfold State.sinceTxc
  repeat' first
    | with_reducible assumption
    | (with_reducible apply keeps_set)

theorem keeps_sfSend (h : Keeps r s) (n : Lane) : Keeps r (s.sfSend n) := by
  unfold State.sfSend
  repeat' first
    | intro _
    | with_reducible assumption
    | (with_reducible apply keeps_sinceTxc)
    | (with_reducible apply keeps_dacNextUp)
    | (with_reducible apply keeps_sfSent)
    | (with_reducible apply keeps_setLoc)
    | (with_reducible apply keeps_setTx)
    | (with_reducible apply keeps_set)
    | (with_reducible apply keeps_off)
    | (with_reducible apply keeps_ite)
    | (with_reducible apply keeps_mk)
    | (with_reducible apply keeps_mk_mem)
    | (with_reducible apply keeps_mk_snd)
    | (with_reducible apply keeps_mk_drew)

theorem keeps_userDrop (h : Keeps r s) (n : Lane) : Keeps r (s.userDrop n) := by
  unfold State.userDrop
  repeat' first
    | intro _
    | with_reducible assumption
    | (with_reducible apply keeps_setLoc)
    | (with_reducible apply keeps_mk)
    | (with_reducible apply keeps_mk_mem)
    | (with_reducible apply keeps_mk_snd)
    | (with_reducible apply keeps_mk_drew)

theorem keeps_userSend (h : Keeps r s) (n : Lane) : Keeps r (s.userSend n) := by
  unfold State.userSend
  repeat' first
    | intro _
    | with_reducible assumption
    | (with_reducible apply keeps_userDrop)
    | (with_reducible apply keeps_on)
    | (with_reducible apply keeps_locTagged)
    | (with_reducible apply keeps_off)
    | (with_reducible apply keeps_locPlain)
    | (with_reducible apply keeps_ite)

theorem keeps_flushAll (h : Keeps r s) : Keeps r (s.flushAll) := by
  unfold State.flushAll
  repeat' first
    | intro _
    | with_reducible assumption
    | (with_reducible apply keeps_each)
    | (with_reducible apply keeps_flushOut)

theorem keeps_memTouch (h : Keeps r s) (i w : Nat) (e : SprEcc) : Keeps r (s.memTouch i w e) := by
  unfold State.memTouch
  repeat' first
    | with_reducible assumption
    | (with_reducible apply keeps_readHit)
    | (with_reducible apply keeps_memCount)
    | (with_reducible apply keeps_memCheck)

theorem keeps_memRead (h : Keeps r s) (i a n : Nat) (e : SprEcc) : Keeps r (s.memRead i a n e) := by
  unfold State.memRead
  repeat' first
    | intro _
    | with_reducible assumption
    | (with_reducible apply keeps_respond)
    | (with_reducible apply keeps_accessError)
    | (with_reducible apply keeps_readHit)
    | (with_reducible apply keeps_memTouch)
    | (with_reducible apply keeps_ite)
    | dsimp only
    | split

theorem keeps_memMerge (h : Keeps r s) (a n v : Nat) : Keeps r (s.memMerge a n v) := by
  have hw : ∀ (x : MergeEntry) (t : State), Keeps r t →
      Keeps r (if x.mask = 0xFF then State.flushEntry { t with mem := { t.mem with
          merge := (t.mem.merge.filter (fun y => y.addr != wordOf a)).take 7 ++ [x],
          history := t.mem.history.filter (fun h => h.2.1 != wordOf a) } } x
        else { t with mem := { t.mem with
          merge := (t.mem.merge.filter (fun y => y.addr != wordOf a)).take 7 ++ [x],
          history := t.mem.history.filter (fun h => h.2.1 != wordOf a) } }) := by
    intro x t ht
    have k : Keeps r { t with mem := { t.mem with
        merge := (t.mem.merge.filter (fun y => y.addr != wordOf a)).take 7 ++ [x],
        history := t.mem.history.filter (fun h => h.2.1 != wordOf a) } } :=
      ⟨ht.variant, ht.pending, ht.fresh, fun i => by
        have j := ht.inv i
        refine ⟨j.memory, ?_, j.fifo, j.time, j.regs, j.flash⟩
        simp only [List.length_append, List.length_take, List.length_cons, List.length_nil]
        omega⟩
    exact keeps_ite (keeps_flushEntry k _) k
  unfold State.memMerge
  dsimp only
  split
  · exact hw _ s h
  · split
    · exact hw _ _ (keeps_ite h (keeps_flushOut h _ _))
    · exact hw _ s h

theorem keeps_memWrite (h : Keeps r s) (i a n v : Nat) : Keeps r (s.memWrite i a n v) := by
  unfold State.memWrite
  repeat' first
    | with_reducible assumption
    | (with_reducible apply keeps_respond)
    | (with_reducible apply keeps_accessError)
    | (with_reducible apply keeps_memPut64)
    | (with_reducible apply keeps_memMerge)
    | (with_reducible apply keeps_ite)
    | dsimp only
    | split

theorem keeps_mergeIdle (h : Keeps r s) (w : Nat) (e : SprEcc) : Keeps r (s.mergeIdle w e) := by
  unfold State.mergeIdle
  repeat' first
    | with_reducible assumption
    | (with_reducible apply keeps_flushOut)

theorem keeps_bucketLeak (h : Keeps r s) : Keeps r (s.bucketLeak) := by
  unfold State.bucketLeak
  repeat' first
    | intro _
    | with_reducible assumption
    | (with_reducible apply keeps_each)
    | (with_reducible apply keeps_set)
    | (with_reducible apply keeps_ite)
    | (with_reducible apply keeps_mk)
    | (with_reducible apply keeps_mk_mem)
    | (with_reducible apply keeps_mk_snd)
    | (with_reducible apply keeps_mk_drew)

theorem keeps_patrolled (h : Keeps r s) (key : Nat) : Keeps r (s.patrolled key) := by
  unfold State.patrolled
  repeat' first
    | intro _
    | with_reducible assumption
    | (with_reducible apply keeps_mk)
    | (with_reducible apply keeps_mk_mem)
    | (with_reducible apply keeps_mk_snd)
    | (with_reducible apply keeps_mk_drew)

theorem keeps_scrub (h : Keeps r s) (w : Nat) (e : SprEcc) : Keeps r (s.scrub w e) := by
  unfold State.scrub
  repeat' first
    | with_reducible assumption
    | (with_reducible apply keeps_patrolled)
    | (with_reducible apply keeps_memTouch)
    | (with_reducible apply keeps_ite)

theorem keeps_scrubSpare (h : Keeps r s) (b k : Nat) (e : SprEcc) : Keeps r (s.scrubSpare b k e) := by
  unfold State.scrubSpare
  repeat' first
    | intro _
    | with_reducible assumption
    | (with_reducible apply keeps_patrolled)
    | (with_reducible apply keeps_memTouch)
    | (with_reducible apply keeps_inc)
    | (with_reducible apply keeps_set)
    | (with_reducible apply keeps_on)
    | (with_reducible apply keeps_countEvent)
    | (with_reducible apply keeps_bucketUp)
    | (with_reducible apply keeps_drew)
    | (with_reducible apply keeps_alarm)
    | (with_reducible apply keeps_ite)
    | dsimp only
    | split

theorem keeps_sramFill (h : Keeps r s) : Keeps r (s.sramFill) := by
  unfold State.sramFill
  dsimp only
  refine keeps_setMem ?_ _ (fun k => filter_wf _ _ k) (fun k => Nat.le_trans (List.length_filter_le _ _) k)
  exact keeps_on (keeps_each (keeps_each h _ _ (fun _ _ k => keeps_set k _ _)) _ _ (fun _ _ k => keeps_set k _ _)) _

theorem keeps_qdrTrained (h : Keeps r s) (ok : Bool) : Keeps r (s.qdrTrained ok) := by
  unfold State.qdrTrained
  split
  · exact h
  · split
    · exact keeps_on (keeps_setMem h _ (fun k => filter_wf _ _ k) (fun k => Nat.le_trans (List.length_filter_le _ _) k)) _
    · exact keeps_alarm (keeps_on h _) _ _ _

theorem keeps_qdrPower (h : Keeps r s) : Keeps r (s.qdrPower) := by
  unfold State.qdrPower
  repeat' first
    | intro _
    | with_reducible assumption
    | (with_reducible apply keeps_each)
    | (with_reducible apply keeps_flushOut)
    | (with_reducible apply keeps_off)
    | (with_reducible apply keeps_ite)

theorem keeps_upsets (h : Keeps r s) : Keeps r (s.upsets) := by
  unfold State.upsets
  repeat' first
    | intro _
    | with_reducible assumption
    | (with_reducible apply keeps_ite)
    | (with_reducible apply keeps_mk)
    | (with_reducible apply keeps_mk_mem)
    | (with_reducible apply keeps_mk_snd)
    | (with_reducible apply keeps_mk_drew)

theorem keeps_memCntClr (h : Keeps r s) : Keeps r (s.memCntClr) := by
  unfold State.memCntClr
  repeat' first
    | intro _
    | with_reducible assumption
    | (with_reducible apply keeps_off)
    | (with_reducible apply keeps_each)

theorem keeps_rejected (h : Keeps r s) (n : Lane) (unit q : Nat) : Keeps r (s.rejected n unit q) := by
  unfold State.rejected
  repeat' first
    | with_reducible assumption
    | (with_reducible apply keeps_inc)
    | (with_reducible apply keeps_on)
    | (with_reducible apply keeps_set)

theorem keeps_refRejected (h : Keeps r s) (n : Lane) (unit q : Nat) : Keeps r (s.refRejected n unit q) := by
  unfold State.refRejected
  repeat' first
    | intro _
    | with_reducible assumption
    | (with_reducible apply keeps_setCal)
    | (with_reducible apply keeps_rejected)
    | (with_reducible apply keeps_mk)
    | (with_reducible apply keeps_mk_mem)
    | (with_reducible apply keeps_mk_snd)
    | (with_reducible apply keeps_mk_drew)

theorem keeps_refAccepted (h : Keeps r s) (n : Lane) (unit q : Nat) : Keeps r (s.refAccepted n unit q) := by
  unfold State.refAccepted
  repeat' first
    | intro _
    | with_reducible assumption
    | (with_reducible apply keeps_setCal)
    | (with_reducible apply keeps_mk)
    | (with_reducible apply keeps_mk_mem)
    | (with_reducible apply keeps_mk_snd)
    | (with_reducible apply keeps_mk_drew)

theorem keeps_dacJudge (h : Keeps r s) (n : Lane) (j : Nat) : Keeps r (s.dacJudge n j) := by
  unfold State.dacJudge
  repeat' first
    | intro _
    | with_reducible assumption
    | (with_reducible apply keeps_setCal)
    | (with_reducible apply keeps_ite)
    | (with_reducible apply keeps_mk)
    | (with_reducible apply keeps_mk_mem)
    | (with_reducible apply keeps_mk_snd)
    | (with_reducible apply keeps_mk_drew)

theorem keeps_correct (h : Keeps r s) (n : Lane) (i q : Nat) (v : Int) : Keeps r (s.correct n i q v) := by
  unfold State.correct
  repeat' first
    | intro _
    | with_reducible assumption
    | (with_reducible apply keeps_setCal)
    | (with_reducible apply keeps_set)
    | (with_reducible apply keeps_ite)
    | (with_reducible apply keeps_mk)
    | (with_reducible apply keeps_mk_mem)
    | (with_reducible apply keeps_mk_snd)
    | (with_reducible apply keeps_mk_drew)

theorem keeps_refResult (h : Keeps r s) (n : Lane) (i : Nat) (vs : List Int) : Keeps r (s.refResult n i vs) := by
  unfold State.refResult
  repeat' first
    | intro _
    | with_reducible assumption
    | (with_reducible apply keeps_each)
    | (with_reducible apply keeps_correct)
    | (with_reducible apply keeps_accRestart)
    | (with_reducible apply keeps_refAccepted)
    | (with_reducible apply keeps_refRejected)
    | (with_reducible apply keeps_ite)

theorem keeps_correctBeat (h : Keeps r s) (n : Lane) : Keeps r (s.correctBeat n) := by
  unfold State.correctBeat
  repeat' first
    | intro _
    | with_reducible assumption
    | (with_reducible apply keeps_setCal)
    | (with_reducible apply keeps_ite)
    | (with_reducible apply keeps_mk)
    | (with_reducible apply keeps_mk_mem)
    | (with_reducible apply keeps_mk_snd)
    | (with_reducible apply keeps_mk_drew)

theorem keeps_slicesServe (h : Keeps r s) (n : Lane) : Keeps r (s.slicesServe n) := by
  unfold State.slicesServe
  repeat' first
    | intro _
    | with_reducible assumption
    | (with_reducible apply keeps_each)
    | (with_reducible apply keeps_sliceTo)
    | (with_reducible apply keeps_setB)
    | (with_reducible apply keeps_ite)
    | dsimp only
    | split

theorem keeps_suspect (h : Keeps r s) (n : Lane) (i : Nat) : Keeps r (s.suspect n i) := by
  unfold State.suspect
  repeat' first
    | with_reducible assumption
    | (with_reducible apply keeps_sliceTo)
    | (with_reducible apply keeps_on)
    | (with_reducible apply keeps_alarm)
    | (with_reducible apply keeps_ite)

theorem keeps_noSpare (h : Keeps r s) (n : Lane) (i : Nat) : Keeps r (s.noSpare n i) := by
  unfold State.noSpare
  repeat' first
    | intro _
    | with_reducible assumption
    | (with_reducible apply keeps_setCal)
    | (with_reducible apply keeps_on)
    | (with_reducible apply keeps_alarm)
    | (with_reducible apply keeps_ite)
    | (with_reducible apply keeps_mk)
    | (with_reducible apply keeps_mk_mem)
    | (with_reducible apply keeps_mk_snd)
    | (with_reducible apply keeps_mk_drew)

theorem keeps_condemn (h : Keeps r s) (n : Lane) (i : Nat) : Keeps r (s.condemn n i) := by
  unfold State.condemn
  repeat' first
    | with_reducible assumption
    | (with_reducible apply keeps_noSpare)
    | (with_reducible apply keeps_suspect)
    | (with_reducible apply keeps_ite)

theorem keeps_tokenSpend (h : Keeps r s) (n : Lane) : Keeps r (s.tokenSpend n) := by
  unfold State.tokenSpend
  repeat' first
    | intro _
    | with_reducible assumption
    | (with_reducible apply keeps_setCal)
    | (with_reducible apply keeps_mk)
    | (with_reducible apply keeps_mk_mem)
    | (with_reducible apply keeps_mk_snd)
    | (with_reducible apply keeps_mk_drew)

theorem keeps_capture (h : Keeps r s) (n : Lane) (full : Bool) (t : Int) : Keeps r (s.capture n full t) := by
  unfold State.capture
  repeat' first
    | intro _
    | with_reducible assumption
    | (with_reducible apply keeps_setRead)
    | (with_reducible apply keeps_memPutBytes)
    | (with_reducible apply keeps_setCal)
    | (with_reducible apply keeps_ite)
    | (with_reducible apply keeps_mk)
    | (with_reducible apply keeps_mk_mem)
    | (with_reducible apply keeps_mk_snd)
    | (with_reducible apply keeps_mk_drew)

theorem keeps_runComplete (h : Keeps r s) (n : Lane) (rotation : Bool) : Keeps r (s.runComplete n rotation) := by
  unfold State.runComplete
  repeat' first
    | with_reducible assumption
    | (with_reducible apply keeps_seti)
    | (with_reducible apply keeps_capture)

theorem keeps_pdTry (h : Keeps r s) (n : Lane) : Keeps r (s.pdTry n) := by
  unfold State.pdTry
  repeat' first
    | intro _
    | with_reducible assumption
    | (with_reducible apply keeps_setCal)
    | (with_reducible apply keeps_tokenSpend)
    | (with_reducible apply keeps_dacRequest)
    | (with_reducible apply keeps_ite)
    | dsimp only
    | split
    | (with_reducible apply keeps_mk)
    | (with_reducible apply keeps_mk_mem)
    | (with_reducible apply keeps_mk_snd)
    | (with_reducible apply keeps_mk_drew)

theorem keeps_interpolate (h : Keeps r s) (n : Lane) : Keeps r (s.interpolate n) := by
  unfold State.interpolate
  repeat' first
    | intro _
    | with_reducible assumption
    | (with_reducible apply keeps_refRejected)
    | (with_reducible apply keeps_setCal)
    | (with_reducible apply keeps_refAccepted)
    | (with_reducible apply keeps_pdTry)
    | (with_reducible apply keeps_ite)
    | dsimp only
    | split
    | (with_reducible apply keeps_mk)
    | (with_reducible apply keeps_mk_mem)
    | (with_reducible apply keeps_mk_snd)
    | (with_reducible apply keeps_mk_drew)

theorem keeps_dacEstimate (h : Keeps r s) (n : Lane) (j : Fin 4) (gain off : Int) : Keeps r (s.dacEstimate n j gain off) := by
  unfold State.dacEstimate
  repeat' first
    | intro _
    | with_reducible assumption
    | (with_reducible apply keeps_off)
    | (with_reducible apply keeps_refAccepted)
    | (with_reducible apply keeps_refRejected)
    | (with_reducible apply keeps_dacJudge)
    | (with_reducible apply keeps_setCal)
    | (with_reducible apply keeps_tokenSpend)
    | (with_reducible apply keeps_dacRequest)
    | (with_reducible apply keeps_ite)
    | (with_reducible apply keeps_mk)
    | (with_reducible apply keeps_mk_mem)
    | (with_reducible apply keeps_mk_snd)
    | (with_reducible apply keeps_mk_drew)

theorem keeps_slotEnd (h : Keeps r s) (n : Lane) : Keeps r (s.slotEnd n) := by
  unfold State.slotEnd
  repeat' first
    | intro _
    | with_reducible assumption
    | (with_reducible apply keeps_off)
    | (with_reducible apply keeps_setCal)
    | (with_reducible apply keeps_inc)
    | (with_reducible apply keeps_runComplete)
    | (with_reducible apply keeps_ite)
    | (with_reducible apply keeps_mk)
    | (with_reducible apply keeps_mk_mem)
    | (with_reducible apply keeps_mk_snd)
    | (with_reducible apply keeps_mk_drew)

theorem keeps_slotBegin (h : Keeps r s) (n : Lane) (us : Nat) : Keeps r (s.slotBegin n us) := by
  unfold State.slotBegin
  repeat' first
    | intro _
    | with_reducible assumption
    | (with_reducible apply keeps_setCal)
    | (with_reducible apply keeps_set)
    | (with_reducible apply keeps_on)
    | (with_reducible apply keeps_tokenSpend)
    | (with_reducible apply keeps_sliceTo)
    | (with_reducible apply keeps_ite)
    | dsimp only
    | split
    | (with_reducible apply keeps_mk)
    | (with_reducible apply keeps_mk_mem)
    | (with_reducible apply keeps_mk_snd)
    | (with_reducible apply keeps_mk_drew)

theorem keeps_handover (h : Keeps r s) (n : Lane) : Keeps r (s.handover n) := by
  unfold State.handover
  repeat' first
    | intro _
    | with_reducible assumption
    | (with_reducible apply keeps_setRx)
    | (with_reducible apply keeps_sliceTo)
    | (with_reducible apply keeps_handMark)
    | (with_reducible apply keeps_setCal)
    | (with_reducible apply keeps_ite)
    | (with_reducible apply keeps_mk)
    | (with_reducible apply keeps_mk_mem)
    | (with_reducible apply keeps_mk_snd)
    | (with_reducible apply keeps_mk_drew)

theorem keeps_measured (h : Keeps r s) (n : Lane) (vs : List Int) : Keeps r (s.measured n vs) := by
  unfold State.measured
  repeat' first
    | intro _
    | with_reducible assumption
    | (with_reducible apply keeps_refResult)
    | (with_reducible apply keeps_suspect)
    | (with_reducible apply keeps_slotEnd)
    | (with_reducible apply keeps_sliceTo)
    | (with_reducible apply keeps_setCal)
    | (with_reducible apply keeps_ite)
    | (with_reducible apply keeps_mk)
    | (with_reducible apply keeps_mk_mem)
    | (with_reducible apply keeps_mk_snd)
    | (with_reducible apply keeps_mk_drew)

theorem keeps_sliceBack (h : Keeps r s) (n : Lane) : Keeps r (s.sliceBack n) := by
  unfold State.sliceBack
  repeat' first
    | intro _
    | with_reducible assumption
    | (with_reducible apply keeps_setRx)
    | (with_reducible apply keeps_sliceTo)
    | (with_reducible apply keeps_handMark)
    | (with_reducible apply keeps_slotEnd)
    | (with_reducible apply keeps_ite)
    | (with_reducible apply keeps_mk)
    | (with_reducible apply keeps_mk_mem)
    | (with_reducible apply keeps_mk_snd)
    | (with_reducible apply keeps_mk_drew)

theorem keeps_changeKeep (h : Keeps r s) (n : Lane) (i : Nat) (raw : List Int) : Keeps r (s.changeKeep n i raw) := by
  unfold State.changeKeep
  repeat' first
    | intro _
    | with_reducible assumption
    | (with_reducible apply keeps_setCal)
    | (with_reducible apply keeps_ite)
    | (with_reducible apply keeps_mk)
    | (with_reducible apply keeps_mk_mem)
    | (with_reducible apply keeps_mk_snd)
    | (with_reducible apply keeps_mk_drew)

theorem keeps_ladderStep (h : Keeps r s) (n : Lane) (i : Nat) (sg : Int) : Keeps r (s.ladderStep n i sg) := by
  unfold State.ladderStep
  repeat' first
    | intro _
    | with_reducible assumption
    | (with_reducible apply keeps_setCal)
    | (with_reducible apply keeps_showLadder)
    | (with_reducible apply keeps_ite)
    | (with_reducible apply keeps_mk)
    | (with_reducible apply keeps_mk_mem)
    | (with_reducible apply keeps_mk_snd)
    | (with_reducible apply keeps_mk_drew)

theorem keeps_refineApply (h : Keeps r s) (n : Lane) (i : Nat) (a : SliceAcc) : Keeps r (s.refineApply n i a) := by
  unfold State.refineApply
  repeat' first
    | intro _
    | with_reducible assumption
    | (with_reducible apply keeps_each)
    | (with_reducible apply keeps_correct)
    | (with_reducible apply keeps_rejected)
    | (with_reducible apply keeps_changeKeep)
    | (with_reducible apply keeps_ladderStep)
    | (with_reducible apply keeps_accRestart)
    | (with_reducible apply keeps_drew)
    | (with_reducible apply keeps_ite)

theorem keeps_refine (h : Keeps r s) (n : Lane) (i : Nat) : Keeps r (s.refine n i) := by
  unfold State.refine
  repeat' first
    | with_reducible assumption
    | (with_reducible apply keeps_refineApply)
    | (with_reducible apply keeps_ite)

theorem keeps_sampleTake (h : Keeps r s) (n : Lane) (x : Nat × SliceAcc) : Keeps r (s.sampleTake n x) := by
  unfold State.sampleTake
  repeat' first
    | intro _
    | with_reducible assumption
    | (with_reducible apply keeps_setCal)
    | (with_reducible apply keeps_refine)
    | (with_reducible apply keeps_ite)
    | (with_reducible apply keeps_mk)
    | (with_reducible apply keeps_mk_mem)
    | (with_reducible apply keeps_mk_snd)
    | (with_reducible apply keeps_mk_drew)

theorem keeps_windowEnd (h : Keeps r s) (n : Lane) : Keeps r (s.windowEnd n) := by
  unfold State.windowEnd
  repeat' first
    | intro _
    | with_reducible assumption
    | (with_reducible apply keeps_setCal)
    | (with_reducible apply keeps_each)
    | (with_reducible apply keeps_sampleTake)
    | (with_reducible apply keeps_inc)
    | (with_reducible apply keeps_countEvent)
    | (with_reducible apply keeps_ite)
    | (with_reducible apply keeps_mk)
    | (with_reducible apply keeps_mk_mem)
    | (with_reducible apply keeps_mk_snd)
    | (with_reducible apply keeps_mk_drew)

theorem keeps_inServiceEnd (h : Keeps r s) (n : Lane) : Keeps r (s.inServiceEnd n) := by
  unfold State.inServiceEnd
  repeat' first
    | intro _
    | with_reducible assumption
    | (with_reducible apply keeps_slotEnd)
    | (with_reducible apply keeps_changeKeep)
    | (with_reducible apply keeps_ladderStep)
    | (with_reducible apply keeps_refResult)
    | (with_reducible apply keeps_condemn)
    | (with_reducible apply keeps_drew)
    | (with_reducible apply keeps_ite)

theorem keeps_seedRx (h : Keeps r s) (n : Lane) : Keeps r (s.seedRx n) := by
  unfold State.seedRx
  repeat' first
    | intro _
    | with_reducible assumption
    | (with_reducible apply keeps_setRead)
    | (with_reducible apply keeps_setEq)
    | (with_reducible apply keeps_off)
    | (with_reducible apply keeps_each)
    | (with_reducible apply keeps_coefSet)
    | (with_reducible apply keeps_set)
    | (with_reducible apply keeps_ite)
    | dsimp only
    | split
    | (with_reducible apply keeps_mk)
    | (with_reducible apply keeps_mk_mem)
    | (with_reducible apply keeps_mk_snd)
    | (with_reducible apply keeps_mk_drew)

theorem keeps_startResume (h : Keeps r s) (n : Lane) : Keeps r (s.startResume n) := by
  unfold State.startResume
  repeat' first
    | with_reducible assumption
    | (with_reducible apply keeps_startLoad)
    | (with_reducible apply keeps_ite)

theorem keeps_calReady (h : Keeps r s) (n : Lane) : Keeps r (s.calReady n) := by
  unfold State.calReady
  repeat' first
    | intro _
    | with_reducible assumption
    | (with_reducible apply keeps_slicesServe)
    | (with_reducible apply keeps_off)
    | (with_reducible apply keeps_setCal)
    | (with_reducible apply keeps_mk)
    | (with_reducible apply keeps_mk_mem)
    | (with_reducible apply keeps_mk_snd)
    | (with_reducible apply keeps_mk_drew)

theorem keeps_calAbort (h : Keeps r s) (n : Lane) : Keeps r (s.calAbort n) := by
  unfold State.calAbort
  repeat' first
    | intro _
    | with_reducible assumption
    | (with_reducible apply keeps_setCal)
    | (with_reducible apply keeps_off)
    | (with_reducible apply keeps_ite)
    | (with_reducible apply keeps_mk)
    | (with_reducible apply keeps_mk_mem)
    | (with_reducible apply keeps_mk_snd)
    | (with_reducible apply keeps_mk_drew)

theorem keeps_foreground (h : Keeps r s) (n : Lane) (slices : List (Nat × List Int)) (trims : List (Nat × Int × Int)) (skews : List (Nat × Int)) : Keeps r (s.foreground n slices trims skews) := by
  unfold State.foreground
  repeat' first
    | intro _
    | with_reducible assumption
    | (with_reducible apply keeps_each)
    | (with_reducible apply keeps_refResult)
    | (with_reducible apply keeps_set)
    | (with_reducible apply keeps_refAccepted)
    | (with_reducible apply keeps_refRejected)
    | (with_reducible apply keeps_seti)
    | (with_reducible apply keeps_dacJudge)
    | (with_reducible apply keeps_condemn)
    | (with_reducible apply keeps_setCal)
    | (with_reducible apply keeps_calReady)
    | (with_reducible apply keeps_runComplete)
    | (with_reducible apply keeps_ite)
    | (with_reducible apply keeps_mk)
    | (with_reducible apply keeps_mk_mem)
    | (with_reducible apply keeps_mk_snd)
    | (with_reducible apply keeps_mk_drew)

theorem keeps_verified (h : Keeps r s) (n : Lane) (meas : List (Nat × Int × Int)) : Keeps r (s.verified n meas) := by
  unfold State.verified
  repeat' first
    | intro _
    | with_reducible assumption
    | (with_reducible apply keeps_calReady)
    | (with_reducible apply keeps_seti)
    | (with_reducible apply keeps_on)
    | (with_reducible apply keeps_set)
    | (with_reducible apply keeps_ladderReset)
    | (with_reducible apply keeps_setCal)
    | (with_reducible apply keeps_ite)
    | (with_reducible apply keeps_mk)
    | (with_reducible apply keeps_mk_mem)
    | (with_reducible apply keeps_mk_snd)
    | (with_reducible apply keeps_mk_drew)

theorem keeps_refreshAsk (h : Keeps r s) (n : Lane) : Keeps r (s.refreshAsk n) := by
  unfold State.refreshAsk
  repeat' first
    | with_reducible assumption
    | (with_reducible apply keeps_on)

theorem keeps_calTemp (h : Keeps r s) (n : Lane) : Keeps r (s.calTemp n) := by
  unfold State.calTemp
  repeat' first
    | with_reducible assumption
    | (with_reducible apply keeps_refreshAsk)
    | (with_reducible apply keeps_ite)

theorem keeps_refreshStart (h : Keeps r s) (n : Lane) : Keeps r (s.refreshStart n) := by
  unfold State.refreshStart
  repeat' first
    | intro _
    | with_reducible assumption
    | (with_reducible apply keeps_set)
    | (with_reducible apply keeps_setCal)
    | (with_reducible apply keeps_ladderReset)
    | (with_reducible apply keeps_interpolate)
    | (with_reducible apply keeps_ite)
    | (with_reducible apply keeps_mk)
    | (with_reducible apply keeps_mk_mem)
    | (with_reducible apply keeps_mk_snd)
    | (with_reducible apply keeps_mk_drew)

theorem keeps_refreshEnd (h : Keeps r s) (n : Lane) : Keeps r (s.refreshEnd n) := by
  unfold State.refreshEnd
  repeat' first
    | with_reducible assumption
    | (with_reducible apply keeps_off)
    | (with_reducible apply keeps_inc)
    | (with_reducible apply keeps_set)
    | (with_reducible apply keeps_runComplete)
    | (with_reducible apply keeps_refreshAsk)
    | (with_reducible apply keeps_ite)

theorem keeps_calQuiesce (h : Keeps r s) (n : Lane) : Keeps r (s.calQuiesce n) := by
  unfold State.calQuiesce
  repeat' first
    | intro _
    | with_reducible assumption
    | (with_reducible apply keeps_slotAbandon)
    | (with_reducible apply keeps_setTx)
    | (with_reducible apply keeps_setCal)
    | (with_reducible apply keeps_mk)
    | (with_reducible apply keeps_mk_mem)
    | (with_reducible apply keeps_mk_snd)
    | (with_reducible apply keeps_mk_drew)

theorem keeps_tokenWait (h : Keeps r s) (k : PortId) (b : Bool) : Keeps r (s.tokenWait k b) := by
  unfold State.tokenWait
  repeat' first
    | intro _
    | with_reducible assumption
    | (with_reducible apply keeps_each)
    | (with_reducible apply keeps_setB)

theorem keeps_portLost (h : Keeps r s) (k : PortId) : Keeps r (s.portLost k) := by
  unfold State.portLost
  repeat' first
    | with_reducible assumption
    | (with_reducible apply keeps_setBit)
    | (with_reducible apply keeps_alarm)
    | (with_reducible apply keeps_ite)

theorem keeps_anchorLost (h : Keeps r s) : Keeps r (s.anchorLost) := by
  unfold State.anchorLost
  repeat' first
    | intro _
    | with_reducible assumption
    | (with_reducible apply keeps_each)
    | (with_reducible apply keeps_portLost)

theorem keeps_tokenAsk (h : Keeps r s) (k : PortId) : Keeps r (s.tokenAsk k) := by
  unfold State.tokenAsk
  repeat' first
    | intro _
    | with_reducible assumption
    | (with_reducible apply keeps_setBit)
    | (with_reducible apply keeps_tokenWait)
    | (with_reducible apply keeps_inc)
    | (with_reducible apply keeps_each)
    | (with_reducible apply keeps_on)
    | (with_reducible apply keeps_portLost)
    | (with_reducible apply keeps_ite)
    | dsimp only
    | split

theorem keeps_tokenGive (h : Keeps r s) (k : PortId) : Keeps r (s.tokenGive k) := by
  unfold State.tokenGive
  repeat' first
    | intro _
    | with_reducible assumption
    | (with_reducible apply keeps_setBit)
    | (with_reducible apply keeps_tokenWait)
    | (with_reducible apply keeps_each)
    | (with_reducible apply keeps_setCal)
    | (with_reducible apply keeps_ite)
    | (with_reducible apply keeps_mk)
    | (with_reducible apply keeps_mk_mem)
    | (with_reducible apply keeps_mk_snd)
    | (with_reducible apply keeps_mk_drew)

theorem keeps_tokenBack (h : Keeps r s) (k : PortId) : Keeps r (s.tokenBack k) := by
  unfold State.tokenBack
  repeat' first
    | intro _
    | with_reducible assumption
    | (with_reducible apply keeps_setBit)
    | (with_reducible apply keeps_each)
    | (with_reducible apply keeps_tokenSpend)

theorem keeps_tokenExpire (h : Keeps r s) (k : PortId) : Keeps r (s.tokenExpire k) := by
  unfold State.tokenExpire
  repeat' first
    | intro _
    | with_reducible assumption
    | (with_reducible apply keeps_tokenBack)
    | (with_reducible apply keeps_inc)
    | (with_reducible apply keeps_each)
    | (with_reducible apply keeps_slotAbandon)
    | (with_reducible apply keeps_ite)

theorem keeps_calCntClr (h : Keeps r s) (n : Lane) : Keeps r (s.calCntClr n) := by
  unfold State.calCntClr
  repeat' first
    | with_reducible assumption
    | (with_reducible apply keeps_off)

theorem keeps_setPrbs (h : Keeps r s) (l : PrbsLane) (f : PrbsSt → PrbsSt) : Keeps r (s.setPrbs l f) := by
  unfold State.setPrbs
  repeat' first
    | intro _
    | with_reducible assumption
    | (with_reducible apply keeps_setLn)
    | (with_reducible apply keeps_setHl)
    | dsimp only
    | split
    | (with_reducible apply keeps_mk)
    | (with_reducible apply keeps_mk_mem)
    | (with_reducible apply keeps_mk_snd)
    | (with_reducible apply keeps_mk_drew)

theorem keeps_genSent (h : Keeps r s) (l : PrbsLane) (k : Nat) : Keeps r (s.genSent l k) := by
  unfold State.genSent
  repeat' first
    | intro _
    | with_reducible assumption
    | (with_reducible apply keeps_setPrbs)
    | (with_reducible apply keeps_setIf)
    | (with_reducible apply keeps_ite)
    | (with_reducible apply keeps_mk)
    | (with_reducible apply keeps_mk_mem)
    | (with_reducible apply keeps_mk_snd)
    | (with_reducible apply keeps_mk_drew)

theorem keeps_prbsFeed (h : Keeps r s) (l : PrbsLane) (bs : List Bool) : Keeps r (s.prbsFeed l bs) := by
  unfold State.prbsFeed
  repeat' first
    | intro _
    | with_reducible assumption
    | (with_reducible apply keeps_setPrbs)
    | (with_reducible apply keeps_setB)
    | (with_reducible apply keeps_on)
    | (with_reducible apply keeps_incBy)
    | (with_reducible apply keeps_ite)

theorem keeps_prbsLatch (h : Keeps r s) (l : PrbsLane) : Keeps r (s.prbsLatch l) := by
  unfold State.prbsLatch
  repeat' first
    | with_reducible assumption
    | (with_reducible apply keeps_set)
    | (with_reducible apply keeps_on)

theorem keeps_hostVote (h : Keeps r s) (j : Host) (c : Nat) (vote : Int) : Keeps r (s.hostVote j c vote) := by
  unfold State.hostVote
  repeat' first
    | intro _
    | with_reducible assumption
    | (with_reducible apply keeps_seti)
    | (with_reducible apply keeps_setHl)
    | (with_reducible apply keeps_ite)
    | (with_reducible apply keeps_mk)
    | (with_reducible apply keeps_mk_mem)
    | (with_reducible apply keeps_mk_snd)
    | (with_reducible apply keeps_mk_drew)

theorem keeps_hostBeat (h : Keeps r s) (j : Host) (votes : List (Nat × Int)) : Keeps r (s.hostBeat j votes) := by
  unfold State.hostBeat
  repeat' first
    | intro _
    | with_reducible assumption
    | (with_reducible apply keeps_each)
    | (with_reducible apply keeps_hostVote)
    | (with_reducible apply keeps_seti)
    | (with_reducible apply keeps_setHl)
    | (with_reducible apply keeps_ite)
    | (with_reducible apply keeps_mk)
    | (with_reducible apply keeps_mk_mem)
    | (with_reducible apply keeps_mk_snd)
    | (with_reducible apply keeps_mk_drew)

theorem keeps_rxWrite (h : Keeps r s) (j : Host) (c : Nat) (x : Int) : Keeps r (s.rxWrite j c x) := by
  unfold State.rxWrite
  repeat' first
    | intro _
    | with_reducible assumption
    | (with_reducible apply keeps_setHl)
    | (with_reducible apply keeps_seti)
    | (with_reducible apply keeps_ite)
    | (with_reducible apply keeps_mk)
    | (with_reducible apply keeps_mk_mem)
    | (with_reducible apply keeps_mk_snd)
    | (with_reducible apply keeps_mk_drew)

theorem keeps_actTarget (h : Keeps r s) (j : Host) (c : List Int) : Keeps r (s.actTarget j c) := by
  unfold State.actTarget
  repeat' first
    | intro _
    | with_reducible assumption
    | (with_reducible apply keeps_setHl)
    | (with_reducible apply keeps_setB)
    | (with_reducible apply keeps_actSet)
    | (with_reducible apply keeps_off)
    | (with_reducible apply keeps_ite)
    | (with_reducible apply keeps_mk)
    | (with_reducible apply keeps_mk_mem)
    | (with_reducible apply keeps_mk_snd)
    | (with_reducible apply keeps_mk_drew)

theorem keeps_setFirst (h : Keeps r s) (j : Host) (k w : Nat) : Keeps r (s.setFirst j k w) := by
  unfold State.setFirst
  repeat' first
    | intro _
    | with_reducible assumption
    | (with_reducible apply keeps_setHl)
    | (with_reducible apply keeps_mk)
    | (with_reducible apply keeps_mk_mem)
    | (with_reducible apply keeps_mk_snd)
    | (with_reducible apply keeps_mk_drew)

theorem keeps_setSecond (h : Keeps r s) (j : Host) (k w : Nat) : Keeps r (s.setSecond j k w) := by
  unfold State.setSecond
  repeat' first
    | intro _
    | with_reducible assumption
    | (with_reducible apply keeps_setHl)
    | (with_reducible apply keeps_each)
    | (with_reducible apply keeps_seti)
    | (with_reducible apply keeps_actTarget)
    | (with_reducible apply keeps_on)
    | (with_reducible apply keeps_ite)
    | (with_reducible apply keeps_mk)
    | (with_reducible apply keeps_mk_mem)
    | (with_reducible apply keeps_mk_snd)
    | (with_reducible apply keeps_mk_drew)

theorem keeps_ampWritten (h : Keeps r s) (j : Host) : Keeps r (s.ampWritten j) := by
  unfold State.ampWritten
  repeat' first
    | intro _
    | with_reducible assumption
    | (with_reducible apply keeps_setHl)
    | (with_reducible apply keeps_ite)
    | (with_reducible apply keeps_mk)
    | (with_reducible apply keeps_mk_mem)
    | (with_reducible apply keeps_mk_snd)
    | (with_reducible apply keeps_mk_drew)

theorem keeps_actStep (h : Keeps r s) (j : Host) : Keeps r (s.actStep j) := by
  unfold State.actStep
  repeat' first
    | intro _
    | with_reducible assumption
    | (with_reducible apply keeps_actSet)
    | (with_reducible apply keeps_setB)

theorem keeps_ampStep (h : Keeps r s) (j : Host) : Keeps r (s.ampStep j) := by
  unfold State.ampStep
  repeat' first
    | intro _
    | with_reducible assumption
    | (with_reducible apply keeps_setHl)
    | (with_reducible apply keeps_mk)
    | (with_reducible apply keeps_mk_mem)
    | (with_reducible apply keeps_mk_snd)
    | (with_reducible apply keeps_mk_drew)

theorem keeps_amLocate (h : Keeps r s) (j : Host) (d : Dir) : Keeps r (s.amLocate j d) := by
  unfold State.amLocate
  repeat' first
    | intro _
    | with_reducible assumption
    | (with_reducible apply keeps_setKp4)
    | (with_reducible apply keeps_setHl)
    | (with_reducible apply keeps_ite)
    | (with_reducible apply keeps_mk)
    | (with_reducible apply keeps_mk_mem)
    | (with_reducible apply keeps_mk_snd)
    | (with_reducible apply keeps_mk_drew)

theorem keeps_amGroup (h : Keeps r s) (j : Host) (d : Dir) (found : Bool) : Keeps r (s.amGroup j d found) := by
  unfold State.amGroup
  repeat' first
    | intro _
    | with_reducible assumption
    | (with_reducible apply keeps_setKp4)
    | (with_reducible apply keeps_amLocate)
    | (with_reducible apply keeps_on)
    | (with_reducible apply keeps_amLose)
    | (with_reducible apply keeps_ite)
    | (with_reducible apply keeps_mk)
    | (with_reducible apply keeps_mk_mem)
    | (with_reducible apply keeps_mk_snd)
    | (with_reducible apply keeps_mk_drew)

theorem keeps_kp4Codeword (h : Keeps r s) (j : Host) (d : Dir) (errs : Nat) : Keeps r (s.kp4Codeword j d errs) := by
  unfold State.kp4Codeword
  repeat' first
    | intro _
    | with_reducible assumption
    | (with_reducible apply keeps_setKp4)
    | (with_reducible apply keeps_set)
    | (with_reducible apply keeps_countEvent)
    | (with_reducible apply keeps_ite)
    | (with_reducible apply keeps_mk)
    | (with_reducible apply keeps_mk_mem)
    | (with_reducible apply keeps_mk_snd)
    | (with_reducible apply keeps_mk_drew)

theorem keeps_ctleWritten (h : Keeps r s) (j : Host) (v : Nat) : Keeps r (s.ctleWritten j v) := by
  unfold State.ctleWritten
  repeat' first
    | intro _
    | with_reducible assumption
    | (with_reducible apply keeps_ctleManual)
    | (with_reducible apply keeps_setHl)
    | (with_reducible apply keeps_ite)
    | (with_reducible apply keeps_mk)
    | (with_reducible apply keeps_mk_mem)
    | (with_reducible apply keeps_mk_snd)
    | (with_reducible apply keeps_mk_drew)

theorem keeps_enterFallback (h : Keeps r s) (j : Host) : Keeps r (s.enterFallback j) := by
  unfold State.enterFallback
  repeat' first
    | with_reducible assumption
    | (with_reducible apply keeps_trnTo)
    | (with_reducible apply keeps_on)
    | (with_reducible apply keeps_inc)
    | (with_reducible apply keeps_actJump)
    | (with_reducible apply keeps_sourceNow)

theorem keeps_hostDark (h : Keeps r s) (j : Host) : Keeps r (s.hostDark j) := by
  unfold State.hostDark
  repeat' first
    | intro _
    | with_reducible assumption
    | (with_reducible apply keeps_off)
    | (with_reducible apply keeps_setHl)
    | (with_reducible apply keeps_amLose)
    | (with_reducible apply keeps_pllHostLost)
    | (with_reducible apply keeps_mk)
    | (with_reducible apply keeps_mk_mem)
    | (with_reducible apply keeps_mk_snd)
    | (with_reducible apply keeps_mk_drew)

theorem keeps_hostOff (h : Keeps r s) (j : Host) : Keeps r (s.hostOff j) := by
  unfold State.hostOff
  repeat' first
    | intro _
    | with_reducible assumption
    | (with_reducible apply keeps_off)
    | (with_reducible apply keeps_pllStop)
    | (with_reducible apply keeps_hostDark)
    | (with_reducible apply keeps_amLose)
    | (with_reducible apply keeps_trnTo)
    | (with_reducible apply keeps_setHl)
    | (with_reducible apply keeps_ite)
    | (with_reducible apply keeps_mk)
    | (with_reducible apply keeps_mk_mem)
    | (with_reducible apply keeps_mk_snd)
    | (with_reducible apply keeps_mk_drew)

theorem keeps_hostNap (h : Keeps r s) (j : Host) : Keeps r (s.hostNap j) := by
  unfold State.hostNap
  repeat' first
    | intro _
    | with_reducible assumption
    | (with_reducible apply keeps_pllStop)
    | (with_reducible apply keeps_hostDark)
    | (with_reducible apply keeps_amLose)
    | (with_reducible apply keeps_setHl)
    | (with_reducible apply keeps_ite)
    | (with_reducible apply keeps_mk)
    | (with_reducible apply keeps_mk_mem)
    | (with_reducible apply keeps_mk_snd)
    | (with_reducible apply keeps_mk_drew)

theorem keeps_hostWake (h : Keeps r s) (j : Host) : Keeps r (s.hostWake j) := by
  unfold State.hostWake
  repeat' first
    | intro _
    | with_reducible assumption
    | (with_reducible apply keeps_setHl)
    | (with_reducible apply keeps_showPll)
    | (with_reducible apply keeps_hostHeld)
    | (with_reducible apply keeps_ctleManual)
    | (with_reducible apply keeps_precodeShow)
    | (with_reducible apply keeps_setB)
    | (with_reducible apply keeps_sourceNow)
    | (with_reducible apply keeps_enterWaitSd)
    | (with_reducible apply keeps_ite)
    | (with_reducible apply keeps_mk)
    | (with_reducible apply keeps_mk_mem)
    | (with_reducible apply keeps_mk_snd)
    | (with_reducible apply keeps_mk_drew)

theorem keeps_sdRise (h : Keeps r s) (j : Host) (mv : Nat) : Keeps r (s.sdRise j mv) := by
  unfold State.sdRise
  repeat' first
    | intro _
    | with_reducible assumption
    | (with_reducible apply keeps_on)
    | (with_reducible apply keeps_enterTraining)
    | (with_reducible apply keeps_setHl)
    | (with_reducible apply keeps_ite)
    | dsimp only
    | split
    | (with_reducible apply keeps_mk)
    | (with_reducible apply keeps_mk_mem)
    | (with_reducible apply keeps_mk_snd)
    | (with_reducible apply keeps_mk_drew)

theorem keeps_hostLos (h : Keeps r s) (j : Host) : Keeps r (s.hostLos j) := by
  unfold State.hostLos
  repeat' first
    | with_reducible assumption
    | (with_reducible apply keeps_on)
    | (with_reducible apply keeps_inc)

theorem keeps_sdFall (h : Keeps r s) (j : Host) (mv : Nat) : Keeps r (s.sdFall j mv) := by
  unfold State.sdFall
  repeat' first
    | intro _
    | with_reducible assumption
    | (with_reducible apply keeps_hostDark)
    | (with_reducible apply keeps_on)
    | (with_reducible apply keeps_inc)
    | (with_reducible apply keeps_enterWaitSd)
    | (with_reducible apply keeps_hostLos)
    | (with_reducible apply keeps_setHl)
    | (with_reducible apply keeps_ite)
    | dsimp only
    | split
    | (with_reducible apply keeps_mk)
    | (with_reducible apply keeps_mk_mem)
    | (with_reducible apply keeps_mk_snd)
    | (with_reducible apply keeps_mk_drew)

theorem keeps_cdrLock (h : Keeps r s) (j : Host) : Keeps r (s.cdrLock j) := by
  unfold State.cdrLock
  repeat' first
    | with_reducible assumption
    | (with_reducible apply keeps_on)
    | (with_reducible apply keeps_pllHostClock)
    | (with_reducible apply keeps_ite)

theorem keeps_cdrLoss (h : Keeps r s) (j : Host) : Keeps r (s.cdrLoss j) := by
  unfold State.cdrLoss
  repeat' first
    | intro _
    | with_reducible assumption
    | (with_reducible apply keeps_off)
    | (with_reducible apply keeps_on)
    | (with_reducible apply keeps_inc)
    | (with_reducible apply keeps_setHl)
    | (with_reducible apply keeps_amLose)
    | (with_reducible apply keeps_pllHostLost)
    | (with_reducible apply keeps_ite)
    | (with_reducible apply keeps_mk)
    | (with_reducible apply keeps_mk_mem)
    | (with_reducible apply keeps_mk_snd)
    | (with_reducible apply keeps_mk_drew)

theorem keeps_trnAsk (h : Keeps r s) (j : Host) : Keeps r (s.trnAsk j) := by
  unfold State.trnAsk
  repeat' first
    | intro _
    | with_reducible assumption
    | (with_reducible apply keeps_on)
    | (with_reducible apply keeps_setHl)
    | (with_reducible apply keeps_ite)
    | (with_reducible apply keeps_mk)
    | (with_reducible apply keeps_mk_mem)
    | (with_reducible apply keeps_mk_snd)
    | (with_reducible apply keeps_mk_drew)

theorem keeps_trnFrame (h : Keeps r s) (j : Host) (ready confirm : Bool) : Keeps r (s.trnFrame j ready confirm) := by
  unfold State.trnFrame
  repeat' first
    | intro _
    | with_reducible assumption
    | (with_reducible apply keeps_setHl)
    | (with_reducible apply keeps_enterTraining)
    | (with_reducible apply keeps_ctleAdapt)
    | (with_reducible apply keeps_trnAsk)
    | (with_reducible apply keeps_setB)
    | (with_reducible apply keeps_ite)
    | dsimp only
    | split
    | (with_reducible apply keeps_mk)
    | (with_reducible apply keeps_mk_mem)
    | (with_reducible apply keeps_mk_snd)
    | (with_reducible apply keeps_mk_drew)

theorem keeps_trnRequest {r₀ s : State} (h : Keeps r₀ s) (j : Host) (r : TrnReq) : Keeps r₀ (s.trnRequest j r) := by
  unfold State.trnRequest
  repeat' first
    | intro _
    | with_reducible assumption
    | (with_reducible apply keeps_setHl)
    | (with_reducible apply keeps_set)
    | (with_reducible apply keeps_actJump)
    | (with_reducible apply keeps_inc)
    | (with_reducible apply keeps_on)
    | (with_reducible apply keeps_ite)
    | dsimp only
    | split
    | (with_reducible apply keeps_mk)
    | (with_reducible apply keeps_mk_mem)
    | (with_reducible apply keeps_mk_snd)
    | (with_reducible apply keeps_mk_drew)

theorem keeps_offerCut (h : Keeps r s) (j : Host) : Keeps r (s.offerCut j) := by
  unfold State.offerCut
  repeat' first
    | intro _
    | with_reducible assumption
    | (with_reducible apply keeps_setHl)
    | (with_reducible apply keeps_sourceNow)
    | (with_reducible apply keeps_ite)
    | (with_reducible apply keeps_mk)
    | (with_reducible apply keeps_mk_mem)
    | (with_reducible apply keeps_mk_snd)
    | (with_reducible apply keeps_mk_drew)

theorem keeps_genEnable (h : Keeps r s) (l : PrbsLane) : Keeps r (s.genEnable l) := by
  unfold State.genEnable
  repeat' first
    | with_reducible assumption
    | (with_reducible apply keeps_on)
    | (with_reducible apply keeps_sourceNow)
    | (with_reducible apply keeps_ite)
    | dsimp only
    | split

theorem keeps_prbsClear (h : Keeps r s) (l : PrbsLane) : Keeps r (s.prbsClear l) := by
  unfold State.prbsClear
  repeat' first
    | intro _
    | with_reducible assumption
    | (with_reducible apply keeps_setPrbs)
    | (with_reducible apply keeps_off)
    | (with_reducible apply keeps_mk)
    | (with_reducible apply keeps_mk_mem)
    | (with_reducible apply keeps_mk_snd)
    | (with_reducible apply keeps_mk_drew)

theorem keeps_hostCntClr (h : Keeps r s) (j : Host) : Keeps r (s.hostCntClr j) := by
  unfold State.hostCntClr
  repeat' first
    | with_reducible assumption
    | (with_reducible apply keeps_off)

theorem keeps_setCh (h : Keeps r s) (c : Chan) (f : BdaCh → BdaCh) : Keeps r (s.setCh c f) := by
  unfold State.setCh
  repeat' first
    | with_reducible assumption
    | (with_reducible apply keeps_set)
    | (with_reducible apply keeps_mk)
    | (with_reducible apply keeps_mk_mem)
    | (with_reducible apply keeps_mk_snd)
    | (with_reducible apply keeps_mk_drew)

theorem keeps_injPass (h : Keeps r s) (c : Chan) : Keeps r (s.injPass c) := by
  unfold State.injPass
  repeat' first
    | intro _
    | with_reducible assumption
    | (with_reducible apply keeps_kitePass)
    | (with_reducible apply keeps_ite)
    | (with_reducible apply keeps_dite)

theorem keeps_cmpShow (h : Keeps r s) (n : Lane) : Keeps r (s.cmpShow n) := by
  unfold State.cmpShow
  repeat' first
    | with_reducible assumption
    | (with_reducible apply keeps_setBit)

theorem keeps_loFollow (h : Keeps r s) (n : Lane) : Keeps r (s.loFollow n) := by
  unfold State.loFollow
  repeat' first
    | with_reducible assumption
    | (with_reducible apply keeps_off)
    | (with_reducible apply keeps_cmpShow)
    | (with_reducible apply keeps_ite)

theorem keeps_outFollow (h : Keeps r s) (c : Chan) : Keeps r (s.outFollow c) := by
  unfold State.outFollow
  repeat' first
    | intro _
    | with_reducible assumption
    | (with_reducible apply keeps_loFollow)
    | (with_reducible apply keeps_ite)
    | (with_reducible apply keeps_dite)

theorem keeps_outClear (h : Keeps r s) (c : Chan) : Keeps r (s.outClear c) := by
  unfold State.outClear
  repeat' first
    | with_reducible assumption
    | (with_reducible apply keeps_injPass)
    | (with_reducible apply keeps_set)
    | (with_reducible apply keeps_off)
    | (with_reducible apply keeps_outFollow)

theorem keeps_injGone (h : Keeps r s) (c : Chan) : Keeps r (s.injGone c) := by
  unfold State.injGone
  repeat' first
    | intro _
    | with_reducible assumption
    | (with_reducible apply keeps_kiteInjGone)
    | (with_reducible apply keeps_ite)
    | (with_reducible apply keeps_dite)

theorem keeps_forceStart (h : Keeps r s) (c : Chan) : Keeps r (s.forceStart c) := by
  unfold State.forceStart
  repeat' first
    | intro _
    | with_reducible assumption
    | (with_reducible apply keeps_setCh)
    | (with_reducible apply keeps_outClear)
    | (with_reducible apply keeps_injGone)
    | (with_reducible apply keeps_mk)
    | (with_reducible apply keeps_mk_mem)
    | (with_reducible apply keeps_mk_snd)
    | (with_reducible apply keeps_mk_drew)

theorem keeps_forcing (h : Keeps r s) (f : State → State) (hf : ∀ t, Keeps r t → Keeps r (f t)) : Keeps r (s.forcing f) := by
  unfold State.forcing
  repeat' first
    | intro _
    | with_reducible assumption
    | (with_reducible apply hf)
    | (with_reducible apply keeps_each)
    | (with_reducible apply keeps_injPass)
    | (with_reducible apply keeps_forceStart)

theorem keeps_qdata (h : Keeps r s) (c : Chan) (v : Nat) : Keeps r (s.qdata c v) := by
  unfold State.qdata
  repeat' first
    | intro _
    | with_reducible assumption
    | (with_reducible apply keeps_on)
    | (with_reducible apply keeps_inc)
    | (with_reducible apply keeps_setCh)
    | (with_reducible apply keeps_set)
    | (with_reducible apply keeps_ite)
    | (with_reducible apply keeps_mk)
    | (with_reducible apply keeps_mk_mem)
    | (with_reducible apply keeps_mk_snd)
    | (with_reducible apply keeps_mk_drew)

theorem keeps_codeApply (h : Keeps r s) (c : Chan) (v : Nat) : Keeps r (s.codeApply c v) := by
  unfold State.codeApply
  repeat' first
    | intro _
    | with_reducible assumption
    | (with_reducible apply keeps_injPass)
    | (with_reducible apply keeps_on)
    | (with_reducible apply keeps_setCh)
    | (with_reducible apply keeps_set)
    | (with_reducible apply keeps_setB)
    | (with_reducible apply keeps_outFollow)
    | (with_reducible apply keeps_ite)
    | (with_reducible apply keeps_mk)
    | (with_reducible apply keeps_mk_mem)
    | (with_reducible apply keeps_mk_snd)
    | (with_reducible apply keeps_mk_drew)

theorem keeps_deglitched (h : Keeps r s) (c : Chan) : Keeps r (s.deglitched c) := by
  unfold State.deglitched
  repeat' first
    | with_reducible assumption
    | (with_reducible apply keeps_off)
    | (with_reducible apply keeps_outFollow)

theorem keeps_tickQueue (h : Keeps r s) (c : Chan) : Keeps r (s.tickQueue c) := by
  unfold State.tickQueue
  repeat' first
    | intro _
    | with_reducible assumption
    | (with_reducible apply keeps_setCh)
    | (with_reducible apply keeps_outClear)
    | (with_reducible apply keeps_codeApply)
    | (with_reducible apply keeps_on)
    | (with_reducible apply keeps_inc)
    | (with_reducible apply keeps_ite)
    | dsimp only
    | split
    | (with_reducible apply keeps_mk)
    | (with_reducible apply keeps_mk_mem)
    | (with_reducible apply keeps_mk_snd)
    | (with_reducible apply keeps_mk_drew)

theorem keeps_tickRange (h : Keeps r s) (c : Chan) : Keeps r (s.tickRange c) := by
  unfold State.tickRange
  repeat' first
    | intro _
    | with_reducible assumption
    | (with_reducible apply keeps_injPass)
    | (with_reducible apply keeps_set)
    | (with_reducible apply keeps_setBit)
    | (with_reducible apply keeps_setCh)
    | (with_reducible apply keeps_outClear)
    | (with_reducible apply keeps_injGone)
    | (with_reducible apply keeps_ite)
    | (with_reducible apply keeps_mk)
    | (with_reducible apply keeps_mk_mem)
    | (with_reducible apply keeps_mk_snd)
    | (with_reducible apply keeps_mk_drew)

theorem keeps_bdaTick (h : Keeps r s) : Keeps r (s.bdaTick) := by
  unfold State.bdaTick
  repeat' first
    | intro _
    | with_reducible assumption
    | (with_reducible apply keeps_each)
    | (with_reducible apply keeps_tickRange)
    | (with_reducible apply keeps_tickQueue)
    | (with_reducible apply keeps_sprEvent)
    | (with_reducible apply keeps_ite)

theorem keeps_rangeWrite (h : Keeps r s) (c : Chan) (v : Nat) : Keeps r (s.rangeWrite c v) := by
  unfold State.rangeWrite
  repeat' first
    | intro _
    | with_reducible assumption
    | (with_reducible apply keeps_set)
    | (with_reducible apply keeps_setCh)
    | (with_reducible apply keeps_ite)
    | (with_reducible apply keeps_mk)
    | (with_reducible apply keeps_mk_mem)
    | (with_reducible apply keeps_mk_snd)
    | (with_reducible apply keeps_mk_drew)

theorem keeps_clrWritten (h : Keeps r s) (c : Chan) : Keeps r (s.clrWritten c) := by
  unfold State.clrWritten
  repeat' first
    | with_reducible assumption
    | (with_reducible apply keeps_set)
    | (with_reducible apply keeps_outFollow)
    | (with_reducible apply keeps_ite)

theorem keeps_bdaFlush (h : Keeps r s) (c : Chan) : Keeps r (s.bdaFlush c) := by
  unfold State.bdaFlush
  repeat' first
    | intro _
    | with_reducible assumption
    | (with_reducible apply keeps_setCh)
    | (with_reducible apply keeps_mk)
    | (with_reducible apply keeps_mk_mem)
    | (with_reducible apply keeps_mk_snd)
    | (with_reducible apply keeps_mk_drew)

theorem keeps_bdaCntClr (h : Keeps r s) (c : Chan) : Keeps r (s.bdaCntClr c) := by
  unfold State.bdaCntClr
  repeat' first
    | with_reducible assumption
    | (with_reducible apply keeps_off)

theorem keeps_limitsPut (h : Keeps r s) (c : Chan) (lo hi : Nat) : Keeps r (s.limitsPut c lo hi) := by
  unfold State.limitsPut
  repeat' first
    | with_reducible assumption
    | (with_reducible apply keeps_injPass)
    | (with_reducible apply keeps_set)

theorem keeps_limitsSet (h : Keeps r s) (c : Chan) (lo hi : Nat) : Keeps r (s.limitsSet c lo hi) := by
  unfold State.limitsSet
  repeat' first
    | with_reducible assumption
    | (with_reducible apply keeps_on)
    | (with_reducible apply keeps_limitsPut)
    | (with_reducible apply keeps_ite)

theorem keeps_biasClear (h : Keeps r s) (n : Lane) : Keeps r (s.biasClear n) := by
  unfold State.biasClear
  repeat' first
    | with_reducible assumption
    | (with_reducible apply keeps_qdata)
    | (with_reducible apply keeps_ite)

theorem keeps_reelFlight (h : Keeps r s) : Keeps r (s.reelFlight) := by
  unfold State.reelFlight
  repeat' first
    | with_reducible assumption
    | (with_reducible apply keeps_set)

theorem keeps_reelStart (h : Keeps r s) (c : ReelId) (resume : Bool) : Keeps r (s.reelStart c resume) := by
  unfold State.reelStart
  repeat' first
    | intro _
    | with_reducible assumption
    | (with_reducible apply keeps_on)
    | (with_reducible apply keeps_setRl)
    | (with_reducible apply keeps_reelState)
    | (with_reducible apply keeps_off)
    | (with_reducible apply keeps_ite)
    | (with_reducible apply keeps_mk)
    | (with_reducible apply keeps_mk_mem)
    | (with_reducible apply keeps_mk_snd)
    | (with_reducible apply keeps_mk_drew)

theorem keeps_reelWriteback (h : Keeps r s) (c : ReelId) (code : Nat) (invalid : Bool) : Keeps r (s.reelWriteback c code invalid) := by
  unfold State.reelWriteback
  repeat' first
    | with_reducible assumption
    | (with_reducible apply keeps_memWrite)
    | (with_reducible apply keeps_respond)

theorem keeps_reelFail (h : Keeps r s) (c : ReelId) (code : Nat) : Keeps r (s.reelFail c code) := by
  unfold State.reelFail
  repeat' first
    | intro _
    | with_reducible assumption
    | (with_reducible apply keeps_set)
    | (with_reducible apply keeps_on)
    | (with_reducible apply keeps_inc)
    | (with_reducible apply keeps_reelState)
    | (with_reducible apply keeps_off)
    | (with_reducible apply keeps_setRl)
    | (with_reducible apply keeps_reelFlight)

theorem keeps_reelEnd (h : Keeps r s) (c : ReelId) (code : Nat) (invalid : Bool) : Keeps r (s.reelEnd c code invalid) := by
  unfold State.reelEnd
  repeat' first
    | with_reducible assumption
    | (with_reducible apply keeps_reelWriteback)
    | (with_reducible apply keeps_set)
    | (with_reducible apply keeps_reelFail)

theorem keeps_reelBoundary (h : Keeps r s) (c : ReelId) : Keeps r (s.reelBoundary c) := by
  unfold State.reelBoundary
  repeat' first
    | intro _
    | with_reducible assumption
    | (with_reducible apply keeps_when)
    | (with_reducible apply keeps_reelState)
    | (with_reducible apply keeps_inc)
    | (with_reducible apply keeps_on)
    | (with_reducible apply keeps_reelEnd)
    | (with_reducible apply keeps_ite)

theorem keeps_reelStop (h : Keeps r s) (c : ReelId) : Keeps r (s.reelStop c) := by
  unfold State.reelStop
  repeat' first
    | intro _
    | with_reducible assumption
    | (with_reducible apply keeps_on)
    | (with_reducible apply keeps_setRl)
    | (with_reducible apply keeps_reelBoundary)
    | (with_reducible apply keeps_ite)
    | (with_reducible apply keeps_mk)
    | (with_reducible apply keeps_mk_mem)
    | (with_reducible apply keeps_mk_snd)
    | (with_reducible apply keeps_mk_drew)

theorem keeps_reelComplete (h : Keeps r s) (c : ReelId) : Keeps r (s.reelComplete c) := by
  unfold State.reelComplete
  repeat' first
    | intro _
    | with_reducible assumption
    | (with_reducible apply keeps_reelWriteback)
    | (with_reducible apply keeps_set)
    | (with_reducible apply keeps_setIf)
    | (with_reducible apply keeps_inc)
    | (with_reducible apply keeps_countEvent)
    | (with_reducible apply keeps_reelState)
    | (with_reducible apply keeps_off)
    | (with_reducible apply keeps_setRl)
    | (with_reducible apply keeps_ite)
    | (with_reducible apply keeps_mk)
    | (with_reducible apply keeps_mk_mem)
    | (with_reducible apply keeps_mk_snd)
    | (with_reducible apply keeps_mk_drew)

theorem keeps_reelBarrier (h : Keeps r s) (c : ReelId) : Keeps r (s.reelBarrier c) := by
  unfold State.reelBarrier
  repeat' first
    | intro _
    | with_reducible assumption
    | (with_reducible apply keeps_flushAll)
    | (with_reducible apply keeps_setRl)
    | (with_reducible apply keeps_ite)
    | (with_reducible apply keeps_mk)
    | (with_reducible apply keeps_mk_mem)
    | (with_reducible apply keeps_mk_snd)
    | (with_reducible apply keeps_mk_drew)

theorem keeps_reelQuiesce (h : Keeps r s) (d : Domain) : Keeps r (s.reelQuiesce d) := by
  unfold State.reelQuiesce
  repeat' first
    | intro _
    | with_reducible assumption
    | (with_reducible apply keeps_each)
    | (with_reducible apply keeps_setRl)
    | (with_reducible apply keeps_reelBoundary)
    | (with_reducible apply keeps_mk)
    | (with_reducible apply keeps_mk_mem)
    | (with_reducible apply keeps_mk_snd)
    | (with_reducible apply keeps_mk_drew)

theorem keeps_reelAbort (h : Keeps r s) (d : Domain) : Keeps r (s.reelAbort d) := by
  unfold State.reelAbort
  repeat' first
    | intro _
    | with_reducible assumption
    | (with_reducible apply keeps_each)
    | (with_reducible apply keeps_setRl)
    | (with_reducible apply keeps_reelBoundary)
    | (with_reducible apply keeps_mk)
    | (with_reducible apply keeps_mk_mem)
    | (with_reducible apply keeps_mk_snd)
    | (with_reducible apply keeps_mk_drew)

theorem keeps_reelCntClr (h : Keeps r s) : Keeps r (s.reelCntClr) := by
  unfold State.reelCntClr
  repeat' first
    | intro _
    | with_reducible assumption
    | (with_reducible apply keeps_off)
    | (with_reducible apply keeps_each)

theorem keeps_mbxStart (h : Keeps r s) (i op tag : Nat) : Keeps r (s.mbxStart i op tag) := by
  unfold State.mbxStart
  repeat' first
    | with_reducible assumption
    | (with_reducible apply keeps_on)
    | (with_reducible apply keeps_set)
    | (with_reducible apply keeps_ite)
    | (with_reducible apply keeps_mk)
    | (with_reducible apply keeps_mk_mem)
    | (with_reducible apply keeps_mk_snd)
    | (with_reducible apply keeps_mk_drew)

theorem keeps_mbxArg (h : Keeps r s) (k v : Nat) : Keeps r (s.mbxArg k v) := by
  unfold State.mbxArg
  repeat' first
    | with_reducible assumption
    | (with_reducible apply keeps_set)
    | (with_reducible apply keeps_ite)

theorem keeps_mbxClose (h : Keeps r s) (comp : Nat) : Keeps r (s.mbxClose comp) := by
  unfold State.mbxClose
  repeat' first
    | with_reducible assumption
    | (with_reducible apply keeps_off)
    | (with_reducible apply keeps_on)
    | (with_reducible apply keeps_set)
    | (with_reducible apply keeps_mk)
    | (with_reducible apply keeps_mk_mem)
    | (with_reducible apply keeps_mk_snd)
    | (with_reducible apply keeps_mk_drew)

theorem keeps_mbxDone (h : Keeps r s) (comp : Nat) (rsp : List Nat) : Keeps r (s.mbxDone comp rsp) := by
  unfold State.mbxDone
  repeat' first
    | intro _
    | with_reducible assumption
    | (with_reducible apply keeps_each)
    | (with_reducible apply keeps_set)
    | (with_reducible apply keeps_drew)
    | (with_reducible apply keeps_mbxClose)
    | (with_reducible apply keeps_ite)

theorem keeps_mbxBegin (h : Keeps r s) : Keeps r (s.mbxBegin) := by
  unfold State.mbxBegin
  repeat' first
    | with_reducible assumption
    | (with_reducible apply keeps_mk)
    | (with_reducible apply keeps_mk_mem)
    | (with_reducible apply keeps_mk_snd)
    | (with_reducible apply keeps_mk_drew)

theorem keeps_mbxRun (h : Keeps r s) (op : Nat) (f : State → State) (hf : ∀ t, Keeps r t → Keeps r (f t)) : Keeps r (s.mbxRun op f) := by
  unfold State.mbxRun
  repeat' first
    | intro _
    | with_reducible assumption
    | (with_reducible apply hf)
    | (with_reducible apply keeps_mbxDone)
    | (with_reducible apply keeps_mbxBegin)
    | (with_reducible apply keeps_ite)

theorem keeps_mbxTimeout (h : Keeps r s) : Keeps r (s.mbxTimeout) := by
  unfold State.mbxTimeout
  repeat' first
    | with_reducible assumption
    | (with_reducible apply keeps_mbxClose)
    | (with_reducible apply keeps_ite)

theorem keeps_rxStop (h : Keeps r s) (n : Lane) : Keeps r (s.rxStop n) := by
  unfold State.rxStop
  repeat' first
    | intro _
    | with_reducible assumption
    | (with_reducible apply keeps_slotDrop)
    | (with_reducible apply keeps_off)
    | (with_reducible apply keeps_setRx)
    | (with_reducible apply keeps_mk)
    | (with_reducible apply keeps_mk_mem)
    | (with_reducible apply keeps_mk_snd)
    | (with_reducible apply keeps_mk_drew)

theorem keeps_laneOff (h : Keeps r s) (n : Lane) : Keeps r (s.laneOff n) := by
  unfold State.laneOff
  repeat' first
    | with_reducible assumption
    | (with_reducible apply keeps_off)
    | (with_reducible apply keeps_swapReplace)
    | (with_reducible apply keeps_rxStop)
    | (with_reducible apply keeps_slicesAll)
    | (with_reducible apply keeps_kiteOff)
    | (with_reducible apply keeps_setLn)
    | (with_reducible apply keeps_tapStop)
    | (with_reducible apply keeps_pllStop)
    | (with_reducible apply keeps_alarmEnd)
    | (with_reducible apply keeps_ite)
    | (with_reducible apply keeps_mk)
    | (with_reducible apply keeps_mk_mem)
    | (with_reducible apply keeps_mk_snd)
    | (with_reducible apply keeps_mk_drew)

theorem keeps_laneDown (h : Keeps r s) (n : Lane) : Keeps r (s.laneDown n) := by
  unfold State.laneDown
  repeat' first
    | with_reducible assumption
    | (with_reducible apply keeps_biasClear)
    | (with_reducible apply keeps_laneOff)
    | (with_reducible apply keeps_ite)

theorem keeps_sleepTell (h : Keeps r s) (k : SleepKind) (comp : Nat) : Keeps r (s.sleepTell k comp) := by
  unfold State.sleepTell
  repeat' first
    | with_reducible assumption
    | (with_reducible apply keeps_mbxDone)
    | (with_reducible apply keeps_ite)

theorem keeps_napGone (h : Keeps r s) (k : PortId) : Keeps r (s.napGone k) := by
  unfold State.napGone
  repeat' first
    | intro _
    | with_reducible assumption
    | (with_reducible apply keeps_onLanes)
    | (with_reducible apply keeps_setCal)
    | (with_reducible apply keeps_reelRelease)
    | (with_reducible apply keeps_sleepTell)
    | (with_reducible apply keeps_dropSleep)
    | (with_reducible apply keeps_ite)
    | (with_reducible apply keeps_mk)
    | (with_reducible apply keeps_mk_mem)
    | (with_reducible apply keeps_mk_snd)
    | (with_reducible apply keeps_mk_drew)

theorem keeps_portDown (h : Keeps r s) (k : PortId) (cause : Nat) : Keeps r (s.portDown k cause) := by
  unfold State.portDown
  repeat' first
    | intro _
    | with_reducible assumption
    | (with_reducible apply keeps_leaveTraffic)
    | (with_reducible apply keeps_hsClear)
    | (with_reducible apply keeps_portQuiet)
    | (with_reducible apply keeps_napGone)
    | (with_reducible apply keeps_onLanes)
    | (with_reducible apply keeps_calAbort)
    | (with_reducible apply keeps_unlock)
    | (with_reducible apply keeps_eqStop)
    | (with_reducible apply keeps_pllMove)
    | (with_reducible apply keeps_seqDemand)
    | (with_reducible apply keeps_pstateTo)
    | (with_reducible apply keeps_set)
    | (with_reducible apply keeps_onHosts)
    | (with_reducible apply keeps_hostOff)
    | (with_reducible apply keeps_laneDown)
    | (with_reducible apply keeps_off)
    | (with_reducible apply keeps_alarmEnd)

theorem keeps_lightDemand (h : Keeps r s) (k : PortId) : Keeps r (s.lightDemand k) := by
  unfold State.lightDemand
  repeat' first
    | intro _
    | with_reducible assumption
    | (with_reducible apply keeps_onLanes)
    | (with_reducible apply keeps_seqDemand)
    | (with_reducible apply keeps_ite)

theorem keeps_portLeave (h : Keeps r s) (k : PortId) : Keeps r (s.portLeave k) := by
  unfold State.portLeave
  repeat' first
    | intro _
    | with_reducible assumption
    | (with_reducible apply keeps_onLanes)
    | (with_reducible apply keeps_setCal)
    | (with_reducible apply keeps_setPt)
    | (with_reducible apply keeps_portLight)
    | (with_reducible apply keeps_mk)
    | (with_reducible apply keeps_mk_mem)
    | (with_reducible apply keeps_mk_snd)
    | (with_reducible apply keeps_mk_drew)

theorem keeps_laneHeld (h : Keeps r s) (n : Lane) : Keeps r (s.laneHeld n) := by
  unfold State.laneHeld
  repeat' first
    | intro _
    | with_reducible assumption
    | (with_reducible apply keeps_setLoc)
    | (with_reducible apply keeps_setTx)
    | (with_reducible apply keeps_mk)
    | (with_reducible apply keeps_mk_mem)
    | (with_reducible apply keeps_mk_snd)
    | (with_reducible apply keeps_mk_drew)

theorem keeps_laneAcquire (h : Keeps r s) (k : PortId) (n : Lane) : Keeps r (s.laneAcquire k n) := by
  unfold State.laneAcquire
  repeat' first
    | intro _
    | with_reducible assumption
    | (with_reducible apply keeps_setB)
    | (with_reducible apply keeps_setRx)
    | (with_reducible apply keeps_laneHeld)
    | (with_reducible apply keeps_modeNow)
    | (with_reducible apply keeps_mk)
    | (with_reducible apply keeps_mk_mem)
    | (with_reducible apply keeps_mk_snd)
    | (with_reducible apply keeps_mk_drew)

theorem keeps_portAcquire (h : Keeps r s) (k : PortId) : Keeps r (s.portAcquire k) := by
  unfold State.portAcquire
  repeat' first
    | intro _
    | with_reducible assumption
    | (with_reducible apply keeps_leaveTraffic)
    | (with_reducible apply keeps_off)
    | (with_reducible apply keeps_pstateTo)
    | (with_reducible apply keeps_onLanes)
    | (with_reducible apply keeps_laneAcquire)
    | (with_reducible apply keeps_eqStop)
    | (with_reducible apply keeps_seedRx)

theorem keeps_slewPending (h : Keeps r s) (k : PortId) : Keeps r (s.slewPending k) := by
  unfold State.slewPending
  repeat' first
    | intro _
    | with_reducible assumption
    | (with_reducible apply keeps_onLanes)
    | (with_reducible apply keeps_setIf)

theorem keeps_portTrain (h : Keeps r s) (k : PortId) : Keeps r (s.portTrain k) := by
  unfold State.portTrain
  repeat' first
    | intro _
    | with_reducible assumption
    | (with_reducible apply keeps_pstateTo)
    | (with_reducible apply keeps_onLanes)
    | (with_reducible apply keeps_setLoc)
    | (with_reducible apply keeps_helloSend)
    | (with_reducible apply keeps_slewPending)
    | (with_reducible apply keeps_ite)
    | (with_reducible apply keeps_mk)
    | (with_reducible apply keeps_mk_mem)
    | (with_reducible apply keeps_mk_snd)
    | (with_reducible apply keeps_mk_drew)

theorem keeps_portLocked (h : Keeps r s) (k : PortId) : Keeps r (s.portLocked k) := by
  unfold State.portLocked
  repeat' first
    | intro _
    | with_reducible assumption
    | (with_reducible apply keeps_pstateTo)
    | (with_reducible apply keeps_setPt)
    | (with_reducible apply keeps_mk)
    | (with_reducible apply keeps_mk_mem)
    | (with_reducible apply keeps_mk_snd)
    | (with_reducible apply keeps_mk_drew)

theorem keeps_portReached (h : Keeps r s) (k : PortId) : Keeps r (s.portReached k) := by
  unfold State.portReached
  repeat' first
    | intro _
    | with_reducible assumption
    | (with_reducible apply keeps_set)
    | (with_reducible apply keeps_setPt)
    | (with_reducible apply keeps_ite)
    | (with_reducible apply keeps_mk)
    | (with_reducible apply keeps_mk_mem)
    | (with_reducible apply keeps_mk_snd)
    | (with_reducible apply keeps_mk_drew)

theorem keeps_offersCut (h : Keeps r s) (k : PortId) : Keeps r (s.offersCut k) := by
  unfold State.offersCut
  repeat' first
    | intro _
    | with_reducible assumption
    | (with_reducible apply keeps_onHosts)
    | (with_reducible apply keeps_offerCut)

theorem keeps_portTraffic (h : Keeps r s) (k : PortId) : Keeps r (s.portTraffic k) := by
  unfold State.portTraffic
  repeat' first
    | with_reducible assumption
    | (with_reducible apply keeps_pstateTo)
    | (with_reducible apply keeps_inc)
    | (with_reducible apply keeps_portReached)
    | (with_reducible apply keeps_offersCut)
    | (with_reducible apply keeps_alarmEnd)

theorem keeps_portOneWay (h : Keeps r s) (k : PortId) : Keeps r (s.portOneWay k) := by
  unfold State.portOneWay
  repeat' first
    | with_reducible assumption
    | (with_reducible apply keeps_pstateTo)
    | (with_reducible apply keeps_on)
    | (with_reducible apply keeps_alarm)
    | (with_reducible apply keeps_portReached)
    | (with_reducible apply keeps_offersCut)

theorem keeps_holdExpire (h : Keeps r s) (k : PortId) : Keeps r (s.holdExpire k) := by
  unfold State.holdExpire
  repeat' first
    | with_reducible assumption
    | (with_reducible apply keeps_holdTrace)
    | (with_reducible apply keeps_losDrop)
    | (with_reducible apply keeps_holdoff)
    | (with_reducible apply keeps_ite)

theorem keeps_portStart (h : Keeps r s) (k : PortId) : Keeps r (s.portStart k) := by
  unfold State.portStart
  repeat' first
    | intro _
    | with_reducible assumption
    | (with_reducible apply keeps_onLanes)
    | (with_reducible apply keeps_laneOn)
    | (with_reducible apply keeps_calStart)
    | (with_reducible apply keeps_ite)
    | (with_reducible apply keeps_mk)
    | (with_reducible apply keeps_mk_mem)
    | (with_reducible apply keeps_mk_snd)
    | (with_reducible apply keeps_mk_drew)

theorem keeps_startLost (h : Keeps r s) (k : PortId) : Keeps r (s.startLost k) := by
  unfold State.startLost
  repeat' first
    | intro _
    | with_reducible assumption
    | (with_reducible apply keeps_onLanes)
    | (with_reducible apply keeps_setCal)
    | (with_reducible apply keeps_laneDown)
    | (with_reducible apply keeps_ite)
    | (with_reducible apply keeps_mk)
    | (with_reducible apply keeps_mk_mem)
    | (with_reducible apply keeps_mk_snd)
    | (with_reducible apply keeps_mk_drew)

theorem keeps_portStep (h : Keeps r s) (k : PortId) : Keeps r (s.portStep k) := by
  unfold State.portStep
  repeat' first
    | intro _
    | with_reducible assumption
    | (with_reducible apply keeps_startLost)
    | (with_reducible apply keeps_portLeave)
    | (with_reducible apply keeps_portStart)
    | (with_reducible apply keeps_lightDemand)
    | (with_reducible apply keeps_portAcquire)
    | (with_reducible apply keeps_losDrop)
    | (with_reducible apply keeps_portTrain)
    | (with_reducible apply keeps_holdoff)
    | (with_reducible apply keeps_portLocked)
    | (with_reducible apply keeps_ite)
    | dsimp only
    | split

theorem keeps_portEval (h : Keeps r s) (k : PortId) : Keeps r (s.portEval k) := by
  unfold State.portEval
  repeat' first
    | with_reducible assumption
    | (with_reducible apply keeps_portDown)
    | (with_reducible apply keeps_portStep)
    | (with_reducible apply keeps_ite)
    | dsimp only
    | split

theorem keeps_portsEval (h : Keeps r s) : Keeps r (s.portsEval) := by
  unfold State.portsEval
  repeat' first
    | intro _
    | with_reducible assumption
    | (with_reducible apply keeps_each)
    | (with_reducible apply keeps_portEval)

theorem keeps_evalLane (h : Keeps r s) (n : Lane) : Keeps r (s.evalLane n) := by
  unfold State.evalLane
  repeat' first
    | with_reducible assumption
    | (with_reducible apply keeps_portEval)
    | dsimp only
    | split

theorem keeps_evalHost (h : Keeps r s) (j : Host) : Keeps r (s.evalHost j) := by
  unfold State.evalHost
  repeat' first
    | with_reducible assumption
    | (with_reducible apply keeps_evalLane)
    | dsimp only
    | split

theorem keeps_portStop (h : Keeps r s) (k : PortId) : Keeps r (s.portStop k) := by
  unfold State.portStop
  repeat' first
    | intro _
    | with_reducible assumption
    | (with_reducible apply keeps_off)
    | (with_reducible apply keeps_onLanes)
    | (with_reducible apply keeps_calAbort)
    | (with_reducible apply keeps_laneDown)
    | (with_reducible apply keeps_portDown)
    | (with_reducible apply keeps_ite)

theorem keeps_portWindow (h : Keeps r s) (n : Lane) (failed : Nat) : Keeps r (s.portWindow n failed) := by
  unfold State.portWindow
  repeat' first
    | intro _
    | with_reducible assumption
    | (with_reducible apply keeps_setLoc)
    | (with_reducible apply keeps_portTrain)
    | (with_reducible apply keeps_portEval)
    | (with_reducible apply keeps_ite)
    | dsimp only
    | split
    | (with_reducible apply keeps_mk)
    | (with_reducible apply keeps_mk_mem)
    | (with_reducible apply keeps_mk_snd)
    | (with_reducible apply keeps_mk_drew)

theorem keeps_napStart (h : Keeps r s) (k : PortId) : Keeps r (s.napStart k) := by
  unfold State.napStart
  repeat' first
    | intro _
    | with_reducible assumption
    | (with_reducible apply keeps_setPt)
    | (with_reducible apply keeps_onLanes)
    | (with_reducible apply keeps_demandEval)
    | (with_reducible apply keeps_dacCancel)
    | (with_reducible apply keeps_mk)
    | (with_reducible apply keeps_mk_mem)
    | (with_reducible apply keeps_mk_snd)
    | (with_reducible apply keeps_mk_drew)

theorem keeps_napCommit (h : Keeps r s) (k : PortId) : Keeps r (s.napCommit k) := by
  unfold State.napCommit
  repeat' first
    | intro _
    | with_reducible assumption
    | (with_reducible apply keeps_set)
    | (with_reducible apply keeps_pstateTo)
    | (with_reducible apply keeps_portQuiet)
    | (with_reducible apply keeps_onLanes)
    | (with_reducible apply keeps_swapReplace)
    | (with_reducible apply keeps_calLeave)
    | (with_reducible apply keeps_rxStop)
    | (with_reducible apply keeps_unlock)
    | (with_reducible apply keeps_eqStop)
    | (with_reducible apply keeps_setLn)
    | (with_reducible apply keeps_setTx)
    | (with_reducible apply keeps_seqDemand)
    | (with_reducible apply keeps_pllStop)
    | (with_reducible apply keeps_onHosts)
    | (with_reducible apply keeps_hostNap)
    | (with_reducible apply keeps_alarmEnd)
    | (with_reducible apply keeps_proofDue)
    | (with_reducible apply keeps_ite)
    | (with_reducible apply keeps_mk)
    | (with_reducible apply keeps_mk_mem)
    | (with_reducible apply keeps_mk_snd)
    | (with_reducible apply keeps_mk_drew)

theorem keeps_clocksRun (h : Keeps r s) (k : PortId) (us : Nat) : Keeps r (s.clocksRun k us) := by
  unfold State.clocksRun
  repeat' first
    | intro _
    | with_reducible assumption
    | (with_reducible apply keeps_onLanes)
    | (with_reducible apply keeps_laneOn)
    | (with_reducible apply keeps_laneAcquire)
    | (with_reducible apply keeps_seedRx)
    | (with_reducible apply keeps_setCal)
    | (with_reducible apply keeps_onHosts)
    | (with_reducible apply keeps_hostWake)
    | (with_reducible apply keeps_seqDemand)
    | (with_reducible apply keeps_setPt)
    | (with_reducible apply keeps_set)
    | (with_reducible apply keeps_ite)
    | dsimp only
    | split
    | (with_reducible apply keeps_mk)
    | (with_reducible apply keeps_mk_mem)
    | (with_reducible apply keeps_mk_snd)
    | (with_reducible apply keeps_mk_drew)

theorem keeps_wakeDone (h : Keeps r s) (k : PortId) (us : Nat) : Keeps r (s.wakeDone k us) := by
  unfold State.wakeDone
  repeat' first
    | intro _
    | with_reducible assumption
    | (with_reducible apply keeps_setPt)
    | (with_reducible apply keeps_set)
    | (with_reducible apply keeps_pstateTo)
    | (with_reducible apply keeps_offersCut)
    | (with_reducible apply keeps_slewPending)
    | (with_reducible apply keeps_ite)
    | dsimp only
    | split
    | (with_reducible apply keeps_mk)
    | (with_reducible apply keeps_mk_mem)
    | (with_reducible apply keeps_mk_snd)
    | (with_reducible apply keeps_mk_drew)

theorem keeps_wakeLate (h : Keeps r s) (k : PortId) (us run : Nat) : Keeps r (s.wakeLate k us run) := by
  unfold State.wakeLate
  repeat' first
    | with_reducible assumption
    | (with_reducible apply keeps_on)
    | (with_reducible apply keeps_set)
    | (with_reducible apply keeps_portLight)
    | (with_reducible apply keeps_ite)
    | dsimp only
    | split

theorem keeps_portCntClr (h : Keeps r s) (k : PortId) : Keeps r (s.portCntClr k) := by
  unfold State.portCntClr
  repeat' first
    | with_reducible assumption
    | (with_reducible apply keeps_off)

theorem keeps_wordSet (h : Keeps r s) (fs : List Field) (v : Nat) : Keeps r (s.wordSet fs v) := by
  unfold State.wordSet
  repeat' first
    | intro _
    | with_reducible assumption
    | (with_reducible apply keeps_each)
    | (with_reducible apply keeps_set)

theorem keeps_pairWrite (h : Keeps r s) (a v : Nat) (p : Pair) : Keeps r (s.pairWrite a v p) := by
  unfold State.pairWrite
  repeat' first
    | with_reducible assumption
    | (with_reducible apply keeps_set)
    | (with_reducible apply keeps_peakWritten)
    | (with_reducible apply keeps_coefWrite)
    | (with_reducible apply keeps_wordSet)
    | (with_reducible apply keeps_on)
    | (with_reducible apply keeps_rxWrite)
    | (with_reducible apply keeps_ite)
    | dsimp only
    | split

theorem keeps_pairAccess (h : Keeps r s) (i : Initiator) (p : Pair) (acc : DataAcc) : Keeps r (s.pairAccess i p acc) := by
  unfold State.pairAccess
  repeat' first
    | with_reducible assumption
    | (with_reducible apply keeps_accessError)
    | (with_reducible apply keeps_pairWrite)
    | (with_reducible apply keeps_parityRight)
    | (with_reducible apply keeps_advance)
    | (with_reducible apply keeps_respond)
    | (with_reducible apply keeps_pairParity)
    | (with_reducible apply keeps_ite)
    | dsimp only
    | split

theorem keeps_upSet (h : Keeps r s) (k : PortId) : Keeps r (s.upSet k) := by
  unfold State.upSet
  repeat' first
    | with_reducible assumption
    | (with_reducible apply keeps_on)
    | (with_reducible apply keeps_portEval)
    | (with_reducible apply keeps_ite)
    | (with_reducible apply keeps_mk)
    | (with_reducible apply keeps_mk_mem)
    | (with_reducible apply keeps_mk_snd)
    | (with_reducible apply keeps_mk_drew)

theorem keeps_helloAgain (h : Keeps r s) (k : PortId) : Keeps r (s.helloAgain k) := by
  unfold State.helloAgain
  repeat' first
    | intro _
    | with_reducible assumption
    | (with_reducible apply keeps_onLanes)
    | (with_reducible apply keeps_helloSend)
    | (with_reducible apply keeps_ite)

theorem keeps_partnerLate (h : Keeps r s) (k : PortId) (us : Nat) : Keeps r (s.partnerLate k us) := by
  unfold State.partnerLate
  repeat' first
    | intro _
    | with_reducible assumption
    | (with_reducible apply keeps_inc)
    | (with_reducible apply keeps_setPt)
    | (with_reducible apply keeps_helloAgain)
    | (with_reducible apply keeps_portOneWay)
    | (with_reducible apply keeps_ite)
    | (with_reducible apply keeps_mk)
    | (with_reducible apply keeps_mk_mem)
    | (with_reducible apply keeps_mk_snd)
    | (with_reducible apply keeps_mk_drew)

theorem keeps_hostTaken (h : Keeps r s) (j : Host) : Keeps r (s.hostTaken j) := by
  unfold State.hostTaken
  repeat' first
    | intro _
    | with_reducible assumption
    | (with_reducible apply keeps_setHl)
    | (with_reducible apply keeps_mk)
    | (with_reducible apply keeps_mk_mem)
    | (with_reducible apply keeps_mk_snd)
    | (with_reducible apply keeps_mk_drew)

theorem keeps_kiteBeat (h : Keeps r s) (n : Lane) : Keeps r (s.kiteBeat n) := by
  unfold State.kiteBeat
  repeat' first
    | intro _
    | with_reducible assumption
    | (with_reducible apply keeps_setKl)
    | (with_reducible apply keeps_kiteSent)
    | (with_reducible apply keeps_ite)
    | dsimp only
    | split
    | (with_reducible apply keeps_mk)
    | (with_reducible apply keeps_mk_mem)
    | (with_reducible apply keeps_mk_snd)
    | (with_reducible apply keeps_mk_drew)

theorem keeps_txFrames (h : Keeps r s) (n : Lane) : Keeps r (s.txFrames n) := by
  unfold State.txFrames
  repeat' first
    | intro _
    | with_reducible assumption
    | (with_reducible apply keeps_genSent)
    | (with_reducible apply keeps_each)
    | (with_reducible apply keeps_hostTaken)
    | (with_reducible apply keeps_setTx)
    | (with_reducible apply keeps_on)
    | (with_reducible apply keeps_incBy)
    | (with_reducible apply keeps_ite)
    | (with_reducible apply keeps_mk)
    | (with_reducible apply keeps_mk_mem)
    | (with_reducible apply keeps_mk_snd)
    | (with_reducible apply keeps_mk_drew)

theorem keeps_txBeat (h : Keeps r s) (n : Lane) : Keeps r (s.txBeat n) := by
  unfold State.txBeat
  repeat' first
    | with_reducible assumption
    | (with_reducible apply keeps_txFrames)
    | (with_reducible apply keeps_ampMove)
    | (with_reducible apply keeps_kiteBeat)

theorem keeps_hostTake (h : Keeps r s) (j : Host) (xs : List Int) : Keeps r ((s.hostTake j xs).1) := by
  unfold State.hostTake
  repeat' first
    | intro _
    | with_reducible assumption
    | (with_reducible apply keeps_setHl)
    | (with_reducible apply keeps_hostBeat)
    | (with_reducible apply keeps_ite)
    | (with_reducible apply keeps_mk)
    | (with_reducible apply keeps_mk_mem)
    | (with_reducible apply keeps_mk_snd)
    | (with_reducible apply keeps_mk_drew)

theorem keeps_mseShow (h : Keeps r s) (j : Host) : Keeps r (s.mseShow j) := by
  unfold State.mseShow
  repeat' first
    | intro _
    | with_reducible assumption
    | (with_reducible apply keeps_set)
    | (with_reducible apply keeps_drew)
    | (with_reducible apply keeps_ite)

theorem keeps_hostReceive (h : Keeps r s) (j : Host) (xs : List Int) : Keeps r ((s.hostReceive j xs).1) := by
  have k : ∀ (l : List (List Int)) (p : State × List Nat), Keeps r p.1 → Keeps r (l.foldl (fun (a : State × List Nat) c =>
      let q := a.1.hostTake j c
      (q.1, a.2 ++ q.2)) p).1 := by
    intro l
    induction l with
    | nil => exact fun _ k => k
    | cons w t ih => exact fun p k => ih _ (keeps_hostTake k _ _)
  exact keeps_prbsFeed (keeps_mseShow (k (bitGroups 32 xs.length xs) (s, []) h) _) _ _

theorem keeps_gearTake (h : Keeps r s) (j : Host) (bs : List Bool) : Keeps r (s.gearTake j bs) := by
  unfold State.gearTake
  repeat' first
    | intro _
    | with_reducible assumption
    | (with_reducible apply keeps_setHl)
    | (with_reducible apply keeps_kp4Feed)
    | (with_reducible apply keeps_ite)
    | (with_reducible apply keeps_mk)
    | (with_reducible apply keeps_mk_mem)
    | (with_reducible apply keeps_mk_snd)
    | (with_reducible apply keeps_mk_drew)

theorem keeps_gearCentre (h : Keeps r s) (j : Host) : Keeps r (s.gearCentre j) := by
  unfold State.gearCentre
  repeat' first
    | intro _
    | with_reducible assumption
    | (with_reducible apply keeps_each)
    | (with_reducible apply keeps_setHl)
    | (with_reducible apply keeps_drew)
    | (with_reducible apply keeps_mk)
    | (with_reducible apply keeps_mk_mem)
    | (with_reducible apply keeps_mk_snd)
    | (with_reducible apply keeps_mk_drew)

theorem keeps_gearSlip (h : Keeps r s) (n : Lane) : Keeps r (s.gearSlip n) := by
  unfold State.gearSlip
  repeat' first
    | intro _
    | with_reducible assumption
    | (with_reducible apply keeps_each)
    | (with_reducible apply keeps_gearCentre)
    | (with_reducible apply keeps_gbxSlip)

theorem keeps_kp4Count (h : Keeps r s) (j : Host) (d : Dir) : Keeps r (s.kp4Count j d) := by
  unfold State.kp4Count
  repeat' first
    | intro _
    | with_reducible assumption
    | (with_reducible apply keeps_setKp4)
    | (with_reducible apply keeps_each)
    | (with_reducible apply keeps_kp4Codeword)
    | (with_reducible apply keeps_mk)
    | (with_reducible apply keeps_mk_mem)
    | (with_reducible apply keeps_mk_snd)
    | (with_reducible apply keeps_mk_drew)

theorem keeps_hostSend (h : Keeps r s) (j : Host) : Keeps r (s.hostSend j) := by
  unfold State.hostSend
  repeat' first
    | intro _
    | with_reducible assumption
    | (with_reducible apply keeps_genSent)
    | (with_reducible apply keeps_setHl)
    | (with_reducible apply keeps_ite)
    | (with_reducible apply keeps_mk)
    | (with_reducible apply keeps_mk_mem)
    | (with_reducible apply keeps_mk_snd)
    | (with_reducible apply keeps_mk_drew)

theorem keeps_skewMeasure (h : Keeps r s) (j : Host) (skew : Nat) : Keeps r (s.skewMeasure j skew) := by
  unfold State.skewMeasure
  repeat' first
    | intro _
    | with_reducible assumption
    | (with_reducible apply keeps_gbxSkew)
    | (with_reducible apply keeps_ite)
    | dsimp only
    | split

theorem keeps_kp4Receive (h : Keeps r s) (j : Host) (xs : List (BitVec 6)) : Keeps r (s.kp4Receive j xs) := by
  unfold State.kp4Receive
  repeat' first
    | with_reducible assumption
    | (with_reducible apply keeps_hostReceive)
    | (with_reducible apply keeps_gearTake)
    | (with_reducible apply keeps_kp4Count)
    | (with_reducible apply keeps_ite)

theorem keeps_agcStep (h : Keeps r s) (n : Lane) (sum cnt us : Nat) : Keeps r (s.agcStep n sum cnt us) := by
  unfold State.agcStep
  repeat' first
    | intro _
    | with_reducible assumption
    | (with_reducible apply keeps_gainTo)
    | (with_reducible apply keeps_setRx)
    | (with_reducible apply keeps_ite)
    | (with_reducible apply keeps_mk)
    | (with_reducible apply keeps_mk_mem)
    | (with_reducible apply keeps_mk_snd)
    | (with_reducible apply keeps_mk_drew)

theorem keeps_agcRestart (h : Keeps r s) (n : Lane) : Keeps r (s.agcRestart n) := by
  unfold State.agcRestart
  repeat' first
    | intro _
    | with_reducible assumption
    | (with_reducible apply keeps_setRx)
    | (with_reducible apply keeps_holdoff)
    | (with_reducible apply keeps_ite)
    | (with_reducible apply keeps_mk)
    | (with_reducible apply keeps_mk_mem)
    | (with_reducible apply keeps_mk_snd)
    | (with_reducible apply keeps_mk_drew)

theorem keeps_setSnd (h : Keeps r s) (f : SndSt → SndSt) (hf : s.snd.fifo.length ≤ 64 → (f s.snd).fifo.length ≤ 64) : Keeps r (s.setSnd f) := keeps_fifo h rfl rfl rfl rfl rfl hf rfl rfl

theorem keeps_runBegin (h : Keeps r s) : Keeps r (s.runBegin) := by
  unfold State.runBegin
  repeat' first
    | intro _
    | with_reducible assumption
    | (with_reducible apply keeps_stamp)
    | (with_reducible apply keeps_on)
    | (with_reducible apply keeps_setSnd)
    | exact fun k => k
    | exact Nat.zero_le _
    | (with_reducible apply keeps_mk)
    | (with_reducible apply keeps_mk_mem)
    | (with_reducible apply keeps_mk_snd)
    | (with_reducible apply keeps_mk_drew)

theorem keeps_runAsk (h : Keeps r s) : Keeps r (s.runAsk) := by
  unfold State.runAsk
  repeat' first
    | with_reducible assumption
    | (with_reducible apply keeps_on)
    | (with_reducible apply keeps_runBegin)
    | (with_reducible apply keeps_ite)

theorem keeps_runEnd (h : Keeps r s) : Keeps r (s.runEnd) := by
  unfold State.runEnd
  repeat' first
    | intro _
    | with_reducible assumption
    | (with_reducible apply keeps_off)
    | (with_reducible apply keeps_sprEvent)
    | (with_reducible apply keeps_setSnd)
    | (with_reducible apply keeps_runAsk)
    | exact fun k => k
    | exact Nat.zero_le _
    | (with_reducible apply keeps_ite)
    | (with_reducible apply keeps_mk)
    | (with_reducible apply keeps_mk_mem)
    | (with_reducible apply keeps_mk_snd)
    | (with_reducible apply keeps_mk_drew)

theorem keeps_runAbort (h : Keeps r s) : Keeps r (s.runAbort) := by
  unfold State.runAbort
  repeat' first
    | intro _
    | with_reducible assumption
    | (with_reducible apply keeps_on)
    | (with_reducible apply keeps_setSnd)
    | (with_reducible apply keeps_runEnd)
    | exact fun k => k
    | exact Nat.zero_le _
    | dsimp only
    | split
    | (with_reducible apply keeps_mk)
    | (with_reducible apply keeps_mk_mem)
    | (with_reducible apply keeps_mk_snd)
    | (with_reducible apply keeps_mk_drew)

theorem keeps_sndTrigger (h : Keeps r s) (src : Nat) : Keeps r (s.sndTrigger src) := by
  unfold State.sndTrigger
  repeat' first
    | with_reducible assumption
    | (with_reducible apply keeps_runAsk)
    | (with_reducible apply keeps_on)
    | (with_reducible apply keeps_inc)
    | (with_reducible apply keeps_ite)

theorem keeps_sndStart (h : Keeps r s) : Keeps r (s.sndStart) := by
  unfold State.sndStart
  repeat' first
    | intro _
    | with_reducible assumption
    | (with_reducible apply keeps_on)
    | (with_reducible apply keeps_setSnd)
    | (with_reducible apply keeps_runBegin)
    | exact fun k => k
    | exact Nat.zero_le _
    | (with_reducible apply keeps_ite)
    | (with_reducible apply keeps_mk)
    | (with_reducible apply keeps_mk_mem)
    | (with_reducible apply keeps_mk_snd)
    | (with_reducible apply keeps_mk_drew)

theorem keeps_sndStop (h : Keeps r s) : Keeps r (s.sndStop) := by
  unfold State.sndStop
  repeat' first
    | intro _
    | with_reducible assumption
    | (with_reducible apply keeps_off)
    | (with_reducible apply keeps_setSnd)
    | (with_reducible apply keeps_runEnd)
    | exact fun k => k
    | exact Nat.zero_le _
    | (with_reducible apply keeps_ite)
    | (with_reducible apply keeps_mk)
    | (with_reducible apply keeps_mk_mem)
    | (with_reducible apply keeps_mk_snd)
    | (with_reducible apply keeps_mk_drew)

theorem keeps_convFill (h : Keeps r s) (us : Nat) : Keeps r (s.convFill us) := by
  unfold State.convFill
  repeat' first
    | intro _
    | with_reducible assumption
    | (with_reducible apply keeps_setSnd)
    | (with_reducible apply keeps_settle)
    | exact fun k => k
    | exact Nat.zero_le _
    | (with_reducible apply keeps_ite)
    | (with_reducible apply keeps_mk)
    | (with_reducible apply keeps_mk_mem)
    | (with_reducible apply keeps_mk_snd)
    | (with_reducible apply keeps_mk_drew)

theorem keeps_slotStart (h : Keeps r s) (c : SndSlot) (waitUs : Nat) : Keeps r (s.slotStart c waitUs) := by
  unfold State.slotStart
  repeat' first
    | intro _
    | with_reducible assumption
    | (with_reducible apply keeps_on)
    | (with_reducible apply keeps_setIf)
    | (with_reducible apply keeps_setSnd)
    | (with_reducible apply keeps_settle)
    | (with_reducible apply keeps_count)
    | exact fun k => k
    | exact Nat.zero_le _
    | (with_reducible apply keeps_ite)
    | (with_reducible apply keeps_mk)
    | (with_reducible apply keeps_mk_mem)
    | (with_reducible apply keeps_mk_snd)
    | (with_reducible apply keeps_mk_drew)

theorem keeps_entryStart (h : Keeps r s) (j : Nat) : Keeps r (s.entryStart j) := by
  unfold State.entryStart
  repeat' first
    | intro _
    | with_reducible assumption
    | (with_reducible apply keeps_runAbort)
    | (with_reducible apply keeps_set)
    | (with_reducible apply keeps_setSnd)
    | (with_reducible apply keeps_settle)
    | (with_reducible apply keeps_count)
    | exact fun k => k
    | exact Nat.zero_le _
    | (with_reducible apply keeps_ite)
    | (with_reducible apply keeps_mk)
    | (with_reducible apply keeps_mk_mem)
    | (with_reducible apply keeps_mk_snd)
    | (with_reducible apply keeps_mk_drew)

theorem keeps_convStart (h : Keeps r s) (waitUs : Nat) : Keeps r (s.convStart waitUs) := by
  unfold State.convStart
  repeat' first
    | with_reducible assumption
    | (with_reducible apply keeps_slotStart)
    | (with_reducible apply keeps_entryStart)
    | (with_reducible apply keeps_ite)
    | dsimp only
    | split

theorem keeps_overload (h : Keeps r s) (before : Nat) : Keeps r (s.overload before) := by
  unfold State.overload
  repeat' first
    | intro _
    | with_reducible assumption
    | (with_reducible apply keeps_setSnd)
    | exact fun k => k
    | exact Nat.zero_le _
    | (with_reducible apply keeps_ite)
    | dsimp only
    | split
    | (with_reducible apply keeps_mk)
    | (with_reducible apply keeps_mk_mem)
    | (with_reducible apply keeps_mk_snd)
    | (with_reducible apply keeps_mk_drew)

theorem keeps_dcbClear (h : Keeps r s) (j : Nat) : Keeps r (s.dcbClear j) := by
  unfold State.dcbClear
  repeat' first
    | intro _
    | with_reducible assumption
    | (with_reducible apply keeps_setSnd)
    | (with_reducible apply keeps_set)
    | (with_reducible apply keeps_off)
    | exact fun k => k
    | exact Nat.zero_le _
    | (with_reducible apply keeps_mk)
    | (with_reducible apply keeps_mk_mem)
    | (with_reducible apply keeps_mk_snd)
    | (with_reducible apply keeps_mk_drew)

theorem keeps_dcbUpdate (h : Keeps r s) (c : SndConv) (x : Int) : Keeps r (s.dcbUpdate c x) := by
  unfold State.dcbUpdate
  repeat' first
    | intro _
    | with_reducible assumption
    | (with_reducible apply keeps_setSnd)
    | (with_reducible apply keeps_set)
    | (with_reducible apply keeps_seti)
    | exact fun k => k
    | exact Nat.zero_le _
    | (with_reducible apply keeps_mk)
    | (with_reducible apply keeps_mk_mem)
    | (with_reducible apply keeps_mk_snd)
    | (with_reducible apply keeps_mk_drew)

theorem keeps_fifoPush (h : Keeps r s) (w : Nat) : Keeps r (s.fifoPush w) := by
  unfold State.fifoPush
  split
  · exact h
  · split
    · exact keeps_inc (keeps_on h _) _
    · rename_i k
      refine keeps_setSnd h _ (fun _ => ?_)
      simp only [List.length_append, List.length_cons, List.length_nil]
      omega

theorem keeps_sndDeliver (h : Keeps r s) (c : SndConv) (x : Int) (ovr : Bool) (final : Bool) : Keeps r (s.sndDeliver c x ovr final) := by
  unfold State.sndDeliver
  repeat' first
    | with_reducible assumption
    | (with_reducible apply keeps_set)
    | (with_reducible apply keeps_setB)
    | (with_reducible apply keeps_dcbUpdate)
    | (with_reducible apply keeps_fifoPush)
    | (with_reducible apply keeps_ite)

theorem keeps_sndResult (h : Keeps r s) (vin : List Int) : Keeps r (s.sndResult vin) := by
  unfold State.sndResult
  repeat' first
    | intro _
    | with_reducible assumption
    | (with_reducible apply keeps_count)
    | (with_reducible apply keeps_on)
    | (with_reducible apply keeps_setSnd)
    | (with_reducible apply keeps_sndDeliver)
    | exact fun k => k
    | exact Nat.zero_le _
    | (with_reducible apply keeps_ite)
    | dsimp only
    | split
    | (with_reducible apply keeps_mk)
    | (with_reducible apply keeps_mk_mem)
    | (with_reducible apply keeps_mk_snd)
    | (with_reducible apply keeps_mk_drew)

theorem keeps_slotKeep (h : Keeps r s) (c : SndConv) : Keeps r (s.slotKeep c) := by
  unfold State.slotKeep
  repeat' first
    | intro _
    | with_reducible assumption
    | (with_reducible apply keeps_setSnd)
    | exact fun k => k
    | exact Nat.zero_le _
    | dsimp only
    | split
    | (with_reducible apply keeps_mk)
    | (with_reducible apply keeps_mk_mem)
    | (with_reducible apply keeps_mk_snd)
    | (with_reducible apply keeps_mk_drew)

theorem keeps_slotsTaken (h : Keeps r s) (qs : List SndSlot) : Keeps r (s.slotsTaken qs) := by
  unfold State.slotsTaken
  repeat' first
    | intro _
    | with_reducible assumption
    | (with_reducible apply keeps_setSnd)
    | exact fun k => k
    | exact Nat.zero_le _
    | (with_reducible apply keeps_mk)
    | (with_reducible apply keeps_mk_mem)
    | (with_reducible apply keeps_mk_snd)
    | (with_reducible apply keeps_mk_drew)

theorem keeps_convEnd (h : Keeps r s) : Keeps r (s.convEnd) := by
  unfold State.convEnd
  repeat' first
    | intro _
    | with_reducible assumption
    | (with_reducible apply keeps_count)
    | (with_reducible apply keeps_setSnd)
    | (with_reducible apply keeps_slotKeep)
    | (with_reducible apply keeps_inc)
    | (with_reducible apply keeps_off)
    | (with_reducible apply keeps_runEnd)
    | exact fun k => k
    | exact Nat.zero_le _
    | (with_reducible apply keeps_ite)
    | dsimp only
    | split
    | (with_reducible apply keeps_mk)
    | (with_reducible apply keeps_mk_mem)
    | (with_reducible apply keeps_mk_snd)
    | (with_reducible apply keeps_mk_drew)

theorem keeps_slotAsk (h : Keeps r s) (c : SndSlot) : Keeps r (s.slotAsk c) := by
  unfold State.slotAsk
  repeat' first
    | intro _
    | with_reducible assumption
    | (with_reducible apply keeps_on)
    | (with_reducible apply keeps_setSnd)
    | exact fun k => k
    | exact Nat.zero_le _
    | (with_reducible apply keeps_ite)
    | (with_reducible apply keeps_mk)
    | (with_reducible apply keeps_mk_mem)
    | (with_reducible apply keeps_mk_snd)
    | (with_reducible apply keeps_mk_drew)

theorem keeps_refReady (h : Keeps r s) : Keeps r (s.refReady) := by
  unfold State.refReady
  repeat' first
    | with_reducible assumption
    | (with_reducible apply keeps_on)
    | (with_reducible apply keeps_ite)

theorem keeps_refWrite (h : Keeps r s) (v : Bool) : Keeps r (s.refWrite v) := by
  unfold State.refWrite
  repeat' first
    | with_reducible assumption
    | (with_reducible apply keeps_on)
    | (with_reducible apply keeps_off)
    | (with_reducible apply keeps_ite)

theorem keeps_supRise (h : Keeps r s) : Keeps r (s.supRise) := by
  unfold State.supRise
  repeat' first
    | with_reducible assumption
    | (with_reducible apply keeps_on)
    | (with_reducible apply keeps_settle)
    | (with_reducible apply keeps_count)
    | (with_reducible apply keeps_runAbort)
    | (with_reducible apply keeps_ite)
    | dsimp only
    | split

theorem keeps_fifoPop (h : Keeps r s) : Keeps r (s.fifoPop) := by
  unfold State.fifoPop
  refine keeps_setSnd (keeps_respond h _) _ (fun k => ?_)
  exact Nat.le_trans (by simp) k

theorem keeps_entWrite (h : Keeps r s) (j w v : Nat) : Keeps r (s.entWrite j w v) := by
  unfold State.entWrite
  repeat' first
    | with_reducible assumption
    | (with_reducible apply keeps_setIf)
    | (with_reducible apply keeps_setB)
    | (with_reducible apply keeps_dcbClear)
    | (with_reducible apply keeps_set)
    | (with_reducible apply keeps_ite)

theorem keeps_sndCntClr (h : Keeps r s) : Keeps r (s.sndCntClr) := by
  unfold State.sndCntClr
  repeat' first
    | with_reducible assumption
    | (with_reducible apply keeps_off)

theorem keeps_sndOff (h : Keeps r s) : Keeps r (s.sndOff) := keeps_fifo h rfl rfl rfl rfl rfl (fun _ => Nat.zero_le _) rfl rfl

theorem keeps_safForce (h : Keeps r s) (n : Lane) (f : State → State) (hf : ∀ t, Keeps r t → Keeps r (f t)) : Keeps r (s.safForce n f) := by
  unfold State.safForce
  repeat' first
    | intro _
    | with_reducible assumption
    | (with_reducible apply hf)
    | (with_reducible apply keeps_forcing)
    | (with_reducible apply keeps_demandEval)
    | (with_reducible apply keeps_evalLane)

theorem keeps_safLog (h : Keeps r s) (n : Lane) (cause chan : Nat) (already : Bool) : Keeps r (s.safLog n cause chan already) := by
  unfold State.safLog
  repeat' first
    | with_reducible assumption
    | (with_reducible apply keeps_logRecord)

theorem keeps_lastingEval (h : Keeps r s) (n : Lane) : Keeps r (s.lastingEval n) := by
  unfold State.lastingEval
  repeat' first
    | intro _
    | with_reducible assumption
    | (with_reducible apply keeps_setSf)
    | (with_reducible apply keeps_on)
    | (with_reducible apply keeps_alarm)
    | (with_reducible apply keeps_ite)
    | (with_reducible apply keeps_mk)
    | (with_reducible apply keeps_mk_mem)
    | (with_reducible apply keeps_mk_snd)
    | (with_reducible apply keeps_mk_drew)

theorem keeps_latchRecord (h : Keeps r s) (n : Lane) (cause chan : Nat) : Keeps r (s.latchRecord n cause chan) := by
  unfold State.latchRecord
  repeat' first
    | with_reducible assumption
    | (with_reducible apply keeps_set)
    | (with_reducible apply keeps_inc)
    | (with_reducible apply keeps_on)
    | (with_reducible apply keeps_alarm)

theorem keeps_latch (h : Keeps r s) (n : Lane) (cause chan : Nat) : Keeps r (s.latch n cause chan) := by
  unfold State.latch
  repeat' first
    | intro _
    | with_reducible assumption
    | (with_reducible apply keeps_safLog)
    | (with_reducible apply keeps_safForce)
    | (with_reducible apply keeps_setBit)
    | (with_reducible apply keeps_latchRecord)
    | (with_reducible apply keeps_lastingEval)
    | (with_reducible apply keeps_ite)

theorem keeps_latchAll (h : Keeps r s) (cause : Nat) : Keeps r (s.latchAll cause) := by
  unfold State.latchAll
  repeat' first
    | intro _
    | with_reducible assumption
    | (with_reducible apply keeps_each)
    | (with_reducible apply keeps_latch)

theorem keeps_gateClose (h : Keeps r s) (n : Lane) (cause : Nat) : Keeps r (s.gateClose n cause) := by
  unfold State.gateClose
  repeat' first
    | intro _
    | with_reducible assumption
    | (with_reducible apply keeps_setSf)
    | (with_reducible apply keeps_safForce)
    | (with_reducible apply keeps_setBit)
    | (with_reducible apply keeps_latch)
    | (with_reducible apply keeps_ite)
    | (with_reducible apply keeps_mk)
    | (with_reducible apply keeps_mk_mem)
    | (with_reducible apply keeps_mk_snd)
    | (with_reducible apply keeps_mk_drew)

theorem keeps_gateAll (h : Keeps r s) (cause : Nat) : Keeps r (s.gateAll cause) := by
  unfold State.gateAll
  repeat' first
    | intro _
    | with_reducible assumption
    | (with_reducible apply keeps_each)
    | (with_reducible apply keeps_gateClose)

theorem keeps_gateEnd (h : Keeps r s) (n : Lane) (cause : Nat) : Keeps r (s.gateEnd n cause) := by
  unfold State.gateEnd
  repeat' first
    | intro _
    | with_reducible assumption
    | (with_reducible apply keeps_setSf)
    | (with_reducible apply keeps_mk)
    | (with_reducible apply keeps_mk_mem)
    | (with_reducible apply keeps_mk_snd)
    | (with_reducible apply keeps_mk_drew)

theorem keeps_gateEndAll (h : Keeps r s) (cause : Nat) : Keeps r (s.gateEndAll cause) := by
  unfold State.gateEndAll
  repeat' first
    | intro _
    | with_reducible assumption
    | (with_reducible apply keeps_each)
    | (with_reducible apply keeps_gateEnd)

theorem keeps_gateOpen (h : Keeps r s) (n : Lane) : Keeps r (s.gateOpen n) := by
  unfold State.gateOpen
  repeat' first
    | intro _
    | with_reducible assumption
    | (with_reducible apply keeps_safForce)
    | (with_reducible apply keeps_setBit)
    | (with_reducible apply keeps_ite)

theorem keeps_gateWrite (h : Keeps r s) (n : Lane) (v : Bool) : Keeps r (s.gateWrite n v) := by
  unfold State.gateWrite
  repeat' first
    | with_reducible assumption
    | (with_reducible apply keeps_gateClose)
    | (with_reducible apply keeps_gateOpen)
    | (with_reducible apply keeps_ite)

theorem keeps_proofBusy (h : Keeps r s) : Keeps r (s.proofBusy) := by
  unfold State.proofBusy
  repeat' first
    | intro _
    | with_reducible assumption
    | (with_reducible apply keeps_setB)

theorem keeps_relAsk (h : Keeps r s) (n : Lane) (ack : Bool) : Keeps r (s.relAsk n ack) := by
  unfold State.relAsk
  repeat' first
    | intro _
    | with_reducible assumption
    | (with_reducible apply keeps_on)
    | (with_reducible apply keeps_proofDue)
    | (with_reducible apply keeps_setSf)
    | (with_reducible apply keeps_ite)
    | (with_reducible apply keeps_mk)
    | (with_reducible apply keeps_mk_mem)
    | (with_reducible apply keeps_mk_snd)
    | (with_reducible apply keeps_mk_drew)

theorem keeps_latchClear (h : Keeps r s) (n : Lane) : Keeps r (s.latchClear n) := by
  unfold State.latchClear
  repeat' first
    | intro _
    | with_reducible assumption
    | (with_reducible apply keeps_setSf)
    | (with_reducible apply keeps_safForce)
    | (with_reducible apply keeps_setBit)
    | (with_reducible apply keeps_off)
    | (with_reducible apply keeps_alarmEnd)
    | (with_reducible apply keeps_mk)
    | (with_reducible apply keeps_mk_mem)
    | (with_reducible apply keeps_mk_snd)
    | (with_reducible apply keeps_mk_drew)

theorem keeps_proofStart (h : Keeps r s) (n : Lane) : Keeps r (s.proofStart n) := by
  unfold State.proofStart
  repeat' first
    | intro _
    | with_reducible assumption
    | (with_reducible apply keeps_setSf)
    | (with_reducible apply keeps_proofBusy)
    | (with_reducible apply keeps_cmpShow)
    | (with_reducible apply keeps_ite)
    | (with_reducible apply keeps_mk)
    | (with_reducible apply keeps_mk_mem)
    | (with_reducible apply keeps_mk_snd)
    | (with_reducible apply keeps_mk_drew)

theorem keeps_proofOver (h : Keeps r s) (n : Lane) : Keeps r (s.proofOver n) := by
  unfold State.proofOver
  repeat' first
    | intro _
    | with_reducible assumption
    | (with_reducible apply keeps_setSf)
    | (with_reducible apply keeps_proofBusy)
    | (with_reducible apply keeps_setBit)
    | (with_reducible apply keeps_cmpShow)
    | (with_reducible apply keeps_ite)
    | (with_reducible apply keeps_mk)
    | (with_reducible apply keeps_mk_mem)
    | (with_reducible apply keeps_mk_snd)
    | (with_reducible apply keeps_mk_drew)

theorem keeps_proofEnd (h : Keeps r s) (n : Lane) : Keeps r (s.proofEnd n) := by
  unfold State.proofEnd
  repeat' first
    | with_reducible assumption
    | (with_reducible apply keeps_proofOver)
    | (with_reducible apply keeps_latchClear)
    | (with_reducible apply keeps_on)
    | (with_reducible apply keeps_ite)
    | dsimp only
    | split

theorem keeps_proofAbandon (h : Keeps r s) (n : Lane) : Keeps r (s.proofAbandon n) := by
  unfold State.proofAbandon
  repeat' first
    | intro _
    | with_reducible assumption
    | (with_reducible apply keeps_proofOver)
    | (with_reducible apply keeps_setSf)
    | (with_reducible apply keeps_on)
    | (with_reducible apply keeps_ite)
    | dsimp only
    | split
    | (with_reducible apply keeps_mk)
    | (with_reducible apply keeps_mk_mem)
    | (with_reducible apply keeps_mk_snd)
    | (with_reducible apply keeps_mk_drew)

theorem keeps_proofPeriodic (h : Keeps r s) (n : Lane) : Keeps r (s.proofPeriodic n) := by
  unfold State.proofPeriodic
  repeat' first
    | with_reducible assumption
    | (with_reducible apply keeps_proofDue)
    | (with_reducible apply keeps_ite)

theorem keeps_proofAsk (h : Keeps r s) (n : Lane) : Keeps r (s.proofAsk n) := by
  unfold State.proofAsk
  repeat' first
    | intro _
    | with_reducible assumption
    | (with_reducible apply keeps_setBit)
    | (with_reducible apply keeps_proofDue)
    | (with_reducible apply keeps_setSf)
    | (with_reducible apply keeps_mk)
    | (with_reducible apply keeps_mk_mem)
    | (with_reducible apply keeps_mk_snd)
    | (with_reducible apply keeps_mk_drew)

theorem keeps_clampOn (h : Keeps r s) (n : Lane) : Keeps r (s.clampOn n) := by
  unfold State.clampOn
  repeat' first
    | intro _
    | with_reducible assumption
    | (with_reducible apply keeps_when)
    | (with_reducible apply keeps_setSf)
    | (with_reducible apply keeps_mk)
    | (with_reducible apply keeps_mk_mem)
    | (with_reducible apply keeps_mk_snd)
    | (with_reducible apply keeps_mk_drew)

theorem keeps_cmpAct (h : Keeps r s) (n : Lane) : Keeps r (s.cmpAct n) := by
  unfold State.cmpAct
  repeat' first
    | with_reducible assumption
    | (with_reducible apply keeps_cmpShow)
    | (with_reducible apply keeps_clampOn)
    | (with_reducible apply keeps_proofAbandon)
    | (with_reducible apply keeps_latch)
    | (with_reducible apply keeps_ite)

theorem keeps_proofChannel (h : Keeps r s) (n : Lane) (pass : Bool) : Keeps r (s.proofChannel n pass) := by
  unfold State.proofChannel
  repeat' first
    | intro _
    | with_reducible assumption
    | (with_reducible apply keeps_setB)
    | (with_reducible apply keeps_setSf)
    | (with_reducible apply keeps_inc)
    | (with_reducible apply keeps_on)
    | (with_reducible apply keeps_latch)
    | (with_reducible apply keeps_cmpAct)
    | (with_reducible apply keeps_ite)
    | dsimp only
    | split
    | (with_reducible apply keeps_mk)
    | (with_reducible apply keeps_mk_mem)
    | (with_reducible apply keeps_mk_snd)
    | (with_reducible apply keeps_mk_drew)

theorem keeps_mpdIn (h : Keeps r s) (n : Lane) (a b : Nat) : Keeps r (s.mpdIn n a b) := by
  unfold State.mpdIn
  repeat' first
    | intro _
    | with_reducible assumption
    | (with_reducible apply keeps_setSf)
    | (with_reducible apply keeps_cmpAct)
    | (with_reducible apply keeps_mk)
    | (with_reducible apply keeps_mk_mem)
    | (with_reducible apply keeps_mk_snd)
    | (with_reducible apply keeps_mk_drew)

theorem keeps_armLo (h : Keeps r s) (n : Lane) : Keeps r (s.armLo n) := by
  unfold State.armLo
  repeat' first
    | with_reducible assumption
    | (with_reducible apply keeps_on)
    | (with_reducible apply keeps_cmpAct)
    | (with_reducible apply keeps_ite)

theorem keeps_txDisable (h : Keeps r s) (n : Lane) (v : Bool) : Keeps r (s.txDisable n v) := by
  unfold State.txDisable
  repeat' first
    | intro _
    | with_reducible assumption
    | (with_reducible apply keeps_safForce)
    | (with_reducible apply keeps_setBit)
    | (with_reducible apply keeps_mk)
    | (with_reducible apply keeps_mk_mem)
    | (with_reducible apply keeps_mk_snd)
    | (with_reducible apply keeps_mk_drew)

theorem keeps_laserClr (h : Keeps r s) (low : Bool) : Keeps r (s.laserClr low) := by
  unfold State.laserClr
  repeat' first
    | intro _
    | with_reducible assumption
    | (with_reducible apply keeps_forcing)
    | (with_reducible apply keeps_setB)
    | (with_reducible apply keeps_demandAll)
    | (with_reducible apply keeps_portsEval)
    | (with_reducible apply keeps_mk)
    | (with_reducible apply keeps_mk_mem)
    | (with_reducible apply keeps_mk_snd)
    | (with_reducible apply keeps_mk_drew)

theorem keeps_clrChange (h : Keeps r s) (c : Chan) (v : Nat) : Keeps r (s.clrChange c v) := by
  unfold State.clrChange
  repeat' first
    | with_reducible assumption
    | (with_reducible apply keeps_injPass)
    | (with_reducible apply keeps_set)
    | (with_reducible apply keeps_clrWritten)
    | (with_reducible apply keeps_alarm)
    | (with_reducible apply keeps_ite)

theorem keeps_kick (h : Keeps r s) : Keeps r (s.kick) := by
  unfold State.kick
  repeat' first
    | with_reducible assumption
    | (with_reducible apply keeps_off)

theorem keeps_tickTime (h : Keeps r s) : Keeps r (s.tickTime) := by
  unfold State.tickTime
  split
  · exact keeps_now h rfl rfl (Nat.mod_lt _ (by decide)) rfl rfl rfl rfl rfl
  · exact keeps_upd h rfl rfl rfl rfl rfl rfl rfl rfl rfl

theorem keeps_tickWdt (h : Keeps r s) : Keeps r (s.tickWdt) := by
  unfold State.tickWdt
  repeat' first
    | with_reducible assumption
    | dsimp only
    | split
    | (with_reducible apply keeps_mk)
    | (with_reducible apply keeps_mk_mem)
    | (with_reducible apply keeps_mk_snd)
    | (with_reducible apply keeps_mk_drew)

theorem keeps_tickWdrs (h : Keeps r s) : Keeps r (s.tickWdrs) := by
  unfold State.tickWdrs
  repeat' first
    | intro _
    | with_reducible assumption
    | (with_reducible apply keeps_setPwr)
    | (with_reducible apply keeps_set)
    | (with_reducible apply keeps_ite)
    | (with_reducible apply keeps_mk)
    | (with_reducible apply keeps_mk_mem)
    | (with_reducible apply keeps_mk_snd)
    | (with_reducible apply keeps_mk_drew)

theorem keeps_tickCycles (h : Keeps r s) : Keeps r (s.tickCycles) := by
  unfold State.tickCycles
  repeat' first
    | with_reducible assumption
    | (with_reducible apply keeps_set)
    | (with_reducible apply keeps_ite)
    | (with_reducible apply keeps_mk)
    | (with_reducible apply keeps_mk_mem)
    | (with_reducible apply keeps_mk_snd)
    | (with_reducible apply keeps_mk_drew)

theorem keeps_tickPmc (h : Keeps r s) (i : Nat) : Keeps r (s.tickPmc i) := by
  unfold State.tickPmc
  repeat' first
    | with_reducible assumption
    | (with_reducible apply keeps_set)
    | (with_reducible apply keeps_setPmc)
    | (with_reducible apply keeps_ite)
    | (with_reducible apply keeps_mk)
    | (with_reducible apply keeps_mk_mem)
    | (with_reducible apply keeps_mk_snd)
    | (with_reducible apply keeps_mk_drew)

theorem keeps_tick (h : Keeps r s) : Keeps r (s.tick) := by
  unfold State.tick
  repeat' first
    | intro _
    | with_reducible assumption
    | (with_reducible apply keeps_off)
    | (with_reducible apply keeps_tickTime)
    | (with_reducible apply keeps_tickWdt)
    | (with_reducible apply keeps_tickWdrs)
    | (with_reducible apply keeps_tickCycles)
    | (with_reducible apply keeps_each)
    | (with_reducible apply keeps_tickPmc)
    | (with_reducible apply keeps_upsets)
    | (with_reducible apply keeps_drew)
    | (with_reducible apply keeps_ite)

theorem keeps_supLane (h : Keeps r s) (n : Lane) (x : Int) (tick : Bool) : Keeps r (s.supLane n x tick) := by
  unfold State.supLane
  repeat' first
    | intro _
    | with_reducible assumption
    | (with_reducible apply keeps_setSf)
    | (with_reducible apply keeps_tick)
    | (with_reducible apply keeps_gateClose)
    | (with_reducible apply keeps_gateEnd)
    | (with_reducible apply keeps_ite)
    | (with_reducible apply keeps_mk)
    | (with_reducible apply keeps_mk_mem)
    | (with_reducible apply keeps_mk_snd)
    | (with_reducible apply keeps_mk_drew)

theorem keeps_supPass (h : Keeps r s) (tick : Bool) : Keeps r (s.supPass tick) := by
  unfold State.supPass
  repeat' first
    | intro _
    | with_reducible assumption
    | (with_reducible apply keeps_each)
    | (with_reducible apply keeps_supLane)
    | (with_reducible apply keeps_tick)
    | (with_reducible apply keeps_slotsTaken)
    | (with_reducible apply keeps_kick)
    | (with_reducible apply keeps_off)
    | (with_reducible apply keeps_ite)

theorem keeps_deadman (h : Keeps r s) (us : Nat) : Keeps r (s.deadman us) := by
  unfold State.deadman
  repeat' first
    | with_reducible assumption
    | (with_reducible apply keeps_on)
    | (with_reducible apply keeps_gateAll)
    | (with_reducible apply keeps_ite)

theorem keeps_clockLoss (h : Keeps r s) : Keeps r (s.clockLoss) := by
  unfold State.clockLoss
  repeat' first
    | with_reducible assumption
    | (with_reducible apply keeps_on)
    | (with_reducible apply keeps_gateAll)
    | (with_reducible apply keeps_ite)

theorem keeps_clockBack (h : Keeps r s) : Keeps r (s.clockBack) := by
  unfold State.clockBack
  repeat' first
    | with_reducible assumption
    | (with_reducible apply keeps_off)
    | (with_reducible apply keeps_gateEndAll)

theorem keeps_supplyLost (h : Keeps r s) (mv : Nat) : Keeps r (s.supplyLost mv) := by
  unfold State.supplyLost
  repeat' first
    | intro _
    | with_reducible assumption
    | (with_reducible apply keeps_off)
    | (with_reducible apply keeps_on)
    | (with_reducible apply keeps_each)
    | (with_reducible apply keeps_loFollow)
    | (with_reducible apply keeps_latchAll)
    | (with_reducible apply keeps_ite)
    | (with_reducible apply keeps_mk)
    | (with_reducible apply keeps_mk_mem)
    | (with_reducible apply keeps_mk_snd)
    | (with_reducible apply keeps_mk_drew)

theorem keeps_limWrite (h : Keeps r s) (n : Lane) (hi lo : Nat) : Keeps r (s.limWrite n hi lo) := by
  unfold State.limWrite
  repeat' first
    | with_reducible assumption
    | (with_reducible apply keeps_set)
    | (with_reducible apply keeps_cmpShow)
    | (with_reducible apply keeps_on)
    | (with_reducible apply keeps_ite)

theorem keeps_supplyBack (h : Keeps r s) : Keeps r (s.supplyBack) := by
  unfold State.supplyBack
  repeat' first
    | with_reducible assumption
    | (with_reducible apply keeps_off)
    | (with_reducible apply keeps_mk)
    | (with_reducible apply keeps_mk_mem)
    | (with_reducible apply keeps_mk_snd)
    | (with_reducible apply keeps_mk_drew)

theorem keeps_vddioLow (h : Keeps r s) : Keeps r (s.vddioLow) := by
  unfold State.vddioLow
  repeat' first
    | with_reducible assumption
    | (with_reducible apply keeps_mk)
    | (with_reducible apply keeps_mk_mem)
    | (with_reducible apply keeps_mk_snd)
    | (with_reducible apply keeps_mk_drew)

theorem keeps_relWrite (h : Keeps r s) (lanes ack : Nat) : Keeps r (s.relWrite lanes ack) := by
  unfold State.relWrite
  repeat' first
    | intro _
    | with_reducible assumption
    | (with_reducible apply keeps_set)
    | (with_reducible apply keeps_each)
    | (with_reducible apply keeps_relAsk)

theorem keeps_safCntClr (h : Keeps r s) : Keeps r (s.safCntClr) := by
  unfold State.safCntClr
  repeat' first
    | intro _
    | with_reducible assumption
    | (with_reducible apply keeps_each)
    | (with_reducible apply keeps_off)

theorem keeps_safParity (h : Keeps r s) (a : Nat) : Keeps r (s.safParity a) := by
  unfold State.safParity
  repeat' first
    | with_reducible assumption
    | (with_reducible apply keeps_on)
    | (with_reducible apply keeps_alarm)
    | (with_reducible apply keeps_gateClose)
    | (with_reducible apply keeps_gateAll)
    | (with_reducible apply keeps_ite)

theorem keeps_rateSet (h : Keeps r s) (d : Nat) : Keeps r (s.rateSet d) := by
  unfold State.rateSet
  repeat' first
    | intro _
    | with_reducible assumption
    | (with_reducible apply keeps_off)
    | (with_reducible apply keeps_set)
    | (with_reducible apply keeps_drew)
    | (with_reducible apply keeps_ite)

theorem keeps_dsRecord (h : Keeps r s) (d : Nat) (t : Int) : Keeps r (s.dsRecord d t) := by
  unfold State.dsRecord
  repeat' first
    | with_reducible assumption
    | (with_reducible apply keeps_seti)
    | (with_reducible apply keeps_set)
    | (with_reducible apply keeps_rateSet)
    | (with_reducible apply keeps_mk)
    | (with_reducible apply keeps_mk_mem)
    | (with_reducible apply keeps_mk_snd)
    | (with_reducible apply keeps_mk_drew)

theorem keeps_warnEval (h : Keeps r s) : Keeps r (s.warnEval) := by
  unfold State.warnEval
  repeat' first
    | with_reducible assumption
    | (with_reducible apply keeps_off)
    | (with_reducible apply keeps_alarmEnd)
    | (with_reducible apply keeps_on)
    | (with_reducible apply keeps_inc)
    | (with_reducible apply keeps_alarm)
    | (with_reducible apply keeps_ite)

theorem keeps_shedFirst (h : Keeps r s) (n : Lane) : Keeps r (s.shedFirst n) := by
  unfold State.shedFirst
  repeat' first
    | intro _
    | with_reducible assumption
    | (with_reducible apply keeps_each)
    | (with_reducible apply keeps_shedCheck)

theorem keeps_shedEval (h : Keeps r s) : Keeps r (s.shedEval) := by
  unfold State.shedEval
  repeat' first
    | with_reducible assumption
    | (with_reducible apply keeps_off)
    | (with_reducible apply keeps_on)
    | (with_reducible apply keeps_shedFirst)
    | (with_reducible apply keeps_ite)
    | (with_reducible apply keeps_mk)
    | (with_reducible apply keeps_mk_mem)
    | (with_reducible apply keeps_mk_snd)
    | (with_reducible apply keeps_mk_drew)

theorem keeps_tripEval (h : Keeps r s) : Keeps r (s.tripEval) := by
  unfold State.tripEval
  repeat' first
    | intro _
    | with_reducible assumption
    | (with_reducible apply keeps_gateAll)
    | (with_reducible apply keeps_setPwr)
    | (with_reducible apply keeps_on)
    | (with_reducible apply keeps_inc)
    | (with_reducible apply keeps_alarm)
    | (with_reducible apply keeps_ite)
    | (with_reducible apply keeps_mk)
    | (with_reducible apply keeps_mk_mem)
    | (with_reducible apply keeps_mk_snd)
    | (with_reducible apply keeps_mk_drew)

theorem keeps_mtpEval (h : Keeps r s) : Keeps r (s.mtpEval) := by
  unfold State.mtpEval
  repeat' first
    | intro _
    | with_reducible assumption
    | (with_reducible apply keeps_setB)

theorem keeps_tjEval (h : Keeps r s) : Keeps r (s.tjEval) := by
  unfold State.tjEval
  repeat' first
    | with_reducible assumption
    | (with_reducible apply keeps_set)
    | (with_reducible apply keeps_setIf)
    | (with_reducible apply keeps_warnEval)
    | (with_reducible apply keeps_shedEval)
    | (with_reducible apply keeps_mtpEval)
    | (with_reducible apply keeps_tripEval)

theorem keeps_thmReading (h : Keeps r s) (d : Nat) (t : Int) : Keeps r (s.thmReading d t) := by
  unfold State.thmReading
  repeat' first
    | intro _
    | with_reducible assumption
    | (with_reducible apply keeps_dsRecord)
    | (with_reducible apply keeps_tjEval)
    | (with_reducible apply keeps_each)
    | (with_reducible apply keeps_calTemp)
    | (with_reducible apply keeps_sprEvent)
    | (with_reducible apply keeps_ite)

theorem keeps_crossCheck (h : Keeps r s) (t : Int) : Keeps r (s.crossCheck t) := by
  unfold State.crossCheck
  repeat' first
    | with_reducible assumption
    | (with_reducible apply keeps_set)
    | (with_reducible apply keeps_slotsTaken)
    | (with_reducible apply keeps_inc)
    | (with_reducible apply keeps_setBit)
    | (with_reducible apply keeps_on)
    | (with_reducible apply keeps_alarm)
    | (with_reducible apply keeps_tjEval)
    | (with_reducible apply keeps_ite)
    | (with_reducible apply keeps_mk)
    | (with_reducible apply keeps_mk_mem)
    | (with_reducible apply keeps_mk_snd)
    | (with_reducible apply keeps_mk_drew)

theorem keeps_tripRelease (h : Keeps r s) : Keeps r (s.tripRelease) := by
  unfold State.tripRelease
  repeat' first
    | with_reducible assumption
    | (with_reducible apply keeps_off)
    | (with_reducible apply keeps_gateEndAll)
    | (with_reducible apply keeps_alarmEnd)
    | (with_reducible apply keeps_ite)

theorem keeps_extChange (h : Keeps r s) (c : Nat) (f : State → State) (hf : ∀ t, Keeps r t → Keeps r (f t)) : Keeps r (s.extChange c f) := by
  unfold State.extChange
  repeat' first
    | intro _
    | with_reducible assumption
    | (with_reducible apply hf)
    | (with_reducible apply keeps_set)
    | (with_reducible apply keeps_alarm)
    | (with_reducible apply keeps_alarmEnd)
    | (with_reducible apply keeps_portsEval)
    | (with_reducible apply keeps_ite)

theorem keeps_extCfg (h : Keeps r s) (c lanes : Nat) (en : Bool) : Keeps r (s.extCfg c lanes en) := by
  unfold State.extCfg
  repeat' first
    | intro _
    | with_reducible assumption
    | (with_reducible apply keeps_extChange)
    | (with_reducible apply keeps_set)
    | (with_reducible apply keeps_setB)
    | (with_reducible apply keeps_off)
    | (with_reducible apply keeps_on)
    | (with_reducible apply keeps_ite)

theorem keeps_extFast (h : Keeps r s) (c : Nat) (t : Int) (fault : Bool) : Keeps r (s.extFast c t fault) := by
  unfold State.extFast
  repeat' first
    | with_reducible assumption
    | (with_reducible apply keeps_set)
    | (with_reducible apply keeps_on)
    | (with_reducible apply keeps_off)
    | (with_reducible apply keeps_ite)
    | (with_reducible apply keeps_mk)
    | (with_reducible apply keeps_mk_mem)
    | (with_reducible apply keeps_mk_snd)
    | (with_reducible apply keeps_mk_drew)

theorem keeps_extWindow (h : Keeps r s) (c : Nat) (t : Int) (fault : Bool) : Keeps r (s.extWindow c t fault) := by
  unfold State.extWindow
  repeat' first
    | with_reducible assumption
    | (with_reducible apply keeps_on)
    | (with_reducible apply keeps_off)
    | (with_reducible apply keeps_ite)

theorem keeps_extJudge (h : Keeps r s) (c : Nat) (num : Int) (den : Nat) : Keeps r (s.extJudge c num den) := by
  unfold State.extJudge
  repeat' first
    | intro _
    | with_reducible assumption
    | (with_reducible apply keeps_seti)
    | (with_reducible apply keeps_setB)
    | (with_reducible apply keeps_on)
    | (with_reducible apply keeps_alarm)
    | (with_reducible apply keeps_extChange)
    | (with_reducible apply keeps_extFast)
    | (with_reducible apply keeps_extWindow)
    | (with_reducible apply keeps_drew)
    | (with_reducible apply keeps_ite)
    | dsimp only
    | split

theorem keeps_extReading (h : Keeps r s) (c us : Nat) (num : Int) (den : Nat) : Keeps r (s.extReading c us num den) := by
  unfold State.extReading
  repeat' first
    | with_reducible assumption
    | (with_reducible apply keeps_slotsTaken)
    | (with_reducible apply keeps_extJudge)
    | (with_reducible apply keeps_ite)
    | dsimp only
    | split

theorem keeps_thmCntClr (h : Keeps r s) : Keeps r (s.thmCntClr) := by
  unfold State.thmCntClr
  repeat' first
    | with_reducible assumption
    | (with_reducible apply keeps_off)

theorem keeps_peakClr (h : Keeps r s) : Keeps r (s.peakClr) := by
  unfold State.peakClr
  repeat' first
    | with_reducible assumption
    | (with_reducible apply keeps_set)

theorem keeps_clearRegs (h : Keeps r s) (p : Nat → Ret → Bool) : Keeps r (s.clearRegs p) := keeps_regs h rfl rfl rfl (fun k => k.filter _) rfl rfl rfl rfl

theorem keeps_laneCleared (h : Keeps r s) (n : Lane) : Keeps r (s.laneCleared n) := by
  unfold State.laneCleared
  repeat' first
    | intro _
    | with_reducible assumption
    | (with_reducible apply keeps_clearRegs)
    | (with_reducible apply keeps_each)
    | (with_reducible apply keeps_alarmEnd)
    | (with_reducible apply keeps_laneHeld)
    | (with_reducible apply keeps_setLn)
    | (with_reducible apply keeps_mk)
    | (with_reducible apply keeps_mk_mem)
    | (with_reducible apply keeps_mk_snd)
    | (with_reducible apply keeps_mk_drew)

theorem keeps_hostCleared (h : Keeps r s) (j : Host) : Keeps r (s.hostCleared j) := by
  unfold State.hostCleared
  repeat' first
    | intro _
    | with_reducible assumption
    | (with_reducible apply keeps_clearRegs)
    | (with_reducible apply keeps_setHl)
    | (with_reducible apply keeps_mk)
    | (with_reducible apply keeps_mk_mem)
    | (with_reducible apply keeps_mk_snd)
    | (with_reducible apply keeps_mk_drew)

theorem keeps_portCleared (h : Keeps r s) (k : PortId) : Keeps r (s.portCleared k) := by
  unfold State.portCleared
  repeat' first
    | intro _
    | with_reducible assumption
    | (with_reducible apply keeps_clearRegs)
    | (with_reducible apply keeps_each)
    | (with_reducible apply keeps_laneCleared)
    | (with_reducible apply keeps_hostCleared)
    | (with_reducible apply keeps_setPt)
    | (with_reducible apply keeps_mk)
    | (with_reducible apply keeps_mk_mem)
    | (with_reducible apply keeps_mk_snd)
    | (with_reducible apply keeps_mk_drew)

theorem keeps_lanesCleared (h : Keeps r s) : Keeps r (s.lanesCleared) := by
  unfold State.lanesCleared
  repeat' first
    | intro _
    | with_reducible assumption
    | (with_reducible apply keeps_clearRegs)
    | (with_reducible apply keeps_each)
    | (with_reducible apply keeps_laneCleared)
    | (with_reducible apply keeps_hostCleared)
    | (with_reducible apply keeps_setPt)
    | (with_reducible apply keeps_mk)
    | (with_reducible apply keeps_mk_mem)
    | (with_reducible apply keeps_mk_snd)
    | (with_reducible apply keeps_mk_drew)

theorem keeps_napVo (h : Keeps r s) (k : PortId) : Keeps r (s.napVo k) := by
  unfold State.napVo
  repeat' first
    | intro _
    | with_reducible assumption
    | (with_reducible apply keeps_clearRegs)
    | (with_reducible apply keeps_set)
    | (with_reducible apply keeps_each)
    | (with_reducible apply keeps_setKl)
    | (with_reducible apply keeps_mk)
    | (with_reducible apply keeps_mk_mem)
    | (with_reducible apply keeps_mk_snd)
    | (with_reducible apply keeps_mk_drew)

theorem keeps_pinsShow (h : Keeps r s) : Keeps r (s.pinsShow) := by
  unfold State.pinsShow
  repeat' first
    | intro _
    | with_reducible assumption
    | (with_reducible apply keeps_set)
    | (with_reducible apply keeps_setB)
    | (with_reducible apply keeps_each)
    | (with_reducible apply keeps_cmpShow)

theorem keeps_classesCleared (h : Keeps r s) (pl : Bool) : Keeps r (s.classesCleared pl) := by
  unfold State.classesCleared
  dsimp only
  refine keeps_pinsShow ⟨h.variant, h.pending, h.fresh, fun i => ?_⟩
  have j := h.inv i
  refine ⟨rfl, Nat.zero_le _, Nat.zero_le _, ?_, ?_, j.flash⟩
  · dsimp only
    split
    · decide
    · exact j.time
  · exact (zip_rising _).2 (((zip_rising _).1 j.regs).filter _)

theorem keeps_lastWake (h : Keeps r s) (src det : Nat) (race asleep : Bool) : Keeps r (s.lastWake src det race asleep) := by
  unfold State.lastWake
  repeat' first
    | with_reducible assumption
    | (with_reducible apply keeps_set)
    | (with_reducible apply keeps_setB)
    | (with_reducible apply keeps_stamp)

theorem keeps_wakeBegin (h : Keeps r s) (src det : Nat) : Keeps r (s.wakeBegin src det) := by
  unfold State.wakeBegin
  repeat' first
    | intro _
    | with_reducible assumption
    | (with_reducible apply keeps_lastWake)
    | (with_reducible apply keeps_setPwr)
    | (with_reducible apply keeps_mk)
    | (with_reducible apply keeps_mk_mem)
    | (with_reducible apply keeps_mk_snd)
    | (with_reducible apply keeps_mk_drew)

theorem keeps_wakeStep (h : Keeps r s) (st : Nat) : Keeps r (s.wakeStep st) := by
  unfold State.wakeStep
  repeat' first
    | intro _
    | with_reducible assumption
    | (with_reducible apply keeps_setPwr)
    | (with_reducible apply keeps_ite)
    | (with_reducible apply keeps_mk)
    | (with_reducible apply keeps_mk_mem)
    | (with_reducible apply keeps_mk_snd)
    | (with_reducible apply keeps_mk_drew)

theorem keeps_wakeStall (h : Keeps r s) (us : Nat) : Keeps r (s.wakeStall us) := by
  unfold State.wakeStall
  repeat' first
    | intro _
    | with_reducible assumption
    | (with_reducible apply keeps_set)
    | (with_reducible apply keeps_inc)
    | (with_reducible apply keeps_on)
    | (with_reducible apply keeps_setPwr)
    | (with_reducible apply keeps_ite)
    | dsimp only
    | split
    | (with_reducible apply keeps_mk)
    | (with_reducible apply keeps_mk_mem)
    | (with_reducible apply keeps_mk_snd)
    | (with_reducible apply keeps_mk_drew)

theorem keeps_wakeRetry (h : Keeps r s) : Keeps r (s.wakeRetry) := by
  unfold State.wakeRetry
  repeat' first
    | intro _
    | with_reducible assumption
    | (with_reducible apply keeps_setPwr)
    | (with_reducible apply keeps_ite)
    | (with_reducible apply keeps_mk)
    | (with_reducible apply keeps_mk_mem)
    | (with_reducible apply keeps_mk_snd)
    | (with_reducible apply keeps_mk_drew)

theorem keeps_stallAlarm (h : Keeps r s) : Keeps r (s.stallAlarm) := by
  unfold State.stallAlarm
  repeat' first
    | intro _
    | with_reducible assumption
    | (with_reducible apply keeps_alarm)
    | (with_reducible apply keeps_setPwr)
    | dsimp only
    | split
    | (with_reducible apply keeps_mk)
    | (with_reducible apply keeps_mk_mem)
    | (with_reducible apply keeps_mk_snd)
    | (with_reducible apply keeps_mk_drew)

theorem keeps_refuseNote (h : Keeps r s) (q : SleepReq) (code : Nat) : Keeps r (s.refuseNote q code) := by
  unfold State.refuseNote
  repeat' first
    | intro _
    | with_reducible assumption
    | (with_reducible apply keeps_inc)
    | (with_reducible apply keeps_onLanes)
    | (with_reducible apply keeps_set)
    | (with_reducible apply keeps_setSleep)
    | (with_reducible apply keeps_ite)
    | dsimp only
    | split
    | (with_reducible apply keeps_mk)
    | (with_reducible apply keeps_mk_mem)
    | (with_reducible apply keeps_mk_snd)
    | (with_reducible apply keeps_mk_drew)

theorem keeps_dozeCommit (h : Keeps r s) : Keeps r (s.dozeCommit) := by
  unfold State.dozeCommit
  repeat' first
    | intro _
    | with_reducible assumption
    | (with_reducible apply keeps_reelRelease)
    | (with_reducible apply keeps_lanesCleared)
    | (with_reducible apply keeps_setPwr)
    | (with_reducible apply keeps_mk)
    | (with_reducible apply keeps_mk_mem)
    | (with_reducible apply keeps_mk_snd)
    | (with_reducible apply keeps_mk_drew)

theorem keeps_rungHold {r₀ s : State} (h : Keeps r₀ s) (r : Rung) (brace : Bool) : Keeps r₀ (s.rungHold r brace) := by
  unfold State.rungHold
  repeat' first
    | intro _
    | with_reducible assumption
    | (with_reducible apply keeps_setPwr)
    | (with_reducible apply keeps_inc)
    | (with_reducible apply keeps_set)
    | (with_reducible apply keeps_ite)
    | (with_reducible apply keeps_mk)
    | (with_reducible apply keeps_mk_mem)
    | (with_reducible apply keeps_mk_snd)
    | (with_reducible apply keeps_mk_drew)

theorem keeps_rungPassed (h : Keeps r s) (k : SleepKind) : Keeps r (s.rungPassed k) := by
  unfold State.rungPassed
  repeat' first
    | intro _
    | with_reducible assumption
    | (with_reducible apply keeps_setSleep)
    | (with_reducible apply keeps_setPwr)
    | dsimp only
    | split
    | (with_reducible apply keeps_mk)
    | (with_reducible apply keeps_mk_mem)
    | (with_reducible apply keeps_mk_snd)
    | (with_reducible apply keeps_mk_drew)

theorem keeps_sleepRefuse (h : Keeps r s) (k : SleepKind) (code : Nat) : Keeps r (s.sleepRefuse k code) := by
  unfold State.sleepRefuse
  repeat' first
    | with_reducible assumption
    | (with_reducible apply keeps_refuseNote)
    | (with_reducible apply keeps_sleepUndo)
    | (with_reducible apply keeps_dozeCommit)
    | (with_reducible apply keeps_sleepTell)
    | (with_reducible apply keeps_rungPassed)
    | (with_reducible apply keeps_dropSleep)
    | (with_reducible apply keeps_portsEval)
    | (with_reducible apply keeps_ite)
    | dsimp only
    | split

theorem keeps_sleepGrant (h : Keeps r s) (k : SleepKind) : Keeps r (s.sleepGrant k) := by
  unfold State.sleepGrant
  repeat' first
    | intro _
    | with_reducible assumption
    | (with_reducible apply keeps_setSleep)
    | (with_reducible apply keeps_napStart)
    | (with_reducible apply keeps_setPwr)
    | (with_reducible apply keeps_rungHold)
    | (with_reducible apply keeps_sleepTell)
    | (with_reducible apply keeps_ite)
    | dsimp only
    | split
    | (with_reducible apply keeps_mk)
    | (with_reducible apply keeps_mk_mem)
    | (with_reducible apply keeps_mk_snd)
    | (with_reducible apply keeps_mk_drew)

theorem keeps_sleepTry (h : Keeps r s) (k : SleepKind) : Keeps r (s.sleepTry k) := by
  unfold State.sleepTry
  repeat' first
    | intro _
    | with_reducible assumption
    | (with_reducible apply keeps_sleepUndo)
    | (with_reducible apply keeps_sleepTell)
    | (with_reducible apply keeps_dropSleep)
    | (with_reducible apply keeps_napStart)
    | (with_reducible apply keeps_sleepRefuse)
    | (with_reducible apply keeps_setSleep)
    | (with_reducible apply keeps_reelQuiesce)
    | (with_reducible apply keeps_onLanes)
    | (with_reducible apply keeps_calQuiesce)
    | (with_reducible apply keeps_sleepGrant)
    | (with_reducible apply keeps_ite)
    | dsimp only
    | split
    | (with_reducible apply keeps_mk)
    | (with_reducible apply keeps_mk_mem)
    | (with_reducible apply keeps_mk_snd)
    | (with_reducible apply keeps_mk_drew)

theorem keeps_napAsk (h : Keeps r s) (k : PortId) (src : SleepSrc) (rung : Option Bool) : Keeps r (s.napAsk k src rung) := by
  unfold State.napAsk
  repeat' first
    | intro _
    | with_reducible assumption
    | (with_reducible apply keeps_setPwr)
    | (with_reducible apply keeps_sleepTry)
    | (with_reducible apply keeps_ite)
    | (with_reducible apply keeps_mk)
    | (with_reducible apply keeps_mk_mem)
    | (with_reducible apply keeps_mk_snd)
    | (with_reducible apply keeps_mk_drew)

theorem keeps_startedEval (h : Keeps r s) (n : Lane) : Keeps r (s.startedEval n) := by
  unfold State.startedEval
  repeat' first
    | with_reducible assumption
    | (with_reducible apply keeps_portEval)
    | (with_reducible apply keeps_napAsk)
    | (with_reducible apply keeps_ite)
    | dsimp only
    | split

theorem keeps_napDone (h : Keeps r s) (k : PortId) : Keeps r (s.napDone k) := by
  unfold State.napDone
  repeat' first
    | with_reducible assumption
    | (with_reducible apply keeps_napCommit)
    | (with_reducible apply keeps_sleepTell)
    | (with_reducible apply keeps_dropSleep)
    | (with_reducible apply keeps_napVo)
    | (with_reducible apply keeps_ite)

theorem keeps_shelfAsk (h : Keeps r s) (src : SleepSrc) : Keeps r (s.shelfAsk src) := by
  unfold State.shelfAsk
  repeat' first
    | intro _
    | with_reducible assumption
    | (with_reducible apply keeps_setPwr)
    | (with_reducible apply keeps_each)
    | (with_reducible apply keeps_napDrop)
    | (with_reducible apply keeps_portDown)
    | (with_reducible apply keeps_onLanes)
    | (with_reducible apply keeps_calAbort)
    | (with_reducible apply keeps_sleepRefuse)
    | (with_reducible apply keeps_ite)
    | (with_reducible apply keeps_mk)
    | (with_reducible apply keeps_mk_mem)
    | (with_reducible apply keeps_mk_snd)
    | (with_reducible apply keeps_mk_drew)

theorem keeps_quiesceLate (h : Keeps r s) (k : SleepKind) : Keeps r (s.quiesceLate k) := by
  unfold State.quiesceLate
  repeat' first
    | with_reducible assumption
    | (with_reducible apply keeps_reelAbort)
    | (with_reducible apply keeps_sleepGrant)
    | (with_reducible apply keeps_sleepRefuse)
    | (with_reducible apply keeps_ite)
    | dsimp only
    | split

theorem keeps_rungAsk (h : Keeps r s) (k : PortId) (brace : Bool) : Keeps r (s.rungAsk k brace) := by
  unfold State.rungAsk
  repeat' first
    | intro _
    | with_reducible assumption
    | (with_reducible apply keeps_rungHold)
    | (with_reducible apply keeps_napAsk)
    | (with_reducible apply keeps_setSleep)
    | (with_reducible apply keeps_sleepTry)
    | (with_reducible apply keeps_ite)
    | dsimp only
    | split
    | (with_reducible apply keeps_mk)
    | (with_reducible apply keeps_mk_mem)
    | (with_reducible apply keeps_mk_snd)
    | (with_reducible apply keeps_mk_drew)

theorem keeps_napRung (h : Keeps r s) (brace : Bool) (ps : List PortId) : Keeps r (s.napRung brace ps) := by
  induction ps generalizing s with
  | nil => exact keeps_on h _
  | cons k rest ih =>
    unfold State.napRung
    exact keeps_ite (keeps_rungAsk h _ _) (ih (keeps_rungAsk h _ _))

theorem keeps_rungNext (h : Keeps r s) (t : State) (k : SleepKind) (ht : Keeps r t) : Keeps r (s.rungNext t k) := by
  unfold State.rungNext
  repeat' first
    | intro _
    | with_reducible assumption
    | (with_reducible apply hf)
    | (with_reducible apply keeps_napRung)
    | (with_reducible apply keeps_ite)
    | dsimp only
    | split

theorem keeps_quiesceAsk (h : Keeps r s) (k : SleepKind) : Keeps r (s.quiesceAsk k) := by
  unfold State.quiesceAsk
  repeat' first
    | with_reducible assumption
    | (with_reducible apply keeps_rungNext)
    | (with_reducible apply keeps_sleepTry)

theorem keeps_quiesceEnd (h : Keeps r s) (k : SleepKind) : Keeps r (s.quiesceEnd k) := by
  unfold State.quiesceEnd
  repeat' first
    | with_reducible assumption
    | (with_reducible apply keeps_rungNext)
    | (with_reducible apply keeps_quiesceLate)

theorem keeps_wakeRace (h : Keeps r s) : Keeps r (s.wakeRace) := by
  unfold State.wakeRace
  repeat' first
    | intro _
    | with_reducible assumption
    | (with_reducible apply keeps_each)
    | (with_reducible apply keeps_sleepRefuse)
    | (with_reducible apply keeps_rungNext)

theorem keeps_wakeFire (h : Keeps r s) (b det : Nat) : Keeps r (s.wakeFire b det) := by
  unfold State.wakeFire
  repeat' first
    | with_reducible assumption
    | (with_reducible apply keeps_wakeBegin)
    | (with_reducible apply keeps_wakeRace)
    | (with_reducible apply keeps_lastWake)
    | (with_reducible apply keeps_ite)

theorem keeps_wakeTimer (h : Keeps r s) : Keeps r (s.wakeTimer) := by
  unfold State.wakeTimer
  repeat' first
    | with_reducible assumption
    | (with_reducible apply keeps_off)
    | (with_reducible apply keeps_wakeFire)
    | (with_reducible apply keeps_ite)

theorem keeps_wakeAtHi (h : Keeps r s) (v : Nat) : Keeps r (s.wakeAtHi v) := by
  unfold State.wakeAtHi
  repeat' first
    | with_reducible assumption
    | (with_reducible apply keeps_set)
    | (with_reducible apply keeps_on)

theorem keeps_lpRise (h : Keeps r s) : Keeps r (s.lpRise) := by
  unfold State.lpRise
  repeat' first
    | intro _
    | with_reducible assumption
    | (with_reducible apply keeps_setPwr)
    | (with_reducible apply keeps_shelfAsk)
    | (with_reducible apply keeps_ite)
    | (with_reducible apply keeps_mk)
    | (with_reducible apply keeps_mk_mem)
    | (with_reducible apply keeps_mk_snd)
    | (with_reducible apply keeps_mk_drew)

theorem keeps_lpFall (h : Keeps r s) : Keeps r (s.lpFall) := by
  unfold State.lpFall
  repeat' first
    | intro _
    | with_reducible assumption
    | (with_reducible apply keeps_setPwr)
    | (with_reducible apply keeps_wakeFire)
    | (with_reducible apply keeps_sleepUndo)
    | (with_reducible apply keeps_dropSleep)
    | (with_reducible apply keeps_portsEval)
    | (with_reducible apply keeps_ite)
    | (with_reducible apply keeps_mk)
    | (with_reducible apply keeps_mk_mem)
    | (with_reducible apply keeps_mk_snd)
    | (with_reducible apply keeps_mk_drew)

theorem keeps_dozeAsk (h : Keeps r s) (us : Nat) : Keeps r (s.dozeAsk us) := by
  unfold State.dozeAsk
  repeat' first
    | intro _
    | with_reducible assumption
    | (with_reducible apply keeps_sleepTry)
    | (with_reducible apply keeps_setPwr)
    | (with_reducible apply keeps_dropSleep)
    | (with_reducible apply keeps_dozeCommit)
    | (with_reducible apply keeps_ite)
    | (with_reducible apply keeps_mk)
    | (with_reducible apply keeps_mk_mem)
    | (with_reducible apply keeps_mk_snd)
    | (with_reducible apply keeps_mk_drew)

theorem keeps_braceUndo (h : Keeps r s) (k : SleepKind) : Keeps r (s.braceUndo k) := by
  unfold State.braceUndo
  repeat' first
    | intro _
    | with_reducible assumption
    | (with_reducible apply keeps_sleepUndo)
    | (with_reducible apply keeps_setSleep)
    | (with_reducible apply keeps_ite)
    | (with_reducible apply keeps_mk)
    | (with_reducible apply keeps_mk_mem)
    | (with_reducible apply keeps_mk_snd)
    | (with_reducible apply keeps_mk_drew)

theorem keeps_braceStart (h : Keeps r s) (commit : Option SleepKind) : Keeps r (s.braceStart commit) := by
  unfold State.braceStart
  repeat' first
    | intro _
    | with_reducible assumption
    | (with_reducible apply keeps_braceUndo)
    | (with_reducible apply keeps_inc)
    | (with_reducible apply keeps_each)
    | (with_reducible apply keeps_injPass)
    | (with_reducible apply keeps_on)
    | (with_reducible apply keeps_dacCancel)
    | (with_reducible apply keeps_kiteAbort)
    | (with_reducible apply keeps_setCal)
    | (with_reducible apply keeps_ite)
    | dsimp only
    | split
    | (with_reducible apply keeps_mk)
    | (with_reducible apply keeps_mk_mem)
    | (with_reducible apply keeps_mk_snd)
    | (with_reducible apply keeps_mk_drew)

theorem keeps_braceEnd (h : Keeps r s) (us : Nat) : Keeps r (s.braceEnd us) := by
  unfold State.braceEnd
  repeat' first
    | intro _
    | with_reducible assumption
    | (with_reducible apply keeps_off)
    | (with_reducible apply keeps_logRecord)
    | (with_reducible apply keeps_each)
    | (with_reducible apply keeps_startResume)
    | (with_reducible apply keeps_setSleep)
    | (with_reducible apply keeps_quiesceAsk)
    | (with_reducible apply keeps_ite)
    | (with_reducible apply keeps_mk)
    | (with_reducible apply keeps_mk_mem)
    | (with_reducible apply keeps_mk_snd)
    | (with_reducible apply keeps_mk_drew)

theorem keeps_refusedAgain (h : Keeps r s) : Keeps r (s.refusedAgain) := by
  unfold State.refusedAgain
  repeat' first
    | intro _
    | with_reducible assumption
    | (with_reducible apply keeps_each)
    | (with_reducible apply keeps_off)
    | (with_reducible apply keeps_setEq)
    | (with_reducible apply keeps_ite)
    | (with_reducible apply keeps_mk)
    | (with_reducible apply keeps_mk_mem)
    | (with_reducible apply keeps_mk_snd)
    | (with_reducible apply keeps_mk_drew)

theorem keeps_modeRung (h : Keeps r s) (step : ShedStep) (brace : Bool) : Keeps r (s.modeRung step brace) := by
  unfold State.modeRung
  repeat' first
    | intro _
    | with_reducible assumption
    | (with_reducible apply keeps_each)
    | (with_reducible apply keeps_off)
    | (with_reducible apply keeps_setEq)
    | (with_reducible apply keeps_rungHold)
    | (with_reducible apply keeps_ite)
    | (with_reducible apply keeps_mk)
    | (with_reducible apply keeps_mk_mem)
    | (with_reducible apply keeps_mk_snd)
    | (with_reducible apply keeps_mk_drew)

theorem keeps_ballastPress (h : Keeps r s) (cause us : Nat) : Keeps r (s.ballastPress cause us) := by
  unfold State.ballastPress
  repeat' first
    | intro _
    | with_reducible assumption
    | (with_reducible apply keeps_setPwr)
    | (with_reducible apply keeps_shedFirst)
    | (with_reducible apply keeps_refusedAgain)
    | (with_reducible apply keeps_modeRung)
    | (with_reducible apply keeps_napRung)
    | (with_reducible apply keeps_ite)
    | dsimp only
    | split
    | (with_reducible apply keeps_mk)
    | (with_reducible apply keeps_mk_mem)
    | (with_reducible apply keeps_mk_snd)
    | (with_reducible apply keeps_mk_drew)

theorem keeps_modeRestore (h : Keeps r s) (step : ShedStep) : Keeps r (s.modeRestore step) := by
  unfold State.modeRestore
  repeat' first
    | intro _
    | with_reducible assumption
    | (with_reducible apply keeps_each)
    | (with_reducible apply keeps_setBit)
    | (with_reducible apply keeps_setEq)
    | (with_reducible apply keeps_mk)
    | (with_reducible apply keeps_mk_mem)
    | (with_reducible apply keeps_mk_snd)
    | (with_reducible apply keeps_mk_drew)

theorem keeps_ballastSet (h : Keeps r s) (b : Nat × List Nat) : Keeps r (s.ballastSet b) := by
  unfold State.ballastSet
  repeat' first
    | intro _
    | with_reducible assumption
    | (with_reducible apply keeps_set)
    | (with_reducible apply keeps_each)

theorem keeps_ballastLand (h : Keeps r s) : Keeps r (s.ballastLand) := by
  unfold State.ballastLand
  repeat' first
    | with_reducible assumption
    | (with_reducible apply keeps_ballastSet)
    | (with_reducible apply keeps_off)
    | (with_reducible apply keeps_ite)
    | dsimp only
    | split
    | (with_reducible apply keeps_mk)
    | (with_reducible apply keeps_mk_mem)
    | (with_reducible apply keeps_mk_snd)
    | (with_reducible apply keeps_mk_drew)

theorem keeps_ballastRestore (h : Keeps r s) : Keeps r (s.ballastRestore) := by
  unfold State.ballastRestore
  repeat' first
    | intro _
    | with_reducible assumption
    | (with_reducible apply keeps_setPwr)
    | (with_reducible apply keeps_set)
    | (with_reducible apply keeps_modeRestore)
    | (with_reducible apply keeps_ballastLand)
    | (with_reducible apply keeps_wakeAsk)
    | (with_reducible apply keeps_ite)
    | dsimp only
    | split
    | (with_reducible apply keeps_mk)
    | (with_reducible apply keeps_mk_mem)
    | (with_reducible apply keeps_mk_snd)
    | (with_reducible apply keeps_mk_drew)

theorem keeps_pwrCntClr (h : Keeps r s) : Keeps r (s.pwrCntClr) := by
  unfold State.pwrCntClr
  repeat' first
    | intro _
    | with_reducible assumption
    | (with_reducible apply keeps_off)
    | (with_reducible apply keeps_each)

theorem keeps_measure (h : Keeps r s) (type : Nat) (d : List Nat) : Keeps r (s.measure type d) := by
  unfold State.measure
  repeat' first
    | intro _
    | with_reducible assumption
    | (with_reducible apply keeps_each)
    | (with_reducible apply keeps_set)
    | (with_reducible apply keeps_inc)

theorem keeps_lcReset (h : Keeps r s) : Keeps r (s.lcReset) := by
  unfold State.lcReset
  repeat' first
    | with_reducible assumption
    | (with_reducible apply keeps_set)
    | (with_reducible apply keeps_ite)
    | (with_reducible apply keeps_mk)
    | (with_reducible apply keeps_mk_mem)
    | (with_reducible apply keeps_mk_snd)
    | (with_reducible apply keeps_mk_drew)

theorem keeps_opStart (h : Keeps r s) (op target : Nat) : Keeps r (s.opStart op target) := by
  unfold State.opStart
  repeat' first
    | with_reducible assumption
    | (with_reducible apply keeps_set)
    | (with_reducible apply keeps_on)
    | (with_reducible apply keeps_ite)
    | (with_reducible apply keeps_mk)
    | (with_reducible apply keeps_mk_mem)
    | (with_reducible apply keeps_mk_snd)
    | (with_reducible apply keeps_mk_drew)

theorem keeps_opEnd (h : Keeps r s) (code : Nat) : Keeps r (s.opEnd code) := by
  unfold State.opEnd
  repeat' first
    | with_reducible assumption
    | (with_reducible apply keeps_off)
    | (with_reducible apply keeps_set)
    | (with_reducible apply keeps_inc)
    | (with_reducible apply keeps_ite)
    | (with_reducible apply keeps_mk)
    | (with_reducible apply keeps_mk_mem)
    | (with_reducible apply keeps_mk_snd)
    | (with_reducible apply keeps_mk_drew)

theorem keeps_opRun (h : Keeps r s) (op : Nat) (sig brace otp : Bool) (f : Nat → State → State) (hf : ∀ a t, Keeps r t → Keeps r (f a t)) : Keeps r (s.opRun op sig brace otp f) := by
  unfold State.opRun
  repeat' first
    | intro _
    | with_reducible assumption
    | (with_reducible apply hf)
    | (with_reducible apply keeps_sweep)
    | (with_reducible apply keeps_opEnd)
    | (with_reducible apply keeps_ite)
    | dsimp only
    | split

theorem keeps_keyProgram (h : Keeps r s) (k : Nat) : Keeps r (s.keyProgram k) := by
  unfold State.keyProgram
  repeat' first
    | with_reducible assumption
    | (with_reducible apply keeps_set)
    | (with_reducible apply keeps_mk)
    | (with_reducible apply keeps_mk_mem)
    | (with_reducible apply keeps_mk_snd)
    | (with_reducible apply keeps_mk_drew)

theorem keeps_secCntClr (h : Keeps r s) : Keeps r (s.secCntClr) := by
  unfold State.secCntClr
  repeat' first
    | with_reducible assumption
    | (with_reducible apply keeps_off)

theorem keeps_tstCntClr (h : Keeps r s) : Keeps r (s.tstCntClr) := by
  unfold State.tstCntClr
  repeat' first
    | with_reducible assumption
    | (with_reducible apply keeps_off)

theorem keeps_resetNote (h : Keeps r s) (cause : Nat) : Keeps r (s.resetNote cause) := by
  unfold State.resetNote
  repeat' first
    | with_reducible assumption
    | (with_reducible apply keeps_set)
    | (with_reducible apply keeps_setBit)
    | (with_reducible apply keeps_stamp)
    | (with_reducible apply keeps_inc)
    | dsimp only
    | split

theorem keeps_devReset (h : Keeps r s) (cause : Nat) : Keeps r (s.devReset cause) := by
  unfold State.devReset
  repeat' first
    | intro _
    | with_reducible assumption
    | (with_reducible apply keeps_classesCleared)
    | (with_reducible apply keeps_resetNote)
    | (with_reducible apply keeps_lcReset)
    | (with_reducible apply keeps_setPwr)
    | (with_reducible apply keeps_wakeBegin)
    | (with_reducible apply keeps_ite)
    | (with_reducible apply keeps_mk)
    | (with_reducible apply keeps_mk_mem)
    | (with_reducible apply keeps_mk_snd)
    | (with_reducible apply keeps_mk_drew)

theorem keeps_powerOn (h : Keeps r s) : Keeps r (s.powerOn) := by
  unfold State.powerOn
  repeat' first
    | with_reducible assumption
    | (with_reducible apply keeps_devReset)
    | (with_reducible apply keeps_mk)
    | (with_reducible apply keeps_mk_mem)
    | (with_reducible apply keeps_mk_snd)
    | (with_reducible apply keeps_mk_drew)

theorem keeps_resetBy (h : Keeps r s) (cause : Nat) : Keeps r (s.resetBy cause) := by
  unfold State.resetBy
  repeat' first
    | with_reducible assumption
    | (with_reducible apply keeps_devReset)
    | (with_reducible apply keeps_ite)

theorem keeps_pinReset (h : Keeps r s) : Keeps r (s.pinReset) := by
  unfold State.pinReset
  repeat' first
    | intro _
    | with_reducible assumption
    | (with_reducible apply keeps_setPwr)
    | (with_reducible apply keeps_resetBy)
    | (with_reducible apply keeps_mk)
    | (with_reducible apply keeps_mk_mem)
    | (with_reducible apply keeps_mk_snd)
    | (with_reducible apply keeps_mk_drew)

theorem keeps_pinRelease (h : Keeps r s) : Keeps r (s.pinRelease) := by
  unfold State.pinRelease
  repeat' first
    | intro _
    | with_reducible assumption
    | (with_reducible apply keeps_setPwr)
    | (with_reducible apply keeps_wakeBegin)
    | (with_reducible apply keeps_ite)
    | (with_reducible apply keeps_mk)
    | (with_reducible apply keeps_mk_mem)
    | (with_reducible apply keeps_mk_snd)
    | (with_reducible apply keeps_mk_drew)

theorem keeps_swrWrite (h : Keeps r s) (v : Nat) : Keeps r (s.swrWrite v) := by
  unfold State.swrWrite
  repeat' first
    | with_reducible assumption
    | (with_reducible apply keeps_resetBy)
    | (with_reducible apply keeps_ite)

theorem keeps_wdtKick (h : Keeps r s) : Keeps r (s.wdtKick) := by
  unfold State.wdtKick
  repeat' first
    | intro _
    | with_reducible assumption
    | (with_reducible apply keeps_mk)
    | (with_reducible apply keeps_mk_mem)
    | (with_reducible apply keeps_mk_snd)
    | (with_reducible apply keeps_mk_drew)

theorem keeps_watchdog (h : Keeps r s) : Keeps r (s.watchdog) := by
  unfold State.watchdog
  repeat' first
    | intro _
    | with_reducible assumption
    | (with_reducible apply keeps_setPwr)
    | (with_reducible apply keeps_set)
    | (with_reducible apply keeps_devReset)
    | (with_reducible apply keeps_ite)
    | (with_reducible apply keeps_mk)
    | (with_reducible apply keeps_mk_mem)
    | (with_reducible apply keeps_mk_snd)
    | (with_reducible apply keeps_mk_drew)

theorem keeps_cfgCntClr (h : Keeps r s) : Keeps r (s.cfgCntClr) := by
  unfold State.cfgCntClr
  repeat' first
    | with_reducible assumption
    | (with_reducible apply keeps_off)

theorem keeps_resetDown (h : Keeps r s) (k : PortId) : Keeps r (s.resetDown k) := by
  unfold State.resetDown
  repeat' first
    | with_reducible assumption
    | (with_reducible apply keeps_napDrop)
    | (with_reducible apply keeps_portDown)
    | (with_reducible apply keeps_ite)

theorem keeps_portResetEnd (h : Keeps r s) (k : PortId) : Keeps r (s.portResetEnd k) := by
  unfold State.portResetEnd
  repeat' first
    | with_reducible assumption
    | (with_reducible apply keeps_setBit)
    | (with_reducible apply keeps_portCleared)
    | (with_reducible apply keeps_portEval)
    | (with_reducible apply keeps_ite)

theorem keeps_portReset (h : Keeps r s) (k : PortId) : Keeps r (s.portReset k) := by
  unfold State.portReset
  repeat' first
    | with_reducible assumption
    | (with_reducible apply keeps_resetDown)
    | (with_reducible apply keeps_portResetEnd)
    | (with_reducible apply keeps_ite)

theorem keeps_laneResetEnd (h : Keeps r s) (n : Lane) : Keeps r (s.laneResetEnd n) := by
  unfold State.laneResetEnd
  repeat' first
    | with_reducible assumption
    | (with_reducible apply keeps_setBit)
    | (with_reducible apply keeps_laneCleared)
    | (with_reducible apply keeps_evalLane)
    | (with_reducible apply keeps_ite)

theorem keeps_laneReset (h : Keeps r s) (n : Lane) : Keeps r (s.laneReset n) := by
  unfold State.laneReset
  repeat' first
    | with_reducible assumption
    | (with_reducible apply keeps_resetDown)
    | (with_reducible apply keeps_laneResetEnd)
    | dsimp only
    | split

theorem keeps_downOff (h : Keeps r s) (n : Lane) : Keeps r (s.downOff n) := by
  unfold State.downOff
  repeat' first
    | with_reducible assumption
    | (with_reducible apply keeps_laneDown)
    | (with_reducible apply keeps_ite)

theorem keeps_resetGo (h : Keeps r s) (n : Lane) : Keeps r (s.resetGo n) := by
  unfold State.resetGo
  repeat' first
    | with_reducible assumption
    | (with_reducible apply keeps_laneResetEnd)
    | (with_reducible apply keeps_portResetEnd)
    | (with_reducible apply keeps_ite)
    | dsimp only
    | split

theorem keeps_rampSettle (h : Keeps r s) (n : Lane) : Keeps r (s.rampSettle n) := by
  unfold State.rampSettle
  repeat' first
    | with_reducible assumption
    | (with_reducible apply keeps_rampArrive)
    | (with_reducible apply keeps_downOff)
    | (with_reducible apply keeps_resetGo)
    | (with_reducible apply keeps_evalLane)
    | (with_reducible apply keeps_ite)

theorem keeps_hostReset (h : Keeps r s) (j : Host) : Keeps r (s.hostReset j) := by
  unfold State.hostReset
  repeat' first
    | with_reducible assumption
    | (with_reducible apply keeps_resetDown)
    | (with_reducible apply keeps_hostCleared)
    | (with_reducible apply keeps_evalHost)
    | dsimp only
    | split

theorem keeps_partitionUnits (h : Keeps r s) (code : Nat) : Keeps r (s.partitionUnits code) := by
  unfold State.partitionUnits
  split
  · refine keeps_pinsShow (keeps_setPwr ?_ _)
    exact keeps_fifo h rfl rfl rfl rfl rfl (fun _ => Nat.zero_le _) rfl rfl
  · dsimp only
    exact keeps_upd (keeps_on h MEM.STATUS_SRAM_RDY) rfl rfl rfl rfl rfl rfl rfl rfl rfl
  · exact keeps_each h _ _ (fun _ _ k => keeps_setHl k _ _)
  · exact keeps_upd h rfl rfl rfl rfl rfl rfl rfl rfl rfl
  · exact keeps_ite (keeps_setLn h _ _) h

theorem keeps_partitionReset (h : Keeps r s) (code : Nat) : Keeps r (s.partitionReset code) := by
  unfold State.partitionReset
  repeat' first
    | intro _
    | with_reducible assumption
    | (with_reducible apply keeps_clearRegs)
    | (with_reducible apply keeps_partitionUnits)

theorem keeps_receive (h : Keeps r s) (n : Lane) (i : Fin 85) (skip : Nat) : Keeps r (s.receive n i skip) := by
  unfold State.receive
  repeat' first
    | intro _
    | with_reducible assumption
    | (with_reducible apply keeps_setEq)
    | (with_reducible apply keeps_frameCount)
    | (with_reducible apply keeps_setLoc)
    | (with_reducible apply keeps_codeword)
    | (with_reducible apply keeps_winTake)
    | (with_reducible apply keeps_deframe)
    | (with_reducible apply keeps_prbsFeed)
    | (with_reducible apply keeps_lmsBeat)
    | (with_reducible apply keeps_ite)
    | (with_reducible apply keeps_mk)
    | (with_reducible apply keeps_mk_mem)
    | (with_reducible apply keeps_mk_snd)
    | (with_reducible apply keeps_mk_drew)

theorem keeps_beat (h : Keeps r s) (n : Lane) (i : Fin 85) (raw : List (BitVec 8)) : Keeps r (s.beat n i raw) := by
  unfold State.beat
  repeat' first
    | with_reducible assumption
    | (with_reducible apply keeps_takeRaw)
    | (with_reducible apply keeps_receive)
    | (with_reducible apply keeps_slewBeat)
    | (with_reducible apply keeps_rampBeat)
    | (with_reducible apply keeps_correctBeat)
    | (with_reducible apply keeps_compBeat)
    | (with_reducible apply keeps_gainBeat)
    | (with_reducible apply keeps_txBeat)

theorem keeps_decWindow (h : Keeps r s) (n : Lane) : Keeps r (s.decWindow n) := by
  unfold State.decWindow
  repeat' first
    | intro _
    | with_reducible assumption
    | (with_reducible apply keeps_set)
    | (with_reducible apply keeps_incWrap)
    | (with_reducible apply keeps_setB)
    | (with_reducible apply keeps_setLoc)
    | (with_reducible apply keeps_shedFirst)
    | (with_reducible apply keeps_locPlain)
    | (with_reducible apply keeps_portWindow)
    | (with_reducible apply keeps_ite)
    | (with_reducible apply keeps_mk)
    | (with_reducible apply keeps_mk_mem)
    | (with_reducible apply keeps_mk_snd)
    | (with_reducible apply keeps_mk_drew)

theorem keeps_locHear (h : Keeps r s) (n : Lane) (type tag : Nat) (body : List Nat) : Keeps r (s.locHear n type tag body) := by
  unfold State.locHear
  repeat' first
    | with_reducible assumption
    | (with_reducible apply keeps_locMessage)
    | (with_reducible apply keeps_ite)

theorem keeps_hold2 (h : Keeps r s) (f : Nat → Field) (v : Nat) : Keeps r (s.hold2 f v) := by
  unfold State.hold2
  repeat' first
    | with_reducible assumption
    | (with_reducible apply keeps_set)

theorem keeps_snapLane (h : Keeps r s) (n : Lane) : Keeps r (s.snapLane n) := by
  unfold State.snapLane
  repeat' first
    | intro _
    | with_reducible assumption
    | (with_reducible apply keeps_hold2)
    | (with_reducible apply keeps_set)
    | (with_reducible apply keeps_frameLoss)
    | (with_reducible apply keeps_count)
    | (with_reducible apply keeps_ite)

theorem keeps_snapKp4 (h : Keeps r s) (j : Host) (d : Dir) : Keeps r (s.snapKp4 j d) := by
  unfold State.snapKp4
  repeat' first
    | intro _
    | with_reducible assumption
    | (with_reducible apply keeps_set)
    | (with_reducible apply keeps_hold2)
    | (with_reducible apply keeps_each)
    | (with_reducible apply keeps_setKp4)
    | (with_reducible apply keeps_ite)
    | (with_reducible apply keeps_mk)
    | (with_reducible apply keeps_mk_mem)
    | (with_reducible apply keeps_mk_snd)
    | (with_reducible apply keeps_mk_drew)

theorem keeps_snap (h : Keeps r s) : Keeps r (s.snap) := by
  unfold State.snap
  repeat' first
    | intro _
    | with_reducible assumption
    | (with_reducible apply keeps_each)
    | (with_reducible apply keeps_snapLane)
    | (with_reducible apply keeps_snapKp4)
    | (with_reducible apply keeps_incWrap)
    | (with_reducible apply keeps_stamp)
    | (with_reducible apply keeps_on)
    | (with_reducible apply keeps_ite)

theorem keeps_txCntClr (h : Keeps r s) (n : Lane) : Keeps r (s.txCntClr n) := by
  unfold State.txCntClr
  repeat' first
    | with_reducible assumption
    | (with_reducible apply keeps_off)

theorem keeps_trained (h : Keeps r s) (j : Host) (ctle : Nat) : Keeps r (s.trained j ctle) := by
  unfold State.trained
  repeat' first
    | with_reducible assumption
    | (with_reducible apply keeps_on)
    | (with_reducible apply keeps_inc)
    | (with_reducible apply keeps_set)
    | (with_reducible apply keeps_setIf)
    | (with_reducible apply keeps_enterData)
    | dsimp only
    | split

theorem keeps_retrain (h : Keeps r s) (j : Host) : Keeps r (s.retrain j) := by
  unfold State.retrain
  repeat' first
    | with_reducible assumption
    | (with_reducible apply keeps_trnStart)
    | (with_reducible apply keeps_ite)

theorem keeps_prbsInject (h : Keeps r s) (l : PrbsLane) : Keeps r (s.prbsInject l) := by
  unfold State.prbsInject
  repeat' first
    | intro _
    | with_reducible assumption
    | (with_reducible apply keeps_setPrbs)
    | (with_reducible apply keeps_on)
    | (with_reducible apply keeps_ite)
    | (with_reducible apply keeps_mk)
    | (with_reducible apply keeps_mk_mem)
    | (with_reducible apply keeps_mk_snd)
    | (with_reducible apply keeps_mk_drew)

theorem keeps_holdRelease (h : Keeps r s) (v : Nat) : Keeps r (s.holdRelease v) := by
  unfold State.holdRelease
  repeat' first
    | with_reducible assumption
    | (with_reducible apply keeps_off)
    | (with_reducible apply keeps_portsEval)
    | (with_reducible apply keeps_on)
    | (with_reducible apply keeps_ite)

theorem keeps_engStart (h : Keeps r s) : Keeps r (s.engStart) := by
  unfold State.engStart
  repeat' first
    | intro _
    | with_reducible assumption
    | (with_reducible apply keeps_partitionReset)
    | (with_reducible apply keeps_on)
    | (with_reducible apply keeps_ite)

theorem keeps_engDone (h : Keeps r s) : Keeps r (s.engDone) := by
  unfold State.engDone
  repeat' first
    | with_reducible assumption
    | (with_reducible apply keeps_off)
    | (with_reducible apply keeps_set)
    | (with_reducible apply keeps_ite)

theorem keeps_engWrite (h : Keeps r s) (a v : Nat) : Keeps r (s.engWrite a v) := by
  unfold State.engWrite
  repeat' first
    | with_reducible assumption
    | (with_reducible apply keeps_setIf)
    | (with_reducible apply keeps_engStart)
    | (with_reducible apply keeps_set)
    | (with_reducible apply keeps_ite)

theorem keeps_setTth (h : Keeps r s) (f : TthSt → TthSt) : Keeps r (s.setTth f) := by
  unfold State.setTth
  repeat' first
    | with_reducible assumption
    | (with_reducible apply keeps_mk)
    | (with_reducible apply keeps_mk_mem)
    | (with_reducible apply keeps_mk_snd)
    | (with_reducible apply keeps_mk_drew)

theorem keeps_setTp (h : Keeps r s) (p : TthId) (f : TthPort → TthPort) : Keeps r (s.setTp p f) := by
  unfold State.setTp
  repeat' first
    | intro _
    | with_reducible assumption
    | (with_reducible apply keeps_setTth)
    | (with_reducible apply keeps_ite)
    | (with_reducible apply keeps_mk)
    | (with_reducible apply keeps_mk_mem)
    | (with_reducible apply keeps_mk_snd)
    | (with_reducible apply keeps_mk_drew)

theorem keeps_send (h : Keeps r s) (p : TthId) (type : Nat) (body : List Nat) : Keeps r (s.send p type body) := by
  unfold State.send
  repeat' first
    | intro _
    | with_reducible assumption
    | (with_reducible apply keeps_setTth)
    | (with_reducible apply keeps_ite)
    | (with_reducible apply keeps_mk)
    | (with_reducible apply keeps_mk_mem)
    | (with_reducible apply keeps_mk_snd)
    | (with_reducible apply keeps_mk_drew)

theorem keeps_sendNone (h : Keeps r s) : Keeps r (s.sendNone) := by
  unfold State.sendNone
  repeat' first
    | intro _
    | with_reducible assumption
    | (with_reducible apply keeps_setTth)
    | (with_reducible apply keeps_mk)
    | (with_reducible apply keeps_mk_mem)
    | (with_reducible apply keeps_mk_snd)
    | (with_reducible apply keeps_mk_drew)

theorem keeps_linkSend (h : Keeps r s) (p : TthId) : Keeps r (s.linkSend p) := by
  unfold State.linkSend
  repeat' first
    | intro _
    | with_reducible assumption
    | (with_reducible apply keeps_setTth)
    | (with_reducible apply keeps_ite)
    | (with_reducible apply keeps_mk)
    | (with_reducible apply keeps_mk_mem)
    | (with_reducible apply keeps_mk_snd)
    | (with_reducible apply keeps_mk_drew)

theorem keeps_reachShow (h : Keeps r s) : Keeps r (s.reachShow) := by
  unfold State.reachShow
  repeat' first
    | intro _
    | with_reducible assumption
    | (with_reducible apply keeps_set)
    | (with_reducible apply keeps_setTth)
    | (with_reducible apply keeps_anchorLost)
    | (with_reducible apply keeps_ite)
    | (with_reducible apply keeps_mk)
    | (with_reducible apply keeps_mk_mem)
    | (with_reducible apply keeps_mk_snd)
    | (with_reducible apply keeps_mk_drew)

theorem keeps_linkDown (h : Keeps r s) (p : TthId) : Keeps r (s.linkDown p) := by
  unfold State.linkDown
  repeat' first
    | intro _
    | with_reducible assumption
    | (with_reducible apply keeps_setTp)
    | (with_reducible apply keeps_off)
    | (with_reducible apply keeps_on)
    | (with_reducible apply keeps_reachShow)
    | (with_reducible apply keeps_alarm)
    | (with_reducible apply keeps_linkSend)
    | (with_reducible apply keeps_ite)
    | (with_reducible apply keeps_mk)
    | (with_reducible apply keeps_mk_mem)
    | (with_reducible apply keeps_mk_snd)
    | (with_reducible apply keeps_mk_drew)

theorem keeps_syncErrs (h : Keeps r s) (p : TthId) (n : Nat) : Keeps r (s.syncErrs p n) := by
  unfold State.syncErrs
  repeat' first
    | with_reducible assumption
    | (with_reducible apply keeps_incBy)
    | (with_reducible apply keeps_ite)

theorem keeps_blockLock (h : Keeps r s) (p : TthId) (hs : List (BitVec 2)) : Keeps r (s.blockLock p hs) := by
  unfold State.blockLock
  repeat' first
    | intro _
    | with_reducible assumption
    | (with_reducible apply keeps_syncErrs)
    | (with_reducible apply keeps_setTp)
    | (with_reducible apply keeps_linkSend)
    | (with_reducible apply keeps_ite)
    | (with_reducible apply keeps_mk)
    | (with_reducible apply keeps_mk_mem)
    | (with_reducible apply keeps_mk_snd)
    | (with_reducible apply keeps_mk_drew)

theorem keeps_blockLoss (h : Keeps r s) (p : TthId) (hs : List (BitVec 2)) (dropped : Nat) : Keeps r (s.blockLoss p hs dropped) := by
  unfold State.blockLoss
  repeat' first
    | intro _
    | with_reducible assumption
    | (with_reducible apply keeps_syncErrs)
    | (with_reducible apply keeps_linkDown)
    | (with_reducible apply keeps_ite)

theorem keeps_tthRetry (h : Keeps r s) (p : TthId) (us : Nat) : Keeps r (s.tthRetry p us) := by
  unfold State.tthRetry
  repeat' first
    | intro _
    | with_reducible assumption
    | (with_reducible apply keeps_inc)
    | (with_reducible apply keeps_setTp)
    | (with_reducible apply keeps_ite)
    | (with_reducible apply keeps_mk)
    | (with_reducible apply keeps_mk_mem)
    | (with_reducible apply keeps_mk_snd)
    | (with_reducible apply keeps_mk_drew)

theorem keeps_timeOut (h : Keeps r s) : Keeps r (s.timeOut) := by
  unfold State.timeOut
  repeat' first
    | with_reducible assumption
    | (with_reducible apply keeps_send)
    | (with_reducible apply keeps_ite)

theorem keeps_linkIn (h : Keeps r s) (p : TthId) (id beyond : Nat) : Keeps r (s.linkIn p id beyond) := by
  unfold State.linkIn
  repeat' first
    | intro _
    | with_reducible assumption
    | (with_reducible apply keeps_linkDown)
    | (with_reducible apply keeps_on)
    | (with_reducible apply keeps_setTp)
    | (with_reducible apply keeps_reachShow)
    | (with_reducible apply keeps_alarmEnd)
    | (with_reducible apply keeps_linkSend)
    | (with_reducible apply keeps_timeOut)
    | (with_reducible apply keeps_ite)
    | (with_reducible apply keeps_mk)
    | (with_reducible apply keeps_mk_mem)
    | (with_reducible apply keeps_mk_snd)
    | (with_reducible apply keeps_mk_drew)

theorem keeps_almTake (h : Keeps r s) (m : AlmMsg) : Keeps r (s.almTake m) := by
  unfold State.almTake
  repeat' first
    | with_reducible assumption
    | (with_reducible apply keeps_count)
    | (with_reducible apply keeps_alarmFrom)
    | (with_reducible apply keeps_setIf)
    | (with_reducible apply keeps_alarmEndFrom)
    | (with_reducible apply keeps_ite)

theorem keeps_almIn (h : Keeps r s) (m : AlmMsg) : Keeps r (s.almIn m) := by
  unfold State.almIn
  repeat' first
    | with_reducible assumption
    | (with_reducible apply keeps_almTake)
    | (with_reducible apply keeps_almForward)
    | (with_reducible apply keeps_ite)

theorem keeps_almOut (h : Keeps r s) : Keeps r (s.almOut) := by
  unfold State.almOut
  repeat' first
    | intro _
    | with_reducible assumption
    | (with_reducible apply keeps_send)
    | (with_reducible apply keeps_setTth)
    | (with_reducible apply keeps_ite)
    | dsimp only
    | split
    | (with_reducible apply keeps_mk)
    | (with_reducible apply keeps_mk_mem)
    | (with_reducible apply keeps_mk_snd)
    | (with_reducible apply keeps_mk_drew)

theorem keeps_tthWake (h : Keeps r s) (p : TthId) : Keeps r (s.tthWake p) := by
  unfold State.tthWake
  repeat' first
    | with_reducible assumption
    | (with_reducible apply keeps_send)
    | (with_reducible apply keeps_ite)

theorem keeps_timeIn (h : Keeps r s) (v : Nat) : Keeps r (s.timeIn v) := by
  unfold State.timeIn
  split
  · exact h
  · dsimp only
    refine keeps_send ?_ _ _ _
    split
    · refine keeps_setTth ?_ _
      exact keeps_now (keeps_seti h TTH.TIME_ADJ_ADJ _) rfl rfl (Nat.mod_lt _ (by decide)) rfl rfl rfl rfl rfl
    · exact keeps_setTth (keeps_seti h _ _) _

theorem keeps_intIn (h : Keeps r s) (d : Nat) (b : Bool) : Keeps r (s.intIn d b) := by
  unfold State.intIn
  repeat' first
    | intro _
    | with_reducible assumption
    | (with_reducible apply keeps_setTth)
    | (with_reducible apply keeps_send)
    | (with_reducible apply keeps_ite)
    | (with_reducible apply keeps_mk)
    | (with_reducible apply keeps_mk_mem)
    | (with_reducible apply keeps_mk_snd)
    | (with_reducible apply keeps_mk_drew)

theorem keeps_remoteTry (h : Keeps r s) (pair : Nat) : Keeps r (s.remoteTry pair) := by
  unfold State.remoteTry
  repeat' first
    | intro _
    | with_reducible assumption
    | (with_reducible apply keeps_setTth)
    | (with_reducible apply keeps_send)
    | (with_reducible apply keeps_ite)
    | dsimp only
    | split
    | (with_reducible apply keeps_mk)
    | (with_reducible apply keeps_mk_mem)
    | (with_reducible apply keeps_mk_snd)
    | (with_reducible apply keeps_mk_drew)

theorem keeps_tokenTell (h : Keeps r s) (k : PortId) (kind : Nat) : Keeps r (s.tokenTell k kind) := by
  unfold State.tokenTell
  repeat' first
    | with_reducible assumption
    | (with_reducible apply keeps_remoteTry)
    | (with_reducible apply keeps_send)
    | (with_reducible apply keeps_ite)

theorem keeps_tokenUnused (h : Keeps r s) (k : PortId) : Keeps r (s.tokenUnused k) := by
  unfold State.tokenUnused
  repeat' first
    | with_reducible assumption
    | (with_reducible apply keeps_tokenTell)
    | (with_reducible apply keeps_ite)

theorem keeps_tokenIn (h : Keeps r s) (p : TthId) (kind : TokKind) (member pair : Nat) : Keeps r (s.tokenIn p kind member pair) := by
  unfold State.tokenIn
  repeat' first
    | intro _
    | with_reducible assumption
    | (with_reducible apply keeps_send)
    | (with_reducible apply keeps_remoteTry)
    | (with_reducible apply keeps_setTth)
    | (with_reducible apply keeps_tokenGive)
    | (with_reducible apply keeps_tokenUnused)
    | (with_reducible apply keeps_ite)
    | dsimp only
    | split
    | (with_reducible apply keeps_mk)
    | (with_reducible apply keeps_mk_mem)
    | (with_reducible apply keeps_mk_snd)
    | (with_reducible apply keeps_mk_drew)

theorem keeps_remoteExpire (h : Keeps r s) (pair : Nat) : Keeps r (s.remoteExpire pair) := by
  unfold State.remoteExpire
  repeat' first
    | intro _
    | with_reducible assumption
    | (with_reducible apply keeps_setTth)
    | (with_reducible apply keeps_inc)
    | (with_reducible apply keeps_remoteTry)
    | (with_reducible apply keeps_ite)
    | (with_reducible apply keeps_mk)
    | (with_reducible apply keeps_mk_mem)
    | (with_reducible apply keeps_mk_snd)
    | (with_reducible apply keeps_mk_drew)

theorem keeps_tthEnables (h : Keeps r s) : Keeps r (s.tthEnables) := by
  unfold State.tthEnables
  repeat' first
    | intro _
    | with_reducible assumption
    | (with_reducible apply keeps_each)
    | (with_reducible apply keeps_linkDown)
    | (with_reducible apply keeps_ite)

theorem keeps_tthCntClr (h : Keeps r s) : Keeps r (s.tthCntClr) := by
  unfold State.tthCntClr
  repeat' first
    | with_reducible assumption
    | (with_reducible apply keeps_off)

theorem keeps_pciCntClr (h : Keeps r s) : Keeps r (s.pciCntClr) := by
  unfold State.pciCntClr
  repeat' first
    | with_reducible assumption
    | (with_reducible apply keeps_off)

theorem keeps_setSpr (h : Keeps r s) (f : SprSt → SprSt) : Keeps r (s.setSpr f) := by
  unfold State.setSpr
  repeat' first
    | with_reducible assumption
    | (with_reducible apply keeps_mk)
    | (with_reducible apply keeps_mk_mem)
    | (with_reducible apply keeps_mk_snd)
    | (with_reducible apply keeps_mk_drew)

theorem keeps_sprRecord (h : Keeps r s) (code : Nat) : Keeps r (s.sprRecord code) := by
  unfold State.sprRecord
  repeat' first
    | with_reducible assumption
    | (with_reducible apply keeps_set)
    | (with_reducible apply keeps_setB)
    | (with_reducible apply keeps_on)
    | (with_reducible apply keeps_inc)

theorem keeps_sprFault (h : Keeps r s) (code : Nat) : Keeps r (s.sprFault code) := by
  unfold State.sprFault
  repeat' first
    | intro _
    | with_reducible assumption
    | (with_reducible apply keeps_sprRecord)
    | (with_reducible apply keeps_setSpr)
    | (with_reducible apply keeps_alarm)
    | (with_reducible apply keeps_alarmFrom)
    | (with_reducible apply keeps_ite)
    | dsimp only
    | split
    | (with_reducible apply keeps_mk)
    | (with_reducible apply keeps_mk_mem)
    | (with_reducible apply keeps_mk_snd)
    | (with_reducible apply keeps_mk_drew)

theorem keeps_sprGo (h : Keeps r s) (p : Nat) : Keeps r (s.sprGo p) := by
  unfold State.sprGo
  repeat' first
    | intro _
    | with_reducible assumption
    | (with_reducible apply keeps_setSpr)
    | (with_reducible apply keeps_sprFault)
    | (with_reducible apply keeps_ite)
    | (with_reducible apply keeps_mk)
    | (with_reducible apply keeps_mk_mem)
    | (with_reducible apply keeps_mk_snd)
    | (with_reducible apply keeps_mk_drew)

theorem keeps_sprNext (h : Keeps r s) : Keeps r (s.sprNext) := by
  unfold State.sprNext
  repeat' first
    | intro _
    | with_reducible assumption
    | (with_reducible apply keeps_setSpr)
    | (with_reducible apply keeps_sprGo)

theorem keeps_sprBranch (h : Keeps r s) (p : Nat) : Keeps r (s.sprBranch p) := by
  unfold State.sprBranch
  repeat' first
    | intro _
    | with_reducible assumption
    | (with_reducible apply keeps_setSpr)
    | (with_reducible apply keeps_sprGo)
    | (with_reducible apply keeps_ite)
    | dsimp only
    | split

theorem keeps_countSome (h : Keeps r s) (ev k : Nat) (smp : Option SprSample) : Keeps r (s.countSome ev k smp) := by
  unfold State.countSome
  repeat' first
    | with_reducible assumption
    | (with_reducible apply keeps_countEvent)
    | (with_reducible apply keeps_ite)

theorem keeps_sprCount (h : Keeps r s) (w : Nat) (x : SprInfo) : Keeps r (s.sprCount w x) := by
  unfold State.sprCount
  repeat' first
    | intro _
    | with_reducible assumption
    | (with_reducible apply keeps_countSome)
    | (with_reducible apply keeps_setSpr)
    | (with_reducible apply keeps_ite)

theorem keeps_sprWaited (h : Keeps r s) (k : Nat) : Keeps r (s.sprWaited k) := by
  unfold State.sprWaited
  repeat' first
    | intro _
    | with_reducible assumption
    | (with_reducible apply keeps_setSpr)
    | (with_reducible apply keeps_mk)
    | (with_reducible apply keeps_mk_mem)
    | (with_reducible apply keeps_mk_snd)
    | (with_reducible apply keeps_mk_drew)

theorem keeps_sprCorrect (h : Keeps r s) (e : SprEcc) : Keeps r (s.sprCorrect e) := by
  unfold State.sprCorrect
  repeat' first
    | with_reducible assumption
    | (with_reducible apply keeps_inc)
    | (with_reducible apply keeps_ite)

theorem keeps_sprIssue (h : Keeps r s) (w : Nat) (e : SprEcc) (priv : Bool) (chk : SprSt → Option Nat) (x : SprInfo) (f : State → State) (ds : List SprEcc) (hf : ∀ t, Keeps r t → Keeps r (f t)) : Keeps r (s.sprIssue w e priv chk x f ds) := by
  unfold State.sprIssue
  repeat' first
    | intro _
    | with_reducible assumption
    | (with_reducible apply hf)
    | (with_reducible apply keeps_sprCorrect)
    | (with_reducible apply keeps_sprFault)
    | (with_reducible apply keeps_each)
    | (with_reducible apply keeps_sprCount)
    | (with_reducible apply keeps_ite)
    | dsimp only
    | split

theorem keeps_sprAlu (h : Keeps r s) (w : Nat) (e : SprEcc) (srcs : List (Fin 16)) (g : Fin 16) (res : SprSt → Word) (v : SprSt → Bool) : Keeps r (s.sprAlu w e srcs g res v) := by
  unfold State.sprAlu
  repeat' first
    | intro _
    | with_reducible assumption
    | (with_reducible apply keeps_sprIssue)
    | (with_reducible apply keeps_setSpr)
    | (with_reducible apply keeps_sprNext)
    | (with_reducible apply keeps_mk)
    | (with_reducible apply keeps_mk_mem)
    | (with_reducible apply keeps_mk_snd)
    | (with_reducible apply keeps_mk_drew)

theorem keeps_macAcc (h : Keeps r s) (clr neg : Bool) (k : Fin 4) (p : Int) : Keeps r (s.macAcc clr neg k p) := by
  unfold State.macAcc
  repeat' first
    | intro _
    | with_reducible assumption
    | (with_reducible apply keeps_setSpr)
    | (with_reducible apply keeps_setBit)
    | (with_reducible apply keeps_ite)
    | (with_reducible apply keeps_mk)
    | (with_reducible apply keeps_mk_mem)
    | (with_reducible apply keeps_mk_snd)
    | (with_reducible apply keeps_mk_drew)

theorem keeps_mova (h : Keeps r s) (gd : Fin 16) (k : Fin 4) (clr : Bool) : Keeps r (s.mova gd k clr) := by
  unfold State.mova
  repeat' first
    | intro _
    | with_reducible assumption
    | (with_reducible apply keeps_setSpr)
    | (with_reducible apply keeps_setBit)
    | (with_reducible apply keeps_ite)
    | (with_reducible apply keeps_mk)
    | (with_reducible apply keeps_mk_mem)
    | (with_reducible apply keeps_mk_snd)
    | (with_reducible apply keeps_mk_drew)

theorem keeps_lda (h : Keeps r s) (g : Fin 16) (k : Fin 4) : Keeps r (s.lda g k) := by
  unfold State.lda
  repeat' first
    | intro _
    | with_reducible assumption
    | (with_reducible apply keeps_setSpr)
    | (with_reducible apply keeps_setBit)
    | (with_reducible apply keeps_ite)
    | (with_reducible apply keeps_mk)
    | (with_reducible apply keeps_mk_mem)
    | (with_reducible apply keeps_mk_snd)
    | (with_reducible apply keeps_mk_drew)

theorem keeps_takeOver (h : Keeps r s) : Keeps r (s.takeOver) := by
  unfold State.takeOver
  repeat' first
    | intro _
    | with_reducible assumption
    | (with_reducible apply keeps_setSpr)
    | dsimp only
    | split
    | (with_reducible apply keeps_mk)
    | (with_reducible apply keeps_mk_mem)
    | (with_reducible apply keeps_mk_snd)
    | (with_reducible apply keeps_mk_drew)

theorem keeps_ioAfter (h : Keeps r s) : Keeps r (s.ioAfter) := by
  unfold State.ioAfter
  repeat' first
    | intro _
    | with_reducible assumption
    | (with_reducible apply keeps_setSpr)
    | (with_reducible apply keeps_takeOver)
    | (with_reducible apply keeps_ite)
    | (with_reducible apply keeps_mk)
    | (with_reducible apply keeps_mk_mem)
    | (with_reducible apply keeps_mk_snd)
    | (with_reducible apply keeps_mk_drew)

theorem keeps_waitDone (h : Keeps r s) (mask : Nat) : Keeps r (s.waitDone mask) := by
  unfold State.waitDone
  repeat' first
    | intro _
    | with_reducible assumption
    | (with_reducible apply keeps_set)
    | (with_reducible apply keeps_setSpr)
    | (with_reducible apply keeps_sprNext)
    | (with_reducible apply keeps_ioAfter)
    | (with_reducible apply keeps_mk)
    | (with_reducible apply keeps_mk_mem)
    | (with_reducible apply keeps_mk_snd)
    | (with_reducible apply keeps_mk_drew)

theorem keeps_ioStalled (h : Keeps r s) (write : Bool) (cycles : Nat) : Keeps r (s.ioStalled write cycles) := by
  unfold State.ioStalled
  repeat' first
    | with_reducible assumption
    | (with_reducible apply keeps_countSome)
    | (with_reducible apply keeps_sprCount)
    | (with_reducible apply keeps_ite)
    | (with_reducible apply keeps_mk)
    | (with_reducible apply keeps_mk_mem)
    | (with_reducible apply keeps_mk_snd)
    | (with_reducible apply keeps_mk_drew)

theorem keeps_preempt (h : Keeps r s) : Keeps r (s.preempt) := by
  unfold State.preempt
  repeat' first
    | intro _
    | with_reducible assumption
    | (with_reducible apply keeps_setSpr)
    | (with_reducible apply keeps_ite)
    | dsimp only
    | split

theorem keeps_serviceDone (h : Keeps r s) : Keeps r (s.serviceDone) := by
  unfold State.serviceDone
  repeat' first
    | intro _
    | with_reducible assumption
    | (with_reducible apply keeps_setSpr)
    | (with_reducible apply keeps_drew)
    | (with_reducible apply keeps_mk)
    | (with_reducible apply keeps_mk_mem)
    | (with_reducible apply keeps_mk_snd)
    | (with_reducible apply keeps_mk_drew)

theorem keeps_sprRunWrite (h : Keeps r s) (v : Bool) (issue : Bool) : Keeps r (s.sprRunWrite v issue) := by
  unfold State.sprRunWrite
  repeat' first
    | intro _
    | with_reducible assumption
    | (with_reducible apply keeps_setB)
    | (with_reducible apply keeps_setSpr)
    | (with_reducible apply keeps_ite)
    | dsimp only
    | split
    | (with_reducible apply keeps_mk)
    | (with_reducible apply keeps_mk_mem)
    | (with_reducible apply keeps_mk_snd)
    | (with_reducible apply keeps_mk_drew)

theorem keeps_sparBoot (h : Keeps r s) : Keeps r (s.sparBoot) := by
  unfold State.sparBoot
  repeat' first
    | intro _
    | with_reducible assumption
    | (with_reducible apply keeps_setSpr)
    | (with_reducible apply keeps_sprRunWrite)

theorem keeps_userRestart (h : Keeps r s) : Keeps r (s.userRestart) := by
  unfold State.userRestart
  repeat' first
    | intro _
    | with_reducible assumption
    | (with_reducible apply keeps_on)
    | (with_reducible apply keeps_setSpr)
    | (with_reducible apply keeps_ite)
    | (with_reducible apply keeps_mk)
    | (with_reducible apply keeps_mk_mem)
    | (with_reducible apply keeps_mk_snd)
    | (with_reducible apply keeps_mk_drew)

theorem keeps_sprCntClr (h : Keeps r s) : Keeps r (s.sprCntClr) := by
  unfold State.sprCntClr
  repeat' first
    | with_reducible assumption
    | (with_reducible apply keeps_off)

theorem keeps_memMeet (h : Keeps r s) (e : SprEcc) (v : Nat) : Keeps r (s.memMeet e v) := by
  unfold State.memMeet
  repeat' first
    | with_reducible assumption
    | (with_reducible apply keeps_respond)
    | (with_reducible apply keeps_sprCorrect)
    | (with_reducible apply keeps_sprRecord)
    | (with_reducible apply keeps_drew)
    | dsimp only
    | split

theorem keeps_sprMemAccess (h : Keeps r s) (i : Initiator) (acc : DataAcc) : Keeps r (s.sprMemAccess i acc) := by
  unfold State.sprMemAccess
  repeat' first
    | intro _
    | with_reducible assumption
    | (with_reducible apply keeps_accessError)
    | (with_reducible apply keeps_setSpr)
    | (with_reducible apply keeps_parityRight)
    | (with_reducible apply keeps_advance)
    | (with_reducible apply keeps_respond)
    | (with_reducible apply keeps_pairParity)
    | (with_reducible apply keeps_memMeet)
    | (with_reducible apply keeps_ite)
    | dsimp only
    | split

theorem keeps_sprOff (h : Keeps r s) : Keeps r (s.sprOff) := by
  unfold State.sprOff
  repeat' first
    | with_reducible assumption
    | (with_reducible apply keeps_mk)
    | (with_reducible apply keeps_mk_mem)
    | (with_reducible apply keeps_mk_snd)
    | (with_reducible apply keeps_mk_drew)

theorem keeps_ringPop (h : Keeps r s) (i g : Nat) (e : SprEcc) : Keeps r (s.ringPop i g e) := by
  unfold State.ringPop
  repeat' first
    | with_reducible assumption
    | (with_reducible apply keeps_respond)
    | (with_reducible apply keeps_readHit)
    | (with_reducible apply keeps_memTouch)
    | (with_reducible apply keeps_set)
    | (with_reducible apply keeps_ite)

theorem keeps_almRead (h : Keeps r s) (i e w : Nat) : Keeps r (s.almRead i e w) := by
  unfold State.almRead
  repeat' first
    | intro _
    | with_reducible assumption
    | (with_reducible apply keeps_respond)
    | (with_reducible apply keeps_ite)
    | dsimp only
    | split
    | (with_reducible apply keeps_mk)
    | (with_reducible apply keeps_mk_mem)
    | (with_reducible apply keeps_mk_snd)
    | (with_reducible apply keeps_mk_drew)

theorem keeps_capPop (h : Keeps r s) (n : Lane) : Keeps r (s.capPop n) := by
  unfold State.capPop
  repeat' first
    | with_reducible assumption
    | (with_reducible apply keeps_respond)
    | (with_reducible apply keeps_mk)
    | (with_reducible apply keeps_mk_mem)
    | (with_reducible apply keeps_mk_snd)
    | (with_reducible apply keeps_mk_drew)

theorem keeps_fieldWrite (h : Keeps r s) (i v : Nat) (f : Field) : Keeps r (s.fieldWrite i v f) := by
  unfold State.fieldWrite
  repeat' first
    | with_reducible assumption
    | (with_reducible apply keeps_setIf)
    | (with_reducible apply keeps_set)
    | dsimp only
    | split

theorem keeps_wordWrite (h : Keeps r s) (i a v : Nat) (skip : Field → Bool) : Keeps r (s.wordWrite i a v skip) := by
  unfold State.wordWrite
  repeat' first
    | intro _
    | with_reducible assumption
    | (with_reducible apply keeps_each)
    | (with_reducible apply keeps_fieldWrite)

theorem keeps_prbsWrite (h : Keeps r s) (i : Nat) (l : PrbsLane) (a v : Nat) : Keeps r (s.prbsWrite i l a v) := by
  unfold State.prbsWrite
  repeat' first
    | intro _
    | with_reducible assumption
    | (with_reducible apply keeps_wordWrite)
    | (with_reducible apply keeps_genEnable)
    | (with_reducible apply keeps_off)
    | (with_reducible apply keeps_sourceNow)
    | (with_reducible apply keeps_setPrbs)
    | (with_reducible apply keeps_when)
    | (with_reducible apply keeps_prbsLatch)
    | (with_reducible apply keeps_prbsClear)
    | (with_reducible apply keeps_prbsInject)
    | (with_reducible apply keeps_ite)
    | dsimp only
    | split
    | (with_reducible apply keeps_mk)
    | (with_reducible apply keeps_mk_mem)
    | (with_reducible apply keeps_mk_snd)
    | (with_reducible apply keeps_mk_drew)

theorem keeps_frmHeldNow (h : Keeps r s) (n : Lane) (v : Nat) : Keeps r (s.frmHeldNow n v) := by
  unfold State.frmHeldNow
  repeat' first
    | intro _
    | with_reducible assumption
    | (with_reducible apply keeps_setLoc)
    | (with_reducible apply keeps_ite)
    | (with_reducible apply keeps_mk)
    | (with_reducible apply keeps_mk_mem)
    | (with_reducible apply keeps_mk_snd)
    | (with_reducible apply keeps_mk_drew)

theorem keeps_pdHeldNow (h : Keeps r s) (n : Lane) (v : Nat) : Keeps r (s.pdHeldNow n v) := by
  unfold State.pdHeldNow
  repeat' first
    | intro _
    | with_reducible assumption
    | (with_reducible apply keeps_setTx)
    | (with_reducible apply keeps_ite)
    | (with_reducible apply keeps_mk)
    | (with_reducible apply keeps_mk_mem)
    | (with_reducible apply keeps_mk_snd)
    | (with_reducible apply keeps_mk_drew)

theorem keeps_rxHeldNow (h : Keeps r s) (j : Host) (v : Nat) : Keeps r (s.rxHeldNow j v) := by
  unfold State.rxHeldNow
  repeat' first
    | intro _
    | with_reducible assumption
    | (with_reducible apply keeps_setHl)
    | (with_reducible apply keeps_ite)
    | (with_reducible apply keeps_mk)
    | (with_reducible apply keeps_mk_mem)
    | (with_reducible apply keeps_mk_snd)
    | (with_reducible apply keeps_mk_drew)

theorem keeps_txHeldNow (h : Keeps r s) (j : Host) (v : Nat) : Keeps r (s.txHeldNow j v) := by
  unfold State.txHeldNow
  repeat' first
    | intro _
    | with_reducible assumption
    | (with_reducible apply keeps_setHl)
    | (with_reducible apply keeps_ite)
    | (with_reducible apply keeps_mk)
    | (with_reducible apply keeps_mk_mem)
    | (with_reducible apply keeps_mk_snd)
    | (with_reducible apply keeps_mk_drew)

theorem keeps_laneWrite (h : Keeps r s) (i : Initiator) (n : Lane) (a v : Nat) : Keeps r (s.laneWrite i n a v) := by
  unfold State.laneWrite
  repeat' first
    | intro _
    | with_reducible assumption
    | (with_reducible apply keeps_off)
    | (with_reducible apply keeps_pairAccess)
    | (with_reducible apply keeps_wordWrite)
    | (with_reducible apply keeps_when)
    | (with_reducible apply keeps_tapStop)
    | (with_reducible apply keeps_kiteRxOff)
    | (with_reducible apply keeps_backoffDrop)
    | (with_reducible apply keeps_rxCntClr)
    | (with_reducible apply keeps_agcRestart)
    | (with_reducible apply keeps_userSend)
    | (with_reducible apply keeps_frmHeldNow)
    | (with_reducible apply keeps_pdHeldNow)
    | (with_reducible apply keeps_demandEval)
    | (with_reducible apply keeps_swap)
    | (with_reducible apply keeps_shadowLoad)
    | (with_reducible apply keeps_txCntClr)
    | (with_reducible apply keeps_prbsWrite)
    | (with_reducible apply keeps_ite)

theorem keeps_hostWrite (h : Keeps r s) (i : Initiator) (j : Host) (a v : Nat) : Keeps r (s.hostWrite i j a v) := by
  unfold State.hostWrite
  repeat' first
    | intro _
    | with_reducible assumption
    | (with_reducible apply keeps_off)
    | (with_reducible apply keeps_pairAccess)
    | (with_reducible apply keeps_wordWrite)
    | (with_reducible apply keeps_rxHeldNow)
    | (with_reducible apply keeps_ctleWritten)
    | (with_reducible apply keeps_when)
    | (with_reducible apply keeps_hostCntClr)
    | (with_reducible apply keeps_retrain)
    | (with_reducible apply keeps_txHeldNow)
    | (with_reducible apply keeps_ampWritten)
    | (with_reducible apply keeps_offerCut)
    | (with_reducible apply keeps_setFirst)
    | (with_reducible apply keeps_setSecond)
    | (with_reducible apply keeps_prbsWrite)
    | (with_reducible apply keeps_ite)

theorem keeps_kiteWrite (h : Keeps r s) (i : Nat) (n : Lane) (a v : Nat) : Keeps r (s.kiteWrite i n a v) := by
  unfold State.kiteWrite
  repeat' first
    | intro _
    | with_reducible assumption
    | (with_reducible apply keeps_off)
    | (with_reducible apply keeps_wordWrite)
    | (with_reducible apply keeps_when)
    | (with_reducible apply keeps_kiteRxOff)
    | (with_reducible apply keeps_userSendAsk)
    | (with_reducible apply keeps_wakeSendAsk)
    | (with_reducible apply keeps_kiteCntClr)
    | (with_reducible apply keeps_ite)

theorem keeps_portWrite (h : Keeps r s) (i : Nat) (k : PortId) (a v : Nat) : Keeps r (s.portWrite i k a v) := by
  unfold State.portWrite
  repeat' first
    | intro _
    | with_reducible assumption
    | (with_reducible apply keeps_off)
    | (with_reducible apply keeps_upSet)
    | (with_reducible apply keeps_portStop)
    | (with_reducible apply keeps_on)
    | (with_reducible apply keeps_napAsk)
    | (with_reducible apply keeps_wakeAsk)
    | (with_reducible apply keeps_when)
    | (with_reducible apply keeps_portCntClr)
    | (with_reducible apply keeps_wordWrite)
    | (with_reducible apply keeps_ite)

theorem keeps_lstWrite (h : Keeps r s) (i a v : Nat) : Keeps r (s.lstWrite i a v) := by
  unfold State.lstWrite
  repeat' first
    | intro _
    | with_reducible assumption
    | (with_reducible apply keeps_wordWrite)
    | (with_reducible apply keeps_when)
    | (with_reducible apply keeps_snap)
    | (with_reducible apply keeps_each)
    | (with_reducible apply keeps_amDrop)
    | (with_reducible apply keeps_ite)

theorem keeps_calWrite (h : Keeps r s) (i a v : Nat) : Keeps r (s.calWrite i a v) := by
  unfold State.calWrite
  repeat' first
    | intro _
    | with_reducible assumption
    | (with_reducible apply keeps_wordWrite)
    | (with_reducible apply keeps_setIf)
    | (with_reducible apply keeps_when)
    | (with_reducible apply keeps_refreshAsk)
    | (with_reducible apply keeps_calCntClr)
    | (with_reducible apply keeps_ite)

theorem keeps_bdaWrite (h : Keeps r s) (i a v : Nat) : Keeps r (s.bdaWrite i a v) := by
  unfold State.bdaWrite
  repeat' first
    | intro _
    | with_reducible assumption
    | (with_reducible apply keeps_wordWrite)
    | (with_reducible apply keeps_off)
    | (with_reducible apply keeps_forcing)
    | (with_reducible apply keeps_when)
    | (with_reducible apply keeps_rangeWrite)
    | (with_reducible apply keeps_qdata)
    | (with_reducible apply keeps_bdaFlush)
    | (with_reducible apply keeps_bdaCntClr)
    | (with_reducible apply keeps_ite)
    | (with_reducible apply keeps_dite)

theorem keeps_sndWrite (h : Keeps r s) (i a v : Nat) : Keeps r (s.sndWrite i a v) := by
  unfold State.sndWrite
  repeat' first
    | intro _
    | with_reducible assumption
    | (with_reducible apply keeps_wordWrite)
    | (with_reducible apply keeps_when)
    | (with_reducible apply keeps_refWrite)
    | (with_reducible apply keeps_sndCntClr)
    | (with_reducible apply keeps_setSnd)
    | (with_reducible apply keeps_sndStart)
    | (with_reducible apply keeps_sndStop)
    | (with_reducible apply keeps_sndTrigger)
    | (with_reducible apply keeps_entWrite)
    | exact fun k => k
    | exact Nat.zero_le _
    | (with_reducible apply keeps_ite)
    | (with_reducible apply keeps_mk)
    | (with_reducible apply keeps_mk_mem)
    | (with_reducible apply keeps_mk_snd)
    | (with_reducible apply keeps_mk_drew)

theorem keeps_sprWrite (h : Keeps r s) (i : Initiator) (a v : Nat) : Keeps r (s.sprWrite i a v) := by
  unfold State.sprWrite
  repeat' first
    | intro _
    | with_reducible assumption
    | (with_reducible apply keeps_wordWrite)
    | (with_reducible apply keeps_when)
    | (with_reducible apply keeps_sprRunWrite)
    | (with_reducible apply keeps_userRestart)
    | (with_reducible apply keeps_sprEvent)
    | (with_reducible apply keeps_sprCntClr)
    | (with_reducible apply keeps_sprMemAccess)
    | (with_reducible apply keeps_ite)

theorem keeps_thmWrite (h : Keeps r s) (i a v : Nat) : Keeps r (s.thmWrite i a v) := by
  unfold State.thmWrite
  repeat' first
    | intro _
    | with_reducible assumption
    | (with_reducible apply keeps_when)
    | (with_reducible apply keeps_tripRelease)
    | (with_reducible apply keeps_portsEval)
    | (with_reducible apply keeps_peakClr)
    | (with_reducible apply keeps_thmCntClr)
    | (with_reducible apply keeps_extCfg)
    | (with_reducible apply keeps_wordWrite)
    | (with_reducible apply keeps_ite)

theorem keeps_safWrite (h : Keeps r s) (i : Initiator) (a v : Nat) : Keeps r (s.safWrite i a v) := by
  unfold State.safWrite
  repeat' first
    | intro _
    | with_reducible assumption
    | (with_reducible apply keeps_wordWrite)
    | (with_reducible apply keeps_when)
    | (with_reducible apply keeps_each)
    | (with_reducible apply keeps_gateWrite)
    | (with_reducible apply keeps_kick)
    | (with_reducible apply keeps_safCntClr)
    | (with_reducible apply keeps_proofAsk)
    | (with_reducible apply keeps_ite)

theorem keeps_pwrWrite (h : Keeps r s) (i a v : Nat) : Keeps r (s.pwrWrite i a v) := by
  unfold State.pwrWrite
  repeat' first
    | intro _
    | with_reducible assumption
    | (with_reducible apply keeps_wakeAtHi)
    | (with_reducible apply keeps_when)
    | (with_reducible apply keeps_pwrCntClr)
    | (with_reducible apply keeps_wordWrite)
    | (with_reducible apply keeps_qdrPower)
    | (with_reducible apply keeps_ite)

theorem keeps_cfgWrite (h : Keeps r s) (i : Initiator) (a v : Nat) : Keeps r (s.cfgWrite i a v) := by
  unfold State.cfgWrite
  repeat' first
    | intro _
    | with_reducible assumption
    | (with_reducible apply keeps_each)
    | (with_reducible apply keeps_when)
    | (with_reducible apply keeps_portReset)
    | (with_reducible apply keeps_laneReset)
    | (with_reducible apply keeps_hostReset)
    | (with_reducible apply keeps_wordWrite)
    | (with_reducible apply keeps_wdtKick)
    | (with_reducible apply keeps_cfgCntClr)
    | (with_reducible apply keeps_ite)

theorem keeps_brdCntClr (h : Keeps r s) : Keeps r (s.brdCntClr) := by
  unfold State.brdCntClr
  repeat' first
    | with_reducible assumption
    | (with_reducible apply keeps_off)

theorem keeps_glbWrite (h : Keeps r s) (i : Nat) (a v : Nat) : Keeps r (s.glbWrite i a v) := by
  unfold State.glbWrite
  repeat' first
    | intro _
    | with_reducible assumption
    | (with_reducible apply keeps_when)
    | (with_reducible apply keeps_brdCntClr)
    | (with_reducible apply keeps_mbxStart)
    | (with_reducible apply keeps_mbxArg)
    | (with_reducible apply keeps_wordWrite)
    | (with_reducible apply keeps_ite)

theorem keeps_memRegWrite (h : Keeps r s) (i a v : Nat) : Keeps r (s.memRegWrite i a v) := by
  unfold State.memRegWrite
  repeat' first
    | intro _
    | with_reducible assumption
    | (with_reducible apply keeps_when)
    | (with_reducible apply keeps_flushAll)
    | (with_reducible apply keeps_memCntClr)
    | (with_reducible apply keeps_wordWrite)
    | (with_reducible apply keeps_ite)

theorem keeps_reelWrite (h : Keeps r s) (i a v : Nat) : Keeps r (s.reelWrite i a v) := by
  unfold State.reelWrite
  repeat' first
    | intro _
    | with_reducible assumption
    | (with_reducible apply keeps_when)
    | (with_reducible apply keeps_reelCntClr)
    | (with_reducible apply keeps_setIf)
    | (with_reducible apply keeps_reelStart)
    | (with_reducible apply keeps_reelStop)
    | (with_reducible apply keeps_wordWrite)
    | (with_reducible apply keeps_ite)

theorem keeps_pmuWrite (h : Keeps r s) (i a v : Nat) : Keeps r (s.pmuWrite i a v) := by
  unfold State.pmuWrite
  repeat' first
    | with_reducible assumption
    | (with_reducible apply keeps_wordWrite)
    | (with_reducible apply keeps_pmuThaw)
    | (with_reducible apply keeps_ite)

theorem keeps_strCntClr (h : Keeps r s) : Keeps r (s.strCntClr) := by
  unfold State.strCntClr
  repeat' first
    | intro _
    | with_reducible assumption
    | (with_reducible apply keeps_each)
    | (with_reducible apply keeps_off)

theorem keeps_bucketFit (h : Keeps r s) (q : Nat) : Keeps r (s.bucketFit q) := by
  unfold State.bucketFit
  repeat' first
    | with_reducible assumption
    | (with_reducible apply keeps_set)

theorem keeps_strWrite (h : Keeps r s) (i a v : Nat) : Keeps r (s.strWrite i a v) := by
  unfold State.strWrite
  repeat' first
    | intro _
    | with_reducible assumption
    | (with_reducible apply keeps_setIf)
    | (with_reducible apply keeps_set)
    | (with_reducible apply keeps_wordWrite)
    | (with_reducible apply keeps_when)
    | (with_reducible apply keeps_strCntClr)
    | (with_reducible apply keeps_almAck)
    | (with_reducible apply keeps_bucketFit)
    | (with_reducible apply keeps_ite)

theorem keeps_tthWrite (h : Keeps r s) (i a v : Nat) : Keeps r (s.tthWrite i a v) := by
  unfold State.tthWrite
  repeat' first
    | intro _
    | with_reducible assumption
    | (with_reducible apply keeps_when)
    | (with_reducible apply keeps_tthCntClr)
    | (with_reducible apply keeps_wordWrite)
    | (with_reducible apply keeps_tthEnables)
    | (with_reducible apply keeps_ite)

theorem keeps_secWrite (h : Keeps r s) (i a v : Nat) : Keeps r (s.secWrite i a v) := by
  unfold State.secWrite
  repeat' first
    | intro _
    | with_reducible assumption
    | (with_reducible apply keeps_set)
    | (with_reducible apply keeps_when)
    | (with_reducible apply keeps_secCntClr)
    | (with_reducible apply keeps_wordWrite)
    | (with_reducible apply keeps_ite)

theorem keeps_tstWrite (h : Keeps r s) (i a v : Nat) : Keeps r (s.tstWrite i a v) := by
  unfold State.tstWrite
  repeat' first
    | intro _
    | with_reducible assumption
    | (with_reducible apply keeps_when)
    | (with_reducible apply keeps_tstCntClr)
    | (with_reducible apply keeps_engWrite)
    | (with_reducible apply keeps_wordWrite)
    | (with_reducible apply keeps_ite)

theorem keeps_plainWrite (h : Keeps r s) (i : Initiator) (a v : Nat) : Keeps r (s.plainWrite i a v) := by
  unfold State.plainWrite
  repeat' first
    | intro _
    | with_reducible assumption
    | (with_reducible apply keeps_glbWrite)
    | (with_reducible apply keeps_pwrWrite)
    | (with_reducible apply keeps_safWrite)
    | (with_reducible apply keeps_cfgWrite)
    | (with_reducible apply keeps_portWrite)
    | (with_reducible apply keeps_wordWrite)
    | (with_reducible apply keeps_strWrite)
    | (with_reducible apply keeps_pmuWrite)
    | (with_reducible apply keeps_lstWrite)
    | (with_reducible apply keeps_reelWrite)
    | (with_reducible apply keeps_memRegWrite)
    | (with_reducible apply keeps_sndWrite)
    | (with_reducible apply keeps_bdaWrite)
    | (with_reducible apply keeps_thmWrite)
    | (with_reducible apply keeps_calWrite)
    | (with_reducible apply keeps_tstWrite)
    | (with_reducible apply keeps_secWrite)
    | (with_reducible apply keeps_laneWrite)
    | (with_reducible apply keeps_hostWrite)
    | (with_reducible apply keeps_kiteWrite)
    | (with_reducible apply keeps_tthWrite)
    | (with_reducible apply keeps_when)
    | (with_reducible apply keeps_pciCntClr)
    | (with_reducible apply keeps_sprWrite)
    | (with_reducible apply keeps_ite)

theorem keeps_guardWrite (h : Keeps r s) (a v : Nat) : Keeps r (s.guardWrite a v) := by
  unfold State.guardWrite
  repeat' first
    | intro _
    | with_reducible assumption
    | (with_reducible apply keeps_relWrite)
    | (with_reducible apply keeps_set)
    | (with_reducible apply keeps_limWrite)
    | (with_reducible apply keeps_swrWrite)
    | (with_reducible apply keeps_clrChange)
    | (with_reducible apply keeps_limitsSet)
    | (with_reducible apply keeps_opStart)
    | (with_reducible apply keeps_holdRelease)
    | (with_reducible apply keeps_ite)
    | (with_reducible apply keeps_dite)

theorem keeps_guardDrop (h : Keeps r s) (i : Nat) : Keeps r (s.guardDrop i) := by
  unfold State.guardDrop
  repeat' first
    | with_reducible assumption
    | (with_reducible apply keeps_mk)
    | (with_reducible apply keeps_mk_mem)
    | (with_reducible apply keeps_mk_snd)
    | (with_reducible apply keeps_mk_drew)

theorem keeps_guardHold (h : Keeps r s) (i a v : Nat) : Keeps r (s.guardHold i a v) := by
  unfold State.guardHold
  repeat' first
    | with_reducible assumption
    | (with_reducible apply keeps_mk)
    | (with_reducible apply keeps_mk_mem)
    | (with_reducible apply keeps_mk_snd)
    | (with_reducible apply keeps_mk_drew)

theorem keeps_guardBreak (h : Keeps r s) (i : Nat) : Keeps r (s.guardBreak i) := by
  unfold State.guardBreak
  repeat' first
    | with_reducible assumption
    | (with_reducible apply keeps_guardDrop)
    | (with_reducible apply keeps_guardFail)
    | dsimp only
    | split

theorem keeps_guardLate (h : Keeps r s) (i : Nat) : Keeps r (s.guardLate i) := by
  unfold State.guardLate
  repeat' first
    | with_reducible assumption
    | (with_reducible apply keeps_guardDrop)
    | (with_reducible apply keeps_guardFail)
    | dsimp only
    | split

theorem keeps_guardSecond (h : Keeps r s) (i a v : Nat) : Keeps r (s.guardSecond i a v) := by
  unfold State.guardSecond
  repeat' first
    | intro _
    | with_reducible assumption
    | (with_reducible apply keeps_guardFail)
    | (with_reducible apply keeps_guardBreak)
    | (with_reducible apply keeps_guardDrop)
    | (with_reducible apply keeps_guardWrite)
    | (with_reducible apply keeps_when)
    | (with_reducible apply keeps_parityRight)
    | (with_reducible apply keeps_ite)
    | dsimp only
    | split

theorem keeps_parityFound (h : Keeps r s) (a : Nat) : Keeps r (s.parityFound a) := by
  unfold State.parityFound
  repeat' first
    | with_reducible assumption
    | (with_reducible apply keeps_parityNote)
    | (with_reducible apply keeps_safParity)
    | (with_reducible apply keeps_alarm)
    | (with_reducible apply keeps_ite)

theorem keeps_parityVisit (h : Keeps r s) (a : Nat) (wrong : Bool) : Keeps r (s.parityVisit a wrong) := by
  unfold State.parityVisit
  repeat' first
    | with_reducible assumption
    | (with_reducible apply keeps_parityFound)
    | (with_reducible apply keeps_ite)

theorem keeps_aliasWrite (h : Keeps r s) (i : Initiator) (a v : Nat) : Keeps r (s.aliasWrite i a v) := by
  unfold State.aliasWrite
  repeat' first
    | intro _
    | with_reducible assumption
    | (with_reducible apply keeps_plainWrite)
    | (with_reducible apply keeps_when)
    | (with_reducible apply keeps_parityRight)
    | dsimp only
    | split

theorem keeps_wordTake (h : Keeps r s) (i : Initiator) (a v : Nat) : Keeps r (s.wordTake i a v) := by
  unfold State.wordTake
  repeat' first
    | intro _
    | with_reducible assumption
    | (with_reducible apply keeps_guardBreak)
    | (with_reducible apply keeps_guardHold)
    | (with_reducible apply keeps_guardSecond)
    | (with_reducible apply keeps_aliasWrite)
    | (with_reducible apply keeps_accessFault)
    | (with_reducible apply keeps_plainWrite)
    | (with_reducible apply keeps_when)
    | (with_reducible apply keeps_parityRight)
    | (with_reducible apply keeps_ite)
    | dsimp only
    | split

theorem keeps_write32 (h : Keeps r s) (i : Initiator) (a v : Nat) : Keeps r (s.write32 i a v) := by
  unfold State.write32
  repeat' first
    | with_reducible assumption
    | (with_reducible apply keeps_countEvent)
    | (with_reducible apply keeps_accessError)
    | (with_reducible apply keeps_respond)
    | (with_reducible apply keeps_wordTake)
    | (with_reducible apply keeps_ite)

theorem keeps_readEffect (h : Keeps r s) (i : Initiator) (a : Nat) (wrong : Bool) (e : SprEcc) : Keeps r (s.readEffect i a wrong e) := by
  unfold State.readEffect
  repeat' first
    | with_reducible assumption
    | (with_reducible apply keeps_fifoPop)
    | (with_reducible apply keeps_ringPop)
    | (with_reducible apply keeps_almRead)
    | (with_reducible apply keeps_sprMemAccess)
    | (with_reducible apply keeps_off)
    | (with_reducible apply keeps_pairAccess)
    | (with_reducible apply keeps_capPop)
    | (with_reducible apply keeps_respond)
    | (with_reducible apply keeps_ite)

theorem keeps_read32 (h : Keeps r s) (i : Initiator) (a : Nat) (wrong : Bool) (e : SprEcc) (at_ : Nat) (n : Nat) : Keeps r (s.read32 i a wrong e at_ n) := by
  unfold State.read32
  repeat' first
    | with_reducible assumption
    | (with_reducible apply keeps_countEvent)
    | (with_reducible apply keeps_accessError)
    | (with_reducible apply keeps_respond)
    | (with_reducible apply keeps_parityFound)
    | (with_reducible apply keeps_readEffect)
    | (with_reducible apply keeps_ite)

theorem keeps_regWrite (h : Keeps r s) (i : Initiator) (a size v : Nat) : Keeps r (s.regWrite i a size v) := by
  unfold State.regWrite
  repeat' first
    | with_reducible assumption
    | (with_reducible apply keeps_write32)
    | (with_reducible apply keeps_respond)
    | (with_reducible apply keeps_countEvent)
    | (with_reducible apply keeps_accessError)
    | (with_reducible apply keeps_ite)

theorem keeps_regRead (h : Keeps r s) (i : Initiator) (a size : Nat) (wrong : BitVec 2) (e : SprEcc) : Keeps r (s.regRead i a size wrong e) := by
  unfold State.regRead
  repeat' first
    | with_reducible assumption
    | (with_reducible apply keeps_read32)
    | (with_reducible apply keeps_respond)
    | (with_reducible apply keeps_countEvent)
    | (with_reducible apply keeps_accessError)
    | (with_reducible apply keeps_ite)
    | dsimp only
    | split

theorem keeps_pcieNote (h : Keeps r s) (i : Initiator) : Keeps r (s.pcieNote i) := by
  unfold State.pcieNote
  repeat' first
    | with_reducible assumption
    | (with_reducible apply keeps_inc)
    | (with_reducible apply keeps_ite)
    | dsimp only
    | split

theorem keeps_memberAccess (h : Keeps r s) (i : Initiator) (a size : Nat) (write : Bool) (words : List Nat) : Keeps r (s.memberAccess i a size write words) := by
  unfold State.memberAccess
  repeat' first
    | intro _
    | with_reducible assumption
    | (with_reducible apply keeps_respond)
    | (with_reducible apply keeps_sendNone)
    | (with_reducible apply keeps_send)
    | (with_reducible apply keeps_setTth)
    | (with_reducible apply keeps_drew)
    | (with_reducible apply keeps_accessError)
    | (with_reducible apply keeps_ite)
    | (with_reducible apply keeps_mk)
    | (with_reducible apply keeps_mk_mem)
    | (with_reducible apply keeps_mk_snd)
    | (with_reducible apply keeps_mk_drew)

theorem keeps_busWrite (h : Keeps r s) (i : Initiator) (a size v : Nat) : Keeps r (s.busWrite i a size v) := by
  unfold State.busWrite
  repeat' first
    | with_reducible assumption
    | (with_reducible apply keeps_memberAccess)
    | (with_reducible apply keeps_memWrite)
    | (with_reducible apply keeps_regWrite)
    | (with_reducible apply keeps_ite)

theorem keeps_poisonNote (h : Keeps r s) (i : Initiator) : Keeps r (s.poisonNote i) := by
  unfold State.poisonNote
  repeat' first
    | with_reducible assumption
    | (with_reducible apply keeps_respond)
    | (with_reducible apply keeps_drew)
    | dsimp only
    | split

theorem keeps_busRead (h : Keeps r s) (i : Initiator) (a size : Nat) (wrong : BitVec 2) (e : SprEcc) : Keeps r (s.busRead i a size wrong e) := by
  unfold State.busRead
  repeat' first
    | with_reducible assumption
    | (with_reducible apply keeps_memberAccess)
    | (with_reducible apply keeps_pcieNote)
    | (with_reducible apply keeps_memRead)
    | (with_reducible apply keeps_regRead)
    | (with_reducible apply keeps_poisonNote)
    | (with_reducible apply keeps_ite)

theorem keeps_dataAccess (h : Keeps r s) (i : Initiator) (a : Nat) (acc : DataAcc) : Keeps r (s.dataAccess i a acc) := by
  unfold State.dataAccess
  repeat' first
    | with_reducible assumption
    | (with_reducible apply keeps_busWrite)
    | (with_reducible apply keeps_busRead)
    | (with_reducible apply keeps_ite)
    | dsimp only
    | split

theorem keeps_ioError (h : Keeps r s) : Keeps r (s.ioError) := by
  unfold State.ioError
  repeat' first
    | with_reducible assumption
    | (with_reducible apply keeps_sprFault)
    | (with_reducible apply keeps_ioAfter)
    | dsimp only
    | split

theorem keeps_bridleTimeout (h : Keeps r s) (i : Initiator) (a size : Nat) (write : Bool) : Keeps r (s.bridleTimeout i a size write) := by
  unfold State.bridleTimeout
  repeat' first
    | intro _
    | with_reducible assumption
    | (with_reducible apply keeps_inc)
    | (with_reducible apply keeps_accessError)
    | (with_reducible apply keeps_when)
    | (with_reducible apply keeps_setTth)
    | (with_reducible apply keeps_pcieNote)
    | (with_reducible apply keeps_ioStalled)
    | (with_reducible apply keeps_ioError)
    | (with_reducible apply keeps_ite)
    | dsimp only
    | split
    | (with_reducible apply keeps_mk)
    | (with_reducible apply keeps_mk_mem)
    | (with_reducible apply keeps_mk_snd)
    | (with_reducible apply keeps_mk_drew)

theorem keeps_setBoot (h : Keeps r s) (f : BootSt → BootSt) : Keeps r (s.setBoot f) := by
  unfold State.setBoot
  repeat' first
    | with_reducible assumption
    | (with_reducible apply keeps_mk)
    | (with_reducible apply keeps_mk_mem)
    | (with_reducible apply keeps_mk_snd)
    | (with_reducible apply keeps_mk_drew)

theorem keeps_flashErase (h : Keeps r s) (a n : Nat) : Keeps r (s.flashErase a n) := keeps_setFlash h _ (fun k => filter_wf _ _ k)

theorem keeps_flashWrite (h : Keeps r s) (a : Nat) (bs : List Nat) : Keeps r (s.flashWrite a bs) := keeps_setFlash h _ (fun k => writeBytes_wf _ _ _ k)

theorem keeps_checked (h : Keeps r s) (f : Field) (code : Nat) : Keeps r (s.checked f code) := by
  unfold State.checked
  repeat' first
    | with_reducible assumption
    | (with_reducible apply keeps_set)
    | (with_reducible apply keeps_inc)
    | (with_reducible apply keeps_ite)

theorem keeps_mapsClear (h : Keeps r s) (n : Lane) : Keeps r (s.mapsClear n) := by
  unfold State.mapsClear
  repeat' first
    | intro _
    | with_reducible assumption
    | (with_reducible apply keeps_off)
    | (with_reducible apply keeps_each)

theorem keeps_laneUndefine (h : Keeps r s) (n : Lane) : Keeps r (s.laneUndefine n) := by
  unfold State.laneUndefine
  repeat' first
    | with_reducible assumption
    | (with_reducible apply keeps_calAbort)
    | (with_reducible apply keeps_laneOff)
    | (with_reducible apply keeps_mapsClear)

theorem keeps_laneUnused (h : Keeps r s) (n : Lane) : Keeps r (s.laneUnused n) := by
  unfold State.laneUnused
  repeat' first
    | intro _
    | with_reducible assumption
    | (with_reducible apply keeps_setCh)
    | (with_reducible apply keeps_outClear)
    | (with_reducible apply keeps_ite)
    | (with_reducible apply keeps_mk)
    | (with_reducible apply keeps_mk_mem)
    | (with_reducible apply keeps_mk_snd)
    | (with_reducible apply keeps_mk_drew)

theorem keeps_laneDefine (h : Keeps r s) (l : RigLane) : Keeps r (s.laneDefine l) := by
  unfold State.laneDefine
  repeat' first
    | intro _
    | with_reducible assumption
    | (with_reducible apply keeps_mapsClear)
    | (with_reducible apply keeps_set)
    | (with_reducible apply keeps_setB)
    | (with_reducible apply keeps_on)
    | (with_reducible apply keeps_each)
    | (with_reducible apply keeps_ite)

theorem keeps_portUndefine (h : Keeps r s) (k : PortId) : Keeps r (s.portUndefine k) := by
  unfold State.portUndefine
  repeat' first
    | intro _
    | with_reducible assumption
    | (with_reducible apply keeps_each)
    | (with_reducible apply keeps_laneUndefine)
    | (with_reducible apply keeps_setPt)
    | (with_reducible apply keeps_off)
    | (with_reducible apply keeps_mk)
    | (with_reducible apply keeps_mk_mem)
    | (with_reducible apply keeps_mk_snd)
    | (with_reducible apply keeps_mk_drew)

theorem keeps_portDefine (h : Keeps r s) (p : RigPort) : Keeps r (s.portDefine p) := by
  unfold State.portDefine
  repeat' first
    | intro _
    | with_reducible assumption
    | (with_reducible apply keeps_setPt)
    | (with_reducible apply keeps_each)
    | (with_reducible apply keeps_laneDefine)
    | (with_reducible apply keeps_setB)
    | (with_reducible apply keeps_set)
    | (with_reducible apply keeps_mk)
    | (with_reducible apply keeps_mk_mem)
    | (with_reducible apply keeps_mk_snd)
    | (with_reducible apply keeps_mk_drew)

theorem keeps_partApply (h : Keeps r s) (touched : List PortId) (new : List RigPort) : Keeps r (s.partApply touched new) := by
  unfold State.partApply
  repeat' first
    | intro _
    | with_reducible assumption
    | (with_reducible apply keeps_each)
    | (with_reducible apply keeps_portUndefine)
    | (with_reducible apply keeps_portDefine)
    | (with_reducible apply keeps_laneUnused)
    | (with_reducible apply keeps_setBoot)
    | (with_reducible apply keeps_mk)
    | (with_reducible apply keeps_mk_mem)
    | (with_reducible apply keeps_mk_snd)
    | (with_reducible apply keeps_mk_drew)

theorem keeps_unstage (h : Keeps r s) : Keeps r (s.unstage) := by
  unfold State.unstage
  repeat' first
    | intro _
    | with_reducible assumption
    | (with_reducible apply keeps_each)
    | (with_reducible apply keeps_setPt)
    | (with_reducible apply keeps_setBoot)
    | (with_reducible apply keeps_mk)
    | (with_reducible apply keeps_mk_mem)
    | (with_reducible apply keeps_mk_snd)
    | (with_reducible apply keeps_mk_drew)

theorem keeps_stagedShow (h : Keeps r s) : Keeps r (s.stagedShow) := by
  unfold State.stagedShow
  repeat' first
    | with_reducible assumption
    | (with_reducible apply keeps_setB)

theorem keeps_layoutsApply (h : Keeps r s) : Keeps r (s.layoutsApply) := by
  unfold State.layoutsApply
  repeat' first
    | intro _
    | with_reducible assumption
    | (with_reducible apply keeps_each)
    | (with_reducible apply keeps_layoutApply)

theorem keeps_portsApply (h : Keeps r s) (m : RigImage) : Keeps r (s.portsApply m) := by
  unfold State.portsApply
  repeat' first
    | intro _
    | with_reducible assumption
    | (with_reducible apply keeps_unstage)
    | (with_reducible apply keeps_each)
    | (with_reducible apply keeps_partApply)
    | (with_reducible apply keeps_setPt)
    | (with_reducible apply keeps_setBoot)
    | (with_reducible apply keeps_layoutsApply)
    | (with_reducible apply keeps_stagedShow)
    | (with_reducible apply keeps_ite)
    | (with_reducible apply keeps_mk)
    | (with_reducible apply keeps_mk_mem)
    | (with_reducible apply keeps_mk_snd)
    | (with_reducible apply keeps_mk_drew)

theorem keeps_stagedApply (h : Keeps r s) : Keeps r (s.stagedApply) := by
  unfold State.stagedApply
  repeat' first
    | intro _
    | with_reducible assumption
    | (with_reducible apply keeps_each)
    | (with_reducible apply keeps_partApply)
    | (with_reducible apply keeps_setPt)
    | (with_reducible apply keeps_setBoot)
    | (with_reducible apply keeps_layoutsApply)
    | (with_reducible apply keeps_stagedShow)
    | (with_reducible apply keeps_portsEval)
    | (with_reducible apply keeps_ite)
    | (with_reducible apply keeps_mk)
    | (with_reducible apply keeps_mk_mem)
    | (with_reducible apply keeps_mk_snd)
    | (with_reducible apply keeps_mk_drew)

theorem keeps_prePair (h : Keeps r s) (p : Pair) (again : Bool) (v : Nat) : Keeps r (s.prePair p again v) := by
  unfold State.prePair
  repeat' first
    | with_reducible assumption
    | (with_reducible apply keeps_accessError)
    | (with_reducible apply keeps_respond)
    | (with_reducible apply keeps_pairWrite)
    | (with_reducible apply keeps_advance)
    | (with_reducible apply keeps_ite)

theorem keeps_preWrite (h : Keeps r s) (again : Bool) (a v : Nat) : Keeps r (s.preWrite again a v) := by
  unfold State.preWrite
  repeat' first
    | with_reducible assumption
    | (with_reducible apply keeps_prePair)
    | (with_reducible apply keeps_write32)
    | (with_reducible apply keeps_respond)
    | (with_reducible apply keeps_ite)
    | dsimp only
    | split

theorem keeps_preload (h : Keeps r s) (again : Bool) (l : List (Nat × Nat)) : Keeps r (s.preload again l) := by
  unfold State.preload
  repeat' first
    | intro _
    | with_reducible assumption
    | (with_reducible apply keeps_each)
    | (with_reducible apply keeps_preWrite)

theorem keeps_fixedApply (h : Keeps r s) (l : List (Nat × Nat)) : Keeps r (s.fixedApply l) := by
  unfold State.fixedApply
  repeat' first
    | intro _
    | with_reducible assumption
    | (with_reducible apply keeps_set)
    | (with_reducible apply keeps_ite)
    | dsimp only
    | split

theorem keeps_sparLoad (h : Keeps r s) (sec : Option RigSpar) : Keeps r (s.sparLoad sec) := by
  unfold State.sparLoad
  repeat' first
    | intro _
    | with_reducible assumption
    | (with_reducible apply keeps_off)
    | (with_reducible apply keeps_setSpr)
    | (with_reducible apply keeps_each)
    | (with_reducible apply keeps_set)
    | (with_reducible apply keeps_on)
    | dsimp only
    | split
    | (with_reducible apply keeps_mk)
    | (with_reducible apply keeps_mk_mem)
    | (with_reducible apply keeps_mk_snd)
    | (with_reducible apply keeps_mk_drew)

theorem keeps_sparChange (h : Keeps r s) (sec : Option RigSpar) : Keeps r (s.sparChange sec) := by
  unfold State.sparChange
  repeat' first
    | with_reducible assumption
    | (with_reducible apply keeps_takeOver)
    | (with_reducible apply keeps_sparLoad)
    | (with_reducible apply keeps_ite)

theorem keeps_pointPut {r₀ s : State} (h : Keeps r₀ s) (n : Lane) (p : Nat) (r : List Nat) : Keeps r₀ (s.pointPut n p r) := by
  unfold State.pointPut
  repeat' first
    | with_reducible assumption
    | (with_reducible apply keeps_memPutBytes)
    | (with_reducible apply keeps_ite)

theorem keeps_calseed (h : Keeps r s) (l : List (Nat × Nat × List Nat)) (p : Lane → Bool) : Keeps r (s.calseed l p) := by
  unfold State.calseed
  repeat' first
    | intro _
    | with_reducible assumption
    | (with_reducible apply keeps_each)
    | (with_reducible apply keeps_pointPut)
    | (with_reducible apply keeps_ite)

theorem keeps_pointsLoad (h : Keeps r s) (k : Fin 2) (m : RigImage) : Keeps r (s.pointsLoad k m) := by
  unfold State.pointsLoad
  repeat' first
    | intro _
    | with_reducible assumption
    | (with_reducible apply keeps_each)
    | (with_reducible apply keeps_pointPut)
    | (with_reducible apply keeps_calseed)
    | (with_reducible apply keeps_on)
    | (with_reducible apply keeps_alarm)
    | (with_reducible apply keeps_ite)

theorem keeps_safetyApply (h : Keeps r s) (f : RigSafety) : Keeps r (s.safetyApply f) := by
  unfold State.safetyApply
  repeat' first
    | intro _
    | with_reducible assumption
    | (with_reducible apply keeps_each)
    | (with_reducible apply keeps_set)
    | (with_reducible apply keeps_setSf)
    | (with_reducible apply keeps_clrChange)
    | (with_reducible apply keeps_limitsSet)
    | (with_reducible apply keeps_cmpShow)
    | (with_reducible apply keeps_setBoot)
    | (with_reducible apply keeps_mk)
    | (with_reducible apply keeps_mk_mem)
    | (with_reducible apply keeps_mk_snd)
    | (with_reducible apply keeps_mk_drew)

theorem keeps_rigTake (h : Keeps r s) (k : Fin 2) (m : RigImage) : Keeps r (s.rigTake k m) := by
  unfold State.rigTake
  repeat' first
    | intro _
    | with_reducible assumption
    | (with_reducible apply keeps_set)
    | (with_reducible apply keeps_setBoot)
    | (with_reducible apply keeps_mk)
    | (with_reducible apply keeps_mk_mem)
    | (with_reducible apply keeps_mk_snd)
    | (with_reducible apply keeps_mk_drew)

theorem keeps_rigBoot (h : Keeps r s) (k : Fin 2) (m : RigImage) : Keeps r (s.rigBoot k m) := by
  unfold State.rigBoot
  repeat' first
    | with_reducible assumption
    | (with_reducible apply keeps_rigTake)
    | (with_reducible apply keeps_portsApply)
    | (with_reducible apply keeps_fixedApply)
    | (with_reducible apply keeps_preload)
    | (with_reducible apply keeps_sparLoad)
    | (with_reducible apply keeps_pointsLoad)
    | (with_reducible apply keeps_safetyApply)
    | (with_reducible apply keeps_ballastSet)

theorem keeps_rigRun (h : Keeps r s) (k : Fin 2) (m : RigImage) : Keeps r (s.rigRun k m) := by
  unfold State.rigRun
  repeat' first
    | intro _
    | with_reducible assumption
    | (with_reducible apply keeps_rigTake)
    | (with_reducible apply keeps_portsApply)
    | (with_reducible apply keeps_fixedApply)
    | (with_reducible apply keeps_preload)
    | (with_reducible apply keeps_sparChange)
    | (with_reducible apply keeps_setB)
    | (with_reducible apply keeps_on)
    | (with_reducible apply keeps_setBoot)
    | (with_reducible apply keeps_ballastLand)
    | (with_reducible apply keeps_calseed)
    | (with_reducible apply keeps_off)
    | (with_reducible apply keeps_measure)
    | (with_reducible apply keeps_portsEval)
    | (with_reducible apply keeps_ite)
    | dsimp only
    | split
    | (with_reducible apply keeps_mk)
    | (with_reducible apply keeps_mk_mem)
    | (with_reducible apply keeps_mk_snd)
    | (with_reducible apply keeps_mk_drew)

theorem keeps_straps (h : Keeps r s) : Keeps r (s.straps) := by
  unfold State.straps
  repeat' first
    | with_reducible assumption
    | (with_reducible apply keeps_set)
    | (with_reducible apply keeps_setB)
    | (with_reducible apply keeps_on)
    | (with_reducible apply keeps_ite)

theorem keeps_timeRestore (h : Keeps r s) : Keeps r (s.timeRestore) := by
  unfold State.timeRestore
  repeat' first
    | exact h
    | exact keeps_now h rfl rfl (Nat.mod_lt _ (by decide)) rfl rfl rfl rfl rfl
    | split

theorem keeps_postRun (h : Keeps r s) (quick post : Bool) : Keeps r (s.postRun quick post) := by
  unfold State.postRun
  repeat' first
    | with_reducible assumption
    | (with_reducible apply keeps_on)
    | (with_reducible apply keeps_setB)
    | (with_reducible apply keeps_timeRestore)
    | (with_reducible apply keeps_ite)

theorem keeps_bootMeasure (h : Keeps r s) (fw rig : List Nat) : Keeps r (s.bootMeasure fw rig) := by
  unfold State.bootMeasure
  repeat' first
    | with_reducible assumption
    | (with_reducible apply keeps_measure)

theorem keeps_enterDoze (h : Keeps r s) : Keeps r (s.enterDoze) := by
  unfold State.enterDoze
  repeat' first
    | intro _
    | with_reducible assumption
    | (with_reducible apply keeps_setPwr)
    | (with_reducible apply keeps_stallAlarm)
    | (with_reducible apply keeps_each)
    | (with_reducible apply keeps_relAsk)
    | (with_reducible apply keeps_portsEval)
    | (with_reducible apply keeps_ite)
    | (with_reducible apply keeps_mk)
    | (with_reducible apply keeps_mk_mem)
    | (with_reducible apply keeps_mk_snd)
    | (with_reducible apply keeps_mk_drew)

theorem keeps_bootFirmware (h : Keeps r s) (valid post : Bool) (fw : List Nat) : Keeps r (s.bootFirmware valid post fw) := by
  unfold State.bootFirmware
  repeat' first
    | with_reducible assumption
    | (with_reducible apply keeps_postRun)
    | (with_reducible apply keeps_checked)
    | (with_reducible apply keeps_rigBoot)
    | (with_reducible apply keeps_bootMeasure)
    | (with_reducible apply keeps_enterDoze)
    | (with_reducible apply keeps_sparBoot)
    | (with_reducible apply keeps_on)
    | dsimp only
    | split

theorem keeps_recovery (h : Keeps r s) : Keeps r (s.recovery) := by
  unfold State.recovery
  repeat' first
    | intro _
    | with_reducible assumption
    | (with_reducible apply keeps_on)
    | (with_reducible apply keeps_setPwr)
    | (with_reducible apply keeps_mk)
    | (with_reducible apply keeps_mk_mem)
    | (with_reducible apply keeps_mk_snd)
    | (with_reducible apply keeps_mk_drew)

theorem keeps_bootRun (h : Keeps r s) (post : Bool) : Keeps r (s.bootRun post) := by
  unfold State.bootRun
  repeat' first
    | intro _
    | with_reducible assumption
    | (with_reducible apply keeps_straps)
    | (with_reducible apply keeps_off)
    | (with_reducible apply keeps_setBoot)
    | (with_reducible apply keeps_setPwr)
    | (with_reducible apply keeps_checked)
    | (with_reducible apply keeps_set)
    | (with_reducible apply keeps_when)
    | (with_reducible apply keeps_on)
    | (with_reducible apply keeps_bootFirmware)
    | (with_reducible apply keeps_recovery)
    | (with_reducible apply keeps_ite)
    | dsimp only
    | split
    | (with_reducible apply keeps_mk)
    | (with_reducible apply keeps_mk_mem)
    | (with_reducible apply keeps_mk_snd)
    | (with_reducible apply keeps_mk_drew)

theorem keeps_lgcReady (h : Keeps r s) (post : Bool) : Keeps r (s.lgcReady post) := by
  unfold State.lgcReady
  repeat' first
    | with_reducible assumption
    | (with_reducible apply keeps_bootRun)
    | (with_reducible apply keeps_ite)

theorem keeps_runEnter (h : Keeps r s) : Keeps r (s.runEnter) := by
  unfold State.runEnter
  repeat' first
    | intro _
    | with_reducible assumption
    | (with_reducible apply keeps_setPwr)
    | (with_reducible apply keeps_preload)
    | (with_reducible apply keeps_reelRelease)
    | (with_reducible apply keeps_stallAlarm)
    | (with_reducible apply keeps_portsEval)
    | (with_reducible apply keeps_ite)
    | dsimp only
    | split
    | (with_reducible apply keeps_mk)
    | (with_reducible apply keeps_mk_mem)
    | (with_reducible apply keeps_mk_snd)
    | (with_reducible apply keeps_mk_drew)

theorem keeps_laneMirror (h : Keeps r s) (k : Fin 2) (n : Lane) : Keeps r (s.laneMirror k n) := by
  unfold State.laneMirror
  repeat' first
    | intro _
    | with_reducible assumption
    | (with_reducible apply keeps_flashErase)
    | (with_reducible apply keeps_each)
    | (with_reducible apply keeps_flashWrite)

theorem keeps_mirrorWrite (h : Keeps r s) : Keeps r (s.mirrorWrite) := by
  unfold State.mirrorWrite
  repeat' first
    | intro _
    | with_reducible assumption
    | (with_reducible apply keeps_each)
    | (with_reducible apply keeps_setRead)
    | (with_reducible apply keeps_flashErase)
    | (with_reducible apply keeps_laneMirror)
    | (with_reducible apply keeps_flashWrite)
    | (with_reducible apply keeps_setCal)
    | (with_reducible apply keeps_ite)
    | dsimp only
    | split
    | (with_reducible apply keeps_mk)
    | (with_reducible apply keeps_mk_mem)
    | (with_reducible apply keeps_mk_snd)
    | (with_reducible apply keeps_mk_drew)

theorem keeps_parityOver (h : Keeps r s) : Keeps r (s.parityOver) := by
  unfold State.parityOver
  repeat' first
    | intro _
    | with_reducible assumption
    | (with_reducible apply keeps_each)
    | (with_reducible apply keeps_gateEnd)
    | (with_reducible apply keeps_ite)

theorem keeps_parityDone (h : Keeps r s) (a : Nat) : Keeps r (s.parityDone a) := by
  unfold State.parityDone
  repeat' first
    | intro _
    | with_reducible assumption
    | (with_reducible apply keeps_parityRight)
    | (with_reducible apply keeps_mk)
    | (with_reducible apply keeps_mk_mem)
    | (with_reducible apply keeps_mk_snd)
    | (with_reducible apply keeps_mk_drew)

theorem keeps_parityRewrite (h : Keeps r s) (a : Nat) : Keeps r (s.parityRewrite a) := by
  unfold State.parityRewrite
  repeat' first
    | intro _
    | with_reducible assumption
    | (with_reducible apply keeps_pairWrite)
    | (with_reducible apply keeps_setSpr)
    | (with_reducible apply keeps_write32)
    | (with_reducible apply keeps_respond)
    | (with_reducible apply keeps_parityDone)
    | (with_reducible apply keeps_parityOver)
    | (with_reducible apply keeps_ite)
    | dsimp only
    | split

theorem keeps_ckptWrite (h : Keeps r s) (orderly : Bool) : Keeps r (s.ckptWrite orderly) := by
  unfold State.ckptWrite
  repeat' first
    | with_reducible assumption
    | (with_reducible apply keeps_set)
    | (with_reducible apply keeps_setB)
    | (with_reducible apply keeps_off)
    | (with_reducible apply keeps_mk)
    | (with_reducible apply keeps_mk_mem)
    | (with_reducible apply keeps_mk_snd)
    | (with_reducible apply keeps_mk_drew)

theorem keeps_ckptDefer (h : Keeps r s) : Keeps r (s.ckptDefer) := by
  unfold State.ckptDefer
  repeat' first
    | with_reducible assumption
    | (with_reducible apply keeps_on)
    | (with_reducible apply keeps_inc)
    | (with_reducible apply keeps_ite)
    | (with_reducible apply keeps_mk)
    | (with_reducible apply keeps_mk_mem)
    | (with_reducible apply keeps_mk_snd)
    | (with_reducible apply keeps_mk_drew)

theorem keeps_checkpoint (h : Keeps r s) : Keeps r (s.checkpoint) := by
  unfold State.checkpoint
  repeat' first
    | with_reducible assumption
    | (with_reducible apply keeps_ckptWrite)
    | (with_reducible apply keeps_ckptDefer)
    | (with_reducible apply keeps_ite)

theorem keeps_pmcWrap (h : Keeps r s) (i pos : Nat) : Keeps r (s.pmcWrap i pos) := by
  unfold State.pmcWrap
  repeat' first
    | with_reducible assumption
    | (with_reducible apply keeps_pmcAdd)
    | (with_reducible apply keeps_ite)

theorem keeps_refill (h : Keeps r s) (q : Nat) : Keeps r (s.refill q) := by
  unfold State.refill
  repeat' first
    | with_reducible assumption
    | (with_reducible apply keeps_set)
    | (with_reducible apply keeps_off)
    | (with_reducible apply keeps_ite)
    | (with_reducible apply keeps_mk)
    | (with_reducible apply keeps_mk_mem)
    | (with_reducible apply keeps_mk_snd)
    | (with_reducible apply keeps_mk_drew)

theorem keeps_setSec (h : Keeps r s) (f : SecSt → SecSt) : Keeps r (s.setSec f) := by
  unfold State.setSec
  repeat' first
    | with_reducible assumption
    | (with_reducible apply keeps_mk)
    | (with_reducible apply keeps_mk_mem)
    | (with_reducible apply keeps_mk_snd)
    | (with_reducible apply keeps_mk_drew)

theorem keeps_sliceStart (h : Keeps r s) (c : Nat) : Keeps r (s.sliceStart c) := by
  unfold State.sliceStart
  repeat' first
    | intro _
    | with_reducible assumption
    | (with_reducible apply keeps_partitionReset)
    | (with_reducible apply keeps_setSec)
    | (with_reducible apply keeps_ite)
    | (with_reducible apply keeps_mk)
    | (with_reducible apply keeps_mk_mem)
    | (with_reducible apply keeps_mk_snd)
    | (with_reducible apply keeps_mk_drew)

theorem keeps_packBegin (h : Keeps r s) : Keeps r (s.packBegin) := by
  unfold State.packBegin
  repeat' first
    | intro _
    | with_reducible assumption
    | (with_reducible apply keeps_mirrorWrite)
    | (with_reducible apply keeps_ckptWrite)
    | (with_reducible apply keeps_setSec)
    | (with_reducible apply keeps_sliceStart)
    | (with_reducible apply keeps_ckptDefer)
    | (with_reducible apply keeps_ite)
    | (with_reducible apply keeps_mk)
    | (with_reducible apply keeps_mk_mem)
    | (with_reducible apply keeps_mk_snd)
    | (with_reducible apply keeps_mk_drew)

theorem keeps_packResult (h : Keeps r s) : Keeps r (s.packResult) := by
  unfold State.packResult
  repeat' first
    | intro _
    | with_reducible assumption
    | (with_reducible apply keeps_on)
    | (with_reducible apply keeps_setB)
    | (with_reducible apply keeps_set)
    | (with_reducible apply keeps_stamp)
    | (with_reducible apply keeps_setPwr)
    | (with_reducible apply keeps_inc)
    | (with_reducible apply keeps_setSec)
    | (with_reducible apply keeps_ite)
    | (with_reducible apply keeps_mk)
    | (with_reducible apply keeps_mk_mem)
    | (with_reducible apply keeps_mk_snd)
    | (with_reducible apply keeps_mk_drew)

theorem keeps_reload (h : Keeps r s) (c : Nat) : Keeps r (s.reload c) := by
  unfold State.reload
  repeat' first
    | intro _
    | with_reducible assumption
    | (with_reducible apply keeps_each)
    | (with_reducible apply keeps_partitionReset)
    | (with_reducible apply keeps_laneDefine)
    | (with_reducible apply keeps_layoutsApply)
    | (with_reducible apply keeps_fixedApply)
    | (with_reducible apply keeps_preload)
    | (with_reducible apply keeps_safetyApply)
    | (with_reducible apply keeps_ballastSet)
    | (with_reducible apply keeps_sparLoad)
    | (with_reducible apply keeps_sprRunWrite)
    | (with_reducible apply keeps_relAsk)
    | (with_reducible apply keeps_ite)
    | dsimp only
    | split

theorem keeps_packAbandon (h : Keeps r s) (c : Nat) : Keeps r (s.packAbandon c) := by
  unfold State.packAbandon
  repeat' first
    | intro _
    | with_reducible assumption
    | (with_reducible apply keeps_off)
    | (with_reducible apply keeps_inc)
    | (with_reducible apply keeps_setSec)
    | (with_reducible apply keeps_reload)
    | (with_reducible apply keeps_mk)
    | (with_reducible apply keeps_mk_mem)
    | (with_reducible apply keeps_mk_snd)
    | (with_reducible apply keeps_mk_drew)

theorem keeps_packUndo (h : Keeps r s) : Keeps r (s.packUndo) := by
  unfold State.packUndo
  repeat' first
    | intro _
    | with_reducible assumption
    | (with_reducible apply keeps_setSec)
    | (with_reducible apply keeps_reload)
    | (with_reducible apply keeps_ite)
    | (with_reducible apply keeps_mk)
    | (with_reducible apply keeps_mk_mem)
    | (with_reducible apply keeps_mk_snd)
    | (with_reducible apply keeps_mk_drew)

theorem keeps_sliceEnd (h : Keeps r s) (pass : Bool) : Keeps r (s.sliceEnd pass) := by
  unfold State.sliceEnd
  repeat' first
    | intro _
    | with_reducible assumption
    | (with_reducible apply keeps_packAbandon)
    | (with_reducible apply keeps_setSec)
    | (with_reducible apply keeps_sliceStart)
    | (with_reducible apply keeps_packResult)
    | (with_reducible apply keeps_ite)
    | dsimp only
    | split
    | (with_reducible apply keeps_mk)
    | (with_reducible apply keeps_mk_mem)
    | (with_reducible apply keeps_mk_snd)
    | (with_reducible apply keeps_mk_drew)

theorem keeps_kiteAnswered (h : Keeps r s) (n : Lane) (type rsp : Nat) : Keeps r (s.kiteAnswered n type rsp) := by
  unfold State.kiteAnswered
  repeat' first
    | with_reducible assumption
    | (with_reducible apply keeps_kiteAskOver)
    | (with_reducible apply keeps_mbxDone)
    | (with_reducible apply keeps_ite)

theorem keeps_kiteTake (h : Keeps r s) (n : Lane) (type : Nat) (payload : List Nat) (f : Nat → State → State) (hf : ∀ a t, Keeps r t → Keeps r (f a t)) : Keeps r (s.kiteTake n type payload f) := by
  unfold State.kiteTake
  repeat' first
    | intro _
    | with_reducible assumption
    | (with_reducible apply hf)
    | (with_reducible apply keeps_kiteGood)
    | (with_reducible apply keeps_kiteRequest)
    | (with_reducible apply keeps_ite)

theorem keeps_kiteAck (h : Keeps r s) (n : Lane) (seq code : Nat) : Keeps r (s.kiteAck n seq code) := by
  unfold State.kiteAck
  repeat' first
    | with_reducible assumption
    | (with_reducible apply keeps_kiteQueue)

theorem keeps_kiteReq (h : Keeps r s) (n : Lane) (h : Nat) (payload : List Nat) (f : PortId → State → State) (hf : ∀ a t, Keeps r t → Keeps r (f a t)) : Keeps r (s.kiteReq n h payload f) := by
  unfold State.kiteReq
  repeat' first
    | intro _
    | with_reducible assumption
    | (with_reducible apply hf)
    | (with_reducible apply keeps_kiteAck)
    | (with_reducible apply keeps_setKl)
    | (with_reducible apply keeps_ite)
    | dsimp only
    | split
    | (with_reducible apply keeps_mk)
    | (with_reducible apply keeps_mk_mem)
    | (with_reducible apply keeps_mk_snd)
    | (with_reducible apply keeps_mk_drew)

theorem keeps_cmdRigApply (h : Keeps r s) : Keeps r (s.cmdRigApply) := by
  unfold State.cmdRigApply
  repeat' first
    | with_reducible assumption
    | (with_reducible apply keeps_checked)
    | (with_reducible apply keeps_rigRun)
    | (with_reducible apply keeps_mbxDone)
    | (with_reducible apply keeps_ite)

theorem keeps_cmdPortUp (h : Keeps r s) : Keeps r (s.cmdPortUp) := by
  unfold State.cmdPortUp
  repeat' first
    | intro _
    | with_reducible assumption
    | (with_reducible apply keeps_mbxDone)
    | (with_reducible apply keeps_each)
    | (with_reducible apply keeps_upSet)
    | (with_reducible apply keeps_ite)

theorem keeps_cmdPortDown (h : Keeps r s) : Keeps r (s.cmdPortDown) := by
  unfold State.cmdPortDown
  repeat' first
    | intro _
    | with_reducible assumption
    | (with_reducible apply keeps_mbxDone)
    | (with_reducible apply keeps_each)
    | (with_reducible apply keeps_portStop)
    | (with_reducible apply keeps_ite)

theorem keeps_cmdLaneNap (h : Keeps r s) : Keeps r (s.cmdLaneNap) := by
  unfold State.cmdLaneNap
  repeat' first
    | with_reducible assumption
    | (with_reducible apply keeps_mbxDone)
    | (with_reducible apply keeps_napAsk)
    | (with_reducible apply keeps_ite)
    | dsimp only
    | split

theorem keeps_cmdLaneWake (h : Keeps r s) : Keeps r (s.cmdLaneWake) := by
  unfold State.cmdLaneWake
  repeat' first
    | with_reducible assumption
    | (with_reducible apply keeps_mbxDone)
    | (with_reducible apply keeps_wakeAsk)
    | (with_reducible apply keeps_ite)
    | dsimp only
    | split

theorem keeps_cmdCalNow (h : Keeps r s) : Keeps r (s.cmdCalNow) := by
  unfold State.cmdCalNow
  repeat' first
    | intro _
    | with_reducible assumption
    | (with_reducible apply keeps_mbxDone)
    | (with_reducible apply keeps_each)
    | (with_reducible apply keeps_refreshAsk)
    | (with_reducible apply keeps_ite)

theorem keeps_setCap (h : Keeps r s) (n : Lane) (f : CapSt → CapSt) : Keeps r (s.setCap n f) := by
  unfold State.setCap
  repeat' first
    | with_reducible assumption
    | (with_reducible apply keeps_mk)
    | (with_reducible apply keeps_mk_mem)
    | (with_reducible apply keeps_mk_snd)
    | (with_reducible apply keeps_mk_drew)

theorem keeps_cmdCapture (h : Keeps r s) : Keeps r (s.cmdCapture) := by
  unfold State.cmdCapture
  repeat' first
    | intro _
    | with_reducible assumption
    | (with_reducible apply keeps_mbxDone)
    | (with_reducible apply keeps_setCap)
    | (with_reducible apply keeps_ite)
    | (with_reducible apply keeps_mk)
    | (with_reducible apply keeps_mk_mem)
    | (with_reducible apply keeps_mk_snd)
    | (with_reducible apply keeps_mk_drew)

theorem keeps_capTrigger (h : Keeps r s) (beat : Nat) (words : List Nat) : Keeps r (s.capTrigger beat words) := by
  unfold State.capTrigger
  repeat' first
    | intro _
    | with_reducible assumption
    | (with_reducible apply keeps_setCap)
    | (with_reducible apply keeps_mbxDone)
    | (with_reducible apply keeps_beat)
    | (with_reducible apply keeps_ite)
    | (with_reducible apply keeps_mk)
    | (with_reducible apply keeps_mk_mem)
    | (with_reducible apply keeps_mk_snd)
    | (with_reducible apply keeps_mk_drew)

theorem keeps_capDisarm (h : Keeps r s) : Keeps r (s.capDisarm) := by
  unfold State.capDisarm
  repeat' first
    | intro _
    | with_reducible assumption
    | (with_reducible apply keeps_setCap)
    | (with_reducible apply keeps_ite)
    | (with_reducible apply keeps_mk)
    | (with_reducible apply keeps_mk_mem)
    | (with_reducible apply keeps_mk_snd)
    | (with_reducible apply keeps_mk_drew)

theorem keeps_attRefuse (h : Keeps r s) (comp : Nat) : Keeps r (s.attRefuse comp) := by
  unfold State.attRefuse
  repeat' first
    | with_reducible assumption
    | (with_reducible apply keeps_inc)
    | (with_reducible apply keeps_mbxDone)

theorem keeps_cmdAttest (h : Keeps r s) (brace : Bool) : Keeps r (s.cmdAttest brace) := by
  unfold State.cmdAttest
  repeat' first
    | intro _
    | with_reducible assumption
    | (with_reducible apply keeps_attRefuse)
    | (with_reducible apply keeps_set)
    | (with_reducible apply keeps_when)
    | (with_reducible apply keeps_on)
    | (with_reducible apply keeps_memPutBytes)
    | (with_reducible apply keeps_mbxDone)
    | (with_reducible apply keeps_ite)

theorem keeps_cmdSelftest (h : Keeps r s) : Keeps r (s.cmdSelftest) := by
  unfold State.cmdSelftest
  repeat' first
    | intro _
    | with_reducible assumption
    | (with_reducible apply keeps_mbxDone)

theorem keeps_cmdFwStage (h : Keeps r s) : Keeps r (s.cmdFwStage) := by
  unfold State.cmdFwStage
  repeat' first
    | intro _
    | with_reducible assumption
    | (with_reducible apply keeps_mbxDone)
    | (with_reducible apply keeps_sweep)
    | (with_reducible apply keeps_when)
    | (with_reducible apply keeps_flashErase)
    | (with_reducible apply keeps_flashWrite)
    | (with_reducible apply keeps_ite)
    | dsimp only
    | split

theorem keeps_cmdFwCommit (h : Keeps r s) : Keeps r (s.cmdFwCommit) := by
  unfold State.cmdFwCommit
  repeat' first
    | with_reducible assumption
    | (with_reducible apply keeps_checked)
    | (with_reducible apply keeps_mbxDone)
    | (with_reducible apply keeps_ite)

theorem keeps_cmdLogDrain (h : Keeps r s) : Keeps r (s.cmdLogDrain) := by
  unfold State.cmdLogDrain
  repeat' first
    | intro _
    | with_reducible assumption
    | (with_reducible apply keeps_sweep)
    | (with_reducible apply keeps_set)
    | (with_reducible apply keeps_mbxDone)
    | (with_reducible apply keeps_memPutBytes)
    | (with_reducible apply keeps_ite)
    | (with_reducible apply keeps_mk)
    | (with_reducible apply keeps_mk_mem)
    | (with_reducible apply keeps_mk_snd)
    | (with_reducible apply keeps_mk_drew)

theorem keeps_cmdSnapshotExport (h : Keeps r s) : Keeps r (s.cmdSnapshotExport) := by
  unfold State.cmdSnapshotExport
  repeat' first
    | with_reducible assumption
    | (with_reducible apply keeps_mbxDone)
    | (with_reducible apply keeps_snap)
    | (with_reducible apply keeps_off)
    | (with_reducible apply keeps_memPutBytes)
    | (with_reducible apply keeps_ite)

theorem keeps_cmdShelf (h : Keeps r s) : Keeps r (s.cmdShelf) := by
  unfold State.cmdShelf
  repeat' first
    | with_reducible assumption
    | (with_reducible apply keeps_shelfAsk)

theorem keeps_cmdTimeRead (h : Keeps r s) : Keeps r (s.cmdTimeRead) := by
  unfold State.cmdTimeRead
  repeat' first
    | with_reducible assumption
    | (with_reducible apply keeps_mbxDone)

theorem keeps_cmdKiteSend (h : Keeps r s) : Keeps r (s.cmdKiteSend) := by
  unfold State.cmdKiteSend
  repeat' first
    | with_reducible assumption
    | (with_reducible apply keeps_mbxDone)
    | (with_reducible apply keeps_wakeSendAsk)
    | (with_reducible apply keeps_kiteRequest)
    | (with_reducible apply keeps_ite)

theorem keeps_cmdReserved (h : Keeps r s) : Keeps r (s.cmdReserved) := by
  unfold State.cmdReserved
  repeat' first
    | intro _
    | with_reducible assumption
    | (with_reducible apply keeps_mbxRun)
    | (with_reducible apply keeps_mbxDone)
    | (with_reducible apply keeps_ite)

theorem keeps_setMgt (h : Keeps r s) (f : MgtSt → MgtSt) : Keeps r (s.setMgt f) := by
  unfold State.setMgt
  repeat' first
    | with_reducible assumption
    | (with_reducible apply keeps_mk)
    | (with_reducible apply keeps_mk_mem)
    | (with_reducible apply keeps_mk_snd)
    | (with_reducible apply keeps_mk_drew)

theorem keeps_dynSet (h : Keeps r s) (a : Nat) (enec : Bool) : Keeps r (s.dynSet a enec) := by
  unfold State.dynSet
  repeat' first
    | intro _
    | with_reducible assumption
    | (with_reducible apply keeps_on)
    | (with_reducible apply keeps_set)
    | (with_reducible apply keeps_setMgt)
    | (with_reducible apply keeps_mk)
    | (with_reducible apply keeps_mk_mem)
    | (with_reducible apply keeps_mk_snd)
    | (with_reducible apply keeps_mk_drew)

theorem keeps_dynDrop (h : Keeps r s) : Keeps r (s.dynDrop) := by
  unfold State.dynDrop
  repeat' first
    | intro _
    | with_reducible assumption
    | (with_reducible apply keeps_off)
    | (with_reducible apply keeps_setMgt)
    | (with_reducible apply keeps_mk)
    | (with_reducible apply keeps_mk_mem)
    | (with_reducible apply keeps_mk_snd)
    | (with_reducible apply keeps_mk_drew)

theorem keeps_pageSelect (h : Keeps r s) (bank page : Nat) : Keeps r (s.pageSelect bank page) := by
  unfold State.pageSelect
  repeat' first
    | intro _
    | with_reducible assumption
    | (with_reducible apply keeps_setMgt)
    | (with_reducible apply keeps_mk)
    | (with_reducible apply keeps_mk_mem)
    | (with_reducible apply keeps_mk_snd)
    | (with_reducible apply keeps_mk_drew)

theorem keeps_cmisByte (h : Keeps r s) (a v : Nat) : Keeps r (s.cmisByte a v) := by
  unfold State.cmisByte
  repeat' first
    | intro _
    | with_reducible assumption
    | (with_reducible apply keeps_setMgt)
    | (with_reducible apply keeps_ite)
    | (with_reducible apply keeps_mk)
    | (with_reducible apply keeps_mk_mem)
    | (with_reducible apply keeps_mk_snd)
    | (with_reducible apply keeps_mk_drew)

theorem keeps_cmisWrite (h : Keeps r s) (a : Nat) (bs : List Nat) : Keeps r (s.cmisWrite a bs) := by
  induction bs generalizing s a with
  | nil => exact h
  | cons b t ih => exact ih (keeps_cmisByte h _ _) _

theorem keeps_monitors (h : Keeps r s) (l : List (Nat × Nat × Nat)) : Keeps r (s.monitors l) := by
  unfold State.monitors
  repeat' first
    | intro _
    | with_reducible assumption
    | (with_reducible apply keeps_setMgt)
    | (with_reducible apply keeps_each)
    | (with_reducible apply keeps_mk)
    | (with_reducible apply keeps_mk_mem)
    | (with_reducible apply keeps_mk_snd)
    | (with_reducible apply keeps_mk_drew)

theorem keeps_dataPath (h : Keeps r s) (v : Nat) : Keeps r (s.dataPath v) := by
  unfold State.dataPath
  repeat' first
    | intro _
    | with_reducible assumption
    | (with_reducible apply keeps_setMgt)
    | (with_reducible apply keeps_each)
    | (with_reducible apply keeps_portStop)
    | (with_reducible apply keeps_upSet)
    | (with_reducible apply keeps_ite)
    | (with_reducible apply keeps_mk)
    | (with_reducible apply keeps_mk_mem)
    | (with_reducible apply keeps_mk_snd)
    | (with_reducible apply keeps_mk_drew)

theorem keeps_appSel (h : Keeps r s) (j : Host) (code : Nat) : Keeps r (s.appSel j code) := by
  unfold State.appSel
  repeat' first
    | intro _
    | with_reducible assumption
    | (with_reducible apply keeps_setMgt)
    | (with_reducible apply keeps_set)
    | (with_reducible apply keeps_ite)
    | dsimp only
    | split
    | (with_reducible apply keeps_mk)
    | (with_reducible apply keeps_mk_mem)
    | (with_reducible apply keeps_mk_snd)
    | (with_reducible apply keeps_mk_drew)

theorem keeps_cmisTxDisable (h : Keeps r s) (n : Lane) (v : Bool) : Keeps r (s.cmisTxDisable n v) := by
  unfold State.cmisTxDisable
  repeat' first
    | intro _
    | with_reducible assumption
    | (with_reducible apply keeps_setMgt)
    | (with_reducible apply keeps_txDisable)
    | (with_reducible apply keeps_off)
    | (with_reducible apply keeps_demandEval)
    | (with_reducible apply keeps_ite)
    | (with_reducible apply keeps_mk)
    | (with_reducible apply keeps_mk_mem)
    | (with_reducible apply keeps_mk_snd)
    | (with_reducible apply keeps_mk_drew)

theorem keeps_portsDown (h : Keeps r s) : Keeps r (s.portsDown) := by
  unfold State.portsDown
  repeat' first
    | intro _
    | with_reducible assumption
    | (with_reducible apply keeps_each)
    | (with_reducible apply keeps_portStop)

theorem keeps_lowPower (h : Keeps r s) (v : Bool) : Keeps r (s.lowPower v) := by
  unfold State.lowPower
  repeat' first
    | intro _
    | with_reducible assumption
    | (with_reducible apply keeps_setMgt)
    | (with_reducible apply keeps_portsDown)
    | (with_reducible apply keeps_ite)
    | (with_reducible apply keeps_mk)
    | (with_reducible apply keeps_mk_mem)
    | (with_reducible apply keeps_mk_snd)
    | (with_reducible apply keeps_mk_drew)

theorem keeps_allowHw (h : Keeps r s) (v : Bool) : Keeps r (s.allowHw v) := by
  unfold State.allowHw
  repeat' first
    | intro _
    | with_reducible assumption
    | (with_reducible apply keeps_setMgt)
    | (with_reducible apply keeps_setB)
    | (with_reducible apply keeps_portsDown)
    | (with_reducible apply keeps_ite)
    | (with_reducible apply keeps_mk)
    | (with_reducible apply keeps_mk_mem)
    | (with_reducible apply keeps_mk_snd)
    | (with_reducible apply keeps_mk_drew)

theorem keeps_b0End (h : Keeps r s) (status kind : Nat) : Keeps r (s.b0End status kind) := by
  unfold State.b0End
  repeat' first
    | intro _
    | with_reducible assumption
    | (with_reducible apply keeps_setMgt)
    | (with_reducible apply keeps_mk)
    | (with_reducible apply keeps_mk_mem)
    | (with_reducible apply keeps_mk_snd)
    | (with_reducible apply keeps_mk_drew)

theorem keeps_b0Run (h : Keeps r s) (c : Nat) (f : State → State) (hf : ∀ t, Keeps r t → Keeps r (f t)) : Keeps r (s.b0Run c f) := by
  unfold State.b0Run
  repeat' first
    | intro _
    | with_reducible assumption
    | (with_reducible apply hf)
    | (with_reducible apply keeps_ite)

theorem keeps_b0Get (h : Keeps r s) (wrong : BitVec 2) (e : SprEcc) : Keeps r (s.b0Get wrong e) := by
  unfold State.b0Get
  repeat' first
    | intro _
    | with_reducible assumption
    | (with_reducible apply keeps_b0End)
    | (with_reducible apply keeps_busRead)
    | (with_reducible apply keeps_setMgt)
    | (with_reducible apply keeps_ite)
    | dsimp only
    | split
    | (with_reducible apply keeps_mk)
    | (with_reducible apply keeps_mk_mem)
    | (with_reducible apply keeps_mk_snd)
    | (with_reducible apply keeps_mk_drew)

theorem keeps_b0Puts (h : Keeps r s) (l : List (Nat × Nat)) : Keeps r (s.b0Puts l) := by
  have k : ∀ (l : List (Nat × Nat)) (p : State × Option Nat), Keeps r p.1 → Keeps r (l.foldl (fun (p : State × Option Nat) w =>
      if p.1.b0Shut w.1 then (p.1, some (p.2.getD 7))
      else (p.1.busWrite .mgmt w.1 2 w.2, match p.2 with | some k => some k | none => (p.1.busWrite .mgmt w.1 2 w.2).brd.resp.kind)) p).1 := by
    intro l
    induction l with
    | nil => exact fun _ k => k
    | cons w t ih =>
      refine fun p k => ih _ ?_
      dsimp only
      split
      · exact k
      · exact keeps_busWrite k _ _ _ _
  unfold State.b0Puts
  have k0 := k l (s.set GLB.GUARD_INFO_REASON 0, none) (keeps_set h _ _)
  dsimp only at k0 ⊢
  split
  · exact keeps_b0End (keeps_ite (keeps_set k0 _ _) k0) _ _
  · exact keeps_ite (keeps_b0End (keeps_ite (keeps_set k0 _ _) k0) _ _) (keeps_b0End (keeps_ite (keeps_set k0 _ _) k0) _ _)

theorem keeps_shelfCommit (h : Keeps r s) : Keeps r (s.shelfCommit) := by
  unfold State.shelfCommit
  repeat' first
    | intro _
    | with_reducible assumption
    | (with_reducible apply keeps_flushAll)
    | (with_reducible apply keeps_classesCleared)
    | (with_reducible apply keeps_setPwr)
    | (with_reducible apply keeps_ite)
    | (with_reducible apply keeps_mk)
    | (with_reducible apply keeps_mk_mem)
    | (with_reducible apply keeps_mk_snd)
    | (with_reducible apply keeps_mk_drew)

theorem keeps_pcieLink (h : Keeps r s) (g : Fin 5) (w : Fin 3) : Keeps r (s.pcieLink g w) := by
  unfold State.pcieLink
  repeat' first
    | with_reducible assumption
    | (with_reducible apply keeps_set)
    | (with_reducible apply keeps_ite)

theorem keeps_regsRead (h : Keeps r s) (fuel a n : Nat) : Keeps r ((s.regsRead fuel a n).1) := by
  induction fuel generalizing s a n with
  | zero => exact h
  | succ f ih =>
    unfold State.regsRead
    split
    · exact h
    · dsimp only
      have hb := keeps_busRead h .reel a (accessSize a n) 0 .clean
      split
      · exact hb
      · have := ih hb (a + 2 ^ accessSize a n) (n - 2 ^ accessSize a n)
        split
        · rename_i e; rw [e] at this; exact this
        · rename_i e; rw [e] at this; exact this

theorem keeps_regsWrite (h : Keeps r s) (fuel a : Nat) (bs : List Nat) : Keeps r ((s.regsWrite fuel a bs).1) := by
  induction fuel generalizing s a bs with
  | zero => exact h
  | succ f ih =>
    unfold State.regsWrite
    split
    · exact h
    · dsimp only
      have hb := keeps_busWrite h .reel a (accessSize a bs.length) (leVal (bs.take (2 ^ accessSize a bs.length)))
      split
      · exact hb
      · exact ih hb _ _

theorem keeps_pieceRead (h : Keeps r s) (a n : Nat) (e : SprEcc) : Keeps r ((s.pieceRead a n e).1) := by
  unfold State.pieceRead
  split
  · exact keeps_memRead h _ _ _ _
  · exact keeps_regsRead h _ _ _

theorem keeps_markPoison (h : Keeps r s) (w : Nat) : Keeps r (s.markPoison w) := by
  unfold State.markPoison
  repeat' first
    | with_reducible assumption
    | (with_reducible apply keeps_readHit)
    | (with_reducible apply keeps_ite)
    | (with_reducible apply keeps_mk)
    | (with_reducible apply keeps_mk_mem)
    | (with_reducible apply keeps_mk_snd)
    | (with_reducible apply keeps_mk_drew)

theorem keeps_pieceWrite (h : Keeps r s) (a : Nat) (bs : List (Nat × Bool)) : Keeps r ((s.pieceWrite a bs).1) := by
  unfold State.pieceWrite
  split
  · dsimp only
    split
    · exact keeps_memWrite h _ _ _ _
    · exact keeps_when (keeps_memWrite h _ _ _ _) _ _ (fun _ k => keeps_markPoison k _)
  · exact keeps_regsWrite h _ _ _

theorem keeps_piecesRead (h : Keeps r s) (ecc : List (Nat × SprEcc)) (ps : List (Nat × Nat)) : Keeps r ((s.piecesRead ecc ps).1) := by
  induction ps generalizing s with
  | nil => exact h
  | cons p rest ih =>
    unfold State.piecesRead
    have hp := keeps_pieceRead h p.1 p.2 (eccAt ecc (wordOf p.1))
    split
    · rename_i e; rw [e] at hp; exact hp
    · rename_i t bs e
      rw [e] at hp
      exact ih hp

theorem keeps_piecesWrite (h : Keeps r s) (ps : List (Nat × Nat)) (bs : List (Nat × Bool)) : Keeps r ((s.piecesWrite ps bs).1) := by
  induction ps generalizing s bs with
  | nil => exact h
  | cons p rest ih =>
    unfold State.piecesWrite
    have hp := keeps_pieceWrite h p.1 (bs.take p.2)
    split
    · rename_i e; rw [e] at hp; exact hp
    · rename_i t e
      rw [e] at hp
      exact ih hp _

theorem keeps_fixRead (h : Keeps r s) (k a : Nat) (b : ReelBurst) : Keeps r ((s.fixRead k a b).1) := by
  induction k generalizing s b with
  | zero => exact h
  | succ k ih =>
    unfold State.fixRead
    have hp := keeps_read32 h .reel a false .clean a 4
    generalize s.read32 .reel a false .clean = t at hp ⊢
    split
    · exact h
    · dsimp only
      split
      · exact ih hp _
      · exact hp

theorem keeps_fixWrite (h : Keeps r s) (k a : Nat) (bs : List (Nat × Bool)) : Keeps r ((s.fixWrite k a bs).1) := by
  induction k generalizing s bs with
  | zero => exact h
  | succ k ih =>
    unfold State.fixWrite
    have hp := keeps_write32 h .reel a (leVal ((bs.take 4).map (·.1)))
    generalize s.write32 .reel a (leVal ((bs.take 4).map (·.1))) = t at hp ⊢
    dsimp only
    split
    · exact hp
    · exact ih hp _

theorem keeps_descRead (h : Keeps r s) (a : Nat) (ecc : List SprEcc) (k : Nat) : Keeps r ((s.descRead a ecc k).1) := by
  induction k generalizing s a ecc with
  | zero => exact h
  | succ k ih =>
    unfold State.descRead
    have hp := keeps_memRead h Initiator.reel.code a 8 (ecc.headD .clean)
    generalize s.memRead Initiator.reel.code a 8 (ecc.headD .clean) = t at hp ⊢
    dsimp only
    split
    · have q := ih hp (a + 8) (ecc.drop 1)
      split
      · rename_i e; rw [e] at q; exact q
      · rename_i e; rw [e] at q; exact q
    · exact hp

theorem keeps_descFetch (h : Keeps r s) (c : ReelId) (ecc : List SprEcc) : Keeps r (s.descFetch c ecc) := by
  unfold State.descFetch
  dsimp only
  have hd := keeps_descRead h (s.get (REEL.CH_DESC_ADDR c)) ecc 8
  generalize s.descRead (s.get (REEL.CH_DESC_ADDR c)) ecc 8 = q at hd ⊢
  obtain ⟨t, ws⟩ := q
  dsimp only at hd ⊢
  refine keeps_ite h (keeps_ite (keeps_reelFail h _ _) ?_)
  cases ws with
  | none => exact keeps_reelFail hd _ _
  | some ws =>
    dsimp only
    have hu := keeps_setRl hd c (fun _ => { s.rl c with
      desc := ws, bytes := if (s.rl c).resume then ws.getD 11 0 else 0, read := if (s.rl c).resume then ws.getD 11 0 else 0,
      poison := (s.rl c).resume && bit (ws.getD 10 0) 4 })
    refine keeps_ite (keeps_reelEnd hu _ _ _) (keeps_reelBoundary (keeps_when (keeps_set hu _ _) _ _ (fun _ k => keeps_setRl k _ _)) _)

theorem keeps_reelOffset (h : Keeps r s) (c : ReelId) (ecc : List (Nat × SprEcc)) : Keeps r ((s.reelOffset c ecc).1) := by
  unfold State.reelOffset
  repeat' first
    | intro _
    | with_reducible assumption
    | (with_reducible apply keeps_piecesRead)
    | (with_reducible apply keeps_ite)
    | dsimp only
    | split

theorem keeps_burstRead (h : Keeps r s) (h : ReelCh) (a : Nat) (b : ReelBurst) (x : ReelIn) : Keeps r ((s.burstRead h a b x).1) := by
  unfold State.burstRead
  repeat' first
    | intro _
    | with_reducible assumption
    | (with_reducible apply keeps_fixRead)
    | (with_reducible apply keeps_piecesRead)
    | (with_reducible apply keeps_ite)
    | dsimp only
    | split
    | (with_reducible apply keeps_mk)
    | (with_reducible apply keeps_mk_mem)
    | (with_reducible apply keeps_mk_snd)
    | (with_reducible apply keeps_mk_drew)

theorem keeps_reelPoison (h : Keeps r s) (c : ReelId) (b : ReelBurst) : Keeps r (s.reelPoison c b) := by
  unfold State.reelPoison
  repeat' first
    | intro _
    | with_reducible assumption
    | (with_reducible apply keeps_setRl)
    | (with_reducible apply keeps_inc)
    | (with_reducible apply keeps_ite)
    | (with_reducible apply keeps_mk)
    | (with_reducible apply keeps_mk_mem)
    | (with_reducible apply keeps_mk_snd)
    | (with_reducible apply keeps_mk_drew)

theorem keeps_reelCarry (h : Keeps r s) (c : ReelId) (b : ReelBurst) : Keeps r (s.reelCarry c b) := by
  unfold State.reelCarry
  repeat' first
    | intro _
    | with_reducible assumption
    | (with_reducible apply keeps_setRl)
    | (with_reducible apply keeps_ite)
    | (with_reducible apply keeps_mk)
    | (with_reducible apply keeps_mk_mem)
    | (with_reducible apply keeps_mk_snd)
    | (with_reducible apply keeps_mk_drew)

theorem keeps_burstStart (h : Keeps r s) (c : ReelId) (x : ReelIn) : Keeps r (s.burstStart c x) := by
  unfold State.burstStart
  repeat' first
    | intro _
    | with_reducible assumption
    | (with_reducible apply keeps_on)
    | (with_reducible apply keeps_reelOffset)
    | (with_reducible apply keeps_off)
    | (with_reducible apply keeps_burstRead)
    | (with_reducible apply keeps_reelPoison)
    | (with_reducible apply keeps_reelCarry)
    | (with_reducible apply keeps_setRl)
    | (with_reducible apply keeps_reelFlight)
    | (with_reducible apply keeps_ite)
    | dsimp only
    | split
    | (with_reducible apply keeps_mk)
    | (with_reducible apply keeps_mk_mem)
    | (with_reducible apply keeps_mk_snd)
    | (with_reducible apply keeps_mk_drew)

theorem keeps_burstDrain (h : Keeps r s) (h : ReelCh) (b : ReelBurst) : Keeps r ((s.burstDrain h b).1) := by
  unfold State.burstDrain
  dsimp only
  split
  · split
    · exact ‹Keeps r s›
    · exact keeps_upd ‹Keeps r s› rfl rfl rfl rfl rfl rfl rfl rfl rfl
  · split
    · exact keeps_fixWrite ‹Keeps r s› _ _ _
    · exact keeps_piecesWrite ‹Keeps r s› _ _

theorem keeps_burstFinish (h : Keeps r s) (c : ReelId) (b : ReelBurst) (rest : List ReelBurst) : Keeps r (s.burstFinish c b rest) := by
  unfold State.burstFinish
  repeat' first
    | intro _
    | with_reducible assumption
    | (with_reducible apply keeps_burstDrain)
    | (with_reducible apply keeps_setRl)
    | (with_reducible apply keeps_set)
    | (with_reducible apply keeps_inc)
    | (with_reducible apply keeps_countEvent)
    | (with_reducible apply keeps_reelFlight)
    | (with_reducible apply keeps_reelBoundary)
    | (with_reducible apply keeps_reelEnd)
    | (with_reducible apply keeps_ite)
    | dsimp only
    | split
    | (with_reducible apply keeps_mk)
    | (with_reducible apply keeps_mk_mem)
    | (with_reducible apply keeps_mk_snd)
    | (with_reducible apply keeps_mk_drew)

theorem keeps_burstEnd (h : Keeps r s) (c : ReelId) : Keeps r (s.burstEnd c) := by
  unfold State.burstEnd
  repeat' first
    | with_reducible assumption
    | (with_reducible apply keeps_burstFinish)
    | (with_reducible apply keeps_fixRead)
    | (with_reducible apply keeps_reelCarry)
    | (with_reducible apply keeps_ite)
    | dsimp only
    | split

theorem keeps_periphAbort (h : Keeps r s) (c : ReelId) (k : Nat) : Keeps r (s.periphAbort c k) := by
  unfold State.periphAbort
  repeat' first
    | intro _
    | with_reducible assumption
    | (with_reducible apply keeps_fixRead)
    | (with_reducible apply keeps_reelCarry)
    | (with_reducible apply keeps_burstFinish)
    | (with_reducible apply keeps_burstDrain)
    | (with_reducible apply keeps_countEvent)
    | (with_reducible apply keeps_setRl)
    | (with_reducible apply keeps_inc)
    | (with_reducible apply keeps_when)
    | (with_reducible apply keeps_on)
    | (with_reducible apply keeps_reelEnd)
    | (with_reducible apply keeps_ite)
    | dsimp only
    | split
    | (with_reducible apply keeps_mk)
    | (with_reducible apply keeps_mk_mem)
    | (with_reducible apply keeps_mk_snd)
    | (with_reducible apply keeps_mk_drew)

theorem keeps_trapRefused (h : Keeps r s) : Keeps r (s.trapRefused) := by
  unfold State.trapRefused
  repeat' first
    | intro _
    | with_reducible assumption
    | (with_reducible apply keeps_sprRecord)
    | (with_reducible apply keeps_setSpr)
    | (with_reducible apply keeps_alarm)
    | (with_reducible apply keeps_mk)
    | (with_reducible apply keeps_mk_mem)
    | (with_reducible apply keeps_mk_snd)
    | (with_reducible apply keeps_mk_drew)

theorem keeps_ioDone (h : Keeps r s) (write : Bool) (g v : Nat) : Keeps r (s.ioDone write g v) := by
  unfold State.ioDone
  repeat' first
    | intro _
    | with_reducible assumption
    | (with_reducible apply keeps_setSpr)
    | (with_reducible apply keeps_sprNext)
    | (with_reducible apply keeps_ioAfter)
    | (with_reducible apply keeps_ite)
    | dsimp only
    | split
    | (with_reducible apply keeps_mk)
    | (with_reducible apply keeps_mk_mem)
    | (with_reducible apply keeps_mk_snd)
    | (with_reducible apply keeps_mk_drew)

theorem keeps_regReq (h : Keeps r s) (p target : Nat) (tag a size : Nat) (w : Option Nat) (wrong : BitVec 2) : Keeps r (s.regReq p target tag a size w wrong) := by
  unfold State.regReq
  repeat' first
    | with_reducible assumption
    | (with_reducible apply keeps_send)
    | (with_reducible apply keeps_busWrite)
    | (with_reducible apply keeps_busRead)
    | (with_reducible apply keeps_ite)
    | dsimp only
    | split

theorem keeps_regRspIn (h : Keeps r s) (tag v : Nat) (err : Option Nat) : Keeps r (s.regRspIn tag v err) := by
  unfold State.regRspIn
  repeat' first
    | intro _
    | with_reducible assumption
    | (with_reducible apply keeps_setTth)
    | (with_reducible apply keeps_respond)
    | (with_reducible apply keeps_pcieNote)
    | (with_reducible apply keeps_send)
    | (with_reducible apply keeps_ite)
    | dsimp only
    | split
    | (with_reducible apply keeps_mk)
    | (with_reducible apply keeps_mk_mem)
    | (with_reducible apply keeps_mk_snd)
    | (with_reducible apply keeps_mk_drew)

end Sys2Proof.Machine
end

