-- ==== Sys2Proof/WellFormed.lean ====
section
/-! DEFINITION. What an operand list must be for the command to be one that the spec's tables spell: lengths and ranges that the
operands' types leave open. The meanings are total and need none of it. -/

namespace Sys2Proof

/-- `n` bytes. -/
def bytesOk (n : Nat) (l : List Nat) : Bool := l.length == n && l.all (fun b => decide (b < 256))

/-- Between `a` and `b` kite symbols of 32 chips each (R206, R215). -/
def symsOk (a b : Nat) (l : List (List Int)) : Bool :=
  decide (a ≤ l.length) && decide (l.length ≤ b) && l.all (fun c => c.length == 32)

/-- The items of a TXC_REQ: 1 to 6 (Table 04-3). -/
def itemsOk (l : List TxcItem) : Bool := decide (1 ≤ l.length) && decide (l.length ≤ 6)

/-- An alarm entry as an ALARM message carries it: the widths of Table 20-8's fields. -/
def alarmOk (m : AlmMsg) : Bool :=
  decide (m.stack < 4) && decide (m.id < 256) && decide (m.inst < 256) && decide (m.count < 2 ^ 16) && decide (m.code < 2 ^ 16)

/-- The operands are in order. -/
def Instr.wf (i : Instr) : Bool :=
  match i with
  | .referenceLoss _ => true
  | .holdoverExpiry _ => true
  | .gbxSlip _ => true
  | .amReceived _ _ _ => true
  | .kp4Codeword _ _ _ => true
  | .agcBlock _ _ => true
  | .compReleaseEnd _ => true
  | .ovrWindow _ => true
  | .ovrBackoff _ => true
  | .holdoffEnd _ _ => true
  | .sampleSaturation _ _ _ => true
  | .grossOverload _ => true
  | .dcrRecoveryEnd _ => true
  | .lnRxCntClr _ => true
  | .agcRestart _ => true
  | .ktapMean _ _ => true
  | .slcDataAccess _ _ _ => true
  | .slotStart _ _ => true
  | .spareHandover _ => true
  | .referenceMeasureDone _ _ _ _ _ => true
  | .sliceReturn _ => true
  | .inserviceSlotEnd _ => true
  | .calWindowEnd _ => true
  | .refineResult _ _ => true
  | .dacEstimateDone _ _ _ _ => true
  | .foregroundCalDone _ slices _ _ => slices.all (fun p => p.2.length == 4)
  | .seededStartDone _ _ => true
  | .refreshStart _ => true
  | .refreshComplete _ => true
  | .calRefresh _ => true
  | .calCntClr _ => true
  | .tokenRequest _ => true
  | .tokenGrant _ => true
  | .tokenReturn _ => true
  | .tokenExpiry _ _ => true
  | .guardWindow _ => true
  | .boostOpen _ => true
  | .boostClose _ => true
  | .locFreezeEnd _ _ => true
  | .eqcDataAccess _ _ _ => true
  | .modeChange _ => true
  | .preshedRampEnd _ => true
  | .shedCheck _ => true
  | .innerCodeword _ _ raw => decide (64 ≤ raw.length)
  | .decWindowEnd _ => true
  | .frameReceived _ => true
  | .superframeReceived _ => true
  | .locHello _ _ _ _ _ => true
  | .locHelloAck _ _ _ _ _ => true
  | .locTxcReq _ _ items => itemsOk items
  | .locTxcDone _ _ _ _ _ => true
  | .locDaccalAnn _ _ _ _ => true
  | .locFreezeReq _ _ _ => true
  | .locStats _ _ body => bytesOk 14 body
  | .locUser _ _ body => bytesOk 14 body
  | .locReservedType _ _ _ => true
  | .locRetx _ _ => true
  | .superframeSend _ => true
  | .userSend _ => true
  | .snap => true
  | .snapDone => true
  | .swap _ => true
  | .swapApply _ => true
  | .swapSlewStep _ => true
  | .shadowLoad _ => true
  | .lnTxCntClr _ => true
  | .txtDataAccess _ _ _ => true
  | .swingStep _ => true
  | .ampRampComplete _ _ => true
  | .txcReqSend _ items => itemsOk items
  | .txcApply _ => true
  | .daccalRequest _ _ => true
  | .daccalExecute _ => true
  | .sdAssert _ _ => true
  | .sdDeassert _ _ => true
  | .cdrLock _ => true
  | .cdrLoss _ => true
  | .rxcDataAccess _ _ _ => true
  | .presetWrite _ _ _ => true
  | .txManWrite _ _ => true
  | .txCoefSlewStep _ _ => true
  | .txSourceChange _ => true
  | .trainingFrameReceived _ _ _ _ => true
  | .trainingRequest _ _ => true
  | .noPartnerTmo _ _ => true
  | .readyHoldEnd _ _ => true
  | .trainMaxExpiry _ _ => true
  | .restartHoldoffEnd _ => true
  | .offerStart _ _ => true
  | .offerEnd _ _ => true
  | .retrain _ => true
  | .hlCntClr _ => true
  | .genEn _ => true
  | .chkLock _ _ => true
  | .chkLockLoss _ _ => true
  | .prbsLatch _ _ => true
  | .prbsClr _ => true
  | .prbsInject _ => true
  | .upSet _ => true
  | .upClear _ => true
  | .autoRestart _ => true
  | .acqTmo _ _ => true
  | .trainTmo _ _ => true
  | .trafficEntry _ => true
  | .partnerTmo _ _ => true
  | .losHoldExpiry _ _ => true
  | .napRequest _ => true
  | .napCommit _ => true
  | .wakeRequest _ => true
  | .wakeQualified _ _ => true
  | .wakeTmo _ _ _ => true
  | .stagedApply => true
  | .portCntClr _ => true
  | .kiteTxStart _ => true
  | .kiteTxEnd _ => true
  | .kitePreambleDetect _ syms => symsOk 31 39 syms
  | .kiteCapture _ syms => symsOk 31 39 syms
  | .kiteSfd _ syms => symsOk 16 40 syms
  | .kiteHeader _ _ window => symsOk 0 39 window
  | .kiteFalsePreamble _ _ syms => symsOk 40 40 syms
  | .kiteCrcFail _ => true
  | .kiteProbe _ payload => bytesOk 8 payload
  | .kiteSerialReq _ => true
  | .kiteSerial _ payload => bytesOk 16 payload
  | .kiteStatsReq _ => true
  | .kiteStats _ payload => bytesOk 16 payload
  | .kiteNapReq _ payload => bytesOk 4 payload
  | .kiteWakeReq _ payload => bytesOk 4 payload
  | .kiteReqAck _ payload => bytesOk 4 payload
  | .kiteUser _ payload => bytesOk payload.length payload && decide (payload.length ≤ 256)
  | .kiteReservedType _ => true
  | .wakeSeen _ syms => symsOk 31 39 syms
  | .kiteWakeDetect _ _ => true
  | .probeSend _ _ => true
  | .partnerSeenExpiry _ _ => true
  | .kiteReqRepeat _ _ _ => true
  | .klSend _ => true
  | .wakeSend _ => true
  | .rxRelease _ => true
  | .klCntClr _ => true
  | .qdataWrite _ _ => true
  | .bdaSampleTick => true
  | .deglitchEnd _ => true
  | .rangeChange _ _ => true
  | .bdaFlush _ _ => true
  | .bdaCntClr _ => true
  | .sndStart => true
  | .sndStop _ => true
  | .sndTrig => true
  | .sndFifoClr => true
  | .sndCntClr => true
  | .sndTimerTrigger _ => true
  | .conversionStart _ _ => true
  | .sndResult vin => decide (1 ≤ vin.length) && decide (vin.length ≤ 6656)
  | .conversionEnd => true
  | .systemSlotRequest _ _ _ _ _ _ => true
  | .modulatorOverload _ => true
  | .refRdy _ => true
  | .supActiveRise => true
  | .sndFifoRead _ => true
  | .sndEntWrite _ _ _ => true
  | .sprNop _ => true
  | .sprAdd _ _ _ _ => true
  | .sprSub _ _ _ _ => true
  | .sprAnd _ _ _ _ => true
  | .sprOr _ _ _ _ => true
  | .sprXor _ _ _ _ => true
  | .sprShl _ _ _ _ => true
  | .sprShr _ _ _ _ => true
  | .sprSar _ _ _ _ => true
  | .sprMul _ _ _ _ => true
  | .sprAdds _ _ _ _ => true
  | .sprSubs _ _ _ _ => true
  | .sprMin _ _ _ _ => true
  | .sprMax _ _ _ _ => true
  | .sprAbs _ _ _ => true
  | .sprCmp _ _ _ => true
  | .sprAddi _ _ _ _ => true
  | .sprLui _ _ _ => true
  | .sprOri _ _ _ _ => true
  | .sprAndi _ _ _ _ => true
  | .sprCmpi _ _ _ => true
  | .sprShli _ _ _ _ => true
  | .sprSari _ _ _ _ => true
  | .sprShri _ _ _ _ => true
  | .sprLd _ _ _ _ _ => true
  | .sprSt _ _ _ _ => true
  | .sprLdio _ _ _ _ => true
  | .sprStio _ _ _ _ => true
  | .ioResponse _ _ _ => true
  | .ioTmo => true
  | .sprAgset _ _ _ _ => true
  | .sprAgget _ _ _ _ => true
  | .sprMac4 _ _ _ _ _ _ _ _ => true
  | .sprMac2 _ _ _ _ _ _ _ => true
  | .sprMacr _ _ _ _ _ _ => true
  | .sprMova _ _ _ _ => true
  | .sprLda _ _ _ => true
  | .sprClra _ _ => true
  | .sprJmp _ _ => true
  | .sprBr _ _ _ => true
  | .sprCall _ _ => true
  | .sprRet _ => true
  | .sprLoop _ _ _ => true
  | .sprWait _ _ => true
  | .waitComplete _ => true
  | .sprEvt _ _ => true
  | .sprTrap _ _ => true
  | .trapExit => true
  | .trapLog => true
  | .trapAlarm => true
  | .sprRetu _ _ _ => true
  | .sprHalt _ => true
  | .illegalInstruction _ => true
  | .sparTimerEvent _ => true
  | .sparPreempt => true
  | .sparRun _ _ _ => true
  | .userRestart => true
  | .doorbell => true
  | .sprCntClr => true
  | .sprMemDataAccess _ _ => true
  | .thmReading _ _ => true
  | .extChannelReading _ _ _ den => decide (0 < den)
  | .crossCheck _ _ => true
  | .tripRel => true
  | .peakClr => true
  | .thmCntClr => true
  | .shelfThermalSample _ => true
  | .comparatorTrip _ _ _ => true
  | .loArm _ _ => true
  | .loDisarm _ => true
  | .txDisableEdge _ _ => true
  | .laserClrNFall => true
  | .laserClrNRise => true
  | .safRelease _ _ => true
  | .proofTestStart _ => true
  | .proofChannelDone _ _ _ _ => true
  | .proofTestEnd _ => true
  | .periodicProofDue _ => true
  | .safProof _ => true
  | .supervisionPass _ => true
  | .supGateOpen _ => true
  | .safKick => true
  | .deadmanExpiry _ => true
  | .clockLoss => true
  | .clkLossClear _ => true
  | .supplyFault _ => true
  | .supplyNowClear _ => true
  | .vddioUvlo _ => true
  | .safLimWrite _ _ _ => true
  | .safCntClr => true
  | .paritySweep _ _ => true
  | .parityRewrite _ => true
  | .powerUp => true
  | .pgCore => true
  | .pgA12 => true
  | .pgQdr => true
  | .oscRdy => true
  | .memRdy => true
  | .lgcRdy _ => true
  | .pgLane => true
  | .wakeStepTimeout _ => true
  | .wakeRetry => true
  | .dozeEntry _ => true
  | .lpmodeRise => true
  | .shelfCommit => true
  | .hostSdWake _ _ => true
  | .lpmodeFall => true
  | .mgmtWake => true
  | .perstNRise _ _ _ => true
  | .tetherWake _ => true
  | .wakeTimer => true
  | .gpioWake _ _ => true
  | .wakeAtHiWrite _ => true
  | .quiesceRequest _ => true
  | .quiesceTimeout _ _ => true
  | .sleepRetry _ => true
  | .braceStart _ => true
  | .braceEnd _ => true
  | .bor => true
  | .plbor => true
  | .ballastPress _ _ => true
  | .ballastRestore _ => true
  | .pwrCntClr => true
  | .resetNFall _ => true
  | .resetNRise => true
  | .swr => true
  | .wdr => true
  | .wdtKick _ => true
  | .ptr _ => true
  | .lnrLine _ => true
  | .lnrHost _ => true
  | .cfgCntClr => true
  | .registerWrite _ _ _ _ => true
  | .guardedPairWrite _ _ _ _ => true
  | .guardLate _ => true
  | .bridleTimeout _ _ _ _ => true
  | .glbCntClr => true
  | .memoryRead _ _ _ _ => true
  | .memoryWrite _ _ _ _ => true
  | .mergeIdleFlush _ _ => true
  | .bucketLeak => true
  | .scrubRead _ _ _ => true
  | .qdrTrainDone _ => true
  | .memFlush => true
  | .memCntClr => true
  | .reelStart _ => true
  | .resume _ => true
  | .reelStop _ => true
  | .descriptorFetch _ ecc => ecc.length == 8
  | .burstStart _ x => decide (x.host.length ≤ 1024) && decide (x.words ≤ 256)
  | .burstEnd _ => true
  | .periphAbort _ k => decide (k ≤ 256)
  | .barrierConfirm _ => true
  | .descriptorComplete _ => true
  | .reelCntClr => true
  | .checkpoint => true
  | .pmcWrap _ _ => true
  | .alarmOccurrence _ _ _ => true
  | .alarmAck _ _ => true
  | .alarmEntryRead _ _ => true
  | .logRecord _ _ _ _ _ _ _ => true
  | .tokenRefill _ => true
  | .traceRecord _ _ _ _ => true
  | .ringPortRead _ _ _ => true
  | .strCntClr => true
  | .setdasa _ _ _ => true
  | .entdaa _ _ => true
  | .rstdaa => true
  | .pageSelect _ _ => true
  | .cmisWrite _ bs => decide (1 ≤ bs.length) && decide (bs.length ≤ 8)
  | .cmisMonitorRefresh l => l.all (fun x => decide (x.1 < 256) && decide (x.2.1 < 256) && decide (x.2.2 < 256))
  | .datapathdeinit _ => true
  | .appsel _ _ => true
  | .cmisTxDisable _ _ => true
  | .lowpwrrequestsw _ => true
  | .lowpwrallowrequesthw _ => true
  | .b0hRead _ _ => true
  | .b0hWrite => true
  | .b0hGuardedWrite => true
  | .rigApply => true
  | .portUp => true
  | .portDown => true
  | .laneNap => true
  | .laneWake => true
  | .calNow => true
  | .capture => true
  | .captureTrigger _ words => words.length == 16384
  | .attest _ => true
  | .selftestResult => true
  | .fwStage => true
  | .fwCommit => true
  | .logDrain => true
  | .snapshotExport => true
  | .shelf => true
  | .timeRead => true
  | .kiteSend => true
  | .mbxReservedOpcode => true
  | .mailboxTimeout _ => true
  | .blockLock _ _ => true
  | .blockLockLoss _ hdrs _ => hdrs.length == 64
  | .tetherRetry _ _ => true
  | .tthLink _ _ _ => true
  | .tthAlarm m => (match m with | some m => alarmOk m | none => true)
  | .tthWake _ => true
  | .tthToken _ _ _ _ => true
  | .tthTime _ => true
  | .tthRegReq _ _ _ _ _ _ _ => true
  | .tthRegRsp _ _ _ => true
  | .tthInt _ => true
  | .timeSend _ => true
  | .tthCntClr => true
  | .pciCntClr => true
  | .lcAdvance _ _ _ => true
  | .keyProgram _ _ _ => true
  | .keyRevoke _ _ _ => true
  | .packdown => true
  | .packdownSliceEnd _ => true
  | .holdRelease => true
  | .engineStart => true
  | .engineDone => true
  | .secCntClr => true
  | .tstCntClr => true
  | .registerRead _ _ _ _ _ => true
  | .perstNFall => true
  | .txcSettleElapsed _ _ => true
  | .fallbackCtleHold _ _ => true
  | .fastClocksRestart _ _ => true
  | .jtagInstructionLoad _ => true

end Sys2Proof
end

