-- ==== Sys2Proof/Tests/Slice0.lean ====
section
/-!
SUPPORT. Tests: ill-formed operands are refused, worked examples of the spec, and for every statement with hypotheses one theorem that
shows operands and a state that meet them, clause by clause.
-/

namespace Sys2Proof.Machine

open Sys2Proof

set_option Elab.async false

theorem distance_self (a : List Bool) : distance a a = 0 := by
  simp only [distance]
  induction a with
  | nil => rfl
  | cons x l ih => simpa using ih

/-! ## Ill-formed operands are refused -/

theorem test_wf_slices : (Instr.foregroundCalDone 0 [(0, [0, 0, 0])] [] []).wf = false := by decide
theorem test_wf_beat : (Instr.innerCodeword 0 0 (List.replicate 64 0)).wf = true ∧ (Instr.innerCodeword 0 0 (List.replicate 63 0)).wf = false := by decide +kernel
theorem test_wf_preamble : (Instr.kitePreambleDetect 0 (List.replicate 30 (List.replicate 32 0))).wf = false ∧ (Instr.kiteCapture 0 (List.replicate 31 [])).wf = false ∧
    (Instr.wakeSeen 0 (List.replicate 40 (List.replicate 32 0))).wf = false := by decide +kernel
theorem test_wf_sfd : (Instr.kiteSfd 0 []).wf = false ∧ (Instr.kiteFalsePreamble 0 0 []).wf = false ∧
    (Instr.kiteHeader 0 0 (List.replicate 40 (List.replicate 32 0))).wf = false := by decide +kernel
theorem test_wf_items : (Instr.locTxcReq 0 0 []).wf = false ∧ (Instr.txcReqSend 0 (List.replicate 7 ⟨0, 0, 0⟩)).wf = false := by decide
theorem test_wf_stats : (Instr.locStats 0 0 (List.replicate 13 0)).wf = false := by decide
theorem test_wf_user : (Instr.locUser 0 0 (List.replicate 15 0)).wf = false := by decide
theorem test_wf_probe : (Instr.kiteProbe 0 (List.replicate 7 0)).wf = false := by decide
theorem test_wf_serial : (Instr.kiteSerial 0 (List.replicate 15 0)).wf = false ∧ (Instr.kiteStats 0 []).wf = false := by decide
theorem test_wf_requests : (Instr.kiteNapReq 0 []).wf = false ∧ (Instr.kiteWakeReq 0 []).wf = false ∧ (Instr.kiteReqAck 0 []).wf = false := by decide
theorem test_wf_kite_user : (Instr.kiteUser 0 [256]).wf = false ∧ (Instr.kiteUser 0 (List.replicate 257 0)).wf = false := by decide +kernel
theorem test_wf_reading : (Instr.extChannelReading 0 0 0 0).wf = false := by decide
theorem test_wf_sndResult : (Instr.sndResult []).wf = false := by decide
theorem test_wf_descriptor : (Instr.descriptorFetch 0 [.clean]).wf = false := by decide
theorem test_wf_burst : (Instr.burstStart 0 { words := 257 }).wf = false := by decide
theorem test_wf_abort : (Instr.periphAbort 0 257).wf = false := by decide
theorem test_wf_cmis : (Instr.cmisWrite 0 []).wf = false ∧ (Instr.cmisWrite 0 (List.replicate 9 0)).wf = false := by decide
theorem test_wf_monitor : (Instr.cmisMonitorRefresh [(256, 0, 0)]).wf = false := by decide
theorem test_wf_block_lock : (Instr.blockLockLoss 0 (List.replicate 64 1) 0).wf = true ∧ (Instr.blockLockLoss 0 (List.replicate 63 1) 0).wf = false := by decide
theorem test_wf_capture : (Instr.captureTrigger 0 []).wf = false := by decide
theorem test_wf_alarm : (Instr.tthAlarm (some ⟨4, 0, 0, true, true, 0, 0⟩)).wf = false := by decide

/-! ## Worked examples of the spec -/

/-- Chapter 17: BALLAST_EN, HOST_SD and SUP_GATE of LN3 have their aliases at these addresses. -/
theorem test_aliases : aliasTarget 0x20000C = (0x10000, 3) ∧ aliasTarget 0x200404 = (0x10008, 1) ∧ aliasTarget 0x30002C = (0x20000, 11) := by decide

/-- Chapter 17: the masked write to LN2_AFE_CTRL sets AGC_MODE to MANUAL; masking in one of its two bits changes nothing. -/
theorem test_masked_write : (State.reset.wordWrite 2 0x120000 0x30001).get (LN.AFE_CTRL_AGC_MODE 2) = 1 ∧
    State.reset.wordWrite 2 0x120000 0x10001 = State.reset := by decide +kernel

/-- Chapter 18: the word at 0x1034_1F48 lies in bank B13. -/
theorem test_bank : memBank 0x10341F48 = 13 := by decide

/-- R350: serial-number arithmetic wraps. -/
theorem test_seq_wrap : slotTaken 0 0 0xFFFFFFFE 0x3 = some 1 ∧ slotTaken 0 0 5 5 = some 0 := by decide +kernel

/-- The state after reset is the one that applying power leaves. -/
theorem test_reset_is_power_on : State.powerOn { ({} : State) with pwr := { dev := .off } } = State.reset := by decide +kernel

/-- Of what `exec` answers, a next state with `p`. -/
def Goes (o : Out) (p : State → Bool) : Bool := match o with | .next t => p t | _ => false

/-- Spar about to execute the word `w` at 0x1000. -/
def sprState (w : Nat) (r : SprSt := {}) : State :=
  { pwr := { dev := .run }, spr := { r with run := .running, pc := 0x1000, prog := [(0x1000, w)] } }

/-! The words are those of the program of chapter 12's example. -/

theorem test_spr_lui : Goes (execSprLui 1 0x2C .clean (sprState 0x4440002C)) (fun t => t.spr.lo.get 1 == 0x000B0000 && t.spr.pc == 0x1001) = true := by decide +kernel
theorem test_spr_lui_other : Goes (execSprLui 12 0x7C .clean (sprState 0x4700007C)) (fun t => t.spr.priv8.get 4 == 0x001F0000) = true := by decide +kernel
theorem test_spr_addi : Goes (execSprAddi 3 0 2048 .clean (sprState 0x40C00800)) (fun t => t.spr.lo.get 3 == 2048) = true := by decide +kernel
theorem test_spr_clra : Goes (execSprClra 0xF .clean (sprState 0x97C00000 { acc := Vector.replicate 4 7 })) (fun t => t.spr.acc == Vector.replicate 4 0) = true := by decide +kernel
theorem test_spr_loop : Goes (execSprLoop 3 0x1011 .clean (sprState 0xB0C01011 { lo := vset (Vector.replicate 8 0) 3 2048 })) (fun t => t.spr.loopP == [⟨0x1001, 0x1011, 2048⟩]) = true := by decide +kernel
theorem test_spr_ld : Goes (execSprLd 4 2 true .clean .clean (sprState 0x61140000 { ag := vset (Vector.replicate 8 {}) 2 ⟨0x207C, 0x2000, 128, 4⟩, data := [(0x207C, 77)] })) (fun t => t.spr.lo.get 4 == 77 && (t.spr.ag.get 2).p == 0x2000) = true := by decide +kernel
theorem test_spr_stio : Goes (execSprStio 4 1 0x344 .clean (sprState 0x6D040344 { lo := vset (vset (Vector.replicate 8 0) 1 0xB0000) 4 9 })) (fun t => t.spr.run == .io true 4 0xB0344 9) = true := by decide +kernel
theorem test_spr_ldio : Goes (execSprLdio 5 2 0x200 .clean (sprState 0x69480200 { lo := vset (Vector.replicate 8 0) 2 0xA0000 })) (fun t => match t.spr.run with | .io false 5 a _ => a == 0xA0200 | _ => false) = true := by decide +kernel
theorem test_spr_shri : Goes (execSprShri 6 5 28 .clean (sprState 0x5D94001C { lo := vset (Vector.replicate 8 0) 5 0xF0000001 })) (fun t => t.spr.lo.get 6 == 0xF) = true := by decide +kernel
theorem test_spr_andi : Goes (execSprAndi 6 6 7 .clean (sprState 0x4D980007 { lo := vset (Vector.replicate 8 0) 6 8 })) (fun t => t.spr.lo.get 6 == 0 && t.spr.z) = true := by decide +kernel
theorem test_spr_br : Goes (execSprBr 0 0x1010 .clean (sprState 0xA4001010 { z := true })) (fun t => t.spr.pc == 0x1010) = true := by decide +kernel
theorem test_spr_shli : Goes (execSprShli 5 5 8 .clean (sprState 0x55540008 { lo := vset (Vector.replicate 8 0) 5 0x12345678 })) (fun t => t.spr.lo.get 5 == 0x34567800) = true := by decide +kernel
theorem test_spr_mac4 : Goes (execSprMac4 0 1 false false true 5 .clean [] (sprState 0x8012A000 { ag := vset (Vector.replicate 8 {}) 1 ⟨0x12000, 0x12000, 512, 4⟩ })) (fun t => (t.spr.ag.get 1).p == 0x12010 && t.spr.pc == 0x1001) = true := by decide +kernel
theorem test_spr_mova : Goes (execSprMova 8 0 true .clean (sprState 0x8E080000 { acc := vset (Vector.replicate 4 0) 0 65536 })) (fun t => t.spr.acc.get 0 == 0 && t.spr.pc == 0x1001) = true := by decide +kernel
theorem test_spr_jmp : Goes (execSprJmp 0x1003 .clean (sprState 0xA0001003)) (fun t => t.spr.pc == 0x1003) = true := by decide +kernel
theorem test_spr_wrong_word : Goes (execSprJmp 0x1003 .clean (sprState 0xA0001004)) (fun t => t == sprState 0xA0001004) = true := by decide +kernel

/-- A step runs the command at the front of the queue. -/
theorem test_step_front : step { State.reset with pending := [.powerUp] } = exec .powerUp State.reset := by rfl

/-! ## Hypotheses that something meets: one witness to each clause with hypotheses -/

theorem witness_timing_and_gearbox :
    (∃ (n : Lane) (s : State), s.pllRef (.tx n) = .traffic) ∧
    (∃ (j : Host) (n : Lane) (s : State), s.pllRef (.ht j) = .traffic ∧ s.lineOf j = some n) ∧
    (∃ (n : Lane) (s : State), s.pllRef (.tx n) = .holdover) ∧
    (∃ (j : Host) (n : Lane) (s : State), s.pllRef (.ht j) = .holdover ∧ s.lineOf j = some n) ∧
    (∃ (j : Host) (s : State), 204 ≤ (s.hl j).up.length) ∧
    (∃ (j : Host) (d : Dir) (s : State), s.monRuns j d = true) :=
  ⟨⟨1, { txpll := (vset (Vector.replicate 8 .refclk) 1 .traffic) }, by decide +kernel⟩,
   ⟨15, 1, { regs := [((LN.GBX_MAP_HOST_A 1).key, 15), ((LN.GBX_MAP_MAP_VALID 1).key, 1)], htpll := (vset (Vector.replicate 16 .refclk) 15 .traffic) }, by decide +kernel⟩,
   ⟨0, { txpll := (vset (Vector.replicate 8 .refclk) 0 .holdover) }, by decide +kernel⟩,
   ⟨1, 0, { regs := [((LN.GBX_MAP_HOST_B 0).key, 1), ((LN.GBX_MAP_MAP_VALID 0).key, 1)], htpll := (vset (Vector.replicate 16 .refclk) 1 .holdover) }, by decide +kernel⟩,
   ⟨9, { host := (vset (Vector.replicate 16 {}) 9 { up := (List.replicate 204 0) }) }, by decide +kernel⟩,
   ⟨5, 0, { regs := [((HL.RX_STATUS_SD_NOW 5).key, 1), ((HL.RX_STATUS_CDR_LOCK 5).key, 1), ((HL.TRN_STATUS_STATE 5).key, 3)] } , by decide +kernel⟩⟩

theorem witness_receive_front_end :
    (∃ (n : Lane) (s : State), (s.ln n).power = .active) ∧
    (∃ (n : Lane) (us : Nat) (s : State), 1000 * s.get (LN.AGC_CFG_HOLDOFF n) ≤ us) ∧
    (∃ (n : Lane) (us : Nat) (s : State), us < 1000 * s.get (LN.AGC_CFG_HOLDOFF n)) ∧
    (∃ (n : Lane) (s : State), (s.ln n).rx.backoffPend = true ∧ s.flag (LN.AGC_STATUS_COMP_ACTIVE n) = false ∧ (s.ln n).rx.gainWait = none ∧ (s.ln n).rx.handNow = false) ∧
    (∃ (n : Lane) (s : State), (s.ln n).rx.backoffPend = true ∧ s.flag (LN.AGC_STATUS_COMP_ACTIVE n) = false ∧ (s.ln n).rx.gainWait = none ∧ (s.ln n).rx.handNow = true) ∧
    (∃ (n : Lane) (i : Fin 65) (raw : BitVec 8) (s : State), s.slice n i = 1 ∧ s.saturates n i raw.toInt = true) ∧
    (∃ (n : Lane) (i : Fin 65) (raw : BitVec 8) (s : State), s.slice n i = 0 ∧ s.servingAt n (s.ln n).rx.pos = i ∧ ((raw = 127 ∨ raw = 128))) ∧
    (∃ (n : Lane) (i : Fin 65) (raw : BitVec 8) (s : State), s.slice n i = 0 ∧ s.servingAt n (s.ln n).rx.pos = i ∧ s.saturates n i raw.toInt = false) ∧
    (∃ (n : Lane) (i : Fin 65) (s : State), s.slice n i = 0 ∧ s.servingAt n (s.ln n).rx.pos ≠ i) ∧
    (∃ (n : Lane) (sum : Nat) (cnt : Nat) (s : State), (s.ln n).power = .active ∧ (s.ln n).rx.block = some (sum, cnt)) ∧
    (∃ (n : Lane) (s : State), (s.ln n).rx.block = none) ∧
    (∃ (n : Lane) (s : State), s.awake = true ∧ ((s.lstate n = 1 ∨ s.lstate n = 2))) ∧
    (∃ (n : Lane) (s : State), s.tapRuns n = true ∧ (s.ln n).rx.tapCnt < 4095) ∧
    (∃ (n : Lane) (s : State), s.tapRuns n = true ∧ (s.ln n).rx.tapCnt = 4095) ∧
    (∃ (s : State), s.awake = true) :=
  ⟨⟨0, { line := (vset (Vector.replicate 8 {}) 0 { power := .active }) }, by decide +kernel⟩,
   ⟨0, 10000, {}, by decide +kernel⟩,
   ⟨0, 0, {}, by decide +kernel⟩,
   ⟨0, { line := (vset (Vector.replicate 8 {}) 0 { rx := { backoffPend := true } }) }, by decide +kernel⟩,
   ⟨0, { line := (vset (Vector.replicate 8 {}) 0 { rx := { backoffPend := true, handNow := true } }) }, by decide +kernel⟩,
   ⟨3, 21, 127, { regs := [((SLC.W0_STATE 3 21).key, 1)] }, by decide +kernel⟩,
   ⟨3, 21, 127, { regs := [((SLC.W0_STATE 3 21).key, 0)], line := (vset (Vector.replicate 8 {}) 3 { rx := { pos := 21 } }) }, by decide +kernel⟩,
   ⟨1, 28, 0, { regs := [((SLC.W0_STATE 1 28).key, 0)], line := (vset (Vector.replicate 8 {}) 1 { rx := { pos := 28 } }) }, by decide +kernel⟩,
   ⟨1, 28, { regs := [((SLC.W0_STATE 1 28).key, 0)] }, by decide +kernel⟩,
   ⟨6, 0, 30142, { line := (vset (Vector.replicate 8 {}) 6 { power := .active, rx := { block := (some (0, 30142)) } }) }, by decide +kernel⟩,
   ⟨0, {}, by decide +kernel⟩,
   ⟨6, { regs := [((PORT.STATUS_STATE 6).key, 1)], port := (vset (Vector.replicate 8 {}) 6 { defined := true, lanes := 1 }) }, by decide +kernel⟩,
   ⟨1, { line := (vset (Vector.replicate 8 {}) 1 { power := .nap }) }, by decide +kernel⟩,
   ⟨0, { line := (vset (Vector.replicate 8 {}) 0 { power := .active, rx := { tapCnt := 4095 } }) }, by decide +kernel⟩,
   ⟨{} , by decide +kernel⟩⟩

theorem witness_host_receiver :
    (∃ (j : Host) (mv : BitVec 16) (s : State), s.sdLevel j ≤ mv.toNat ∧ (s.hl j).power = .active ∧ s.flag (HL.RX_STATUS_SD_NOW j) = false ∧ s.get (HL.TRN_STATUS_STATE j) = 1 ∧ (s.hl j).restart = false) ∧
    (∃ (j : Host) (mv : BitVec 16) (s : State), s.sdLevel j ≤ mv.toNat ∧ (s.hl j).power = .active ∧ s.flag (HL.RX_STATUS_SD_NOW j) = false ∧ ((s.get (HL.TRN_STATUS_STATE j) = 0 ∨ s.get (HL.TRN_STATUS_STATE j) = 2 ∨ s.get (HL.TRN_STATUS_STATE j) = 3))) ∧
    (∃ (j : Host) (a : Nat) (mv : BitVec 16) (s : State), s.sdLevel j ≤ mv.toNat ∧ (s.hl j).power = .active ∧ s.flag (HL.RX_STATUS_SD_NOW j) = false ∧ s.get (HL.TRN_STATUS_STATE j) = 4 ∧ (s.hl j).sdLost = some a) ∧
    (∃ (j : Host) (mv : BitVec 16) (s : State), 4 * mv.toNat < 3 * s.sdLevel j ∧ s.flag (HL.RX_STATUS_SD_NOW j) = true ∧ s.get (HL.TRN_STATUS_STATE j) = 4) ∧
    (∃ (j : Host) (mv : BitVec 16) (s : State), 4 * mv.toNat < 3 * s.sdLevel j ∧ s.flag (HL.RX_STATUS_SD_NOW j) = true ∧ s.get (HL.TRN_STATUS_STATE j) = 2) ∧
    (∃ (j : Host) (s : State), s.flag (HL.RX_STATUS_SD_NOW j) = true) ∧
    (∃ (j : Host) (s : State), s.flag (HL.RX_STATUS_SD_NOW j) = true ∧ s.flag (HL.RX_STATUS_CDR_LOCK j) = true) ∧
    (∃ (j : Host) (d : Dir) (w : List Nat) (s : State), s.monRuns j d = true ∧ s.flag (LST.KP4_STATUS_AM_LOCK j d) = true ∧ ((s.hl j).kp4.get d).words = [w]) ∧
    (∃ (j : Host) (s : State), (s.hl j).power = .active ∧ s.hostCarries j = true) ∧
    (∃ (j : Host) (s : State), (s.hl j).power = .off) ∧
    (∃ (s : State), s.awake = true) :=
  ⟨⟨12, 80, { regs := [((HL.TRN_STATUS_STATE 12).key, 1)], host := (vset (Vector.replicate 16 {}) 12 { power := .active }) }, by decide +kernel⟩,
   ⟨0, 80, { host := (vset (Vector.replicate 16 {}) 0 { power := .active }) }, by decide +kernel⟩,
   ⟨15, 5, 80, { regs := [((HL.TRN_STATUS_STATE 15).key, 4)], host := (vset (Vector.replicate 16 {}) 15 { power := .active, sdLost := (some 5) }) }, by decide +kernel⟩,
   ⟨3, 0, { regs := [((HL.RX_STATUS_SD_NOW 3).key, 1), ((HL.TRN_STATUS_STATE 3).key, 4)] }, by decide +kernel⟩,
   ⟨3, 0, { regs := [((HL.RX_STATUS_SD_NOW 3).key, 1), ((HL.TRN_STATUS_STATE 3).key, 2)] }, by decide +kernel⟩,
   ⟨3, { regs := [((HL.RX_STATUS_SD_NOW 3).key, 1)] }, by decide +kernel⟩,
   ⟨5, { regs := [((HL.RX_STATUS_SD_NOW 5).key, 1), ((HL.RX_STATUS_CDR_LOCK 5).key, 1)] }, by decide +kernel⟩,
   ⟨11, 1, (List.replicate 544 0), { regs := [((LST.KP4_STATUS_AM_LOCK 11 1).key, 1), ((LN.FRM_STATUS_FRAME_LOCK 5).key, 1), ((LN.GBX_MAP_HOST_B 5).key, 11), ((LN.GBX_MAP_MAP_VALID 5).key, 1)], host := (vset (Vector.replicate 16 {}) 11 { kp4 := (vset (Vector.replicate 2 {}) 1 { words := [(List.replicate 544 0)] }) }) }, by decide +kernel⟩,
   ⟨3, { regs := [((HL.TRN_STATUS_STATE 3).key, 3)], host := (vset (Vector.replicate 16 {}) 3 { power := .active }) }, by decide +kernel⟩,
   ⟨0, {}, by decide +kernel⟩,
   ⟨{} , by decide +kernel⟩⟩

theorem witness_host_transmitter :
    (∃ (j : Host) (k : Fin 5) (w : Word) (w0 : Nat) (s : State), s.awake = true ∧ assocFind (s.hl j).firstWord (k.val + 1) = some w0 ∧ coefSetOk (coefsOfWords w0 w.toNat) = true ∧ ((k.val ≠ 0 ∨ s.get (HL.TRN_STATUS_STATE j) ≠ 3))) ∧
    (∃ (j : Host) (k : Fin 5) (w : Word) (w0 : Nat) (s : State), s.awake = true ∧ assocFind (s.hl j).firstWord (k.val + 1) = some w0 ∧ coefSetOk (coefsOfWords w0 w.toNat) = false) ∧
    (∃ (j : Host) (w : Word) (w0 : Nat) (s : State), s.awake = true ∧ assocFind (s.hl j).firstWord 0 = some w0 ∧ coefSetOk (coefsOfWords w0 w.toNat) = true) ∧
    (∃ (j : Host) (s : State), (s.hl j).power = .active ∧ s.hostCarries j = true ∧ (s.hl j).target.length = 6) ∧
    (∃ (j : Host) (s : State), ((s.hl j).power ≠ .active ∨ s.hostCarries j = false)) ∧
    (∃ (j : Host) (s : State), (s.hl j).power = .active ∧ s.hostCarries j = true) ∧
    (∃ (j : Host) (s : State), (s.hl j).power = .active) ∧
    (∃ (j : Host) (us : Nat) (s : State), s.mayOffer j = true ∧ 1000 * max 10 (s.get (HL.TRN_CFG_OFFER_INT j)) ≤ us) ∧
    (∃ (j : Host) (us : Nat) (s : State), us < 1000 * max 10 (s.get (HL.TRN_CFG_OFFER_INT j))) ∧
    (∃ (j : Host) (us : Nat) (s : State), us < 1000 * max 1 (s.get (HL.TRN_CFG2_OFFER_WIN j))) ∧
    (∃ (j : Host) (us : Nat) (s : State), (s.hl j).offer = true ∧ (s.hl j).power = .active ∧ s.get (HL.TRN_STATUS_STATE j) = 3 ∧ 1000 * max 1 (s.get (HL.TRN_CFG2_OFFER_WIN j)) ≤ us) :=
  ⟨⟨6, 2, 128, 0, { host := (vset (Vector.replicate 16 {}) 6 { firstWord := [(3, 0)] }) }, by decide +kernel⟩,
   ⟨6, 2, 0, 2147134191, { host := (vset (Vector.replicate 16 {}) 6 { firstWord := [(3, 2147134191)] }) }, by decide +kernel⟩,
   ⟨6, 128, 0, { host := (vset (Vector.replicate 16 {}) 6 { firstWord := [(0, 0)] }) }, by decide +kernel⟩,
   ⟨4, { regs := [((HL.TRN_STATUS_STATE 4).key, 3)], host := (vset (Vector.replicate 16 {}) 4 { power := .active }) }, by decide +kernel⟩,
   ⟨0, {}, by decide +kernel⟩,
   ⟨3, { regs := [((HL.TRN_STATUS_STATE 3).key, 3)], host := (vset (Vector.replicate 16 {}) 3 { power := .active }) }, by decide +kernel⟩,
   ⟨0, { host := (vset (Vector.replicate 16 {}) 0 { power := .active }) }, by decide +kernel⟩,
   ⟨3, 127787, { regs := [((HL.TRN_STATUS_STATE 3).key, 3)], host := (vset (Vector.replicate 16 {}) 3 { power := .active }) }, by decide +kernel⟩,
   ⟨0, 0, {}, by decide +kernel⟩,
   ⟨0, 0, {}, by decide +kernel⟩,
   ⟨9, 5016, { regs := [((HL.TRN_STATUS_STATE 9).key, 3)], host := (vset (Vector.replicate 16 {}) 9 { power := .active, offer := true }) } , by decide +kernel⟩⟩

theorem witness_link_training :
    (∃ (j : Host) (us : Nat) (s : State), us < 1000 * max 10 (s.get (HL.TRN_CFG_NO_PARTNER_TMO j))) ∧
    (∃ (j : Host) (us : Nat) (s : State), us < 10000 * max 1 (s.get (HL.TRN_CFG_TRAIN_MAX j))) ∧
    (∃ (j : Host) (us : Nat) (s : State), (s.hl j).power = .active ∧ s.get (HL.TRN_STATUS_STATE j) = 2 ∧ (s.hl j).noTmo = true ∧ 1000 * max 10 (s.get (HL.TRN_CFG_NO_PARTNER_TMO j)) ≤ us) ∧
    (∃ (j : Host) (a : Nat) (s : State), (s.hl j).power = .active ∧ s.get (HL.TRN_STATUS_STATE j) = 2 ∧ (s.hl j).readyHold = true ∧ (s.hl j).firstAns = some a) ∧
    (∃ (j : Host) (us : Nat) (s : State), (s.hl j).power = .active ∧ s.get (HL.TRN_STATUS_STATE j) = 2 ∧ (s.hl j).firstAns.isSome = true ∧ 10000 * max 1 (s.get (HL.TRN_CFG_TRAIN_MAX j)) ≤ us) ∧
    (∃ (j : Host) (s : State), (s.hl j).power = .active ∧ s.get (HL.TRN_STATUS_STATE j) = 1 ∧ (s.hl j).restart = true) ∧
    (∃ (j : Host) (s : State), s.awake = true ∧ (s.hl j).power = .active ∧ 2 ≤ s.get (HL.TRN_STATUS_STATE j) ∧ s.flag (HL.TRN_CTRL_TRN_EN j) = true) ∧
    (∃ (j : Host) (s : State), s.awake = true ∧ (s.hl j).power = .active ∧ 2 ≤ s.get (HL.TRN_STATUS_STATE j) ∧ s.flag (HL.TRN_CTRL_TRN_EN j) = false) ∧
    (∃ (j : Host) (s : State), s.flag (LST.KP4_STATUS_AM_LOCK j 0) = false ∧ (s.hl j).offer = false ∧ s.get (HL.TRN_CTRL_TX_INIT_PRESET j) = 1) ∧
    (∃ (j : Host) (s : State), (s.hl j).power = .active ∧ s.get (HL.TRN_STATUS_STATE j) = 2 ∧ s.flag (HL.RX_STATUS_CDR_LOCK j) = true) ∧
    (∃ (j : Host) (s : State), s.get (HL.TRN_STATUS_STATE j) = 2 ∧ s.flag (HL.RX_STATUS_CDR_LOCK j) = true ∧ (s.hl j).trnLock = false) ∧
    (∃ (j : Host) (s : State), s.get (HL.TRN_STATUS_STATE j) = 2 ∧ s.flag (HL.RX_STATUS_CDR_LOCK j) = true ∧ (s.hl j).trnLock = true) ∧
    (∃ (q : TrnSearch), q.phase = .idle) ∧
    (∃ (mse : Nat) (q : TrnSearch), q.phase = .up ∧ mse < q.best) ∧
    (∃ (q : TrnSearch), q.phase = .downUndo ∧ q.tap = 4 ∧ q.improved = false) ∧
    (∃ (j : Host) (i : Fin 6) (s : State), (s.hl j).power = .active ∧ s.get (HL.TRN_STATUS_STATE j) = 2 ∧ (s.hl j).trnLock = true ∧ tapHi i < s.geti (HL.TX_ACT_C j i) + (max 1 (s.get (HL.TRN_CFG2_TRN_STEP j)) : Nat)) ∧
    (∃ (j : Host) (i : Fin 6) (s : State), (s.hl j).power = .active ∧ s.get (HL.TRN_STATUS_STATE j) = 2 ∧ (s.hl j).trnLock = true ∧ s.geti (HL.TX_ACT_C j i) - (max 1 (s.get (HL.TRN_CFG2_TRN_STEP j)) : Nat) < tapLo i) ∧
    (∃ (j : Host) (k : Fin 8) (s : State), (s.hl j).power = .active ∧ s.get (HL.TRN_STATUS_STATE j) = 2 ∧ (s.hl j).trnLock = true ∧ 1 ≤ k.val ∧ k.val ≤ 5) ∧
    (∃ (j : Host) (s : State), (s.hl j).power = .active ∧ s.get (HL.TRN_STATUS_STATE j) = 2 ∧ (s.hl j).trnLock = true) ∧
    (∃ (j : Host) (s : State), (s.hl j).power = .active ∧ s.get (HL.TRN_STATUS_STATE j) = 2 ∧ (s.hl j).trnLock = true) ∧
    (∃ (j : Host) (s : State), (s.hl j).power ≠ .active) ∧
    (∃ (j : Host) (s : State), (s.hl j).power ≠ .active) ∧
    (∃ (j : Host) (s : State), (s.hl j).power ≠ .active) ∧
    (∃ (j : Host) (s : State), (s.hl j).power ≠ .active) ∧
    (∃ (j : Host) (s : State), (s.hl j).power ≠ .active) ∧
    (∃ (j : Host) (s : State), (s.hl j).power ≠ .active) ∧
    (∃ (j : Host) (s : State), (s.hl j).power ≠ .active) ∧
    (∃ (j : Host) (s : State), (s.hl j).power = .active ∧ s.get (HL.TRN_STATUS_STATE j) = 3 ∧ s.flag (HL.RX_CTRL_CTLE_AUTO j) = true ∧ (s.hl j).ctleHeld = false) :=
  ⟨⟨0, 0, {}, by decide +kernel⟩,
   ⟨0, 0, {}, by decide +kernel⟩,
   ⟨10, 500000, { regs := [((HL.TRN_STATUS_STATE 10).key, 2)], host := (vset (Vector.replicate 16 {}) 10 { power := .active, noTmo := true }) }, by decide +kernel⟩,
   ⟨11, 1, { regs := [((HL.TRN_STATUS_STATE 11).key, 2)], host := (vset (Vector.replicate 16 {}) 11 { power := .active, readyHold := true, firstAns := (some 1) }) }, by decide +kernel⟩,
   ⟨3, 3024188, { regs := [((HL.TRN_STATUS_STATE 3).key, 2)], host := (vset (Vector.replicate 16 {}) 3 { power := .active, firstAns := (some 0) }) }, by decide +kernel⟩,
   ⟨3, { regs := [((HL.TRN_STATUS_STATE 3).key, 1)], host := (vset (Vector.replicate 16 {}) 3 { power := .active, restart := true }) }, by decide +kernel⟩,
   ⟨5, { regs := [((HL.TRN_STATUS_STATE 5).key, 2)], host := (vset (Vector.replicate 16 {}) 5 { power := .active }) }, by decide +kernel⟩,
   ⟨3, { regs := [((HL.TRN_CTRL_TRN_EN 3).key, 0), ((HL.TRN_STATUS_STATE 3).key, 2)], host := (vset (Vector.replicate 16 {}) 3 { power := .active }) }, by decide +kernel⟩,
   ⟨0, {}, by decide +kernel⟩,
   ⟨3, { regs := [((HL.RX_STATUS_CDR_LOCK 3).key, 1), ((HL.TRN_STATUS_STATE 3).key, 2)], host := (vset (Vector.replicate 16 {}) 3 { power := .active }) }, by decide +kernel⟩,
   ⟨8, { regs := [((HL.RX_STATUS_CDR_LOCK 8).key, 1), ((HL.TRN_STATUS_STATE 8).key, 2)] }, by decide +kernel⟩,
   ⟨8, { regs := [((HL.RX_STATUS_CDR_LOCK 8).key, 1), ((HL.TRN_STATUS_STATE 8).key, 2)], host := (vset (Vector.replicate 16 {}) 8 { trnLock := true }) }, by decide +kernel⟩,
   ⟨{}, by decide +kernel⟩,
   ⟨0, { phase := .up, best := 1 }, by decide +kernel⟩,
   ⟨{ phase := .downUndo, tap := 4 }, by decide +kernel⟩,
   ⟨5, 2, { regs := [((HL.TRN_STATUS_STATE 5).key, 2)], host := (vset (Vector.replicate 16 {}) 5 { trnLock := true, power := .active }) }, by decide +kernel⟩,
   ⟨14, 3, { regs := [((HL.TX_MAN_C 14 9).key, 0), ((HL.TRN_STATUS_STATE 14).key, 2)], host := (vset (Vector.replicate 16 {}) 14 { trnLock := true, power := .active }) }, by decide +kernel⟩,
   ⟨8, 1, { regs := [((HL.TRN_STATUS_STATE 8).key, 2)], host := (vset (Vector.replicate 16 {}) 8 { trnLock := true, power := .active }) }, by decide +kernel⟩,
   ⟨8, { regs := [((HL.TRN_STATUS_STATE 8).key, 2)], host := (vset (Vector.replicate 16 {}) 8 { trnLock := true, power := .active }) }, by decide +kernel⟩,
   ⟨8, { regs := [((HL.TRN_STATUS_STATE 8).key, 2)], host := (vset (Vector.replicate 16 {}) 8 { trnLock := true, power := .active }) }, by decide +kernel⟩,
   ⟨0, {}, by decide +kernel⟩,
   ⟨0, {}, by decide +kernel⟩,
   ⟨0, {}, by decide +kernel⟩,
   ⟨0, {}, by decide +kernel⟩,
   ⟨0, {}, by decide +kernel⟩,
   ⟨0, {}, by decide +kernel⟩,
   ⟨0, {}, by decide +kernel⟩,
   ⟨8, { regs := [((HL.TRN_STATUS_STATE 8).key, 3)], host := (vset (Vector.replicate 16 {}) 8 { power := .active }) } , by decide +kernel⟩⟩

theorem witness_prbs_blocks :
    (∃ (l : PrbsLane) (s : State), s.awake = true ∧ s.genRefused l = true) ∧
    (∃ (n : Lane) (s : State), s.awake = true ∧ carries (s.lstate n) = false) ∧
    (∃ (j : Host) (s : State), s.awake = true ∧ s.hstate j ≠ 5 ∧ s.hstate j ≠ 6) ∧
    (∃ (l : PrbsLane) (s : State), s.flag (PRBS.CTRL_CHK_EN l.base) = true) ∧
    (∃ (l : PrbsLane) (s : State), s.flag (PRBS.CTRL_CHK_EN l.base) = true) ∧
    (∃ (l : PrbsLane) (s : State), s.flag (PRBS.CTRL_CHK_EN l.base) = false) ∧
    (∃ (l : PrbsLane) (s : State), s.flag (PRBS.CTRL_CHK_EN l.base) = false) ∧
    (∃ (pat : Nat) (r : ChkRun), r.lock = false ∧ prbsLength pat ≤ r.p.chk.length ∧ r.p.run = 1023) ∧
    (∃ (r : ChkRun), r.lock = false ∧ r.p.run < 1023) ∧
    (∃ (r : ChkRun), r.lock = true ∧ r.p.blkBits < 1023 ∧ r.p.bits + 1 < 2 ^ 48 - 1 ∧ r.p.errs + 1 < 2 ^ 48 - 1) ∧
    (∃ (r : ChkRun), r.lock = true ∧ r.p.blkBits = 1023) ∧
    (∃ (l : PrbsLane) (bs : List Bool) (s : State), s.awake = true ∧ (s.prbsFeed l bs).prbs l = s.prbs l) ∧
    (∃ (s : State), s.awake = true) ∧
    (∃ (l : PrbsLane) (s : State), s.awake = true ∧ s.flag (PRBS.CTRL_GEN_EN l.base) = true) ∧
    (∃ (l : PrbsLane) (s : State), s.get (PRBS.CTRL_GEN_PAT l.base) < 6 ∧ (s.prbs l).inject = false) ∧
    (∃ (l : PrbsLane) (s : State), (s.prbs l).inject = true) :=
  ⟨⟨(.line 5), { regs := [((PORT.STATUS_STATE 0).key, 3)], port := (vset (Vector.replicate 8 {}) 0 { defined := true, lanes := 6 }) }, by decide +kernel⟩,
   ⟨0, {}, by decide +kernel⟩,
   ⟨0, {}, by decide +kernel⟩,
   ⟨(.line 5), { regs := [((PRBS.CTRL_CHK_EN 1377792).key, 1)] }, by decide +kernel⟩,
   ⟨(.line 5), { regs := [((PRBS.CTRL_CHK_EN 1377792).key, 1)] }, by decide +kernel⟩,
   ⟨(.line 5), {}, by decide +kernel⟩,
   ⟨(.line 5), {}, by decide +kernel⟩,
   ⟨0, { p := { chk := [false, false, false, false, false, false, false], run := 1023 }, lock := false, lost := 0, sat := false }, by decide +kernel⟩,
   ⟨{ p := {}, lock := false, lost := 0, sat := false }, by decide +kernel⟩,
   ⟨{ p := {}, lock := true, lost := 0, sat := false }, by decide +kernel⟩,
   ⟨{ p := { blkBits := 1023 }, lock := true, lost := 0, sat := false }, by decide +kernel⟩,
   ⟨(.line 4), [], {}, by decide +kernel⟩,
   ⟨{}, by decide +kernel⟩,
   ⟨(.host 2), { regs := [((PRBS.CTRL_GEN_EN 1606656).key, 1)] }, by decide +kernel⟩,
   ⟨(.line 5), {}, by decide +kernel⟩,
   ⟨(.line 5), { line := (vset (Vector.replicate 8 {}) 5 { prbs := { inject := true } }) } , by decide +kernel⟩⟩

theorem witness_port_bring_up :
    (∃ (k : PortId) (s : State), s.awake = true ∧ (s.pt k).defined = false) ∧
    (∃ (k : PortId) (s : State), s.awake = true ∧ (s.pt k).defined = true) ∧
    (∃ (k : PortId) (s : State), s.awake = true ∧ s.pstate k ≠ 0) ∧
    (∃ (k : PortId) (s : State), (s.pt k).defined = true ∧ s.forceCause k = none ∧ s.pstate k = 0 ∧ s.mayLeave k = true ∧ s.calDone k = true) ∧
    (∃ (k : PortId) (us : Nat) (s : State), us < 1000 * max 1 (s.get (PORT.CFG_ACQ_TMO k))) ∧
    (∃ (k : PortId) (us : Nat) (s : State), us < 1000 * max 1 (s.get (PORT.CFG2_TRAIN_TMO k))) ∧
    (∃ (k : PortId) (us : Nat) (s : State), us < 1000 * max 1 (s.get (PORT.CFG_PARTNER_TMO k))) ∧
    (∃ (k : PortId) (us : Nat) (s : State), us < 1000 * s.get (PORT.CFG_LOS_HOLD k)) ∧
    (∃ (k : PortId) (us : Nat) (s : State), s.acqLate k = true ∧ 1000 * max 1 (s.get (PORT.CFG_ACQ_TMO k)) ≤ us) ∧
    (∃ (k : PortId) (us : Nat) (s : State), s.pstate k = 3 ∧ s.flag (PORT.STATUS_LOSHOLD_RUN k) = false ∧ 1000 * max 1 (s.get (PORT.CFG2_TRAIN_TMO k)) ≤ us) ∧
    (∃ (k : PortId) (s : State), s.flag (PORT.STATUS_LOSHOLD_RUN k) = true) ∧
    (∃ (k : PortId) (s : State), ((s.pstate k = 4 ∨ s.pstate k = 6)) ∧ s.handshake k = true ∧ s.hostGen k = false ∧ s.flag (PORT.STATUS_LOSHOLD_RUN k) = false) ∧
    (∃ (k : PortId) (us : Nat) (s : State), s.handshake k = false ∧ 1000 * max 1 (s.get (PORT.CFG_PARTNER_TMO k)) ≤ us ∧ s.pstate k = 4 ∧ (s.pt k).retries < s.get (PORT.CFG_PARTNER_RETRY k)) ∧
    (∃ (k : PortId) (us : Nat) (s : State), s.handshake k = false ∧ 1000 * max 1 (s.get (PORT.CFG_PARTNER_TMO k)) ≤ us ∧ s.pstate k = 4 ∧ s.get (PORT.CFG_PARTNER_RETRY k) ≤ (s.pt k).retries ∧ s.flag (PORT.STATUS_LOSHOLD_RUN k) = false) ∧
    (∃ (k : PortId) (us : Nat) (s : State), s.handshake k = false ∧ 1000 * max 1 (s.get (PORT.CFG_PARTNER_TMO k)) ≤ us ∧ s.pstate k = 6) ∧
    (∃ (k : PortId) (us : Nat) (s : State), s.flag (PORT.STATUS_LOSHOLD_RUN k) = true ∧ s.anyLane k s.laneDark = true ∧ 1000 * s.get (PORT.CFG_LOS_HOLD k) ≤ us) ∧
    (∃ (s : State), s.awake = true) :=
  ⟨⟨0, {}, by decide +kernel⟩,
   ⟨0, { port := (vset (Vector.replicate 8 {}) 0 { defined := true }) }, by decide +kernel⟩,
   ⟨0, { regs := [((PORT.STATUS_STATE 0).key, 1)] }, by decide +kernel⟩,
   ⟨4, { regs := [((PORT.CTRL_UP 4).key, 1)], port := (vset (Vector.replicate 8 {}) 4 { defined := true }) }, by decide +kernel⟩,
   ⟨0, 0, {}, by decide +kernel⟩,
   ⟨0, 0, {}, by decide +kernel⟩,
   ⟨0, 0, {}, by decide +kernel⟩,
   ⟨0, 0, {}, by decide +kernel⟩,
   ⟨2, 30177, { regs := [((PORT.STATUS_STATE 2).key, 2)], port := (vset (Vector.replicate 8 {}) 2 { defined := true, lanes := 1 }) }, by decide +kernel⟩,
   ⟨3, 1390, { regs := [((PORT.CFG2_TRAIN_TMO 3).key, 0), ((PORT.STATUS_STATE 3).key, 3)] }, by decide +kernel⟩,
   ⟨3, { regs := [((PORT.STATUS_LOSHOLD_RUN 3).key, 1)] }, by decide +kernel⟩,
   ⟨3, { regs := [((PORT.STATUS_STATE 3).key, 4)], port := (vset (Vector.replicate 8 {}) 3 { defined := true }) }, by decide +kernel⟩,
   ⟨3, 74188, { regs := [((PORT.STATUS_STATE 3).key, 4)] }, by decide +kernel⟩,
   ⟨3, 74188, { regs := [((PORT.CFG_PARTNER_RETRY 3).key, 0), ((PORT.STATUS_STATE 3).key, 4)] }, by decide +kernel⟩,
   ⟨3, 74188, { regs := [((PORT.STATUS_STATE 3).key, 6)] }, by decide +kernel⟩,
   ⟨0, 17220, { regs := [((PORT.STATUS_LOSHOLD_RUN 0).key, 1)], port := (vset (Vector.replicate 8 {}) 0 { defined := true, lanes := 1 }) }, by decide +kernel⟩,
   ⟨{} , by decide +kernel⟩⟩

theorem witness_nap_and_wake :
    (∃ (k : PortId) (s : State), s.awake = true ∧ (s.pt k).defined = true) ∧
    (∃ (k : PortId) (s : State), s.awake = true ∧ (s.pt k).defined = false) ∧
    (∃ (k : PortId) (s : State), (s.pt k).napReq = true ∧ s.braced = false ∧ (s.allLanes k (fun n => s.get (LN.TX_STATUS_AMP_STATE n) == 0) = true) ∧ s.pstate k ≠ 7 ∧ s.pstate k < 8) ∧
    (∃ (k : PortId) (s : State), (s.pt k).napReq = false) ∧
    (∃ (k : PortId) (s : State), s.awake = true ∧ (s.pt k).defined = true ∧ s.pstate k = 7 ∧ (s.sleepReq (.nap k)).isSome = false) ∧
    (∃ (k : PortId) (w : WakeSt) (s : State), (s.pt k).wake = some w ∧ w.clocks = true ∧ s.wakeFree k = true ∧ s.get (PORT.STATUS_PRE_NAP k) ≠ s.pstate k) ∧
    (∃ (k : PortId) (run : Nat) (s : State), run < 1000 * max 1 (s.get (PORT.CFG2_WAKE_TMO k))) ∧
    (∃ (k : PortId) (run : Nat) (w : WakeSt) (s : State), (s.pt k).wake = some w ∧ ((w.fast = true ∨ (w.clocks = true ∧ s.locked k = true))) ∧ 1000 * max 1 (s.get (PORT.CFG2_WAKE_TMO k)) ≤ run) ∧
    (∃ (k : PortId) (s : State), (s.pt k).wake = some ⟨true, false⟩ ∧ s.pstate k = 2 ∧ s.forceCause k = none) ∧
    (∃ (n : Lane) (us : Nat) (s : State), us < s.settleUs n) ∧
    (∃ (n : Lane) (k : PortId) (us : Nat) (s : State), (s.ln n).loc.hsDone = true ∧ s.portOf n = some k ∧ 1000 * max 1 (s.get (PORT.CFG2_TXC_SETTLE k)) ≤ us) :=
  ⟨⟨0, { port := (vset (Vector.replicate 8 {}) 0 { defined := true }) }, by decide +kernel⟩,
   ⟨0, {}, by decide +kernel⟩,
   ⟨0, { port := (vset (Vector.replicate 8 {}) 0 { napReq := true }) }, by decide +kernel⟩,
   ⟨0, {}, by decide +kernel⟩,
   ⟨0, { regs := [((PORT.STATUS_STATE 0).key, 7)], port := (vset (Vector.replicate 8 {}) 0 { defined := true }) }, by decide +kernel⟩,
   ⟨0, { fast := true, clocks := true }, { regs := [((PORT.STATUS_STATE 0).key, 1)], port := (vset (Vector.replicate 8 {}) 0 { wake := (some { fast := true, clocks := true }) }) }, by decide +kernel⟩,
   ⟨0, 0, {}, by decide +kernel⟩,
   ⟨5, 10000, { fast := true, clocks := true }, { port := (vset (Vector.replicate 8 {}) 5 { wake := (some { fast := true, clocks := true }) }) }, by decide +kernel⟩,
   ⟨6, { regs := [((PORT.STATUS_STATE 6).key, 2)], port := (vset (Vector.replicate 8 {}) 6 { wake := (some { fast := true, clocks := false }) }) }, by decide +kernel⟩,
   ⟨0, 0, { port := (vset (Vector.replicate 8 {}) 0 { defined := true, lanes := 1 }) }, by decide +kernel⟩,
   ⟨5, 5, 32585, { line := (vset (Vector.replicate 8 {}) 5 { loc := { hsDone := true } }), port := (vset (Vector.replicate 8 {}) 5 { defined := true, lanes := 1 }) } , by decide +kernel⟩⟩

set_option maxRecDepth 20000 in
theorem witness_framing_and_windows :
    (∃ (n : Lane) (s : State), (s.ln n).power = .active) ∧
    (∃ (n : Lane) (s : State), (s.ln n).power ≠ .active) ∧
    (∃ (n : Lane) (s : State), s.hunts n = true ∧ s.flag (LN.FRM_STATUS_FRAME_LOCK n) = false ∧ s.flag (PRBS.STATUS_CHK_LOCK (PrbsLane.line n).base) = false ∧ 80 ≤ (s.ln n).loc.frmOk ∧ (s.ln n).loc.good = 1) ∧
    (∃ (n : Lane) (s : State), s.hunts n = true ∧ s.flag (LN.FRM_STATUS_FRAME_LOCK n) = false ∧ s.flag (PRBS.STATUS_CHK_LOCK (PrbsLane.line n).base) = true) ∧
    (∃ (n : Lane) (s : State), s.hunts n = true ∧ s.flag (LN.FRM_STATUS_FRAME_LOCK n) = true ∧ 42 < (s.ln n).loc.frmBad ∧ (s.ln n).loc.bad = 3) ∧
    (∃ (n : Lane) (s : State), s.hunts n = true ∧ s.flag (LN.FRM_STATUS_FRAME_LOCK n) = true ∧ (s.ln n).loc.frmBad ≤ 42) ∧
    (∃ (n : Lane) (s : State), s.hunts n = true ∧ s.flag (LN.FRM_STATUS_FRAME_LOCK n) = true ∧ (s.ln n).loc.pads.length = 640 ∧ s.flag (LN.FRM_STATUS_SF_LOCK n) = false ∧ markerDistance (s.sfMark n) ≤ 4 ∧ (s.ln n).loc.mkGood = 1 ∧ (s.ln n).loc.sfAge = 64) ∧
    (∃ (n : Lane) (s : State), s.hunts n = true ∧ s.flag (LN.FRM_STATUS_FRAME_LOCK n) = true ∧ (s.ln n).loc.pads.length = 640 ∧ s.flag (LN.FRM_STATUS_SF_LOCK n) = false ∧ markerDistance (s.sfMark n) ≤ 4 ∧ (s.ln n).loc.sfAge ≠ 64) ∧
    (∃ (n : Lane) (s : State), s.hunts n = true ∧ s.flag (LN.FRM_STATUS_FRAME_LOCK n) = true ∧ (s.ln n).loc.pads.length = 640 ∧ s.flag (LN.FRM_STATUS_SF_LOCK n) = true ∧ markerDistance (s.sfMark n) ≤ 4 ∧ crc32 (s.sfPayload n) ≠ s.sfCrc n) ∧
    (∃ (n : Lane) (s : State), s.flag (LN.FRM_STATUS_FRAME_LOCK n) = true ∧ s.flag (LN.LOC_CTRL_STATS_EN n) = false) :=
  ⟨⟨1, { line := (vset (Vector.replicate 8 {}) 1 { power := .active }) }, by decide +kernel⟩,
   ⟨0, {}, by decide +kernel⟩,
   ⟨6, { regs := [((PORT.STATUS_STATE 4).key, 2)], line := (vset (Vector.replicate 8 {}) 6 { loc := { good := 1, frmOk := 80 } }), port := (vset (Vector.replicate 8 {}) 4 { defined := true, lanes := 3 }) }, by decide +kernel⟩,
   ⟨6, { regs := [((PORT.STATUS_STATE 4).key, 2), ((PRBS.STATUS_CHK_LOCK 1443328).key, 1)], port := (vset (Vector.replicate 8 {}) 4 { defined := true, lanes := 3 }) }, by decide +kernel⟩,
   ⟨6, { regs := [((PORT.STATUS_STATE 4).key, 2), ((LN.FRM_STATUS_FRAME_LOCK 6).key, 1)], line := (vset (Vector.replicate 8 {}) 6 { loc := { bad := 3, frmBad := 43 } }), port := (vset (Vector.replicate 8 {}) 4 { defined := true, lanes := 3 }) }, by decide +kernel⟩,
   ⟨6, { regs := [((PORT.STATUS_STATE 4).key, 2), ((LN.FRM_STATUS_FRAME_LOCK 6).key, 1)], port := (vset (Vector.replicate 8 {}) 4 { defined := true, lanes := 3 }) }, by decide +kernel⟩,
   ⟨6, { regs := [((PORT.STATUS_STATE 4).key, 2), ((LN.FRM_STATUS_FRAME_LOCK 6).key, 1)], line := (vset (Vector.replicate 8 {}) 6 { loc := { mkGood := 1, pads := [false, false, false, false, false, false, false, false, false, true, false, false, true, true, true, true, true, true, true, true, true, true, false, false, false, false, false, true, true, true, false, true, false, false, false, false, false, false, false, false, false, false, false, false, false, false, false, false, false, false, false, false, false, false, false, false, false, false, false, false, false, false, false, false, false, false, false, false, false, false, false, false, false, false, false, false, false, false, false, false, false, false, false, false, false, false, false, false, false, false, false, false, false, false, false, false, false, false, false, false, false, false, false, false, false, false, false, false, false, false, false, false, false, false, false, false, false, false, false, false, false, false, false, false, false, false, false, false, false, false, false, false, false, false, false, false, false, false, false, false, false, false, false, false, false, false, false, false, false, false, false, false, false, false, false, false, false, false, false, false, false, false, false, false, false, false, false, false, false, false, false, false, false, false, false, false, false, false, false, false, false, false, false, false, false, false, false, false, false, false, false, false, false, false, false, false, false, false, false, false, false, false, false, false, false, false, false, false, false, false, false, false, false, false, false, false, false, false, false, false, false, false, false, false, false, false, false, false, false, false, false, false, false, false, false, false, false, false, false, false, false, false, false, false, false, false, false, false, false, false, false, false, false, false, false, false, false, false, false, false, false, false, false, false, false, false, false, false, false, false, false, false, false, false, false, false, false, false, false, false, false, false, false, false, false, false, false, false, false, false, false, false, false, false, false, false, false, false, false, false, false, false, false, false, false, false, false, false, false, false, false, false, false, false, false, false, false, false, false, false, false, false, false, false, false, false, false, false, false, false, false, false, false, false, false, false, false, false, false, false, false, false, false, false, false, false, false, false, false, false, false, false, false, false, false, false, false, false, false, false, false, false, false, false, false, false, false, false, false, false, false, false, false, false, false, false, false, false, false, false, false, false, false, false, false, false, false, false, false, false, false, false, false, false, false, false, false, false, false, false, false, false, false, false, false, false, false, false, false, false, false, false, false, false, false, false, false, false, false, false, false, false, false, false, false, false, false, false, false, false, false, false, false, false, false, false, false, false, false, false, false, false, false, false, false, false, false, false, false, false, false, false, false, false, false, false, false, false, false, false, false, false, false, false, false, false, false, false, false, false, false, false, false, false, false, false, false, false, false, false, false, false, false, false, false, false, false, false, false, false, false, false, false, false, false, false, false, false, false, false, false, false, false, false, false, false, false, false, false, false, false, false, false, false, false, false, false, false, false, false, false, false, false, false, false, false, false, false, false, false, false, false, false, false, false, false, false, false, false, false, false, false, false, false, false, false, false, false, false, false, false, false, false, false, false, false, false, false, false, false, false, false, false, false, false, false, false, false, false, false, false, false, false, false, false, false, false, false, false, false, false, false, false, false, false, false, false, false, false, false, false, false, false, false, false, false, false, false, false, false, false, false, false, false, false, false, false, false, false, false, false, false, false, false, false, false, false, false, false, false, false, false, false, false, false, false, false, false, false, false, false, false, false, false, false, false, false, false, false, false], sfAge := 64 } }), port := (vset (Vector.replicate 8 {}) 4 { defined := true, lanes := 3 }) }, by decide +kernel⟩,
   ⟨6, { regs := [((PORT.STATUS_STATE 4).key, 2), ((LN.FRM_STATUS_FRAME_LOCK 6).key, 1)], line := (vset (Vector.replicate 8 {}) 6 { loc := { pads := [false, false, false, false, false, false, false, false, false, true, false, false, true, true, true, true, true, true, true, true, true, true, false, false, false, false, false, true, true, true, false, true, false, false, false, false, false, false, false, false, false, false, false, false, false, false, false, false, false, false, false, false, false, false, false, false, false, false, false, false, false, false, false, false, false, false, false, false, false, false, false, false, false, false, false, false, false, false, false, false, false, false, false, false, false, false, false, false, false, false, false, false, false, false, false, false, false, false, false, false, false, false, false, false, false, false, false, false, false, false, false, false, false, false, false, false, false, false, false, false, false, false, false, false, false, false, false, false, false, false, false, false, false, false, false, false, false, false, false, false, false, false, false, false, false, false, false, false, false, false, false, false, false, false, false, false, false, false, false, false, false, false, false, false, false, false, false, false, false, false, false, false, false, false, false, false, false, false, false, false, false, false, false, false, false, false, false, false, false, false, false, false, false, false, false, false, false, false, false, false, false, false, false, false, false, false, false, false, false, false, false, false, false, false, false, false, false, false, false, false, false, false, false, false, false, false, false, false, false, false, false, false, false, false, false, false, false, false, false, false, false, false, false, false, false, false, false, false, false, false, false, false, false, false, false, false, false, false, false, false, false, false, false, false, false, false, false, false, false, false, false, false, false, false, false, false, false, false, false, false, false, false, false, false, false, false, false, false, false, false, false, false, false, false, false, false, false, false, false, false, false, false, false, false, false, false, false, false, false, false, false, false, false, false, false, false, false, false, false, false, false, false, false, false, false, false, false, false, false, false, false, false, false, false, false, false, false, false, false, false, false, false, false, false, false, false, false, false, false, false, false, false, false, false, false, false, false, false, false, false, false, false, false, false, false, false, false, false, false, false, false, false, false, false, false, false, false, false, false, false, false, false, false, false, false, false, false, false, false, false, false, false, false, false, false, false, false, false, false, false, false, false, false, false, false, false, false, false, false, false, false, false, false, false, false, false, false, false, false, false, false, false, false, false, false, false, false, false, false, false, false, false, false, false, false, false, false, false, false, false, false, false, false, false, false, false, false, false, false, false, false, false, false, false, false, false, false, false, false, false, false, false, false, false, false, false, false, false, false, false, false, false, false, false, false, false, false, false, false, false, false, false, false, false, false, false, false, false, false, false, false, false, false, false, false, false, false, false, false, false, false, false, false, false, false, false, false, false, false, false, false, false, false, false, false, false, false, false, false, false, false, false, false, false, false, false, false, false, false, false, false, false, false, false, false, false, false, false, false, false, false, false, false, false, false, false, false, false, false, false, false, false, false, false, false, false, false, false, false, false, false, false, false, false, false, false, false, false, false, false, false, false, false, false, false, false, false, false, false, false, false, false, false, false, false, false, false, false, false, false, false, false, false, false, false, false, false, false, false, false, false, false, false, false, false, false, false, false, false, false, false, false, false, false, false, false, false, false, false, false, false, false, false, false, false, false, false, false, false, false, false, false, false, false, false, false, false, false, false, false] } }), port := (vset (Vector.replicate 8 {}) 4 { defined := true, lanes := 3 }) }, by decide +kernel⟩,
   ⟨4, { regs := [((PORT.STATUS_STATE 4).key, 2), ((LN.FRM_STATUS_FRAME_LOCK 4).key, 1), ((LN.FRM_STATUS_SF_LOCK 4).key, 1)], line := (vset (Vector.replicate 8 {}) 4 { loc := { pads := [false, false, false, false, false, false, false, false, false, true, false, false, true, true, true, true, true, true, true, true, true, true, false, false, false, false, false, true, true, true, false, true, false, false, false, false, false, false, false, false, false, false, false, false, false, false, false, false, false, false, false, false, false, false, false, false, false, false, false, false, false, false, false, false, false, false, false, false, false, false, false, false, false, false, false, false, false, false, false, false, false, false, false, false, false, false, false, false, false, false, false, false, false, false, false, false, false, false, false, false, false, false, false, false, false, false, false, false, false, false, false, false, false, false, false, false, false, false, false, false, false, false, false, false, false, false, false, false, false, false, false, false, false, false, false, false, false, false, false, false, false, false, false, false, false, false, false, false, false, false, false, false, false, false, false, false, false, false, false, false, false, false, false, false, false, false, false, false, false, false, false, false, false, false, false, false, false, false, false, false, false, false, false, false, false, false, false, false, false, false, false, false, false, false, false, false, false, false, false, false, false, false, false, false, false, false, false, false, false, false, false, false, false, false, false, false, false, false, false, false, false, false, false, false, false, false, false, false, false, false, false, false, false, false, false, false, false, false, false, false, false, false, false, false, false, false, false, false, false, false, false, false, false, false, false, false, false, false, false, false, false, false, false, false, false, false, false, false, false, false, false, false, false, false, false, false, false, false, false, false, false, false, false, false, false, false, false, false, false, false, false, false, false, false, false, false, false, false, false, false, false, false, false, false, false, false, false, false, false, false, false, false, false, false, false, false, false, false, false, false, false, false, false, false, false, false, false, false, false, false, false, false, false, false, false, false, false, false, false, false, false, false, false, false, false, false, false, false, false, false, false, false, false, false, false, false, false, false, false, false, false, false, false, false, false, false, false, false, false, false, false, false, false, false, false, false, false, false, false, false, false, false, false, false, false, false, false, false, false, false, false, false, false, false, false, false, false, false, false, false, false, false, false, false, false, false, false, false, false, false, false, false, false, false, false, false, false, false, false, false, false, false, false, false, false, false, false, false, false, false, false, false, false, false, false, false, false, false, false, false, false, false, false, false, false, false, false, false, false, false, false, false, false, false, false, false, false, false, false, false, false, false, false, false, false, false, false, false, false, false, false, false, false, false, false, false, false, false, false, false, false, false, false, false, false, false, false, false, false, false, false, false, false, false, false, false, false, false, false, false, false, false, false, false, false, false, false, false, false, false, false, false, false, false, false, false, false, false, false, false, false, false, false, false, false, false, false, false, false, false, false, false, false, false, false, false, false, false, false, false, false, false, false, false, false, false, false, false, false, false, false, false, false, false, false, false, false, false, false, false, false, false, false, false, false, false, false, false, false, false, false, false, false, false, false, false, false, false, false, false, false, false, false, false, false, false, false, false, false, false, false, false, false, false, false, false, false, false, false, false, false, false, false, false, false, false, false, false, false, false, false, false, false, false, false, false, false, false, false, false, false, false, false, false, false, false, false, false, false, false, false, false, false, false, false, false, false, false, false, false] } }), port := (vset (Vector.replicate 8 {}) 4 { defined := true, lanes := 1 }) }, by decide +kernel⟩,
   ⟨4, { regs := [((LN.FRM_STATUS_FRAME_LOCK 4).key, 1), ((LN.LOC_CTRL_STATS_EN 4).key, 0)] } , by decide +kernel⟩⟩

theorem witness_overhead_received :
    (∃ (n : Lane) (tag : Byte) (lanes : Byte) (idx : Byte) (k : PortId) (s : State), s.flag (LN.FRM_STATUS_SF_LOCK n) = true ∧ (s.ln n).loc.seen.contains tag.toNat = false ∧ s.portOf n = some k ∧ ((s.pstate k = 3 ∨ s.pstate k = 4 ∨ s.pstate k = 6)) ∧ lanes.toNat = (s.pt k).lanes ∧ idx.toNat = n.val - k.val) ∧
    (∃ (n : Lane) (tag : Byte) (lanes : Byte) (k : PortId) (s : State), s.flag (LN.FRM_STATUS_SF_LOCK n) = true ∧ (s.ln n).loc.seen.contains tag.toNat = false ∧ s.portOf n = some k ∧ 3 ≤ s.pstate k ∧ s.pstate k ≤ 6 ∧ lanes.toNat ≠ (s.pt k).lanes) ∧
    (∃ (n : Lane) (tag : Byte) (lanes : Byte) (idx : Byte) (k : PortId) (s : State), s.flag (LN.FRM_STATUS_SF_LOCK n) = true ∧ (s.ln n).loc.seen.contains tag.toNat = false ∧ s.portOf n = some k ∧ ((s.pstate k = 3 ∨ s.pstate k = 4 ∨ s.pstate k = 6)) ∧ lanes.toNat = (s.pt k).lanes ∧ idx.toNat = n.val - k.val) ∧
    (∃ (n : Lane) (tag : Byte) (k : PortId) (s : State), s.flag (LN.FRM_STATUS_SF_LOCK n) = true ∧ (s.ln n).loc.seen.contains tag.toNat = false ∧ s.portOf n = some k ∧ s.pstate k = 2) ∧
    (∃ (n : Lane) (tag : Byte) (items : List TxcItem) (s : State), s.flag (LN.FRM_STATUS_SF_LOCK n) = true ∧ (s.ln n).loc.seen.contains tag.toNat = false ∧ 1 ≤ items.length ∧ items.length ≤ 6) ∧
    (∃ (n : Lane) (s : State), ((s.flag (LN.TX_CTRL_TXC_EN n) = false ∨ correctable (s.lstate n) = false))) ∧
    (∃ (n : Lane) (s : State), s.flag (LN.TX_CTRL_TXC_EN n) = true ∧ correctable (s.lstate n) = true ∧ s.txcDeferred n = true) ∧
    (∃ (n : Lane) (tag : Byte) (reqTag : Byte) (s : State), s.flag (LN.FRM_STATUS_SF_LOCK n) = true ∧ (s.ln n).loc.seen.contains tag.toNat = false ∧ (s.ln n).tx.txcOut = some reqTag.toNat) ∧
    (∃ (n : Lane) (tag : Byte) (countdown : Byte) (stepId : Byte) (s : State), s.flag (LN.FRM_STATUS_SF_LOCK n) = true ∧ (s.ln n).loc.seen.contains tag.toNat = false ∧ 2 ≤ countdown.toNat ∧ countdown.toNat ≤ 8 ∧ (s.ln n).eq.lastStep ≠ some stepId.toNat) ∧
    (∃ (n : Lane) (countdown : Byte) (s : State), s.flag (LN.FRM_STATUS_SF_LOCK n) = true ∧ ((countdown.toNat = 0 ∨ 8 < countdown.toNat))) ∧
    (∃ (n : Lane) (tag : Byte) (s : State), s.flag (LN.FRM_STATUS_SF_LOCK n) = true ∧ (s.ln n).loc.seen.contains tag.toNat = false) ∧
    (∃ (n : Lane) (tag : Byte) (s : State), s.flag (LN.FRM_STATUS_SF_LOCK n) = true ∧ tag ≠ 0 ∧ (s.ln n).loc.seen.contains tag.toNat = true) ∧
    (∃ (n : Lane) (tag : Byte) (s : State), s.flag (LN.FRM_STATUS_SF_LOCK n) = true ∧ (s.ln n).loc.seen.contains tag.toNat = false) ∧
    (∃ (n : Lane) (tag : Byte) (s : State), s.flag (LN.FRM_STATUS_SF_LOCK n) = true ∧ (s.ln n).loc.seen.contains tag.toNat = false) ∧
    (∃ (n : Lane) (type : Byte) (s : State), s.flag (LN.FRM_STATUS_SF_LOCK n) = true ∧ locKnown type.toNat = false ∧ type ≠ 0) :=
  ⟨⟨1, 0, 4, 1, 0, { regs := [((PORT.STATUS_STATE 0).key, 3), ((LN.FRM_STATUS_SF_LOCK 1).key, 1)], port := (vset (Vector.replicate 8 {}) 0 { defined := true, lanes := 4 }) }, by decide +kernel⟩,
   ⟨7, 0, 0, 0, { regs := [((PORT.STATUS_STATE 0).key, 3), ((LN.FRM_STATUS_SF_LOCK 7).key, 1)], port := (vset (Vector.replicate 8 {}) 0 { defined := true, lanes := 8 }) }, by decide +kernel⟩,
   ⟨1, 0, 4, 1, 0, { regs := [((PORT.STATUS_STATE 0).key, 3), ((LN.FRM_STATUS_SF_LOCK 1).key, 1)], port := (vset (Vector.replicate 8 {}) 0 { defined := true, lanes := 4 }) }, by decide +kernel⟩,
   ⟨0, 0, 0, { regs := [((PORT.STATUS_STATE 0).key, 2), ((LN.FRM_STATUS_SF_LOCK 0).key, 1)], port := (vset (Vector.replicate 8 {}) 0 { defined := true, lanes := 1 }) }, by decide +kernel⟩,
   ⟨1, 0, [{ kind := 0, index := 0, delta := 0 }], { regs := [((LN.FRM_STATUS_SF_LOCK 1).key, 1)] }, by decide +kernel⟩,
   ⟨0, {}, by decide +kernel⟩,
   ⟨0, { regs := [((PORT.STATUS_STATE 0).key, 3)], line := (vset (Vector.replicate 8 {}) 0 { tx := { staged := (some { tag := 0, result := 0, items := 0, values := [] }) } }), port := (vset (Vector.replicate 8 {}) 0 { defined := true, lanes := 1 }) }, by decide +kernel⟩,
   ⟨1, 0, 67, { regs := [((LN.FRM_STATUS_SF_LOCK 1).key, 1)], line := (vset (Vector.replicate 8 {}) 1 { tx := { txcOut := (some 67) } }) }, by decide +kernel⟩,
   ⟨1, 0, 2, 0, { regs := [((LN.FRM_STATUS_SF_LOCK 1).key, 1)] }, by decide +kernel⟩,
   ⟨1, 0, { regs := [((LN.FRM_STATUS_SF_LOCK 1).key, 1)] }, by decide +kernel⟩,
   ⟨6, 0, { regs := [((LN.FRM_STATUS_SF_LOCK 6).key, 1)] }, by decide +kernel⟩,
   ⟨7, 13, { regs := [((LN.FRM_STATUS_SF_LOCK 7).key, 1)], line := (vset (Vector.replicate 8 {}) 7 { loc := { seen := [13] } }) }, by decide +kernel⟩,
   ⟨6, 0, { regs := [((LN.FRM_STATUS_SF_LOCK 6).key, 1)] }, by decide +kernel⟩,
   ⟨6, 0, { regs := [((LN.FRM_STATUS_SF_LOCK 6).key, 1)] }, by decide +kernel⟩,
   ⟨6, 3, { regs := [((LN.FRM_STATUS_SF_LOCK 6).key, 1)] } , by decide +kernel⟩⟩

theorem witness_overhead_sent_and_snapshot :
    (∃ (n : Lane) (tag : Byte) (m : LocMsg) (s : State), ((s.ln n).loc.txq.find? (fun x => x.tag == tag.toNat && !x.due && s.retxInt n ≤ x.age) = some m) ∧ m.tries < s.get (LN.LOC_CTRL_RETX_MAX n)) ∧
    (∃ (n : Lane) (tag : Byte) (m : LocMsg) (s : State), ((s.ln n).loc.txq.find? (fun x => x.tag == tag.toNat && !x.due && s.retxInt n ≤ x.age) = some m) ∧ s.get (LN.LOC_CTRL_RETX_MAX n) ≤ m.tries ∧ m.type ≠ 0x80 ∧ m.type ≠ 0x10 ∧ (s.ln n).loc.helloTag ≠ some m.tag) ∧
    (∃ (n : Lane) (s : State), s.awake = true ∧ s.flag (LN.LOC_CTRL_USER_ACK n) = false) ∧
    (∃ (n : Lane) (s : State), s.awake = true ∧ s.flag (LN.LOC_CTRL_USER_ACK n) = true ∧ (s.userDrop n).txqFull n = false) ∧
    (∃ (n : Lane) (s : State), (s.flag (PRBS.CTRL_GEN_EN (PrbsLane.line n).base) = true ∨ s.lstate n = 0 ∨ s.lstate n = 7)) ∧
    (∃ (n : Lane) (s : State), s.lstate n ≠ 0 ∧ s.lstate n ≠ 7 ∧ s.flag (PRBS.CTRL_GEN_EN (PrbsLane.line n).base) = false ∧ (s.ln n).tx.dac = none ∧ (s.ln n).tx.dacQueue = []) ∧
    (∃ (s : State), s.awake = true ∧ s.flag LST.STATUS_SNAP_BUSY = false) ∧
    (∃ (s : State), s.awake = true ∧ s.flag LST.STATUS_SNAP_BUSY = true) :=
  ⟨⟨7, 0, { tag := 0, type := 128, body := [47, 33, 186, 63, 138, 184, 187, 50, 23, 49, 26, 231, 57, 238], due := false, age := 9, tries := 2 }, { regs := [((LN.LOC_CTRL_RETX_INT 7).key, 0)], line := (vset (Vector.replicate 8 {}) 7 { loc := { txq := [{ tag := 0, type := 128, body := [47, 33, 186, 63, 138, 184, 187, 50, 23, 49, 26, 231, 57, 238], due := false, age := 9, tries := 2 }] } }) }, by decide +kernel⟩,
   ⟨3, 50, { tag := 50, type := 32, body := [104, 118, 90, 36, 225, 44, 190, 126, 110, 6, 92, 28, 167, 247], due := false, age := 9, tries := 4 }, { regs := [((LN.LOC_CTRL_RETX_INT 3).key, 0)], line := (vset (Vector.replicate 8 {}) 3 { loc := { txq := [{ tag := 50, type := 32, body := [104, 118, 90, 36, 225, 44, 190, 126, 110, 6, 92, 28, 167, 247], due := false, age := 9, tries := 4 }] } }) }, by decide +kernel⟩,
   ⟨6, { regs := [((LN.LOC_CTRL_USER_ACK 6).key, 0)] }, by decide +kernel⟩,
   ⟨0, {}, by decide +kernel⟩,
   ⟨0, {}, by decide +kernel⟩,
   ⟨7, { regs := [((PORT.STATUS_STATE 7).key, 1)], port := (vset (Vector.replicate 8 {}) 7 { defined := true, lanes := 1 }) }, by decide +kernel⟩,
   ⟨{}, by decide +kernel⟩,
   ⟨{ regs := [(LST.STATUS_SNAP_BUSY.key, 1)] } , by decide +kernel⟩⟩

theorem witness_line_transmitter :
    (∃ (n : Lane) (s : State), s.awake = true ∧ s.flag (LN.TX_STATUS_SWAP_PEND n) = false ∧ magnitude (s.firOf n true) ≤ 256) ∧
    (∃ (n : Lane) (s : State), s.awake = true ∧ s.flag (LN.TX_STATUS_SWAP_PEND n) = false ∧ 256 < magnitude (s.firOf n true)) ∧
    (∃ (n : Lane) (s : State), s.slews n = false ∧ s.flag (LN.TX_STATUS_SWAP_PEND n) = true) ∧
    (∃ (n : Lane) (s : State), s.slews n = true ∧ s.flag (LN.TX_STATUS_SWAP_PEND n) = true) ∧
    (∃ (n : Lane) (s : State), s.awake = true ∧ s.flag (LN.TX_STATUS_SWAP_PEND n) = false) ∧
    (∃ (s : State), s.awake = true) ∧
    (∃ (n : Lane) (s : State), s.slews n = true) ∧
    (∃ (n : Lane) (s : State), s.slews n = false) ∧
    (∃ (n : Lane) (beats : Nat) (s : State), (s.ln n).power = .active ∧ s.get (LN.TX_STATUS_AMP_STATE n) = 1 ∧ (s.ln n).tx.demand = true ∧ 4096 ≤ (s.ln n).tx.amp + beats ∧ s.lstate n ≠ 0) ∧
    (∃ (n : Lane) (beats : Nat) (s : State), (s.ln n).power = .active ∧ s.get (LN.TX_STATUS_AMP_STATE n) = 3 ∧ (s.ln n).tx.demand = false ∧ (s.ln n).tx.amp ≤ beats ∧ s.lstate n ≠ 0) ∧
    (∃ (n : Lane) (beats : Nat) (s : State), (s.ln n).power = .active ∧ s.get (LN.TX_STATUS_AMP_STATE n) = 1 ∧ (s.ln n).tx.demand = true ∧ (s.ln n).tx.amp + beats < 4096) ∧
    (∃ (n : Lane) (beats : Nat) (s : State), (s.ln n).power = .active ∧ s.get (LN.TX_STATUS_AMP_STATE n) = 3 ∧ (s.ln n).tx.demand = false ∧ beats < (s.ln n).tx.amp) :=
  ⟨⟨0, {}, by decide +kernel⟩,
   ⟨3, { regs := [((TXT.FIRA_C_ACT 3 18).key, 257)] }, by decide +kernel⟩,
   ⟨2, { regs := [((LN.TX_STATUS_SWAP_PEND 2).key, 1)] }, by decide +kernel⟩,
   ⟨1, { regs := [((PORT.STATUS_STATE 1).key, 3), ((LN.TX_STATUS_SWAP_PEND 1).key, 1)], port := (vset (Vector.replicate 8 {}) 1 { defined := true, lanes := 1 }) }, by decide +kernel⟩,
   ⟨0, {}, by decide +kernel⟩,
   ⟨{}, by decide +kernel⟩,
   ⟨0, { regs := [((PORT.STATUS_STATE 0).key, 3)], port := (vset (Vector.replicate 8 {}) 0 { defined := true, lanes := 1 }) }, by decide +kernel⟩,
   ⟨0, {}, by decide +kernel⟩,
   ⟨7, 4096, { regs := [((PORT.STATUS_STATE 6).key, 1), ((LN.LOC_USER_TX_USER_TX 7 94).key, 1)], line := (vset (Vector.replicate 8 {}) 7 { power := .active, tx := { demand := true } }), port := (vset (Vector.replicate 8 {}) 6 { defined := true, lanes := 2 }) }, by decide +kernel⟩,
   ⟨6, 0, { regs := [((PORT.STATUS_STATE 6).key, 1), ((LN.LOC_USER_TX_USER_TX 6 94).key, 3)], line := (vset (Vector.replicate 8 {}) 6 { power := .active }), port := (vset (Vector.replicate 8 {}) 6 { defined := true, lanes := 1 }) }, by decide +kernel⟩,
   ⟨2, 0, { regs := [((LN.LOC_USER_TX_USER_TX 2 94).key, 1)], line := (vset (Vector.replicate 8 {}) 2 { power := .active, tx := { demand := true } }) }, by decide +kernel⟩,
   ⟨2, 0, { regs := [((LN.LOC_USER_TX_USER_TX 2 94).key, 3)], line := (vset (Vector.replicate 8 {}) 2 { power := .active, tx := { amp := 1 } }) } , by decide +kernel⟩⟩

theorem witness_transmit_corrections :
    (∃ (n : Lane) (s : State), s.txcSends n = true ∧ bit (s.ln n).loc.caps 0 = true ∧ (s.ln n).tx.txcOut = none ∧ s.txqFull n = false) ∧
    (∃ (n : Lane) (tag : Nat) (result : Nat) (count : Nat) (t : Fin 9) (v : Int) (s : State), (s.ln n).tx.staged = some ⟨tag, result, count, [(0, t.val, v)]⟩ ∧ result ≤ 1) ∧
    (∃ (n : Lane) (s : State), s.get (LN.TX_STATUS_AMP_STATE n) = 0) ∧
    (∃ (n : Lane) (s : State), s.get (LN.TX_STATUS_AMP_STATE n) ≠ 0 ∧ (s.ln n).tx.dac = none ∧ (s.ln n).tx.dacQueue = [] ∧ s.dacHeld n = false) ∧
    (∃ (n : Lane) (j : Fin 4) (g : BitVec 12) (o : BitVec 8) (s : State), (s.ln n).tx.dac = some (.trim j g o) ∧ (s.ln n).tx.dacNext = 0 ∧ (s.ln n).tx.dacQueue = []) :=
  ⟨⟨1, { line := (vset (Vector.replicate 8 {}) 1 { loc := { caps := 1 } }), port := (vset (Vector.replicate 8 {}) 0 { defined := true, lanes := 2 }) }, by decide +kernel⟩,
   ⟨1, 0, 0, 0, 7, (-25113), { line := (vset (Vector.replicate 8 {}) 1 { tx := { staged := (some { tag := 0, result := 0, items := 0, values := [(0, (7, (-25113)))] }) } }) }, by decide +kernel⟩,
   ⟨0, {}, by decide +kernel⟩,
   ⟨0, { regs := [((PORT.STATUS_STATE 0).key, 3), ((LN.LOC_USER_TX_USER_TX 0 94).key, 1)], line := (vset (Vector.replicate 8 {}) 0 { tx := { demand := true } }), port := (vset (Vector.replicate 8 {}) 0 { defined := true, lanes := 1 }) }, by decide +kernel⟩,
   ⟨1, 2, 205, 112, { line := (vset (Vector.replicate 8 {}) 1 { tx := { dac := (some (.trim 2 0x0cd#12 0x70#8)) } }) } , by decide +kernel⟩⟩

theorem witness_line_equaliser :
    (∃ (n : Lane) (s : State), (s.ln n).eq.ramp = none ∧ s.get (LN.EQ_GUARD_GUARD_FAIL n) ≠ 0 ∧ s.get (LN.EQ_GUARD_GUARD_FAIL n) ≤ (s.ln n).eq.guardFails) ∧
    (∃ (n : Lane) (s : State), (s.ln n).eq.ramp = none ∧ ((s.get (LN.EQ_GUARD_GUARD_FAIL n) = 0 ∨ (s.ln n).eq.guardFails < s.get (LN.EQ_GUARD_GUARD_FAIL n)))) ∧
    (∃ (n : Lane) (s : State), (s.ln n).eq.boostPend = some 0 ∧ s.get (LN.EQ_STEP_BOOST_WIN n) ≠ 0) ∧
    (∃ (n : Lane) (s : State), (s.ln n).eq.boostPend = some 0 ∧ s.get (LN.EQ_STEP_BOOST_WIN n) = 0) ∧
    (∃ (n : Lane) (s : State), (s.ln n).eq.boostPend ≠ some 0) ∧
    (∃ (n : Lane) (s : State), (s.ln n).eq.boostLeft = 0) ∧
    (∃ (n : Lane) (s : State), (s.ln n).eq.boostLeft ≠ 0) ∧
    (∃ (n : Lane) (us : Nat) (s : State), 1536 * (s.ln n).eq.locFreeze ≤ 1000 * us) ∧
    (∃ (n : Lane) (us : Nat) (s : State), 1000 * us < 1536 * (s.ln n).eq.locFreeze) ∧
    (∃ (n : Lane) (s : State), s.modeBusy n = false ∧ s.modeNext n = some .pass ∧ s.wantPasses n = true) ∧
    (∃ (n : Lane) (s : State), s.modeBusy n = false ∧ s.modeNext n = some .pass ∧ s.wantPasses n = false) ∧
    (∃ (n : Lane) (s : State), s.modeBusy n = false ∧ s.modeNext n = some .states ∧ s.want16 n = true) ∧
    (∃ (n : Lane) (s : State), s.modeBusy n = false ∧ s.modeNext n = some .volt ∧ s.wantVolt n = false) ∧
    (∃ (n : Lane) (s : State), (s.ln n).eq.passStart = true) ∧
    (∃ (n : Lane) (r : Ramp) (s : State), (s.ln n).eq.passStart = false ∧ (s.ln n).eq.ramp = some r ∧ s.rampDone n r = true ∧ r.reverse = false) ∧
    (∃ (n : Lane) (rest : List ShedStep) (s : State), (s.ln n).eq.shedAsk = .volt :: rest) ∧
    (∃ (n : Lane) (step : ShedStep) (rest : List ShedStep) (s : State), (s.ln n).eq.shedAsk = step :: rest ∧ step ≠ .volt ∧ s.shedMatters n step = true ∧ s.get (LN.EQ_GUARD_SHED_MARGIN n) ≠ 0 ∧ (s.ln n).loc.winSinceLock = true ∧ s.shedOver n step (s.get (LN.DEC_WIN0_BITERR_LAST n) + 4 * s.get (LN.DEC_WIN1_FAIL_LAST n)) 453336960 = true) :=
  ⟨⟨0, { line := (vset (Vector.replicate 8 {}) 0 { eq := { guardFails := 8 } }) }, by decide +kernel⟩,
   ⟨0, {}, by decide +kernel⟩,
   ⟨0, { line := (vset (Vector.replicate 8 {}) 0 { eq := { boostPend := (some 0) } }) }, by decide +kernel⟩,
   ⟨0, { regs := [((LN.EQ_STEP_BOOST_WIN 0).key, 0)], line := (vset (Vector.replicate 8 {}) 0 { eq := { boostPend := (some 0) } }) }, by decide +kernel⟩,
   ⟨0, {}, by decide +kernel⟩,
   ⟨0, {}, by decide +kernel⟩,
   ⟨1, { line := (vset (Vector.replicate 8 {}) 1 { eq := { boostLeft := 1 } }) }, by decide +kernel⟩,
   ⟨0, 0, {}, by decide +kernel⟩,
   ⟨0, 0, { line := (vset (Vector.replicate 8 {}) 0 { eq := { locFreeze := 1 } }) }, by decide +kernel⟩,
   ⟨0, { regs := [((LN.EQ_STATUS_LAT_CLASS 0).key, 1)] }, by decide +kernel⟩,
   ⟨6, { regs := [((LN.EQ_STATUS_EFF_PASSES 6).key, 1)] }, by decide +kernel⟩,
   ⟨0, {}, by decide +kernel⟩,
   ⟨6, { regs := [((LN.EQ_STATUS_EFF_VOLT 6).key, 1), ((LN.EQ_STATUS_SHED_HELD 6).key, 4)] }, by decide +kernel⟩,
   ⟨1, { line := (vset (Vector.replicate 8 {}) 1 { eq := { passStart := true } }) }, by decide +kernel⟩,
   ⟨6, { volt := true, ballast := true, reverse := false, saved := [], beats := 162 }, { line := (vset (Vector.replicate 8 {}) 6 { eq := { ramp := (some { volt := true, ballast := true, reverse := false, saved := [], beats := 162 }) } }) }, by decide +kernel⟩,
   ⟨7, [.volt, .states], { line := (vset (Vector.replicate 8 {}) 7 { eq := { shedAsk := [.volt, .volt, .states] } }) }, by decide +kernel⟩,
   ⟨2, .pass, [.pass], { regs := [((LN.EQ_STATUS_EFF_PASSES 2).key, 1), ((LN.FRM_STATUS_FRAME_LOCK 2).key, 1), ((LN.DEC_WIN0_BITERR_LAST 2).key, 2096958)], line := (vset (Vector.replicate 8 {}) 2 { eq := { shedAsk := [.pass, .pass] }, loc := { winSinceLock := true } }) } , by decide +kernel⟩⟩

theorem witness_calibration_slots :
    (∃ (n : Lane) (k : Nat) (us : Nat) (rest : List Nat) (s : State), s.calRuns n = true ∧ s.calToken n = true ∧ 1000 * s.get CAL.TEMP_ROT_GAP ≤ us ∧ (s.ln n).cal.phase = none ∧ s.flag CAL.CTRL_BG_EN = true ∧ s.flag (CAL.LANE_STATUS_REFRESH_PEND n) = false ∧ s.get (CAL.LANE_STATUS_MODE n) ≠ 4 ∧ s.runLeft n = k :: rest ∧ s.flag (CAL.LANE_STATUS_SPARE_USED n) = false ∧ k < 64) ∧
    (∃ (n : Lane) (us : Nat) (s : State), ((s.calRuns n = false ∨ s.calToken n = false ∨
    (s.get (CAL.LANE_STATUS_MODE n) ≠ 4 ∧ us < 1000 * s.get CAL.TEMP_ROT_GAP)))) ∧
    (∃ (n : Lane) (s : State), (s.ln n).cal.phase = some .shadowIn ∧ s.flag (LN.RX_STATUS_DCR_BUSY n) = false ∧ (s.ln n).cal.slot ≠ 64) ∧
    (∃ (n : Lane) (s : State), (s.ln n).cal.phase = some .shadowIn ∧ s.flag (LN.RX_STATUS_DCR_BUSY n) = true) ∧
    (∃ (n : Lane) (gain : Int) (off : Int) (skew : Int) (bw : Int) (s : State), (s.ln n).cal.phase = some .reference ∧ s.braced = false ∧ (s.ln n).cal.slot ≠ 64 ∧ s.slice n ((s.ln n).cal.slot) = 2 ∧ s.sliceFrozen n ((s.ln n).cal.slot) = false ∧ s.plausible 0 gain = true ∧ s.plausible 1 off = true ∧ s.plausible 2 skew = true ∧ s.plausible 3 bw = true) ∧
    (∃ (n : Lane) (s : State), (s.ln n).cal.phase = some .shadowOut ∧ s.flag (LN.RX_STATUS_DCR_BUSY n) = false ∧ (s.ln n).cal.slot ≠ 64) ∧
    (∃ (n : Lane) (s : State), (s.runLeft n).filter (· != (s.ln n).cal.slot) = [] ∧ s.get (CAL.LANE_STATUS_MODE n) ≠ 3 ∧ (s.ln n).cal.todo = [(s.ln n).cal.slot]) ∧
    (∃ (n : Lane) (s : State), (s.ln n).cal.phase = some .inService ∧ s.braced = false ∧ (s.ln n).cal.slotAcc.n = 0) ∧
    (∃ (n : Lane) (s : State), (s.ln n).cal.phase = some .inService ∧ s.braced = false ∧ (s.ln n).cal.slotAcc.n ≠ 0) ∧
    (∃ (v : Int) (s : State), s.plausible 0 v = false) ∧
    (∃ (n : Lane) (s : State), (s.ln n).rx.stepFrom = none) ∧
    (∃ (n : Lane) (h : Nat) (s : State), (s.ln n).rx.stepFrom = some h) :=
  ⟨⟨1, 24, 25510, [1, 61215], { regs := [((PORT.STATUS_STATE 0).key, 3)], line := (vset (Vector.replicate 8 {}) 1 { cal := { todo := [24, 1, 61215] } }), port := (vset (Vector.replicate 8 {}) 0 { defined := true, lanes := 2 }) }, by decide +kernel⟩,
   ⟨0, 0, {}, by decide +kernel⟩,
   ⟨1, { line := (vset (Vector.replicate 8 {}) 1 { cal := { phase := (some .shadowIn) } }) }, by decide +kernel⟩,
   ⟨2, { regs := [((LN.RX_STATUS_DCR_BUSY 2).key, 1)], line := (vset (Vector.replicate 8 {}) 2 { cal := { phase := (some .shadowIn) } }) }, by decide +kernel⟩,
   ⟨1, 16196, 0, 0, 0, { regs := [((SLC.W0_STATE 1 0).key, 2)], line := (vset (Vector.replicate 8 {}) 1 { cal := { phase := (some .reference) } }) }, by decide +kernel⟩,
   ⟨1, { line := (vset (Vector.replicate 8 {}) 1 { cal := { phase := (some .shadowOut) } }) }, by decide +kernel⟩,
   ⟨0, { line := (vset (Vector.replicate 8 {}) 0 { cal := { todo := [0] } }) }, by decide +kernel⟩,
   ⟨1, { line := (vset (Vector.replicate 8 {}) 1 { cal := { phase := (some .inService) } }) }, by decide +kernel⟩,
   ⟨1, { line := (vset (Vector.replicate 8 {}) 1 { cal := { slotAcc := { n := 1 }, phase := (some .inService) } }) }, by decide +kernel⟩,
   ⟨0, {}, by decide +kernel⟩,
   ⟨0, {}, by decide +kernel⟩,
   ⟨6, 253, { line := (vset (Vector.replicate 8 {}) 6 { rx := { stepFrom := (some 253) } }) } , by decide +kernel⟩⟩

theorem witness_calibration_runs :
    (∃ (n : Lane) (s : State), ((s.ln n).power ≠ .active ∨ (s.ln n).cal.winFrames < s.winLength)) ∧
    (∃ (n : Lane) (s : State), (s.ln n).power = .active ∧ s.winLength ≤ (s.ln n).cal.winFrames ∧ s.windowOk n = false) ∧
    (∃ (n : Lane) (s : State), (s.ln n).power = .active ∧ s.winLength ≤ (s.ln n).cal.winFrames ∧ s.windowOk n = true) ∧
    (∃ (n : Lane) (s : State), s.flag CAL.CTRL_REFINE_EN = false ∧ (s.ln n).cal.phase ≠ some .inService) ∧
    (∃ (n : Lane) (i : Fin 65) (a : SliceAcc) (s : State), s.flag CAL.CTRL_REFINE_EN = true ∧ (s.ln n).cal.phase ≠ some .inService ∧ s.slice n i = 0 ∧ ((assocFind (s.ln n).cal.acc i).getD {}).n + a.n < s.refineN) ∧
    (∃ (cur : WinSym), cur.x.sat = true) ∧
    (∃ (w : WinRun), w.hc.length = 16) ∧
    (∃ (n : Lane) (i : Fin 65) (a : SliceAcc) (s : State), assocFind (s.ln n).cal.acc i = some a ∧ s.flag CAL.CTRL_REFINE_EN = true ∧ s.slice n i = 0 ∧ s.refineN ≤ a.n ∧ s.braced = false ∧ (s.ln n).cal.quiesced = false) ∧
    (∃ (n : Lane) (j : Fin 4) (gain : Int) (off : Int) (s : State), s.flag CAL.CTRL_DACBG_EN = true ∧ s.calRuns n = true ∧ (s.ln n).cal.dacStop = false ∧ s.calToken n = true ∧ (s.get (CAL.DTRIM_DGAIN n j) : Int) ≠ gain ∧ (gain - s.get (CAL.DTRIM_DGAIN n j)).natAbs ≤ 4 ∧ (off - s.geti (CAL.DTRIM_DOFF n j)).natAbs ≤ 4 ∧ (gain - 0x800).natAbs ≤ min 0xCD (s.get CAL.LIMIT3_DGAIN_DEV) ∧ off.natAbs ≤ min 0x7F (s.get CAL.LIMIT3_DOFF_LIM) ∧ s.rejRun n (0x50 + j) 4 < 3 ∧ s.rejRun n (0x50 + j) 5 < 3 ∧ (((s.ln n).cal.dacCancelled = true ∨ max 0x40 (s.get CAL.REFINE_DAC_INT) ≤ (s.ln n).cal.trimAge))) ∧
    (∃ (n : Lane) (slices : List (Fin 65 × List Int)) (trims : List (Fin 4 × Int × Int)) (skews : List (Fin 4 × Int)) (s : State), s.get (CAL.LANE_STATUS_MODE n) = 1 ∧ s.braced = false ∧ (foregroundWhole (slices.map (fun p => (p.1.val, p.2))) (trims.map (fun p => (p.1.val, p.2))) (skews.map (fun p => (p.1.val, p.2))) = true)) ∧
    (∃ (slices : List (Fin 65 × List Int)) (trims : List (Fin 4 × Int × Int)) (skews : List (Fin 4 × Int)), (foregroundWhole (slices.map (fun p => (p.1.val, p.2))) (trims.map (fun p => (p.1.val, p.2))) (skews.map (fun p => (p.1.val, p.2))) = false)) ∧
    (∃ (n : Lane) (meas : List (Fin 65 × Int × Int)) (s : State), s.get (CAL.LANE_STATUS_MODE n) = 2 ∧ s.braced = false ∧ ((List.range 65).all (fun i => meas.any (fun m => m.1.val == i && (m.2.2 - s.sliceGet n i 1).natAbs ≤ 64 && decide (200 * (m.2.1 - s.sliceGet n i 0).natAbs ≤ (s.sliceGet n i 0).natAbs))) = false)) ∧
    (∃ (n : Lane) (meas : List (Fin 65 × Int × Int)) (s : State), s.get (CAL.LANE_STATUS_MODE n) = 2 ∧ s.braced = false ∧ ((List.range 65).all (fun i => meas.any (fun m => m.1.val == i && (m.2.2 - s.sliceGet n i 1).natAbs ≤ 64 && decide (200 * (m.2.1 - s.sliceGet n i 0).natAbs ≤ (s.sliceGet n i 0).natAbs))) = true)) ∧
    (∃ (n : Lane) (s : State), s.flag (CAL.LANE_STATUS_REFRESH_PEND n) = true ∧ s.get (CAL.LANE_STATUS_MODE n) ≠ 4 ∧ (s.ln n).cal.phase = none ∧ s.calRuns n = true ∧ s.calToken n = true) ∧
    (∃ (n : Lane) (s : State), s.get (CAL.LANE_STATUS_MODE n) = 4 ∧ (s.ln n).cal.phase = none ∧ s.runLeft n = []) ∧
    (∃ (s : State), s.awake = true) ∧
    (∃ (s : State), s.awake = true) :=
  ⟨⟨0, {}, by decide +kernel⟩,
   ⟨0, { line := (vset (Vector.replicate 8 {}) 0 { power := .active, cal := { winFrames := 16 } }) }, by decide +kernel⟩,
   ⟨0, { regs := [((PORT.STATUS_STATE 0).key, 3), ((LN.FRM_STATUS_FRAME_LOCK 0).key, 1)], line := (vset (Vector.replicate 8 {}) 0 { power := .active, cal := { winDirty := false, winFrames := 16 } }), port := (vset (Vector.replicate 8 {}) 0 { defined := true, lanes := 1 }) }, by decide +kernel⟩,
   ⟨0, { regs := [(CAL.CTRL_REFINE_EN.key, 0)] }, by decide +kernel⟩,
   ⟨3, 21, {}, { regs := [((SLC.W0_STATE 3 21).key, 0)] }, by decide +kernel⟩,
   ⟨{ a := none, x := { sat := true } }, by decide +kernel⟩,
   ⟨{ hc := (List.replicate 16 0), past := [], taken := [] }, by decide +kernel⟩,
   ⟨0, 58, { gn := 16, pw := (-5), sk := (-7), bw := 18, hp := 229, n := 33554432 }, { regs := [((SLC.W0_STATE 0 58).key, 0)], line := (vset (Vector.replicate 8 {}) 0 { cal := { acc := [(58, { gn := 16, pw := (-5), sk := (-7), bw := 18, hp := 229, n := 33554432 })] } }) }, by decide +kernel⟩,
   ⟨0, 0, 2049, 0, { regs := [((PORT.STATUS_STATE 0).key, 3)], port := (vset (Vector.replicate 8 {}) 0 { defined := true, lanes := 1 }) }, by decide +kernel⟩,
   ⟨1, [(0, [0, 0, 0, 0]), (1, [0, 0, 0, 0]), (2, [0, 0, 0, 0]), (3, [0, 0, 0, 0]), (4, [0, 0, 0, 0]), (5, [0, 0, 0, 0]), (6, [0, 0, 0, 0]), (7, [0, 0, 0, 0]), (8, [0, 0, 0, 0]), (9, [0, 0, 0, 0]), (10, [0, 0, 0, 0]), (11, [0, 0, 0, 0]), (12, [0, 0, 0, 0]), (13, [0, 0, 0, 0]), (14, [0, 0, 0, 0]), (15, [0, 0, 0, 0]), (16, [0, 0, 0, 0]), (17, [0, 0, 0, 0]), (18, [0, 0, 0, 0]), (19, [0, 0, 0, 0]), (20, [0, 0, 0, 0]), (21, [0, 0, 0, 0]), (22, [0, 0, 0, 0]), (23, [0, 0, 0, 0]), (24, [0, 0, 0, 0]), (25, [0, 0, 0, 0]), (26, [0, 0, 0, 0]), (27, [0, 0, 0, 0]), (28, [0, 0, 0, 0]), (29, [0, 0, 0, 0]), (30, [0, 0, 0, 0]), (31, [0, 0, 0, 0]), (32, [0, 0, 0, 0]), (33, [0, 0, 0, 0]), (34, [0, 0, 0, 0]), (35, [0, 0, 0, 0]), (36, [0, 0, 0, 0]), (37, [0, 0, 0, 0]), (38, [0, 0, 0, 0]), (39, [0, 0, 0, 0]), (40, [0, 0, 0, 0]), (41, [0, 0, 0, 0]), (42, [0, 0, 0, 0]), (43, [0, 0, 0, 0]), (44, [0, 0, 0, 0]), (45, [0, 0, 0, 0]), (46, [0, 0, 0, 0]), (47, [0, 0, 0, 0]), (48, [0, 0, 0, 0]), (49, [0, 0, 0, 0]), (50, [0, 0, 0, 0]), (51, [0, 0, 0, 0]), (52, [0, 0, 0, 0]), (53, [0, 0, 0, 0]), (54, [0, 0, 0, 0]), (55, [0, 0, 0, 0]), (56, [0, 0, 0, 0]), (57, [0, 0, 0, 0]), (58, [0, 0, 0, 0]), (59, [0, 0, 0, 0]), (60, [0, 0, 0, 0]), (61, [0, 0, 0, 0]), (62, [0, 0, 0, 0]), (63, [0, 0, 0, 0]), (64, [0, 0, 0, 0])], [(0, (0, 0)), (1, (0, 0)), (2, (0, 0)), (3, (0, 0))], [(0, 0), (1, 0), (2, 0), (3, 0)], { regs := [((CAL.LANE_STATUS_MODE 1).key, 1)] }, by decide +kernel⟩,
   ⟨[], [], [], by decide +kernel⟩,
   ⟨1, [], { regs := [((CAL.LANE_STATUS_MODE 1).key, 2)] }, by decide +kernel⟩,
   ⟨1, [(0, (16303, 0)), (1, (16303, 0)), (2, (16303, 0)), (3, (16303, 0)), (4, (16303, 0)), (5, (16303, 0)), (6, (16303, 0)), (7, (16303, 0)), (8, (16303, 0)), (9, (16303, 0)), (10, (16303, 0)), (11, (16303, 0)), (12, (16303, 0)), (13, (16303, 0)), (14, (16303, 0)), (15, (16303, 0)), (16, (16303, 0)), (17, (16303, 0)), (18, (16303, 0)), (19, (16303, 0)), (20, (16303, 0)), (21, (16303, 0)), (22, (16303, 0)), (23, (16303, 0)), (24, (16303, 0)), (25, (16303, 0)), (26, (16303, 0)), (27, (16303, 0)), (28, (16303, 0)), (29, (16303, 0)), (30, (16303, 0)), (31, (16303, 0)), (32, (16303, 0)), (33, (16303, 0)), (34, (16303, 0)), (35, (16303, 0)), (36, (16303, 0)), (37, (16303, 0)), (38, (16303, 0)), (39, (16303, 0)), (40, (16303, 0)), (41, (16303, 0)), (42, (16303, 0)), (43, (16303, 0)), (44, (16303, 0)), (45, (16303, 0)), (46, (16303, 0)), (47, (16303, 0)), (48, (16303, 0)), (49, (16303, 0)), (50, (16303, 0)), (51, (16303, 0)), (52, (16303, 0)), (53, (16303, 0)), (54, (16303, 0)), (55, (16303, 0)), (56, (16303, 0)), (57, (16303, 0)), (58, (16303, 0)), (59, (16303, 0)), (60, (16303, 0)), (61, (16303, 0)), (62, (16303, 0)), (63, (16303, 0)), (64, (16303, 0))], { regs := [((CAL.LANE_STATUS_MODE 1).key, 2)] }, by decide +kernel⟩,
   ⟨1, { regs := [((PORT.STATUS_STATE 0).key, 3), ((CAL.LANE_STATUS_REFRESH_PEND 1).key, 1)], port := (vset (Vector.replicate 8 {}) 0 { defined := true, lanes := 2 }) }, by decide +kernel⟩,
   ⟨1, { regs := [((CAL.LANE_STATUS_MODE 1).key, 4)] }, by decide +kernel⟩,
   ⟨{}, by decide +kernel⟩,
   ⟨{} , by decide +kernel⟩⟩

theorem witness_protection_tokens :
    (∃ (k : PortId) (m : PortId) (s : State), s.flag (CAL.PAIR_PAIRED k) = true ∧ s.bitOf CAL.TOKEN_STATUS_HELD k = false ∧ s.bitOf CAL.TOKEN_STATUS_WAITING k = false ∧ s.pairMate k = some m) ∧
    (∃ (k : PortId) (s : State), s.grantable k = true ∧ ((s.lanesOf k).any (fun n => (s.ln n).cal.quiesced) = false)) ∧
    (∃ (k : PortId) (s : State), s.grantable k = true ∧ ((s.lanesOf k).any (fun n => (s.ln n).cal.quiesced) = true) ∧ s.bitOf CAL.TOKEN_STATUS_HELD k = false) ∧
    (∃ (k : PortId) (s : State), s.grantable k = false) ∧
    (∃ (k : PortId) (s : State), s.bitOf CAL.TOKEN_STATUS_HELD k = true) ∧
    (∃ (k : PortId) (s : State), s.bitOf CAL.TOKEN_STATUS_HELD k = true) ∧
    (∃ (pair : Fin 64) (s : State), (s.tth.remote.any (fun r => r.1 == pair.val && r.2.2) = true)) ∧
    (∃ (p : Fin 2) (member : Fin 4) (pair : Fin 64) (s : State), s.linkUp p = true ∧ s.isAnchor = true ∧ (s.tth.remote.any (fun r => r.1 == pair.val && r.2.1 == member.val) = false)) ∧
    (∃ (p : Fin 2) (s : State), s.linkUp p = true ∧ s.isAnchor = true) ∧
    (∃ (p : Fin 2) (s : State), s.linkUp p = true ∧ s.linkUp 0 = true ∧ s.isAnchor = false) ∧
    (∃ (p : Fin 2) (member : Fin 4) (pair : Fin 64) (k : PortId) (s : State), s.linkUp p = true ∧ s.isAnchor = false ∧ member.val = s.stackId ∧ ((List.finRange 8).find? (fun (k : PortId) => s.bitOf CAL.TOKEN_STATUS_WAITING k.val && s.get (CAL.PAIR_PAIR_ID k.val) == pair.val) = some k)) :=
  ⟨⟨1, 6, { regs := [((CAL.PAIR_PAIRED 1).key, 1), ((CAL.PAIR_PAIRED 6).key, 1)] }, by decide +kernel⟩,
   ⟨1, { regs := [(CAL.TOKEN_STATUS_WAITING.key, 2), (TTH.STATUS_ROLE.key, 1)] }, by decide +kernel⟩,
   ⟨1, { regs := [(CAL.TOKEN_STATUS_WAITING.key, 2), (TTH.STATUS_ROLE.key, 1)], line := (vset (Vector.replicate 8 {}) 1 { cal := { quiesced := true } }), port := (vset (Vector.replicate 8 {}) 1 { defined := true, lanes := 1 }) }, by decide +kernel⟩,
   ⟨0, {}, by decide +kernel⟩,
   ⟨0, { regs := [((CAL.PAIR_PAIR_ID 8).key, 1)] }, by decide +kernel⟩,
   ⟨0, { regs := [((CAL.PAIR_PAIR_ID 8).key, 1)] }, by decide +kernel⟩,
   ⟨0, { tth := { remote := [(0, (0, true))] } }, by decide +kernel⟩,
   ⟨1, 0, 0, { regs := [(TTH.STATUS_ROLE.key, 1), (TTH.STATUS_DOWN_LINK.key, 1)] }, by decide +kernel⟩,
   ⟨1, { regs := [(TTH.STATUS_ROLE.key, 1), (TTH.STATUS_DOWN_LINK.key, 1)] }, by decide +kernel⟩,
   ⟨0, { regs := [(TTH.STATUS_UP_LINK.key, 1)] }, by decide +kernel⟩,
   ⟨0, 2, 5, 3, { regs := [((CAL.PAIR_PAIR_ID 3).key, 5), (CAL.TOKEN_STATUS_WAITING.key, 8), (TTH.STATUS_ID.key, 2), (TTH.STATUS_UP_LINK.key, 1)] } , by decide +kernel⟩⟩

theorem witness_tether_links :
    (∃ (p : Fin 2) (hs : List (BitVec 2)) (s : State), s.tthRuns p = true ∧ hdrsLock hs = false) ∧
    (∃ (p : Fin 2) (s : State), s.tthRuns p = false) ∧
    (∃ (p : Fin 2) (good : List Bool) (s : State), s.tthRuns p = true ∧ good.length = 64) ∧
    (∃ (p : Fin 2) (hs : List (BitVec 2)) (s : State), s.tthRuns p = true ∧ (s.tp p).lock = true ∧ hs.length = 64 ∧ hs.count 0 + hs.count 3 < 16) ∧
    (∃ (p : Fin 2) (hs : List (BitVec 2)) (s : State), s.tthRuns p = true ∧ (s.tp p).lock = true ∧ hs.length = 64 ∧ 16 ≤ hs.count 0 + hs.count 3) ∧
    (∃ (us : Nat), us < 10000) ∧
    (∃ (p : Fin 2) (us : Nat) (s : State), s.tthRuns p = true ∧ s.linkUp p = false ∧ 10000 ≤ us) ∧
    (∃ (id : Fin 4) (s : State), s.tthRuns 1 = true ∧ (s.tp 1).lock = true ∧ id.val ≠ s.stackId + 1) ∧
    (∃ (id : Fin 4) (s : State), s.tthRuns 1 = true ∧ (s.tp 1).lock = true ∧ id.val = s.stackId + 1 ∧ s.isAnchor = true ∧ s.linkUp 1 = true) ∧
    (∃ (s : State), s.linkUp 1 = true ∧ s.isAnchor = true) ∧
    (∃ (m : AlmMsg) (q : List AlmMsg) (s : State), s.linkUp 0 = true ∧ s.tth.almQ = m :: q) ∧
    (∃ (p : Fin 2) (s : State), s.linkUp p = true ∧ s.linkUp (otherPort p) = true) ∧
    (∃ (v : BitVec 48) (s : State), s.isAnchor = false ∧ s.linkUp 0 = true ∧ s.linkUp 1 = false ∧ s.now < v.toNat) ∧
    (∃ (v : BitVec 48) (s : State), s.isAnchor = false ∧ s.linkUp 0 = true ∧ s.linkUp 1 = true ∧ v.toNat ≤ s.now) ∧
    (∃ (us : Nat), us < 1000000) ∧
    (∃ (us : Nat) (s : State), 1000000 ≤ us ∧ s.isAnchor = true ∧ s.linkUp 1 = true) ∧
    (∃ (p : Fin 2) (target : Fin 4) (s : State), s.linkUp p = true ∧ target.val = s.stackId) ∧
    (∃ (s : State), s.linkUp 1 = true ∧ s.linkUp 0 = true ∧ s.isAnchor = false) ∧
    (∃ (d : Fin 4) (s : State), s.linkUp 1 = true ∧ s.isAnchor = true ∧ d ≠ 0) ∧
    (∃ (s : State), s.linkUp 0 = true ∧ s.isAnchor = false) ∧
    (∃ (s : State), s.awake = true ∧ s.variant = true) ∧
    (∃ (s : State), s.awake = true ∧ s.variant = true ∧ s.isAnchor = true) ∧
    (∃ (s : State), s.variant = true) :=
  ⟨⟨0, [], { regs := [(TTH.STATUS_ID.key, 1)] }, by decide +kernel⟩,
   ⟨0, {}, by decide +kernel⟩,
   ⟨0, [false, false, false, false, false, false, false, false, false, false, false, false, false, false, false, false, false, false, false, false, false, false, false, false, false, false, false, false, false, false, false, false, false, false, false, false, false, false, false, false, false, false, false, false, false, false, false, false, false, false, false, false, false, false, false, false, false, false, false, false, false, false, false, false], { regs := [(TTH.STATUS_ID.key, 1)] }, by decide +kernel⟩,
   ⟨0, [0, 0, 0, 0, 0, 0, 0, 0, 0, 1, 1, 1, 1, 0, 1, 1, 1, 1, 0, 1, 1, 1, 1, 1, 1, 1, 0, 1, 1, 1, 1, 1, 1, 1, 1, 0, 1, 1, 1, 0, 1, 1, 1, 1, 1, 1, 1, 1, 1, 1, 1, 1, 0, 1, 1, 1, 1, 1, 1, 1, 1, 1, 1, 1], { regs := [(TTH.STATUS_ID.key, 1)], tth := { up := { lock := true } } }, by decide +kernel⟩,
   ⟨0, (List.replicate 64 0), { regs := [(TTH.STATUS_ID.key, 1)], tth := { up := { lock := true } } }, by decide +kernel⟩,
   ⟨0, by decide +kernel⟩,
   ⟨0, 14998, { regs := [(TTH.STATUS_ID.key, 1)] }, by decide +kernel⟩,
   ⟨0, { regs := [(TTH.STATUS_ID.key, 1)], tth := { down := { lock := true } } }, by decide +kernel⟩,
   ⟨1, { regs := [(TTH.STATUS_ROLE.key, 1), (TTH.STATUS_DOWN_LINK.key, 1)], tth := { down := { lock := true } } }, by decide +kernel⟩,
   ⟨{ regs := [(TTH.STATUS_ROLE.key, 1), (TTH.STATUS_DOWN_LINK.key, 1)] }, by decide +kernel⟩,
   ⟨{ stack := 2575936478, id := 1138015382, inst := 27, active := false, unacked := true, count := 6, code := 49 }, [], { regs := [(TTH.STATUS_UP_LINK.key, 1)], tth := { almQ := [{ stack := 2575936478, id := 1138015382, inst := 27, active := false, unacked := true, count := 6, code := 49 }] } }, by decide +kernel⟩,
   ⟨0, { regs := [(TTH.STATUS_UP_LINK.key, 1), (TTH.STATUS_DOWN_LINK.key, 1)] }, by decide +kernel⟩,
   ⟨1, { regs := [(TTH.STATUS_UP_LINK.key, 1)] }, by decide +kernel⟩,
   ⟨0, { regs := [(TTH.STATUS_UP_LINK.key, 1), (TTH.STATUS_DOWN_LINK.key, 1)] }, by decide +kernel⟩,
   ⟨0, by decide +kernel⟩,
   ⟨1000000, { regs := [(TTH.STATUS_ROLE.key, 1), (TTH.STATUS_DOWN_LINK.key, 1)] }, by decide +kernel⟩,
   ⟨1, 0, { regs := [(TTH.STATUS_DOWN_LINK.key, 1)] }, by decide +kernel⟩,
   ⟨{ regs := [(TTH.STATUS_UP_LINK.key, 1), (TTH.STATUS_DOWN_LINK.key, 1)] }, by decide +kernel⟩,
   ⟨1, { regs := [(TTH.STATUS_ROLE.key, 1), (TTH.STATUS_DOWN_LINK.key, 1)] }, by decide +kernel⟩,
   ⟨{ regs := [(TTH.STATUS_UP_LINK.key, 1)] }, by decide +kernel⟩,
   ⟨{}, by decide +kernel⟩,
   ⟨{ regs := [(TTH.STATUS_ROLE.key, 1)] }, by decide +kernel⟩,
   ⟨{} , by decide +kernel⟩⟩

theorem witness_kite_transmission :
    (∃ (n : Lane) (s : State), (s.kl n).tx = none ∧ s.flag (KL.CTRL_TX_EN n) = true ∧ s.braced = false ∧ s.quiesceAsked n = false ∧ (s.kl n).wakeAsk = true ∧ (s.ln n).power = .active ∧ s.get (LN.TX_STATUS_AMP_STATE n) = 2) ∧
    (∃ (n : Lane) (s : State), (s.kl n).tx = none ∧ s.flag (KL.CTRL_TX_EN n) = true ∧ s.braced = false ∧ s.quiesceAsked n = false ∧ (s.kl n).wakeAsk = true ∧ (s.ln n).power = .nap ∧ s.get (BDA.OUT_OUT n.val) ≠ s.get (BDA.CLR_CLR_CODE n.val)) ∧
    (∃ (n : Lane) (p : Nat) (m : KiteMsg) (s : State), (s.kl n).tx = none ∧ s.flag (KL.CTRL_TX_EN n) = true ∧ s.braced = false ∧ s.quiesceAsked n = false ∧ (s.kl n).wakeAsk = false ∧ s.kitePath n = some p ∧ kiteFirst (s.kl n).queue = some m) ∧
    (∃ (n : Lane) (p : Nat) (s : State), (s.kl n).tx = none ∧ s.flag (KL.CTRL_TX_EN n) = true ∧ s.braced = false ∧ s.quiesceAsked n = false ∧ (s.kl n).wakeAsk = false ∧ s.kitePath n = some p ∧ (s.kl n).queue = [] ∧ (s.kl n).asks = [] ∧ (s.kl n).userAsk = true) ∧
    (∃ (n : Lane) (s : State), (((s.kl n).tx.isSome = true ∨ s.flag (KL.CTRL_TX_EN n) = false ∨ s.braced = true ∨ s.quiesceAsked n = true ∨ s.kitePath n = none))) ∧
    (∃ (n : Lane) (x : KiteTx) (s : State), (s.kl n).tx = some x) ∧
    (∃ (n : Lane) (s : State), ((s.kiteMbx n 0xF = false ∨ (s.kl n).tx ≠ some .wake))) ∧
    (∃ (n : Lane) (s : State), s.kiteMbx n 0xF = true ∧ (s.kl n).tx = some .wake) ∧
    (∃ (n : Lane) (us : Nat) (s : State), us < 10000 * max 1 (s.get (KL.CFG2_PROBE_INT n))) ∧
    (∃ (n : Lane) (us : Nat) (s : State), us < 10000 * max 1 (s.get (KL.CFG2_PROBE_INT n))) ∧
    (∃ (n : Lane) (us : Nat) (s : State), us < 30000 * max 1 (s.get (KL.CFG2_PROBE_INT n))) ∧
    (∃ (n : Lane) (k : PortId) (us : Nat) (s : State), 10000 * max 1 (s.get (KL.CFG2_PROBE_INT n)) ≤ us ∧ s.portOf n = some k ∧ ((s.pstate k = 1 ∨ s.pstate k = 6 ∨ s.pstate k = 7 ∨ s.flag (PORT.STATUS_LOSHOLD_RUN k) = true)) ∧ s.flag (KL.CTRL_PROBE_EN n) = true ∧ s.flag (KL.CTRL_TX_EN n) = true) ∧
    (∃ (n : Lane) (k : PortId) (s : State), s.portOf n = some k ∧ 2 ≤ s.pstate k ∧ s.pstate k ≤ 5 ∧ s.flag (PORT.STATUS_LOSHOLD_RUN k) = false) ∧
    (∃ (n : Lane) (type : Fin 16) (us : Nat) (a : KiteAsk) (s : State), 10000 * max 1 (s.get (KL.CFG2_PROBE_INT n)) ≤ us ∧ s.kiteAsk n type = some a ∧ a.tries < 3 ∧ (s.kl n).queue.any (·.type == type.val) = false) ∧
    (∃ (n : Lane) (type : Fin 16) (us : Nat) (a : KiteAsk) (s : State), 10000 * max 1 (s.get (KL.CFG2_PROBE_INT n)) ≤ us ∧ s.kiteAsk n type = some a ∧ 3 ≤ a.tries ∧ s.kiteMbx n type = false) ∧
    (∃ (s : State), s.awake = true) ∧
    (∃ (s : State), s.awake = true) ∧
    (∃ (n : Lane) (reps : Nat) (s : State), ((s.pwr.dev = .shelf ∨ s.pwr.dev = .doze)) ∧ (s.ln n).power = .off ∧ s.flag (KL.CTRL_LISTEN_EN n) = true ∧ max 1 (s.get (KL.CFG_WAKE_REPS n)) ≤ reps) ∧
    (∃ (n : Lane) (reps : Nat) (s : State), reps < max 1 (s.get (KL.CFG_WAKE_REPS n))) ∧
    (∃ (n : Lane) (us : Nat) (s : State), 30000 * max 1 (s.get (KL.CFG2_PROBE_INT n)) ≤ us) ∧
    (∃ (s : State), s.awake = true) ∧
    (∃ (s : State), s.awake = true) ∧
    (∃ (q : List KiteMsg) (m : KiteMsg), kiteFirst q = some m) :=
  ⟨⟨1, { regs := [((LN.LOC_USER_TX_USER_TX 1 94).key, 2)], line := (vset (Vector.replicate 8 {}) 1 { power := .active }), kite := (vset (Vector.replicate 8 {}) 1 { wakeAsk := true }) }, by decide +kernel⟩,
   ⟨1, { regs := [((BDA.OUT_OUT 1).key, 1)], line := (vset (Vector.replicate 8 {}) 1 { power := .nap }), kite := (vset (Vector.replicate 8 {}) 1 { wakeAsk := true }) }, by decide +kernel⟩,
   ⟨1, 0, { type := 6, payload := [], seq := none }, { regs := [((LN.LOC_USER_TX_USER_TX 1 94).key, 2)], line := (vset (Vector.replicate 8 {}) 1 { power := .active }), kite := (vset (Vector.replicate 8 {}) 1 { queue := [{ type := 6, payload := [], seq := none }] }) }, by decide +kernel⟩,
   ⟨1, 0, { regs := [((LN.LOC_USER_TX_USER_TX 1 94).key, 2)], line := (vset (Vector.replicate 8 {}) 1 { power := .active }), kite := (vset (Vector.replicate 8 {}) 1 { userAsk := true }) }, by decide +kernel⟩,
   ⟨0, {}, by decide +kernel⟩,
   ⟨2, (.packet 8 14 []), { kite := (vset (Vector.replicate 8 {}) 2 { tx := (some (.packet 8 14 [])) }) }, by decide +kernel⟩,
   ⟨0, {}, by decide +kernel⟩,
   ⟨1, { regs := [((GLB.SERIAL_SERIAL 127).key, 16), ((GLB.SERIAL_SERIAL 128).key, 1), ((GLB.SERIAL_SERIAL 131).key, 1), ((GLB.SERIAL_SERIAL 132).key, 15)], mbx := { begun := true }, kite := (vset (Vector.replicate 8 {}) 1 { tx := (some .wake) }) }, by decide +kernel⟩,
   ⟨0, 0, {}, by decide +kernel⟩,
   ⟨0, 0, {}, by decide +kernel⟩,
   ⟨0, 0, {}, by decide +kernel⟩,
   ⟨3, 3, 130890, { regs := [((PORT.STATUS_STATE 3).key, 1)], port := (vset (Vector.replicate 8 {}) 3 { defined := true, lanes := 1 }) }, by decide +kernel⟩,
   ⟨6, 6, { regs := [((PORT.STATUS_STATE 6).key, 2)], port := (vset (Vector.replicate 8 {}) 6 { defined := true, lanes := 1 }) }, by decide +kernel⟩,
   ⟨6, 11, 111868, { type := 11, payload := [10080], seq := none, tries := 2 }, { kite := (vset (Vector.replicate 8 {}) 6 { asks := [{ type := 11, payload := [10080], seq := none, tries := 2 }] }) }, by decide +kernel⟩,
   ⟨6, 11, 111868, { type := 11, payload := [10080], seq := none, tries := 3 }, { kite := (vset (Vector.replicate 8 {}) 6 { asks := [{ type := 11, payload := [10080], seq := none, tries := 3 }] }) }, by decide +kernel⟩,
   ⟨{}, by decide +kernel⟩,
   ⟨{}, by decide +kernel⟩,
   ⟨6, 1, { regs := [((KL.CTRL_LISTEN_EN 6).key, 1), ((KL.CFG_WAKE_REPS 6).key, 0)] }, by decide +kernel⟩,
   ⟨0, 0, {}, by decide +kernel⟩,
   ⟨0, 300053, {}, by decide +kernel⟩,
   ⟨{}, by decide +kernel⟩,
   ⟨{}, by decide +kernel⟩,
   ⟨[{ type := 6, payload := [], seq := (some 1) }], { type := 6, payload := [], seq := (some 1) } , by decide +kernel⟩⟩

theorem witness_kite_reception :
    (∃ (thr : Nat) (pattern : Nat) (ys : List Int), ys.length = 32 ∧ (24 ≤ ((List.range 32).filter (fun (k : Nat) => thr ≤ (ys.getD k 0).natAbs && decide (ys.getD k 0 < 0) == (msbBits 32 pattern).getD k false)).length)) ∧
    (∃ (k : KiteSt) (err : Int), k.dfe.length = 11 ∧ err.natAbs ≤ 1) ∧
    (∃ (n : Lane) (r : KiteRx) (s : State), (s.kl n).rx = some r) ∧
    (∃ (n : Lane) (r : KiteRx) (s : State), (s.kl n).rx = some r) ∧
    (∃ (bs : List Bool), bs.length = 16 ∧ distance bs (msbBits 16 0x1F35) ≤ 2) ∧
    (∃ (n : Lane) (h : Word) (r : KiteRx) (s : State), (s.kl n).rx = some r ∧ r.sfd = true ∧ r.hdr = none ∧ hdrOk h.toNat = true) ∧
    (∃ (n : Lane) (h : Word) (window : List (List Int)) (r : KiteRx) (s : State), (s.kl n).rx = some r ∧ r.sfd = true ∧ r.hdr = none ∧ hdrOk h.toNat = false ∧ s.captures n window = false) ∧
    (∃ (n : Lane) (h : Word) (r : KiteRx) (s : State), (s.kl n).rx = some r ∧ r.sfd = true ∧ r.hdr = none ∧ hdrOk h.toNat = false) ∧
    (∃ (n : Lane) (r : KiteRx) (s : State), (s.kl n).rx = some r) ∧
    (∃ (n : Lane) (r : KiteRx) (h : Nat) (s : State), (s.kl n).rx = some r ∧ r.hdr = some h) ∧
    (∃ (n : Lane) (p : List Nat) (h : Nat) (st : Nat) (s : State), s.kitePkt n 0 p = some (h, st) ∧ s.flag (KL.STATUS_PARTNER_SEEN n) = true) ∧
    (∃ (n : Lane) (p : List Nat) (h : Nat) (st : Nat) (s : State), s.kitePkt n 0 p = some (h, st) ∧ s.flag (KL.STATUS_PARTNER_SEEN n) = false ∧ s.flag (KL.PARTNER_INFO_SN_VALID n) = false) ∧
    (∃ (n : Lane) (h : Nat) (st : Nat) (s : State), s.kitePkt n 1 [] = some (h, st) ∧ s.flag (KL.STATUS_PARTNER_SEEN n) = true ∧ s.flag (KL.CTRL_AUTO_ANS n) = true) ∧
    (∃ (n : Lane) (h : Nat) (st : Nat) (s : State), s.kitePkt n 1 [] = some (h, st) ∧ s.flag (KL.STATUS_PARTNER_SEEN n) = true ∧ s.flag (KL.CTRL_AUTO_ANS n) = false) ∧
    (∃ (n : Lane) (p : List Nat) (h : Nat) (st : Nat) (s : State), s.kitePkt n 2 p = some (h, st) ∧ s.kiteMbx n 1 = false) ∧
    (∃ (n : Lane) (h : Nat) (st : Nat) (s : State), s.kitePkt n 3 [] = some (h, st) ∧ s.flag (KL.STATUS_PARTNER_SEEN n) = true ∧ s.flag (KL.CTRL_AUTO_ANS n) = true) ∧
    (∃ (n : Lane) (p : List Nat) (h : Nat) (st : Nat) (s : State), s.kitePkt n 4 p = some (h, st) ∧ s.flag (KL.STATUS_PARTNER_SEEN n) = true ∧ (s.kiteAsk n 3).isSome = true ∧ s.kiteMbx n 3 = false) ∧
    (∃ (n : Lane) (p : List Nat) (h : Nat) (st : Nat) (s : State), s.kitePkt n 5 p = some (h, st) ∧ s.flag (KL.STATUS_PARTNER_SEEN n) = true ∧ (s.kl n).acted ≠ some (hdrSeq h, hdrLane h) ∧ s.flag (KL.CTRL_REMOTE_NAP_EN n) = false) ∧
    (∃ (n : Lane) (p : List Nat) (h : Nat) (st : Nat) (s : State), s.kitePkt n 5 p = some (h, st) ∧ s.flag (KL.STATUS_PARTNER_SEEN n) = true ∧ (s.kl n).acted = some (hdrSeq h, hdrLane h)) ∧
    (∃ (n : Lane) (k : PortId) (p : List Nat) (h : Nat) (st : Nat) (s : State), s.kitePkt n 5 p = some (h, st) ∧ s.flag (KL.STATUS_PARTNER_SEEN n) = true ∧ (s.kl n).acted ≠ some (hdrSeq h, hdrLane h) ∧ s.flag (KL.CTRL_REMOTE_NAP_EN n) = true ∧ s.portOf n = some k ∧ p.take 2 = (s.helloBody n).take 2) ∧
    (∃ (n : Lane) (k : PortId) (p : List Nat) (h : Nat) (st : Nat) (s : State), s.kitePkt n 6 p = some (h, st) ∧ s.flag (KL.STATUS_PARTNER_SEEN n) = true ∧ (s.kl n).acted ≠ some (hdrSeq h, hdrLane h) ∧ s.flag (KL.CTRL_REMOTE_NAP_EN n) = true ∧ s.portOf n = some k ∧ p.take 2 = (s.helloBody n).take 2) ∧
    (∃ (n : Lane) (p : List Nat) (h : Nat) (st : Nat) (s : State), s.kitePkt n 6 p = some (h, st) ∧ s.flag (KL.STATUS_PARTNER_SEEN n) = true ∧ (s.kl n).acted ≠ some (hdrSeq h, hdrLane h) ∧ s.flag (KL.CTRL_REMOTE_NAP_EN n) = true ∧ p.take 2 ≠ (s.helloBody n).take 2) ∧
    (∃ (n : Lane) (p : List Nat) (h : Nat) (st : Nat) (q : Nat) (a : KiteAsk) (s : State), s.kitePkt n 7 p = some (h, st) ∧ s.flag (KL.STATUS_PARTNER_SEEN n) = true ∧ s.kiteAsk n 5 = some a ∧ a.seq = some q ∧ p.headD 0 = q ∧ s.kiteAsk n 6 = none ∧ s.kiteMbx n 5 = false) ∧
    (∃ (n : Lane) (p : List Nat) (h : Nat) (st : Nat) (s : State), s.kitePkt n 8 p = some (h, st) ∧ s.flag (KL.STATUS_PARTNER_SEEN n) = true ∧ s.flag (KL.STATUS_RX_FULL n) = true) ∧
    (∃ (n : Lane) (p : List Nat) (h : Nat) (st : Nat) (s : State), s.kitePkt n 8 p = some (h, st) ∧ s.flag (KL.STATUS_PARTNER_SEEN n) = true ∧ s.flag (KL.STATUS_RX_FULL n) = false ∧ p.length ≤ 256) ∧
    (∃ (n : Lane) (r : KiteRx) (h : Nat) (s : State), (s.kl n).rx = some r ∧ r.hdr = some h ∧ ((9 ≤ hdrType h ∨ (kiteLen (hdrType h)).any (· != hdrLen h) = true))) :=
  ⟨⟨0, 0, (List.replicate 32 0), by decide +kernel⟩,
   ⟨{}, 0, by decide +kernel⟩,
   ⟨0, { strength := 1325, sfd := false, hdr := none }, { kite := (vset (Vector.replicate 8 {}) 0 { rx := (some { strength := 1325, sfd := false, hdr := none }) }) }, by decide +kernel⟩,
   ⟨0, { strength := 1325, sfd := false, hdr := none }, { kite := (vset (Vector.replicate 8 {}) 0 { rx := (some { strength := 1325, sfd := false, hdr := none }) }) }, by decide +kernel⟩,
   ⟨[false, false, false, false, true, true, true, true, false, false, true, true, false, true, false, false], by decide +kernel⟩,
   ⟨0, 1141026150, { strength := 1333, sfd := true, hdr := none }, { kite := (vset (Vector.replicate 8 {}) 0 { rx := (some { strength := 1333, sfd := true, hdr := none }) }) }, by decide +kernel⟩,
   ⟨0, 0, [], { strength := 1333, sfd := true, hdr := none }, { kite := (vset (Vector.replicate 8 {}) 0 { rx := (some { strength := 1333, sfd := true, hdr := none }) }) }, by decide +kernel⟩,
   ⟨6, 0, { strength := 1962, sfd := true, hdr := none }, { kite := (vset (Vector.replicate 8 {}) 6 { rx := (some { strength := 1962, sfd := true, hdr := none }) }) }, by decide +kernel⟩,
   ⟨1, { strength := 154, sfd := true, hdr := none }, { kite := (vset (Vector.replicate 8 {}) 1 { rx := (some { strength := 154, sfd := true, hdr := none }) }) }, by decide +kernel⟩,
   ⟨7, { strength := 1237, sfd := true, hdr := (some 233) }, 233, { kite := (vset (Vector.replicate 8 {}) 7 { rx := (some { strength := 1237, sfd := true, hdr := (some 233) }) }) }, by decide +kernel⟩,
   ⟨6, [0, 0, 0, 0], 1074293021, 0, { regs := [((KL.STATUS_PARTNER_SEEN 6).key, 1)], kite := (vset (Vector.replicate 8 {}) 6 { rx := (some { strength := 0, sfd := false, hdr := (some 1074293021) }) }) }, by decide +kernel⟩,
   ⟨6, [0, 0, 0, 0], 1074293021, 0, { kite := (vset (Vector.replicate 8 {}) 6 { rx := (some { strength := 0, sfd := false, hdr := (some 1074293021) }) }) }, by decide +kernel⟩,
   ⟨6, 1140877598, 13, { regs := [((KL.STATUS_PARTNER_SEEN 6).key, 1)], kite := (vset (Vector.replicate 8 {}) 6 { rx := (some { strength := 13, sfd := false, hdr := (some 1140877598) }) }) }, by decide +kernel⟩,
   ⟨6, 1140877598, 13, { regs := [((KL.CTRL_AUTO_ANS 6).key, 0), ((KL.STATUS_PARTNER_SEEN 6).key, 1)], kite := (vset (Vector.replicate 8 {}) 6 { rx := (some { strength := 13, sfd := false, hdr := (some 1140877598) }) }) }, by decide +kernel⟩,
   ⟨6, [0, 0, 0, 0, 0, 0, 0, 0], 1209035187, 0, { kite := (vset (Vector.replicate 8 {}) 6 { rx := (some { strength := 0, sfd := false, hdr := (some 1209035187) }) }) }, by decide +kernel⟩,
   ⟨6, 1275095375, 13, { regs := [((KL.STATUS_PARTNER_SEEN 6).key, 1)], kite := (vset (Vector.replicate 8 {}) 6 { rx := (some { strength := 13, sfd := false, hdr := (some 1275095375) }) }) }, by decide +kernel⟩,
   ⟨6, [0, 0, 0, 0], 1342728639, 0, { regs := [((KL.STATUS_PARTNER_SEEN 6).key, 1)], kite := (vset (Vector.replicate 8 {}) 6 { rx := (some { strength := 0, sfd := false, hdr := (some 1342728639) }), asks := [{ type := 3, payload := [], seq := none, tries := 0 }] }) }, by decide +kernel⟩,
   ⟨6, [0, 0, 0, 0], 1409837332, 0, { regs := [((KL.STATUS_PARTNER_SEEN 6).key, 1)], kite := (vset (Vector.replicate 8 {}) 6 { rx := (some { strength := 0, sfd := false, hdr := (some 1409837332) }) }) }, by decide +kernel⟩,
   ⟨6, [0, 0, 0, 0], 1409837332, 0, { regs := [((KL.STATUS_PARTNER_SEEN 6).key, 1)], kite := (vset (Vector.replicate 8 {}) 6 { rx := (some { strength := 0, sfd := false, hdr := (some 1409837332) }), acted := (some (3, 2)) }) }, by decide +kernel⟩,
   ⟨6, 6, [2, 0, 0, 0], 1409837332, 0, { regs := [((KL.CTRL_REMOTE_NAP_EN 6).key, 1), ((KL.STATUS_PARTNER_SEEN 6).key, 1)], port := (vset (Vector.replicate 8 {}) 6 { defined := true, lanes := 2 }), kite := (vset (Vector.replicate 8 {}) 6 { rx := (some { strength := 0, sfd := false, hdr := (some 1409837332) }) }) }, by decide +kernel⟩,
   ⟨6, 6, [2, 0, 0, 0], 1476946414, 0, { regs := [((KL.CTRL_REMOTE_NAP_EN 6).key, 1), ((KL.STATUS_PARTNER_SEEN 6).key, 1)], port := (vset (Vector.replicate 8 {}) 6 { defined := true, lanes := 2 }), kite := (vset (Vector.replicate 8 {}) 6 { rx := (some { strength := 0, sfd := false, hdr := (some 1476946414) }) }) }, by decide +kernel⟩,
   ⟨6, [0, 0, 0, 0], 1476946414, 0, { regs := [((KL.CTRL_REMOTE_NAP_EN 6).key, 1), ((KL.STATUS_PARTNER_SEEN 6).key, 1)], port := (vset (Vector.replicate 8 {}) 6 { defined := true, lanes := 1 }), kite := (vset (Vector.replicate 8 {}) 6 { rx := (some { strength := 0, sfd := false, hdr := (some 1476946414) }) }) }, by decide +kernel⟩,
   ⟨1, [0, 0, 0, 0], 1544055109, 214, 0, { type := 5, payload := [], seq := (some 0), tries := 1 }, { regs := [((KL.STATUS_PARTNER_SEEN 1).key, 1)], kite := (vset (Vector.replicate 8 {}) 1 { rx := (some { strength := 214, sfd := false, hdr := (some 1544055109) }), asks := [{ type := 5, payload := [], seq := (some 0), tries := 1 }] }) }, by decide +kernel⟩,
   ⟨6, [0, 0, 0, 0], 1611163998, 0, { regs := [((KL.STATUS_PARTNER_SEEN 6).key, 1), ((KL.STATUS_RX_FULL 6).key, 1)], kite := (vset (Vector.replicate 8 {}) 6 { rx := (some { strength := 0, sfd := false, hdr := (some 1611163998) }) }) }, by decide +kernel⟩,
   ⟨6, [0, 0, 0, 0, 0, 0, 0, 0, 0, 0, 0, 0], 1612212489, 0, { regs := [((KL.STATUS_PARTNER_SEEN 6).key, 1)], kite := (vset (Vector.replicate 8 {}) 6 { rx := (some { strength := 0, sfd := false, hdr := (some 1612212489) }) }) }, by decide +kernel⟩,
   ⟨6, { strength := 1084, sfd := true, hdr := (some 1277568380) }, 1277568380, { kite := (vset (Vector.replicate 8 {}) 6 { rx := (some { strength := 1084, sfd := true, hdr := (some 1277568380) }) }) } , by decide +kernel⟩⟩

theorem witness_bias_dacs :
    (∃ (c : Chan) (s : State), s.awake = true ∧ s.clearForced c = false ∧ (s.ch c).queue.length < 32) ∧
    (∃ (c : Chan) (s : State), s.awake = true ∧ s.clearForced c = false ∧ 32 ≤ (s.ch c).queue.length) ∧
    (∃ (c : Chan) (s : State), s.awake = true ∧ s.clearForced c = true) ∧
    (∃ (c : Chan) (v : Nat) (q : List Nat) (s : State), s.awake = true ∧ (s.ch c).rangePend = false ∧ s.braced = false ∧ s.forced c = false ∧ s.bitOf BDA.PAUSE_PAUSE c = false ∧ s.unusedLaser c = false ∧ (s.ch c).queue = v :: q ∧ s.get (BDA.LIM_LO c) ≤ s.get (BDA.LIM_HI c)) ∧
    (∃ (c : Chan) (s : State), s.awake = true ∧ (s.ch c).rangePend = false ∧ s.braced = false ∧ s.forced c = false ∧ s.bitOf BDA.PAUSE_PAUSE c = false ∧ (s.ch c).queue = [] ∧ s.flag (BDA.CFG_UNDER_EN c) = true ∧ (s.ch c).wait = false) ∧
    (∃ (c : Chan) (s : State), s.awake = true ∧ (s.ch c).rangePend = false ∧ ((s.braced = true ∨ s.bitOf BDA.PAUSE_PAUSE c = true))) ∧
    (∃ (c : Chan) (v : Nat) (q : List Nat) (s : State), s.awake = true ∧ (s.ch c).rangePend = false ∧ s.braced = false ∧ s.forced c = false ∧ s.bitOf BDA.PAUSE_PAUSE c = false ∧ s.unusedLaser c = true ∧ (s.ch c).queue = v :: q) ∧
    (∃ (s : State), s.awake = true) ∧
    (∃ (c : Chan) (s : State), (s.ch c).rangePend = false ∧ (s.ch c).rangeLeft ≠ 0 ∧ s.braced = false ∧ s.bitOf BDA.PAUSE_PAUSE c = false ∧ (s.ch c).queue = [] ∧ s.flag (BDA.CFG_UNDER_EN c) = true ∧ (s.ch c).wait = false) ∧
    (∃ (c : Chan) (s : State), (s.ch c).rangePend = true ∧ c.val ≥ 8) ∧
    (∃ (c : Chan), 8 ≤ c.val) ∧
    (∃ (n : Lane) (s : State), ((s.flag (SAF.INFO_ARMED_LO n) = false ∨ s.biasBelow n = false))) ∧
    (∃ (n : Lane) (s : State), s.flag (SAF.INFO_ARMED_LO n) = true ∧ s.biasBelow n = true) ∧
    (∃ (c : Chan) (v : Fin 2) (s : State), s.awake = true ∧ v.val ≠ s.get (BDA.CFG_RANGE c)) ∧
    (∃ (c : Chan) (v : Fin 2) (s : State), s.awake = true ∧ v.val = s.get (BDA.CFG_RANGE c) ∧ (s.ch c).rangeLeft = 0 ∧ (s.ch c).rangePend = false) ∧
    (∃ (s : State), s.awake = true) ∧
    (∃ (s : State), s.awake = true) :=
  ⟨⟨0, { regs := [(SAF.STATUS_LATCH.key, 0)] }, by decide +kernel⟩,
   ⟨5, { regs := [(SAF.STATUS_LATCH.key, 0)], bda := (vset (Vector.replicate 24 {}) 5 { queue := (List.replicate 32 0) }) }, by decide +kernel⟩,
   ⟨0, {}, by decide +kernel⟩,
   ⟨10, 196, [], { regs := [(SAF.STATUS_LATCH.key, 0)], bda := (vset (Vector.replicate 24 {}) 10 { queue := [196] }) }, by decide +kernel⟩,
   ⟨5, { regs := [(SAF.STATUS_LATCH.key, 0), ((BDA.CFG_UNDER_EN 5).key, 1)], bda := (vset (Vector.replicate 24 {}) 5 { wait := false }) }, by decide +kernel⟩,
   ⟨0, { regs := [(BDA.PAUSE_PAUSE.key, 1)] }, by decide +kernel⟩,
   ⟨2, 196, [], { regs := [(SAF.STATUS_LATCH.key, 0)], bda := (vset (Vector.replicate 24 {}) 2 { queue := [196] }) }, by decide +kernel⟩,
   ⟨{}, by decide +kernel⟩,
   ⟨5, { regs := [((BDA.CFG_UNDER_EN 5).key, 1)], bda := (vset (Vector.replicate 24 {}) 5 { rangeLeft := 1, wait := false }) }, by decide +kernel⟩,
   ⟨8, { bda := (vset (Vector.replicate 24 {}) 8 { rangePend := true }) }, by decide +kernel⟩,
   ⟨8, by decide +kernel⟩,
   ⟨0, {}, by decide +kernel⟩,
   ⟨1, { regs := [((SAF.INFO_ARMED_LO 1).key, 1)] }, by decide +kernel⟩,
   ⟨0, 1, {}, by decide +kernel⟩,
   ⟨0, 0, {}, by decide +kernel⟩,
   ⟨{}, by decide +kernel⟩,
   ⟨{} , by decide +kernel⟩⟩

theorem witness_sonde_runs :
    (∃ (s : State), s.awake = true ∧ s.seqLong = false ∧ s.flag SND.CTRL_MODE = false) ∧
    (∃ (s : State), s.awake = true ∧ s.seqLong = false ∧ s.flag SND.CTRL_MODE = true ∧ s.flag SND.STATUS_RUNNING = false) ∧
    (∃ (s : State), s.awake = true ∧ s.seqLong = true) ∧
    (∃ (s : State), s.awake = true ∧ s.flag SND.STATUS_RUNNING = false) ∧
    (∃ (s : State), s.awake = true ∧ s.flag SND.STATUS_RUNNING = true ∧ s.snd.conv.isSome = true) ∧
    (∃ (s : State), s.awake = true ∧ s.flag SND.STATUS_RUNNING = true ∧ s.snd.conv = none) ∧
    (∃ (s : State), s.awake = true ∧ s.flag SND.CTRL_MODE = false ∧ s.snd.armed = true ∧ s.get SND.CTRL_TRIG_SRC = 0 ∧ s.flag SND.STATUS_RUNNING = false ∧ s.seqLong = false) ∧
    (∃ (s : State), s.awake = true ∧ s.flag SND.CTRL_MODE = false ∧ s.snd.armed = true ∧ s.get SND.CTRL_TRIG_SRC = 0 ∧ s.flag SND.STATUS_RUNNING = true ∧ s.flag SND.STATUS_TRIG_PEND = false) ∧
    (∃ (s : State), s.awake = true ∧ s.flag SND.CTRL_MODE = false ∧ s.snd.armed = true ∧ s.get SND.CTRL_TRIG_SRC = 0 ∧ s.flag SND.STATUS_RUNNING = true ∧ s.flag SND.STATUS_TRIG_PEND = true) ∧
    (∃ (s : State), ((s.flag SND.CTRL_MODE = true ∨ s.snd.armed = false ∨ s.get SND.CTRL_TRIG_SRC ≠ 0))) ∧
    (∃ (us : Nat) (s : State), us < max 10 (s.get SND.TIMER_PERIOD)) ∧
    (∃ (us : Nat) (s : State), s.awake = true ∧ max 10 (s.get SND.TIMER_PERIOD) ≤ us ∧ s.flag SND.CTRL_MODE = false ∧ s.snd.armed = true ∧ s.get SND.CTRL_TRIG_SRC = 1 ∧ s.flag SND.STATUS_RUNNING = false ∧ s.seqLong = false) ∧
    (∃ (s : State), ((s.flag SND.CTRL_MODE = true ∨ s.snd.armed = false ∨ s.get SND.CTRL_TRIG_SRC ≠ 1))) ∧
    (∃ (s : State), s.awake = true) ∧
    (∃ (s : State), s.awake = true) ∧
    (∃ (s : State), s.awake = true) ∧
    (∃ (us : Nat), us < 5000) ∧
    (∃ (us : Nat) (s : State), 5000 ≤ us ∧ s.awake = true ∧ s.flag SND.CTRL_SONDE_REF_EN = true) ∧
    (∃ (n : Lane) (s : State), s.awake = true ∧ s.lit n = true ∧ s.flag SND.STATUS_SUP_ACTIVE = false ∧ ((∀ c ∈ s.snd.conv, c.sys = true ∨ convLong c.osr c.settle c.count = false))) ∧
    (∃ (n : Lane) (c : SndConv) (s : State), s.awake = true ∧ s.lit n = true ∧ s.flag SND.STATUS_SUP_ACTIVE = false ∧ s.snd.conv = some c ∧ c.sys = false ∧ convLong c.osr c.settle c.count = true ∧ s.flag SND.STATUS_TRIG_PEND = false) ∧
    (∃ (s : State), s.anyLit = false) ∧
    (∃ (i : Initiator) (s : State), s.mayAccess i = true) :=
  ⟨⟨{}, by decide +kernel⟩,
   ⟨{ regs := [(SND.CTRL_MODE.key, 1)] }, by decide +kernel⟩,
   ⟨{ regs := [(SND.STATUS_SUP_ACTIVE.key, 1), ((SND.ENT1_COUNT 0).key, 8)] }, by decide +kernel⟩,
   ⟨{}, by decide +kernel⟩,
   ⟨{ regs := [(SND.STATUS_RUNNING.key, 1)], snd := { conv := (some { slot := none, entry := 0, input := 0, gain := 0, osr := 0, settle := 0, count := 0, avg := false, dcbEn := false, dcbFc := 0, isRec := false, cold := false, anyOvr := false, ovlAge := none, results := [], filled := false, chain := {} }) } }, by decide +kernel⟩,
   ⟨{ regs := [(SND.STATUS_RUNNING.key, 1)] }, by decide +kernel⟩,
   ⟨{ snd := { armed := true } }, by decide +kernel⟩,
   ⟨{ regs := [(SND.STATUS_RUNNING.key, 1)], snd := { armed := true } }, by decide +kernel⟩,
   ⟨{ regs := [(SND.STATUS_RUNNING.key, 1), (SND.STATUS_TRIG_PEND.key, 1)], snd := { armed := true } }, by decide +kernel⟩,
   ⟨{}, by decide +kernel⟩,
   ⟨0, {}, by decide +kernel⟩,
   ⟨1000, { regs := [(SND.CTRL_TRIG_SRC.key, 1)], snd := { armed := true } }, by decide +kernel⟩,
   ⟨{}, by decide +kernel⟩,
   ⟨{}, by decide +kernel⟩,
   ⟨{}, by decide +kernel⟩,
   ⟨{}, by decide +kernel⟩,
   ⟨0, by decide +kernel⟩,
   ⟨5000, { regs := [(SND.CTRL_SONDE_REF_EN.key, 1)] }, by decide +kernel⟩,
   ⟨0, { regs := [((BDA.CLR_CLR_CODE 0).key, 1)] }, by decide +kernel⟩,
   ⟨0, { slot := none, entry := 15, input := 19, gain := 3, osr := 5, settle := 1000, count := 200, avg := true, dcbEn := false, dcbFc := 1, isRec := true, cold := true, anyOvr := false, ovlAge := none, results := [2], filled := true, chain := { sinc := [(-19)], hb1 := [(-2)] } }, { regs := [((BDA.OUT_OUT 0).key, 1)], snd := { conv := (some { slot := none, entry := 15, input := 19, gain := 3, osr := 5, settle := 1000, count := 200, avg := true, dcbEn := false, dcbFc := 1, isRec := true, cold := true, anyOvr := false, ovlAge := none, results := [2], filled := true, chain := { sinc := [(-19)], hb1 := [(-2)] } }) } }, by decide +kernel⟩,
   ⟨{}, by decide +kernel⟩,
   ⟨.mgmt, {} , by decide +kernel⟩⟩

theorem witness_sonde_conversions :
    (∃ (c : SndSlot) (q : List SndSlot) (s : State), s.awake = true ∧ s.snd.conv = none ∧ s.snd.slots = c :: q) ∧
    (∃ (s : State), s.awake = true ∧ s.snd.conv = none ∧ s.snd.slots = [] ∧ s.flag SND.STATUS_RUNNING = true ∧ s.flag SND.STATUS_SUP_ACTIVE = false) ∧
    (∃ (s : State), s.awake = true ∧ s.snd.conv = none ∧ s.snd.slots = [] ∧ s.flag SND.STATUS_RUNNING = true ∧ s.flag SND.STATUS_SUP_ACTIVE = true ∧ s.entLong s.snd.pos = true ∧ s.flag SND.STATUS_TRIG_PEND = false) ∧
    (∃ (us : Nat) (c : SndConv) (s : State), s.snd.conv = some c ∧ c.filled = false ∧ 1 + c.settle ≤ us) ∧
    (∃ (us : Nat) (c : SndConv) (s : State), s.snd.conv = some c ∧ ((c.filled = true ∨ us < 1 + c.settle))) ∧
    (∃ (s : State), s.snd.conv = none) ∧
    (∃ (s : State), ((s.awake = false ∨ s.snd.conv.isSome = true ∨ (s.snd.slots = [] ∧ s.flag SND.STATUS_RUNNING = false)))) ∧
    (∃ (c : SndConv) (q : SndSlot) (s : State), s.snd.conv = some c ∧ c.count < c.results.length ∧ c.slot = some q ∧ ((s.flag SND.STATUS_RUNNING = false ∨ s.snd.stop = false))) ∧
    (∃ (c : SndConv) (s : State), s.snd.conv = some c ∧ c.count < c.results.length ∧ c.slot = none ∧ s.snd.stop = false ∧ c.entry < s.get SND.CTRL_LEN) ∧
    (∃ (c : SndConv) (s : State), s.snd.conv = some c ∧ c.count < c.results.length ∧ c.slot = none ∧ s.snd.stop = false ∧ s.get SND.CTRL_LEN ≤ c.entry ∧ s.flag SND.CTRL_MODE = false ∧ s.flag SND.STATUS_TRIG_PEND = false ∧ s.awake = true) ∧
    (∃ (c : SndConv) (s : State), s.snd.conv = some c ∧ c.results.length ≤ c.count) ∧
    (∃ (c : SndConv) (q : SndSlot) (s : State), s.snd.conv = some c ∧ c.count < c.results.length ∧ c.slot = some q ∧ s.flag SND.STATUS_RUNNING = true ∧ s.snd.stop = true) ∧
    (∃ (c : SndConv) (s : State), s.snd.conv = some c ∧ c.count < c.results.length ∧ c.slot = none ∧ ((s.snd.stop = true ∨ s.get SND.CTRL_LEN ≤ c.entry))) ∧
    (∃ (s : State), s.awake = true ∧ s.snd.stop = true ∧ ((s.flag SND.CTRL_MODE = true ∨ s.flag SND.STATUS_TRIG_PEND = false))) ∧
    (∃ (s : State), s.awake = true ∧ s.snd.stop = false ∧ s.flag SND.CTRL_MODE = true ∧ s.seqLong = false) ∧
    (∃ (s : State), s.awake = true ∧ s.flag SND.CTRL_MODE = false ∧ s.flag SND.STATUS_TRIG_PEND = true ∧ s.seqLong = false) :=
  ⟨⟨{ input := 43, gain := 0, osr := 0, settle := 15, count := 2, exc := 0 }, [], { snd := { slots := [{ input := 43, gain := 0, osr := 0, settle := 15, count := 2, exc := 0 }] } }, by decide +kernel⟩,
   ⟨{ regs := [(SND.STATUS_RUNNING.key, 1)] }, by decide +kernel⟩,
   ⟨{ regs := [(SND.STATUS_RUNNING.key, 1), (SND.STATUS_SUP_ACTIVE.key, 1), ((SND.ENT1_COUNT 2).key, 8)], snd := { pos := 2 } }, by decide +kernel⟩,
   ⟨22, { slot := none, entry := 6, input := 43, gain := 0, osr := 0, settle := 21, count := 0, avg := true, dcbEn := false, dcbFc := 2, isRec := true, cold := false, anyOvr := true, ovlAge := none, results := [(-79), 175, 0], filled := false, chain := { hb1 := [16, (-60), (-31860)], hb2 := [0] } }, { snd := { conv := (some { slot := none, entry := 6, input := 43, gain := 0, osr := 0, settle := 21, count := 0, avg := true, dcbEn := false, dcbFc := 2, isRec := true, cold := false, anyOvr := true, ovlAge := none, results := [(-79), 175, 0], filled := false, chain := { hb1 := [16, (-60), (-31860)], hb2 := [0] } }) } }, by decide +kernel⟩,
   ⟨0, { slot := none, entry := 6, input := 43, gain := 0, osr := 0, settle := 22, count := 0, avg := true, dcbEn := false, dcbFc := 2, isRec := true, cold := false, anyOvr := true, ovlAge := none, results := [(-79), 175, 0], filled := true, chain := { hb1 := [16, (-60), (-31860)], hb2 := [0] } }, { snd := { conv := (some { slot := none, entry := 6, input := 43, gain := 0, osr := 0, settle := 22, count := 0, avg := true, dcbEn := false, dcbFc := 2, isRec := true, cold := false, anyOvr := true, ovlAge := none, results := [(-79), 175, 0], filled := true, chain := { hb1 := [16, (-60), (-31860)], hb2 := [0] } }) } }, by decide +kernel⟩,
   ⟨{}, by decide +kernel⟩,
   ⟨{}, by decide +kernel⟩,
   ⟨{ slot := (some { input := 95, gain := 5, osr := 0, settle := 68, count := 0, exc := 1 }), entry := 13, input := 31, gain := 4, osr := 2, settle := 3, count := 2, avg := true, dcbEn := true, dcbFc := 3, isRec := true, cold := true, anyOvr := false, ovlAge := none, results := [1, 2, 3], filled := false, chain := { sinc := [(-1), 2, 30401], hb1 := [15], comp := [231] } }, { input := 95, gain := 5, osr := 0, settle := 68, count := 0, exc := 1 }, { snd := { conv := (some { slot := (some { input := 95, gain := 5, osr := 0, settle := 68, count := 0, exc := 1 }), entry := 13, input := 31, gain := 4, osr := 2, settle := 3, count := 2, avg := true, dcbEn := true, dcbFc := 3, isRec := true, cold := true, anyOvr := false, ovlAge := none, results := [1, 2, 3], filled := false, chain := { sinc := [(-1), 2, 30401], hb1 := [15], comp := [231] } }) } }, by decide +kernel⟩,
   ⟨{ slot := none, entry := 0, input := 35, gain := 4, osr := 2, settle := 99, count := 2, avg := true, dcbEn := true, dcbFc := 1, isRec := true, cold := true, anyOvr := true, ovlAge := none, results := [1, 2, 3], filled := false, chain := { hb2 := [37995] } }, { regs := [(SND.CTRL_LEN.key, 1)], snd := { conv := (some { slot := none, entry := 0, input := 35, gain := 4, osr := 2, settle := 99, count := 2, avg := true, dcbEn := true, dcbFc := 1, isRec := true, cold := true, anyOvr := true, ovlAge := none, results := [1, 2, 3], filled := false, chain := { hb2 := [37995] } }) } }, by decide +kernel⟩,
   ⟨{ slot := none, entry := 1, input := 46, gain := 0, osr := 2, settle := 78, count := 2, avg := true, dcbEn := true, dcbFc := 3, isRec := true, cold := false, anyOvr := true, ovlAge := none, results := [1, 2, 3], filled := false, chain := { sinc := [9086], hb2 := [0], comp := [(-33317), 15065, 22925] } }, { snd := { conv := (some { slot := none, entry := 1, input := 46, gain := 0, osr := 2, settle := 78, count := 2, avg := true, dcbEn := true, dcbFc := 3, isRec := true, cold := false, anyOvr := true, ovlAge := none, results := [1, 2, 3], filled := false, chain := { sinc := [9086], hb2 := [0], comp := [(-33317), 15065, 22925] } }) } }, by decide +kernel⟩,
   ⟨{ slot := (some { input := 59, gain := 1, osr := 3, settle := 14, count := 1, exc := 0 }), entry := 14, input := 25, gain := 4, osr := 2, settle := 10, count := 5, avg := false, dcbEn := true, dcbFc := 1, isRec := true, cold := true, anyOvr := true, ovlAge := (some 2801230409), results := [12, 17, (-7)], filled := true, chain := { sinc := [(-17)], hb1 := [31249, 0], hb2 := [5932, (-3352), 0], comp := [(-218)] } }, { snd := { conv := (some { slot := (some { input := 59, gain := 1, osr := 3, settle := 14, count := 1, exc := 0 }), entry := 14, input := 25, gain := 4, osr := 2, settle := 10, count := 5, avg := false, dcbEn := true, dcbFc := 1, isRec := true, cold := true, anyOvr := true, ovlAge := (some 2801230409), results := [12, 17, (-7)], filled := true, chain := { sinc := [(-17)], hb1 := [31249, 0], hb2 := [5932, (-3352), 0], comp := [(-218)] } }) } }, by decide +kernel⟩,
   ⟨{ slot := (some { input := 4, gain := 1, osr := 0, settle := 39, count := 1, exc := 3 }), entry := 14, input := 25, gain := 4, osr := 2, settle := 10, count := 2, avg := false, dcbEn := true, dcbFc := 1, isRec := true, cold := true, anyOvr := true, ovlAge := (some 2801230409), results := [1, 2, 3], filled := true, chain := { sinc := [(-17)], hb1 := [31249, 0], hb2 := [5932, (-3352), 0], comp := [(-218)] } }, { input := 4, gain := 1, osr := 0, settle := 39, count := 1, exc := 3 }, { regs := [(SND.STATUS_RUNNING.key, 1)], snd := { conv := (some { slot := (some { input := 4, gain := 1, osr := 0, settle := 39, count := 1, exc := 3 }), entry := 14, input := 25, gain := 4, osr := 2, settle := 10, count := 2, avg := false, dcbEn := true, dcbFc := 1, isRec := true, cold := true, anyOvr := true, ovlAge := (some 2801230409), results := [1, 2, 3], filled := true, chain := { sinc := [(-17)], hb1 := [31249, 0], hb2 := [5932, (-3352), 0], comp := [(-218)] } }), stop := true } }, by decide +kernel⟩,
   ⟨{ slot := none, entry := 14, input := 25, gain := 4, osr := 2, settle := 10, count := 2, avg := false, dcbEn := true, dcbFc := 1, isRec := true, cold := true, anyOvr := true, ovlAge := (some 2801230409), results := [1, 2, 3], filled := true, chain := { sinc := [(-17)], hb1 := [31249, 0], hb2 := [5932, (-3352), 0], comp := [(-218)] } }, { snd := { conv := (some { slot := none, entry := 14, input := 25, gain := 4, osr := 2, settle := 10, count := 2, avg := false, dcbEn := true, dcbFc := 1, isRec := true, cold := true, anyOvr := true, ovlAge := (some 2801230409), results := [1, 2, 3], filled := true, chain := { sinc := [(-17)], hb1 := [31249, 0], hb2 := [5932, (-3352), 0], comp := [(-218)] } }) } }, by decide +kernel⟩,
   ⟨{ snd := { stop := true } }, by decide +kernel⟩,
   ⟨{ regs := [(SND.CTRL_MODE.key, 1)] }, by decide +kernel⟩,
   ⟨{ regs := [(SND.STATUS_TRIG_PEND.key, 1)] } , by decide +kernel⟩⟩

theorem witness_sonde_results_and_entries :
    (∃ (c : SndConv) (s : State), s.snd.conv = some c ∧ c.filled = true ∧ c.slot ≠ none ∧ c.results.length ≤ c.count) ∧
    (∃ (c : SndConv) (s : State), s.snd.conv = some c ∧ c.filled = true ∧ c.slot = none ∧ c.avg = false ∧ c.dcbEn = false ∧ c.results.length ≤ c.count ∧ s.flag SND.CTRL_FIFO_EN = true ∧ s.snd.fifo.length < 64) ∧
    (∃ (c : SndConv) (s : State), s.snd.conv = some c ∧ c.filled = true ∧ c.slot = none ∧ c.avg = false ∧ c.dcbEn = true ∧ c.isRec = false ∧ s.bitOf SND.DCB_FREEZE c.entry = false ∧ c.results.length ≤ c.count ∧ s.flag SND.CTRL_FIFO_EN = false) ∧
    (∃ (c : SndConv) (s : State), s.snd.conv = some c ∧ c.filled = true ∧ c.slot = none ∧ c.avg = true ∧ c.results.length < c.count) ∧
    (∃ (s : State), s.flag SND.CTRL_FIFO_EN = true ∧ 64 ≤ s.snd.fifo.length) ∧
    (∃ (c : SndConv) (s : State), s.snd.conv = some c ∧ c.filled = true ∧ c.results ≠ []) ∧
    (∃ (b : Nat) (c : SndConv) (s : State), s.snd.conv = some c ∧ ((c.filled = false ∨ c.results = [])) ∧ 13 * (osrOf c.osr / 8) ≤ b) ∧
    (∃ (s : State), s.awake = true) ∧
    (∃ (v : Word) (s : State), s.awake = true ∧ bits v.toNat 0 7 < 0x30 ∧ bits v.toNat 8 3 < 6 ∧ bits v.toNat 12 3 < 7 ∧ bits v.toNat 17 3 < 7) ∧
    (∃ (j : Fin 16) (v : Word) (s : State), s.awake = true ∧ 0x30 ≤ bits v.toNat 0 7 ∧ bits v.toNat 0 7 ≤ 0x3F ∧ 6 ≤ bits v.toNat 8 3 ∧ bits v.toNat 12 3 = 7 ∧ bits v.toNat 17 3 = 7 ∧ ((bits v.toNat 16 1 = 0 ∨ s.flag (SND.ENT0_DCB_EN j) = true))) ∧
    (∃ (c : SndConv), c.results ≠ []) ∧
    (∃ (c : SndConv), c.results = []) ∧
    (∃ (n : Nat), 0 < n) ∧
    (∃ (input : Nat), 0x50 ≤ input ∧ input ≤ 0x56) ∧
    (∃ (input : Nat), input < 0x20) ∧
    (∃ (input : Nat), 0x20 ≤ input ∧ ((input < 0x50 ∨ 0x59 < input))) ∧
    (∃ (s : State), ((∀ c ∈ s.snd.conv, c.filled = false ∨ c.count < c.results.length))) ∧
    (∃ (s : State), s.snd.conv = none) ∧
    (∃ (s : State), s.awake = false) :=
  ⟨⟨{ slot := (some { input := 1, gain := 1, osr := 1, settle := 1, count := 1, exc := 1 }), entry := 5, input := 67, gain := 0, osr := 0, settle := 10, count := 5, avg := true, dcbEn := false, dcbFc := 0, isRec := false, cold := true, anyOvr := true, ovlAge := (some 44), results := [228, (-2)], filled := true, chain := { hb2 := [(-2)], comp := [(-24011)] } }, { snd := { conv := (some { slot := (some { input := 1, gain := 1, osr := 1, settle := 1, count := 1, exc := 1 }), entry := 5, input := 67, gain := 0, osr := 0, settle := 10, count := 5, avg := true, dcbEn := false, dcbFc := 0, isRec := false, cold := true, anyOvr := true, ovlAge := (some 44), results := [228, (-2)], filled := true, chain := { hb2 := [(-2)], comp := [(-24011)] } }) } }, by decide +kernel⟩,
   ⟨{ slot := none, entry := 5, input := 67, gain := 0, osr := 0, settle := 10, count := 5, avg := false, dcbEn := false, dcbFc := 0, isRec := false, cold := true, anyOvr := true, ovlAge := (some 44), results := [228, (-2)], filled := true, chain := { hb2 := [(-2)], comp := [(-24011)] } }, { regs := [(SND.CTRL_FIFO_EN.key, 1)], snd := { conv := (some { slot := none, entry := 5, input := 67, gain := 0, osr := 0, settle := 10, count := 5, avg := false, dcbEn := false, dcbFc := 0, isRec := false, cold := true, anyOvr := true, ovlAge := (some 44), results := [228, (-2)], filled := true, chain := { hb2 := [(-2)], comp := [(-24011)] } }) } }, by decide +kernel⟩,
   ⟨{ slot := none, entry := 5, input := 67, gain := 0, osr := 0, settle := 10, count := 5, avg := false, dcbEn := true, dcbFc := 0, isRec := false, cold := true, anyOvr := true, ovlAge := (some 44), results := [228, (-2)], filled := true, chain := { hb2 := [(-2)], comp := [(-24011)] } }, { snd := { conv := (some { slot := none, entry := 5, input := 67, gain := 0, osr := 0, settle := 10, count := 5, avg := false, dcbEn := true, dcbFc := 0, isRec := false, cold := true, anyOvr := true, ovlAge := (some 44), results := [228, (-2)], filled := true, chain := { hb2 := [(-2)], comp := [(-24011)] } }) } }, by decide +kernel⟩,
   ⟨{ slot := none, entry := 5, input := 67, gain := 0, osr := 0, settle := 10, count := 5, avg := true, dcbEn := false, dcbFc := 0, isRec := false, cold := true, anyOvr := true, ovlAge := (some 44), results := [228, (-2)], filled := true, chain := { hb2 := [(-2)], comp := [(-24011)] } }, { snd := { conv := (some { slot := none, entry := 5, input := 67, gain := 0, osr := 0, settle := 10, count := 5, avg := true, dcbEn := false, dcbFc := 0, isRec := false, cold := true, anyOvr := true, ovlAge := (some 44), results := [228, (-2)], filled := true, chain := { hb2 := [(-2)], comp := [(-24011)] } }) } }, by decide +kernel⟩,
   ⟨{ regs := [(SND.CTRL_FIFO_EN.key, 1)], snd := { fifo := (List.replicate 64 0) } }, by decide +kernel⟩,
   ⟨{ slot := none, entry := 9, input := 56, gain := 2, osr := 3, settle := 93, count := 2, avg := false, dcbEn := false, dcbFc := 1, isRec := false, cold := true, anyOvr := true, ovlAge := (some 1), results := [5], filled := true, chain := { hb1 := [125, 35285, 214] } }, { snd := { conv := (some { slot := none, entry := 9, input := 56, gain := 2, osr := 3, settle := 93, count := 2, avg := false, dcbEn := false, dcbFc := 1, isRec := false, cold := true, anyOvr := true, ovlAge := (some 1), results := [5], filled := true, chain := { hb1 := [125, 35285, 214] } }) } }, by decide +kernel⟩,
   ⟨832, { slot := none, entry := 5, input := 49, gain := 1, osr := 3, settle := 18, count := 0, avg := true, dcbEn := false, dcbFc := 0, isRec := true, cold := true, anyOvr := false, ovlAge := (some 5), results := [], filled := true, chain := { sinc := [(-2963)], comp := [9, 1, 0] } }, { snd := { conv := (some { slot := none, entry := 5, input := 49, gain := 1, osr := 3, settle := 18, count := 0, avg := true, dcbEn := false, dcbFc := 0, isRec := true, cold := true, anyOvr := false, ovlAge := (some 5), results := [], filled := true, chain := { sinc := [(-2963)], comp := [9, 1, 0] } }) } }, by decide +kernel⟩,
   ⟨{}, by decide +kernel⟩,
   ⟨0, {}, by decide +kernel⟩,
   ⟨4, 483393072, { regs := [((SND.ENT0_DCB_EN 4).key, 1)] }, by decide +kernel⟩,
   ⟨{ slot := none, entry := 0, input := 0, gain := 0, osr := 0, settle := 0, count := 0, avg := false, dcbEn := false, dcbFc := 0, isRec := false, cold := false, anyOvr := false, ovlAge := none, results := [0], filled := false, chain := {} }, by decide +kernel⟩,
   ⟨{ slot := none, entry := 0, input := 0, gain := 0, osr := 0, settle := 0, count := 0, avg := false, dcbEn := false, dcbFc := 0, isRec := false, cold := false, anyOvr := false, ovlAge := none, results := [], filled := false, chain := {} }, by decide +kernel⟩,
   ⟨1, by decide +kernel⟩,
   ⟨80, by decide +kernel⟩,
   ⟨0, by decide +kernel⟩,
   ⟨32, by decide +kernel⟩,
   ⟨{}, by decide +kernel⟩,
   ⟨{}, by decide +kernel⟩,
   ⟨{ pwr := { dev := .shelf } } , by decide +kernel⟩⟩

theorem witness_spar_arithmetic :
    (∃ (e : SprEcc) (s : State), s.sprAt 0 = true ∧ s.spr.inside = true ∧ e ≠ .uncorrectable) ∧
    (∃ (gd : Fin 16) (ga : Fin 16) (gb : Fin 16) (e : SprEcc) (s : State), s.sprAt (encReg 0x01 gd ga gb) = true ∧ s.spr.inside = true ∧ e ≠ .uncorrectable) ∧
    (∃ (gd : Fin 16) (ga : Fin 16) (gb : Fin 16) (e : SprEcc) (s : State), s.sprAt (encReg 0x02 gd ga gb) = true ∧ s.spr.inside = true ∧ e ≠ .uncorrectable) ∧
    (∃ (gd : Fin 16) (ga : Fin 16) (gb : Fin 16) (e : SprEcc) (s : State), s.sprAt (encReg 0x03 gd ga gb) = true ∧ s.spr.inside = true ∧ e ≠ .uncorrectable) ∧
    (∃ (gd : Fin 16) (ga : Fin 16) (gb : Fin 16) (e : SprEcc) (s : State), s.sprAt (encReg 0x04 gd ga gb) = true ∧ s.spr.inside = true ∧ e ≠ .uncorrectable) ∧
    (∃ (gd : Fin 16) (ga : Fin 16) (gb : Fin 16) (e : SprEcc) (s : State), s.sprAt (encReg 0x05 gd ga gb) = true ∧ s.spr.inside = true ∧ e ≠ .uncorrectable) ∧
    (∃ (gd : Fin 16) (ga : Fin 16) (gb : Fin 16) (e : SprEcc) (s : State), s.sprAt (encReg 0x06 gd ga gb) = true ∧ s.spr.inside = true ∧ e ≠ .uncorrectable) ∧
    (∃ (gd : Fin 16) (ga : Fin 16) (gb : Fin 16) (e : SprEcc) (s : State), s.sprAt (encReg 0x07 gd ga gb) = true ∧ s.spr.inside = true ∧ e ≠ .uncorrectable) ∧
    (∃ (gd : Fin 16) (ga : Fin 16) (gb : Fin 16) (e : SprEcc) (s : State), s.sprAt (encReg 0x08 gd ga gb) = true ∧ s.spr.inside = true ∧ e ≠ .uncorrectable) ∧
    (∃ (gd : Fin 16) (ga : Fin 16) (gb : Fin 16) (e : SprEcc) (s : State), s.sprAt (encReg 0x09 gd ga gb) = true ∧ s.spr.inside = true ∧ e ≠ .uncorrectable) ∧
    (∃ (gd : Fin 16) (ga : Fin 16) (gb : Fin 16) (e : SprEcc) (s : State), s.sprAt (encReg 0x0A gd ga gb) = true ∧ s.spr.inside = true ∧ e ≠ .uncorrectable) ∧
    (∃ (gd : Fin 16) (ga : Fin 16) (gb : Fin 16) (e : SprEcc) (s : State), s.sprAt (encReg 0x0B gd ga gb) = true ∧ s.spr.inside = true ∧ e ≠ .uncorrectable) ∧
    (∃ (gd : Fin 16) (ga : Fin 16) (gb : Fin 16) (e : SprEcc) (s : State), s.sprAt (encReg 0x0C gd ga gb) = true ∧ s.spr.inside = true ∧ e ≠ .uncorrectable) ∧
    (∃ (gd : Fin 16) (ga : Fin 16) (gb : Fin 16) (e : SprEcc) (s : State), s.sprAt (encReg 0x0D gd ga gb) = true ∧ s.spr.inside = true ∧ e ≠ .uncorrectable) ∧
    (∃ (gd : Fin 16) (ga : Fin 16) (e : SprEcc) (s : State), s.sprAt (encReg 0x0E gd ga 0) = true ∧ s.spr.inside = true ∧ e ≠ .uncorrectable) ∧
    (∃ (ga : Fin 16) (gb : Fin 16) (e : SprEcc) (s : State), s.sprAt (encReg 0x0F 0 ga gb) = true ∧ s.spr.inside = true ∧ e ≠ .uncorrectable) ∧
    (∃ (gd : Fin 16) (ga : Fin 16) (imm : BitVec 18) (e : SprEcc) (s : State), s.sprAt (encImm 0x10 gd ga imm) = true ∧ s.spr.inside = true ∧ e ≠ .uncorrectable) ∧
    (∃ (gd : Fin 16) (imm : BitVec 18) (e : SprEcc) (s : State), s.sprAt (encImm 0x11 gd 0 imm) = true ∧ s.spr.inside = true ∧ e ≠ .uncorrectable) ∧
    (∃ (gd : Fin 16) (ga : Fin 16) (imm : BitVec 18) (e : SprEcc) (s : State), s.sprAt (encImm 0x12 gd ga imm) = true ∧ s.spr.inside = true ∧ e ≠ .uncorrectable) ∧
    (∃ (gd : Fin 16) (ga : Fin 16) (imm : BitVec 18) (e : SprEcc) (s : State), s.sprAt (encImm 0x13 gd ga imm) = true ∧ s.spr.inside = true ∧ e ≠ .uncorrectable) ∧
    (∃ (ga : Fin 16) (imm : BitVec 18) (e : SprEcc) (s : State), s.sprAt (encImm 0x14 0 ga imm) = true ∧ s.spr.inside = true ∧ e ≠ .uncorrectable) ∧
    (∃ (gd : Fin 16) (ga : Fin 16) (sh : Fin 32) (e : SprEcc) (s : State), s.sprAt (encImm 0x15 gd ga (BitVec.ofNat 18 sh.val)) = true ∧ s.spr.inside = true ∧ e ≠ .uncorrectable) ∧
    (∃ (gd : Fin 16) (ga : Fin 16) (sh : Fin 32) (e : SprEcc) (s : State), s.sprAt (encImm 0x16 gd ga (BitVec.ofNat 18 sh.val)) = true ∧ s.spr.inside = true ∧ e ≠ .uncorrectable) ∧
    (∃ (gd : Fin 16) (ga : Fin 16) (sh : Fin 32) (e : SprEcc) (s : State), s.sprAt (encImm 0x17 gd ga (BitVec.ofNat 18 sh.val)) = true ∧ s.spr.inside = true ∧ e ≠ .uncorrectable) ∧
    (∃ (s : State), s.sprReady 0 = false) :=
  ⟨⟨.clean, { spr := { run := .running } }, by decide +kernel⟩,
   ⟨14, 12, 14, .clean, { spr := { pc := 6988, run := .running, prog := [(6988, 129204224)] } }, by decide +kernel⟩,
   ⟨14, 12, 14, .clean, { spr := { pc := 6988, run := .running, prog := [(6988, 196313088)] } }, by decide +kernel⟩,
   ⟨14, 12, 14, .clean, { spr := { pc := 6988, run := .running, prog := [(6988, 263421952)] } }, by decide +kernel⟩,
   ⟨14, 12, 14, .clean, { spr := { pc := 6988, run := .running, prog := [(6988, 330530816)] } }, by decide +kernel⟩,
   ⟨14, 12, 14, .clean, { spr := { pc := 6988, run := .running, prog := [(6988, 397639680)] } }, by decide +kernel⟩,
   ⟨14, 12, 14, .clean, { spr := { pc := 6988, run := .running, prog := [(6988, 464748544)] } }, by decide +kernel⟩,
   ⟨14, 12, 14, .clean, { spr := { pc := 6988, run := .running, prog := [(6988, 531857408)] } }, by decide +kernel⟩,
   ⟨14, 12, 14, .clean, { spr := { pc := 6988, run := .running, prog := [(6988, 598966272)] } }, by decide +kernel⟩,
   ⟨14, 12, 14, .clean, { spr := { pc := 6988, run := .running, prog := [(6988, 666075136)] } }, by decide +kernel⟩,
   ⟨3, 11, 3, .clean, { spr := { pc := 7023, run := .running, prog := [(7023, 686604288)] } }, by decide +kernel⟩,
   ⟨3, 11, 3, .clean, { spr := { pc := 7023, run := .running, prog := [(7023, 753713152)] } }, by decide +kernel⟩,
   ⟨3, 11, 3, .clean, { spr := { pc := 7023, run := .running, prog := [(7023, 820822016)] } }, by decide +kernel⟩,
   ⟨3, 11, 3, .clean, { spr := { pc := 7023, run := .running, prog := [(7023, 887930880)] } }, by decide +kernel⟩,
   ⟨15, 9, .clean, { spr := { pc := 4114, run := .running, prog := [(4114, 1004797952)] } }, by decide +kernel⟩,
   ⟨15, 9, .clean, { spr := { pc := 4114, run := .running, prog := [(4114, 1010712576)] } }, by decide +kernel⟩,
   ⟨1, 9, 21944, .clean, { spr := { pc := 6559, run := .running, prog := [(6559, 1080317368)] } }, by decide +kernel⟩,
   ⟨3, 79283, .clean, { spr := { pc := 7023, run := .running, prog := [(7023, 1153512883)] } }, by decide +kernel⟩,
   ⟨1, 9, 21944, .clean, { spr := { pc := 6559, run := .running, prog := [(6559, 1214535096)] } }, by decide +kernel⟩,
   ⟨1, 9, 21944, .clean, { spr := { pc := 6559, run := .running, prog := [(6559, 1281643960)] } }, by decide +kernel⟩,
   ⟨3, 79283, .clean, { spr := { pc := 7023, run := .running, prog := [(7023, 1343042995)] } }, by decide +kernel⟩,
   ⟨3, 11, 19, .clean, { spr := { pc := 7023, run := .running, prog := [(7023, 1424752659)] } }, by decide +kernel⟩,
   ⟨3, 11, 19, .clean, { spr := { pc := 7023, run := .running, prog := [(7023, 1491861523)] } }, by decide +kernel⟩,
   ⟨3, 11, 19, .clean, { spr := { pc := 7023, run := .running, prog := [(7023, 1558970387)] } }, by decide +kernel⟩,
   ⟨{} , by decide +kernel⟩⟩

theorem witness_spar_memory_and_mac :
    (∃ (g : Fin 16) (ag : Fin 8) (pm : Bool) (e : SprEcc) (d : SprEcc) (s : State), s.sprAt (encMem 0x18 g ag pm) = true ∧ s.spr.inside = true ∧ e ≠ .uncorrectable ∧ d ≠ .uncorrectable ∧ ((s.spr.user = true → ag.val < 4)) ∧ (s.spr.ag.get ag).p.toNat < 0x20000 ∧ (s.spr.ag.get ag).p.toNat % 4 = 0 ∧ ((s.spr.user = true → 0x2000 ≤ (s.spr.ag.get ag).p.toNat % 0x10000))) ∧
    (∃ (g : Fin 16) (ag : Fin 8) (pm : Bool) (e : SprEcc) (s : State), s.sprAt (encMem 0x18 g ag pm) = true ∧ e ≠ .uncorrectable ∧ ((s.spr.user = true → ag.val < 4)) ∧ (s.spr.ag.get ag).p.toNat < 0x20000 ∧ (s.spr.ag.get ag).p.toNat % 4 = 0 ∧ ((s.spr.user = true → 0x2000 ≤ (s.spr.ag.get ag).p.toNat % 0x10000))) ∧
    (∃ (g : Fin 16) (ag : Fin 8) (pm : Bool) (e : SprEcc) (s : State), s.sprAt (encMem 0x19 g ag pm) = true ∧ s.spr.inside = true ∧ e ≠ .uncorrectable ∧ ((s.spr.user = true → ag.val < 4)) ∧ (s.spr.ag.get ag).p.toNat < 0x20000 ∧ (s.spr.ag.get ag).p.toNat % 4 = 0 ∧ ((s.spr.user = true → 0x2000 ≤ (s.spr.ag.get ag).p.toNat % 0x10000))) ∧
    (∃ (g : SprAg), g.l = 0) ∧
    (∃ (g : SprAg), g.l ≠ 0 ∧ g.b.toNat + g.l.toNat ≤ 2 ^ 32) ∧
    (∃ (g : Fin 16) (ga : Fin 16) (imm : BitVec 18) (e : SprEcc) (s : State), s.sprAt (encImm 0x1A g ga imm) = true ∧ e ≠ .uncorrectable ∧ (s.spr.reg ga + imm.signExtend 32).toNat % 4 = 0 ∧ ((s.spr.user = true → s.sprMay (s.spr.reg ga + imm.signExtend 32).toNat false = true))) ∧
    (∃ (g : Fin 16) (ga : Fin 16) (imm : BitVec 18) (e : SprEcc) (s : State), s.sprAt (encImm 0x1B g ga imm) = true ∧ e ≠ .uncorrectable ∧ (s.spr.reg ga + imm.signExtend 32).toNat % 4 = 0 ∧ ((s.spr.user = true → s.sprMay (s.spr.reg ga + imm.signExtend 32).toNat true = true))) ∧
    (∃ (cycles : Nat) (g : Nat) (a : Nat) (wrong : BitVec 2) (e : SprEcc) (v : Word) (w : Word) (s : State), s.spr.run = .io false g a v ∧ s.awake = true ∧ s.spr.haltPend = false ∧ s.spr.leave = false ∧ ((s.ioStalled false cycles).busRead .spar a 2 wrong e).brd.resp = .data w.toNat ∧ ((s.ioStalled false cycles).busRead .spar a 2 wrong e).spr.inside = true) ∧
    (∃ (cycles : Nat) (g : Nat) (a : Nat) (v : Word) (s : State), s.spr.run = .io true g a v ∧ s.awake = true ∧ s.spr.user = false ∧ ((s.ioStalled true cycles).busWrite .spar a 2 v.toNat).brd.resp = .done ∧ ((s.ioStalled true cycles).busWrite .spar a 2 v.toNat).spr.run = .io true g a v ∧ ((s.ioStalled true cycles).busWrite .spar a 2 v.toNat).spr.haltPend = false ∧ ((s.ioStalled true cycles).busWrite .spar a 2 v.toNat).spr.leave = false ∧ ((s.ioStalled true cycles).busWrite .spar a 2 v.toNat).spr.inside = true) ∧
    (∃ (cycles : Nat) (g : Nat) (a : Nat) (k : Nat) (wrong : BitVec 2) (e : SprEcc) (v : Word) (s : State), s.spr.run = .io false g a v ∧ s.awake = true ∧ ((s.ioStalled false cycles).busRead .spar a 2 wrong e).brd.resp = .error k ∧ ((s.ioStalled false cycles).busRead .spar a 2 wrong e).spr.run = .io false g a v) ∧
    (∃ (g : Nat) (a : Nat) (b : Bool) (v : Word) (s : State), s.spr.run = .io b g a v ∧ s.awake = true) ∧
    (∃ (s : State), s.spr.haltPend = false ∧ s.spr.leave = false) ∧
    (∃ (s : State), s.spr.haltPend = true) ∧
    (∃ (g : Fin 16) (ag : Fin 8) (f : Fin 4) (e : SprEcc) (s : State), s.sprAt (encAgf 0x1C g ag f) = true ∧ s.spr.inside = true ∧ e ≠ .uncorrectable ∧ ((s.spr.user = true → ag.val < 4))) ∧
    (∃ (g : Fin 16) (ag : Fin 8) (f : Fin 4) (e : SprEcc) (s : State), s.sprAt (encAgf 0x1D g ag f) = true ∧ s.spr.inside = true ∧ e ≠ .uncorrectable ∧ ((s.spr.user = true → ag.val < 4))) ∧
    (∃ (agx : Fin 8) (agy : Fin 8) (clr : Bool) (neg : Bool) (xreg : Bool) (gx : Fin 16) (e : SprEcc) (ds : List SprEcc) (s : State), s.sprAt (encMac4 agx agy clr neg xreg gx) = true ∧ s.spr.inside = true ∧ e ≠ .uncorrectable ∧ .uncorrectable ∉ ds.take (if xreg then 4 else 5) ∧ s.spr.mac4Check agx agy xreg = none ∧ ((xreg = true → agx = 0))) ∧
    (∃ (agx : Fin 8) (agy : Fin 8) (clr : Bool) (neg : Bool) (p : Fin 2) (e : SprEcc) (ds : List SprEcc) (s : State), s.sprAt (encMac2 agx agy clr neg p) = true ∧ s.spr.inside = true ∧ e ≠ .uncorrectable ∧ .uncorrectable ∉ ds.take 4 ∧ s.spr.mac2Check agx agy = none) ∧
    (∃ (ga : Fin 16) (gb : Fin 16) (k : Fin 4) (clr : Bool) (neg : Bool) (e : SprEcc) (s : State), s.sprAt (encMacr ga gb k clr neg) = true ∧ s.spr.inside = true ∧ e ≠ .uncorrectable) ∧
    (∃ (gd : Fin 16) (k : Fin 4) (clr : Bool) (e : SprEcc) (s : State), s.sprAt (encAcc 0x23 gd k clr) = true ∧ s.spr.inside = true ∧ e ≠ .uncorrectable) ∧
    (∃ (g : Fin 16) (k : Fin 4) (e : SprEcc) (s : State), s.sprAt (encAcc 0x24 g k false) = true ∧ s.spr.inside = true ∧ e ≠ .uncorrectable) ∧
    (∃ (mask : BitVec 4) (e : SprEcc) (s : State), s.sprAt (encCtl 0x25 mask.toNat 0) = true ∧ s.spr.inside = true ∧ e ≠ .uncorrectable) ∧
    (∃ (i : Initiator) (s : State), s.mayAccess i = true ∧ s.get (SPR.MEM_ADDR_ADDR.forInit i.code) < 0x30080 ∧ ((0x30000 ≤ s.get (SPR.MEM_ADDR_ADDR.forInit i.code) → s.brd.parityBad.contains (0x100310000 + s.get (SPR.MEM_ADDR_ADDR.forInit i.code) / 4 * 4) = false))) ∧
    (∃ (i : Initiator) (s : State), s.mayAccess i = true ∧ s.get (SPR.MEM_ADDR_ADDR.forInit i.code) < 0x30000) ∧
    (∃ (i : Initiator) (e : SprEcc) (s : State), s.mayAccess i = true ∧ 0x30000 ≤ s.get (SPR.MEM_ADDR_ADDR.forInit i.code) ∧ s.get (SPR.MEM_ADDR_ADDR.forInit i.code) < 0x30080 ∧ e ≠ .clean) ∧
    (∃ (i : Initiator) (s : State), s.mayAccess i = true ∧ s.pendingOf i.code = none ∧ s.get (SPR.MEM_ADDR_ADDR.forInit i.code) < 0x30080 ∧ s.memLocked (s.get (SPR.MEM_ADDR_ADDR.forInit i.code) / 4 * 4) = false) ∧
    (∃ (a : Nat), a % 4 = 0 ∧ a < 0x30080) ∧
    (∃ (i : Initiator) (s : State), s.mayAccess i = true ∧ s.pendingOf i.code = none ∧ s.get (SPR.MEM_ADDR_ADDR.forInit i.code) < 0x10000 ∧ s.spr.run ≠ .halted) ∧
    (∃ (i : Initiator) (s : State), s.mayAccess i = true ∧ 0x30080 ≤ s.get (SPR.MEM_ADDR_ADDR.forInit i.code)) :=
  ⟨⟨12, 1, true, .clean, .corrected, { spr := { pc := 6374, run := .running, prog := [(6374, 1661730816)] } }, by decide +kernel⟩,
   ⟨7, 1, false, .clean, { spr := { pc := 5102, run := .running, prog := [(5102, 1640497152)] } }, by decide +kernel⟩,
   ⟨7, 1, false, .clean, { spr := { pc := 5102, run := .running, prog := [(5102, 1707606016)] } }, by decide +kernel⟩,
   ⟨{}, by decide +kernel⟩,
   ⟨{ l := 1 }, by decide +kernel⟩,
   ⟨10, 4, 2, .corrected, { spr := { lo := (vset (Vector.replicate 8 0) 4 880021314), pc := 6901, run := .running, prog := [(6901, 1787822082)] } }, by decide +kernel⟩,
   ⟨10, 4, 2, .corrected, { spr := { lo := (vset (Vector.replicate 8 0) 4 880021314), pc := 6901, run := .running, prog := [(6901, 1854930946)] } }, by decide +kernel⟩,
   ⟨0, 6, 655364, 0, .clean, 2886238340, 0, { spr := { run := (.io false 6 655364 0xac088084#32) } }, by decide +kernel⟩,
   ⟨0, 6, 655364, 2886238340, { spr := { run := (.io true 6 655364 0xac088084#32) } }, by decide +kernel⟩,
   ⟨0, 2, 251658240, 4, 0, .clean, 1818453500, { spr := { run := (.io false 2 251658240 0x6c6365fc#32) } }, by decide +kernel⟩,
   ⟨5007, 655420, false, 303168763, { spr := { run := (.io false 5007 655420 0x1211fcfb#32) } }, by decide +kernel⟩,
   ⟨{}, by decide +kernel⟩,
   ⟨{ spr := { haltPend := true } }, by decide +kernel⟩,
   ⟨12, 0, 2, .corrected, { spr := { pc := 6779, run := .running, prog := [(6779, 1929641984)] } }, by decide +kernel⟩,
   ⟨12, 0, 2, .corrected, { spr := { pc := 6779, run := .running, prog := [(6779, 1996750848)] } }, by decide +kernel⟩,
   ⟨0, 3, true, false, true, 8, .corrected, [], { spr := { pc := 5758, run := .running, prog := [(5758, 2151350272)] } }, by decide +kernel⟩,
   ⟨2, 3, false, false, 0, .clean, [], { spr := { pc := 6720, run := .running, prog := [(6720, 2234515456)] } }, by decide +kernel⟩,
   ⟨12, 15, 2, false, false, .clean, { spr := { pc := 6011, run := .running, prog := [(6011, 2336096256)] } }, by decide +kernel⟩,
   ⟨1, 1, false, .corrected, { spr := { pc := 8093, run := .running, prog := [(8093, 2354053120)] } }, by decide +kernel⟩,
   ⟨2, 3, .corrected, { spr := { pc := 7099, run := .running, prog := [(7099, 2427453440)] } }, by decide +kernel⟩,
   ⟨3, .corrected, { spr := { pc := 4520, run := .running, prog := [(4520, 2495610880)] } }, by decide +kernel⟩,
   ⟨.reel, {}, by decide +kernel⟩,
   ⟨.reel, {}, by decide +kernel⟩,
   ⟨.gondola, .corrected, { regs := [((SPR.SCALE_SHIFT 12).key, 196608)] }, by decide +kernel⟩,
   ⟨.reel, {}, by decide +kernel⟩,
   ⟨0, by decide +kernel⟩,
   ⟨.gondola, { spr := { run := .running } }, by decide +kernel⟩,
   ⟨.reel, { regs := [(211106297546752, 203432)] } , by decide +kernel⟩⟩

theorem witness_spar_control :
    (∃ (target : BitVec 14) (e : SprEcc) (s : State), s.sprAt (encCtl 0x28 0 target.toNat) = true ∧ e ≠ .uncorrectable) ∧
    (∃ (cond : BitVec 4) (target : BitVec 14) (e : SprEcc) (s : State), s.sprAt (encCtl 0x29 cond.toNat target.toNat) = true ∧ s.spr.inside = true ∧ e ≠ .uncorrectable ∧ cond.toNat ≤ 8) ∧
    (∃ (target : BitVec 14) (e : SprEcc) (s : State), s.sprAt (encCtl 0x2A 0 target.toNat) = true ∧ e ≠ .uncorrectable ∧ s.spr.rets.length < 8) ∧
    (∃ (a : Nat) (l : List Nat) (e : SprEcc) (s : State), s.sprAt (encCtl 0x2B 0 0) = true ∧ e ≠ .uncorrectable ∧ s.spr.rets = a :: l ∧ a < 0x4000) ∧
    (∃ (ga : Fin 16) (last : BitVec 14) (e : SprEcc) (s : State), s.sprAt (encCtl 0x2C ga.val last.toNat) = true ∧ e ≠ .uncorrectable ∧ s.spr.loops.length < 2 ∧ s.spr.reg ga ≠ 0 ∧ s.spr.pc < 0x3FFF) ∧
    (∃ (ga : Fin 16) (last : BitVec 14) (e : SprEcc) (s : State), s.sprAt (encCtl 0x2C ga.val last.toNat) = true ∧ e ≠ .uncorrectable ∧ s.spr.loops.length < 2 ∧ s.spr.reg ga = 0 ∧ (loopNext last.toNat s.spr.loops).1 < 0x4000) ∧
    (∃ (mask : BitVec 8) (e : SprEcc) (s : State), s.sprAt (encCtl 0x2D 0 mask.toNat) = true ∧ e ≠ .uncorrectable ∧ mask ≠ 0 ∧ s.get SPR.EVT_PEND &&& mask.toNat = 0) ∧
    (∃ (mask : BitVec 8) (e : SprEcc) (s : State), s.sprAt (encCtl 0x2D 0 mask.toNat) = true ∧ s.spr.inside = true ∧ e ≠ .uncorrectable ∧ s.get SPR.EVT_PEND &&& mask.toNat ≠ 0 ∧ s.spr.haltPend = false ∧ s.spr.leave = false) ∧
    (∃ (mask : Nat) (s : State), s.spr.run = .waiting mask ∧ s.awake = true ∧ s.get SPR.EVT_PEND &&& mask ≠ 0 ∧ s.spr.inside = true ∧ s.spr.haltPend = false ∧ s.spr.leave = false) ∧
    (∃ (mask : Nat) (s : State), s.spr.run = .waiting mask ∧ s.get SPR.EVT_PEND &&& mask = 0) ∧
    (∃ (e : SprEcc) (s : State), s.sprAt (encCtl 0x2E 0 1) = true ∧ s.spr.inside = true ∧ e ≠ .uncorrectable) ∧
    (∃ (e : SprEcc) (s : State), s.sprAt (encCtl 0x2E 0 0) = true ∧ s.spr.inside = true ∧ e ≠ .uncorrectable ∧ s.get SND.CTRL_TRIG_SRC = 2 ∧ s.snd.armed = true ∧ s.flag SND.CTRL_MODE = false ∧ s.flag SND.STATUS_RUNNING = false ∧ s.seqLong = false) ∧
    (∃ (n : BitVec 8) (e : SprEcc) (s : State), s.sprAt (encCtl 0x2F 0 n.toNat) = true ∧ e ≠ .uncorrectable ∧ s.spr.user = true ∧ n.toNat < 3) ∧
    (∃ (n : BitVec 8) (e : SprEcc) (s : State), s.sprAt (encCtl 0x2F 0 n.toNat) = true ∧ e ≠ .uncorrectable ∧ s.spr.user = false) ∧
    (∃ (n : BitVec 8) (s : State), s.sprAt (encCtl 0x2F 0 n.toNat) = true ∧ s.spr.user = true ∧ 3 ≤ n.toNat) ∧
    (∃ (s : State), s.awake = true ∧ s.spr.run = .running ∧ s.spr.user = false ∧ s.spr.service = some 0) ∧
    (∃ (s : State), s.awake = true ∧ s.spr.run = .running ∧ s.spr.user = false ∧ s.spr.service = some 1) ∧
    (∃ (s : State), s.awake = true ∧ s.spr.run = .running ∧ s.spr.user = false ∧ s.spr.service = some 2) ∧
    (∃ (u : Bool) (target : BitVec 14) (e : SprEcc) (s : State), s.sprAt (0x30 * 2 ^ 26 + u.toNat * 2 ^ 25 + target.toNat) = true ∧ e ≠ .uncorrectable ∧ s.spr.user = false ∧ ((u = true → s.spr.savedPc < 0x4000)) ∧ s.retuOpen u target.toNat = true ∧ s.flag SPR.CMD_USER_RESTART = false) ∧
    (∃ (u : Bool) (target : BitVec 14) (s : State), s.spr.user = false ∧ s.retuOpen u target.toNat = false) ∧
    (∃ (u : Bool) (target : BitVec 14) (s : State), s.sprAt (0x30 * 2 ^ 26 + u.toNat * 2 ^ 25 + target.toNat) = true ∧ s.spr.user = true) ∧
    (∃ (e : SprEcc) (s : State), s.sprAt (encCtl 0x31 0 0) = true ∧ s.spr.inside = true ∧ e ≠ .uncorrectable ∧ s.spr.user = false) ∧
    (∃ (s : State), s.sprAt (encCtl 0x31 0 0) = true ∧ s.spr.user = true) ∧
    (∃ (w : Word) (s : State), s.sprAt w.toNat = true ∧ sprLegal w.toNat = false) ∧
    (∃ (s : State), s.spr.user = false ∧ s.spr.privFault = none) ∧
    (∃ (x : Nat) (s : State), s.spr.user = false ∧ s.spr.privFault = some x ∧ s.since x ≤ 1000) ∧
    (∃ (s : State), s.spr.user = true) ∧
    (∃ (c : Nat) (s : State), ((s.get SPR.TIMER_PERIOD = 0 ∨ c < max 1200 (s.get SPR.TIMER_PERIOD)))) ∧
    (∃ (c : Nat) (s : State), s.get SPR.TIMER_PERIOD ≠ 0 ∧ max 1200 (s.get SPR.TIMER_PERIOD) ≤ c ∧ s.awake = true) ∧
    (∃ (k : Nat) (m : Nat) (s : State), s.awake = true ∧ s.spr.user = true ∧ ((s.spr.run = .running ∨ s.spr.run = .waiting m)) ∧ s.preemptBit = some k) ∧
    (∃ (s : State), s.spr.user = false) ∧
    (∃ (s : State), s.awake = true ∧ s.spr.run = .halted ∧ s.spr.lasting = false) ∧
    (∃ (s : State), s.awake = true ∧ ((s.spr.run ≠ .halted ∨ s.spr.lasting = true))) ∧
    (∃ (m : Nat) (issue : Bool) (s : State), s.awake = true ∧ ((s.spr.run = .running ∨ (s.spr.run = .waiting m ∧ issue = false)))) ∧
    (∃ (w : Bool) (g : Nat) (a : Nat) (m : Nat) (v : Word) (issue : Bool) (s : State), s.awake = true ∧ ((s.spr.run = .io w g a v ∨ (s.spr.run = .waiting m ∧ issue = true)))) ∧
    (∃ (i : Initiator) (v : Bool) (s : State), i ≠ .gondola ∧ v = s.flag SPR.CTRL_RUN) ∧
    (∃ (i : Initiator) (v : Bool) (s : State), s.awake = true ∧ i ≠ .gondola ∧ v ≠ s.flag SPR.CTRL_RUN) ∧
    (∃ (s : State), s.awake = true ∧ s.flag SPR.STATUS_USER_LOADED = true ∧ s.flag SPR.CTRL_USER_EN = true) ∧
    (∃ (s : State), ((s.flag SPR.STATUS_USER_LOADED = false ∨ s.flag SPR.CTRL_USER_EN = false))) ∧
    (∃ (s : State), s.awake = true) ∧
    (∃ (s : State), s.awake = true) :=
  ⟨⟨5661, .clean, { spr := { pc := 6723, run := .running, prog := [(6723, 2684360221)] } }, by decide +kernel⟩,
   ⟨4, 3, .clean, { spr := { pc := 6059, run := .running, prog := [(6059, 2768240643)] } }, by decide +kernel⟩,
   ⟨5661, .clean, { spr := { pc := 6723, run := .running, prog := [(6723, 2818577949)] } }, by decide +kernel⟩,
   ⟨0, [0, 7], .clean, { spr := { pc := 7524, retP := [0, 0, 7], run := .running, prog := [(7524, 2885681152)] } }, by decide +kernel⟩,
   ⟨10, 4119, .clean, { spr := { priv8 := (vset (Vector.replicate 8 0) 2 1), pc := 6877, run := .running, prog := [(6877, 2994737175)] } }, by decide +kernel⟩,
   ⟨0, 2, .corrected, { spr := { pc := 6723, run := .running, prog := [(6723, 2952790018)] } }, by decide +kernel⟩,
   ⟨29, .clean, { spr := { pc := 6723, run := .running, prog := [(6723, 3019898909)] } }, by decide +kernel⟩,
   ⟨29, .clean, { regs := [((SPR.SCALE_SHIFT 5).key, 1)], spr := { pc := 6723, run := .running, prog := [(6723, 3019898909)] } }, by decide +kernel⟩,
   ⟨1, { regs := [((SPR.SCALE_SHIFT 5).key, 1)], spr := { run := (.waiting 1) } }, by decide +kernel⟩,
   ⟨65449, { spr := { run := (.waiting 65449) } }, by decide +kernel⟩,
   ⟨.corrected, { spr := { pc := 5584, run := .running, prog := [(5584, 3087007745)] } }, by decide +kernel⟩,
   ⟨.corrected, { regs := [(SND.CTRL_TRIG_SRC.key, 2)], snd := { armed := true }, spr := { pc := 5584, run := .running, prog := [(5584, 3087007744)] } }, by decide +kernel⟩,
   ⟨1, .corrected, { spr := { pc := 4556, user := true, run := .running, prog := [(4556, 3154116609)] } }, by decide +kernel⟩,
   ⟨7, .corrected, { spr := { pc := 6225, run := .running, prog := [(6225, 3154116615)] } }, by decide +kernel⟩,
   ⟨172, { spr := { pc := 4601, user := true, run := .running, prog := [(4601, 3154116780)] } }, by decide +kernel⟩,
   ⟨{ spr := { run := .running, service := (some 0) } }, by decide +kernel⟩,
   ⟨{ spr := { run := .running, service := (some 1) } }, by decide +kernel⟩,
   ⟨{ spr := { run := .running, service := (some 2) } }, by decide +kernel⟩,
   ⟨false, 0, .clean, { spr := { pc := 6276, run := .running, prog := [(6276, 3221225472)] } }, by decide +kernel⟩,
   ⟨false, 0, { spr := { exec := (some 0) } }, by decide +kernel⟩,
   ⟨false, 0, { spr := { pc := 4601, user := true, run := .running, prog := [(4601, 3221225472)] } }, by decide +kernel⟩,
   ⟨.corrected, { spr := { pc := 5584, run := .running, prog := [(5584, 3288334336)] } }, by decide +kernel⟩,
   ⟨{ spr := { pc := 4601, user := true, run := .running, prog := [(4601, 3288334336)] } }, by decide +kernel⟩,
   ⟨2326026156, { spr := { pc := 4601, run := .running, prog := [(4601, 2326026156)] } }, by decide +kernel⟩,
   ⟨{}, by decide +kernel⟩,
   ⟨32572, { now := 32572, spr := { privFault := (some 32572) } }, by decide +kernel⟩,
   ⟨{ spr := { user := true } }, by decide +kernel⟩,
   ⟨0, {}, by decide +kernel⟩,
   ⟨1869, { regs := [((SPR.SCALE_SHIFT 4).key, 1)] }, by decide +kernel⟩,
   ⟨2, 0, { regs := [((SPR.SCALE_SHIFT 5).key, 4), ((SPR.SCALE_SHIFT 6).key, 20)], spr := { user := true, run := .running } }, by decide +kernel⟩,
   ⟨{}, by decide +kernel⟩,
   ⟨{}, by decide +kernel⟩,
   ⟨{ spr := { lasting := true } }, by decide +kernel⟩,
   ⟨0, false, { spr := { run := .running } }, by decide +kernel⟩,
   ⟨false, 1, 62738, 0, 3, false, { spr := { run := (.io false 1 62738 0x00000003#32) } }, by decide +kernel⟩,
   ⟨.pcie, false, {}, by decide +kernel⟩,
   ⟨.pcie, true, {}, by decide +kernel⟩,
   ⟨{ regs := [(SPR.STATUS_USER_LOADED.key, 1)] }, by decide +kernel⟩,
   ⟨{}, by decide +kernel⟩,
   ⟨{}, by decide +kernel⟩,
   ⟨{} , by decide +kernel⟩⟩

theorem witness_thermal_unit :
    (∃ (s : State), s.awake = true) ∧
    (∃ (s : State), s.awake = false) ∧
    (∃ (d : Fin 12) (s : State), s.thm.hist.length = 12 ∧ (s.thm.hist.getD d []).length < 599) ∧
    (∃ (s : State), ((s.tj < 880 ∨ (s.flag THM.STATUS_TRIPPED = true ∧ ∀ n : Lane, (s.sf n).gate.contains 9 = true)))) ∧
    (∃ (s : State), 880 ≤ s.tj ∧ s.flag THM.STATUS_TRIPPED = false) ∧
    (∃ (n : Lane) (s : State), 880 ≤ s.tj ∧ s.flag THM.STATUS_TRIPPED = true ∧ (s.sf n).gate.contains 9 = false) ∧
    (∃ (us : Nat) (s : State), ((us < 100000 ∨ s.awake = false ∨ s.diodeSlots s.thm.next = []))) ∧
    (∃ (us : Nat) (x : Int) (s : State), 100000 ≤ us ∧ s.awake = true ∧ s.diodeSlots s.thm.next ≠ [] ∧ (s.geti (THM.OD_TEMP s.thm.next) - x).natAbs ≤ 24) ∧
    (∃ (us : Nat) (x : Int) (s : State), 100000 ≤ us ∧ s.awake = true ∧ s.diodeSlots s.thm.next ≠ [] ∧ 24 < (s.geti (THM.OD_TEMP s.thm.next) - x).natAbs ∧ ((s.thm.diff.getD s.thm.next false = false ∨ s.dsFault s.thm.next = true))) ∧
    (∃ (us : Nat) (x : Int) (s : State), 100000 ≤ us ∧ s.awake = true ∧ s.diodeSlots s.thm.next ≠ [] ∧ 24 < (s.geti (THM.OD_TEMP s.thm.next) - x).natAbs ∧ s.thm.diff.getD s.thm.next false = true ∧ s.dsFault s.thm.next = false) ∧
    (∃ (c : Fin 8) (us : Nat) (a : Int) (b : Nat) (s : State), ((s.awake = false ∨ s.flag (THM.EXT_CFG_EN c) = false ∨ us < s.extPeriod c ∨ s.extMeasured c a b = none))) ∧
    (∃ (c : Fin 8) (us : Nat) (a : Int) (b : Nat) (m : Int × Nat) (s : State), s.awake = true ∧ s.flag (THM.EXT_CFG_EN c) = true ∧ s.extPeriod c ≤ us ∧ s.extMeasured c a b = some m) ∧
    (∃ (c : Fin 8) (x : Int) (y : Int) (s : State), c.val < 4 ∧ s.slotRead ⟨0x60 + c, 3, 2, 50, 0, 10⟩ = some x ∧ s.slotRead ⟨0x60 + c, 3, 2, 50, 0, 100⟩ = some y) ∧
    (∃ (c : Fin 8) (a : Int) (b : Nat) (s : State), (if c.val < 4 then rdTemp (s.get (THM.EXT_CONV_CONV c)) a b else thTemp (s.get (THM.EXT_CONV_CONV c)) a b) = none ∧ s.flag (THM.EXT_STATUS_FAULT c) = true) ∧
    (∃ (c : Fin 8) (a : Int) (b : Nat) (p : Int × Nat) (s : State), (if c.val < 4 then rdTemp (s.get (THM.EXT_CONV_CONV c)) a b else thTemp (s.get (THM.EXT_CONV_CONV c)) a b) = some p ∧ -480 ≤ s.quot 9 p.1 p.2 ∧ s.quot 9 p.1 p.2 ≤ 1200) ∧
    (∃ (c : Fin 8) (x : Int) (s : State), (x < s.geti (THM.EXT_WIN_LO c) ∨ s.geti (THM.EXT_WIN_HI c) < x)) ∧
    (∃ (c : Fin 8) (x : Int) (s : State), s.geti (THM.EXT_WIN_LO c) + 8 ≤ x ∧ x ≤ s.geti (THM.EXT_WIN_HI c) - 8) ∧
    (∃ (s : State), s.awake = true ∧ s.flag THM.STATUS_TRIPPED = true ∧ s.tj ≤ s.warnLim - 16) ∧
    (∃ (s : State), s.awake = true ∧ ((s.flag THM.STATUS_TRIPPED = false ∨ s.warnLim - 16 < s.tj))) ∧
    (∃ (s : State), s.awake = true) ∧
    (∃ (s : State), s.awake = true) ∧
    (∃ (x : Int) (s : State), s.pwr.dev = .shelf ∧ (8 * s.get THM.CTRL_SHELF_LIM : Nat) < x) ∧
    (∃ (x : Int) (s : State), ((s.pwr.dev ≠ .shelf ∨ x ≤ (8 * s.get THM.CTRL_SHELF_LIM : Nat)))) :=
  ⟨⟨{}, by decide +kernel⟩,
   ⟨{ pwr := { dev := .off } }, by decide +kernel⟩,
   ⟨0, {}, by decide +kernel⟩,
   ⟨{}, by decide +kernel⟩,
   ⟨{ regs := [((THM.OD_TEMP 3).key, 880)] }, by decide +kernel⟩,
   ⟨0, { regs := [(THM.STATUS_TRIPPED.key, 1), ((THM.OD_TEMP 3).key, 880)] }, by decide +kernel⟩,
   ⟨0, {}, by decide +kernel⟩,
   ⟨122913, 0, { thm := { next := 7 }, snd := { out := [({ input := 71, gain := 0, osr := 0, settle := 0, count := 0, exc := 0 }, 0)] } }, by decide +kernel⟩,
   ⟨149991, 25, { thm := { next := 10 }, snd := { out := [({ input := 74, gain := 0, osr := 0, settle := 0, count := 0, exc := 0 }, 0)] } }, by decide +kernel⟩,
   ⟨149991, 25, { thm := { diff := [false, false, false, false, false, false, false, false, false, false, true], next := 10 }, snd := { out := [({ input := 74, gain := 0, osr := 0, settle := 0, count := 0, exc := 0 }, 0)] } }, by decide +kernel⟩,
   ⟨0, 0, 0, 0, {}, by decide +kernel⟩,
   ⟨3, 124188, 0, 0, (450, 268435456), { regs := [((THM.EXT_CFG_EN 3).key, 1)], snd := { out := [({ input := 99, gain := 3, osr := 2, settle := 50, count := 0, exc := 10 }, 1010), ({ input := 99, gain := 3, osr := 2, settle := 50, count := 0, exc := 100 }, 1100)] } }, by decide +kernel⟩,
   ⟨3, (-2), 0, { snd := { out := [({ input := 99, gain := 3, osr := 2, settle := 50, count := 0, exc := 10 }, (-2)), ({ input := 99, gain := 3, osr := 2, settle := 50, count := 0, exc := 100 }, 0)] } }, by decide +kernel⟩,
   ⟨3, 0, 0, { regs := [((THM.EXT_STATUS_FAULT 3).key, 1)] }, by decide +kernel⟩,
   ⟨5, 1, 1, (115292150460684697600000, 576460752303423488000), { regs := [((THM.EXT_CFG_EN 5).key, 1), ((THM.EXT_CONV_CONV 5).key, 1)] }, by decide +kernel⟩,
   ⟨0, 641, {}, by decide +kernel⟩,
   ⟨0, 0, {}, by decide +kernel⟩,
   ⟨{ regs := [(THM.STATUS_TRIPPED.key, 1)] }, by decide +kernel⟩,
   ⟨{}, by decide +kernel⟩,
   ⟨{}, by decide +kernel⟩,
   ⟨{}, by decide +kernel⟩,
   ⟨681, { pwr := { dev := .shelf } }, by decide +kernel⟩,
   ⟨0, {} , by decide +kernel⟩⟩

theorem witness_laser_safety :
    (∃ (n : Lane) (a : BitVec 12) (b : BitVec 12) (s : State), (s.sf n).test = none ∧ ((s.hiMv n < a.toNat ∨ s.hiMv n < b.toNat)) ∧ ((s.flag (SAF.INFO_ARMED_LO n) = false ∨ (s.loMv n ≤ a.toNat ∧ s.loMv n ≤ b.toNat)))) ∧
    (∃ (n : Lane) (a : BitVec 12) (b : BitVec 12) (s : State), (s.sf n).test = none ∧ s.flag (SAF.INFO_ARMED_LO n) = true ∧ a.toNat ≤ s.hiMv n ∧ b.toNat ≤ s.hiMv n ∧ ((a.toNat < s.loMv n ∨ b.toNat < s.loMv n))) ∧
    (∃ (n : Lane) (a : BitVec 12) (b : BitVec 12) (s : State), a.toNat ≤ s.hiMv n ∧ b.toNat ≤ s.hiMv n ∧ ((s.flag (SAF.INFO_ARMED_LO n) = false ∨ (s.loMv n ≤ a.toNat ∧ s.loMv n ≤ b.toNat)))) ∧
    (∃ (n : Lane) (t : SafTest) (b : BitVec 12) (s : State), (s.sf n).test = some t ∧ t.stage = 0 ∧ s.loMv n ≤ b.toNat ∧ b.toNat ≤ s.hiMv n) ∧
    (∃ (n : Lane) (s : State), s.bitOf SAF.STATUS_LATCH n = true) ∧
    (∃ (n : Lane) (cause : Nat) (chan : Nat) (s : State), s.bitOf SAF.STATUS_LATCH n = false ∧ cause < 16 ∧ chan < 4) ∧
    (∃ (n : Lane) (c : Chan) (s : State), c.val % 8 = n.val ∧ c.val < 16 ∧ s.clearForced c = false) ∧
    (∃ (n : Lane) (us : Nat) (s : State), ((s.biasAbove n = false ∨ us < 800))) ∧
    (∃ (n : Lane) (us : Nat) (s : State), s.biasAbove n = true ∧ 800 ≤ us ∧ (s.sf n).test = none ∧ s.cmpHi n = 0 ∧ s.cmpLo n ≠ 0) ∧
    (∃ (n : Lane) (us : Nat) (s : State), s.biasAbove n = true ∧ 800 ≤ us ∧ s.cmpHi n = 0 ∧ s.cmpLo n = 0) ∧
    (∃ (n : Lane) (s : State), s.flag (SAF.INFO_ARMED_LO n) = true ∧ s.biasBelow n = true ∧ (s.sf n).test = none) ∧
    (∃ (n : Lane) (s : State), ((s.flag (SAF.INFO_ARMED_LO n) = false ∨ s.biasBelow n = false))) ∧
    (∃ (n : Lane) (u : Nat) (s : State), s.biasDrive (biasChan n) = .driven u) ∧
    (∃ (n : Lane) (s : State), ((s.biasDrive (biasChan n) = .highZ ∨ s.biasDrive (biasChan n) = .grounded))) ∧
    (∃ (s : State), s.awake = true ∧ s.supReady = true) ∧
    (∃ (s : State), ((s.awake = false ∨ s.supReady = false))) ∧
    (∃ (n : Lane) (x : Int) (s : State), s.lit n = true ∧ s.bitOf SAF.CTRL_SUP_GATE n = false ∧ s.supViolates n x = false) ∧
    (∃ (n : Lane) (x : Int) (tick : Bool) (s : State), ((tick = false ∨ (s.lit n = true ∧ s.supViolates n x = true)))) ∧
    (∃ (n : Lane) (x : Int) (s : State), (s.get (SAF.SUP_SUP_HI n) : Int) * 8388608 < 1250 * x) ∧
    (∃ (n : Lane) (x : Int) (s : State), 1250 * x ≤ s.get (SAF.SUP_SUP_HI n) * 8388608 ∧ (s.sf n).lit = false) ∧
    (∃ (n : Lane) (x : Int) (s : State), 1250 * x ≤ s.get (SAF.SUP_SUP_HI n) * 8388608 ∧ s.lit n = true ∧ (s.sf n).lit = true ∧ (s.sf n).supTol = 0) ∧
    (∃ (n : Lane) (s : State), s.awake = true ∧ (s.sf n).gate = []) ∧
    (∃ (n : Lane) (s : State), (s.sf n).gate ≠ []) ∧
    (∃ (s : State), s.awake = true) ∧
    (∃ (us : Nat) (s : State), s.awake = true ∧ s.flag SND.STATUS_SUP_ACTIVE = true ∧ 1000 * max 1 (min 0x32 (s.get SAF.SUPCFG_SUP_TMO)) ≤ us) ∧
    (∃ (us : Nat) (s : State), ((s.flag SND.STATUS_SUP_ACTIVE = false ∨ us < 1000 * max 1 (min 0x32 (s.get SAF.SUPCFG_SUP_TMO))))) ∧
    (∃ (s : State), s.awake = true) ∧
    (∃ (us : Nat), us < 1000) ∧
    (∃ (us : Nat), us < 1000) ∧
    (∃ (us : Nat), 1000 ≤ us) ∧
    (∃ (mv : BitVec 16), 1100 ≤ mv.toNat ∧ mv.toNat ≤ 1320) ∧
    (∃ (mv : BitVec 16), 1550 ≤ mv.toNat) ∧
    (∃ (s : State), ((s.pwr.dev = .off ∨ s.saf.uvlo = true))) ∧
    (∃ (mv : BitVec 16) (s : State), s.pwr.dev ≠ .off ∧ s.saf.uvlo = false ∧ ((mv.toNat < 1100 ∨ 1320 < mv.toNat))) ∧
    (∃ (us : Nat), 1000 ≤ us) ∧
    (∃ (mv : BitVec 16), mv.toNat < 1550) ∧
    (∃ (s : State), s.saf.uvlo = true) ∧
    (∃ (n : Lane) (s : State), s.awake = true ∧ s.bitOf SAF.STATUS_LATCH n = true) ∧
    (∃ (n : Lane) (s : State), s.awake = true ∧ s.bitOf SAF.STATUS_LATCH n = false) ∧
    (∃ (s : State), s.awake = true) :=
  ⟨⟨0, 0, 1, {}, by decide +kernel⟩,
   ⟨5, 0, 0, { regs := [((SAF.INFO_ARMED_LO 5).key, 1)] }, by decide +kernel⟩,
   ⟨0, 0, 0, {}, by decide +kernel⟩,
   ⟨0, { stage := 0, release := none, asked := false }, 16, { regs := [((SAF.LIM_HI 0).key, 16)], saf := { lane := (vset (Vector.replicate 8 {}) 0 { test := (some { stage := 0, release := none, asked := false }) }) } }, by decide +kernel⟩,
   ⟨0, {}, by decide +kernel⟩,
   ⟨0, 0, 0, { regs := [(SAF.STATUS_LATCH.key, 0)] }, by decide +kernel⟩,
   ⟨5, 5, { regs := [(SAF.STATUS_LATCH.key, 0)] }, by decide +kernel⟩,
   ⟨0, 0, {}, by decide +kernel⟩,
   ⟨4, 1063, { regs := [((BDA.OUT_OUT 4).key, 3554)] }, by decide +kernel⟩,
   ⟨6, 846, { regs := [((SAF.LIM_HI 6).key, 16), ((BDA.OUT_OUT 6).key, 3554)], saf := { lane := (vset (Vector.replicate 8 {}) 6 { mpdA := 16, mpdB := 16 }) } }, by decide +kernel⟩,
   ⟨3, { regs := [((SAF.INFO_ARMED_LO 3).key, 1)] }, by decide +kernel⟩,
   ⟨0, {}, by decide +kernel⟩,
   ⟨0, 0, {}, by decide +kernel⟩,
   ⟨0, { saf := { uvlo := true } }, by decide +kernel⟩,
   ⟨{}, by decide +kernel⟩,
   ⟨{ regs := [((BDA.OUT_OUT 7).key, 1)] }, by decide +kernel⟩,
   ⟨5, 0, { regs := [((BDA.CLR_CLR_CODE 5).key, 1)] }, by decide +kernel⟩,
   ⟨0, 0, false, {}, by decide +kernel⟩,
   ⟨0, 1, {}, by decide +kernel⟩,
   ⟨0, 0, {}, by decide +kernel⟩,
   ⟨3, 0, { regs := [((BDA.OUT_OUT 3).key, 1)], saf := { lane := (vset (Vector.replicate 8 {}) 3 { lit := true }) } }, by decide +kernel⟩,
   ⟨0, {}, by decide +kernel⟩,
   ⟨0, { saf := { lane := (vset (Vector.replicate 8 {}) 0 { gate := [0] }) } }, by decide +kernel⟩,
   ⟨{}, by decide +kernel⟩,
   ⟨16202, { regs := [(SND.STATUS_SUP_ACTIVE.key, 1)] }, by decide +kernel⟩,
   ⟨0, {}, by decide +kernel⟩,
   ⟨{}, by decide +kernel⟩,
   ⟨0, by decide +kernel⟩,
   ⟨0, by decide +kernel⟩,
   ⟨1000, by decide +kernel⟩,
   ⟨1100, by decide +kernel⟩,
   ⟨1550, by decide +kernel⟩,
   ⟨{ saf := { uvlo := true } }, by decide +kernel⟩,
   ⟨0, {}, by decide +kernel⟩,
   ⟨1000, by decide +kernel⟩,
   ⟨0, by decide +kernel⟩,
   ⟨{ saf := { uvlo := true } }, by decide +kernel⟩,
   ⟨0, {}, by decide +kernel⟩,
   ⟨0, { regs := [(SAF.STATUS_LATCH.key, 0)] }, by decide +kernel⟩,
   ⟨{} , by decide +kernel⟩⟩

theorem witness_releases_and_proof_tests :
    (∃ (lanes : BitVec 8) (s : State), s.awake = true ∧ ((∀ n : Lane, lanes.getLsbD n.val = true → s.bitOf SAF.STATUS_LATCH n = false))) ∧
    (∃ (n : Lane) (ack : BitVec 8) (s : State), s.awake = true ∧ s.bitOf SAF.STATUS_LATCH n = true ∧ s.flag CFG.BOOT_SAFE_BOOT = false ∧ s.flag TST.STATUS_SAFE_HOLD = false ∧ (s.portOf n).isSome = true ∧ s.cmpNow n = false ∧ s.bitOf SAF.STATUS_TXD_NOW n = false ∧ s.flag SAF.STATUS_CLR_PIN_NOW = false ∧ s.bitOf SAF.CTRL_SUP_GATE n = false ∧ s.flag SAF.STATUS_SUP_DEAD = false ∧ s.flag SAF.STATUS_CLK_LOSS_NOW = false ∧ s.flag SAF.STATUS_SUPPLY_NOW = false ∧ ((s.flag (SAF.INFO_LASTING n) = false ∨ ack.getLsbD n.val = true))) ∧
    (∃ (n : Lane) (ack : BitVec 8) (s : State), s.awake = true ∧ s.bitOf SAF.STATUS_LATCH n = true ∧ (((s.portOf n).isNone = true ∨ s.cmpNow n = true ∨ s.bitOf SAF.STATUS_TXD_NOW n = true ∨ s.flag SAF.STATUS_CLR_PIN_NOW = true ∨ s.bitOf SAF.CTRL_SUP_GATE n = true ∨
      s.flag SAF.STATUS_SUP_DEAD = true ∨ s.flag SAF.STATUS_CLK_LOSS_NOW = true ∨ s.flag SAF.STATUS_SUPPLY_NOW = true ∨
      (s.flag (SAF.INFO_LASTING n) = true ∧ ack.getLsbD n.val = false) ∨ s.flag CFG.BOOT_SAFE_BOOT = true ∨ s.flag TST.STATUS_SAFE_HOLD = true))) ∧
    (∃ (n : Lane) (s : State), (s.sf n).due = true ∧ (s.sf n).test = none ∧ s.braced = false) ∧
    (∃ (n : Lane) (s : State), (((s.sf n).due = false ∨ (s.sf n).test.isSome = true ∨ s.braced = true))) ∧
    (∃ (n : Lane) (t : SafTest) (s : State), (s.sf n).test = some t ∧ t.stage = 0 ∧ s.proofTripped n 0 = false) ∧
    (∃ (n : Lane) (t : SafTest) (s : State), (s.sf n).test = some t ∧ t.stage = 1 ∧ s.proofTripped n 0 = false ∧ s.proofTripped n 1 = false) ∧
    (∃ (n : Lane) (t : SafTest) (hi : Bool) (lo : Bool) (quiet : Bool) (s : State), (s.sf n).test = some t ∧ t.stage < 2 ∧ ((hi = false ∨ lo = false ∨ quiet = false ∨ s.proofTripped n t.stage = true))) ∧
    (∃ (n : Lane) (t : SafTest) (s : State), (s.sf n).test = some t ∧ t.stage = 2 ∧ t.release = none ∧ ((∀ m : Lane, m ≠ n → (s.sf m).test = none))) ∧
    (∃ (n : Lane) (ack : Bool) (asked : Bool) (s : State), (s.sf n).test = some ⟨2, some ack, asked⟩ ∧ s.flag (SAF.INFO_PROOF_A_OK n) = true ∧ s.flag (SAF.INFO_PROOF_B_OK n) = true ∧ (s.proofOver n).relRefuses n ack = false) ∧
    (∃ (n : Lane) (ack : Bool) (asked : Bool) (s : State), (s.sf n).test = some ⟨2, some ack, asked⟩ ∧ ((s.flag (SAF.INFO_PROOF_A_OK n) = false ∨ s.flag (SAF.INFO_PROOF_B_OK n) = false ∨ (s.proofOver n).relRefuses n ack = true))) ∧
    (∃ (n : Lane) (s : State), s.flag SAF.CTRL_PERIODIC_EN = true ∧ 60000 * max 1 (s.get SAF.SUPCFG_PROOF_INT) ≤ s.since (s.sf n).proofAt ∧ s.lstate n ≠ 0) ∧
    (∃ (n : Lane) (s : State), ((s.flag SAF.CTRL_PERIODIC_EN = false ∨ s.lstate n = 0))) ∧
    (∃ (s : State), s.awake = true) :=
  ⟨⟨0, {}, by decide +kernel⟩,
   ⟨6, 0, { port := (vset (Vector.replicate 8 {}) 6 { defined := true, lanes := 1 }) }, by decide +kernel⟩,
   ⟨0, 0, {}, by decide +kernel⟩,
   ⟨0, { saf := { lane := (vset (Vector.replicate 8 {}) 0 { due := true }) } }, by decide +kernel⟩,
   ⟨0, {}, by decide +kernel⟩,
   ⟨4, { stage := 0, release := (some true), asked := false }, { saf := { lane := (vset (Vector.replicate 8 {}) 4 { test := (some { stage := 0, release := (some true), asked := false }) }) } }, by decide +kernel⟩,
   ⟨4, { stage := 1, release := (some true), asked := false }, { saf := { lane := (vset (Vector.replicate 8 {}) 4 { test := (some { stage := 1, release := (some true), asked := false }) }) } }, by decide +kernel⟩,
   ⟨4, { stage := 0, release := (some true), asked := false }, false, false, false, { saf := { lane := (vset (Vector.replicate 8 {}) 4 { test := (some { stage := 0, release := (some true), asked := false }) }) } }, by decide +kernel⟩,
   ⟨4, { stage := 2, release := none, asked := false }, { saf := { lane := (vset (Vector.replicate 8 {}) 4 { test := (some { stage := 2, release := none, asked := false }) }) } }, by decide +kernel⟩,
   ⟨7, false, true, { regs := [((SAF.INFO_PROOF_A_OK 7).key, 1), ((SAF.INFO_PROOF_B_OK 7).key, 1)], saf := { lane := (vset (Vector.replicate 8 {}) 7 { test := (some { stage := 2, release := (some false), asked := true }) }) }, port := (vset (Vector.replicate 8 {}) 0 { defined := true, lanes := 8 }) }, by decide +kernel⟩,
   ⟨2, false, false, { saf := { lane := (vset (Vector.replicate 8 {}) 2 { test := (some { stage := 2, release := (some false), asked := false }) }) } }, by decide +kernel⟩,
   ⟨0, { regs := [((PORT.STATUS_STATE 0).key, 1)], saf := { lane := (vset (Vector.replicate 8 {}) 0 { proofAt := 1 }) }, port := (vset (Vector.replicate 8 {}) 0 { defined := true, lanes := 1 }) }, by decide +kernel⟩,
   ⟨0, {}, by decide +kernel⟩,
   ⟨{} , by decide +kernel⟩⟩

theorem witness_wake_sequence :
    (∃ (s : State), s.pwr.dev = .waking 1) ∧
    (∃ (s : State), s.pwr.dev = .waking 2 ∧ s.variant = true ∧ s.flag PWR.CTRL_QDR_EN = true) ∧
    (∃ (s : State), s.pwr.dev = .waking 2 ∧ ((s.variant = false ∨ s.flag PWR.CTRL_QDR_EN = false))) ∧
    (∃ (s : State), s.pwr.dev = .waking 3) ∧
    (∃ (s : State), s.pwr.dev = .waking 4) ∧
    (∃ (s : State), s.pwr.dev = .waking 5) ∧
    (∃ (s : State), s.pwr.dev = .waking 6 ∧ s.lc = 5) ∧
    (∃ (s : State), s.pwr.dev = .waking 6 ∧ s.lc ≠ 5 ∧ s.flash = []) ∧
    (∃ (s : State), s.pwr.dev = .doze ∧ s.pwr.laneAsk = true ∧ s.flag THM.STATUS_TRIPPED = false ∧ s.boot.rigNow = none) ∧
    (∃ (s : State), ((s.pwr.dev ≠ .doze ∨ s.pwr.laneAsk = false ∨ s.flag THM.STATUS_TRIPPED = true))) ∧
    (∃ (us : Nat) (s : State), us < (match s.pwr.dev with | .waking 4 => 2000 | .waking 5 => 1000 | .waking 6 => 1000 | _ => 1000 * max 1 (s.get PWR.SEQ_SEQ_TMO))) ∧
    (∃ (st : Fin 7) (us : Nat) (s : State), s.pwr.dev = .waking st ∧ ((if st = 4 then 2000 else if st = 5 ∨ st = 6 then 1000 else 1000 * max 1 (s.get PWR.SEQ_SEQ_TMO)) ≤ us)) ∧
    (∃ (us : Nat) (s : State), s.pwr.dev = .doze ∧ s.pwr.laneAsk = true ∧ 1000 * max 1 (s.get PWR.SEQ_SEQ_TMO) ≤ us) ∧
    (∃ (s : State), s.pwr.dev = .shelf ∧ s.pwr.retry = true ∧ s.pwr.resetLow = false) ∧
    (∃ (s : State), ((s.pwr.dev ≠ .shelf ∨ s.pwr.retry = false))) ∧
    (∃ (b : Fin 9) (s : State), s.bitOf PWR.WAKE_EN_EN b = false) ∧
    (∃ (b : Fin 9) (s : State), s.bitOf PWR.WAKE_EN_EN b = true ∧ s.pwr.dev = .shelf ∧ s.pwr.resetLow = false) ∧
    (∃ (b : Fin 9) (s : State), s.bitOf PWR.WAKE_EN_EN b = true ∧ s.awake = true ∧ s.pwr.sleeps = []) ∧
    (∃ (b : Fin 9) (s : State), s.bitOf PWR.WAKE_EN_EN b = true ∧ s.awake = true ∧ s.pwr.sleeps ≠ []) ∧
    (∃ (j : Host) (mv : BitVec 16) (s : State), s.sdLevel j ≤ mv.toNat) ∧
    (∃ (j : Host) (mv : BitVec 16) (s : State), mv.toNat < s.sdLevel j) ∧
    (∃ (p : PortId) (s : State), s.pwr.sleeps = [⟨.nap p, .bit, [], false, false, none, false⟩]) ∧
    (∃ (s : State), s.variant = true ∧ s.pwr.perst = false) ∧
    (∃ (s : State), s.variant = true) ∧
    (∃ (s : State), s.awake = true ∧ s.pwr.perst = true ∧ s.flag TTH.STATUS_ROLE = true) ∧
    (∃ (s : State), ((s.awake = false ∨ s.pwr.perst = false ∨ s.flag TTH.STATUS_ROLE = false))) ∧
    (∃ (req : Bool) (s : State), ((s.variant = false ∨ (req = false ∧ s.pwr.perst = true)))) ∧
    (∃ (s : State), s.variant = true) ∧
    (∃ (s : State), s.variant = false) ∧
    (∃ (s : State), s.flag PWR.TIMER1_ARMED = true ∧ s.bitOf PWR.WAKE_EN_EN 7 = true ∧ s.get PWR.TIMER_WAKE_AT + 2 ^ 32 * s.get PWR.TIMER1_WAKE_AT_HI ≤ s.now) ∧
    (∃ (s : State), s.flag PWR.TIMER1_ARMED = false) ∧
    (∃ (g : Fin 32) (high : Bool) (s : State), g.val = s.get PWR.WAKE_EN_GPIO_SEL ∧ high = s.flag PWR.WAKE_EN_GPIO_POL) ∧
    (∃ (g : Fin 32) (high : Bool) (s : State), ((g.val ≠ s.get PWR.WAKE_EN_GPIO_SEL ∨ high ≠ s.flag PWR.WAKE_EN_GPIO_POL))) ∧
    (∃ (s : State), s.awake = true) :=
  ⟨⟨{ pwr := { dev := (.waking 1) } }, by decide +kernel⟩,
   ⟨{ regs := [(PWR.CTRL_QDR_EN.key, 1)], pwr := { dev := (.waking 2) } }, by decide +kernel⟩,
   ⟨{ pwr := { dev := (.waking 2) } }, by decide +kernel⟩,
   ⟨{ pwr := { dev := (.waking 3) } }, by decide +kernel⟩,
   ⟨{ pwr := { dev := (.waking 4) } }, by decide +kernel⟩,
   ⟨{ pwr := { dev := (.waking 5) } }, by decide +kernel⟩,
   ⟨{ regs := [((GLB.SERIAL_SERIAL 3).key, 5)], pwr := { dev := (.waking 6) } }, by decide +kernel⟩,
   ⟨{ pwr := { dev := (.waking 6) } }, by decide +kernel⟩,
   ⟨{ pwr := { laneAsk := true } }, by decide +kernel⟩,
   ⟨{}, by decide +kernel⟩,
   ⟨0, {}, by decide +kernel⟩,
   ⟨0, 10000, { pwr := { dev := (.waking 0) } }, by decide +kernel⟩,
   ⟨10000, { pwr := { laneAsk := true } }, by decide +kernel⟩,
   ⟨{ pwr := { dev := .shelf, retry := true } }, by decide +kernel⟩,
   ⟨{}, by decide +kernel⟩,
   ⟨0, {}, by decide +kernel⟩,
   ⟨0, { regs := [(PWR.WAKE_EN_EN.key, 1)], pwr := { dev := .shelf } }, by decide +kernel⟩,
   ⟨0, { regs := [(PWR.WAKE_EN_EN.key, 1)] }, by decide +kernel⟩,
   ⟨0, { regs := [(PWR.WAKE_EN_EN.key, 1)], pwr := { sleeps := [{ kind := .doze, src := .bit }] } }, by decide +kernel⟩,
   ⟨0, 80, {}, by decide +kernel⟩,
   ⟨0, 0, {}, by decide +kernel⟩,
   ⟨0, { pwr := { sleeps := [{ kind := (.nap 0), src := .bit }] } }, by decide +kernel⟩,
   ⟨{}, by decide +kernel⟩,
   ⟨{}, by decide +kernel⟩,
   ⟨{ regs := [(TTH.STATUS_ROLE.key, 1)], pwr := { perst := true } }, by decide +kernel⟩,
   ⟨{}, by decide +kernel⟩,
   ⟨false, { variant := false }, by decide +kernel⟩,
   ⟨{}, by decide +kernel⟩,
   ⟨{ variant := false }, by decide +kernel⟩,
   ⟨{ regs := [(PWR.WAKE_EN_EN.key, 128), (PWR.TIMER1_ARMED.key, 1)] }, by decide +kernel⟩,
   ⟨{}, by decide +kernel⟩,
   ⟨24, true, { regs := [(PWR.WAKE_EN_GPIO_SEL.key, 24)] }, by decide +kernel⟩,
   ⟨0, false, {}, by decide +kernel⟩,
   ⟨{} , by decide +kernel⟩⟩

theorem witness_sleep_entries :
    (∃ (s : State), s.flag PWR.CTRL_LPMODE_EN = true) ∧
    (∃ (s : State), s.flag PWR.CTRL_LPMODE_EN = false) ∧
    (∃ (s : State), ((s.sleepReq .shelf).any (fun q => q.src == .pin) = false) ∧ s.bitOf PWR.WAKE_EN_EN 2 = false ∧ s.sec.abandon = false) ∧
    (∃ (s : State), s.sleepReq .shelf = some ⟨.shelf, .pin, [], false, false, none, false⟩ ∧ s.bitOf PWR.WAKE_EN_EN 2 = false) ∧
    (∃ (k : SleepKind) (s : State), s.sleepReq k = none) ∧
    (∃ (p : PortId) (c : Nat) (q : SleepReq) (s : State), s.sleepReq (.nap p) = some q ∧ q.granted = false ∧ q.rung = none ∧ ((q.hold = false ∨ s.braced = false)) ∧ s.pstate p ≠ 0 ∧ s.pstate p ≠ 7 ∧ s.refuser (.nap p) = some c) ∧
    (∃ (p : PortId) (c : Nat) (b : Bool) (q : SleepReq) (s : State), s.sleepReq (.nap p) = some q ∧ q.granted = false ∧ q.rung = some b ∧ q.src = .ballast ∧ ((q.hold = false ∨ s.braced = false)) ∧ s.pstate p ≠ 0 ∧ s.pstate p ≠ 7 ∧ s.pwr.rungs = [] ∧ s.refuser (.nap p) = some c) ∧
    (∃ (p : PortId) (q : SleepReq) (s : State), s.sleepReq (.nap p) = some q ∧ q.granted = false ∧ q.rung = none ∧ ((q.hold = false ∨ s.braced = false)) ∧ s.pstate p ≠ 0 ∧ s.pstate p ≠ 7 ∧ s.refuser (.nap p) = none ∧ ((∀ c : ReelId, (s.reel.get c).bursts = [] ∧ s.get (REEL.CH_STATUS_STATE c) = 0)) ∧ ((∀ n ∈ s.lanesOf p, s.locQuiet n = true ∧ (s.ln n).rx.abandPend = false ∧ (s.ln n).cal.phase = none)) ∧ s.sec.abandon = false) ∧
    (∃ (p : PortId) (q : SleepReq) (s : State), s.sleepReq (.nap p) = some q ∧ q.rung = none ∧ ((s.pstate p = 0 ∨ s.pstate p = 7)) ∧ s.sleepMbx (.nap p) = false ∧ s.sec.abandon = false) ∧
    (∃ (p : PortId) (c : Nat) (q : SleepReq), 1 ≤ c ∧ c ≤ 7 ∧ q.counted = [] ∧ q.kind = .nap p) ∧
    (∃ (us : Nat) (s : State), us < max 1 (s.get PWR.QUIESCE_PWR_QUIESCE_TMO)) ∧
    (∃ (k : SleepKind) (us : Nat) (q : SleepReq) (s : State), max 1 (s.get PWR.QUIESCE_PWR_QUIESCE_TMO) ≤ us ∧ s.sleepReq k = some q ∧ q.asked = false ∧ q.src ≠ .ballast) ∧
    (∃ (k : SleepKind) (us : Nat) (q : SleepReq) (s : State), max 1 (s.get PWR.QUIESCE_PWR_QUIESCE_TMO) ≤ us ∧ s.sleepReq k = some q ∧ q.asked = true ∧ q.src ≠ .ballast ∧ q.rung = none ∧ s.reelQuiet (s.sleepDomain k) = false ∧ s.flag PWR.CTRL_QUIESCE_POLICY = false ∧ s.flag THM.STATUS_TRIPPED = false) ∧
    (∃ (k : SleepKind) (q : SleepReq) (s : State), s.sleepReq k = some q ∧ q.asked = false ∧ ((q.src = .bit ∨ q.src = .pin)) ∧ q.rung = none) ∧
    (∃ (k : SleepKind) (q : SleepReq) (s : State), s.sleepReq k = some q ∧ ((q.src = .mailbox ∨ q.src = .ballast))) ∧
    (∃ (us : Nat) (s : State), ((s.pwr.dev ≠ .run ∨ (s.allDown = true ∧ s.flag THM.STATUS_TRIPPED = false ∧ us < 1000 * s.get PWR.SEQ_DOZE_HOLD)))) ∧
    (∃ (us : Nat) (s : State), ((s.flag THM.STATUS_TRIPPED = true ∨ 1000 * s.get PWR.SEQ_DOZE_HOLD ≤ us)) ∧ s.pwr.dev = .run ∧ s.allDown = true ∧ s.sleepReq .doze = none ∧ s.refuser .doze = none ∧ ((∀ c : ReelId, (s.reel.get c).bursts = [])) ∧ s.reelQuiet (.lanes (List.finRange 8)) = true ∧ s.braced = false ∧ s.pwr.sleeps = []) ∧
    (∃ (q : SleepReq) (s : State), s.awake = true ∧ s.sleepReq .shelf = some q ∧ q.granted = true ∧ s.pwr.packed = true ∧ s.braced = false) ∧
    (∃ (s : State), ((s.awake = false ∨ s.pwr.packed = false ∨ s.braced = true ∨ (s.sleepReq .shelf).any (fun q => q.granted) = false))) ∧
    (∃ (f : Field), keyRet f.key ≠ .pl ∧ f.key ≠ SAF.STATUS_TXD_NOW.key ∧ f.key ≠ SAF.STATUS_CLR_PIN_NOW.key) ∧
    (∃ (f : Field), keyRet f.key = .pl ∧ f.key ≠ SAF.STATUS_TXD_NOW.key ∧ f.key ≠ SAF.STATUS_CLR_PIN_NOW.key) :=
  ⟨⟨{}, by decide +kernel⟩,
   ⟨{ regs := [(PWR.CTRL_LPMODE_EN.key, 0)] }, by decide +kernel⟩,
   ⟨{ regs := [(PWR.WAKE_EN_EN.key, 0)] }, by decide +kernel⟩,
   ⟨{ regs := [(PWR.WAKE_EN_EN.key, 0)], pwr := { sleeps := [{ kind := .shelf, src := .pin }] } }, by decide +kernel⟩,
   ⟨.shelf, {}, by decide +kernel⟩,
   ⟨3, 7, { kind := (.nap 3), src := .bit, counted := [2, 2] }, { regs := [((PORT.STATUS_STATE 3).key, 1), (TST.STATUS_ENG_BUSY.key, 1)], pwr := { sleeps := [{ kind := (.nap 3), src := .bit, counted := [2, 2] }] } }, by decide +kernel⟩,
   ⟨3, 7, false, { kind := (.nap 3), src := .ballast, counted := [2, 2], rung := (some false) }, { regs := [((PORT.STATUS_STATE 3).key, 1), (TST.STATUS_ENG_BUSY.key, 1)], pwr := { sleeps := [{ kind := (.nap 3), src := .ballast, counted := [2, 2], rung := (some false) }] } }, by decide +kernel⟩,
   ⟨3, { kind := (.nap 3), src := .pin, counted := [0], asked := true }, { regs := [((PORT.STATUS_STATE 3).key, 1)], pwr := { sleeps := [{ kind := (.nap 3), src := .pin, counted := [0], asked := true }] } }, by decide +kernel⟩,
   ⟨4, { kind := (.nap 4), src := .ballast, counted := [0, 0], asked := true, granted := true }, { pwr := { sleeps := [{ kind := (.nap 4), src := .ballast, counted := [0, 0], asked := true, granted := true }] } }, by decide +kernel⟩,
   ⟨3, 1, { kind := (.nap 3), src := .bit }, by decide +kernel⟩,
   ⟨0, {}, by decide +kernel⟩,
   ⟨.shelf, 200, { kind := .shelf, src := .bit, granted := true }, { pwr := { sleeps := [{ kind := .shelf, src := .bit, granted := true }] } }, by decide +kernel⟩,
   ⟨.shelf, 200, { kind := .shelf, src := .bit, asked := true, granted := true }, { regs := [((REEL.CH_STATUS_STATE 2).key, 1)], pwr := { sleeps := [{ kind := .shelf, src := .bit, asked := true, granted := true }] }, reel := (vset (Vector.replicate 8 {}) 2 { desc := [32], bursts := [{ len := 0 }] }) }, by decide +kernel⟩,
   ⟨(.nap 4), { kind := (.nap 4), src := .pin, counted := [5] }, { pwr := { sleeps := [{ kind := (.nap 4), src := .pin, counted := [5] }] } }, by decide +kernel⟩,
   ⟨(.nap 4), { kind := (.nap 4), src := .mailbox, counted := [5] }, { pwr := { sleeps := [{ kind := (.nap 4), src := .mailbox, counted := [5] }] } }, by decide +kernel⟩,
   ⟨0, {}, by decide +kernel⟩,
   ⟨0, { regs := [(THM.STATUS_TRIPPED.key, 1)], pwr := { dev := .run } }, by decide +kernel⟩,
   ⟨{ kind := .shelf, src := .pin, granted := true }, { pwr := { sleeps := [{ kind := .shelf, src := .pin, granted := true }], packed := true } }, by decide +kernel⟩,
   ⟨{}, by decide +kernel⟩,
   ⟨(PMU.PMC_COUNT_COUNT 59 29), by decide +kernel⟩,
   ⟨(SEC.CERT_CERT 5), by decide +kernel⟩⟩

theorem witness_brownout_and_ballast :
    (∃ (s : State), s.awake = true ∧ s.braced = false ∧ s.sec.slice = none ∧ s.sec.abandon = false) ∧
    (∃ (s : State), ((∀ n : Lane, (s.kl n).tx = none ∧ (s.ln n).tx.dac = none)) ∧ s.awake = true ∧ s.braced = false ∧ s.sec.slice = none ∧ s.sec.abandon = false) ∧
    (∃ (s : State), ((s.awake = false ∨ s.braced = true))) ∧
    (∃ (k : SleepKind) (q : SleepReq) (s : State), s.awake = true ∧ s.braced = false ∧ s.sleepReq k = some q ∧ q.granted = true) ∧
    (∃ (k : SleepKind) (q : SleepReq) (s : State), s.awake = true ∧ s.braced = false ∧ s.sleepReq k = some q ∧ q.granted = false) ∧
    (∃ (s : State), s.braced = true ∧ s.pwr.sleeps.filter (·.hold) = [] ∧ s.sec.abandon = false ∧ ((∀ n : Lane, (s.ln n).cal.loadPend = false))) ∧
    (∃ (s : State), s.braced = true) ∧
    (∃ (s : State), s.braced = false) ∧
    (∃ (c : Fin 3) (us : Nat) (s : State), ((s.awake = false ∨ s.flag PWR.CTRL_BALLAST_EN = false ∨ s.presses c = false ∨ (c = 1 ∧ us < 5000) ∨
    (c ≠ 1 ∧ s.pwr.shedFirst = false ∧ us < 1000 * max 1 (s.get PWR.BALLAST_SHED_INT))))) ∧
    (∃ (c : Fin 3) (us : Nat) (step : ShedStep) (s : State), s.awake = true ∧ s.flag PWR.CTRL_BALLAST_EN = true ∧ s.presses c = true ∧ c ≠ 1 ∧ (((c = 0 ∧ s.pwr.shedFirst = true) ∨ 1000 * max 1 (s.get PWR.BALLAST_SHED_INT) ≤ us)) ∧ s.modeRungs < 3 ∧ orderStep (bits (s.get PWR.BALLAST_ORDER) (2 * s.modeRungs) 2) = some step) ∧
    (∃ (us : Nat) (step : ShedStep) (s : State), s.awake = true ∧ s.flag PWR.CTRL_BALLAST_EN = true ∧ s.braced = true ∧ 5000 ≤ us ∧ s.modeRungs < 3 ∧ orderStep (bits (s.get PWR.BALLAST_ORDER) (2 * s.modeRungs) 2) = some step) ∧
    (∃ (k : PortId) (s : State), ((s.pstate k = 0 ∨ s.pstate k = 7))) ∧
    (∃ (k : PortId) (q : SleepReq) (s : State), s.pstate k ≠ 0 ∧ s.pstate k ≠ 7 ∧ s.sleepReq (.nap k) = some q ∧ q.granted = true) ∧
    (∃ (k : PortId) (s : State), s.pstate k ≠ 0 ∧ s.pstate k ≠ 7 ∧ s.sleepReq (.nap k) = none) ∧
    (∃ (s : State), s.pwr.passed = none) ∧
    (∃ (us : Nat) (step : ShedStep) (rest : List Rung) (s : State), 1000 * max 1 (s.get PWR.BALLAST_RESTORE_INT) ≤ us ∧ s.awake = true ∧ s.flag PWR.CTRL_BALLAST_EN = true ∧ s.flag THM.STATUS_SHED_REQ = false ∧ s.braced = false ∧ s.get PWR.BALLAST_HOST_MIN < s.get PWR.STATUS_LEVEL ∧ s.pwr.rungs = .mode step :: rest ∧ s.boot.ballast = none) ∧
    (∃ (us : Nat) (k : PortId) (rest : List Rung) (s : State), 1000 * max 1 (s.get PWR.BALLAST_RESTORE_INT) ≤ us ∧ s.awake = true ∧ s.flag PWR.CTRL_BALLAST_EN = true ∧ s.flag THM.STATUS_SHED_REQ = false ∧ s.braced = false ∧ s.get PWR.BALLAST_HOST_MIN < s.get PWR.STATUS_LEVEL ∧ s.pwr.rungs = .nap k true :: rest ∧ s.boot.ballast = none) ∧
    (∃ (us : Nat) (s : State), ((s.flag THM.STATUS_SHED_REQ = true ∨ s.braced = true ∨ s.get PWR.STATUS_LEVEL ≤ s.get PWR.BALLAST_HOST_MIN ∨
    us < 1000 * max 1 (s.get PWR.BALLAST_RESTORE_INT)))) ∧
    (∃ (s : State), s.awake = true) :=
  ⟨⟨{}, by decide +kernel⟩,
   ⟨{}, by decide +kernel⟩,
   ⟨{ pwr := { dev := (.waking 2) } }, by decide +kernel⟩,
   ⟨.shelf, { kind := .shelf, src := .ballast, counted := [3, 1], granted := true }, { pwr := { sleeps := [{ kind := .shelf, src := .ballast, counted := [3, 1], granted := true }] } }, by decide +kernel⟩,
   ⟨.shelf, { kind := .shelf, src := .ballast, counted := [3, 1] }, { pwr := { sleeps := [{ kind := .shelf, src := .ballast, counted := [3, 1] }] } }, by decide +kernel⟩,
   ⟨{ regs := [(PWR.STATUS_BRACE_NOW.key, 1)] }, by decide +kernel⟩,
   ⟨{ regs := [(PWR.STATUS_BRACE_NOW.key, 1)] }, by decide +kernel⟩,
   ⟨{}, by decide +kernel⟩,
   ⟨0, 0, {}, by decide +kernel⟩,
   ⟨0, 100000, .pass, { regs := [(THM.STATUS_SHED_REQ.key, 1), (THM.TJ_TJ.key, 824)] }, by decide +kernel⟩,
   ⟨5000, .volt, { regs := [(PWR.STATUS_BRACE_NOW.key, 1), (PWR.BALLAST_ORDER.key, 18)] }, by decide +kernel⟩,
   ⟨0, {}, by decide +kernel⟩,
   ⟨2, { kind := (.nap 2), src := .pin, counted := [2], asked := true, granted := true }, { regs := [((PORT.STATUS_STATE 2).key, 1)], pwr := { sleeps := [{ kind := (.nap 2), src := .pin, counted := [2], asked := true, granted := true }] } }, by decide +kernel⟩,
   ⟨1, { regs := [((PORT.STATUS_STATE 1).key, 1)] }, by decide +kernel⟩,
   ⟨{}, by decide +kernel⟩,
   ⟨1000, .pass, [(.nap 5 false), (.nap 7 false)], { regs := [(PWR.STATUS_LEVEL.key, 1), (PWR.BALLAST_RESTORE_INT.key, 0)], pwr := { rungs := [(.mode .pass), (.nap 5 false), (.nap 7 false)] } }, by decide +kernel⟩,
   ⟨1000000, 4, [(.nap 6 false), (.nap 1 false)], { regs := [(PWR.STATUS_LEVEL.key, 1)], pwr := { rungs := [(.nap 4 true), (.nap 6 false), (.nap 1 false)] } }, by decide +kernel⟩,
   ⟨0, {}, by decide +kernel⟩,
   ⟨{} , by decide +kernel⟩⟩

theorem witness_resets_and_staged_rigs :
    (∃ (c : Nat) (s : State), 1 ≤ c ∧ c ≤ 6 ∧ s.pwr.resetLow = false) ∧
    (∃ (c : Nat) (s : State), 1 ≤ c ∧ c ≤ 6 ∧ s.pwr.resetLow = true) ∧
    (∃ (c : Nat) (f : Field), 3 ≤ c ∧ c ≤ 6 ∧ keyRet f.key ≠ .pl ∧ f.key ≠ SAF.STATUS_TXD_NOW.key ∧ f.key ≠ SAF.STATUS_CLR_PIN_NOW.key ∧ f.key ∉ [CFG.RST_STATUS_CAUSE, CFG.RST_STATUS_SEEN, CFG.RST_TIME0_TIME_LO, CFG.RST_TIME1_TIME_HI, CFG.RST_CNT_BOR_CNT, CFG.RST_CNT_PIN_CNT, CFG.RST_CNT_WDR_CNT, GLB.LC_STATE,
      SEC.KEYS_SLOT 0, SEC.KEYS_SLOT 1, PWR.LAST_WAKE_SOURCE, PWR.LAST_WAKE_DETAIL, PWR.LAST_WAKE_RACE, PWR.LAST_WAKE_ASLEEP, PWR.LAST_WAKE1_TIME_LO, PWR.LAST_WAKE2_TIME_HI].map Field.key) ∧
    (∃ (s : State), s.pwr.dev ≠ .off) ∧
    (∃ (s : State), s.pwr.dev ≠ .off ∧ s.pwr.dev ≠ .shelf) ∧
    (∃ (s : State), s.pwr.dev = .shelf) ∧
    (∃ (ns : Nat), ns < 200) ∧
    (∃ (ns : Nat) (s : State), 200 ≤ ns ∧ ns < 1000 ∧ s.pwr.dev ≠ .off) ∧
    (∃ (ns : Nat) (s : State), 1000 ≤ ns ∧ s.pwr.dev ≠ .off) ∧
    (∃ (s : State), s.pwr.dev = .shelf ∧ s.pwr.resetLow = true) ∧
    (∃ (s : State), s.awake = true) ∧
    (∃ (s : State), s.awake = false) ∧
    (∃ (x : Nat) (s : State), s.awake = true ∧ s.boot.wdt = some x ∧ max 1 (s.get CFG.WDT_TMO) ≤ x) ∧
    (∃ (x : Nat) (s : State), s.boot.wdt = some x ∧ x < s.get CFG.WDT_TMO) ∧
    (∃ (s : State), s.boot.wdt = none) ∧
    (∃ (s : State), s.awake = true) ∧
    (∃ (i : Initiator) (s : State), i ≠ .gondola ∧ i ≠ .spar ∧ s.mayAccess i = true) ∧
    (∃ (k : PortId) (s : State), s.awake = true ∧ (s.pt k).defined = false) ∧
    (∃ (k : PortId) (s : State), s.awake = true ∧ (s.pt k).defined = true ∧ (s.resetDown k).portDark k = true) ∧
    (∃ (k : PortId) (s : State), s.awake = true ∧ (s.pt k).defined = true ∧ (s.resetDown k).portDark k = false) ∧
    (∃ (k : PortId) (n : Lane) (s : State), n ∈ s.lanesOf k) ∧
    (∃ (n : Lane) (s : State), s.awake = true ∧ s.portOf n = none ∧ s.get (LN.TX_STATUS_AMP_STATE n) = 0) ∧
    (∃ (n : Lane) (s : State), s.awake = true ∧ s.portOf n = none ∧ s.get (LN.TX_STATUS_AMP_STATE n) ≠ 0) ∧
    (∃ (n : Lane) (k : PortId) (s : State), s.awake = true ∧ s.portOf n = some k) ∧
    (∃ (j : Host) (n : Lane) (k : PortId) (s : State), s.awake = true ∧ s.lineOf j = some n ∧ s.portOf n = some k) ∧
    (∃ (j : Host) (s : State), s.awake = true ∧ s.lineOf j = none) ∧
    (∃ (k : PortId) (s : State), (s.pt k).defined = true ∧ s.pstate k ≠ 0 ∧ s.sleepReq (.nap k) = none) ∧
    (∃ (s : State), s.awake = true) ∧
    (∃ (s : State), s.awake = true ∧ (s.boot.staged.filter (fun g => s.partDown g.touched) = [])) ∧
    (∃ (g : Staged) (s : State), s.awake = true ∧ s.boot.staged = [g] ∧ s.partDown g.touched = true) :=
  ⟨⟨1, {}, by decide +kernel⟩,
   ⟨1, { pwr := { resetLow := true } }, by decide +kernel⟩,
   ⟨3, (HL.TX_MAN_C 8 0), by decide +kernel⟩,
   ⟨{}, by decide +kernel⟩,
   ⟨{}, by decide +kernel⟩,
   ⟨{ pwr := { dev := .shelf } }, by decide +kernel⟩,
   ⟨0, by decide +kernel⟩,
   ⟨200, {}, by decide +kernel⟩,
   ⟨1000, {}, by decide +kernel⟩,
   ⟨{ pwr := { dev := .shelf, resetLow := true } }, by decide +kernel⟩,
   ⟨{}, by decide +kernel⟩,
   ⟨{ pwr := { dev := .shelf } }, by decide +kernel⟩,
   ⟨251, { boot := { wdt := (some 251) } }, by decide +kernel⟩,
   ⟨5, { boot := { wdt := (some 5) } }, by decide +kernel⟩,
   ⟨{}, by decide +kernel⟩,
   ⟨{}, by decide +kernel⟩,
   ⟨.mgmt, {}, by decide +kernel⟩,
   ⟨0, {}, by decide +kernel⟩,
   ⟨0, { port := (vset (Vector.replicate 8 {}) 0 { defined := true }) }, by decide +kernel⟩,
   ⟨0, { regs := [((LN.LOC_USER_TX_USER_TX 6 94).key, 1)], port := (vset (Vector.replicate 8 {}) 0 { defined := true, lanes := 7 }) }, by decide +kernel⟩,
   ⟨2, 2, { port := (vset (Vector.replicate 8 {}) 2 { defined := true, lanes := 1 }) }, by decide +kernel⟩,
   ⟨0, {}, by decide +kernel⟩,
   ⟨5, { regs := [((LN.LOC_USER_TX_USER_TX 5 94).key, 1)] }, by decide +kernel⟩,
   ⟨4, 4, { port := (vset (Vector.replicate 8 {}) 4 { defined := true, lanes := 1 }) }, by decide +kernel⟩,
   ⟨0, 0, 0, { regs := [((LN.GBX_MAP_MAP_VALID 0).key, 1)], port := (vset (Vector.replicate 8 {}) 0 { defined := true, lanes := 1 }) }, by decide +kernel⟩,
   ⟨0, {}, by decide +kernel⟩,
   ⟨0, { regs := [((PORT.STATUS_STATE 0).key, 1)], port := (vset (Vector.replicate 8 {}) 0 { defined := true }) }, by decide +kernel⟩,
   ⟨{}, by decide +kernel⟩,
   ⟨{}, by decide +kernel⟩,
   ⟨{ touched := [3], ports := [{ port := 3, latClass := 1, lanes := [{ lane := 3, hostA := 7, hostB := 6, timingB := true, blocks := [(17, (1, 32))] }], pair := (some 9) }], nodes := [] }, { boot := { staged := [{ touched := [3], ports := [{ port := 3, latClass := 1, lanes := [{ lane := 3, hostA := 7, hostB := 6, timingB := true, blocks := [(17, (1, 32))] }], pair := (some 9) }], nodes := [] }] } } , by decide +kernel⟩⟩

theorem witness_bridle :
    (∃ (i : Initiator) (a : BitVec 32) (z : Fin 4) (s : State), s.mayAccess i = true ∧ inMemberBar i a.toNat = false ∧ inMemory a.toNat = false ∧ unmapped i a.toNat = true ∧ ((z.val < 3 ∨ a.toNat % 8 ≠ 0))) ∧
    (∃ (i : Initiator) (a : BitVec 32) (z : Fin 4) (s : State), s.mayAccess i = true ∧ inMemberBar i a.toNat = false ∧ inMemory a.toNat = false ∧ unmapped i a.toNat = false ∧ a.toNat % 2 ^ z.val ≠ 0) ∧
    (∃ (i : Initiator) (a : BitVec 32) (z : Fin 4) (s : State), s.mayAccess i = true ∧ inMemberBar i a.toNat = false ∧ inMemory a.toNat = false ∧ unmapped i a.toNat = false ∧ a.toNat % 2 ^ z.val = 0 ∧ z.val < 2) ∧
    (∃ (i : Initiator) (a : BitVec 32) (s : State), s.mayAccess i = true ∧ inMemberBar i a.toNat = false ∧ inMemory a.toNat = false ∧ unmapped i a.toNat = true ∧ unmapped i (a.toNat + 4) = true ∧ a.toNat % 8 = 0) ∧
    (∃ (i : Initiator) (a : BitVec 32) (s : State), s.mayAccess i = true ∧ inMemberBar i a.toNat = false ∧ inMemory a.toNat = false ∧ unmapped i a.toNat = true ∧ unmapped i (a.toNat + 4) = true ∧ a.toNat % 8 = 0) ∧
    (∃ (i : Initiator) (a : BitVec 32) (s : State), s.mayAccess i = true ∧ a.toNat % 4 = 0 ∧ inAlias a.toNat = true ∧ aliasDefined a.toNat = true ∧ isBa (aliasTarget a.toNat).1 (aliasTarget a.toNat).2 = false) ∧
    (∃ (i : Initiator) (a : BitVec 32) (z : Fin 4) (s : State), s.mayAccess i = true ∧ inMemberBar i a.toNat = false ∧ inMemory a.toNat = false ∧ unmapped i a.toNat = true ∧ ((z.val < 3 ∨ a.toNat % 8 ≠ 0))) ∧
    (∃ (i : Initiator) (a : BitVec 32) (z : Fin 4) (s : State), s.mayAccess i = true ∧ inMemberBar i a.toNat = false ∧ inMemory a.toNat = false ∧ unmapped i a.toNat = false ∧ a.toNat % 2 ^ z.val ≠ 0) ∧
    (∃ (i : Initiator) (a : BitVec 32) (z : Fin 4) (s : State), s.mayAccess i = true ∧ inMemberBar i a.toNat = false ∧ inMemory a.toNat = false ∧ unmapped i a.toNat = false ∧ a.toNat % 2 ^ z.val = 0 ∧ z.val < 2 ∧ sideEffect (a.toNat / 4 * 4) = true) ∧
    (∃ (i : Initiator) (s : State), s.mayAccess i = false) ∧
    (∃ (i : Initiator) (s : State), s.mayAccess i = false) ∧
    (∃ (i : Initiator) (a : BitVec 32) (v : BitVec 64) (s : State), s.mayAccess i = true ∧ a.toNat % 4 = 0 ∧ unmapped i a.toNat = false ∧ a.toNat < 0x200000 ∧ isGuarded a.toNat = false ∧ isComplement a.toNat = false ∧ s.pendingOf i.code = none ∧ s.forbids i a.toNat (v.toNat % 2 ^ 32) = false) ∧
    (∃ (i : Initiator) (a : BitVec 32) (s : State), s.mayAccess i = true ∧ a.toNat % 4 = 0 ∧ a.toNat < 0x200000 ∧ unmapped i a.toNat = false ∧ fieldsAt a.toNat = [] ∧ isComplement a.toNat = false ∧ s.pendingOf i.code = none ∧ ((0x80100 ≤ a.toNat → 0xB0700 ≤ a.toNat)) ∧ a.toNat < 0xE0100 ∧ ((0x51000 ≤ a.toNat → 0x51800 ≤ a.toNat)) ∧ ((a.toNat < 0x20100 ∨ 0x20200 ≤ a.toNat))) ∧
    (∃ (i : Initiator) (a : BitVec 32) (s : State), s.mayAccess i = true ∧ a.toNat % 4 = 0 ∧ a.toNat < 0x200000 ∧ unmapped i a.toNat = false ∧ sideEffect a.toNat = false ∧ ((0x51000 ≤ a.toNat → 0x51800 ≤ a.toNat)) ∧ s.absent a.toNat = false ∧ s.brd.parityBad.contains a.toNat = false) ∧
    (∃ (i : Initiator) (a : BitVec 32) (s : State), s.mayAccess i = true ∧ i ≠ .pcie ∧ a.toNat % 4 = 0 ∧ a.toNat < 0x200000 ∧ unmapped i a.toNat = false ∧ s.absent a.toNat = false ∧ hasParity a.toNat = true) ∧
    (∃ (i : Initiator) (a : BitVec 32) (s : State), s.mayAccess i = true ∧ i ≠ .pcie ∧ a.toNat % 4 = 0 ∧ inAlias a.toNat = true ∧ aliasDefined a.toNat = true ∧ s.brd.parityBad.contains (aliasTarget a.toNat).1 = false) ∧
    (∃ (a : BitVec 32) (s : State), s.awake = true ∧ a.toNat % 4 = 0 ∧ inRom a.toNat = true) ∧
    (∃ (f : Field) (v : Nat) (s : State), isPairAddr f.addr = false ∧ f.acc = .wm ∧ bits v (16 + f.lo) f.w = 2 ^ f.w - 1 ∧ s.rejects f (bits v f.lo f.w) = false) ∧
    (∃ (f : Field) (v : Nat), f.acc = .wm ∧ bits v (16 + f.lo) f.w ≠ 2 ^ f.w - 1) ∧
    (∃ (f : Field), isPairAddr f.addr = false ∧ f.acc = .w1c) ∧
    (∃ (f : Field), ((f.acc = .ro ∨ f.acc = .ixro))) ∧
    (∃ (i : Initiator) (a : BitVec 32) (s : State), s.mayAccess i = true ∧ isGuarded a.toNat = true ∧ s.pendingOf i.code = none) ∧
    (∃ (i : Initiator) (a : BitVec 32) (v : Word) (c : Word) (s : State), s.mayAccess i = true ∧ isGuarded a.toNat = true ∧ s.brd.guard = [] ∧ c = ~~~v) ∧
    (∃ (i : Initiator) (a : BitVec 32) (v : Word) (c : Word) (s : State), s.mayAccess i = true ∧ isGuarded a.toNat = true ∧ s.pendingOf i.code = none ∧ c ≠ ~~~v) ∧
    (∃ (i : Initiator) (a : BitVec 32) (s : State), s.mayAccess i = true ∧ 4 ≤ a.toNat ∧ isGuarded (a.toNat - 4) = true ∧ s.pendingOf i.code = none) ∧
    (∃ (i : Initiator) (a : BitVec 32) (b : Nat) (w : Nat) (s : State), s.mayAccess i = true ∧ isGuarded a.toNat = true ∧ s.pendingOf i.code = some (b, w)) ∧
    (∃ (i : Initiator) (b : Nat) (w : Nat) (s : State), s.awake = true ∧ s.pendingOf i.code = some (b, w)) ∧
    (∃ (i : Initiator) (s : State), s.pendingOf i.code = none) ∧
    (∃ (i : Initiator) (a : BitVec 32) (s : State), s.mayAccess i = true ∧ inMemberBar i a.toNat = false ∧ ((i ≠ .spar ∨ s.spr.run = .running ∨ s.spr.run = .halted))) ∧
    (∃ (x : Bool) (g : Nat) (b : Nat) (d : Word) (s : State), s.mayAccess .spar = true ∧ s.spr.run = .io x g b d) ∧
    (∃ (i : Initiator) (s : State), s.mayAccess i = false) ∧
    (∃ (s : State), s.awake = true) ∧
    (∃ (a : BitVec 32) (s : State), s.brd.parityBad.contains (a.toNat / 4 * 4) = false) ∧
    (∃ (a : BitVec 32), ((0x200000 ≤ a.toNat ∨ hasParity (a.toNat / 4 * 4) = false))) ∧
    (∃ (a : BitVec 32) (s : State), s.awake = true ∧ a.toNat % 4 = 0 ∧ a.toNat < 0x200000 ∧ hasParity a.toNat = true ∧ ((a.toNat < 0x10000 ∨ 0x30000 ≤ a.toNat)) ∧ s.brd.parityBad = [] ∧ s.brd.parityDue = []) ∧
    (∃ (a : BitVec 33) (s : State), s.brd.parityDue.contains (a.toNat / 4 * 4) = false) ∧
    (∃ (a : BitVec 33) (s : State), s.awake = true ∧ a.toNat % 4 = 0 ∧ s.brd.parityDue.contains a.toNat = true) ∧
    (∃ (a : BitVec 33) (s : State), s.awake = true ∧ a.toNat % 4 = 0 ∧ a.toNat < 0x200000 ∧ isGuarded a.toNat = false ∧ isComplement a.toNat = false ∧ s.brd.parityDue.contains a.toNat = true) ∧
    (∃ (s : State), s.boot.rigNow = none ∧ s.boot.safety = none) ∧
    (∃ (n : Lane) (s : State), s.brd.parityDue = [] ∧ (s.sf n).gate.contains 8 = true) ∧
    (∃ (i : Initiator) (a : BitVec 32) (v : BitVec 64) (s : State), s.mayAccess i = true ∧ a.toNat % 4 = 0 ∧ inAlias a.toNat = true ∧ aliasDefined a.toNat = true ∧ isBa (aliasTarget a.toNat).1 (aliasTarget a.toNat).2 = true ∧ s.pendingOf i.code = none ∧ s.forbids i (aliasTarget a.toNat).1 (putBit ((s.countEvent 1 0 1).wordAt (aliasTarget a.toNat).1) (aliasTarget a.toNat).2 (bit v.toNat 0)) = false) ∧
    (∃ (i : Initiator) (v : BitVec 64) (s : State), s.mayAccess i = true ∧ i ≠ .gondola ∧ s.pendingOf i.code = none ∧ bits v.toNat 8 8 ≠ s.get SAF.CTRL_SUP_GATE) :=
  ⟨⟨.mgmt, 1900343, 0, {}, by decide +kernel⟩,
   ⟨.reel, 524289, 1, {}, by decide +kernel⟩,
   ⟨.spar, 0, 0, {}, by decide +kernel⟩,
   ⟨.spar, 1900528, {}, by decide +kernel⟩,
   ⟨.mgmt, 1900528, {}, by decide +kernel⟩,
   ⟨.mgmt, 2097276, {}, by decide +kernel⟩,
   ⟨.spar, 1900437, 0, {}, by decide +kernel⟩,
   ⟨.tether, 524289, 1, {}, by decide +kernel⟩,
   ⟨.gondola, 2031684, 0, {}, by decide +kernel⟩,
   ⟨.jtag, {}, by decide +kernel⟩,
   ⟨.jtag, {}, by decide +kernel⟩,
   ⟨.mgmt, 0, 0, {}, by decide +kernel⟩,
   ⟨.spar, 20, {}, by decide +kernel⟩,
   ⟨.mgmt, 0, {}, by decide +kernel⟩,
   ⟨.gondola, 655736, {}, by decide +kernel⟩,
   ⟨.mgmt, 3145772, {}, by decide +kernel⟩,
   ⟨134299512, {}, by decide +kernel⟩,
   ⟨(KL.CTRL_TX_EN 2), 130885, {}, by decide +kernel⟩,
   ⟨(KL.CTRL_TX_EN 2), 0, by decide +kernel⟩,
   ⟨GLB.MBX_STATUS_DONE, by decide +kernel⟩,
   ⟨(SEC.CERT_CERT 286), by decide +kernel⟩,
   ⟨.mgmt, 721440, {}, by decide +kernel⟩,
   ⟨.mgmt, 722272, 0, 4294967295, {}, by decide +kernel⟩,
   ⟨.mgmt, 721696, 0, 0, {}, by decide +kernel⟩,
   ⟨.mgmt, 721444, {}, by decide +kernel⟩,
   ⟨.reel, 722272, 131088, 5, { brd := { guard := [(6, (131088, 5))] } }, by decide +kernel⟩,
   ⟨.pcie, 131088, 5, { brd := { guard := [(2, (131088, 5))] } }, by decide +kernel⟩,
   ⟨.jtag, {}, by decide +kernel⟩,
   ⟨.reel, 0, {}, by decide +kernel⟩,
   ⟨true, 1, 1, 3635305912, { spr := { run := (.io true 1 1 0xd8ae5db8#32) } }, by decide +kernel⟩,
   ⟨.jtag, {}, by decide +kernel⟩,
   ⟨{}, by decide +kernel⟩,
   ⟨0, {}, by decide +kernel⟩,
   ⟨0, by decide +kernel⟩,
   ⟨1622016, {}, by decide +kernel⟩,
   ⟨0, {}, by decide +kernel⟩,
   ⟨1622344, { brd := { parityDue := [1622344] } }, by decide +kernel⟩,
   ⟨524608, { brd := { parityDue := [524608] } }, by decide +kernel⟩,
   ⟨{}, by decide +kernel⟩,
   ⟨7, { saf := { lane := (vset (Vector.replicate 8 {}) 7 { gate := [8] }) } }, by decide +kernel⟩,
   ⟨.spar, 2098184, 0, {}, by decide +kernel⟩,
   ⟨.mgmt, 280, {} , by decide +kernel⟩⟩

theorem witness_memories :
    (∃ (i : Initiator) (a : BitVec 32) (s : State), s.mayAccess i = true ∧ inSramWin a.toNat = true ∧ a.toNat % 8 = 0) ∧
    (∃ (i : Initiator) (a : BitVec 32) (z : Fin 4) (s : State), s.mayAccess i = true ∧ inSramWin a.toNat = true ∧ z.val ≠ 3 ∧ a.toNat % 8 + 2 ^ z.val ≤ 8 ∧ (s.mem.merge.find? (fun e => e.addr == wordOf a.toNat) = none) ∧ s.mem.merge.length < 8) ∧
    (∃ (i : Initiator) (a : BitVec 32) (z : Fin 4) (v : BitVec 64) (x : MergeEntry) (s : State), s.mayAccess i = true ∧ inSramWin a.toNat = true ∧ z.val ≠ 3 ∧ a.toNat % 8 + 2 ^ z.val ≤ 8 ∧ (s.mem.merge.find? (fun e => e.addr == wordOf a.toNat) = some x) ∧ (x.merge a.toNat (2 ^ z.val) v.toNat).mask ≠ 0xFF) ∧
    (∃ (i : Initiator) (a : BitVec 32) (z : Fin 4) (v : BitVec 64) (x : MergeEntry) (s : State), s.mayAccess i = true ∧ inSramWin a.toNat = true ∧ z.val ≠ 3 ∧ a.toNat % 8 + 2 ^ z.val ≤ 8 ∧ (s.mem.merge.find? (fun e => e.addr == wordOf a.toNat) = some x) ∧ (x.merge a.toNat (2 ^ z.val) v.toNat).mask = 0xFF) ∧
    (∃ (i : Initiator) (a : BitVec 32) (z : Fin 4) (o : MergeEntry) (s : State), s.mayAccess i = true ∧ inSramWin a.toNat = true ∧ z.val ≠ 3 ∧ a.toNat % 8 + 2 ^ z.val ≤ 8 ∧ (s.mem.merge.find? (fun e => e.addr == wordOf a.toNat) = none) ∧ 8 ≤ s.mem.merge.length ∧ s.mem.merge.head? = some o ∧ s.sound o.addr .clean = true ∧ (s.mem.merge.filter (fun e => e.addr == o.addr) = [o])) ∧
    (∃ (j : Nat), j < 8) ∧
    (∃ (i : Initiator) (a : BitVec 32) (z : Fin 4) (s : State), s.mayAccess i = true ∧ inSramWin a.toNat = true ∧ a.toNat % 8 + 2 ^ z.val ≤ 8 ∧ (s.mem.merge.filter (fun e => e.addr == wordOf a.toNat) = []) ∧ s.sound (wordOf a.toNat) .clean = true) ∧
    (∃ (i : Initiator) (a : BitVec 32) (z : Fin 4) (x : MergeEntry) (s : State), s.mayAccess i = true ∧ inSramWin a.toNat = true ∧ a.toNat % 8 + 2 ^ z.val ≤ 8 ∧ (s.mem.merge.filter (fun e => e.addr == wordOf a.toNat) = [x]) ∧ s.sound (wordOf a.toNat) .clean = true) ∧
    (∃ (i : Initiator) (a : BitVec 32) (z : Fin 4) (s : State), s.mayAccess i = true ∧ inSramWin a.toNat = true ∧ a.toNat % 8 + 2 ^ z.val ≤ 8 ∧ (s.mem.merge.filter (fun e => e.addr == wordOf a.toNat) = []) ∧ s.mem.poison.contains (wordOf a.toNat) = false ∧ s.mem.upset = [] ∧ s.get (MEM.BANK_BUCKET (memBank (wordOf a.toNat))) + 1 ≤ s.get MEM.CTRL_CE_THRESH ∧ s.mem.history = []) ∧
    (∃ (i : Initiator) (a : BitVec 32) (z : Fin 4) (s : State), s.mayAccess i = true ∧ i ≠ .pcie ∧ inSramWin a.toNat = true ∧ a.toNat % 8 + 2 ^ z.val ≤ 8 ∧ (s.mem.merge.filter (fun e => e.addr == wordOf a.toNat) = []) ∧ ((s.get (STR.RING_BASE_BASE 0) + s.get (STR.RING_WR_WR 0) + 32 ≤ wordOf a.toNat ∨ wordOf a.toNat + 8 ≤ s.get (STR.RING_BASE_BASE 0) + s.get (STR.RING_WR_WR 0)))) ∧
    (∃ (i : Nat) (s : State), s.memAbsent i = false) ∧
    (∃ (i : Initiator) (a : BitVec 32) (z : Fin 4) (k : Nat) (s : State), s.mayAccess i = true ∧ inMemory a.toNat = true ∧ s.memAbsent a.toNat = false ∧ s.memFault a.toNat (2 ^ z.val) true = some k) ∧
    (∃ (i : Initiator) (a : BitVec 32) (z : Fin 4) (k : Nat) (s : State), s.mayAccess i = true ∧ inMemory a.toNat = true ∧ s.memAbsent a.toNat = false ∧ s.memFault a.toNat (2 ^ z.val) false = some k) ∧
    (∃ (i : Initiator) (a : BitVec 32) (s : State), s.mayAccess i = true ∧ inQdrWin a.toNat = true ∧ s.variant = false) ∧
    (∃ (i : Initiator) (a : BitVec 32) (s : State), s.mayAccess i = true ∧ inQdrWin a.toNat = true ∧ s.variant = false) ∧
    (∃ (i : Initiator) (a : BitVec 32) (s : State), ((inMemory a.toNat = false ∨ s.mayAccess i = false))) ∧
    (∃ (i : Initiator) (a : BitVec 32) (s : State), ((inMemory a.toNat = false ∨ s.mayAccess i = false))) ∧
    (∃ (a : BitVec 32) (e : SprEcc) (x : MergeEntry) (s : State), s.awake = true ∧ (s.mem.merge.filter (fun e => e.addr == wordOf a.toNat) = [x]) ∧ ((x.mask = 0xFF ∨ s.sound (wordOf a.toNat) e = true))) ∧
    (∃ (a : BitVec 32) (x : MergeEntry) (s : State), s.awake = true ∧ (s.mem.merge.filter (fun e => e.addr == wordOf a.toNat) = [x]) ∧ x.mask ≠ 0xFF ∧ s.mem.poison.contains (wordOf a.toNat) = false ∧ s.mem.upset = [] ∧ s.get (MEM.BANK_BUCKET (memBank (wordOf a.toNat))) + 1 ≤ s.get MEM.CTRL_CE_THRESH ∧ s.mem.history = []) ∧
    (∃ (a : BitVec 32) (x : MergeEntry) (s : State), s.awake = true ∧ (s.mem.merge.filter (fun e => e.addr == wordOf a.toNat) = [x]) ∧ x.mask ≠ 0xFF ∧ ((s.get (STR.RING_BASE_BASE 0) + s.get (STR.RING_WR_WR 0) + 32 ≤ wordOf a.toNat ∨ wordOf a.toNat + 8 ≤ s.get (STR.RING_BASE_BASE 0) + s.get (STR.RING_WR_WR 0)))) ∧
    (∃ (a : BitVec 32) (e : SprEcc) (s : State), s.awake = true ∧ (s.mem.merge.filter (fun e => e.addr == wordOf a.toNat) = [])) ∧
    (∃ (s : State), s.awake = true) ∧
    (∃ (s : State), s.flag MEM.CTRL_SCRUB_EN = false) ∧
    (∃ (a : BitVec 32) (s : State), s.awake = true ∧ s.patrolDue (wordOf a.toNat) = true ∧ inSramWin a.toNat = true) ∧
    (∃ (a : BitVec 32) (t : Nat) (s : State), s.mem.patrol = [(wordOf a.toNat, t)] ∧ ((s.flag MEM.CTRL_SCRUB_EN = false ∨ s.since t < 3600000 * max 1 (s.get MEM.CTRL_SCRUB_INT)))) ∧
    (∃ (w : Nat) (t : Nat) (s : State), s.mem.patrol = [(w, t)]) ∧
    (∃ (b : Fin 16) (k : Fin 32) (s : State), s.patrolDue (spareKey b k) = false) ∧
    (∃ (a : BitVec 32) (s : State), s.awake = true ∧ s.patrolDue (wordOf a.toNat) = true ∧ inSramWin a.toNat = true ∧ s.mem.merge = [] ∧ s.mem.poison = [] ∧ s.mem.upset = []) ∧
    (∃ (b : Fin 16) (k : Fin 32) (w : Nat) (s : State), s.awake = true ∧ s.patrolDue (spareKey b k) = true ∧ s.mem.remap = [(w, k.val)] ∧ memBank w = b.val) ∧
    (∃ (b : Fin 16) (k : Fin 32) (s : State), s.awake = true ∧ s.patrolDue (spareKey b k) = true ∧ s.mem.remap = [] ∧ s.get (MEM.BANK_BUCKET b) + 1 ≤ s.get MEM.CTRL_CE_THRESH) ∧
    (∃ (b : Fin 16) (k : Fin 32) (s : State), s.awake = true ∧ s.patrolDue (spareKey b k) = true ∧ s.mem.remap = []) ∧
    (∃ (s : State), s.awake = true ∧ s.variant = true ∧ s.flag PWR.CTRL_QDR_EN = true ∧ s.qdrDevices ≠ 0 ∧ s.flag MEM.STATUS_QDR_RDY = false) ∧
    (∃ (s : State), s.awake = true ∧ s.variant = true ∧ s.flag PWR.CTRL_QDR_EN = true ∧ s.qdrDevices ≠ 0 ∧ s.flag MEM.STATUS_QDR_RDY = false) ∧
    (∃ (s : State), ((s.variant = false ∨ s.flag PWR.CTRL_QDR_EN = false ∨ s.qdrDevices = 0 ∨ s.flag MEM.STATUS_QDR_RDY = true))) ∧
    (∃ (s : State), s.awake = true) ∧
    (∃ (s : State), s.awake = true ∧ (s.mem.merge.all (fun x => x.mask == 0xFF || s.sound x.addr .clean) = true)) ∧
    (∃ (s : State), s.awake = true) ∧
    (∃ (w : Nat) (s : State), memBank w < 16 ∧ s.get (MEM.BANK_SPARES_USED (memBank w)) < 32) ∧
    (∃ (w : Nat) (s : State), ((16 ≤ memBank w ∨ 32 ≤ s.get (MEM.BANK_SPARES_USED (memBank w))))) ∧
    (∃ (w : Nat) (b : Nat) (s : State), memBank w = b ∧ s.get MEM.CTRL_CE_THRESH < min 0xFF (s.get (MEM.BANK_BUCKET b) + 1) ∧ s.mem.burst.contains b = false) :=
  ⟨⟨.spar, 268435480, {}, by decide +kernel⟩,
   ⟨.spar, 268435456, 0, {}, by decide +kernel⟩,
   ⟨.spar, 268435456, 0, 0, { addr := 268435456, data := 55, mask := 3 }, { mem := { merge := [{ addr := 268435456, data := 55, mask := 3 }] } }, by decide +kernel⟩,
   ⟨.spar, 268435480, 2, 0, { addr := 268435480, data := 1234605616436508552, mask := 240 }, { mem := { merge := [{ addr := 268435480, data := 1234605616436508552, mask := 240 }] } }, by decide +kernel⟩,
   ⟨.spar, 268436380, 0, { addr := 268435456, data := 55, mask := 3 }, { mem := { merge := [{ addr := 268435456, data := 55, mask := 3 }, { addr := 0, data := 0, mask := 0 }, { addr := 0, data := 0, mask := 0 }, { addr := 0, data := 0, mask := 0 }, { addr := 0, data := 0, mask := 0 }, { addr := 0, data := 0, mask := 0 }, { addr := 0, data := 0, mask := 0 }, { addr := 0, data := 0, mask := 0 }] } }, by decide +kernel⟩,
   ⟨0, by decide +kernel⟩,
   ⟨.spar, 268435456, 0, {}, by decide +kernel⟩,
   ⟨.spar, 268435496, 0, { addr := 268435496, data := 55, mask := 3 }, { mem := { merge := [{ addr := 268435496, data := 55, mask := 3 }] } }, by decide +kernel⟩,
   ⟨.spar, 268435740, 0, {}, by decide +kernel⟩,
   ⟨.mgmt, 268435564, 0, {}, by decide +kernel⟩,
   ⟨0, {}, by decide +kernel⟩,
   ⟨.mgmt, 562268172, 0, 4, {}, by decide +kernel⟩,
   ⟨.mgmt, 562268172, 0, 4, {}, by decide +kernel⟩,
   ⟨.mgmt, 562268172, { variant := false }, by decide +kernel⟩,
   ⟨.mgmt, 562268172, { variant := false }, by decide +kernel⟩,
   ⟨.spar, 0, {}, by decide +kernel⟩,
   ⟨.tether, 0, {}, by decide +kernel⟩,
   ⟨268435512, .clean, { addr := 268435512, data := 55, mask := 3 }, { mem := { merge := [{ addr := 268435512, data := 55, mask := 3 }] } }, by decide +kernel⟩,
   ⟨268435488, { addr := 268435488, data := 55, mask := 3 }, { mem := { merge := [{ addr := 268435488, data := 55, mask := 3 }] } }, by decide +kernel⟩,
   ⟨268435488, { addr := 268435488, data := 55, mask := 3 }, { mem := { merge := [{ addr := 268435488, data := 55, mask := 3 }] } }, by decide +kernel⟩,
   ⟨0, .uncorrectable, {}, by decide +kernel⟩,
   ⟨{}, by decide +kernel⟩,
   ⟨{ regs := [(MEM.CTRL_SCRUB_EN.key, 0)] }, by decide +kernel⟩,
   ⟨268435456, {}, by decide +kernel⟩,
   ⟨2606663080, 0, { mem := { patrol := [(2606663080, 0)] } }, by decide +kernel⟩,
   ⟨5, 513, { mem := { patrol := [(5, 513)] } }, by decide +kernel⟩,
   ⟨0, 0, { regs := [(MEM.CTRL_SCRUB_EN.key, 0)] }, by decide +kernel⟩,
   ⟨268435456, {}, by decide +kernel⟩,
   ⟨7, 14, 268435904, { mem := { remap := [(268435904, 14)] } }, by decide +kernel⟩,
   ⟨0, 0, {}, by decide +kernel⟩,
   ⟨0, 0, {}, by decide +kernel⟩,
   ⟨{ regs := [(PWR.CTRL_QDR_EN.key, 1), (MEM.QDR_CFG_DEVICES.key, 1)] }, by decide +kernel⟩,
   ⟨{ regs := [(PWR.CTRL_QDR_EN.key, 1), (MEM.QDR_CFG_DEVICES.key, 1)] }, by decide +kernel⟩,
   ⟨{}, by decide +kernel⟩,
   ⟨{}, by decide +kernel⟩,
   ⟨{}, by decide +kernel⟩,
   ⟨{}, by decide +kernel⟩,
   ⟨0, {}, by decide +kernel⟩,
   ⟨536870912, {}, by decide +kernel⟩,
   ⟨0, 0, { regs := [((MEM.BANK_BUCKET 0).key, 16)] } , by decide +kernel⟩⟩

theorem witness_reel :
    (∃ (c : ReelId) (s : State), s.awake = true ∧ s.reelBusy c = false) ∧
    (∃ (c : ReelId) (s : State), s.awake = true ∧ s.reelBusy c = false) ∧
    (∃ (c : ReelId) (s : State), s.awake = true ∧ s.reelBusy c = true) ∧
    (∃ (c : ReelId) (s : State), s.awake = true ∧ s.reelBusy c = true) ∧
    (∃ (c : ReelId) (s : State), s.awake = true ∧ s.reelBusy c = false) ∧
    (∃ (c : ReelId) (s : State), s.awake = true ∧ s.reelBusy c = true ∧ (((s.rl c).bursts ≠ [] ∨ ((s.rl c).desc = [] ∧ (s.rl c).paused = false)))) ∧
    (∃ (c : ReelId) (s : State), s.awake = true ∧ s.reelBusy c = true ∧ (s.rl c).bursts = [] ∧ (s.rl c).desc ≠ [] ∧ (s.rl c).abort = false ∧ (s.rl c).bytes < (s.rl c).total) ∧
    (∃ (c : ReelId) (s : State), ((s.get (REEL.CH_STATUS_STATE c) ≠ 1 ∨ (s.rl c).desc ≠ [] ∨ (s.rl c).paused = true))) ∧
    (∃ (c : ReelId) (s : State), s.awake = true ∧ s.get (REEL.CH_STATUS_STATE c) = 1 ∧ (s.rl c).desc = [] ∧ (s.rl c).paused = false ∧ inMemory (s.get (REEL.CH_DESC_ADDR c)) = false) ∧
    (∃ (c : ReelId) (s : State), s.awake = true ∧ s.get (REEL.CH_STATUS_STATE c) = 1 ∧ (s.rl c).desc = [] ∧ (s.rl c).paused = false ∧ s.pwr.sleeps = [] ∧ (s.rl c).stop = false ∧ (s.rl c).abort = false ∧ (s.rl c).resume = false ∧ inSramWin (s.get (REEL.CH_DESC_ADDR c)) = true ∧ s.get (REEL.CH_DESC_ADDR c) % 64 = 0 ∧ s.mem.merge = [] ∧ s.mem.poison = [] ∧ s.mem.upset = [] ∧ (descOk s.variant false { desc := (List.range 16).map (fun k => readLE s.mem.cells (s.get (REEL.CH_DESC_ADDR c) + 4 * k) 4) } = true)) ∧
    (∃ (c : ReelId) (s : State), s.awake = true ∧ s.get (REEL.CH_STATUS_STATE c) = 1 ∧ (s.rl c).desc = [] ∧ (s.rl c).paused = false ∧ (s.rl c).resume = false ∧ inSramWin (s.get (REEL.CH_DESC_ADDR c)) = true ∧ s.get (REEL.CH_DESC_ADDR c) % 64 = 0 ∧ s.mem.merge = [] ∧ s.mem.poison = [] ∧ s.mem.upset = [] ∧ (s.rl c).poison = false ∧ (descOk s.variant false { desc := (List.range 16).map (fun k => readLE s.mem.cells (s.get (REEL.CH_DESC_ADDR c) + 4 * k) 4) } = false)) ∧
    (∃ (c : ReelId) (s : State), s.awake = true ∧ s.get (REEL.CH_STATUS_STATE c) = 1 ∧ (s.rl c).desc ≠ [] ∧ s.reqLine (s.rl c).req = false) ∧
    (∃ (c : ReelId) (s : State), s.awake = true ∧ s.reqLine (s.rl c).req = true ∧ s.reelPick ≠ some c) ∧
    (∃ (c : ReelId) (d : ReelId) (s : State), s.reelPick = some c ∧ s.reelReady d = true) ∧
    (∃ (c : ReelId) (x : ReelIn) (h : ReelCh) (s : State), s.awake = true ∧ s.reelPick = some c ∧ s.rl c = h ∧ h.mode = 0 ∧ h.srcHost = false ∧ h.dstHost = false ∧ h.srcFix = false ∧ h.dstFix = false ∧ inSramWin (h.src + h.read) = true ∧ inSramWin (h.src + h.read + min (16 * h.burst) (h.total - h.read)) = true ∧ s.mem.merge = [] ∧ s.mem.poison = [] ∧ s.mem.upset = [] ∧ x.ecc = [] ∧ h.bursts = []) ∧
    (∃ (c : ReelId) (s : State), (s.rl c).bursts = []) ∧
    (∃ (c : ReelId) (b : ReelBurst) (h : ReelCh) (s : State), s.awake = true ∧ s.rl c = h ∧ h.bursts = [b] ∧ b.full = true ∧ b.err = none ∧ h.dstHost = true ∧ h.stop = false ∧ h.abort = false ∧ h.paused = false) ∧
    (∃ (c : ReelId) (b : ReelBurst) (h : ReelCh) (s : State), s.awake = true ∧ s.rl c = h ∧ h.bursts = [b] ∧ b.err = none ∧ b.len = b.data.length ∧ b.data.length % 8 = 0 ∧ b.dst % 8 = 0 ∧ h.dstHost = false ∧ h.dstFix = false ∧ h.stop = false ∧ h.abort = false ∧ h.paused = false ∧ inSramWin b.dst = true ∧ inSramWin (b.dst + b.data.length) = true ∧ (b.data.all (fun p => !p.2) = true)) ∧
    (∃ (c : ReelId) (s : State), (((s.rl c).bursts = [] ∨ s.reqLine (s.rl c).req = true))) ∧
    (∃ (c : ReelId) (b : ReelBurst) (h : ReelCh) (s : State), s.awake = true ∧ s.rl c = h ∧ h.bursts = [b] ∧ b.full = false ∧ s.reqLine h.req = false ∧ h.dstHost = true ∧ h.abort = false) ∧
    (∃ (c : ReelId) (s : State), s.awake = true ∧ s.reelBusy c = true ∧ (s.rl c).barrier = true ∧ (s.rl c).desc ≠ [] ∧ (s.rl c).bursts = [] ∧ (s.rl c).total ≤ (s.rl c).bytes) ∧
    (∃ (c : ReelId) (s : State), ((s.reelBusy c = false ∨ (s.rl c).barrier = false ∨ (s.rl c).desc = [] ∨ (s.rl c).bursts ≠ [] ∨ (s.rl c).bytes < (s.rl c).total))) ∧
    (∃ (c : ReelId) (h : ReelCh) (s : State), s.awake = true ∧ s.reelBusy c = true ∧ s.rl c = h ∧ h.desc ≠ [] ∧ h.bursts = [] ∧ h.total ≤ h.bytes ∧ ((h.barrier = false ∨ h.confirmed = true)) ∧ h.isLast = true ∧ s.get (REEL.CH_DESC_ADDR c) % 8 = 0) ∧
    (∃ (c : ReelId) (h : ReelCh) (s : State), s.awake = true ∧ s.reelBusy c = true ∧ s.rl c = h ∧ h.desc ≠ [] ∧ h.bursts = [] ∧ h.total ≤ h.bytes ∧ ((h.barrier = false ∨ h.confirmed = true)) ∧ h.isLast = false) ∧
    (∃ (c : ReelId) (s : State), ((s.reelBusy c = false ∨ (s.rl c).desc = [] ∨ (s.rl c).bursts ≠ [] ∨ (s.rl c).bytes < (s.rl c).total ∨ ((s.rl c).barrier = true ∧ (s.rl c).confirmed = false)))) ∧
    (∃ (s : State), s.awake = true) ∧
    (∃ (c : ReelId) (h : ReelCh) (s : State), s.rl c = h ∧ h.bursts = [] ∧ h.desc ≠ [] ∧ h.abort = true) ∧
    (∃ (c : ReelId) (h : ReelCh) (s : State), s.rl c = h ∧ h.bursts = [] ∧ h.desc ≠ [] ∧ h.abort = false ∧ h.stop = false ∧ h.paused = true) :=
  ⟨⟨0, {}, by decide +kernel⟩,
   ⟨0, {}, by decide +kernel⟩,
   ⟨7, { regs := [((REEL.CH_STATUS_STATE 7).key, 1)] }, by decide +kernel⟩,
   ⟨7, { regs := [((REEL.CH_STATUS_STATE 7).key, 1)] }, by decide +kernel⟩,
   ⟨0, {}, by decide +kernel⟩,
   ⟨7, { regs := [((REEL.CH_STATUS_STATE 7).key, 1)] }, by decide +kernel⟩,
   ⟨7, { regs := [((REEL.CH_STATUS_STATE 7).key, 1)], reel := (vset (Vector.replicate 8 {}) 7 { desc := [0, 1] }) }, by decide +kernel⟩,
   ⟨0, {}, by decide +kernel⟩,
   ⟨6, { regs := [((REEL.CH_STATUS_STATE 6).key, 1)] }, by decide +kernel⟩,
   ⟨7, { regs := [((REEL.CH_DESC_ADDR 7).key, 268435712), ((REEL.CH_STATUS_STATE 7).key, 1)], mem := { cells := [(268435716, 1)] } }, by decide +kernel⟩,
   ⟨4, { regs := [((REEL.CH_DESC_ADDR 4).key, 268435712), ((REEL.CH_STATUS_STATE 4).key, 1)] }, by decide +kernel⟩,
   ⟨4, { regs := [((REEL.CH_STATUS_STATE 4).key, 1)], reel := (vset (Vector.replicate 8 {}) 4 { desc := [512] }) }, by decide +kernel⟩,
   ⟨0, {}, by decide +kernel⟩,
   ⟨6, 0, { regs := [((REEL.CH_STATUS_STATE 0).key, 1), ((REEL.CH_STATUS_STATE 6).key, 1)], reel := (vset (vset (Vector.replicate 8 {}) 0 { desc := [0, 1] }) 6 { desc := [0, 1] }), reelLast := (vset (Vector.replicate 4 7) 0 0) }, by decide +kernel⟩,
   ⟨4, {}, { desc := [65536, 69, 268435464, 0, 268437512, 0, 0, 0, 0, 0, 0, 0, 0, 0, 0, 0], read := 30 }, { regs := [((REEL.CH_STATUS_STATE 4).key, 1)], reel := (vset (Vector.replicate 8 {}) 4 { desc := [65536, 69, 268435464, 0, 268437512, 0, 0, 0, 0, 0, 0, 0, 0, 0, 0, 0], read := 30 }) }, by decide +kernel⟩,
   ⟨0, {}, by decide +kernel⟩,
   ⟨5, { len := 1, dst := 55, data := [(128, false)] }, { desc := [64, 64, 0, 0, 0, 0, 0, 0, 0, 0, 0, 0, 0, 0, 0, 0], bytes := 63, read := 16, bursts := [{ len := 1, dst := 55, data := [(128, false)] }], confirmed := true, carry := [(175, true), (194, false)] }, { reel := (vset (Vector.replicate 8 {}) 5 { desc := [64, 64, 0, 0, 0, 0, 0, 0, 0, 0, 0, 0, 0, 0, 0, 0], bytes := 63, read := 16, bursts := [{ len := 1, dst := 55, data := [(128, false)] }], confirmed := true, carry := [(175, true), (194, false)] }) }, by decide +kernel⟩,
   ⟨6, { len := 0, dst := 268435464 }, { desc := [0, 64, 0, 0, 0, 0, 0, 0, 0, 0, 0, 0, 0, 0, 0, 0], bytes := 569, read := 648, bursts := [{ len := 0, dst := 268435464 }], poison := true }, { reel := (vset (Vector.replicate 8 {}) 6 { desc := [0, 64, 0, 0, 0, 0, 0, 0, 0, 0, 0, 0, 0, 0, 0, 0], bytes := 569, read := 648, bursts := [{ len := 0, dst := 268435464 }], poison := true }) }, by decide +kernel⟩,
   ⟨0, {}, by decide +kernel⟩,
   ⟨5, { len := 5, dst := 55, data := [(128, false)] }, { desc := [576, 64, 0, 0, 0, 0, 0, 0, 0, 0, 0, 0, 0, 0, 0, 0], bytes := 63, read := 16, bursts := [{ len := 5, dst := 55, data := [(128, false)] }], paused := true, confirmed := true, carry := [(175, true), (194, false)] }, { reel := (vset (Vector.replicate 8 {}) 5 { desc := [576, 64, 0, 0, 0, 0, 0, 0, 0, 0, 0, 0, 0, 0, 0, 0], bytes := 63, read := 16, bursts := [{ len := 5, dst := 55, data := [(128, false)] }], paused := true, confirmed := true, carry := [(175, true), (194, false)] }) }, by decide +kernel⟩,
   ⟨4, { regs := [((REEL.CH_STATUS_STATE 4).key, 1)], reel := (vset (Vector.replicate 8 {}) 4 { desc := [4] }) }, by decide +kernel⟩,
   ⟨0, {}, by decide +kernel⟩,
   ⟨5, { desc := [28, 64, 0, 0, 0, 0, 0, 0, 0, 0, 0, 0, 0, 0, 0, 0], bytes := 64, read := 681, poison := true, confirmed := true }, { regs := [((REEL.CH_STATUS_STATE 5).key, 1)], reel := (vset (Vector.replicate 8 {}) 5 { desc := [28, 64, 0, 0, 0, 0, 0, 0, 0, 0, 0, 0, 0, 0, 0, 0], bytes := 64, read := 681, poison := true, confirmed := true }) }, by decide +kernel⟩,
   ⟨5, { desc := [4, 64, 0, 0, 0, 0, 0, 0, 0, 268436480, 0, 0, 0, 0, 0, 0], bytes := 64, read := 681, poison := true, confirmed := true }, { regs := [((REEL.CH_STATUS_STATE 5).key, 1)], reel := (vset (Vector.replicate 8 {}) 5 { desc := [4, 64, 0, 0, 0, 0, 0, 0, 0, 268436480, 0, 0, 0, 0, 0, 0], bytes := 64, read := 681, poison := true, confirmed := true }) }, by decide +kernel⟩,
   ⟨0, {}, by decide +kernel⟩,
   ⟨{}, by decide +kernel⟩,
   ⟨4, { desc := [0, 64, 0, 0, 0, 0, 0, 0, 0, 0, 0, 0, 0, 0, 0, 0], bytes := 764, read := 651, abort := true, carry := [(242, true), (138, true)] }, { reel := (vset (Vector.replicate 8 {}) 4 { desc := [0, 64, 0, 0, 0, 0, 0, 0, 0, 0, 0, 0, 0, 0, 0, 0], bytes := 764, read := 651, abort := true, carry := [(242, true), (138, true)] }) }, by decide +kernel⟩,
   ⟨4, { desc := [0, 64, 0, 0, 0, 0, 0, 0, 0, 0, 0, 0, 0, 0, 0, 0], bytes := 764, read := 651, paused := true, carry := [(242, true), (138, true)] }, { reel := (vset (Vector.replicate 8 {}) 4 { desc := [0, 64, 0, 0, 0, 0, 0, 0, 0, 0, 0, 0, 0, 0, 0, 0], bytes := 764, read := 651, paused := true, carry := [(242, true), (138, true)] }) } , by decide +kernel⟩⟩

theorem witness_indirect_pairs :
    (∃ (i : Initiator) (n : Lane) (s : State), s.mayAccess i = true ∧ (s.ln n).power = .active ∧ (Pair.slc n).valid (s.get ((LN.SLC_ADDR_ADDR n).forInit i.code) / 4 * 4) = true ∧ s.pairBusy (s.get ((LN.SLC_ADDR_ADDR n).forInit i.code) / 4 * 4) (Pair.slc n) = false ∧ s.brd.parityBad = []) ∧
    (∃ (i : Initiator) (n : Lane) (s : State), s.mayAccess i = true ∧ s.pendingOf i.code = none ∧ (((s.ln n).power ≠ .active ∨ s.pairBusy (s.get ((LN.SLC_ADDR_ADDR n).forInit i.code) / 4 * 4) (Pair.slc n) = true))) ∧
    (∃ (i : Initiator) (n : Lane) (s : State), s.mayAccess i = true ∧ s.pendingOf i.code = none ∧ (s.ln n).power = .active ∧ s.pairBusy (s.get ((LN.SLC_ADDR_ADDR n).forInit i.code) / 4 * 4) (Pair.slc n) = false ∧ (Pair.slc n).valid (s.get ((LN.SLC_ADDR_ADDR n).forInit i.code) / 4 * 4) = false) ∧
    (∃ (i : Initiator) (s : State), s.mayAccess i = false) ∧
    (∃ (i : Initiator) (n : Lane) (a : Nat) (s : State), s.mayAccess i = true ∧ s.pendingOf i.code = none ∧ s.brd.parityBad = [] ∧ (s.ln n).power = .active ∧ s.get ((LN.SLC_ADDR_ADDR n).forInit i.code) = a ∧ a = 0x1100) ∧
    (∃ (i : Initiator) (n : Lane) (a : Nat) (s : State), s.mayAccess i = true ∧ s.pendingOf i.code = none ∧ s.brd.parityBad = [] ∧ (s.ln n).power = .active ∧ s.get ((LN.SLC_ADDR_ADDR n).forInit i.code) = a ∧ a / 4 * 4 ≠ 0x1100 ∧ (Pair.slc n).valid (a / 4 * 4) = true) ∧
    (∃ (i : Initiator) (n : Lane) (s : State), s.mayAccess i = true ∧ (s.ln n).power = .active ∧ (Pair.eqc n).valid (s.get ((LN.EQC_ADDR_ADDR n).forInit i.code) / 4 * 4) = true ∧ s.pairBusy (s.get ((LN.EQC_ADDR_ADDR n).forInit i.code) / 4 * 4) (Pair.eqc n) = false ∧ s.brd.parityBad = []) ∧
    (∃ (i : Initiator) (n : Lane) (s : State), s.mayAccess i = true ∧ s.pendingOf i.code = none ∧ (((s.ln n).power ≠ .active ∨ s.pairBusy (s.get ((LN.EQC_ADDR_ADDR n).forInit i.code) / 4 * 4) (Pair.eqc n) = true))) ∧
    (∃ (i : Initiator) (n : Lane) (s : State), s.mayAccess i = true ∧ s.pendingOf i.code = none ∧ (s.ln n).power = .active ∧ s.pairBusy (s.get ((LN.EQC_ADDR_ADDR n).forInit i.code) / 4 * 4) (Pair.eqc n) = false ∧ (Pair.eqc n).valid (s.get ((LN.EQC_ADDR_ADDR n).forInit i.code) / 4 * 4) = false) ∧
    (∃ (i : Initiator) (s : State), s.mayAccess i = false) ∧
    (∃ (i : Initiator) (n : Lane) (a : Nat) (s : State), s.mayAccess i = true ∧ s.pendingOf i.code = none ∧ s.brd.parityBad = [] ∧ (s.ln n).power = .active ∧ s.get ((LN.EQC_ADDR_ADDR n).forInit i.code) = a ∧ a < 0x1C0 ∧ a % 4 = 0) ∧
    (∃ (i : Initiator) (n : Lane) (a : Nat) (s : State), s.mayAccess i = true ∧ s.pendingOf i.code = none ∧ s.brd.parityBad = [] ∧ (s.ln n).power = .active ∧ s.get ((LN.EQC_ADDR_ADDR n).forInit i.code) = a ∧ 0x200 ≤ a ∧ a < 0x250 ∧ a % 4 = 0) ∧
    (∃ (i : Initiator) (n : Lane) (a : Nat) (s : State), s.mayAccess i = true ∧ s.pendingOf i.code = none ∧ s.brd.parityBad = [] ∧ (s.ln n).power = .active ∧ s.get ((LN.EQC_ADDR_ADDR n).forInit i.code) = a ∧ a = 0x300) ∧
    (∃ (i : Initiator) (n : Lane) (a : Nat) (s : State), s.mayAccess i = true ∧ s.pendingOf i.code = none ∧ s.brd.parityBad = [] ∧ (s.ln n).power = .active ∧ s.get ((LN.EQC_ADDR_ADDR n).forInit i.code) = a ∧ 0x800 ≤ a ∧ a ≤ 0x813) ∧
    (∃ (i : Initiator) (n : Lane) (s : State), s.mayAccess i = true ∧ (s.ln n).power = .active ∧ (Pair.txt n).valid (s.get ((LN.TXT_ADDR_ADDR n).forInit i.code) / 4 * 4) = true ∧ s.pairBusy (s.get ((LN.TXT_ADDR_ADDR n).forInit i.code) / 4 * 4) (Pair.txt n) = false ∧ s.brd.parityBad = []) ∧
    (∃ (i : Initiator) (n : Lane) (s : State), s.mayAccess i = true ∧ s.pendingOf i.code = none ∧ (((s.ln n).power ≠ .active ∨ s.pairBusy (s.get ((LN.TXT_ADDR_ADDR n).forInit i.code) / 4 * 4) (Pair.txt n) = true))) ∧
    (∃ (i : Initiator) (n : Lane) (s : State), s.mayAccess i = true ∧ s.pendingOf i.code = none ∧ (s.ln n).power = .active ∧ s.pairBusy (s.get ((LN.TXT_ADDR_ADDR n).forInit i.code) / 4 * 4) (Pair.txt n) = false ∧ (Pair.txt n).valid (s.get ((LN.TXT_ADDR_ADDR n).forInit i.code) / 4 * 4) = false) ∧
    (∃ (i : Initiator) (s : State), s.mayAccess i = false) ∧
    (∃ (i : Initiator) (n : Lane) (a : Nat) (s : State), s.mayAccess i = true ∧ s.pendingOf i.code = none ∧ s.brd.parityBad = [] ∧ (s.ln n).power = .active ∧ s.get ((LN.TXT_ADDR_ADDR n).forInit i.code) = a ∧ isShadow a = true ∧ a % 4 = 0 ∧ s.flag (LN.TX_STATUS_SWAP_PEND n) = false) ∧
    (∃ (i : Initiator) (n : Lane) (a : Nat) (s : State), s.mayAccess i = true ∧ s.pendingOf i.code = none ∧ s.brd.parityBad = [] ∧ (s.ln n).power = .active ∧ s.get ((LN.TXT_ADDR_ADDR n).forInit i.code) = a ∧ isShadow (a / 4 * 4) = false ∧ (Pair.txt n).valid (a / 4 * 4) = true) ∧
    (∃ (i : Initiator) (j : Host) (s : State), s.mayAccess i = true ∧ (s.hl j).power = .active ∧ (Pair.rxc j).valid (s.get ((HL.RXC_ADDR_ADDR j).forInit i.code) / 4 * 4) = true ∧ s.pairBusy (s.get ((HL.RXC_ADDR_ADDR j).forInit i.code) / 4 * 4) (Pair.rxc j) = false ∧ s.brd.parityBad = []) ∧
    (∃ (i : Initiator) (j : Host) (s : State), s.mayAccess i = true ∧ s.pendingOf i.code = none ∧ (((s.hl j).power ≠ .active ∨ s.pairBusy (s.get ((HL.RXC_ADDR_ADDR j).forInit i.code) / 4 * 4) (Pair.rxc j) = true))) ∧
    (∃ (i : Initiator) (j : Host) (s : State), s.mayAccess i = true ∧ s.pendingOf i.code = none ∧ (s.hl j).power = .active ∧ s.pairBusy (s.get ((HL.RXC_ADDR_ADDR j).forInit i.code) / 4 * 4) (Pair.rxc j) = false ∧ (Pair.rxc j).valid (s.get ((HL.RXC_ADDR_ADDR j).forInit i.code) / 4 * 4) = false) ∧
    (∃ (i : Initiator) (s : State), s.mayAccess i = false) ∧
    (∃ (i : Initiator) (j : Host) (a : Nat) (s : State), s.mayAccess i = true ∧ s.pendingOf i.code = none ∧ s.brd.parityBad = [] ∧ (s.hl j).power = .active ∧ s.get ((HL.RXC_ADDR_ADDR j).forInit i.code) = a ∧ a < 0x60 ∧ a % 4 = 0) ∧
    (∃ (i : Initiator) (j : Host) (a : Nat) (s : State), s.mayAccess i = true ∧ s.pendingOf i.code = none ∧ s.brd.parityBad = [] ∧ (s.hl j).power = .active ∧ s.get ((HL.RXC_ADDR_ADDR j).forInit i.code) = a ∧ 0x100 ≤ a ∧ a ≤ 0x10B ∧ a % 4 = 0) ∧
    (∃ (i : Initiator) (n : Lane) (e : SprEcc) (s : State), s.mayAccess i = true ∧ (s.ln n).power = .active ∧ s.pairBusy (s.get ((LN.SLC_ADDR_ADDR n).forInit i.code) / 4 * 4) (Pair.slc n) = false ∧ (Pair.slc n).valid (s.get ((LN.SLC_ADDR_ADDR n).forInit i.code) / 4 * 4) = true ∧ e ≠ .clean) ∧
    (∃ (i : Initiator) (n : Lane) (e : SprEcc) (s : State), s.mayAccess i = true ∧ (s.ln n).power = .active ∧ s.pairBusy (s.get ((LN.EQC_ADDR_ADDR n).forInit i.code) / 4 * 4) (Pair.eqc n) = false ∧ (Pair.eqc n).valid (s.get ((LN.EQC_ADDR_ADDR n).forInit i.code) / 4 * 4) = true ∧ e ≠ .clean) ∧
    (∃ (i : Initiator) (n : Lane) (e : SprEcc) (s : State), s.mayAccess i = true ∧ (s.ln n).power = .active ∧ s.pairBusy (s.get ((LN.TXT_ADDR_ADDR n).forInit i.code) / 4 * 4) (Pair.txt n) = false ∧ (Pair.txt n).valid (s.get ((LN.TXT_ADDR_ADDR n).forInit i.code) / 4 * 4) = true ∧ e ≠ .clean) ∧
    (∃ (i : Initiator) (j : Host) (e : SprEcc) (s : State), s.mayAccess i = true ∧ (s.hl j).power = .active ∧ s.pairBusy (s.get ((HL.RXC_ADDR_ADDR j).forInit i.code) / 4 * 4) (Pair.rxc j) = false ∧ (Pair.rxc j).valid (s.get ((HL.RXC_ADDR_ADDR j).forInit i.code) / 4 * 4) = true ∧ e ≠ .clean) ∧
    (∃ (i : Initiator) (g : Fin 2) (s : State), s.mayAccess i = true ∧ s.ringOn g = true ∧ s.ringUnread g ≠ 0 ∧ s.mem.merge = [] ∧ s.mem.poison = [] ∧ s.mem.upset = []) ∧
    (∃ (i : Initiator) (g : Fin 2) (s : State), s.mayAccess i = true ∧ i ≠ .pcie ∧ s.ringOn g = true ∧ s.ringUnread g ≠ 0 ∧ s.mem.merge = [] ∧ ((s.get (STR.RING_BASE_BASE 0) + s.get (STR.RING_WR_WR 0) + 32 ≤ s.get (STR.RING_BASE_BASE g) + s.get (STR.RING_RD_RD g) / 8 * 8 ∨ s.get (STR.RING_BASE_BASE g) + s.get (STR.RING_RD_RD g) + 8 ≤ s.get (STR.RING_BASE_BASE 0) + s.get (STR.RING_WR_WR 0))) ∧ s.get (STR.RING_RD_RD g) < s.ringSize g ∧ s.get (STR.RING_BASE_BASE g) % 8 = 0) ∧
    (∃ (i : Initiator) (g : Fin 2) (s : State), s.mayAccess i = true ∧ ((s.ringOn g = false ∨ s.ringUnread g = 0))) ∧
    (∃ (i : Initiator) (s : State), s.mayAccess i = false) :=
  ⟨⟨.spar, 0, { line := (vset (Vector.replicate 8 {}) 0 { power := .active }) }, by decide +kernel⟩,
   ⟨.spar, 0, {}, by decide +kernel⟩,
   ⟨.spar, 4, { regs := [(35184414033920, 4408)], line := (vset (Vector.replicate 8 {}) 4 { power := .active }) }, by decide +kernel⟩,
   ⟨.jtag, {}, by decide +kernel⟩,
   ⟨.spar, 4, 4352, { regs := [(35184414033920, 4352)], line := (vset (Vector.replicate 8 {}) 4 { power := .active }) }, by decide +kernel⟩,
   ⟨.spar, 4, 3924, { regs := [(35184414033920, 3924)], line := (vset (Vector.replicate 8 {}) 4 { power := .active }) }, by decide +kernel⟩,
   ⟨.spar, 0, { line := (vset (Vector.replicate 8 {}) 0 { power := .active }) }, by decide +kernel⟩,
   ⟨.spar, 0, {}, by decide +kernel⟩,
   ⟨.spar, 4, { regs := [(35184414041088, 448)], line := (vset (Vector.replicate 8 {}) 4 { power := .active }) }, by decide +kernel⟩,
   ⟨.jtag, {}, by decide +kernel⟩,
   ⟨.gondola, 4, 264, { regs := [((LN.EQC_ADDR_ADDR 4).key, 264)], line := (vset (Vector.replicate 8 {}) 4 { power := .active }) }, by decide +kernel⟩,
   ⟨.gondola, 4, 520, { regs := [((LN.EQC_ADDR_ADDR 4).key, 520)], line := (vset (Vector.replicate 8 {}) 4 { power := .active }) }, by decide +kernel⟩,
   ⟨.gondola, 4, 768, { regs := [((LN.EQC_ADDR_ADDR 4).key, 768)], line := (vset (Vector.replicate 8 {}) 4 { power := .active }) }, by decide +kernel⟩,
   ⟨.gondola, 4, 2056, { regs := [((LN.EQC_ADDR_ADDR 4).key, 2056)], line := (vset (Vector.replicate 8 {}) 4 { power := .active }) }, by decide +kernel⟩,
   ⟨.gondola, 4, { line := (vset (Vector.replicate 8 {}) 4 { power := .active }) }, by decide +kernel⟩,
   ⟨.gondola, 0, {}, by decide +kernel⟩,
   ⟨.gondola, 4, { regs := [((LN.LOC_USER_TX_USER_TX 4 108).key, 1080)], line := (vset (Vector.replicate 8 {}) 4 { power := .active }) }, by decide +kernel⟩,
   ⟨.tether, { pwr := { dev := (.waking 3) } }, by decide +kernel⟩,
   ⟨.gondola, 4, 520, { regs := [((LN.LOC_USER_TX_USER_TX 4 108).key, 520)], line := (vset (Vector.replicate 8 {}) 4 { power := .active }) }, by decide +kernel⟩,
   ⟨.gondola, 4, 8, { regs := [((LN.LOC_USER_TX_USER_TX 4 108).key, 8)], line := (vset (Vector.replicate 8 {}) 4 { power := .active }) }, by decide +kernel⟩,
   ⟨.mgmt, 15, { host := (vset (Vector.replicate 16 {}) 15 { power := .active }) }, by decide +kernel⟩,
   ⟨.mgmt, 0, {}, by decide +kernel⟩,
   ⟨.mgmt, 15, { regs := [(105553174464512, 96)], host := (vset (Vector.replicate 16 {}) 15 { power := .active }) }, by decide +kernel⟩,
   ⟨.spar, { pwr := { dev := (.waking 7) } }, by decide +kernel⟩,
   ⟨.mgmt, 15, 0, { host := (vset (Vector.replicate 16 {}) 15 { power := .active }) }, by decide +kernel⟩,
   ⟨.gondola, 12, 264, { regs := [((HL.RXC_ADDR_ADDR 12).key, 264)], host := (vset (Vector.replicate 16 {}) 12 { power := .active }) }, by decide +kernel⟩,
   ⟨.gondola, 4, .corrected, { line := (vset (Vector.replicate 8 {}) 4 { power := .active }) }, by decide +kernel⟩,
   ⟨.gondola, 4, .corrected, { line := (vset (Vector.replicate 8 {}) 4 { power := .active }) }, by decide +kernel⟩,
   ⟨.gondola, 4, .corrected, { line := (vset (Vector.replicate 8 {}) 4 { power := .active }) }, by decide +kernel⟩,
   ⟨.gondola, 3, .corrected, { host := (vset (Vector.replicate 16 {}) 3 { power := .active }) }, by decide +kernel⟩,
   ⟨.spar, 0, { regs := [(STR.CTRL_LOG_PORT_EN.key, 1), ((STR.TIME_TIME 9).key, 1)] }, by decide +kernel⟩,
   ⟨.spar, 0, { regs := [(STR.CTRL_LOG_PORT_EN.key, 1), ((STR.TIME_TIME 8).key, 8)] }, by decide +kernel⟩,
   ⟨.spar, 0, {}, by decide +kernel⟩,
   ⟨.pcie, {} , by decide +kernel⟩⟩

theorem witness_counters_and_streamer :
    (∃ (i : Fin 8) (ev : Nat) (inst : Nat) (k : Nat) (s : State), s.pmcCounts i ev inst = true ∧ s.flag PMU.CTRL_FREEZE = false ∧ s.pmcCount i + k < 2 ^ 48 ∧ ((∀ j : Fin 8, j ≠ i → s.pmcCounts j ev inst = false))) ∧
    (∃ (i : Fin 8) (ev : Nat) (inst : Nat) (s : State), s.pmcCounts i ev inst = true ∧ s.flag PMU.CTRL_FREEZE = true ∧ ((∀ j : Fin 8, j ≠ i → s.pmcCounts j ev inst = false))) ∧
    (∃ (ev : Nat) (inst : Nat) (s : State), ((∀ j : Fin 8, s.pmcCounts j ev inst = false))) ∧
    (∃ (i : Fin 8) (s : State), s.awake = true ∧ s.flag PMU.CTRL_FREEZE = false ∧ s.pmcCounts i (s.get (PMU.PMC_EVENT i)) (s.get (PMU.PMC_INST i)) = true ∧ s.pmcTimed i = true ∧ s.flag (PMU.PMC_SAMPLE i) = false ∧ ((i.val % 2 = 1 ∨ s.flag (PMU.PMC_CHAIN (i.val + 1)) = false ∨ s.flag (PMU.PMC_EN (i.val + 1)) = false)) ∧ s.pmcCount i < 2 ^ 48) ∧
    (∃ (i : Fin 8) (s : State), s.awake = true ∧ s.flag PMU.CTRL_FREEZE = false ∧ s.pmcCounts i (s.get (PMU.PMC_EVENT i)) (s.get (PMU.PMC_INST i)) = true ∧ s.pmcTimed i = true ∧ s.flag (PMU.PMC_SAMPLE i) = true ∧ i.val % 2 = 1 ∧ s.pmcCount i < 2 ^ 48) ∧
    (∃ (i : Fin 8) (s : State), ((s.flag PMU.CTRL_FREEZE = true ∨ s.flag (PMU.PMC_EN i) = false ∨ s.pmcTimed i = false))) ∧
    (∃ (s : State), s.awake = true ∧ s.flag CFG.BOOT_FW_NONE = false ∧ s.lc ≠ 5 ∧ ((s.now % 600000 = 0 ∨ s.str.mtpPending = true)) ∧ s.flag THM.STATUS_MTP_OK = true ∧ s.braced = false) ∧
    (∃ (s : State), ((s.flag CFG.BOOT_FW_NONE = true ∨ s.lc = 5))) ∧
    (∃ (s : State), s.awake = true ∧ s.flag CFG.BOOT_FW_NONE = false ∧ s.lc ≠ 5 ∧ s.now % 600000 = 0 ∧ s.str.mtpPending = false ∧ ((s.flag THM.STATUS_MTP_OK = false ∨ s.braced = true))) ∧
    (∃ (s : State), s.now % 600000 ≠ 0 ∧ s.str.mtpPending = false) ∧
    (∃ (s : State), s.str.mtpPending = true ∧ ((s.flag THM.STATUS_MTP_OK = false ∨ s.braced = true))) ∧
    (∃ (id : BitVec 8) (s : State), s.awake = true ∧ 1 ≤ id.toNat ∧ id.toNat ≤ 0x1A) ∧
    (∃ (id : BitVec 8), ((id.toNat = 0 ∨ 0x1A < id.toNat))) ∧
    (∃ (stack : Nat) (id : Nat) (inst : Nat) (code : Nat) (e : Nat) (s : State), stack < 4 ∧ 1 ≤ id ∧ id < 256 ∧ inst < 256 ∧ code < 65536 ∧ s.now < 2 ^ 48 ∧ s.almEntry stack id inst = e ∧ e ≠ 63 ∧ s.almIs stack id inst e = false) ∧
    (∃ (stack : Nat) (id : Nat) (inst : Nat) (e : Nat) (s : State), stack < 4 ∧ 1 ≤ id ∧ id < 256 ∧ inst < 256 ∧ s.almEntry stack id inst = e ∧ e ≠ 63 ∧ s.almIs stack id inst e = true) ∧
    (∃ (stack : Nat) (id : Nat) (inst : Nat) (s : State), stack < 4 ∧ 1 ≤ id ∧ id < 256 ∧ inst < 256 ∧ s.almEntry stack id inst = 63) ∧
    (∃ (stack : Nat) (id : Nat) (inst : Nat) (e : Fin 63) (d : Fin 63) (s : State), s.almEntry stack id inst = e.val ∧ d.val < e.val ∧ s.almIs stack id inst e = true) ∧
    (∃ (i : Initiator) (e : Fin 64) (s : State), s.mayAccess i = true ∧ s.pendingOf i.code = none ∧ s.flag (STR.ALM0_UNACKED e) = true ∧ s.flag TTH.STATUS_ROLE = true) ∧
    (∃ (i : Initiator) (e : Fin 64) (s : State), s.mayAccess i = true ∧ s.pendingOf i.code = none ∧ s.flag (STR.ALM0_UNACKED e) = false) ∧
    (∃ (i : Initiator) (s : State), s.mayAccess i = false) ∧
    (∃ (i : Initiator) (s : State), s.mayAccess i = true ∧ s.brd.parityBad = []) ∧
    (∃ (i : Initiator) (s : State), s.mayAccess i = false) ∧
    (∃ (e : Nat) (stack : Nat) (id : Nat) (inst : Nat) (s : State), e < 64 ∧ s.almIs stack id inst e = true ∧ s.flag TTH.STATUS_ROLE = true) ∧
    (∃ (q : Fin 12) (ev : BitVec 16) (s : State), s.awake = true ∧ ev ≠ 0 ∧ s.ringFull 0 32 = false ∧ s.get (STR.SRC0_RATE q) ≠ 0 ∧ 0 < s.get (STR.SRC1_TOKENS q) ∧ s.mem.merge = []) ∧
    (∃ (s : State), s.ringFull 0 32 = true) ∧
    (∃ (q : Fin 15) (s : State), s.ringFull 0 32 = false ∧ ((s.get (STR.SRC0_RATE q) = 0 ∨ (s.get (STR.SRC1_TOKENS q) = 0 ∧ s.flag (STR.SRC0_THROTTLED q) = true)))) ∧
    (∃ (q : Fin 15) (s : State), s.ringFull 0 32 = false ∧ s.get (STR.SRC0_RATE q) ≠ 0 ∧ s.get (STR.SRC1_TOKENS q) = 0 ∧ s.flag (STR.SRC0_THROTTLED q) = false) ∧
    (∃ (q : Fin 16) (ev : BitVec 16), ((ev = 0 ∨ (12 ≤ q.val ∧ q.val ≤ 14)))) ∧
    (∃ (q : Fin 15) (k : Nat) (s : State), s.awake = true ∧ s.refillDue q = true ∧ k = min (max 1 (s.get (STR.SRC0_BURST q))) (s.get (STR.SRC1_TOKENS q) + 1) ∧ k < max 1 (s.get (STR.SRC0_BURST q))) ∧
    (∃ (q : Fin 15) (s : State), s.awake = true ∧ s.refillDue q = true ∧ max 1 (s.get (STR.SRC0_BURST q)) ≤ s.get (STR.SRC1_TOKENS q) + 1) ∧
    (∃ (q : Fin 15) (s : State), s.refillDue q = false) ∧
    (∃ (q : Fin 16) (ev : BitVec 16) (s : State), ((12 ≤ q.val ∨ ev = 0 ∨ s.bitOf STR.TRACE_SRC_SRC q = false))) ∧
    (∃ (q : Fin 16) (ev : BitVec 16) (s : State), s.awake = true ∧ q.val < 12 ∧ ev ≠ 0 ∧ s.bitOf STR.TRACE_SRC_SRC q = true ∧ s.ringFull 1 16 = true) ∧
    (∃ (q : Fin 16) (ev : BitVec 16) (s : State), s.awake = true ∧ q.val < 12 ∧ ev ≠ 0 ∧ s.bitOf STR.TRACE_SRC_SRC q = true ∧ s.ringFull 1 16 = false ∧ s.str.traceLost = 0 ∧ s.mem.merge = []) ∧
    (∃ (q : Fin 16) (ev : BitVec 16) (s : State), s.awake = true ∧ q.val < 12 ∧ ev ≠ 0 ∧ s.bitOf STR.TRACE_SRC_SRC q = true ∧ s.ringFull 1 32 = false ∧ s.str.traceLost ≠ 0) ∧
    (∃ (s : State), s.awake = true) :=
  ⟨⟨1, 256, 0, 0, { regs := [((PMU.PMC_EVENT 1).key, 256), ((PMU.PMC_EN 1).key, 1)] }, by decide +kernel⟩,
   ⟨1, 256, 0, { regs := [(PMU.CTRL_FREEZE.key, 1), ((PMU.PMC_EVENT 1).key, 256), ((PMU.PMC_EN 1).key, 1)] }, by decide +kernel⟩,
   ⟨0, 0, {}, by decide +kernel⟩,
   ⟨1, { regs := [((PMU.PMC_EN 1).key, 1)] }, by decide +kernel⟩,
   ⟨1, { regs := [((PMU.PMC_EN 1).key, 1), ((PMU.PMC_SAMPLE 1).key, 1)] }, by decide +kernel⟩,
   ⟨0, {}, by decide +kernel⟩,
   ⟨{ regs := [(THM.STATUS_MTP_OK.key, 1)] }, by decide +kernel⟩,
   ⟨{ regs := [((GLB.SERIAL_SERIAL 3).key, 5)] }, by decide +kernel⟩,
   ⟨{}, by decide +kernel⟩,
   ⟨{ now := 1 }, by decide +kernel⟩,
   ⟨{ str := { mtpPending := true } }, by decide +kernel⟩,
   ⟨1, {}, by decide +kernel⟩,
   ⟨0, by decide +kernel⟩,
   ⟨0, 1, 0, 0, 0, {}, by decide +kernel⟩,
   ⟨1, 3, 0, 3, { regs := [((STR.ALM0_ID 3).key, 3), ((STR.ALM0_STACK 3).key, 1)] }, by decide +kernel⟩,
   ⟨0, 1, 0, { regs := [((STR.ALM0_ID 0).key, 2), ((STR.ALM0_ID 1).key, 2), ((STR.ALM0_ID 2).key, 2), ((STR.ALM0_ID 3).key, 2), ((STR.ALM0_ID 4).key, 2), ((STR.ALM0_ID 5).key, 2), ((STR.ALM0_ID 6).key, 2), ((STR.ALM0_ID 7).key, 2), ((STR.ALM0_ID 8).key, 2), ((STR.ALM0_ID 9).key, 2), ((STR.ALM0_ID 10).key, 2), ((STR.ALM0_ID 11).key, 2), ((STR.ALM0_ID 12).key, 2), ((STR.ALM0_ID 13).key, 2), ((STR.ALM0_ID 14).key, 2), ((STR.ALM0_ID 15).key, 2), ((STR.ALM0_ID 16).key, 2), ((STR.ALM0_ID 17).key, 2), ((STR.ALM0_ID 18).key, 2), ((STR.ALM0_ID 19).key, 2), ((STR.ALM0_ID 20).key, 2), ((STR.ALM0_ID 21).key, 2), ((STR.ALM0_ID 22).key, 2), ((STR.ALM0_ID 23).key, 2), ((STR.ALM0_ID 24).key, 2), ((STR.ALM0_ID 25).key, 2), ((STR.ALM0_ID 26).key, 2), ((STR.ALM0_ID 27).key, 2), ((STR.ALM0_ID 28).key, 2), ((STR.ALM0_ID 29).key, 2), ((STR.ALM0_ID 30).key, 2), ((STR.ALM0_ID 31).key, 2), ((STR.ALM0_ID 32).key, 2), ((STR.ALM0_ID 33).key, 2), ((STR.ALM0_ID 34).key, 2), ((STR.ALM0_ID 35).key, 2), ((STR.ALM0_ID 36).key, 2), ((STR.ALM0_ID 37).key, 2), ((STR.ALM0_ID 38).key, 2), ((STR.ALM0_ID 39).key, 2), ((STR.ALM0_ID 40).key, 2), ((STR.ALM0_ID 41).key, 2), ((STR.ALM0_ID 42).key, 2), ((STR.ALM0_ID 43).key, 2), ((STR.ALM0_ID 44).key, 2), ((STR.ALM0_ID 45).key, 2), ((STR.ALM0_ID 46).key, 2), ((STR.ALM0_ID 47).key, 2), ((STR.ALM0_ID 48).key, 2), ((STR.ALM0_ID 49).key, 2), ((STR.ALM0_ID 50).key, 2), ((STR.ALM0_ID 51).key, 2), ((STR.ALM0_ID 52).key, 2), ((STR.ALM0_ID 53).key, 2), ((STR.ALM0_ID 54).key, 2), ((STR.ALM0_ID 55).key, 2), ((STR.ALM0_ID 56).key, 2), ((STR.ALM0_ID 57).key, 2), ((STR.ALM0_ID 58).key, 2), ((STR.ALM0_ID 59).key, 2), ((STR.ALM0_ID 60).key, 2), ((STR.ALM0_ID 61).key, 2), ((STR.ALM0_ID 62).key, 2)] }, by decide +kernel⟩,
   ⟨1, 3, 0, 13, 0, { regs := [((STR.ALM0_ID 13).key, 3), ((STR.ALM0_STACK 13).key, 1)] }, by decide +kernel⟩,
   ⟨.spar, 63, { regs := [((STR.ALM0_UNACKED 63).key, 1), (TTH.STATUS_ROLE.key, 1)] }, by decide +kernel⟩,
   ⟨.spar, 0, {}, by decide +kernel⟩,
   ⟨.pcie, {}, by decide +kernel⟩,
   ⟨.spar, {}, by decide +kernel⟩,
   ⟨.pcie, {}, by decide +kernel⟩,
   ⟨41, 2, 1, 0, { regs := [((STR.ALM0_ID 41).key, 1), ((STR.ALM0_STACK 41).key, 2), (TTH.STATUS_ROLE.key, 1)] }, by decide +kernel⟩,
   ⟨0, 1, {}, by decide +kernel⟩,
   ⟨{ regs := [((STR.TIME_TIME 9).key, 1)] }, by decide +kernel⟩,
   ⟨1, { regs := [((STR.RING_WR_WR 7).key, 0)] }, by decide +kernel⟩,
   ⟨1, { regs := [((STR.SRC1_TOKENS 1).key, 0)] }, by decide +kernel⟩,
   ⟨0, 0, by decide +kernel⟩,
   ⟨13, 28, { now := 50, regs := [((STR.SRC1_TOKENS 13).key, 27)] }, by decide +kernel⟩,
   ⟨0, { now := 10 }, by decide +kernel⟩,
   ⟨0, {}, by decide +kernel⟩,
   ⟨0, 0, {}, by decide +kernel⟩,
   ⟨0, 1, { regs := [((STR.TIME_TIME 17).key, 1), ((STR.TIME_TIME 20).key, 1)] }, by decide +kernel⟩,
   ⟨0, 1, { regs := [((STR.TIME_TIME 20).key, 1)] }, by decide +kernel⟩,
   ⟨0, 1, { regs := [((STR.TIME_TIME 20).key, 1)], str := { traceLost := 1 } }, by decide +kernel⟩,
   ⟨{} , by decide +kernel⟩⟩

theorem witness_management_port :
    (∃ (st : BitVec 7) (s : State), s.mgtRuns = true ∧ st.toNat = s.get GLB.MGMT_ADDR) ∧
    (∃ (st : BitVec 7) (s : State), ((s.mgtRuns = false ∨ st.toNat ≠ s.get GLB.MGMT_ADDR))) ∧
    (∃ (s : State), s.mgtRuns = true) ∧
    (∃ (s : State), s.mgtRuns = false) ∧
    (∃ (s : State), s.mgtRuns = true) ∧
    (∃ (s : State), s.mgtRuns = false) ∧
    (∃ (s : State), s.mgtRuns = true) ∧
    (∃ (s : State), s.mgtRuns = false) ∧
    (∃ (s : State), s.mgtRuns = true) ∧
    (∃ (s : State), s.mgtRuns = false) ∧
    (∃ (s : State), s.mgtRuns = true) ∧
    (∃ (s : State), s.mgtRuns = true) ∧
    (∃ (a : BitVec 8) (s : State), s.mgtRuns = true ∧ 0x80 ≤ a.toNat ∧ s.mgt.bank ≠ 0) ∧
    (∃ (a : BitVec 8) (s : State), s.mgtRuns = true ∧ 0x80 ≤ a.toNat ∧ s.mgt.bank = 0 ∧ s.mgt.page = 0xB0) ∧
    (∃ (a : BitVec 8) (s : State), s.mgtRuns = true ∧ s.flag CFG.BOOT_FW_NONE = true ∧ a.toNat < 0x7E) ∧
    (∃ (a : BitVec 8) (s : State), s.mgtRuns = true ∧ s.flag CFG.BOOT_FW_NONE = false ∧ a.toNat < 0x7E) ∧
    (∃ (m : MgtSt) (v : Nat), v < 256 ∧ m.b0Status ≠ 1) ∧
    (∃ (m : MgtSt), m.b0Status = 1) ∧
    (∃ (s : State), s.mgtRuns = true ∧ s.flag CFG.BOOT_FW_NONE = false ∧ s.mgt.refreshed + 100 ≤ s.now) ∧
    (∃ (p : Nat) (a : Nat) (s : State), s.mgtRuns = true ∧ s.flag CFG.BOOT_FW_NONE = false ∧ cmisPage p = true ∧ a < 256 ∧ s.mgt.refreshed + 100 ≤ s.now) ∧
    (∃ (s : State), ((s.mgtRuns = false ∨ s.flag CFG.BOOT_FW_NONE = true ∨ s.now < s.mgt.refreshed + 100))) ∧
    (∃ (s : State), s.mgtRuns = true ∧ s.flag CFG.BOOT_FW_NONE = false) ∧
    (∃ (v : BitVec 16) (s : State), s.mgtRuns = true ∧ s.flag CFG.BOOT_FW_NONE = false ∧ s.mgt.deinit = v.toNat ∧ ((∀ k : PortId, (s.hostLanes k).all (fun j => !bit v.toNat j) = true))) ∧
    (∃ (s : State), ((s.mgtRuns = false ∨ s.flag CFG.BOOT_FW_NONE = true))) ∧
    (∃ (c : BitVec 4) (r : RigImage) (s : State), s.mgtRuns = true ∧ s.flag CFG.BOOT_FW_NONE = false ∧ s.boot.rigNow = some r ∧ c.toNat ∈ r.apps) ∧
    (∃ (c : BitVec 4) (s : State), s.mgtRuns = true ∧ s.flag CFG.BOOT_FW_NONE = false ∧ (s.boot.rigNow.any (fun r => r.apps.contains c.toNat) = false)) ∧
    (∃ (s : State), ((s.mgtRuns = false ∨ s.flag CFG.BOOT_FW_NONE = true))) ∧
    (∃ (s : State), s.mgtRuns = true ∧ s.flag CFG.BOOT_FW_NONE = false) ∧
    (∃ (s : State), s.mgtRuns = true ∧ s.flag CFG.BOOT_FW_NONE = false) ∧
    (∃ (s : State), ((s.mgtRuns = false ∨ s.flag CFG.BOOT_FW_NONE = true))) ∧
    (∃ (s : State), s.mgtRuns = true ∧ s.flag CFG.BOOT_FW_NONE = false) ∧
    (∃ (s : State), s.mgtRuns = true ∧ s.flag CFG.BOOT_FW_NONE = false) ∧
    (∃ (s : State), ((s.mgtRuns = false ∨ s.flag CFG.BOOT_FW_NONE = true))) ∧
    (∃ (v : Bool) (s : State), s.mgtRuns = true ∧ s.flag CFG.BOOT_FW_NONE = false ∧ s.mgt.lowPwrSW = false ∧ ((v = false ∨ s.pwr.lpmode = false))) ∧
    (∃ (v : Bool) (s : State), s.mgtRuns = true ∧ s.flag CFG.BOOT_FW_NONE = false ∧ ((s.mgt.lowPwrSW = true ∨ (v = true ∧ s.pwr.lpmode = true)))) ∧
    (∃ (s : State), ((s.mgtRuns = false ∨ s.flag CFG.BOOT_FW_NONE = true))) ∧
    (∃ (s : State), s.mgt.b0Cmd ≠ 1) ∧
    (∃ (s : State), s.mgt.b0Cmd ≠ 2) ∧
    (∃ (s : State), s.mgt.b0Cmd ≠ 3) ∧
    (∃ (s : State), s.mgtRuns = true ∧ s.mgt.b0Cmd = 1 ∧ s.flag CFG.BOOT_FW_NONE = true ∧ ((s.mgt.b0Addr < 0x200 ∨ 0x250 ≤ s.mgt.b0Addr))) ∧
    (∃ (s : State), s.mgtRuns = true ∧ s.mgt.b0Cmd = 2 ∧ s.flag CFG.BOOT_FW_NONE = true ∧ ((s.mgt.b0Addr < 0x200 ∨ 0x250 ≤ s.mgt.b0Addr))) ∧
    (∃ (s : State), s.mgtRuns = true ∧ s.mgt.b0Cmd = 3 ∧ s.flag CFG.BOOT_FW_NONE = true ∧ ((s.mgt.b0Addr < 0x200 ∨ 0x250 ≤ s.mgt.b0Addr))) ∧
    (∃ (w : BitVec 2) (e : SprEcc) (v : Nat) (s : State), s.mgtRuns = true ∧ s.mgt.b0Cmd = 1 ∧ s.flag CFG.BOOT_FW_NONE = false ∧ (s.busRead .mgmt s.mgt.b0Addr 2 w e).brd.resp = .data v) ∧
    (∃ (w : BitVec 2) (e : SprEcc) (k : Nat) (s : State), s.mgtRuns = true ∧ s.mgt.b0Cmd = 1 ∧ s.flag CFG.BOOT_FW_NONE = false ∧ (s.busRead .mgmt s.mgt.b0Addr 2 w e).brd.resp = .error k) ∧
    (∃ (s : State), s.mgtRuns = true ∧ s.mgt.b0Cmd = 2 ∧ s.flag CFG.BOOT_FW_NONE = false ∧ s.mgt.b0Addr % 4 = 0 ∧ s.mgt.b0Addr < 0x200000 ∧ unmapped .mgmt s.mgt.b0Addr = false ∧ fieldsAt s.mgt.b0Addr = [] ∧ isComplement s.mgt.b0Addr = false ∧ s.pendingOf 3 = none ∧ ((s.mgt.b0Addr < 0x20100 ∨ 0x20200 ≤ s.mgt.b0Addr)) ∧ ((s.mgt.b0Addr < 0x51000 ∨ 0x51800 ≤ s.mgt.b0Addr)) ∧ s.mgt.b0Addr < 0x80000) ∧
    (∃ (s : State), s.mgtRuns = true ∧ s.mgt.b0Cmd = 2 ∧ s.flag CFG.BOOT_FW_NONE = false ∧ inMemory s.mgt.b0Addr = false ∧ unmapped .mgmt s.mgt.b0Addr = true) ∧
    (∃ (s : State), s.mgtRuns = true ∧ s.mgt.b0Cmd = 3 ∧ s.flag CFG.BOOT_FW_NONE = false ∧ isGuarded s.mgt.b0Addr = true ∧ s.mgt.b0Addr < 0x200000 ∧ s.pendingOf 3 = none ∧ s.mgt.b0Data < 2 ^ 32 ∧ s.mgt.b0Data2 < 2 ^ 32 ∧ s.mgt.b0Data2 ≠ 2 ^ 32 - 1 - s.mgt.b0Data) ∧
    (∃ (s : State), s.mgtRuns = true ∧ s.mgt.b0Cmd = 2 ∧ s.flag CFG.BOOT_FW_NONE = false ∧ ((((s.set GLB.GUARD_INFO_REASON 0).busWrite .mgmt s.mgt.b0Addr 2 s.mgt.b0Data).brd.resp.kind = none ∧
      ((s.set GLB.GUARD_INFO_REASON 0).busWrite .mgmt s.mgt.b0Addr 2 s.mgt.b0Data).get GLB.GUARD_INFO_REASON = 0))) ∧
    (∃ (s : State), s.mgtRuns = true ∧ s.mgt.b0Cmd = 2 ∧ s.flag CFG.BOOT_FW_NONE = false ∧ s.mayAccess .mgmt = true ∧ s.mgt.b0Addr = PWR.TIMER_WAKE_AT.addr ∧ s.mgt.b0Data < 2 ^ 32 ∧ s.pendingOf 3 = none) ∧
    (∃ (s : State), s.mgtRuns = true ∧ s.mgt.b0Cmd = 3 ∧ s.flag CFG.BOOT_FW_NONE = false ∧ s.mayAccess .mgmt = true ∧ isGuarded s.mgt.b0Addr = true ∧ s.mgt.b0Addr < 0x200000 ∧ s.mgt.b0Data < 2 ^ 32 ∧ s.mgt.b0Data2 = 2 ^ 32 - 1 - s.mgt.b0Data ∧ s.pendingOf 3 = none ∧ (s.set GLB.GUARD_INFO_REASON 0).brd.guard = [] ∧ s.mgt.b0Addr ≠ CFG.SWR_SWR.addr) ∧
    (∃ (s : State), s.mgtRuns = true ∧ s.mgt.b0Cmd = 3 ∧ s.flag CFG.BOOT_FW_NONE = false ∧ s.mayAccess .mgmt = true ∧ s.mgt.b0Addr = SAF.SUPCFG_SUP_TMO.addr ∧ s.mgt.b0Data < 2 ^ 32 ∧ s.mgt.b0Data2 = 2 ^ 32 - 1 - s.mgt.b0Data ∧ s.brd.guard = []) :=
  ⟨⟨80, {}, by decide +kernel⟩,
   ⟨0, {}, by decide +kernel⟩,
   ⟨{}, by decide +kernel⟩,
   ⟨{ pwr := { dev := .off } }, by decide +kernel⟩,
   ⟨{}, by decide +kernel⟩,
   ⟨{ regs := [((GLB.SERIAL_SERIAL 3).key, 5)] }, by decide +kernel⟩,
   ⟨{}, by decide +kernel⟩,
   ⟨{ pwr := { dev := (.waking 4) } }, by decide +kernel⟩,
   ⟨{}, by decide +kernel⟩,
   ⟨{ pwr := { dev := .off } }, by decide +kernel⟩,
   ⟨{}, by decide +kernel⟩,
   ⟨{}, by decide +kernel⟩,
   ⟨128, { mgt := { bank := 1 } }, by decide +kernel⟩,
   ⟨128, { mgt := { page := 176 } }, by decide +kernel⟩,
   ⟨0, { regs := [(CFG.BOOT_FW_NONE.key, 1)] }, by decide +kernel⟩,
   ⟨0, {}, by decide +kernel⟩,
   ⟨{}, 0, by decide +kernel⟩,
   ⟨{ b0Status := 1 }, by decide +kernel⟩,
   ⟨{ now := 100 }, by decide +kernel⟩,
   ⟨0, 0, { now := 100 }, by decide +kernel⟩,
   ⟨{}, by decide +kernel⟩,
   ⟨{}, by decide +kernel⟩,
   ⟨0, {}, by decide +kernel⟩,
   ⟨{ pwr := { dev := (.waking 2) } }, by decide +kernel⟩,
   ⟨1, { seq := 548, digest := [1, 2, 3], nodes := [], ports := [], preload := [], spar := none, calseed := [], safety := { lanes := [], supTmo := 5, proofInt := 6, channels := [] }, ballast := none, apps := [1, 2], moduleSerial := 0 }, { boot := { rigNow := (some { seq := 548, digest := [1, 2, 3], nodes := [], ports := [], preload := [], spar := none, calseed := [], safety := { lanes := [], supTmo := 5, proofInt := 6, channels := [] }, ballast := none, apps := [1, 2], moduleSerial := 0 }) } }, by decide +kernel⟩,
   ⟨0, {}, by decide +kernel⟩,
   ⟨{ pwr := { dev := (.waking 1) } }, by decide +kernel⟩,
   ⟨{}, by decide +kernel⟩,
   ⟨{}, by decide +kernel⟩,
   ⟨{ pwr := { dev := (.waking 2) } }, by decide +kernel⟩,
   ⟨{}, by decide +kernel⟩,
   ⟨{}, by decide +kernel⟩,
   ⟨{ regs := [(CFG.BOOT_FW_NONE.key, 1)] }, by decide +kernel⟩,
   ⟨false, {}, by decide +kernel⟩,
   ⟨false, { mgt := { lowPwrSW := true } }, by decide +kernel⟩,
   ⟨{ regs := [(CFG.BOOT_FW_NONE.key, 1)] }, by decide +kernel⟩,
   ⟨{}, by decide +kernel⟩,
   ⟨{}, by decide +kernel⟩,
   ⟨{}, by decide +kernel⟩,
   ⟨{ regs := [(CFG.BOOT_FW_NONE.key, 1)], mgt := { b0Cmd := 1 } }, by decide +kernel⟩,
   ⟨{ regs := [(CFG.BOOT_FW_NONE.key, 1)], mgt := { b0Cmd := 2 } }, by decide +kernel⟩,
   ⟨{ regs := [(CFG.BOOT_FW_NONE.key, 1)], mgt := { b0Cmd := 3 } }, by decide +kernel⟩,
   ⟨0, .clean, 0, { mgt := { b0Addr := 300, b0Cmd := 1 } }, by decide +kernel⟩,
   ⟨0, .clean, 4, { mgt := { b0Addr := 1872047, b0Cmd := 1 } }, by decide +kernel⟩,
   ⟨{ mgt := { b0Addr := 1088, b0Cmd := 2 } }, by decide +kernel⟩,
   ⟨{ mgt := { b0Addr := 1871672, b0Cmd := 2 } }, by decide +kernel⟩,
   ⟨{ mgt := { b0Addr := 131088, b0Cmd := 3 } }, by decide +kernel⟩,
   ⟨{ mgt := { b0Cmd := 2 } }, by decide +kernel⟩,
   ⟨{ mgt := { b0Addr := 65588, b0Cmd := 2 } }, by decide +kernel⟩,
   ⟨{ mgt := { b0Addr := 722656, b0Data := 4294967295, b0Cmd := 3 } }, by decide +kernel⟩,
   ⟨{ mgt := { b0Addr := 131096, b0Data := 4294967295, b0Cmd := 3 } } , by decide +kernel⟩⟩

theorem witness_mailbox_protocol :
    (∃ (i : Nat) (op : Nat) (tag : Nat) (s : State), op < 256 ∧ tag < 256 ∧ i < 16 ∧ s.flag GLB.MBX_STATUS_BUSY = false) ∧
    (∃ (s : State), s.flag GLB.MBX_STATUS_BUSY = true) ∧
    (∃ (comp : Nat) (s : State), comp < 256 ∧ s.flag GLB.MBX_STATUS_BUSY = true) ∧
    (∃ (s : State), s.mbxIs 1 = false) ∧
    (∃ (s : State), s.awake = true ∧ s.mbxIs 1 = true ∧ s.flag CFG.BOOT_FW_NONE = true) ∧
    (∃ (s : State), s.mbxIs 2 = false) ∧
    (∃ (s : State), s.awake = true ∧ s.mbxIs 2 = true ∧ s.flag CFG.BOOT_FW_NONE = true) ∧
    (∃ (s : State), s.mbxIs 3 = false) ∧
    (∃ (s : State), s.awake = true ∧ s.mbxIs 3 = true ∧ s.flag CFG.BOOT_FW_NONE = true) ∧
    (∃ (s : State), s.mbxIs 4 = false) ∧
    (∃ (s : State), s.awake = true ∧ s.mbxIs 4 = true ∧ s.flag CFG.BOOT_FW_NONE = true) ∧
    (∃ (s : State), s.mbxIs 5 = false) ∧
    (∃ (s : State), s.awake = true ∧ s.mbxIs 5 = true ∧ s.flag CFG.BOOT_FW_NONE = true) ∧
    (∃ (s : State), s.mbxIs 6 = false) ∧
    (∃ (s : State), s.awake = true ∧ s.mbxIs 6 = true ∧ s.flag CFG.BOOT_FW_NONE = true) ∧
    (∃ (s : State), s.mbxIs 7 = false) ∧
    (∃ (s : State), s.awake = true ∧ s.mbxIs 7 = true ∧ s.flag CFG.BOOT_FW_NONE = true) ∧
    (∃ (s : State), ((s.mbxIs 8 = false ∨ s.flag SEC.OP_STATUS_BUSY = true))) ∧
    (∃ (s : State), s.mbxIs 9 = false) ∧
    (∃ (s : State), s.mbxIs 10 = false) ∧
    (∃ (s : State), s.mbxIs 11 = false) ∧
    (∃ (s : State), s.mbxIs 12 = false) ∧
    (∃ (s : State), s.awake = true ∧ s.mbxIs 12 = true ∧ s.flag CFG.BOOT_FW_NONE = true) ∧
    (∃ (s : State), s.mbxIs 13 = false) ∧
    (∃ (s : State), s.awake = true ∧ s.mbxIs 13 = true ∧ s.flag CFG.BOOT_FW_NONE = true) ∧
    (∃ (s : State), s.mbxIs 14 = false) ∧
    (∃ (s : State), s.awake = true ∧ s.mbxIs 14 = true ∧ s.flag CFG.BOOT_FW_NONE = true) ∧
    (∃ (s : State), s.mbxIs 15 = false) ∧
    (∃ (s : State), s.awake = true ∧ s.mbxIs 15 = true ∧ s.flag CFG.BOOT_FW_NONE = true) ∧
    (∃ (s : State), s.mbxIs 16 = false) ∧
    (∃ (s : State), s.awake = true ∧ s.mbxIs 16 = true ∧ s.flag CFG.BOOT_FW_NONE = true) ∧
    (∃ (op : Nat) (s : State), s.awake = true ∧ s.get GLB.MBX_CMD_OPCODE = op ∧ s.mbxIs op = true ∧ ((op = 0 ∨ 0x10 < op))) ∧
    (∃ (s : State), ((s.mbxIs (s.get GLB.MBX_CMD_OPCODE) = false ∨ (1 ≤ s.get GLB.MBX_CMD_OPCODE ∧ s.get GLB.MBX_CMD_OPCODE ≤ 0x10)))) ∧
    (∃ (us : Nat) (s : State), us < s.mbxWorst) ∧
    (∃ (us : Nat) (s : State), s.awake = true ∧ s.flag GLB.MBX_STATUS_BUSY = true ∧ s.mbxRuns 7 = false ∧ s.mbxWorst ≤ us) ∧
    (∃ (us : Nat) (s : State), s.awake = true ∧ s.mbxRuns 7 = true ∧ s.mbxWorst ≤ us) ∧
    (∃ (s : State), s.flag GLB.MBX_STATUS_BUSY = false) ∧
    (∃ (op : Fin 17) (s : State), s.get GLB.MBX_CMD_OPCODE = op.val) :=
  ⟨⟨0, 0, 0, {}, by decide +kernel⟩,
   ⟨{ regs := [((GLB.SERIAL_SERIAL 128).key, 1)] }, by decide +kernel⟩,
   ⟨0, { regs := [((GLB.SERIAL_SERIAL 128).key, 1)] }, by decide +kernel⟩,
   ⟨{}, by decide +kernel⟩,
   ⟨{ regs := [((GLB.SERIAL_SERIAL 127).key, 1), ((GLB.SERIAL_SERIAL 128).key, 1), (CFG.BOOT_FW_NONE.key, 1)] }, by decide +kernel⟩,
   ⟨{}, by decide +kernel⟩,
   ⟨{ regs := [((GLB.SERIAL_SERIAL 127).key, 2), ((GLB.SERIAL_SERIAL 128).key, 1), (CFG.BOOT_FW_NONE.key, 1)] }, by decide +kernel⟩,
   ⟨{}, by decide +kernel⟩,
   ⟨{ regs := [((GLB.SERIAL_SERIAL 127).key, 3), ((GLB.SERIAL_SERIAL 128).key, 1), (CFG.BOOT_FW_NONE.key, 1)] }, by decide +kernel⟩,
   ⟨{}, by decide +kernel⟩,
   ⟨{ regs := [((GLB.SERIAL_SERIAL 127).key, 4), ((GLB.SERIAL_SERIAL 128).key, 1), (CFG.BOOT_FW_NONE.key, 1)] }, by decide +kernel⟩,
   ⟨{}, by decide +kernel⟩,
   ⟨{ regs := [((GLB.SERIAL_SERIAL 127).key, 5), ((GLB.SERIAL_SERIAL 128).key, 1), (CFG.BOOT_FW_NONE.key, 1)] }, by decide +kernel⟩,
   ⟨{}, by decide +kernel⟩,
   ⟨{ regs := [((GLB.SERIAL_SERIAL 127).key, 6), ((GLB.SERIAL_SERIAL 128).key, 1), (CFG.BOOT_FW_NONE.key, 1)] }, by decide +kernel⟩,
   ⟨{}, by decide +kernel⟩,
   ⟨{ regs := [((GLB.SERIAL_SERIAL 127).key, 7), ((GLB.SERIAL_SERIAL 128).key, 1), (CFG.BOOT_FW_NONE.key, 1)] }, by decide +kernel⟩,
   ⟨{}, by decide +kernel⟩,
   ⟨{}, by decide +kernel⟩,
   ⟨{}, by decide +kernel⟩,
   ⟨{}, by decide +kernel⟩,
   ⟨{}, by decide +kernel⟩,
   ⟨{ regs := [((GLB.SERIAL_SERIAL 127).key, 12), ((GLB.SERIAL_SERIAL 128).key, 1), (CFG.BOOT_FW_NONE.key, 1)] }, by decide +kernel⟩,
   ⟨{}, by decide +kernel⟩,
   ⟨{ regs := [((GLB.SERIAL_SERIAL 127).key, 13), ((GLB.SERIAL_SERIAL 128).key, 1), (CFG.BOOT_FW_NONE.key, 1)] }, by decide +kernel⟩,
   ⟨{}, by decide +kernel⟩,
   ⟨{ regs := [((GLB.SERIAL_SERIAL 127).key, 14), ((GLB.SERIAL_SERIAL 128).key, 1), (CFG.BOOT_FW_NONE.key, 1)] }, by decide +kernel⟩,
   ⟨{}, by decide +kernel⟩,
   ⟨{ regs := [((GLB.SERIAL_SERIAL 127).key, 15), ((GLB.SERIAL_SERIAL 128).key, 1), (CFG.BOOT_FW_NONE.key, 1)] }, by decide +kernel⟩,
   ⟨{}, by decide +kernel⟩,
   ⟨{ regs := [((GLB.SERIAL_SERIAL 127).key, 16), ((GLB.SERIAL_SERIAL 128).key, 1), (CFG.BOOT_FW_NONE.key, 1)] }, by decide +kernel⟩,
   ⟨92, { regs := [((GLB.SERIAL_SERIAL 127).key, 92), ((GLB.SERIAL_SERIAL 128).key, 1)] }, by decide +kernel⟩,
   ⟨{}, by decide +kernel⟩,
   ⟨0, {}, by decide +kernel⟩,
   ⟨1000, { regs := [((GLB.SERIAL_SERIAL 128).key, 1)] }, by decide +kernel⟩,
   ⟨1000, { regs := [((GLB.SERIAL_SERIAL 127).key, 7), ((GLB.SERIAL_SERIAL 128).key, 1)], mbx := { begun := true } }, by decide +kernel⟩,
   ⟨{}, by decide +kernel⟩,
   ⟨2, { regs := [((GLB.SERIAL_SERIAL 127).key, 2)] } , by decide +kernel⟩⟩

theorem witness_mailbox_commands :
    (∃ (k : Fin 2) (s : State), s.awake = true ∧ s.mbxIs 1 = true ∧ s.flag CFG.BOOT_FW_NONE = false ∧ k = Fin.ofNat 2 (s.arg 0)) ∧
    (∃ (k : Fin 2) (s : State), s.awake = true ∧ s.mbxIs 1 = true ∧ s.flag CFG.BOOT_FW_NONE = false ∧ k = Fin.ofNat 2 (s.arg 0) ∧ s.slotCheck false k ≠ 0) ∧
    (∃ (s : State), s.awake = true ∧ s.mbxIs 2 = true ∧ s.flag CFG.BOOT_FW_NONE = false ∧ s.portsUnknown = true) ∧
    (∃ (s : State), s.awake = true ∧ s.mbxIs 2 = true ∧ s.flag CFG.BOOT_FW_NONE = false ∧ s.portsUnknown = false) ∧
    (∃ (s : State), s.awake = true ∧ s.mbxIs 3 = true ∧ s.flag CFG.BOOT_FW_NONE = false ∧ s.portsUnknown = true) ∧
    (∃ (s : State), s.awake = true ∧ s.mbxIs 3 = true ∧ s.flag CFG.BOOT_FW_NONE = false ∧ s.portsUnknown = false) ∧
    (∃ (s : State), s.awake = true ∧ s.mbxIs 4 = true ∧ s.flag CFG.BOOT_FW_NONE = false ∧ s.portOf s.argLane = none) ∧
    (∃ (s : State), s.awake = true ∧ s.mbxIs 5 = true ∧ s.flag CFG.BOOT_FW_NONE = false ∧ s.portOf s.argLane = none) ∧
    (∃ (k : PortId) (s : State), s.awake = true ∧ s.mbxIs 4 = true ∧ s.flag CFG.BOOT_FW_NONE = false ∧ s.portOf s.argLane = some k ∧ s.pstate k = 7) ∧
    (∃ (k : PortId) (s : State), s.awake = true ∧ s.mbxIs 4 = true ∧ s.flag CFG.BOOT_FW_NONE = false ∧ s.portOf s.argLane = some k ∧ s.pstate k = 0) ∧
    (∃ (k : PortId) (s : State), s.awake = true ∧ s.mbxIs 4 = true ∧ s.flag CFG.BOOT_FW_NONE = false ∧ s.portOf s.argLane = some k ∧ s.pwr.dev = .run ∧ s.pstate k ≠ 0 ∧ s.pstate k ≠ 7) ∧
    (∃ (k : PortId) (s : State), s.awake = true ∧ s.mbxIs 5 = true ∧ s.flag CFG.BOOT_FW_NONE = false ∧ s.portOf s.argLane = some k ∧ s.pstate k ≠ 7) ∧
    (∃ (k : PortId) (s : State), s.awake = true ∧ s.mbxIs 5 = true ∧ s.flag CFG.BOOT_FW_NONE = false ∧ s.portOf s.argLane = some k ∧ s.pstate k = 7) ∧
    (∃ (s : State), s.awake = true ∧ s.mbxIs 6 = true ∧ s.flag CFG.BOOT_FW_NONE = false ∧ (s.argLanes.any (fun n => (s.portOf n).isNone) = true)) ∧
    (∃ (n : Lane) (s : State), s.awake = true ∧ s.mbxIs 6 = true ∧ s.flag CFG.BOOT_FW_NONE = false ∧ (s.argLanes.any (fun n => (s.portOf n).isNone) = false)) ∧
    (∃ (s : State), s.awake = true ∧ s.mbxIs 7 = true ∧ s.flag CFG.BOOT_FW_NONE = false ∧ ((bits (s.arg 0) 4 2 = 3 ∨ s.portOf s.argLane = none))) ∧
    (∃ (s : State), s.awake = true ∧ s.mbxIs 7 = true ∧ s.flag CFG.BOOT_FW_NONE = false ∧ bits (s.arg 0) 4 2 ≠ 3 ∧ s.portOf s.argLane ≠ none) ∧
    (∃ (s : State), s.awake = true ∧ s.mbxRuns 7 = true ∧ (s.cap.get s.argLane).armed = true ∧ (((s.cap.get s.argLane).trigger ≠ 1 ∨ s.flag (LN.RX_STATUS_LOS_NOW s.argLane) = true))) ∧
    (∃ (s : State), ((s.mbxRuns 7 = false ∨ (s.cap.get s.argLane).armed = false ∨ ((s.cap.get s.argLane).trigger = 1 ∧ s.flag (LN.RX_STATUS_LOS_NOW s.argLane) = false)))) ∧
    (∃ (s : State), s.awake = true ∧ s.mbxIs 8 = true ∧ s.flag SEC.OP_STATUS_BUSY = false ∧ (((s.lc ≠ 2 ∧ s.lc ≠ 3) ∨ s.flag CFG.BOOT_FW_NONE = true ∨ s.flag SEC.ATT_EXHAUSTED = true))) ∧
    (∃ (s : State), s.awake = true ∧ s.mbxIs 8 = true ∧ s.flag SEC.OP_STATUS_BUSY = false ∧ ((s.lc = 2 ∨ s.lc = 3)) ∧ s.flag CFG.BOOT_FW_NONE = false ∧ s.flag SEC.ATT_EXHAUSTED = false ∧ ((s.arg 4 % 4096 ≠ 0 ∨ inSramWin (s.arg 4) = false))) ∧
    (∃ (s : State), s.awake = true ∧ s.mbxIs 8 = true ∧ s.flag SEC.OP_STATUS_BUSY = false ∧ ((s.lc = 2 ∨ s.lc = 3)) ∧ s.flag CFG.BOOT_FW_NONE = false ∧ s.flag SEC.ATT_EXHAUSTED = false ∧ s.arg 4 % 4096 = 0 ∧ inSramWin (s.arg 4) = true ∧ (s.flag THM.STATUS_MTP_OK = false)) ∧
    (∃ (b : Bool) (s : State), s.awake = true ∧ s.mbxIs 8 = true ∧ s.flag SEC.OP_STATUS_BUSY = false ∧ ((s.lc = 2 ∨ s.lc = 3)) ∧ s.flag CFG.BOOT_FW_NONE = false ∧ s.flag SEC.ATT_EXHAUSTED = false ∧ s.arg 4 % 4096 = 0 ∧ inSramWin (s.arg 4) = true ∧ s.flag THM.STATUS_MTP_OK = true ∧ ((s.braced = true ∨ b = true))) ∧
    (∃ (s : State), s.awake = true ∧ s.mbxIs 8 = true ∧ s.flag SEC.OP_STATUS_BUSY = false ∧ ((s.lc = 2 ∨ s.lc = 3)) ∧ s.flag CFG.BOOT_FW_NONE = false ∧ s.flag SEC.ATT_EXHAUSTED = false ∧ s.arg 4 % 4096 = 0 ∧ inSramWin (s.arg 4) = true ∧ s.flag THM.STATUS_MTP_OK = true ∧ s.braced = false ∧ s.mem.merge = []) ∧
    (∃ (s : State), s.awake = true ∧ s.mbxIs 9 = true) ∧
    (∃ (s : State), s.awake = true ∧ s.mbxIs 0xA = true ∧ ((s.stageTarget = none ∨ 0x100000 < s.arg 1 ∨ s.stageTarget.any (fun t => decide (slotSize t < s.arg 2 + s.arg 1)) = true ∨ s.rangeOk (s.arg 0) (s.arg 1) = false))) ∧
    (∃ (k : Nat) (s : State), s.awake = true ∧ s.mbxIs 0xA = true ∧ s.stageTarget = some k ∧ s.arg 1 ≤ 0x100000 ∧ s.arg 2 + s.arg 1 ≤ slotSize k ∧ s.rangeOk (s.arg 0) (s.arg 1) = true ∧ s.slotUsed k = true) ∧
    (∃ (k : Fin 2) (s : State), s.awake = true ∧ s.mbxIs 0xA = true ∧ s.stageTarget = some (2 + k.val) ∧ s.arg 1 ≤ 0x100000 ∧ s.arg 2 + s.arg 1 ≤ slotSize 2 ∧ s.rangeOk (s.arg 0) (s.arg 1) = true ∧ s.slotUsed (2 + k.val) = false ∧ s.mem.merge = [] ∧ s.mem.poison = [] ∧ s.mem.upset = []) ∧
    (∃ (k : Fin 2) (s : State), s.awake = true ∧ s.mbxIs 0xA = true ∧ s.stageTarget = some k.val ∧ s.arg 1 ≤ 0x100000 ∧ s.arg 2 + s.arg 1 ≤ slotSize 0 ∧ s.rangeOk (s.arg 0) (s.arg 1) = true ∧ s.slotUsed k = false ∧ s.mem.merge = [] ∧ s.mem.poison = [] ∧ s.mem.upset = []) ∧
    (∃ (k : Fin 2) (c : Nat) (s : State), s.awake = true ∧ s.mbxIs 0xB = true ∧ bit (s.arg 0) 0 = true ∧ k = Fin.ofNat 2 (s.arg 1) ∧ s.slotCheck false k = c) ∧
    (∃ (k : Fin 2) (c : Nat) (s : State), s.awake = true ∧ s.mbxIs 0xB = true ∧ bit (s.arg 0) 0 = false ∧ k = Fin.ofNat 2 (if s.flag CFG.BOOT_FW_NONE then 0 else 1 - s.get CFG.BOOT_FW_SLOT) ∧ s.slotCheck true k = c) ∧
    (∃ (g : Nat) (n : Nat) (s : State), s.awake = true ∧ s.mbxIs 12 = true ∧ s.flag CFG.BOOT_FW_NONE = false ∧ g = s.arg 0 % 2 ∧ n = min (s.ringUnread g) (s.arg 4) / (if g = 0 then 32 else 16) * (if g = 0 then 32 else 16) ∧ bit (s.arg 3) 0 = true ∧ s.variant = true ∧ s.mem.merge = [] ∧ s.mem.poison = [] ∧ s.mem.upset = []) ∧
    (∃ (g : Nat) (n : Nat) (a : Nat) (s : State), s.awake = true ∧ s.mbxIs 12 = true ∧ s.flag CFG.BOOT_FW_NONE = false ∧ g = s.arg 0 % 2 ∧ n = min (s.ringUnread g) (s.arg 4) / (if g = 0 then 32 else 16) * (if g = 0 then 32 else 16) ∧ bit (s.arg 3) 0 = false ∧ a = s.arg 1 + 2 ^ 32 * s.arg 2 ∧ s.rangeOk a n = true ∧ s.mem.merge = [] ∧ s.mem.poison = [] ∧ s.mem.upset = []) ∧
    (∃ (s : State), s.awake = true ∧ s.mbxIs 12 = true ∧ s.flag CFG.BOOT_FW_NONE = false ∧ (((bit (s.arg 3) 0 = true ∧ s.variant = false) ∨ (bit (s.arg 3) 0 = false ∧ s.rangeOk (s.arg 1 + 2 ^ 32 * s.arg 2) (min (s.ringUnread (s.arg 0 % 2)) (s.arg 4) / (if s.arg 0 % 2 = 0 then 32 else 16) * (if s.arg 0 % 2 = 0 then 32 else 16)) = false)))) ∧
    (∃ (s : State), s.awake = true ∧ s.mbxIs 13 = true ∧ s.flag CFG.BOOT_FW_NONE = false ∧ ((s.arg 0 % 64 ≠ 0 ∨ inSramWin (s.arg 0) = false ∨ inSramWin (s.arg 0 + 0x2FFF) = false))) ∧
    (∃ (u : State) (s : State), s.awake = true ∧ s.mbxIs 13 = true ∧ s.flag CFG.BOOT_FW_NONE = false ∧ s.arg 0 % 64 = 0 ∧ inSramWin (s.arg 0) = true ∧ inSramWin (s.arg 0 + 0x2FFF) = true ∧ u = (s.mbxBegin.snap.off LST.STATUS_SNAP_BUSY).off LST.CTRL_SNAP) ∧
    (∃ (s : State), s.awake = true ∧ s.mbxIs 14 = true ∧ s.flag CFG.BOOT_FW_NONE = false) ∧
    (∃ (s : State), s.awake = true ∧ s.mbxIs 15 = true ∧ s.flag CFG.BOOT_FW_NONE = false) ∧
    (∃ (s : State), s.awake = true ∧ s.mbxIs 16 = true ∧ s.flag CFG.BOOT_FW_NONE = false ∧ ((s.portOf s.argLane = none ∨ bits (s.arg 1) 0 4 ∉ [1, 3, 5, 6, 0xF]))) ∧
    (∃ (s : State), s.awake = true ∧ s.mbxIs 16 = true ∧ s.flag CFG.BOOT_FW_NONE = false ∧ s.portOf s.argLane ≠ none ∧ bits (s.arg 1) 0 4 = 0xF) ∧
    (∃ (s : State), s.awake = true ∧ s.mbxIs 16 = true ∧ s.flag CFG.BOOT_FW_NONE = false ∧ s.portOf s.argLane ≠ none ∧ ((bits (s.arg 1) 0 4 = 1 ∨ bits (s.arg 1) 0 4 = 3))) ∧
    (∃ (k : PortId) (s : State), s.awake = true ∧ s.mbxIs 16 = true ∧ s.flag CFG.BOOT_FW_NONE = false ∧ s.portOf s.argLane = some k ∧ ((bits (s.arg 1) 0 4 = 5 ∨ bits (s.arg 1) 0 4 = 6))) :=
  ⟨⟨0, { regs := [((GLB.SERIAL_SERIAL 127).key, 1), ((GLB.SERIAL_SERIAL 128).key, 1)] }, by decide +kernel⟩,
   ⟨0, { regs := [((GLB.SERIAL_SERIAL 127).key, 1), ((GLB.SERIAL_SERIAL 128).key, 1)] }, by decide +kernel⟩,
   ⟨{ regs := [((GLB.SERIAL_SERIAL 127).key, 2), ((GLB.SERIAL_SERIAL 128).key, 1), ((GLB.SERIAL_SERIAL 131).key, 1)] }, by decide +kernel⟩,
   ⟨{ regs := [((GLB.SERIAL_SERIAL 127).key, 2), ((GLB.SERIAL_SERIAL 128).key, 1)] }, by decide +kernel⟩,
   ⟨{ regs := [((GLB.SERIAL_SERIAL 127).key, 3), ((GLB.SERIAL_SERIAL 128).key, 1), ((GLB.SERIAL_SERIAL 131).key, 1)] }, by decide +kernel⟩,
   ⟨{ regs := [((GLB.SERIAL_SERIAL 127).key, 3), ((GLB.SERIAL_SERIAL 128).key, 1)] }, by decide +kernel⟩,
   ⟨{ regs := [((GLB.SERIAL_SERIAL 127).key, 4), ((GLB.SERIAL_SERIAL 128).key, 1)] }, by decide +kernel⟩,
   ⟨{ regs := [((GLB.SERIAL_SERIAL 127).key, 5), ((GLB.SERIAL_SERIAL 128).key, 1)] }, by decide +kernel⟩,
   ⟨0, { regs := [((GLB.SERIAL_SERIAL 127).key, 4), ((GLB.SERIAL_SERIAL 128).key, 1), ((PORT.STATUS_STATE 0).key, 7)], port := (vset (Vector.replicate 8 {}) 0 { defined := true, lanes := 1 }) }, by decide +kernel⟩,
   ⟨0, { regs := [((GLB.SERIAL_SERIAL 127).key, 4), ((GLB.SERIAL_SERIAL 128).key, 1)], port := (vset (Vector.replicate 8 {}) 0 { defined := true, lanes := 1 }) }, by decide +kernel⟩,
   ⟨0, { regs := [((GLB.SERIAL_SERIAL 127).key, 4), ((GLB.SERIAL_SERIAL 128).key, 1), ((PORT.STATUS_STATE 0).key, 1)], pwr := { dev := .run }, port := (vset (Vector.replicate 8 {}) 0 { defined := true, lanes := 1 }) }, by decide +kernel⟩,
   ⟨0, { regs := [((GLB.SERIAL_SERIAL 127).key, 5), ((GLB.SERIAL_SERIAL 128).key, 1)], port := (vset (Vector.replicate 8 {}) 0 { defined := true, lanes := 1 }) }, by decide +kernel⟩,
   ⟨0, { regs := [((GLB.SERIAL_SERIAL 127).key, 5), ((GLB.SERIAL_SERIAL 128).key, 1), ((PORT.STATUS_STATE 0).key, 7)], port := (vset (Vector.replicate 8 {}) 0 { defined := true, lanes := 1 }) }, by decide +kernel⟩,
   ⟨{ regs := [((GLB.SERIAL_SERIAL 127).key, 6), ((GLB.SERIAL_SERIAL 128).key, 1), ((GLB.SERIAL_SERIAL 131).key, 1)] }, by decide +kernel⟩,
   ⟨0, { regs := [((GLB.SERIAL_SERIAL 127).key, 6), ((GLB.SERIAL_SERIAL 128).key, 1)] }, by decide +kernel⟩,
   ⟨{ regs := [((GLB.SERIAL_SERIAL 127).key, 7), ((GLB.SERIAL_SERIAL 128).key, 1)] }, by decide +kernel⟩,
   ⟨{ regs := [((GLB.SERIAL_SERIAL 127).key, 7), ((GLB.SERIAL_SERIAL 128).key, 1)], port := (vset (Vector.replicate 8 {}) 0 { defined := true, lanes := 1 }) }, by decide +kernel⟩,
   ⟨{ regs := [((GLB.SERIAL_SERIAL 127).key, 7), ((GLB.SERIAL_SERIAL 128).key, 1)], mbx := { begun := true }, cap := (vset (Vector.replicate 8 {}) 0 { armed := true }) }, by decide +kernel⟩,
   ⟨{}, by decide +kernel⟩,
   ⟨{ regs := [((GLB.SERIAL_SERIAL 127).key, 8), ((GLB.SERIAL_SERIAL 128).key, 1), (SEC.ATT_EXHAUSTED.key, 1)] }, by decide +kernel⟩,
   ⟨{ regs := [((GLB.SERIAL_SERIAL 127).key, 8), ((GLB.SERIAL_SERIAL 128).key, 1)] }, by decide +kernel⟩,
   ⟨{ regs := [((GLB.SERIAL_SERIAL 127).key, 8), ((GLB.SERIAL_SERIAL 128).key, 1), ((GLB.SERIAL_SERIAL 135).key, 268439552)] }, by decide +kernel⟩,
   ⟨false, { regs := [((GLB.SERIAL_SERIAL 127).key, 8), ((GLB.SERIAL_SERIAL 128).key, 1), ((GLB.SERIAL_SERIAL 135).key, 268439552), (PWR.STATUS_BRACE_NOW.key, 1), (THM.STATUS_MTP_OK.key, 1)] }, by decide +kernel⟩,
   ⟨{ regs := [((GLB.SERIAL_SERIAL 127).key, 8), ((GLB.SERIAL_SERIAL 128).key, 1), ((GLB.SERIAL_SERIAL 135).key, 268439552), (THM.STATUS_MTP_OK.key, 1)] }, by decide +kernel⟩,
   ⟨{ regs := [((GLB.SERIAL_SERIAL 127).key, 9), ((GLB.SERIAL_SERIAL 128).key, 1)] }, by decide +kernel⟩,
   ⟨{ regs := [((GLB.SERIAL_SERIAL 127).key, 10), ((GLB.SERIAL_SERIAL 128).key, 1), ((GLB.SERIAL_SERIAL 134).key, 3)] }, by decide +kernel⟩,
   ⟨3, { regs := [((GLB.SERIAL_SERIAL 127).key, 10), ((GLB.SERIAL_SERIAL 128).key, 1), ((GLB.SERIAL_SERIAL 134).key, 2), (CFG.BOOT_RIG_SLOT.key, 1)] }, by decide +kernel⟩,
   ⟨1, { regs := [((GLB.SERIAL_SERIAL 127).key, 10), ((GLB.SERIAL_SERIAL 128).key, 1), ((GLB.SERIAL_SERIAL 134).key, 2)] }, by decide +kernel⟩,
   ⟨0, { regs := [((GLB.SERIAL_SERIAL 127).key, 10), ((GLB.SERIAL_SERIAL 128).key, 1), (CFG.BOOT_FW_SLOT.key, 1)] }, by decide +kernel⟩,
   ⟨0, 1, { regs := [((GLB.SERIAL_SERIAL 127).key, 11), ((GLB.SERIAL_SERIAL 128).key, 1), ((GLB.SERIAL_SERIAL 131).key, 1)] }, by decide +kernel⟩,
   ⟨1, 1, { regs := [((GLB.SERIAL_SERIAL 127).key, 11), ((GLB.SERIAL_SERIAL 128).key, 1)] }, by decide +kernel⟩,
   ⟨0, 64, { regs := [((GLB.SERIAL_SERIAL 127).key, 12), ((GLB.SERIAL_SERIAL 128).key, 1), ((GLB.SERIAL_SERIAL 134).key, 1), ((GLB.SERIAL_SERIAL 135).key, 64), ((STR.TIME_TIME 8).key, 64)] }, by decide +kernel⟩,
   ⟨0, 0, 268447744, { regs := [((GLB.SERIAL_SERIAL 127).key, 12), ((GLB.SERIAL_SERIAL 128).key, 1), ((GLB.SERIAL_SERIAL 132).key, 268447744)] }, by decide +kernel⟩,
   ⟨{ variant := false, regs := [((GLB.SERIAL_SERIAL 127).key, 12), ((GLB.SERIAL_SERIAL 128).key, 1), ((GLB.SERIAL_SERIAL 134).key, 1)] }, by decide +kernel⟩,
   ⟨{ regs := [((GLB.SERIAL_SERIAL 127).key, 13), ((GLB.SERIAL_SERIAL 128).key, 1)] }, by decide +kernel⟩,
   ⟨(((State.snap (State.mbxBegin { regs := [((GLB.SERIAL_SERIAL 127).key, 13), ((GLB.SERIAL_SERIAL 128).key, 1), ((GLB.SERIAL_SERIAL 131).key, 268451840)] })).off LST.STATUS_SNAP_BUSY).off LST.CTRL_SNAP), { regs := [((GLB.SERIAL_SERIAL 127).key, 13), ((GLB.SERIAL_SERIAL 128).key, 1), ((GLB.SERIAL_SERIAL 131).key, 268451840)] }, by decide +kernel⟩,
   ⟨{ regs := [((GLB.SERIAL_SERIAL 127).key, 14), ((GLB.SERIAL_SERIAL 128).key, 1)] }, by decide +kernel⟩,
   ⟨{ regs := [((GLB.SERIAL_SERIAL 127).key, 15), ((GLB.SERIAL_SERIAL 128).key, 1)] }, by decide +kernel⟩,
   ⟨{ regs := [((GLB.SERIAL_SERIAL 127).key, 16), ((GLB.SERIAL_SERIAL 128).key, 1)] }, by decide +kernel⟩,
   ⟨{ regs := [((GLB.SERIAL_SERIAL 127).key, 16), ((GLB.SERIAL_SERIAL 128).key, 1), ((GLB.SERIAL_SERIAL 132).key, 15)], port := (vset (Vector.replicate 8 {}) 0 { defined := true, lanes := 1 }) }, by decide +kernel⟩,
   ⟨{ regs := [((GLB.SERIAL_SERIAL 127).key, 16), ((GLB.SERIAL_SERIAL 128).key, 1), ((GLB.SERIAL_SERIAL 132).key, 1)], port := (vset (Vector.replicate 8 {}) 0 { defined := true, lanes := 1 }) }, by decide +kernel⟩,
   ⟨0, { regs := [((GLB.SERIAL_SERIAL 127).key, 16), ((GLB.SERIAL_SERIAL 128).key, 1), ((GLB.SERIAL_SERIAL 132).key, 5)], port := (vset (Vector.replicate 8 {}) 0 { defined := true, lanes := 1 }) } , by decide +kernel⟩⟩

theorem witness_security_and_self_test :
    (∃ (sig : Bool) (br : Bool) (otp : Bool) (k : Nat) (s : State), s.awake = true ∧ s.sec.op = some (1, k) ∧ s.mem.merge = [] ∧ s.opCode 1 k sig br otp = 0) ∧
    (∃ (sig : Bool) (br : Bool) (otp : Bool) (k : Nat) (s : State), s.awake = true ∧ s.sec.op = some (2, k) ∧ k < 2 ∧ s.mem.merge = [] ∧ s.opCode 2 k sig br otp = 0) ∧
    (∃ (sig : Bool) (br : Bool) (otp : Bool) (k : Nat) (s : State), s.awake = true ∧ s.sec.op = some (3, k) ∧ s.mem.merge = [] ∧ s.opCode 3 k sig br otp = 0) ∧
    (∃ (sig : Bool) (br : Bool) (otp : Bool) (k : Nat) (c : Nat) (s : State), s.awake = true ∧ s.sec.op = some (1, k) ∧ s.mem.merge = [] ∧ s.opCode 1 k sig br otp = c ∧ c ≠ 0) ∧
    (∃ (sig : Bool) (br : Bool) (otp : Bool) (k : Nat) (c : Nat) (s : State), s.awake = true ∧ s.sec.op = some (2, k) ∧ s.mem.merge = [] ∧ s.opCode 2 k sig br otp = c ∧ c ≠ 0) ∧
    (∃ (sig : Bool) (br : Bool) (otp : Bool) (k : Nat) (c : Nat) (s : State), s.awake = true ∧ s.sec.op = some (3, k) ∧ s.mem.merge = [] ∧ s.opCode 3 k sig br otp = c ∧ c ≠ 0) ∧
    (∃ (s : State), (s.sec.op.any (fun p => p.1 == 1) = false)) ∧
    (∃ (s : State), (s.sec.op.any (fun p => p.1 == 2) = false)) ∧
    (∃ (s : State), (s.sec.op.any (fun p => p.1 == 3) = false)) ∧
    (∃ (op : Nat) (k : Nat) (sig : Bool) (br : Bool) (otp : Bool) (s : State), s.opCode op k sig br otp = 0) ∧
    (∃ (k : Nat) (s : State), s.opOk 1 k = true) ∧
    (∃ (op : Nat) (k : Nat) (s : State), op < 16 ∧ k < 16 ∧ 1 ≤ op ∧ op ≤ 3 ∧ s.flag SEC.OP_STATUS_BUSY = false) ∧
    (∃ (s : State), s.flag SEC.OP_STATUS_BUSY = true) ∧
    (∃ (s : State), s.awake = true ∧ s.shelving = true ∧ s.sec.slice = none ∧ s.pwr.packed = false ∧ s.allDown = true ∧ s.mtpFree = true) ∧
    (∃ (s : State), s.awake = true ∧ s.shelving = true ∧ s.sec.slice = none ∧ s.pwr.packed = false ∧ s.allDown = true ∧ s.mtpFree = false ∧ s.str.mtpPending = false) ∧
    (∃ (s : State), ((s.awake = false ∨ s.shelving = false ∨ s.sec.slice ≠ none ∨ s.pwr.packed = true ∨ s.allDown = false))) ∧
    (∃ (s : State), ((s.sec.slice = none ∨ s.braced = true))) ∧
    (∃ (c : Nat) (s : State), s.awake = true ∧ s.sec.slice = some c ∧ s.braced = false ∧ s.sec.abandon = false ∧ ((s.sec.hit = false ∨ s.sec.again = true)) ∧ c < s.lastSlice) ∧
    (∃ (c : Nat) (s : State), s.awake = true ∧ s.sec.slice = some c ∧ s.braced = false ∧ s.sec.abandon = false ∧ s.sec.hit = true ∧ s.sec.again = false) ∧
    (∃ (pass : Bool) (c : Nat) (l : List Nat) (s : State), s.awake = true ∧ s.sec.slice = some c ∧ s.braced = false ∧ s.sec.abandon = false ∧ ((s.sec.hit = false ∨ s.sec.again = true)) ∧ s.lastSlice ≤ c ∧ c < 32 ∧ s.now < 2 ^ 48 ∧ (l = (if pass = true ∧ s.sec.hit = false then s.sec.fails else s.sec.fails ++ [c])) ∧ l.length < 32 ∧ l.headD 0 < 32) ∧
    (∃ (c : Nat) (s : State), s.awake = true ∧ s.sec.slice = some c ∧ s.braced = false ∧ s.sec.abandon = true) ∧
    (∃ (s : State), s.awake = true ∧ s.flag TST.STATUS_POST_PASS = true) ∧
    (∃ (s : State), s.awake = true ∧ s.flag TST.STATUS_POST_PASS = false) ∧
    (∃ (s : State), s.awake = true ∧ s.lcOpen = true ∧ s.flag TST.STATUS_ENG_BUSY = false ∧ s.logicSlice (s.get TST.ENG0_SLICE) = true ∧ ((∀ k : PortId, s.pstate k = 0))) ∧
    (∃ (k : PortId) (s : State), ((s.lcOpen = false ∨ s.flag TST.STATUS_ENG_BUSY = true ∨ s.logicSlice (s.get TST.ENG0_SLICE) = false ∨ s.pstate k ≠ 0))) ∧
    (∃ (s : State), s.awake = true ∧ s.flag TST.STATUS_ENG_BUSY = true) ∧
    (∃ (s : State), s.flag TST.STATUS_ENG_BUSY = false) ∧
    (∃ (s : State), s.awake = true) ∧
    (∃ (s : State), s.awake = true) ∧
    (∃ (x : JtagInsn), ((x = .bypass ∨ x = .idcode ∨ x = .sample))) ∧
    (∃ (x : JtagInsn), ((x = .bridle ∨ x = .testData))) ∧
    (∃ (x : JtagInsn), ((x = .extest ∨ x = .extestPulse ∨ x = .extestTrain))) :=
  ⟨⟨true, false, true, 4, { regs := [((GLB.SERIAL_SERIAL 3).key, 3), (THM.STATUS_MTP_OK.key, 1), (SEC.TOKEN_ADDR_ADDR.key, 268435456)], mem := { cells := [(268435456, 75), (268435457, 84), (268435458, 78), (268435459, 76), (268435460, 1), (268435461, 4)] }, sec := { op := (some (1, 4)) } }, by decide +kernel⟩,
   ⟨false, false, true, 1, { regs := [(THM.STATUS_MTP_OK.key, 1), (SEC.TOKEN_ADDR_ADDR.key, 268435456)], mem := { cells := [(268435456, 75), (268435457, 84), (268435458, 78), (268435459, 76), (268435460, 2), (268435461, 1), (268435472, 255)] }, sec := { op := (some (2, 1)) } }, by decide +kernel⟩,
   ⟨true, false, true, 1, { regs := [(THM.STATUS_MTP_OK.key, 1), (SEC.TOKEN_ADDR_ADDR.key, 268435456), ((SEC.KEYS_SLOT 1).key, 1)], mem := { cells := [(268435456, 75), (268435457, 84), (268435458, 78), (268435459, 76), (268435460, 3), (268435461, 1), (268435472, 2)] }, sec := { op := (some (3, 1)) } }, by decide +kernel⟩,
   ⟨false, false, false, 167, 2, { sec := { op := (some (1, 167)) } }, by decide +kernel⟩,
   ⟨false, false, false, 167, 2, { sec := { op := (some (2, 167)) } }, by decide +kernel⟩,
   ⟨false, false, false, 1, 5, { regs := [(SEC.TOKEN_ADDR_ADDR.key, 268435456), ((SEC.KEYS_SLOT 1).key, 1)], mem := { cells := [(268435456, 75), (268435457, 84), (268435458, 78), (268435459, 76), (268435460, 3), (268435461, 1), (268435472, 2)] }, sec := { op := (some (3, 1)) } }, by decide +kernel⟩,
   ⟨{}, by decide +kernel⟩,
   ⟨{}, by decide +kernel⟩,
   ⟨{}, by decide +kernel⟩,
   ⟨1, 4, true, false, true, { regs := [((GLB.SERIAL_SERIAL 3).key, 3), (THM.STATUS_MTP_OK.key, 1), (SEC.TOKEN_ADDR_ADDR.key, 268435456)], mem := { cells := [(268435456, 75), (268435457, 84), (268435458, 78), (268435459, 76), (268435460, 1), (268435461, 4)] } }, by decide +kernel⟩,
   ⟨5, {}, by decide +kernel⟩,
   ⟨1, 0, {}, by decide +kernel⟩,
   ⟨{ regs := [(SEC.OP_STATUS_BUSY.key, 1)] }, by decide +kernel⟩,
   ⟨{ regs := [(THM.STATUS_MTP_OK.key, 1)], pwr := { sleeps := [{ kind := .shelf, src := .bit }] } }, by decide +kernel⟩,
   ⟨{ pwr := { sleeps := [{ kind := .shelf, src := .bit }] } }, by decide +kernel⟩,
   ⟨{}, by decide +kernel⟩,
   ⟨{}, by decide +kernel⟩,
   ⟨5, { sec := { slice := (some 5) } }, by decide +kernel⟩,
   ⟨5, { sec := { slice := (some 5), hit := true } }, by decide +kernel⟩,
   ⟨false, 18, [18], { sec := { slice := (some 18) } }, by decide +kernel⟩,
   ⟨5, { sec := { slice := (some 5), abandon := true } }, by decide +kernel⟩,
   ⟨{ regs := [(TST.STATUS_POST_PASS.key, 1)] }, by decide +kernel⟩,
   ⟨{}, by decide +kernel⟩,
   ⟨{ regs := [(TST.ENG0_SLICE.key, 1)] }, by decide +kernel⟩,
   ⟨0, {}, by decide +kernel⟩,
   ⟨{ regs := [(TST.STATUS_ENG_BUSY.key, 1)] }, by decide +kernel⟩,
   ⟨{}, by decide +kernel⟩,
   ⟨{}, by decide +kernel⟩,
   ⟨{}, by decide +kernel⟩,
   ⟨.idcode, by decide +kernel⟩,
   ⟨.bridle, by decide +kernel⟩,
   ⟨.extestPulse, by decide +kernel⟩⟩

theorem witness_memory_reads_what_was_written :
    (∃ (i : Initiator) (j : Initiator) (a : BitVec 32) (z : Fin 4) (v : BitVec 64) (s : State) (t : State) (u : State), s.mayAccess i = true ∧ s.mayAccess j = true ∧ inSramWin a.toNat = true ∧ a.toNat % 8 + 2 ^ z.val ≤ 8 ∧ s.mem.poison = [] ∧ s.mem.upset = [] ∧ t = s.busWrite i a.toNat z v.toNat ∧ u = t.busRead j a.toNat z 0 .clean) ∧
    (∃ (i : Initiator) (a : BitVec 32) (z : Fin 4) (v : BitVec 64) (b : Nat) (s : State) (t : State), s.mayAccess i = true ∧ inSramWin a.toNat = true ∧ a.toNat % 8 + 2 ^ z.val ≤ 8 ∧ ((b < a.toNat ∨ a.toNat + 2 ^ z.val ≤ b)) ∧ s.mem.poison = [] ∧ s.mem.upset = [] ∧ (s.mem.merge.all (fun e => e.addr % 8 == 0) = true) ∧ t = s.busWrite i a.toNat z v.toNat) :=
  ⟨⟨.gondola, .gondola, 0x10000007, 0, 5, {}, (({} : State).busWrite .gondola 0x10000007 0 5), ((({} : State).busWrite .gondola 0x10000007 0 5).busRead .gondola 0x10000007 0 0 .clean), by decide +kernel⟩,
   ⟨.gondola, 0x10000007, 0, 5, 0x10000008, {}, (({} : State).busWrite .gondola 0x10000007 0 5), by decide +kernel⟩⟩

theorem witness_loader_takes_newer_slot :
    (∃ (a : Nat) (b : Nat), a < 2 ^ 32 ∧ b < 2 ^ 32) ∧
    (∃ (a : Nat) (b : Nat), a < 2 ^ 32 ∧ b < 2 ^ 32) ∧
    (∃ (a : Nat) (b : Nat), a < 2 ^ 32 ∧ b < 2 ^ 32 ∧ ((a = b ∨ a = b + 2 ^ 31 ∨ b = a + 2 ^ 31))) ∧
    (∃ (c : Nat), c ≠ 0) ∧
    (∃ (c : Nat) (d : Nat), c ≠ 0 ∧ d ≠ 0) ∧
    (∃ (fw : Bool) (k : Fin 2) (s : State), s.flashLE (flashSlot fw k) 4 ≠ 0x4C4E5247) ∧
    (∃ (fw : Bool) (k : Fin 2) (b : Nat) (n : Nat) (s : State), b = flashSlot fw k ∧ n = s.flashLE (b + 0x0C) 4 ∧ ((s.digestOk b = false ∨ (∃ x ∈ s.sectionsIn b, n < x.offset + x.length) ∨
    (∃ i j : Fin (s.sectionsIn b).length, i < j ∧ ((s.sectionsIn b).get i).offset < ((s.sectionsIn b).get j).offset + ((s.sectionsIn b).get j).length ∧ ((s.sectionsIn b).get j).offset < ((s.sectionsIn b).get i).offset + ((s.sectionsIn b).get i).length)))) ∧
    (∃ (t : Fin 8) (k : Fin 2) (s : State), ((t = 1 ∨ t = 2 ∨ t = 5 ∨ t = 7)) ∧ ((∀ x ∈ s.sectionsIn (flashSlot false k), x.type ≠ t.val))) :=
  ⟨⟨0, 0, by decide +kernel⟩,
   ⟨0, 0, by decide +kernel⟩,
   ⟨42, 2147483690, by decide +kernel⟩,
   ⟨1, by decide +kernel⟩,
   ⟨1, 1, by decide +kernel⟩,
   ⟨false, 0, {}, by decide +kernel⟩,
   ⟨false, 0, 8388608, 4096, { flash := [(8388621, 16)] }, by decide +kernel⟩,
   ⟨7, 0, {} , by decide +kernel⟩⟩

theorem witness_trace_records_and_gaps :
    (∃ (q : Nat) (s : State), s.bitOf STR.TRACE_SRC_SRC q = false) ∧
    (∃ (q : Nat) (s : State), s.bitOf STR.TRACE_SRC_SRC q = true ∧ s.ringFull 1 16 = true) ∧
    (∃ (q : Nat) (s : State), s.bitOf STR.TRACE_SRC_SRC q = true ∧ s.ringFull 1 16 = false ∧ s.str.traceLost = 0) ∧
    (∃ (q : Nat) (s : State), s.bitOf STR.TRACE_SRC_SRC q = true ∧ s.ringFull 1 32 = true ∧ s.str.traceLost ≠ 0) ∧
    (∃ (q : Nat) (s : State), s.bitOf STR.TRACE_SRC_SRC q = true ∧ s.ringFull 1 32 = false ∧ s.str.traceLost ≠ 0 ∧ s.mem.merge = [] ∧ s.get (STR.RING_WR_WR 1) + 32 ≤ s.ringSize 1 ∧ s.get (STR.RING_WR_WR 1) < 2 ^ 32 - 32) :=
  ⟨⟨0, {}, by decide +kernel⟩,
   ⟨0, { regs := [((STR.TIME_TIME 17).key, 1), ((STR.TIME_TIME 20).key, 1)] }, by decide +kernel⟩,
   ⟨0, { regs := [((STR.TIME_TIME 20).key, 1)] }, by decide +kernel⟩,
   ⟨0, { regs := [((STR.TIME_TIME 17).key, 1), ((STR.TIME_TIME 20).key, 1)], str := { traceLost := 1 } }, by decide +kernel⟩,
   ⟨0, { regs := [((STR.TIME_TIME 20).key, 1)], str := { traceLost := 1 } } , by decide +kernel⟩⟩

theorem witness_parity_mismatch_is_reported :
    (∃ (i : Initiator) (a : BitVec 32) (z : Fin 4) (wrong : BitVec 2) (s : State), s.mayAccess i = true ∧ wrong.getLsbD 0 = true ∧ z.val < 3 ∧ a.toNat % 2 ^ z.val = 0 ∧ a.toNat < 0x200000 ∧ unmapped i a.toNat = false ∧ s.absent (a.toNat / 4 * 4) = false ∧ hasParity (a.toNat / 4 * 4) = true ∧ ((z.val < 2 → sideEffect (a.toNat / 4 * 4) = false))) ∧
    (∃ (i : Initiator) (a : BitVec 32) (wrong : BitVec 2) (s : State), s.mayAccess i = true ∧ wrong.getLsbD 0 = false ∧ wrong.getLsbD 1 = true ∧ a.toNat % 8 = 0 ∧ a.toNat < 0x200000 ∧ unmapped i a.toNat = false ∧ unmapped i (a.toNat + 4) = false ∧ sideEffect a.toNat = false ∧ s.absent (a.toNat + 4) = false ∧ hasParity (a.toNat + 4) = true ∧ s.brd.parityBad = []) ∧
    (∃ (i : Initiator) (a : BitVec 32) (s : State), s.mayAccess i = true ∧ a.toNat % 4 = 0 ∧ inAlias a.toNat = true ∧ aliasDefined a.toNat = true ∧ hasParity (aliasTarget a.toNat).1 = true) ∧
    (∃ (a : BitVec 32) (s : State), s.awake = true ∧ a.toNat < 0x200000 ∧ hasParity (a.toNat / 4 * 4) = true) :=
  ⟨⟨.spar, 721664, 0, 1, {}, by decide +kernel⟩,
   ⟨.gondola, 655632, 2, {}, by decide +kernel⟩,
   ⟨.spar, 2097276, {}, by decide +kernel⟩,
   ⟨722496, {} , by decide +kernel⟩⟩

theorem witness_alarms_are_offered_to_the_log :
    (∃ (f : Field), 0x51000 ≤ f.addr ∧ f.addr < 0x51800) :=
  ⟨(STR.ALM1_COUNT 30), by decide +kernel⟩

/-- The invariant of `EveryStepKeepsInvariant` holds where the machine starts, and a step goes on from there. -/
theorem witness_every_step_keeps_invariant : ∃ s t : State, s.Inv ∧ step s = .next t :=
  ⟨State.reset, State.reset.tick, ⟨by decide, by decide, by decide, by decide, by decide, by decide⟩, rfl⟩

theorem witness_every_command_keeps : ∃ (c : Instr) (s t : State), exec c s = .next t := ⟨.powerUp, State.reset, _, rfl⟩

theorem witness_idle_step_ticks :
    (∃ s : State, s.pending = []) ∧ (∃ s : State, s.pwr.dev = .off) ∧ (∃ s : State, s.pwr.dev ≠ .off ∧ s.tth.ahead = 0) ∧
      (∃ s : State, s.pwr.dev ≠ .off ∧ s.tth.ahead ≠ 0) :=
  ⟨⟨State.reset, rfl⟩, ⟨{ pwr := { dev := .off } }, rfl⟩, ⟨State.reset, by decide⟩, ⟨{ tth := { ahead := 1 } }, by decide⟩⟩

theorem witness_reset_state : ∃ f : Field, f.key ≠ PWR.LAST_WAKE_DETAIL.key := ⟨PWR.CTRL_BALLAST_EN, by decide⟩

end Sys2Proof.Machine
end

/-! SUPPORT. The loader's choice between two slots (R350), and what a slot whose result code is 0 has met (Table 16-7). -/

namespace Sys2Proof.Machine

open Sys2Proof

/-! ### Serial-number arithmetic (R350) -/

theorem seqNewer_iff (a b : Nat) :
    seqNewer a b = true ↔ 1 ≤ (a + 2 ^ 32 - b) % 2 ^ 32 ∧ (a + 2 ^ 32 - b) % 2 ^ 32 ≤ 2 ^ 31 - 1 := by
  simp only [seqNewer, Bool.and_eq_true, decide_eq_true_eq]

/-- Equal SEQs, and SEQs half the number circle apart, are not ordered: neither is newer. -/
theorem seqNewer_eq_false_of_tie {a b : Nat} (ha : a < 2 ^ 32) (hb : b < 2 ^ 32) (h : a = b ∨ a = b + 2 ^ 31 ∨ b = a + 2 ^ 31) :
    seqNewer b a = false := by
  rw [Bool.eq_false_iff, Ne, seqNewer_iff]
  obtain rfl | rfl | rfl := h <;> omega

/-! ### The slot taken -/

theorem slotTaken_of_both_valid (a b : Nat) : slotTaken 0 0 a b = if seqNewer b a then some 1 else some 0 := by
  simp only [slotTaken, and_self, if_true]
  split <;> rfl

theorem slotTaken_of_only_first_valid {c : Nat} (hc : c ≠ 0) (a b : Nat) : slotTaken 0 c a b = some 0 := by
  simp [slotTaken, hc]

theorem slotTaken_of_only_second_valid {c : Nat} (hc : c ≠ 0) (a b : Nat) : slotTaken c 0 a b = some 1 := by
  simp [slotTaken, hc]

theorem slotTaken_of_none_valid {c d : Nat} (hc : c ≠ 0) (hd : d ≠ 0) (a b : Nat) : slotTaken c d a b = none := by
  simp [slotTaken, hc, hd]

theorem slotTaken_of_tie {a b : Nat} (ha : a < 2 ^ 32) (hb : b < 2 ^ 32) (h : a = b ∨ a = b + 2 ^ 31 ∨ b = a + 2 ^ 31) :
    slotTaken 0 0 a b = some 0 := by
  rw [slotTaken_of_both_valid, seqNewer_eq_false_of_tie ha hb h]
  rfl

/-! ### Sections (check 7) -/

theorem sectionsApart_iff (x y : RigSection) :
    sectionsApart x y = true ↔ x.offset + x.length ≤ y.offset ∨ y.offset + y.length ≤ x.offset := by
  simp only [sectionsApart, Bool.or_eq_true, decide_eq_true_eq]

theorem sectionsDisjoint_iff_pairwise (l : List RigSection) :
    sectionsDisjoint l = true ↔ l.Pairwise (fun x y => sectionsApart x y = true) := by
  induction l with
  | nil => exact iff_of_true rfl List.Pairwise.nil
  | cons x xs ih => simp only [sectionsDisjoint, Bool.and_eq_true, List.all_eq_true, ih, List.pairwise_cons]

theorem disjoint_of_sectionsOk {fw : Bool} {n : Nat} {l : List RigSection} (h : sectionsOk fw n l = true) :
    sectionsDisjoint l = true := by
  simp only [sectionsOk, Bool.and_eq_true] at h
  obtain ⟨⟨-, hdisjoint⟩, -⟩ := h
  exact hdisjoint

theorem end_le_of_sectionsOk {fw : Bool} {n : Nat} {l : List RigSection} (h : sectionsOk fw n l = true) {x : RigSection}
    (hx : x ∈ l) : x.offset + x.length ≤ n := by
  simp only [sectionsOk, Bool.and_eq_true, List.all_eq_true, decide_eq_true_eq] at h
  obtain ⟨⟨hinside, -⟩, -⟩ := h
  exact (hinside x hx).2

theorem get_apart_of_sectionsOk {fw : Bool} {n : Nat} {l : List RigSection} (h : sectionsOk fw n l = true) {i j : Fin l.length}
    (hij : i < j) : (l.get i).offset + (l.get i).length ≤ (l.get j).offset ∨ (l.get j).offset + (l.get j).length ≤ (l.get i).offset :=
  (sectionsApart_iff _ _).1
    (List.pairwise_iff_getElem.1 ((sectionsDisjoint_iff_pairwise l).1 (disjoint_of_sectionsOk h)) i j i.isLt j.isLt hij)

theorem exists_required_type_of_sectionsOk {n : Nat} {l : List RigSection} (h : sectionsOk false n l = true) {t : Nat}
    (ht : t ∈ [1, 2, 5, 7]) : ∃ x ∈ l, x.type = t := by
  simp only [sectionsOk, Bool.false_or, Bool.and_eq_true] at h
  obtain ⟨-, -, hrequired⟩ := h
  simpa only [List.any_eq_true, beq_iff_eq] using List.all_eq_true.1 hrequired t ht

/-! ### The checks of a slot (Table 16-7) -/

theorem slotCheck_of_magic_ne {fw : Bool} {k : Fin 2} {s : State} (h : s.flashLE (flashSlot fw k) 4 ≠ 0x4C4E5247) :
    s.slotCheck fw k = 1 := by
  simp only [State.slotCheck, if_pos h]

/-- A chain of checks answers 0 only past its first check, and then the rest of the chain answers 0. -/
theorem rest_eq_zero_of_ite_eq_zero {c : Prop} [Decidable c] {code rest : Nat} (hcode : code ≠ 0)
    (h : (if c then code else rest) = 0) : ¬ c ∧ rest = 0 := by
  by_cases hc : c
  · exact absurd ((if_pos hc).symm.trans h) hcode
  · exact ⟨hc, (if_neg hc).symm.trans h⟩

/-- A slot whose result code is 0 has passed checks 5 and 7 among the others. -/
theorem digestOk_and_sectionsOk_of_slotCheck_eq_zero {fw : Bool} {k : Fin 2} {s : State} (h : s.slotCheck fw k = 0) :
    s.digestOk (flashSlot fw k) = true ∧
      sectionsOk fw (s.flashLE (flashSlot fw k + 0x0C) 4) (s.sectionsIn (flashSlot fw k)) = true := by
  unfold State.slotCheck at h
  obtain ⟨-, h⟩ := rest_eq_zero_of_ite_eq_zero (by decide) h
  obtain ⟨-, h⟩ := rest_eq_zero_of_ite_eq_zero (by decide) h
  obtain ⟨-, h⟩ := rest_eq_zero_of_ite_eq_zero (by decide) h
  obtain ⟨-, h⟩ := rest_eq_zero_of_ite_eq_zero (by decide) h
  obtain ⟨hdigest, h⟩ := rest_eq_zero_of_ite_eq_zero (by decide) h
  obtain ⟨-, h⟩ := rest_eq_zero_of_ite_eq_zero (by decide) h
  obtain ⟨hsections, -⟩ := rest_eq_zero_of_ite_eq_zero (by decide) h
  exact ⟨eq_true_of_ne_false hdigest, eq_true_of_ne_false hsections⟩

theorem slotCheck_ne_zero_of_digest {fw : Bool} {k : Fin 2} {s : State} (h : s.digestOk (flashSlot fw k) = false) :
    s.slotCheck fw k ≠ 0 := by
  intro hvalid
  obtain ⟨hdigest, -⟩ := digestOk_and_sectionsOk_of_slotCheck_eq_zero hvalid
  exact absurd hdigest (Bool.eq_false_iff.1 h)

theorem slotCheck_ne_zero_of_section_past_end {fw : Bool} {k : Fin 2} {s : State} {x : RigSection}
    (hx : x ∈ s.sectionsIn (flashSlot fw k)) (h : s.flashLE (flashSlot fw k + 0x0C) 4 < x.offset + x.length) :
    s.slotCheck fw k ≠ 0 := by
  intro hvalid
  obtain ⟨-, hsections⟩ := digestOk_and_sectionsOk_of_slotCheck_eq_zero hvalid
  exact absurd (end_le_of_sectionsOk hsections hx) (Nat.not_le.2 h)

theorem slotCheck_ne_zero_of_sections_overlap {fw : Bool} {k : Fin 2} {s : State} {l : List RigSection} {i j : Fin l.length}
    (hl : s.sectionsIn (flashSlot fw k) = l) (hij : i < j) (hi : (l.get i).offset < (l.get j).offset + (l.get j).length)
    (hj : (l.get j).offset < (l.get i).offset + (l.get i).length) : s.slotCheck fw k ≠ 0 := by
  intro hvalid
  obtain ⟨-, hsections⟩ := digestOk_and_sectionsOk_of_slotCheck_eq_zero hvalid
  rw [hl] at hsections
  have hapart := get_apart_of_sectionsOk hsections hij
  omega

/-- A rig without a section of a required type is not valid: check 7. -/
theorem slotCheck_ne_zero_of_missing_type {t : Nat} {k : Fin 2} {s : State} (ht : t ∈ [1, 2, 5, 7])
    (h : ∀ x ∈ s.sectionsIn (flashSlot false k), x.type ≠ t) : s.slotCheck false k ≠ 0 := by
  intro hvalid
  obtain ⟨-, hsections⟩ := digestOk_and_sectionsOk_of_slotCheck_eq_zero hvalid
  obtain ⟨x, hx, htype⟩ := exists_required_type_of_sectionsOk hsections ht
  exact h x hx htype

/-! ### The statement -/

/-- Settles O48: clause by clause from the rules of `seqNewer`, `slotTaken` and `slotCheck` above; the loader's own two clauses say
that `slotPick` and `bootFirmware` use them. -/
theorem loaderTakesNewerSlot : Obligations.LoaderTakesNewerSlot := by
  unfold Obligations.LoaderTakesNewerSlot
  refine ⟨fun a b _ _ => seqNewer_iff a b, fun a b _ _ => slotTaken_of_both_valid a b, fun _ _ => slotTaken_of_tie,
    fun a b _ hc => ⟨slotTaken_of_only_first_valid hc a b, slotTaken_of_only_second_valid hc a b⟩,
    fun a b _ _ hc hd => slotTaken_of_none_valid hc hd a b, fun _ _ _ => slotCheck_of_magic_ne, ?checks, ?required,
    fun _ _ => rfl, fun _ _ _ _ => rfl⟩
  case checks =>
    rintro fw k _ _ s rfl rfl (hdigest | ⟨x, hx, hpast⟩ | ⟨i, j, hij, hi, hj⟩)
    · exact slotCheck_ne_zero_of_digest hdigest
    · exact slotCheck_ne_zero_of_section_past_end hx hpast
    · exact slotCheck_ne_zero_of_sections_overlap rfl hij hi hj
  case required =>
    intro t k s ht
    refine slotCheck_ne_zero_of_missing_type ?_
    obtain rfl | rfl | rfl | rfl := ht <;> decide

end Sys2Proof.Machine

/-! SUPPORT. What leaves Bridle's record of faults as it is: counting an event, reporting it to the log and the alarms, closing the
supervision gates (R310), and what that does to lanes and ports. One lemma per operation says that it leaves the registers below
0x200; its proof cites those of the operations it calls and names the fields it writes. -/

namespace Sys2Proof.Machine

open Sys2Proof

/-! ### The registers of the record -/

/-- What the registers below offset 0x200 hold: the part's identity and Bridle's record of faults (Table 17-4). -/
def State.faultRegs (s : State) : Field → Nat := fun f => if f.key < 0x200 * 32 then s.get f else 0

theorem State.faultRegs_ext {s t : State} (h : ∀ f : Field, f.key < 0x200 * 32 → t.get f = s.get f) :
    t.faultRegs = s.faultRegs := by
  funext f
  unfold State.faultRegs
  split
  case isTrue hf => exact h f hf
  case isFalse => rfl

theorem State.get_eq_of_faultRegs {s t : State} (h : t.faultRegs = s.faultRegs) {f : Field} (hf : f.key < 0x200 * 32) :
    t.get f = s.get f := by
  simpa only [State.faultRegs, if_pos hf] using congrFun h f

theorem State.once_eq_of_faultRegs {s t : State} (h : t.faultRegs = s.faultRegs) {f : Field} (hf : f.key < 0x200 * 32) :
    t.once f = s.once f := by
  rw [State.once, State.once, State.get_eq_of_faultRegs h hf]

/-! ### Folds over a list -/

/-- What holds at the start of a fold and is kept by its every step holds at its end. -/
theorem State.each_induction {α : Type} {P : State → Prop} {s : State} {l : List α} {g : α → State → State} (hs : P s)
    (hg : ∀ a ∈ l, ∀ t, P t → P (g a t)) : P (s.each l g) := by
  unfold State.each
  induction l generalizing s with
  | nil => exact hs
  | cons a l ih =>
    rw [List.forall_mem_cons] at hg
    obtain ⟨ha, hl⟩ := hg
    exact ih (ha s hs) hl

/-! ### Counting an event changes the performance counters alone -/

/-- Nothing differs but the registers of the PMU (Table 17-1), the Streamer's part of the state, which holds the pre-counters, and
the count of free values. -/
structure CountedOnly (s t : State) : Prop where
  regs : ∀ f : Field, f.key < 0x60000 * 32 ∨ 0x70000 * 32 ≤ f.key → t.get f = s.get f
  rest : { t with regs := s.regs, str := s.str, fresh := s.fresh } = s

theorem CountedOnly.refl (s : State) : CountedOnly s s := ⟨fun _ _ => rfl, rfl⟩

theorem CountedOnly.trans {s t u : State} (h : CountedOnly s t) (k : CountedOnly t u) : CountedOnly s u where
  regs f hf := (k.regs f hf).trans (h.regs f hf)
  rest := by
    have hk := congrArg (fun v : State => { v with regs := s.regs, str := s.str, fresh := s.fresh }) k.rest
    exact hk.trans h.rest

theorem CountedOnly.brd {s t : State} (h : CountedOnly s t) : t.brd = s.brd := (congrArg State.brd h.rest :)

theorem CountedOnly.faultRegs {s t : State} (h : CountedOnly s t) : t.faultRegs = s.faultRegs :=
  State.faultRegs_ext fun f hf => h.regs f (by omega)

/-- Which registers are absent depends on the variant, the stack role and the ports that are defined, and on nothing the PMU writes. -/
theorem CountedOnly.absent {s t : State} (h : CountedOnly s t) (a : Nat) : t.absent a = s.absent a := by
  have hvariant : t.variant = s.variant := (congrArg State.variant h.rest :)
  have hport : t.port = s.port := (congrArg State.port h.rest :)
  have hrole : t.get TTH.STATUS_ROLE = s.get TTH.STATUS_ROLE := h.regs _ (by decide)
  simp only [State.absent, State.flag, State.pt, hvariant, hrole, hport]

theorem CountedOnly.set {s t : State} (h : CountedOnly s t) {f : Field} (v : Nat) (hlo : 0x60000 * 32 ≤ f.key)
    (hhi : f.key < 0x70000 * 32) : CountedOnly s (t.set f v) :=
  h.trans ⟨fun g hg => State.get_set_ne t f g v (by omega), rfl⟩

theorem countedOnly_inc (s : State) {f : Field} (hlo : 0x60000 * 32 ≤ f.key) (hhi : f.key < 0x70000 * 32) :
    CountedOnly s (s.inc f) := by
  unfold State.inc
  split <;> exact (CountedOnly.refl s).set _ hlo hhi

theorem countedOnly_setPmc (s : State) {i : Nat} (v : Nat) (hi : i < 8) : CountedOnly s (s.setPmc i v) := by
  refine ((CountedOnly.refl s).set _ ?_ ?_).set _ ?_ ?_ <;> simp only [Field.key, PMU.PMC_COUNT_COUNT] <;> omega

theorem countedOnly_pmcSample (s : State) {i : Nat} (g pos : Nat) (x : Option SprSample) (hi : i < 8) :
    CountedOnly s (s.pmcSample i g pos x) := by
  unfold State.pmcSample
  split
  · split
    · exact countedOnly_inc s (by decide) (by decide)
    · have he : s.get PMU.SAMP_IDX_WR % 64 < 64 := Nat.mod_lt _ (by decide)
      dsimp only
      generalize s.get PMU.SAMP_IDX_WR % 64 = e at he
      refine ((((((CountedOnly.refl s).set _ ?_ ?_).set _ ?_ ?_).set _ ?_ ?_).set _ ?_ ?_).set _ ?_ ?_).set _ ?_ ?_ <;>
        simp only [Field.key, PMU.SAMP0_INSN, PMU.SAMP1_PC, PMU.SAMP1_LAT, PMU.SAMP1_CTR, PMU.SAMP2_CYCLE, PMU.SAMP_IDX_WR] <;> omega
  · refine (CountedOnly.refl s).set _ ?_ ?_ <;> simp only [Field.key, PMU.PMC_SKID_SKID] <;> omega

theorem countedOnly_pmcWrapOne (s : State) {i : Nat} (g pos : Nat) (x : Option SprSample) (hi : i < 8) :
    CountedOnly s (s.pmcWrapOne i g pos x) := by
  have hovf : CountedOnly s (s.setBit PMU.STATUS_OVF i true) := (CountedOnly.refl s).set _ (by decide) (by decide)
  unfold State.pmcWrapOne
  dsimp only
  split
  · exact hovf.trans (countedOnly_pmcSample _ g pos x hi)
  · exact hovf

theorem countedOnly_pmcAdd (s : State) {i : Nat} (k pos : Nat) (x : Option SprSample) (hi : i < 8) :
    CountedOnly s (s.pmcAdd i k pos x) := by
  have hadd := countedOnly_setPmc s ((s.pmcCount i + k) % 2 ^ 48) hi
  have hwrap := hadd.trans (countedOnly_pmcWrapOne _ (s.get (PMU.PMC_EVENT i) / 64) pos x hi)
  unfold State.pmcAdd
  dsimp only
  split
  · exact hadd
  · split
    case isTrue hchain =>
      have hnext : i + 1 < 8 := by
        simp only [Bool.and_eq_true, decide_eq_true_eq] at hchain
        omega
      split
      · exact hwrap.trans (countedOnly_setPmc _ _ hnext)
      · exact (hwrap.trans (countedOnly_setPmc _ _ hnext)).trans (countedOnly_pmcWrapOne _ _ pos x hnext)
    case isFalse => exact hwrap

theorem countedOnly_countEvent (s : State) (ev inst k : Nat) (x : Option SprSample) : CountedOnly s (s.countEvent ev inst k x) := by
  refine State.each_induction (CountedOnly.refl s) fun i hi t ht => ?_
  split
  · split
    · exact ht.trans ⟨fun _ _ => rfl, rfl⟩
    · exact (ht.trans (countedOnly_pmcAdd t k _ x (List.mem_range.1 hi))).trans ⟨fun _ _ => rfl, rfl⟩
  · exact ht

@[simp] theorem State.faultRegs_countEvent (s : State) (ev inst k : Nat) (x : Option SprSample) :
    (s.countEvent ev inst k x).faultRegs = s.faultRegs := (countedOnly_countEvent s ev inst k x).faultRegs

@[simp] theorem State.countEvent_brd (s : State) (ev inst k : Nat) (x : Option SprSample) : (s.countEvent ev inst k x).brd = s.brd :=
  (countedOnly_countEvent s ev inst k x).brd

@[simp] theorem State.countEvent_absent (s : State) (ev inst k : Nat) (x : Option SprSample) (a : Nat) :
    (s.countEvent ev inst k x).absent a = s.absent a := (countedOnly_countEvent s ev inst k x).absent a

/-! ### Register writes and record updates -/

@[simp] theorem State.faultRegs_mk (s : State) {a0} {a1} {a3} {a4} {a5} {a6} {a7} {a8} {a9} {a10} {a11} {a12} {a13} {a14} {a15} {a16} {a17}
    {a18} {a19} {a20} {a21} {a22} {a23} {a24} {a25} {a26} {a27} {a28} {a29} {a30} :
    (State.mk a0 a1 s.regs a3 a4 a5 a6 a7 a8 a9 a10 a11 a12 a13 a14 a15 a16 a17 a18 a19 a20 a21 a22 a23 a24 a25 a26 a27
      a28 a29 a30).faultRegs = s.faultRegs := rfl

@[simp] theorem State.faultRegs_set (s : State) {f : Field} (v : Nat) (h : 0x200 ≤ f.addr) :
    (s.set f v).faultRegs = s.faultRegs := by
  refine State.faultRegs_ext fun g hg => State.get_set_ne s f g v ?_
  unfold Field.key at hg ⊢
  omega

@[simp] theorem State.faultRegs_ite (c : Prop) [Decidable c] (s t : State) :
    (if c then s else t).faultRegs = if c then s.faultRegs else t.faultRegs := apply_ite State.faultRegs c s t

/-- The branches of a choice can be looked at one by one. -/
theorem State.faultRegs_of_ite {c : Prop} [Decidable c] {s t u : State} (hs : s.faultRegs = u.faultRegs)
    (ht : t.faultRegs = u.faultRegs) : (if c then s else t).faultRegs = u.faultRegs := by
  rw [State.faultRegs_ite, hs, ht, ite_self]

@[simp] theorem State.faultRegs_dite (c : Prop) [Decidable c] (s : c → State) (t : ¬c → State) :
    (if h : c then s h else t h).faultRegs = if h : c then (s h).faultRegs else (t h).faultRegs :=
  apply_dite State.faultRegs c s t

@[simp] theorem State.faultRegs_each {α : Type} (s : State) (l : List α) (g : α → State → State)
    (hg : ∀ a t, (g a t).faultRegs = t.faultRegs) : (s.each l g).faultRegs = s.faultRegs :=
  State.each_induction (P := fun t => t.faultRegs = s.faultRegs) rfl fun a _ t ht => (hg a t).trans ht

/-! ### One lemma per operation, in the order of their definitions -/

/-! #### Registers, the log, the trace and the alarms -/

@[simp] theorem State.faultRegs_inc (s : State) (f : Field) (hf : 0x200 ≤ f.addr) :
    (s.inc f).faultRegs = s.faultRegs := by simp [State.inc, hf]

@[simp] theorem State.faultRegs_on (s : State) (f : Field) (hf : 0x200 ≤ f.addr) :
    (s.on f).faultRegs = s.faultRegs := by simp [State.on, hf]

@[simp] theorem State.faultRegs_off (s : State) (f : Field) (hf : 0x200 ≤ f.addr) :
    (s.off f).faultRegs = s.faultRegs := by simp [State.off, hf]

@[simp] theorem State.faultRegs_setB (s : State) (f : Field) (b : Bool) (hf : 0x200 ≤ f.addr) :
    (s.setB f b).faultRegs = s.faultRegs := by simp [State.setB, hf]

@[simp] theorem State.faultRegs_setBit (s : State) (f : Field) (k : Nat) (b : Bool) (hf : 0x200 ≤ f.addr) :
    (s.setBit f k b).faultRegs = s.faultRegs := by simp [State.setBit, hf]

@[simp] theorem State.faultRegs_seti (s : State) (f : Field) (x : Int) (hf : 0x200 ≤ f.addr) :
    (s.seti f x).faultRegs = s.faultRegs := by simp [State.seti, hf]

@[simp] theorem State.faultRegs_drew (s : State) : s.drew.faultRegs = s.faultRegs := by rfl

@[simp] theorem State.faultRegs_setIf (s : State) (c : Bool) (f : Field) (v : Nat) (hf : 0x200 ≤ f.addr) :
    (s.setIf c f v).faultRegs = s.faultRegs := by simp [State.setIf, hf]

@[simp] theorem State.faultRegs_stamp (s : State) (lo hi : Field) (hlo : 0x200 ≤ lo.addr) (hhi : 0x200 ≤ hi.addr) :
    (s.stamp lo hi).faultRegs = s.faultRegs := by simp [State.stamp, hlo, hhi]

@[simp] theorem State.faultRegs_memCount (s : State) (a ev k : Nat) :
    (s.memCount a ev k).faultRegs = s.faultRegs := by simp [State.memCount]

@[simp] theorem State.faultRegs_flushEntry (s : State) (e : MergeEntry) :
    (s.flushEntry e).faultRegs = s.faultRegs := by
  unfold State.flushEntry
  have hcounts (t : State) : (((t.memCount e.addr 1 1).countEvent 0x142 0 1).faultRegs) = t.faultRegs :=
    (faultRegs_countEvent ..).trans (faultRegs_memCount ..)
  exact faultRegs_of_ite (hcounts _) ((faultRegs_memCount ..).trans (hcounts _))

@[simp] theorem State.faultRegs_settle (s : State) (a n : Nat) : (s.settle a n).faultRegs = s.faultRegs := by
  unfold State.settle
  exact faultRegs_each _ _ _ fun x t => faultRegs_flushEntry t x

@[simp] theorem State.faultRegs_memPutBytes (s : State) (a : Nat) (bs : List Nat) :
    (s.memPutBytes a bs).faultRegs = s.faultRegs := by simp [State.memPutBytes]

@[simp] theorem State.faultRegs_ringPut (s : State) (g : Nat) (ws : List Nat) :
    (s.ringPut g ws).faultRegs = s.faultRegs := by
  simp [State.ringPut, STR.RING_WR_WR, Nat.le_add_right_of_le]

@[simp] theorem State.faultRegs_logPut (s : State) (src inst ev d0 d1 d2 d3 : Nat) :
    (s.logPut src inst ev d0 d1 d2 d3).faultRegs = s.faultRegs := by simp [State.logPut]

@[simp] theorem State.faultRegs_logRecord (s : State) (src inst ev d0 d1 d2 d3 : Nat) :
    (s.logRecord src inst ev d0 d1 d2 d3).faultRegs = s.faultRegs := by
  have htokens : 0x200 ≤ (STR.SRC1_TOKENS src).addr := Nat.le_add_right_of_le (by decide)
  have hthrottled : 0x200 ≤ (STR.SRC0_THROTTLED src).addr := Nat.le_add_right_of_le (by decide)
  have hring : 0x200 ≤ (STR.RING_CNT_RING_DROP 0).addr := by decide
  have hcount := faultRegs_inc s (STR.SRC1_DROP_CNT src) (Nat.le_add_right_of_le (by decide))
  have hmark := (faultRegs_on _ _ hthrottled).trans hcount
  unfold State.logRecord
  exact faultRegs_of_ite ((faultRegs_inc _ _ hring).trans (faultRegs_of_ite hcount rfl)) <|
    faultRegs_of_ite (faultRegs_logPut ..) <| faultRegs_of_ite hcount <|
    faultRegs_of_ite ((faultRegs_logPut ..).trans (faultRegs_set _ _ htokens)) <| faultRegs_of_ite hcount <|
    faultRegs_of_ite ((faultRegs_inc _ _ hring).trans hmark) ((faultRegs_logPut ..).trans hmark)

@[simp] theorem State.faultRegs_traceLose (s : State) :
    s.traceLose.faultRegs = s.faultRegs := by
  unfold State.traceLose
  exact faultRegs_inc s (STR.RING_CNT_RING_DROP 1) (by decide)

@[simp] theorem State.faultRegs_traceRecord (s : State) (src inst ev d : Nat) :
    (s.traceRecord src inst ev d).faultRegs = s.faultRegs := by
  unfold State.traceRecord
  exact faultRegs_of_ite rfl <| faultRegs_of_ite (faultRegs_traceLose s) <| faultRegs_of_ite (faultRegs_ringPut s 1 _) <|
    faultRegs_of_ite (faultRegs_traceLose s) <|
    (faultRegs_ringPut _ 1 _).trans <| (faultRegs_inc _ (STR.RING_CNT_GAP_CNT 1) (by decide)).trans (faultRegs_ringPut s 1 _)

@[simp] theorem State.faultRegs_almForward (s : State) (m : AlmMsg) :
    (s.almForward m).faultRegs = s.faultRegs := by simp [State.almForward]

@[simp] theorem State.faultRegs_almEnter (s : State) (stack id inst code : Nat) (active : Bool) :
    (s.almEnter stack id inst code active).faultRegs = s.faultRegs := by
  have hrow {b : Nat} (hb : 0x200 ≤ b) : 0x200 ≤ b + 0x20 * s.almEntry stack id inst := Nat.le_add_right_of_le hb
  have hid := hrow (b := 0x51000) (by decide)
  have hcode := hrow (b := 0x51004) (by decide)
  have hfirst := hrow (b := 0x51008) (by decide)
  have hlast := hrow (b := 0x51010) (by decide)
  unfold State.almEnter
  extract_lets e known full t u v w
  have ht : t.faultRegs = s.faultRegs := faultRegs_of_ite (faultRegs_inc _ _ hcode) <|
    (faultRegs_stamp _ _ _ (Nat.le_add_right_of_le hfirst) (Nat.le_add_right_of_le hfirst)).trans (faultRegs_set _ _ hcode)
  have hu : u.faultRegs = t.faultRegs := (faultRegs_set _ _ hcode).trans <| (faultRegs_set _ _ hid).trans <|
    (faultRegs_set _ _ hid).trans <| (faultRegs_set _ _ hid).trans (faultRegs_set _ _ hid)
  have hv : v.faultRegs = u.faultRegs := (faultRegs_setB _ _ _ hid).trans <| (faultRegs_on _ _ hid).trans <|
    faultRegs_stamp _ _ _ (Nat.le_add_right_of_le hlast) (Nat.le_add_right_of_le hlast)
  have hw : w.faultRegs = v.faultRegs := faultRegs_of_ite rfl (faultRegs_on _ _ (by decide))
  have hws := hw.trans (hv.trans (hu.trans ht))
  exact faultRegs_of_ite ((faultRegs_on _ _ (by decide)).trans hws) hws

@[simp] theorem State.faultRegs_alarmFrom (s : State) (stack id inst code : Nat) (active : Bool) :
    (s.alarmFrom stack id inst code active).faultRegs = s.faultRegs := by simp [State.alarmFrom]

@[simp] theorem State.faultRegs_alarm (s : State) (id inst code : Nat) :
    (s.alarm id inst code).faultRegs = s.faultRegs := by simp [State.alarm]

@[simp] theorem State.faultRegs_almFree (s : State) (e : Nat) :
    (s.almFree e).faultRegs = s.faultRegs := by simp [State.almFree, STR.ALM0_ID, Nat.le_add_right_of_le]

@[simp] theorem State.faultRegs_alarmEndFrom (s : State) (stack id inst : Nat) :
    (s.alarmEndFrom stack id inst).faultRegs = s.faultRegs := by
  unfold State.alarmEndFrom
  refine State.faultRegs_each _ _ _ fun e t => ?_
  simp [STR.ALM0_ACTIVE, Nat.le_add_right_of_le]

@[simp] theorem State.faultRegs_alarmEnd (s : State) (id inst : Nat) :
    (s.alarmEnd id inst).faultRegs = s.faultRegs := by simp [State.alarmEnd]

@[simp] theorem State.faultRegs_setLn (s : State) (n : Lane) (l : LineSt) : (s.setLn n l).faultRegs = s.faultRegs := by rfl

@[simp] theorem State.faultRegs_setRx (s : State) (n : Lane) (f : RxSt → RxSt) : (s.setRx n f).faultRegs = s.faultRegs := by rfl

@[simp] theorem State.faultRegs_setEq (s : State) (n : Lane) (f : EqSt → EqSt) : (s.setEq n f).faultRegs = s.faultRegs := by rfl

@[simp] theorem State.faultRegs_setLoc (s : State) (n : Lane) (f : LocSt → LocSt) :
    (s.setLoc n f).faultRegs = s.faultRegs := by rfl

@[simp] theorem State.faultRegs_setTx (s : State) (n : Lane) (f : TxSt → TxSt) : (s.setTx n f).faultRegs = s.faultRegs := by rfl

@[simp] theorem State.faultRegs_setCal (s : State) (n : Lane) (f : CalSt → CalSt) :
    (s.setCal n f).faultRegs = s.faultRegs := by rfl

@[simp] theorem State.faultRegs_setHl (s : State) (j : Host) (f : HostSt → HostSt) :
    (s.setHl j f).faultRegs = s.faultRegs := by rfl

@[simp] theorem State.faultRegs_setPt (s : State) (k : PortId) (f : PortSt → PortSt) :
    (s.setPt k f).faultRegs = s.faultRegs := by rfl

@[simp] theorem State.faultRegs_setKp4 (s : State) (j : Host) (d : Nat) (f : Kp4St → Kp4St) :
    (s.setKp4 j d f).faultRegs = s.faultRegs := by rfl

/-! #### Memory -/

@[simp] theorem State.faultRegs_bucketUp (s : State) (b : Nat) :
    (s.bucketUp b).faultRegs = s.faultRegs := by
  have hset := faultRegs_set s (f := MEM.BANK_BUCKET b) (min 0xFF (s.get (MEM.BANK_BUCKET b) + 1)) (Nat.le_add_right_of_le (by decide))
  unfold State.bucketUp
  exact faultRegs_of_ite ((faultRegs_alarm ..).trans <| (faultRegs_on _ _ (by decide)).trans hset) hset

@[simp] theorem State.faultRegs_lastingFault (s : State) (w : Nat) :
    (s.lastingFault w).faultRegs = s.faultRegs := by
  have hspares : 0x200 ≤ (MEM.BANK_SPARES_USED (memBank w)).addr := Nat.le_add_right_of_le (by decide)
  have hlisted (i : Nat) : 0x200 ≤ (MEM.UNMAP_ADDR i).addr := Nat.le_add_right_of_le (by decide)
  unfold State.lastingFault
  refine faultRegs_of_ite ((faultRegs_logRecord ..).trans <| (faultRegs_on _ _ (by decide)).trans <|
    (faultRegs_inc _ _ (by decide)).trans (faultRegs_set _ _ hspares)) ?_
  refine (faultRegs_alarm ..).trans <| (faultRegs_on _ _ (by decide)).trans <| (faultRegs_inc _ _ (by decide)).trans <|
    faultRegs_of_ite rfl ?_
  split
  · exact (faultRegs_set _ _ (hlisted _)).trans (faultRegs_on _ _ (hlisted _))
  · rfl

@[simp] theorem State.faultRegs_classify (s : State) (w : Nat) :
    (s.classify w).faultRegs = s.faultRegs := by
  unfold State.classify
  dsimp only
  match s.mem.history.find? _ with
  | some _ => exact faultRegs_of_ite (faultRegs_lastingFault _ w) rfl
  | none => rfl

@[simp] theorem State.faultRegs_memCorrect (s : State) (w : Nat) :
    (s.memCorrect w).faultRegs = s.faultRegs := by
  simp [State.memCorrect, MEM.CNT0_CE_CNT, MEM.CE_ADDR_ADDR, MEM.STATUS_CE, MEM.BANK_CE_BANK_CNT, Nat.le_add_right_of_le]

@[simp] theorem State.faultRegs_memPoison (s : State) (i w : Nat) :
    (s.memPoison i w).faultRegs = s.faultRegs := by
  simp [State.memPoison, MEM.CNT0_UE_CNT, MEM.UE_ADDR_ADDR, MEM.UE_INFO_INITIATOR, MEM.STATUS_UE]

@[simp] theorem State.faultRegs_memCheck (s : State) (i w : Nat) (e : SprEcc) :
    (s.memCheck i w e).faultRegs = s.faultRegs := by simp [State.memCheck]

@[simp] theorem State.faultRegs_flushRead (s : State) (w : Nat) (e : SprEcc) :
    (s.flushRead w e).faultRegs = s.faultRegs := by simp [State.flushRead]

@[simp] theorem State.faultRegs_flushOut (s : State) (w : Nat) (e : SprEcc) :
    (s.flushOut w e).faultRegs = s.faultRegs := by simp [State.flushOut]

@[simp] theorem State.faultRegs_readHit (s : State) (w : Nat) : (s.readHit w).faultRegs = s.faultRegs := by simp [State.readHit]

@[simp] theorem State.faultRegs_sweep (s : State) (i : Nat) (p : Nat → Bool) :
    (s.sweep i p).faultRegs = s.faultRegs := by simp [State.sweep]

/-! #### Transmit PLLs and the receive front end -/

@[simp] theorem State.faultRegs_setPll (s : State) (p : Pll) (r : PllRef) :
    (s.setPll p r).faultRegs = s.faultRegs := by
  unfold State.setPll
  split <;> simp

@[simp] theorem State.faultRegs_showPll (s : State) (p : Pll) :
    (s.showPll p).faultRegs = s.faultRegs := by
  unfold State.showPll
  split
  · simp [LN.GBX_STATUS_HOLDOVER]
  · split <;> simp [LN.GBX_STATUS_HOLDOVER]

@[simp] theorem State.faultRegs_holdoverEnd (s : State) (n : Lane) :
    (s.holdoverEnd n).faultRegs = s.faultRegs := by simp [State.holdoverEnd]

@[simp] theorem State.faultRegs_pllLose (s : State) (p : Pll) :
    (s.pllLose p).faultRegs = s.faultRegs := by
  unfold State.pllLose
  split
  · split <;> simp
  · simp

@[simp] theorem State.faultRegs_pllMove (s : State) (p : Pll) (r : PllRef) :
    (s.pllMove p r).faultRegs = s.faultRegs := by
  unfold State.pllMove
  split <;> simp

@[simp] theorem State.faultRegs_pllStop (s : State) (p : Pll) :
    (s.pllStop p).faultRegs = s.faultRegs := by
  unfold State.pllStop
  dsimp only
  split
  · simp [LN.GBX_STATUS_HOLDOVER]
  · split <;> simp [LN.GBX_STATUS_HOLDOVER]

@[simp] theorem State.faultRegs_laneOn (s : State) (n : Lane) : (s.laneOn n).faultRegs = s.faultRegs := by simp [State.laneOn]

@[simp] theorem State.faultRegs_pllHostLost (s : State) (j : Host) :
    (s.pllHostLost j).faultRegs = s.faultRegs := by
  unfold State.pllHostLost
  split <;> simp

@[simp] theorem State.faultRegs_handMark (s : State) (n : Lane) :
    (s.handMark n).faultRegs = s.faultRegs := by
  unfold State.handMark
  split <;> simp [LN.AGC_STATUS_GAIN, LN.AGC_STATUS_COMP_ACTIVE, Nat.le_add_right_of_le]

@[simp] theorem State.faultRegs_tapStop (s : State) (n : Lane) :
    (s.tapStop n).faultRegs = s.faultRegs := by
  simp [State.tapStop, LN.KTAP_AVG_VALID, Nat.le_add_right_of_le]

/-! #### Kite lanes -/

@[simp] theorem State.faultRegs_setKl (s : State) (n : Lane) (f : KiteSt → KiteSt) :
    (s.setKl n f).faultRegs = s.faultRegs := by rfl

@[simp] theorem State.faultRegs_kiteSent (s : State) (n : Lane) (ws : List Int) :
    (s.kiteSent n ws).faultRegs = s.faultRegs := by
  simp [State.kiteSent, KL.STATUS_MASK_CLIP, BDA.CHSTATUS_INJ_CLIP, Nat.le_add_right_of_le]

@[simp] theorem State.faultRegs_kitePass (s : State) (n : Lane) :
    (s.kitePass n).faultRegs = s.faultRegs := by
  unfold State.kitePass
  split <;> simp

@[simp] theorem State.faultRegs_kiteStop (s : State) (n : Lane) (t : KiteTx) (whole : Bool) :
    (s.kiteStop n t whole).faultRegs = s.faultRegs := by simp [State.kiteStop]

@[simp] theorem State.faultRegs_kiteCmdOff (s : State) (n : Lane) (t : KiteTx) :
    (s.kiteCmdOff n t).faultRegs = s.faultRegs := by
  unfold State.kiteCmdOff
  split <;> simp [KL.CMD_WAKE_SEND, KL.CMD_SEND, Nat.le_add_right_of_le]

@[simp] theorem State.faultRegs_kiteIdle (s : State) (n : Lane) (t : KiteTx) :
    (s.kiteIdle n t).faultRegs = s.faultRegs := by
  simp [State.kiteIdle, KL.STATUS_TX_BUSY, Nat.le_add_right_of_le]

@[simp] theorem State.faultRegs_kiteAbort (s : State) (n : Lane) :
    (s.kiteAbort n).faultRegs = s.faultRegs := by
  unfold State.kiteAbort
  split <;> simp [KL.STATUS_TX_ABORT, KL.CNT2_TX_ABORT_CNT, Nat.le_add_right_of_le]

@[simp] theorem State.faultRegs_kiteDacGone (s : State) (n : Lane) :
    (s.kiteDacGone n).faultRegs = s.faultRegs := by simp [State.kiteDacGone]

@[simp] theorem State.faultRegs_kiteInjGone (s : State) (n : Lane) :
    (s.kiteInjGone n).faultRegs = s.faultRegs := by simp [State.kiteInjGone]

@[simp] theorem State.faultRegs_kiteRxOff (s : State) (n : Lane) :
    (s.kiteRxOff n).faultRegs = s.faultRegs := by
  simp [State.kiteRxOff, KL.STATUS_RX_LOCK, Nat.le_add_right_of_le]

@[simp] theorem State.faultRegs_kiteOff (s : State) (n : Lane) : (s.kiteOff n).faultRegs = s.faultRegs := by simp [State.kiteOff]

/-! #### The equaliser -/

theorem le_coefField_addr (n : Lane) (c : Nat) : 0x200 ≤ (coefField n c).addr := by
  unfold coefField
  repeat' split
  all_goals simp [EQC.FFE_C, EQC.VOLT_W, EQC.T1_H1, EQC.T2_H2, Nat.add_assoc, Nat.le_add_right_of_le]

@[simp] theorem State.faultRegs_coefSet (s : State) (n : Lane) (c : Nat) (x : Int) :
    (s.coefSet n c x).faultRegs = s.faultRegs := by
  simp [State.coefSet, LN.EQ_EVENTS_COEF_LIMIT, Nat.le_add_right_of_le, le_coefField_addr]

@[simp] theorem State.faultRegs_modeNow (s : State) (n : Lane) :
    (s.modeNow n).faultRegs = s.faultRegs := by
  simp [State.modeNow, LN.EQ_STATUS_EFF_PASSES, LN.EQ_STATUS_EFF_16, LN.EQ_STATUS_EFF_VOLT, Nat.le_add_right_of_le]

@[simp] theorem State.faultRegs_eqStop (s : State) (n : Lane) :
    (s.eqStop n).faultRegs = s.faultRegs := by
  simp [State.eqStop, LN.EQ_STATUS_BOOST_ACTIVE, Nat.le_add_right_of_le]

/-! #### Framing and the line overhead channel -/

@[simp] theorem State.faultRegs_amDrop (s : State) (j : Host) (d : Nat) :
    (s.amDrop j d).faultRegs = s.faultRegs := by
  simp [State.amDrop, LST.KP4_STATUS_AM_LOCK, Nat.add_assoc, Nat.le_add_right_of_le]

@[simp] theorem State.faultRegs_amLose (s : State) (j : Host) (d : Nat) :
    (s.amLose j d).faultRegs = s.faultRegs := by
  simp [State.amLose, LST.KP4_STATUS_AM_LOCK, LST.KP4_STATUS_AM_LOSS, Nat.add_assoc, Nat.le_add_right_of_le]

@[simp] theorem State.faultRegs_unlock (s : State) (n : Lane) :
    (s.unlock n).faultRegs = s.faultRegs := by
  simp [State.unlock, LN.FRM_STATUS_FRAME_LOCK, LN.FRM_STATUS_SF_LOCK, LN.FRM_STATUS_DEC_CLEAN]

@[simp] theorem State.faultRegs_lineClockLost (s : State) (n : Lane) :
    (s.lineClockLost n).faultRegs = s.faultRegs := by simp [State.lineClockLost]

@[simp] theorem State.faultRegs_locTagged (s : State) (n : Lane) (type : Nat) (body : List Nat) :
    (s.locTagged n type body).faultRegs = s.faultRegs := by simp [State.locTagged, LN.LOC_STATUS_TXQ_FULL]

@[simp] theorem State.faultRegs_helloSend (s : State) (n : Lane) :
    (s.helloSend n).faultRegs = s.faultRegs := by simp [State.helloSend, LN.LOC_STATUS_TXQ_FULL]

/-! #### The line transmitter -/

@[simp] theorem State.faultRegs_bankReplace (s : State) (n : Lane) :
    (s.bankReplace n).faultRegs = s.faultRegs := by
  unfold State.bankReplace
  iterate 3 rw [State.faultRegs_each _ _ _ fun i u => ?_]
  all_goals simp [TXT.FIRA_C_ACT, TXT.PDA_E_ACT, TXT.SKA_SK_ACT, Nat.add_assoc, Nat.le_add_right_of_le]

@[simp] theorem State.faultRegs_swapEnd (s : State) (n : Lane) :
    (s.swapEnd n).faultRegs = s.faultRegs := by
  simp [State.swapEnd, LN.TX_STATUS_SWAP_PEND, LN.TX_STATUS_SLEWING, LN.TX_CMD_SWAP]

@[simp] theorem State.faultRegs_swapReplace (s : State) (n : Lane) :
    (s.swapReplace n).faultRegs = s.faultRegs := by simp [State.swapReplace]

@[simp] theorem State.faultRegs_dacEnd (s : State) (n : Lane) :
    (s.dacEnd n).faultRegs = s.faultRegs := by
  simp [State.dacEnd, LN.TX_STATUS_DACCAL_BUSY, LN.TX_DACCAL_COUNTDOWN]

@[simp] theorem State.faultRegs_dacCancel (s : State) (n : Lane) :
    (s.dacCancel n).faultRegs = s.faultRegs := by
  unfold State.dacCancel
  split <;> simp [LN.TX_STATUS_DACCAL_CANCEL]

@[simp] theorem State.faultRegs_demandEval (s : State) (n : Lane) :
    (s.demandEval n).faultRegs = s.faultRegs := by simp [State.demandEval, LN.TX_STATUS_AMP_STATE]

@[simp] theorem State.faultRegs_seqDemand (s : State) (n : Lane) (b : Bool) :
    (s.seqDemand n b).faultRegs = s.faultRegs := by simp [State.seqDemand]

@[simp] theorem State.faultRegs_refTake (s : State) (n : Lane) : (s.refTake n).faultRegs = s.faultRegs := by rfl

/-! #### Calibration -/

theorem le_sliceField_addr (n : Lane) (i q : Nat) : 0x200 ≤ (sliceField n i q).addr := by
  unfold sliceField
  split <;> simp [SLC.W1_GAIN, SLC.W2_OFFSET, SLC.W3_SKEW, SLC.W4_BW, Nat.add_assoc, Nat.le_add_right_of_le]

@[simp] theorem State.faultRegs_accRestart (s : State) (n : Lane) (i : Nat) : (s.accRestart n i).faultRegs = s.faultRegs := by rfl

@[simp] theorem State.faultRegs_showLadder (s : State) (n : Lane) :
    (s.showLadder n).faultRegs = s.faultRegs := by
  simp [State.showLadder, CAL.LANE_STATUS_SKEW_STEP, Nat.le_add_right_of_le]

@[simp] theorem State.faultRegs_sliceTo (s : State) (n : Lane) (i st pos : Nat) :
    (s.sliceTo n i st pos).faultRegs = s.faultRegs := by
  simp [State.sliceTo, SLC.W0_STATE, SLC.W0_POSITION, SLC.W0_POS_VALID, Nat.add_assoc, Nat.le_add_right_of_le]

@[simp] theorem State.faultRegs_slicesAll (s : State) (n : Lane) (st : Nat) :
    (s.slicesAll n st).faultRegs = s.faultRegs := by simp [State.slicesAll]

@[simp] theorem State.faultRegs_ladderReset (s : State) (n : Lane) :
    (s.ladderReset n).faultRegs = s.faultRegs := by
  simp [State.ladderReset, CAL.LANE_STATUS_SKEW_STEP, Nat.le_add_right_of_le]

@[simp] theorem State.faultRegs_setRead (s : State) (n : Lane) : (s.setRead n).faultRegs = s.faultRegs := by simp [State.setRead]

@[simp] theorem State.faultRegs_slotDrop (s : State) (n : Lane) :
    (s.slotDrop n).faultRegs = s.faultRegs := by
  have hoff := faultRegs_off s (CAL.LANE_STATUS_SLOT_ACTIVE n) (Nat.le_add_right_of_le (by decide))
  unfold State.slotDrop
  dsimp only
  split
  · rfl
  · exact hoff
  · exact (faultRegs_sliceTo ..).trans hoff
  · refine faultRegs_of_ite ((faultRegs_sliceTo ..).trans hoff) ?_
    exact (faultRegs_handMark _ n).trans <| (faultRegs_sliceTo _ n 64 3 0).trans <| (faultRegs_sliceTo ..).trans hoff

@[simp] theorem State.faultRegs_slotAbandon (s : State) (n : Lane) :
    (s.slotAbandon n).faultRegs = s.faultRegs := by simp [State.slotAbandon]

@[simp] theorem State.faultRegs_loadSlices (s : State) (n : Lane) :
    (s.loadSlices n).faultRegs = s.faultRegs := by
  have hgain (j : Nat) : 0x200 ≤ (CAL.DTRIM_DGAIN n j).addr :=
    Nat.le_add_right_of_le (Nat.le_add_right_of_le (Nat.le_add_right_of_le (by decide)))
  unfold State.loadSlices
  extract_lets t u
  have hu : u.faultRegs = s.faultRegs := by
    unfold u
    match s.bracket n 1 t with
    | none => rfl
    | some _ => exact faultRegs_each _ _ _ fun i v => faultRegs_each _ _ _ fun q w => faultRegs_set _ _ (le_sliceField_addr n i q)
  match s.bracket n 2 t with
  | none => exact hu
  | some _ =>
    refine (faultRegs_each _ _ _ fun j v => ?_).trans hu
    exact (faultRegs_seti _ (CAL.DTRIM_DOFF n j) _ (hgain j)).trans (faultRegs_set v (f := CAL.DTRIM_DGAIN n j) _ (hgain j))

@[simp] theorem State.faultRegs_seedTx (s : State) (n : Lane) :
    (s.seedTx n).faultRegs = s.faultRegs := by
  have hact (i : Nat) : 0x200 ≤ (TXT.FIRA_C_ACT n i).addr := Nat.le_add_right_of_le (Nat.le_add_right_of_le (by decide))
  have hbank (b i : Nat) : 0x200 ≤ 0x100200000 + 0x10000 * n + b + 4 * i :=
    Nat.le_add_right_of_le (Nat.le_add_right_of_le (Nat.le_add_right_of_le (by decide)))
  unfold State.seedTx
  refine (faultRegs_refTake _ n).trans <| (faultRegs_each _ _ _ fun j x => ?_).trans <|
    (faultRegs_each _ _ _ fun i w => ?_).trans (faultRegs_each _ _ _ fun i v => ?_)
  · exact (faultRegs_seti _ _ _ (hbank 0x310 j)).trans (faultRegs_seti _ _ _ (hbank 0x300 j))
  · exact (faultRegs_seti _ _ _ (hbank 0x200 i)).trans (faultRegs_seti _ _ _ (hbank 0x100 i))
  · exact (faultRegs_seti _ _ _ (hbank 0x40 i)).trans (faultRegs_seti _ _ _ (hact i))

@[simp] theorem State.faultRegs_seedRx (s : State) (n : Lane) :
    (s.seedRx n).faultRegs = s.faultRegs := by
  simp [State.seedRx, LN.AGC_STATUS_GAIN, Nat.le_add_right_of_le]

@[simp] theorem State.faultRegs_startLoad (s : State) (n : Lane) :
    (s.startLoad n).faultRegs = s.faultRegs := by simp [State.startLoad]

@[simp] theorem State.faultRegs_calStart (s : State) (n : Lane) (wake : Bool) :
    (s.calStart n wake).faultRegs = s.faultRegs := by
  simp [State.calStart, CAL.LANE_STATUS_MODE, Nat.le_add_right_of_le]

@[simp] theorem State.faultRegs_calAbort (s : State) (n : Lane) :
    (s.calAbort n).faultRegs = s.faultRegs := by
  unfold State.calAbort
  split <;> simp [CAL.LANE_STATUS_MODE, Nat.le_add_right_of_le]

@[simp] theorem State.faultRegs_calLeave (s : State) (n : Lane) :
    (s.calLeave n).faultRegs = s.faultRegs := by
  unfold State.calLeave
  split <;> simp [CAL.LANE_STATUS_MODE, Nat.le_add_right_of_le]

/-! #### Host lanes -/

@[simp] theorem State.faultRegs_actSet (s : State) (j : Host) (c : List Int) :
    (s.actSet j c).faultRegs = s.faultRegs := by
  unfold State.actSet
  refine State.faultRegs_each _ _ _ fun i t => ?_
  simp [HL.TX_ACT_C, Nat.add_assoc, Nat.le_add_right_of_le]

@[simp] theorem State.faultRegs_actJump (s : State) (j : Host) (c : List Int) :
    (s.actJump j c).faultRegs = s.faultRegs := by
  simp [State.actJump, HL.TX_STATUS_SLEWING, Nat.le_add_right_of_le]

@[simp] theorem State.faultRegs_sourceNow (s : State) (j : Host) :
    (s.sourceNow j).faultRegs = s.faultRegs := by
  simp [State.sourceNow, HL.TX_STATUS_SOURCE, Nat.le_add_right_of_le]

@[simp] theorem State.faultRegs_hostHeld (s : State) (j : Host) : (s.hostHeld j).faultRegs = s.faultRegs := by rfl

@[simp] theorem State.faultRegs_ctleManual (s : State) (j : Host) :
    (s.ctleManual j).faultRegs = s.faultRegs := by
  simp [State.ctleManual, HL.RX_STATUS_CTLE_EFF, Nat.le_add_right_of_le]

@[simp] theorem State.faultRegs_ctleAdapt (s : State) (j : Host) :
    (s.ctleAdapt j).faultRegs = s.faultRegs := by
  simp [State.ctleAdapt, HL.RX_STATUS_CTLE_EFF, Nat.le_add_right_of_le]

@[simp] theorem State.faultRegs_trnTo (s : State) (j : Host) (st : Nat) :
    (s.trnTo j st).faultRegs = s.faultRegs := by
  simp [State.trnTo, HL.TRN_STATUS_STATE, HL.TRN_STATUS_LOCAL_READY, HL.TRN_STATUS_PARTNER_READY]

@[simp] theorem State.faultRegs_precodeClear (s : State) (j : Host) :
    (s.precodeClear j).faultRegs = s.faultRegs := by
  simp [State.precodeClear, HL.TRN_STATUS_PRECODE_RX, HL.TRN_STATUS_PRECODE_TX]

@[simp] theorem State.faultRegs_enterTraining (s : State) (j : Host) :
    (s.enterTraining j).faultRegs = s.faultRegs := by simp [State.enterTraining]

@[simp] theorem State.faultRegs_waitSd (s : State) (j : Host) : (s.waitSd j).faultRegs = s.faultRegs := by simp [State.waitSd]

@[simp] theorem State.faultRegs_enterWaitSd (s : State) (j : Host) :
    (s.enterWaitSd j).faultRegs = s.faultRegs := by simp [State.enterWaitSd]

@[simp] theorem State.faultRegs_enterData (s : State) (j : Host) :
    (s.enterData j).faultRegs = s.faultRegs := by simp [State.enterData]

@[simp] theorem State.faultRegs_precodeShow (s : State) (j : Host) :
    (s.precodeShow j).faultRegs = s.faultRegs := by
  simp [State.precodeShow, HL.TRN_STATUS_PRECODE_RX, HL.TRN_STATUS_PRECODE_TX]

@[simp] theorem State.faultRegs_enterStatic (s : State) (j : Host) :
    (s.enterStatic j).faultRegs = s.faultRegs := by simp [State.enterStatic]

@[simp] theorem State.faultRegs_trnStart (s : State) (j : Host) :
    (s.trnStart j).faultRegs = s.faultRegs := by simp [State.trnStart]

@[simp] theorem State.faultRegs_hostOn (s : State) (j : Host) : (s.hostOn j).faultRegs = s.faultRegs := by simp [State.hostOn]

@[simp] theorem State.faultRegs_hostDark (s : State) (j : Host) :
    (s.hostDark j).faultRegs = s.faultRegs := by
  simp [State.hostDark, HL.RX_STATUS_SD_NOW, HL.RX_STATUS_CDR_LOCK, Nat.le_add_right_of_le]

@[simp] theorem State.faultRegs_hostOff (s : State) (j : Host) : (s.hostOff j).faultRegs = s.faultRegs := by simp [State.hostOff]

/-! #### The bias DACs -/

@[simp] theorem State.faultRegs_setCh (s : State) (c : Chan) (f : BdaCh → BdaCh) :
    (s.setCh c f).faultRegs = s.faultRegs := by
  simp [State.setCh, BDA.CHSTATUS_LEVEL, Nat.le_add_right_of_le]

@[simp] theorem State.faultRegs_injPass (s : State) (c : Chan) : (s.injPass c).faultRegs = s.faultRegs := by simp [State.injPass]

@[simp] theorem State.faultRegs_setSf (s : State) (n : Lane) (f : SafLane → SafLane) :
    (s.setSf n f).faultRegs = s.faultRegs := by rfl

@[simp] theorem State.faultRegs_cmpShow (s : State) (n : Lane) :
    (s.cmpShow n).faultRegs = s.faultRegs := by simp [State.cmpShow, SAF.STATUS_CMP_NOW]

@[simp] theorem State.faultRegs_loFollow (s : State) (n : Lane) :
    (s.loFollow n).faultRegs = s.faultRegs := by
  simp [State.loFollow, SAF.INFO_ARMED_LO, Nat.le_add_right_of_le]

@[simp] theorem State.faultRegs_outFollow (s : State) (c : Chan) :
    (s.outFollow c).faultRegs = s.faultRegs := by simp [State.outFollow]

@[simp] theorem State.faultRegs_outClear (s : State) (c : Chan) :
    (s.outClear c).faultRegs = s.faultRegs := by
  simp [State.outClear, BDA.OUT_OUT, BDA.CHSTATUS_DEGLITCH, Nat.le_add_right_of_le]

@[simp] theorem State.faultRegs_injGone (s : State) (c : Chan) : (s.injGone c).faultRegs = s.faultRegs := by simp [State.injGone]

@[simp] theorem State.faultRegs_forceStart (s : State) (c : Chan) :
    (s.forceStart c).faultRegs = s.faultRegs := by simp [State.forceStart]

@[simp] theorem State.faultRegs_forcing (s : State) (f : State → State) (hf : ∀ t, (f t).faultRegs = t.faultRegs) :
    (s.forcing f).faultRegs = s.faultRegs := by simp [State.forcing, hf]

@[simp] theorem State.faultRegs_qdata (s : State) (c : Chan) (v : Nat) :
    (s.qdata c v).faultRegs = s.faultRegs := by
  simp [State.qdata, BDA.CHSTATUS_CLR_DROP, BDA.CHSTATUS_QOVF, BDA.CNT_QOVF_CNT, BDA.QDATA_CODE, Nat.le_add_right_of_le]

@[simp] theorem State.faultRegs_biasClear (s : State) (n : Lane) :
    (s.biasClear n).faultRegs = s.faultRegs := by simp [State.biasClear]

/-! #### The mailbox -/

@[simp] theorem State.faultRegs_mbxClose (s : State) (comp : Nat) :
    (s.mbxClose comp).faultRegs = s.faultRegs := by
  simp [State.mbxClose, GLB.MBX_STATUS_BUSY, GLB.MBX_STATUS_DONE, GLB.MBX_STATUS_COMP, GLB.MBX_STATUS_TAG]

@[simp] theorem State.faultRegs_mbxDone (s : State) (comp : Nat) (rsp : List Nat) :
    (s.mbxDone comp rsp).faultRegs = s.faultRegs := by
  have hrsp (k : Nat) : 0x200 ≤ (GLB.MBX_RSP_RSP k).addr := Nat.le_add_right_of_le (by decide)
  simp [State.mbxDone, hrsp]

/-! #### The Reel -/

@[simp] theorem State.faultRegs_setRl (s : State) (c : ReelId) (f : ReelCh → ReelCh) :
    (s.setRl c f).faultRegs = s.faultRegs := by rfl

@[simp] theorem State.faultRegs_reelState (s : State) (c : ReelId) (st : Nat) :
    (s.reelState c st).faultRegs = s.faultRegs := by
  simp [State.reelState, REEL.CH_STATUS_STATE, REEL.STATUS_RUNNING, REEL.STATUS_QUIESCED, Nat.le_add_right_of_le]

@[simp] theorem State.faultRegs_reelRelease (s : State) : s.reelRelease.faultRegs = s.faultRegs := by simp [State.reelRelease]

/-! #### Ports -/

@[simp] theorem State.faultRegs_onLanes (s : State) (k : PortId) (f : Lane → State → State)
    (hf : ∀ n t, (f n t).faultRegs = t.faultRegs) :
    (s.onLanes k f).faultRegs = s.faultRegs := by simp [State.onLanes, hf]

@[simp] theorem State.faultRegs_onHosts (s : State) (k : PortId) (f : Host → State → State)
    (hf : ∀ n t, (f n t).faultRegs = t.faultRegs) :
    (s.onHosts k f).faultRegs = s.faultRegs := by simp [State.onHosts, hf]

@[simp] theorem State.faultRegs_pstateTo (s : State) (k : PortId) (st : Nat) :
    (s.pstateTo k st).faultRegs = s.faultRegs := by
  simp [State.pstateTo, PORT.STATUS_STATE, EVT.PORT_CHG_PORT_CHG, Nat.le_add_right_of_le]

@[simp] theorem State.faultRegs_hsClear (s : State) (k : PortId) : (s.hsClear k).faultRegs = s.faultRegs := by simp [State.hsClear]

@[simp] theorem State.faultRegs_portQuiet (s : State) (k : PortId) :
    (s.portQuiet k).faultRegs = s.faultRegs := by
  simp [State.portQuiet, PORT.STATUS_LOSHOLD_RUN, Nat.le_add_right_of_le]

@[simp] theorem State.faultRegs_leaveTraffic (s : State) (k : PortId) :
    (s.leaveTraffic k).faultRegs = s.faultRegs := by simp [State.leaveTraffic, LN.TX_STATUS_SLEWING]

@[simp] theorem State.faultRegs_rxStop (s : State) (n : Lane) :
    (s.rxStop n).faultRegs = s.faultRegs := by
  simp [State.rxStop, LN.RX_STATUS_DCR_BUSY, LN.AGC_STATUS_COMP_ACTIVE, Nat.le_add_right_of_le]

@[simp] theorem State.faultRegs_laneOff (s : State) (n : Lane) :
    (s.laneOff n).faultRegs = s.faultRegs := by
  simp [State.laneOff, LN.RX_STATUS_LOS_NOW, Nat.le_add_right_of_le]

@[simp] theorem State.faultRegs_laneDown (s : State) (n : Lane) :
    (s.laneDown n).faultRegs = s.faultRegs := by simp [State.laneDown]

@[simp] theorem State.faultRegs_setPwr (s : State) (f : PwrSt → PwrSt) : (s.setPwr f).faultRegs = s.faultRegs := by rfl

@[simp] theorem State.faultRegs_sleepTell (s : State) (k : SleepKind) (comp : Nat) :
    (s.sleepTell k comp).faultRegs = s.faultRegs := by simp [State.sleepTell]

@[simp] theorem State.faultRegs_dropSleep (s : State) (k : SleepKind) : (s.dropSleep k).faultRegs = s.faultRegs := by rfl

@[simp] theorem State.faultRegs_napGone (s : State) (k : PortId) : (s.napGone k).faultRegs = s.faultRegs := by simp [State.napGone]

@[simp] theorem State.faultRegs_portDown (s : State) (k : PortId) (cause : Nat) :
    (s.portDown k cause).faultRegs = s.faultRegs := by
  simp [State.portDown, PORT.STATUS_DOWN_CAUSE, PORT.CTRL_NAP, Nat.le_add_right_of_le]

@[simp] theorem State.faultRegs_proofDue (s : State) (n : Lane) : (s.proofDue n).faultRegs = s.faultRegs := by rfl

@[simp] theorem State.faultRegs_portLight (s : State) (k : PortId) :
    (s.portLight k).faultRegs = s.faultRegs := by simp [State.portLight]

@[simp] theorem State.faultRegs_lightDemand (s : State) (k : PortId) :
    (s.lightDemand k).faultRegs = s.faultRegs := by simp [State.lightDemand]

@[simp] theorem State.faultRegs_portLeave (s : State) (k : PortId) :
    (s.portLeave k).faultRegs = s.faultRegs := by simp [State.portLeave]

@[simp] theorem State.faultRegs_laneHeld (s : State) (n : Lane) : (s.laneHeld n).faultRegs = s.faultRegs := by rfl

@[simp] theorem State.faultRegs_laneAcquire (s : State) (k : PortId) (n : Lane) :
    (s.laneAcquire k n).faultRegs = s.faultRegs := by
  simp [State.laneAcquire, LN.EQ_STATUS_LAT_CLASS, Nat.le_add_right_of_le]

@[simp] theorem State.faultRegs_portAcquire (s : State) (k : PortId) :
    (s.portAcquire k).faultRegs = s.faultRegs := by
  simp [State.portAcquire, PORT.STATUS_LOSHOLD_RUN, Nat.le_add_right_of_le]

@[simp] theorem State.faultRegs_slewPending (s : State) (k : PortId) :
    (s.slewPending k).faultRegs = s.faultRegs := by simp [State.slewPending, LN.TX_STATUS_SLEWING]

@[simp] theorem State.faultRegs_portTrain (s : State) (k : PortId) :
    (s.portTrain k).faultRegs = s.faultRegs := by simp [State.portTrain]

@[simp] theorem State.faultRegs_portLocked (s : State) (k : PortId) :
    (s.portLocked k).faultRegs = s.faultRegs := by simp [State.portLocked]

@[simp] theorem State.faultRegs_holdTrace (s : State) (k : PortId) (ev d : Nat) :
    (s.holdTrace k ev d).faultRegs = s.faultRegs := by simp [State.holdTrace]

@[simp] theorem State.faultRegs_losDrop (s : State) (k : PortId) :
    (s.losDrop k).faultRegs = s.faultRegs := by
  simp [State.losDrop, PORT.CNT_LOS_DROP_CNT, Nat.le_add_right_of_le]

@[simp] theorem State.faultRegs_holdoff (s : State) (k : PortId) :
    (s.holdoff k).faultRegs = s.faultRegs := by
  have hrun : 0x200 ≤ (PORT.STATUS_LOSHOLD_RUN k).addr := Nat.le_add_right_of_le (Nat.le_add_right_of_le (by decide))
  have hend := (faultRegs_holdTrace _ k 2 (s.pstate k)).trans (faultRegs_off s _ hrun)
  unfold State.holdoff
  refine faultRegs_of_ite rfl <| faultRegs_of_ite (faultRegs_of_ite rfl <| faultRegs_of_ite ?_ hend) <| faultRegs_of_ite ?_ rfl
  · exact (faultRegs_onLanes _ k _ fun n u => faultRegs_setLoc u n _).trans hend
  · exact faultRegs_of_ite ((faultRegs_losDrop _ k).trans (faultRegs_holdTrace ..))
      ((faultRegs_on _ _ hrun).trans (faultRegs_holdTrace ..))

@[simp] theorem State.faultRegs_portStart (s : State) (k : PortId) :
    (s.portStart k).faultRegs = s.faultRegs := by
  unfold State.portStart
  refine faultRegs_of_ite rfl <| faultRegs_of_ite ?_ <| faultRegs_of_ite rfl rfl
  exact faultRegs_onLanes s k _ fun n t => (faultRegs_calStart _ n false).trans (faultRegs_laneOn t n)

@[simp] theorem State.faultRegs_startLost (s : State) (k : PortId) :
    (s.startLost k).faultRegs = s.faultRegs := by simp [State.startLost]

@[simp] theorem State.faultRegs_portStep (s : State) (k : PortId) :
    (s.portStep k).faultRegs = s.faultRegs := by
  have hhold := State.faultRegs_holdoff s k
  unfold State.portStep
  match s.pstate k with
  | 0 =>
    exact State.faultRegs_of_ite (State.faultRegs_startLost s k) <| State.faultRegs_of_ite (State.faultRegs_portLeave s k) <|
      State.faultRegs_of_ite rfl (State.faultRegs_portStart s k)
  | 1 =>
    have hlight := State.faultRegs_lightDemand s k
    exact State.faultRegs_of_ite ((State.faultRegs_portAcquire _ k).trans hlight) hlight
  | 2 =>
    exact State.faultRegs_of_ite rfl <| State.faultRegs_of_ite (State.faultRegs_losDrop s k) <|
      State.faultRegs_of_ite (State.faultRegs_portTrain s k) rfl
  | 3 => exact State.faultRegs_of_ite ((State.faultRegs_portLocked _ k).trans hhold) hhold
  | 4 | 5 | 6 => exact hhold
  | _ + 7 => rfl

@[simp] theorem State.faultRegs_portEval (s : State) (k : PortId) :
    (s.portEval k).faultRegs = s.faultRegs := by
  have hstep (t : State) : (((t.portStep k).portStep k).portStep k).faultRegs = t.faultRegs :=
    (faultRegs_portStep _ k).trans <| (faultRegs_portStep _ k).trans (faultRegs_portStep t k)
  unfold State.portEval
  refine faultRegs_of_ite rfl ((hstep _).trans ?_)
  split
  · exact faultRegs_of_ite rfl (faultRegs_portDown ..)
  · rfl

@[simp] theorem State.faultRegs_evalLane (s : State) (n : Lane) :
    (s.evalLane n).faultRegs = s.faultRegs := by
  unfold State.evalLane
  split <;> simp

/-! #### Laser safety -/

@[simp] theorem State.faultRegs_safForce (s : State) (n : Lane) (f : State → State) (hf : ∀ t, (f t).faultRegs = t.faultRegs) :
    (s.safForce n f).faultRegs = s.faultRegs := by simp [State.safForce, hf]

@[simp] theorem State.faultRegs_safLog (s : State) (n : Lane) (cause chan : Nat) (already : Bool) :
    (s.safLog n cause chan already).faultRegs = s.faultRegs := by simp [State.safLog]

@[simp] theorem State.faultRegs_lastingEval (s : State) (n : Lane) :
    (s.lastingEval n).faultRegs = s.faultRegs := by
  unfold State.lastingEval
  exact faultRegs_of_ite ((faultRegs_alarm ..).trans (faultRegs_on _ _ (Nat.le_add_right_of_le (by decide)))) rfl

@[simp] theorem State.faultRegs_latchRecord (s : State) (n : Lane) (cause chan : Nat) :
    (s.latchRecord n cause chan).faultRegs = s.faultRegs := by
  simp [State.latchRecord, SAF.INFO_CAUSE, SAF.INFO_CHAN, SAF.TRIP_TIME_TRIP_TIME, SAF.CNT_TRIP_CNT, SAF.EVT_TRIP,
    Nat.le_add_right_of_le]

@[simp] theorem State.faultRegs_latch (s : State) (n : Lane) (cause chan : Nat) :
    (s.latch n cause chan).faultRegs = s.faultRegs := by
  unfold State.latch
  split <;> simp [SAF.STATUS_LATCH]

@[simp] theorem State.faultRegs_gateClose (s : State) (n : Lane) (cause : Nat) :
    (s.gateClose n cause).faultRegs = s.faultRegs := by simp [State.gateClose, SAF.CTRL_SUP_GATE]

@[simp] theorem State.faultRegs_gateAll (s : State) (cause : Nat) :
    (s.gateAll cause).faultRegs = s.faultRegs := by simp [State.gateAll]

@[simp] theorem State.faultRegs_safParity (s : State) (a : Nat) :
    (s.safParity a).faultRegs = s.faultRegs := by simp [State.safParity, SAF.EVT_PARITY]

end Sys2Proof.Machine

/-! SUPPORT. What a parity mismatch leaves in Bridle's record, and the reads that find one (R360, R362, R364, R370). -/

namespace Sys2Proof.Machine

open Sys2Proof

/-! ### The record of a mismatch (R362, R370) -/

@[simp] theorem State.get_countEvent (s : State) (ev inst k : Nat) (x : Option SprSample) {f : Field} (hf : f.key < 0x60000 * 32) :
    (s.countEvent ev inst k x).get f = s.get f := (countedOnly_countEvent s ev inst k x).regs f (Or.inl hf)

/-- A mismatch of the word at `r` stands in Bridle's record: one more in PARITY_CNT than in `s`, PARITY, and the word's address. -/
structure MismatchRecorded (s t : State) (r : Nat) : Prop where
  count : t.get GLB.BRD_CNT1_PARITY_CNT = s.once GLB.BRD_CNT1_PARITY_CNT
  flag : t.flag GLB.BRD_STATUS_PARITY = true
  addr : t.get GLB.PARITY_ADDR_ADDR = r

/-- An access of `2 ^ z` bytes at `a` has been answered with an error of KIND 9 and counted, one more than in `s` (R362). -/
structure ParityErrorAnswered (s t : State) (i : Initiator) (a z : Nat) : Prop where
  resp : t.brd.resp = .error 9
  count : t.get GLB.BRD_CNT0_ACCESS_FAULT = s.once GLB.BRD_CNT0_ACCESS_FAULT
  kind : t.get GLB.ACCESS_INFO_KIND = 9
  addr : t.get GLB.ACCESS_ADDR_ADDR = a
  size : t.get GLB.ACCESS_INFO_SIZE = z
  initiator : t.get GLB.ACCESS_INFO_INITIATOR = i.code
  flag : t.flag GLB.BRD_STATUS_ACCESS = true

/-- The record is read from the registers below 0x200 alone. -/
theorem MismatchRecorded.congr {s s' t t' : State} {r : Nat} (h : MismatchRecorded s t r) (hs : s'.faultRegs = s.faultRegs)
    (ht : t'.faultRegs = t.faultRegs) : MismatchRecorded s' t' r where
  count := by rw [State.get_eq_of_faultRegs ht (by decide), State.once_eq_of_faultRegs hs (by decide), h.count]
  flag := by rw [State.flag, State.get_eq_of_faultRegs ht (by decide)]; exact h.flag
  addr := by rw [State.get_eq_of_faultRegs ht (by decide), h.addr]

theorem ParityErrorAnswered.congr {s s' t t' : State} {i : Initiator} {a z : Nat} (h : ParityErrorAnswered s t i a z)
    (hs : s'.faultRegs = s.faultRegs) (ht : t'.faultRegs = t.faultRegs) (hresp : t'.brd.resp = t.brd.resp) :
    ParityErrorAnswered s' t' i a z where
  resp := hresp.trans h.resp
  count := by rw [State.get_eq_of_faultRegs ht (by decide), State.once_eq_of_faultRegs hs (by decide), h.count]
  kind := by rw [State.get_eq_of_faultRegs ht (by decide), h.kind]
  addr := by rw [State.get_eq_of_faultRegs ht (by decide), h.addr]
  size := by rw [State.get_eq_of_faultRegs ht (by decide), h.size]
  initiator := by rw [State.get_eq_of_faultRegs ht (by decide), h.initiator]
  flag := by rw [State.flag, State.get_eq_of_faultRegs ht (by decide)]; exact h.flag

@[simp] theorem State.faultRegs_parityFound (s : State) (r : Nat) : (s.parityFound r).faultRegs = (s.parityNote r r).faultRegs := by
  simp [State.parityFound]

theorem mismatchRecorded_parityFound (s : State) {r : Nat} (hr : r < 2 ^ 32) : MismatchRecorded s (s.parityFound r) r := by
  refine MismatchRecorded.congr (t := s.parityNote r r) ?_ rfl (State.faultRegs_parityFound s r)
  unfold State.parityNote
  refine ⟨?_, ?_, ?_⟩
  · exact (State.get_set_ne _ _ _ _ (by decide)).trans <| (State.get_set_ne _ _ _ _ (by decide)).trans (State.get_inc_same ..)
  · have hflag := (State.get_set_ne _ GLB.PARITY_ADDR_ADDR GLB.BRD_STATUS_PARITY r (by decide)).trans
      (State.get_set_same (s.inc GLB.BRD_CNT1_PARITY_CNT) GLB.BRD_STATUS_PARITY 1)
    exact congrArg (· != 0) hflag
  · exact (State.get_set_same ..).trans (Nat.mod_eq_of_lt hr)

theorem accessFault_parityFound (s : State) (r : Nat) :
    (s.parityFound r).get GLB.BRD_CNT0_ACCESS_FAULT = s.get GLB.BRD_CNT0_ACCESS_FAULT := by
  rw [State.get_eq_of_faultRegs (State.faultRegs_parityFound s r) (by decide)]
  unfold State.parityNote
  exact (State.get_set_ne _ _ _ _ (by decide)).trans <| (State.get_set_ne _ _ _ _ (by decide)).trans
    (State.get_inc_ne _ _ _ (by decide))

@[simp] theorem State.get_respond (s : State) (x : Resp) (f : Field) : (s.respond x).get f = s.get f := rfl

theorem MismatchRecorded.accessError {s t : State} {r : Nat} (h : MismatchRecorded s t r) (init a kind : Nat) (write : Bool)
    (n : Nat) : MismatchRecorded s (t.accessError init a kind write n) r := by
  obtain ⟨hcount, hflag, haddr⟩ := h
  unfold State.flag at hflag
  constructor <;> simp (disch := decide) only [State.accessError, State.accessFault, State.flag, State.on, State.setB,
    State.get_respond, State.get_countEvent, State.get_set_ne, State.get_inc_ne] <;> assumption

theorem initiatorCode_lt (i : Initiator) : i.code < 2 ^ 4 := by
  cases i <;> decide

theorem parityErrorAnswered_accessError (s : State) (i : Initiator) {a z : Nat} (ha : a < 2 ^ 32) (hz : z < 3) :
    ParityErrorAnswered s (s.accessError i.code a 9 false (2 ^ z)) i a z := by
  refine ⟨rfl, ?count, ?kind, ?addr, ?size, ?initiator, ?flag⟩
  all_goals simp (disch := decide) only [State.accessError, State.accessFault, State.once, State.flag, State.on, State.setB,
    State.get_respond, State.get_countEvent, State.get_set_same, State.get_set_ne, State.get_inc_same]
  case kind => rfl
  case addr => exact Nat.mod_eq_of_lt ha
  case size =>
    match z, hz with
    | 0, _ | 1, _ | 2, _ => rfl
  case initiator => exact Nat.mod_eq_of_lt (initiatorCode_lt i)
  case flag => rfl

/-- The read of `2 ^ z` bytes at `a` that finds the word at `r` wrong: the mismatch and the access both stand in the record. -/
structure MismatchAnswered (s t : State) (i : Initiator) (a z r : Nat) : Prop where
  recorded : MismatchRecorded s t r
  answered : ParityErrorAnswered s t i a z

theorem MismatchAnswered.congr {s s' t t' : State} {i : Initiator} {a z r : Nat} (h : MismatchAnswered s t i a z r)
    (hs : s'.faultRegs = s.faultRegs) (ht : t'.faultRegs = t.faultRegs) (hresp : t'.brd.resp = t.brd.resp) :
    MismatchAnswered s' t' i a z r :=
  ⟨h.recorded.congr hs ht, h.answered.congr hs ht hresp⟩

theorem mismatchAnswered_accessError (s : State) (i : Initiator) {a z r : Nat} (ha : a < 2 ^ 32) (hz : z < 3) (hr : r < 2 ^ 32) :
    MismatchAnswered s ((s.parityFound r).accessError i.code a 9 false (2 ^ z)) i a z r where
  recorded := (mismatchRecorded_parityFound s hr).accessError _ _ _ _ _
  answered :=
    have h := parityErrorAnswered_accessError (s.parityFound r) i ha hz
    { h with count := by rw [h.count, State.once, State.once, accessFault_parityFound] }

/-! ### Reads that find a mismatch -/

/-- The word whose parity a 32-bit read of `a` looks at: the register whose bit `a` names (R364), else the word itself. -/
def parityWord (a : Nat) : Nat := if inAlias a then (aliasTarget a).1 else a

theorem inRom_of_lt {a : Nat} (h : a < 0x400000) : inRom a = false := by
  simp only [inRom, Bool.and_eq_false_iff, decide_eq_false_iff_not]
  omega

theorem inAlias_of_lt {a : Nat} (h : a < 0x200000) : inAlias a = false := by
  simp only [inAlias, Bool.and_eq_false_iff, decide_eq_false_iff_not]
  omega

theorem parityWord_of_lt {a : Nat} (h : a < 0x200000) : parityWord a = a := by
  rw [parityWord, inAlias_of_lt h, if_neg Bool.false_ne_true]

theorem read32_of_mismatch {i : Initiator} {a : Nat} {s : State} (hmapped : unmapped i a = false) (hrom : inRom a = false)
    (habs : s.absent a = false) (hpar : hasParity (parityWord a) = true) (e : SprEcc) (at_ n : Nat) :
    s.read32 i a true e at_ n = ((s.countEvent 1 0 1).parityFound (parityWord a)).accessError i.code at_ 9 false n := by
  unfold parityWord at hpar ⊢
  simp [State.read32, hmapped, hrom, habs, hpar]

theorem mismatchAnswered_read32 {i : Initiator} {a : Nat} {s : State} (hmapped : unmapped i a = false) (hrom : inRom a = false)
    (habs : s.absent a = false) (hpar : hasParity (parityWord a) = true) (e : SprEcc) {at_ z : Nat} (hat : at_ < 2 ^ 32) (hz : z < 3)
    (hword : parityWord a < 2 ^ 32) : MismatchAnswered s (s.read32 i a true e at_ (2 ^ z)) i at_ z (parityWord a) := by
  rw [read32_of_mismatch hmapped hrom habs hpar]
  exact (mismatchAnswered_accessError _ i hat hz hword).congr (State.faultRegs_countEvent s 1 0 1 none).symm rfl rfl

/-- A sound word at a multiple of 8, of a register without read side effects, is answered with data, and the read leaves what a
read of the next word looks at: the record of faults, the words known to be wrong, and which registers are absent. -/
structure ReadSound (s t : State) : Prop where
  data : ∃ v, t.brd.resp = .data v
  faultRegs : t.faultRegs = s.faultRegs
  parityBad : t.brd.parityBad = s.brd.parityBad
  absent : ∀ a, t.absent a = s.absent a

theorem readSound_respond (s : State) (v : Nat) : ReadSound s (s.respond (.data v)) := ⟨⟨v, rfl⟩, rfl, rfl, fun _ => rfl⟩

theorem readSound_almRead (s : State) (i e w : Nat) : ReadSound s (s.almRead i e w) := by
  unfold State.almRead
  dsimp only
  split
  · exact ⟨⟨_, rfl⟩, rfl, rfl, fun _ => rfl⟩
  · split <;> exact readSound_respond s _

theorem readSound_readEffect (s : State) (i : Initiator) {a : Nat} (ha : a % 8 = 0) (hside : sideEffect a = false) (e : SprEcc) :
    ReadSound s (s.readEffect i a false e) := by
  simp only [sideEffect, Bool.or_eq_false_iff, beq_eq_false_iff_ne, ne_eq, Bool.and_eq_false_iff, decide_eq_false_iff_not] at hside
  obtain ⟨⟨⟨⟨-, hfifo⟩, hport0⟩, hport1⟩, hcap⟩ := hside
  have hmem : a ≠ SPR.MEM_DATA_DATA.addr := by rintro rfl; revert ha; decide
  have hodd {m c : Nat} (hm : 8 ∣ m) (hc : c % 8 ≠ 0) : a % m ≠ c := by
    rintro rfl
    exact hc ((Nat.mod_mod_of_dvd a hm).trans ha)
  unfold State.readEffect
  dsimp only
  rw [if_neg hfifo, if_neg hport0, if_neg hport1]
  by_cases halm : 0x51000 ≤ a ∧ a < 0x51800
  · rw [if_pos halm]
    exact readSound_almRead s _ _ _
  · rw [if_neg halm, if_neg hmem]
    split
    case isTrue hlane =>
      have hpop := hcap.resolve_left (not_or_intro (not_not_intro hlane.1) (not_not_intro hlane.2))
      rw [if_neg (hodd (by decide) (by decide)), if_neg (hodd (by decide) (by decide)), if_neg (hodd (by decide) (by decide)),
        if_neg hpop]
      exact readSound_respond s _
    case isFalse =>
      rw [if_neg fun h => hodd (by decide) (by decide) h.2.2]
      exact readSound_respond s _

theorem ReadSound.of_countedOnly {s t u : State} (h : ReadSound t u) (hcounted : CountedOnly s t) : ReadSound s u where
  data := h.data
  faultRegs := h.faultRegs.trans hcounted.faultRegs
  parityBad := h.parityBad.trans (congrArg BrdSt.parityBad hcounted.brd)
  absent a := (h.absent a).trans (hcounted.absent a)

theorem readSound_read32 {i : Initiator} {a : Nat} {s : State} (ha : a % 8 = 0) (hlow : a < 0x200000) (hmapped : unmapped i a = false)
    (hside : sideEffect a = false) (hbad : s.brd.parityBad = []) (e : SprEcc) : ReadSound s (s.read32 i a false e) := by
  have hrom := inRom_of_lt (a := a) (by omega)
  have halias := inAlias_of_lt hlow
  refine ReadSound.of_countedOnly ?_ (countedOnly_countEvent s 1 0 1 none)
  simp only [State.read32, hmapped, hrom, halias, State.countEvent_brd, hbad, List.contains_nil, Bool.or_false, Bool.and_false,
    Bool.false_eq_true, if_false]
  split
  · exact readSound_respond _ 0
  · exact readSound_readEffect _ i ha hside e

/-- A low address reaches the registers, not memory and not a stack member (Table 17-1). -/
theorem busRead_of_lt {i : Initiator} {a : Nat} {s : State} (hmay : s.mayAccess i = true) (hlow : a < 0x400000) (size : Nat)
    (wrong : BitVec 2) (e : SprEcc) : s.busRead i a size wrong e = ((s.regRead i a size wrong e).pcieNote i).poisonNote i := by
  have hbar : inMemberBar i a = false := by simp [inMemberBar]; omega
  have hmem : inMemory a = false := by simp [inMemory, inSramWin, inQdrWin]; omega
  simp [State.busRead, hmay, hbar, hmem]

@[simp] theorem State.pcieNote_brd (s : State) (i : Initiator) : (s.pcieNote i).brd = s.brd := by
  unfold State.pcieNote
  split
  · rfl
  · split <;> simp

@[simp] theorem State.faultRegs_pcieNote (s : State) (i : Initiator) : (s.pcieNote i).faultRegs = s.faultRegs := by
  unfold State.pcieNote
  split
  · rfl
  · split <;> simp [PCI.CNT_CA_CNT, PCI.CNT_EP_CNT]

theorem State.poisonNote_of_error {s : State} {k : Nat} (h : s.brd.resp = .error k) (i : Initiator) : s.poisonNote i = s := by
  cases i <;> simp only [State.poisonNote, h]

theorem MismatchAnswered.busRead {i : Initiator} {b size z a r : Nat} {wrong : BitVec 2} {e : SprEcc} {s : State}
    (hmay : s.mayAccess i = true) (hlow : b < 0x400000) (h : MismatchAnswered s (s.regRead i b size wrong e) i a z r) :
    MismatchAnswered s (s.busRead i b size wrong e) i a z r := by
  have hresp : ((s.regRead i b size wrong e).pcieNote i).brd.resp = .error 9 := by rw [State.pcieNote_brd, h.answered.resp]
  rw [busRead_of_lt hmay hlow, State.poisonNote_of_error hresp]
  exact h.congr rfl (State.faultRegs_pcieNote _ i) (by rw [State.pcieNote_brd])

/-! ### Register reads of every size (R360, R370) -/

theorem unmapped_word_of_lt {i : Initiator} {a : Nat} (h : a < 0x200000) (hmapped : unmapped i a = false) :
    unmapped i (a / 4 * 4) = false := by
  unfold unmapped at hmapped ⊢
  rw [if_pos h] at hmapped
  rw [if_pos (by omega)]
  simp only [Bool.and_eq_false_iff, decide_eq_false_iff_not] at hmapped ⊢
  omega

/-- A read of 1, 2 or 4 bytes looks at the parity of the word that holds them. -/
theorem mismatchAnswered_regRead {i : Initiator} {a z : Nat} {wrong : BitVec 2} {s : State}
    (hwrong : wrong.getLsbD 0 = true) (hz : z < 3) (halign : a % 2 ^ z = 0) (hlow : a < 0x400000)
    (hmapped : unmapped i a = false) (hmappedWord : unmapped i (a / 4 * 4) = false) (habs : s.absent (a / 4 * 4) = false)
    (hpar : hasParity (parityWord (a / 4 * 4)) = true) (hword : parityWord (a / 4 * 4) < 2 ^ 32)
    (hside : z < 2 → sideEffect (a / 4 * 4) = false) (e : SprEcc) :
    MismatchAnswered s (s.regRead i a z wrong e) i a z (parityWord (a / 4 * 4)) := by
  have hread := mismatchAnswered_read32 (at_ := a) hmappedWord (inRom_of_lt (by omega)) habs hpar e (by omega) hz hword
  unfold State.regRead
  dsimp only
  rw [if_neg (by omega), hmapped, if_neg Bool.false_ne_true, if_neg (fun h => h halign), hwrong]
  by_cases hpart : z < 2
  · rw [if_pos hpart, hside hpart, if_neg Bool.false_ne_true, hread.answered.resp]
    exact hread
  · obtain rfl : z = 2 := by omega
    have hself : a / 4 * 4 = a := by omega
    rw [if_neg hpart]
    rw [hself] at hread ⊢
    exact hread

/-- An 8-byte read whose upper word is wrong reads the lower word first and answers with the upper one's error. -/
theorem mismatchAnswered_regRead_upper {i : Initiator} {a : Nat} {wrong : BitVec 2} {s : State} (hlower : wrong.getLsbD 0 = false)
    (hupper : wrong.getLsbD 1 = true) (halign : a % 8 = 0) (hlow : a < 0x200000) (hmapped : unmapped i a = false)
    (hmappedUpper : unmapped i (a + 4) = false) (hside : sideEffect a = false) (habs : s.absent (a + 4) = false)
    (hpar : hasParity (a + 4) = true) (hbad : s.brd.parityBad = []) (e : SprEcc) :
    MismatchAnswered s (s.regRead i a 3 wrong e) i (a + 4) 2 (a + 4) := by
  have hfirst := readSound_read32 halign hlow hmapped hside hbad e
  have hself : parityWord (a + 4) = a + 4 := parityWord_of_lt (by omega)
  have hsecond := mismatchAnswered_read32 (at_ := a + 4) (z := 2) hmappedUpper (inRom_of_lt (by omega))
    ((hfirst.absent (a + 4)).trans habs) (hself.symm ▸ hpar) e (by omega) (by decide) (by omega)
  rw [hself] at hsecond
  obtain ⟨v, hv⟩ := hfirst.data
  unfold State.regRead
  dsimp only
  rw [if_pos ⟨rfl, halign⟩, hlower, hupper]
  refine hsecond.congr hfirst.faultRegs.symm rfl ?_
  rw [State.respond, hv]
  exact (congrArg (Resp.pair (.data v)) hsecond.answered.resp).trans hsecond.answered.resp.symm

/-! ### Reads of a single bit (R364) -/

theorem aliasTarget_lt {a : Nat} (h : a < 0x400000) : (aliasTarget a).1 < 2 ^ 32 := by
  have hoff : (a - 0x200000) / 128 < 0x8000 := Nat.div_lt_of_lt_mul (by omega)
  unfold aliasTarget
  dsimp only
  split <;> omega

theorem unmapped_of_aliasDefined (i : Initiator) {a : Nat} (halign : a % 4 = 0) (halias : inAlias a = true)
    (hdef : aliasDefined a = true) : unmapped i a = false := by
  simp only [inAlias, Bool.and_eq_true, decide_eq_true_eq] at halias
  have hself := Nat.div_mul_cancel (Nat.dvd_of_mod_eq_zero halign)
  rw [unmapped, if_neg (Nat.not_lt.2 halias.1), if_pos halias.2, hself, hdef]
  rfl

theorem absent_of_le (s : State) {a : Nat} (h : 0x200000 ≤ a) : s.absent a = false := by
  simp [State.absent]; omega

/-! ### The statement -/

/-- Settles O50: every clause comes to `parityFound`, in a read followed by `accessError`. What these set off beside the record - the
alarm, and the closing of gates and judging of ports by a mismatch in the safety registers - leaves the record as it is
(`State.faultRegs_parityFound`). -/
theorem parityMismatchIsReported : Obligations.ParityMismatchIsReported := by
  unfold Obligations.ParityMismatchIsReported
  refine ⟨?read, ?upper, ?aliasRead, ?sweep⟩
  case read =>
    intro i a z wrong e s hmay hwrong hz halign hlow hmapped habs hpar hside
    have hlowWord := Nat.lt_of_le_of_lt (Nat.div_mul_le_self a.toNat 4) hlow
    have hself := parityWord_of_lt hlowWord
    have hmappedWord := unmapped_word_of_lt hlow hmapped
    have hread := mismatchAnswered_regRead hwrong hz halign (Nat.lt_trans hlow (by decide)) hmapped hmappedWord habs
      (hself.symm ▸ hpar) (hself.symm ▸ Nat.lt_trans hlowWord (by decide)) hside e
    rw [hself] at hread
    obtain ⟨hrec, hans⟩ := hread.busRead hmay (Nat.lt_trans hlow (by decide))
    exact ⟨_, rfl, hans.resp, hans.count, hans.kind, hans.addr, hans.size, hans.initiator, hans.flag, hrec.count, hrec.flag,
      hrec.addr⟩
  case upper =>
    intro i a wrong e s hmay hlower hupper halign hlow hmapped hmappedUpper hside habs hpar hbad
    have hread := mismatchAnswered_regRead_upper hlower hupper halign hlow hmapped hmappedUpper hside habs hpar hbad e
    obtain ⟨hrec, hans⟩ := hread.busRead hmay (Nat.lt_trans hlow (by decide))
    exact ⟨_, rfl, hans.resp, hrec.count, hrec.flag, hrec.addr, hans.addr, hans.size⟩
  case aliasRead =>
    intro i a e s hmay halign halias hdef hpar
    have hmapped := unmapped_of_aliasDefined i halign halias hdef
    have hword : parityWord a.toNat = (aliasTarget a.toNat).1 := if_pos halias
    simp only [inAlias, Bool.and_eq_true, decide_eq_true_eq] at halias
    obtain ⟨hge, hlt⟩ := halias
    have hself := Nat.div_mul_cancel (Nat.dvd_of_mod_eq_zero halign)
    have hread := mismatchAnswered_regRead (i := i) (s := s) (wrong := 1) (z := 2) (by decide) (by decide) halign hlt hmapped
    rw [hself, hword] at hread
    have hread := hread hmapped (absent_of_le s hge) hpar (aliasTarget_lt hlt) (fun h => absurd h (by decide)) e
    obtain ⟨hrec, hans⟩ := hread.busRead hmay hlt
    exact ⟨_, rfl, hans.resp, hans.kind, hrec.count, hrec.flag, hrec.addr⟩
  case sweep =>
    intro a s hawake hlow hpar
    have hlowWord := Nat.lt_of_le_of_lt (Nat.div_mul_le_self a.toNat 4) hlow
    have hrec := mismatchRecorded_parityFound s (Nat.lt_trans hlowWord (by decide))
    have hvisit : s.parityVisit (a.toNat / 4 * 4) true = s.parityFound (a.toNat / 4 * 4) := by
      simp [State.parityVisit, hawake, hpar, hlowWord]
    exact ⟨_, congrArg Host.Outcome.next hvisit, hrec.count, hrec.flag, hrec.addr, accessFault_parityFound s _⟩

end Sys2Proof.Machine

/-! SUPPORT. What a record put into a ring of the Streamer leaves in memory and in the registers (R415), and the trace records, gap markers
(R417) and alarm records (R413) built from it. -/

namespace Sys2Proof.Machine

open Sys2Proof

/-! ### The bytes of a record -/

theorem readLE_congr {m m' : List Host.Cell} {a n : Nat} (h : ∀ c, a ≤ c → c < a + n → byteAt m c = byteAt m' c) :
    readLE m a n = readLE m' a n := by
  induction n generalizing a with
  | zero => rfl
  | succ n ih =>
    rw [readLE, readLE, h a (Nat.le_refl a) (by omega), ih fun c hlo hhi => h c (by omega) (by omega)]

theorem readLE_writeBytes_of_disjoint (m : List Host.Cell) {a c n : Nat} {bs : List Nat} (h : c + n ≤ a ∨ a + bs.length ≤ c) :
    readLE (writeBytes m a bs) c n = readLE m c n :=
  readLE_congr fun _ _ _ => byteAt_writeBytes_ne m a bs _ (by omega)

theorem readLE_writeBytes (m : List Host.Cell) (a : Nat) (bs : List Nat) : readLE (writeBytes m a bs) a bs.length = leVal bs := by
  induction bs generalizing m a with
  | nil => rfl
  | cons b bs ih =>
    have hfirst : byteAt (writeBytes (putByte m a (BitVec.ofNat 8 b)) (a + 1) bs) a = BitVec.ofNat 8 b := by
      rw [byteAt_writeBytes_ne _ _ _ _ (by omega), byteAt_put_same]
    rw [List.length_cons, readLE, writeBytes, ih, hfirst, BitVec.toNat_ofNat]
    rfl

theorem writeBytes_append (m : List Host.Cell) (a : Nat) (bs cs : List Nat) :
    writeBytes m a (bs ++ cs) = writeBytes (writeBytes m a bs) (a + bs.length) cs := by
  induction bs generalizing m a with
  | nil => rfl
  | cons b bs ih => simp only [List.cons_append, writeBytes, ih, List.length_cons, Nat.add_assoc, Nat.add_comm 1]

/-- The bytes of one 32-bit word as `State.ringPut` writes them. -/
def wordBytes (w : Nat) : List Nat := [w % 256, w / 256 % 256, w / 65536 % 256, w / 16777216 % 256]

theorem leVal_wordBytes (w : Nat) : leVal (wordBytes w) = w % 2 ^ 32 := by
  simp only [leVal, wordBytes, List.foldr_cons, List.foldr_nil]
  omega

theorem readLE_writeBytes_word (m : List Host.Cell) (a : Nat) {ws : List Nat} {i : Nat} (h : i < ws.length) :
    readLE (writeBytes m a (ws.flatMap wordBytes)) (a + 4 * i) 4 = ws[i] % 2 ^ 32 := by
  induction ws generalizing m a i with
  | nil => exact absurd h (Nat.not_lt_zero i)
  | cons w ws ih =>
    rw [List.flatMap_cons, writeBytes_append]
    cases i with
    | zero =>
      have hfirst := (readLE_writeBytes m a (wordBytes w)).trans (leVal_wordBytes w)
      exact (readLE_writeBytes_of_disjoint _ (.inl (Nat.le_refl _))).trans hfirst
    | succ i =>
      have hnext := ih (writeBytes m a (wordBytes w)) (a + 4) (Nat.lt_of_succ_lt_succ h)
      rwa [Nat.add_assoc, Nat.add_comm 4, ← Nat.mul_succ] at hnext

/-! ### Counting an event leaves what the Streamer goes by -/

theorem State.pmcSample_str (s : State) (i g pos : Nat) (x : Option SprSample) : (s.pmcSample i g pos x).str = s.str := by
  unfold State.pmcSample
  split
  · split <;> simp
  · simp

theorem State.pmcWrapOne_str (s : State) (i g pos : Nat) (x : Option SprSample) : (s.pmcWrapOne i g pos x).str = s.str := by
  unfold State.pmcWrapOne
  dsimp only
  split
  · rw [State.pmcSample_str, State.setBit_str]
  · exact State.setBit_str ..

theorem State.setPmc_str (s : State) (i v : Nat) : (s.setPmc i v).str = s.str := rfl

theorem State.pmcAdd_str (s : State) (i k pos : Nat) (x : Option SprSample) : (s.pmcAdd i k pos x).str = s.str := by
  unfold State.pmcAdd
  dsimp only
  split
  · rfl
  · split
    · split <;> simp only [State.setPmc_str, State.pmcWrapOne_str]
    · simp only [State.setPmc_str, State.pmcWrapOne_str]

/-- No register outside the PMU differs (Table 17-1), nor does the count of lost trace records. -/
structure StreamSame (s t : State) : Prop where
  regs : ∀ f : Field, f.key < 0x60000 * 32 ∨ 0x70000 * 32 ≤ f.key → t.get f = s.get f
  lost : t.str.traceLost = s.str.traceLost

theorem StreamSame.refl (s : State) : StreamSame s s := ⟨fun _ _ => rfl, rfl⟩

theorem StreamSame.trans {s t u : State} (h : StreamSame s t) (k : StreamSame t u) : StreamSame s u :=
  ⟨fun f hf => (k.regs f hf).trans (h.regs f hf), k.lost.trans h.lost⟩

theorem streamSame_setMem (s : State) (m : MemSt) : StreamSame s { s with mem := m } := ⟨fun _ _ => rfl, rfl⟩

theorem streamSame_pmcAdd (s : State) {i : Nat} (k pos : Nat) (x : Option SprSample) (hi : i < 8) : StreamSame s (s.pmcAdd i k pos x) :=
  ⟨(countedOnly_pmcAdd s k pos x hi).regs, congrArg StrSt.traceLost (State.pmcAdd_str s i k pos x)⟩

theorem streamSame_countEvent (s : State) (ev inst k : Nat) (x : Option SprSample) : StreamSame s (s.countEvent ev inst k x) := by
  refine State.each_induction (StreamSame.refl s) fun i hi t ht => ?_
  split
  · split
    · exact ht.trans ⟨fun _ _ => rfl, rfl⟩
    · exact (ht.trans (streamSame_pmcAdd t k _ x (List.mem_range.1 hi))).trans ⟨fun _ _ => rfl, rfl⟩
  · exact ht

theorem streamSame_memCount (s : State) (a ev k : Nat) : StreamSame s (s.memCount a ev k) := by
  unfold State.memCount
  split
  · exact streamSame_countEvent ..
  · exact StreamSame.refl s

theorem streamSame_flushEntry (s : State) (e : MergeEntry) : StreamSame s (s.flushEntry e) := by
  have hcounts (m : MemSt) : StreamSame s ((({ s with mem := m } : State).memCount e.addr 1 1).countEvent 0x142 0 1) :=
    ((streamSame_setMem s m).trans (streamSame_memCount _ e.addr 1 1)).trans (streamSame_countEvent _ 0x142 0 1 none)
  unfold State.flushEntry
  dsimp only
  split
  · exact hcounts _
  · exact (hcounts _).trans (streamSame_memCount ..)

theorem streamSame_settle (s : State) (a n : Nat) : StreamSame s (s.settle a n) :=
  State.each_induction (P := StreamSame s) (streamSame_setMem s _) fun e _ t ht => ht.trans (streamSame_flushEntry t e)

theorem streamSame_memPutBytes (s : State) (a : Nat) (bs : List Nat) : StreamSame s (s.memPutBytes a bs) :=
  ((streamSame_settle s a bs.length).trans (streamSame_setMem _ _)).trans (streamSame_memCount ..)

/-! ### A record put into a ring -/

/-- With an empty merge buffer there is nothing to settle before a write. -/
theorem State.settle_of_merge_nil {s : State} (h : s.mem.merge = []) (a n : Nat) : s.settle a n = s := by
  unfold State.settle
  simp only [h, List.filter_nil]
  change ({ s with mem := { s.mem with merge := [] } } : State) = s
  rw [← h]

theorem State.memPutBytes_cells {s : State} (h : s.mem.merge = []) (a : Nat) (bs : List Nat) :
    (s.memPutBytes a bs).mem.cells = writeBytes s.mem.cells a bs := by
  unfold State.memPutBytes
  rw [State.memCount_mem, State.settle_of_merge_nil h]

theorem State.memPutBytes_merge {s : State} (h : s.mem.merge = []) (a : Nat) (bs : List Nat) : (s.memPutBytes a bs).mem.merge = [] := by
  unfold State.memPutBytes
  rw [State.memCount_mem, State.settle_of_merge_nil h]
  exact h

/-- Where ring `g` takes its next record. -/
def State.ringHead (s : State) (g : Nat) : Nat := s.get (STR.RING_BASE_BASE g) + s.get (STR.RING_WR_WR g)

theorem State.ringPut_get (s : State) (g : Nat) (ws : List Nat) {f : Field} (hpmu : f.key < 0x60000 * 32 ∨ 0x70000 * 32 ≤ f.key)
    (hwr : f.key ≠ (STR.RING_WR_WR g).key) : (s.ringPut g ws).get f = s.get f :=
  (State.get_set_ne _ _ f _ hwr).trans ((streamSame_memPutBytes ..).regs f hpmu)

theorem State.ringPut_traceLost (s : State) (g : Nat) (ws : List Nat) : (s.ringPut g ws).str.traceLost = s.str.traceLost :=
  (streamSame_memPutBytes ..).lost

theorem State.ringPut_merge {s : State} (h : s.mem.merge = []) (g : Nat) (ws : List Nat) : (s.ringPut g ws).mem.merge = [] :=
  State.memPutBytes_merge h ..

theorem State.ringPut_cells {s : State} (h : s.mem.merge = []) (g : Nat) (ws : List Nat) :
    (s.ringPut g ws).mem.cells = writeBytes s.mem.cells (s.ringHead g) (ws.flatMap wordBytes) :=
  State.memPutBytes_cells h ..

/-- Below the ring's size and 2^32, WR advances by the record's length. -/
theorem State.ringPut_wr (s : State) (ws : List Nat) (h : s.get (STR.RING_WR_WR 1) + 4 * ws.length < 2 ^ 32) :
    (s.ringPut 1 ws).get (STR.RING_WR_WR 1) = (s.get (STR.RING_WR_WR 1) + 4 * ws.length) % s.ringSize 1 := by
  have hlt : (s.get (STR.RING_WR_WR 1) + 4 * ws.length) % s.ringSize 1 < 2 ^ 32 := Nat.lt_of_le_of_lt (Nat.mod_le _ _) h
  exact (State.get_set_same _ _ _).trans (Nat.mod_eq_of_lt hlt)

theorem State.readLE_ringPut_word {s : State} (h : s.mem.merge = []) (g : Nat) {ws : List Nat} {i : Nat} (hi : i < ws.length) :
    readLE (s.ringPut g ws).mem.cells (s.ringHead g + 4 * i) 4 = ws[i] % 2 ^ 32 := by
  rw [State.ringPut_cells h, readLE_writeBytes_word _ _ hi]

theorem State.readLE_ringPut_below {s : State} (h : s.mem.merge = []) (g : Nat) (ws : List Nat) {c n : Nat} (hc : c + n ≤ s.ringHead g) :
    readLE (s.ringPut g ws).mem.cells c n = readLE s.mem.cells c n := by
  rw [State.ringPut_cells h, readLE_writeBytes_of_disjoint _ (.inl hc)]

/-! ### Trace records (R417) -/

theorem State.ringFull_of_le {s : State} {g n m : Nat} (h : s.ringFull g m = false) (hle : n ≤ m) : s.ringFull g n = false := by
  simp only [State.ringFull, decide_eq_false_iff_not] at h ⊢
  omega

/-- The gap marker is put into the trace ring and the count of lost records starts again. -/
def State.gapMarked (s : State) : State :=
  let t := (s.ringPut 1 (s.traceWords 15 0 0xFFFF s.str.traceLost)).inc (STR.RING_CNT_GAP_CNT 1)
  { t with str := { t.str with traceLost := 0 } }

section
variable {s : State} {q : Nat} (inst ev d : Nat)

theorem State.traceRecord_of_untraced (h : s.bitOf STR.TRACE_SRC_SRC q = false) : s.traceRecord q inst ev d = s := by
  simp [State.traceRecord, h]

theorem State.traceRecord_of_full (h : s.bitOf STR.TRACE_SRC_SRC q = true) (hfull : s.ringFull 1 16 = true) :
    s.traceRecord q inst ev d = s.traceLose := by
  simp [State.traceRecord, h, hfull]

theorem State.traceRecord_of_none_lost (h : s.bitOf STR.TRACE_SRC_SRC q = true) (hroom : s.ringFull 1 16 = false)
    (hlost : s.str.traceLost = 0) : s.traceRecord q inst ev d = s.ringPut 1 (s.traceWords q inst ev d) := by
  simp [State.traceRecord, h, hroom, hlost]

theorem State.traceRecord_of_no_room_for_two (h : s.bitOf STR.TRACE_SRC_SRC q = true) (hfull : s.ringFull 1 32 = true)
    (hlost : s.str.traceLost ≠ 0) : s.traceRecord q inst ev d = s.traceLose := by
  simp [State.traceRecord, h, hfull, hlost]

theorem State.traceRecord_of_room_for_two (h : s.bitOf STR.TRACE_SRC_SRC q = true) (hroom : s.ringFull 1 32 = false)
    (hlost : s.str.traceLost ≠ 0) : s.traceRecord q inst ev d = s.gapMarked.ringPut 1 (s.gapMarked.traceWords q inst ev d) := by
  simp [State.traceRecord, State.gapMarked, h, hroom, hlost, State.ringFull_of_le hroom (by decide : 16 ≤ 32)]

end

theorem becomes_traceLose (s : State) :
    Becomes s [(STR.RING_CNT_RING_DROP 1, s.once (STR.RING_CNT_RING_DROP 1))]
      { s with str := { s.str with traceLost := s.str.traceLost + 1 } } s.traceLose where
  written := by
    have hlt : s.once (STR.RING_CNT_RING_DROP 1) < 2 ^ (STR.RING_CNT_RING_DROP 1).w :=
      Nat.lt_of_le_of_lt (Nat.min_le_right _ _) (by decide)
    rw [List.forall_mem_singleton, Nat.mod_eq_of_lt hlt]
    exact State.get_inc_same s (STR.RING_CNT_RING_DROP 1)
  others f hf := State.get_inc_ne s _ f fun hkey => hf (List.mem_singleton.2 hkey)
  rest := by
    simp only [State.traceLose, State.inc_str]
    exact congrArg (fun t : State => { t with str := { s.str with traceLost := s.str.traceLost + 1 } }) (State.inc_rest s _)

/-! #### The gap marker -/

theorem State.gapMarked_get (s : State) {f : Field} (hpmu : f.key < 0x60000 * 32 ∨ 0x70000 * 32 ≤ f.key)
    (hwr : f.key ≠ (STR.RING_WR_WR 1).key) (hgap : f.key ≠ (STR.RING_CNT_GAP_CNT 1).key) : s.gapMarked.get f = s.get f :=
  (State.get_inc_ne _ _ f hgap).trans (State.ringPut_get s 1 _ hpmu hwr)

theorem State.gapMarked_ringSize (s : State) : s.gapMarked.ringSize 1 = s.ringSize 1 := by
  rw [State.ringSize, State.gapMarked_get s (by decide) (by decide) (by decide), State.ringSize]

theorem State.gapMarked_mem (s : State) : s.gapMarked.mem = (s.ringPut 1 (s.traceWords 15 0 0xFFFF s.str.traceLost)).mem :=
  State.inc_mem ..

section
variable {s : State} (hfit : s.get (STR.RING_WR_WR 1) + 32 ≤ s.ringSize 1) (hwr : s.get (STR.RING_WR_WR 1) < 2 ^ 32 - 32)
include hfit hwr

theorem State.gapMarked_wr : s.gapMarked.get (STR.RING_WR_WR 1) = s.get (STR.RING_WR_WR 1) + 16 := by
  have hput := State.ringPut_wr s (s.traceWords 15 0 0xFFFF s.str.traceLost)
    (show s.get (STR.RING_WR_WR 1) + 16 < 2 ^ 32 by omega)
  have hmod : (s.get (STR.RING_WR_WR 1) + 16) % s.ringSize 1 = s.get (STR.RING_WR_WR 1) + 16 := Nat.mod_eq_of_lt (by omega)
  exact (State.get_inc_ne _ _ _ (by decide)).trans (hput.trans hmod)

theorem State.gapMarked_ringHead : s.gapMarked.ringHead 1 = s.ringHead 1 + 16 := by
  rw [State.ringHead, State.gapMarked_get s (by decide) (by decide) (by decide), State.gapMarked_wr hfit hwr, State.ringHead,
    Nat.add_assoc]

end

/-! #### The statement -/

/-- Settles O49: a lost record is `traceLose`, and where there is room for two, the words read are those of the two records that
`ringPut` writes one behind the other, the gap marker (`State.gapMarked`) first. -/
theorem traceRecordsAndGaps : Obligations.TraceRecordsAndGaps := by
  unfold Obligations.TraceRecordsAndGaps
  refine ⟨?untraced, ?full, ?room, ?roomForOne, ?roomForTwo⟩
  case untraced => exact fun q inst ev d s h => State.traceRecord_of_untraced inst ev d h
  case full =>
    intro q inst ev d s h hfull
    rw [State.traceRecord_of_full inst ev d h hfull]
    exact becomes_traceLose s
  case room => exact fun q inst ev d s h hroom hlost => State.traceRecord_of_none_lost inst ev d h hroom hlost
  case roomForOne =>
    intro q inst ev d s h hfull hlost
    rw [State.traceRecord_of_no_room_for_two inst ev d h hfull hlost]
    exact becomes_traceLose s
  case roomForTwo =>
    intro q inst ev d s h hroom hlost hmerge hfit hwr
    have hmerge' : s.gapMarked.mem.merge = [] := s.gapMarked_mem ▸ State.ringPut_merge hmerge 1 _
    have hwr' := State.gapMarked_wr hfit hwr
    have hhead := State.gapMarked_ringHead hfit hwr
    have hmarker {i : Nat} (hi : i < 4) := State.readLE_ringPut_word hmerge 1 (ws := s.traceWords 15 0 0xFFFF s.str.traceLost) hi
    have hbelow {i : Nat} (hi : i < 4) := State.readLE_ringPut_below hmerge' 1 (s.gapMarked.traceWords q inst ev d)
      (c := s.ringHead 1 + 4 * i) (n := 4) (by omega)
    have hrecord {i : Nat} (hi : i < 4) := State.readLE_ringPut_word hmerge' 1 (ws := s.gapMarked.traceWords q inst ev d) hi
    simp only [s.gapMarked_mem] at hbelow
    simp only [hhead] at hrecord
    dsimp only
    rw [State.traceRecord_of_room_for_two inst ev d h hroom hlost]
    refine ⟨State.ringPut_traceLost .., ?wr, ?_, ?_, ?_, ?_⟩
    case wr =>
      have hput := State.ringPut_wr s.gapMarked (s.gapMarked.traceWords q inst ev d)
        (show s.gapMarked.get (STR.RING_WR_WR 1) + 16 < 2 ^ 32 by omega)
      rw [s.gapMarked_ringSize, hwr'] at hput
      exact hput
    · exact (hbelow (i := 0) (by decide)).trans (hmarker (i := 0) (by decide))
    · exact ((hbelow (i := 3) (by decide)).trans (hmarker (i := 3) (by decide))).trans (Nat.mod_mod _ _)
    · exact hrecord (i := 0) (by decide)
    · exact (hrecord (i := 3) (by decide)).trans (Nat.mod_mod _ _)

/-! ### Alarm records (R413) -/

/-- Whatever becomes of a record offered to the log under the bucket of ALM, it leaves the alarm table (0x51000 to 0x517FF). -/
theorem State.get_logRecord_alm (s : State) (inst ev d0 d1 d2 d3 : Nat) {f : Field} (hlo : 0x51000 * 32 ≤ f.key)
    (hhi : f.key < 0x51800 * 32) : (s.logRecord 1 inst ev d0 d1 d2 d3).get f = s.get f := by
  have hset (t : State) {g : Field} (v : Nat) (hg : g.key < 0x51000 * 32) : (t.set g v).get f = t.get f :=
    State.get_set_ne t g f v (by omega)
  have hinc (t : State) {g : Field} (hg : g.key < 0x51000 * 32) : (t.inc g).get f = t.get f := State.get_inc_ne t g f (by omega)
  have hput (t : State) (src inst ev d0 d1 d2 d3 : Nat) : (t.logPut src inst ev d0 d1 d2 d3).get f = t.get f :=
    State.ringPut_get t 0 _ (.inl (by omega)) (Nat.ne_of_gt (Nat.lt_of_lt_of_le (by decide) hlo))
  have hdrop : (s.inc (STR.SRC1_DROP_CNT 1)).get f = s.get f := hinc s (by decide)
  have hmark : ((s.inc (STR.SRC1_DROP_CNT 1)).on (STR.SRC0_THROTTLED 1)).get f = s.get f := (hset _ 1 (by decide)).trans hdrop
  unfold State.logRecord
  rw [if_pos (by decide : 1 < 15), if_neg (by decide : ¬1 = 15)]
  dsimp only
  split
  · exact (hinc _ (by decide)).trans hdrop
  · split
    · exact hdrop
    · split
      · exact (hput ..).trans (hset s _ (by decide))
      · split
        · exact hdrop
        · split
          · exact (hinc _ (by decide)).trans hmark
          · exact (hput ..).trans hmark

theorem State.almForward_get (s : State) (m : AlmMsg) (f : Field) : (s.almForward m).get f = s.get f := by
  unfold State.almForward
  split <;> rfl

/-- What O51 means to say of the alarm table holds of every field that lies within its word, as those of the register map do. -/
theorem State.alarmFrom_get_of_lo_lt (s : State) (stack id inst code : Nat) (active : Bool) {f : Field} (hlo : 0x51000 ≤ f.addr)
    (hhi : f.addr < 0x51800) (hword : f.lo < 32) :
    (s.alarmFrom stack id inst code active).get f = (s.almEnter stack id inst code active).get f := by
  have hkey : f.key = f.addr * 32 + f.lo := rfl
  exact (State.almForward_get ..).trans (State.get_logRecord_alm _ _ _ _ _ _ _ (by omega) (by omega))

/-- A field that names an address of the alarm table and bits far beyond the word there, so that its key is that of PMC_COUNT of counter 0. -/
def strayField : Field := { PMU.PMC_COUNT_COUNT 0 0 with addr := 0x51000, lo := (PMU.PMC_COUNT_COUNT 0 0).key - 0x51000 * 32 }

/-- The state after reset with counter 0 of the PMU counting the writes of SRAM words (event 0x141, Table 20-1). -/
def writesCounted : State := (State.reset.set (PMU.PMC_EVENT 0) 0x141).on (PMU.PMC_EN 0)

/-- Refutes O51: its second clause speaks of every `Field` with an address in the alarm table, also of one whose bits lie beyond its
word, in the PMU (`strayField`). The record of an alarm is written to the log ring as four words of SRAM, and counter 0 counts them, where
`almEnter` leaves it at 0. Of fields within their word the clause holds (`State.alarmFrom_get_of_lo_lt`), and the first clause is the
definition of `alarmFrom`. -/
theorem not_alarmsAreOfferedToTheLog : ¬ Obligations.AlarmsAreOfferedToTheLog := by
  unfold Obligations.AlarmsAreOfferedToTheLog
  rintro ⟨-, htable⟩
  have hkept := htable 0 1 0 0 true strayField writesCounted (by decide) (by decide)
  have hcounted : (writesCounted.alarmFrom 0 1 0 0 true).get strayField = 4 := by decide +kernel
  have hentered : (writesCounted.almEnter 0 1 0 0 true).get strayField = 0 := by decide +kernel
  omega

end Sys2Proof.Machine
